-- ==== Sys2Proof/Word.lean ====
section
/-! DEFINITION. The word types of the spec's formats, the two flights and the sparse maps that hold arrays of
entries, memories and register spaces as plain data. -/

namespace Sys2Proof.Machine

/-- A 32-bit register, memory or point word. -/
abbrev W32 := BitVec 32

/-- A 64-bit word: a digest or a checksum. -/
abbrev W64 := BitVec 64

/-- A byte. -/
abbrev Byte := BitVec 8

/-- The two flights (00 R4). -/
inductive Flt where
  | a | b
  deriving DecidableEq, Repr

/-- The other flight. -/
def Flt.other : Flt → Flt
  | .a => .b
  | .b => .a

/-- Number of a flight: 0 flight A, 1 flight B, as NW_STAT.ACTIVE codes it (04 R123). -/
def Flt.num : Flt → Nat
  | .a => 0
  | .b => 1

/-- Region code of a flight (00 R3). -/
def Flt.region : Flt → Nat
  | .a => 3
  | .b => 4

/-- The flight of a number, bit 0 of it. -/
def Flt.ofNum (n : Nat) : Flt := if n % 2 = 0 then .a else .b

/-- A memory with integrity hardware: a flight's, or the Foyer's (03 R64, R65). -/
inductive Mem where
  | fl (f : Flt)
  | fy
  deriving DecidableEq, Repr

/-- A sparse array: entries by index, indices rising; an index with no entry holds the array's default. -/
abbrev Map (α : Type) := List (Nat × α)

end Sys2Proof.Machine
end

