-- ==== Sys2Proof/Machine/EventIds.lean ====
section
/-! DEFINITION. The events of the module (00 R12, 01 R26): one constructor per event of the spec, the low byte of its
code, the host event sources it sets (16 R441, 04 R125, 06 R182, 08 R228, 11 R308, 12 R333, 13 R359, 15 R419,
16 R457, 17 R483, 18 R512, 19 R528), its block code (19 R515) and its severity (19 R514). -/

namespace Sys2Proof.Machine

/-- Every event the spec names, without its prefix EV_. -/
inductive EvId where
  | modGradient
  | modState
  | modSpareExhausted
  | fyStart
  | fyPwrwarnFlush
  | fySelftestFail
  | nwSelftestFail
  | nwFrameDefer
  | nwSampleCoalesced
  | crUnknownType
  | crMalformed
  | crLaneSpared
  | crLost
  | crRestored
  | nwFlightFault
  | nwSwitchover
  | nwPlannedSwitch
  | nwDiverged
  | nwStairStart
  | nwStairDone
  | nwStairAbandoned
  | nwQuarantine
  | nwQuarRelease
  | nwCommonFault
  | nwBothLost
  | nwReset
  | nwFlightState
  | nwSwctlDone
  | nwMapOrder
  | flEccUncorr
  | fyEccUncorr
  | flEccPartial
  | fyEccPartial
  | flCeRate
  | fyCeRate
  | flRemap
  | fyRemap
  | flRemapFull
  | fyRemapFull
  | flBankSpared
  | fyBankSpared
  | flLatchMisuse
  | fyLatchMisuse
  | flLatchReleased
  | flForce
  | flForceDropped
  | flForcesCleared
  | flSuiteViol
  | flNotifyLag
  | fySuiteDenied
  | flScanLate
  | flScanOverrun
  | flTaskFault
  | flErrqOverflow
  | flErrcallUnserved
  | flProgSwitch
  | flTaskEnable
  | flTreadSpared
  | glStationLost
  | glStationReturned
  | glStationMismatch
  | glStationMissing
  | glLineOverrun
  | glDaliFault
  | glDaliReturned
  | glJmlLost
  | glJmlUp
  | glJmlPeerMismatch
  | flEnfTableFull
  | flEnfNoconv
  | flEnfLate
  | flEnfReachTrunc
  | flEnfLean
  | flEnfVerify
  | flEnfAgeing
  | flEnfState
  | flEnfCellSpared
  | flSchedLate
  | flSchedCatchup
  | flSchedFallback
  | flSchedTrust
  | flSchedDst
  | glDrvFailsafe
  | glDrvResumed
  | glBankSupply
  | glChDisable
  | glDrvRetime
  | glChOpen
  | glChShort
  | glChOffshort
  | glChCleared
  | glCellSpared
  | glCellTest
  | glMtrPhase
  | glProbeDefer
  | glCellFault
  | glAdcFault
  | lgTxDrop
  | lgPressure
  | lgChainState
  | lgChainFault
  | lgRxOverrun
  | lgTime
  | lgReqRefused
  | flMacJoin
  | flMacJoinRefused
  | flMacNodeLost
  | flMacNodeReturned
  | flMacPeerLost
  | flMacPeerReturned
  | flMacSleepyDrop
  | flMacLinkLost
  | flMacReroute
  | flMacReplay
  | flMacCtrLow
  | flMacChainTakeover
  | flMacFw
  | fyTimeTrust
  | fyTimeStep
  | fyPtpState
  | fyTimeNeedstep
  | fyRtcOsf
  | fyBklost
  | fyTalarm
  | fySessOpen
  | fySessClose
  | fySessAuthFail
  | fyAlcTimeout
  | fyEthLink
  | fyEthSwitch
  | fyKeyCommit
  | fyKeyInvalidate
  | fyKeyStaleErased
  | fyTrngFail
  | fyKeyStoreRecover
  | fyKeyFieldMissing
  | fyLifecycleDebug
  | fyAttest
  | fyUpdBegin
  | fyUpdRefused
  | fyUpdVerified
  | fyUpdStep
  | fyUpdLoadFail
  | fyUpdConfirm
  | fyUpdRevert
  | fyUpdSchema
  | fyUpdDist
  | fyArcOverflow
  | fyArcRing
  | fyArcCleared
  | fyArcClearedHash
  | fyArcUnclean
  | fyArcTorn
  | fyArcClearIncomplete
  | fyConfigRejected
  | fyFlashFault
  | fyFlashDegraded
  | fyJnlRestored
  | fyJnlLost
  deriving DecidableEq, Repr

/-- Low byte of the event code (01 R26). -/
def EvId.low : EvId → Nat
  | .modGradient => 0x01
  | .modState => 0x02
  | .modSpareExhausted => 0x03
  | .fyStart => 0x01
  | .fyPwrwarnFlush => 0x02
  | .fySelftestFail => 0x03
  | .nwSelftestFail => 0x03
  | .nwFrameDefer => 0x01
  | .nwSampleCoalesced => 0x02
  | .crUnknownType => 0x01
  | .crMalformed => 0x02
  | .crLaneSpared => 0x03
  | .crLost => 0x04
  | .crRestored => 0x05
  | .nwFlightFault => 0x10
  | .nwSwitchover => 0x11
  | .nwPlannedSwitch => 0x12
  | .nwDiverged => 0x13
  | .nwStairStart => 0x14
  | .nwStairDone => 0x15
  | .nwStairAbandoned => 0x16
  | .nwQuarantine => 0x17
  | .nwQuarRelease => 0x18
  | .nwCommonFault => 0x19
  | .nwBothLost => 0x1A
  | .nwReset => 0x1B
  | .nwFlightState => 0x20
  | .nwSwctlDone => 0x21
  | .nwMapOrder => 0x30
  | .flEccUncorr => 0x10
  | .fyEccUncorr => 0x10
  | .flEccPartial => 0x11
  | .fyEccPartial => 0x11
  | .flCeRate => 0x12
  | .fyCeRate => 0x12
  | .flRemap => 0x13
  | .fyRemap => 0x13
  | .flRemapFull => 0x14
  | .fyRemapFull => 0x14
  | .flBankSpared => 0x15
  | .fyBankSpared => 0x15
  | .flLatchMisuse => 0x16
  | .fyLatchMisuse => 0x16
  | .flLatchReleased => 0x17
  | .flForce => 0x30
  | .flForceDropped => 0x31
  | .flForcesCleared => 0x32
  | .flSuiteViol => 0x33
  | .flNotifyLag => 0x34
  | .fySuiteDenied => 0x30
  | .flScanLate => 0x40
  | .flScanOverrun => 0x41
  | .flTaskFault => 0x42
  | .flErrqOverflow => 0x43
  | .flErrcallUnserved => 0x44
  | .flProgSwitch => 0x45
  | .flTaskEnable => 0x46
  | .flTreadSpared => 0x47
  | .glStationLost => 0x60
  | .glStationReturned => 0x61
  | .glStationMismatch => 0x62
  | .glStationMissing => 0x63
  | .glLineOverrun => 0x64
  | .glDaliFault => 0x65
  | .glDaliReturned => 0x66
  | .glJmlLost => 0x67
  | .glJmlUp => 0x68
  | .glJmlPeerMismatch => 0x69
  | .flEnfTableFull => 0x50
  | .flEnfNoconv => 0x51
  | .flEnfLate => 0x52
  | .flEnfReachTrunc => 0x53
  | .flEnfLean => 0x54
  | .flEnfVerify => 0x55
  | .flEnfAgeing => 0x56
  | .flEnfState => 0x57
  | .flEnfCellSpared => 0x58
  | .flSchedLate => 0x60
  | .flSchedCatchup => 0x61
  | .flSchedFallback => 0x62
  | .flSchedTrust => 0x63
  | .flSchedDst => 0x64
  | .glDrvFailsafe => 0x10
  | .glDrvResumed => 0x11
  | .glBankSupply => 0x12
  | .glChDisable => 0x13
  | .glDrvRetime => 0x14
  | .glChOpen => 0x20
  | .glChShort => 0x21
  | .glChOffshort => 0x22
  | .glChCleared => 0x23
  | .glCellSpared => 0x24
  | .glCellTest => 0x25
  | .glMtrPhase => 0x26
  | .glProbeDefer => 0x27
  | .glCellFault => 0x28
  | .glAdcFault => 0x29
  | .lgTxDrop => 0x01
  | .lgPressure => 0x02
  | .lgChainState => 0x03
  | .lgChainFault => 0x04
  | .lgRxOverrun => 0x05
  | .lgTime => 0x06
  | .lgReqRefused => 0x07
  | .flMacJoin => 0x70
  | .flMacJoinRefused => 0x71
  | .flMacNodeLost => 0x72
  | .flMacNodeReturned => 0x73
  | .flMacPeerLost => 0x74
  | .flMacPeerReturned => 0x75
  | .flMacSleepyDrop => 0x76
  | .flMacLinkLost => 0x77
  | .flMacReroute => 0x78
  | .flMacReplay => 0x79
  | .flMacCtrLow => 0x7A
  | .flMacChainTakeover => 0x7B
  | .flMacFw => 0x7C
  | .fyTimeTrust => 0x50
  | .fyTimeStep => 0x51
  | .fyPtpState => 0x52
  | .fyTimeNeedstep => 0x53
  | .fyRtcOsf => 0x54
  | .fyBklost => 0x55
  | .fyTalarm => 0x56
  | .fySessOpen => 0x80
  | .fySessClose => 0x81
  | .fySessAuthFail => 0x82
  | .fyAlcTimeout => 0x83
  | .fyEthLink => 0x84
  | .fyEthSwitch => 0x85
  | .fyKeyCommit => 0x90
  | .fyKeyInvalidate => 0x91
  | .fyKeyStaleErased => 0x92
  | .fyTrngFail => 0x93
  | .fyKeyStoreRecover => 0x94
  | .fyKeyFieldMissing => 0x95
  | .fyLifecycleDebug => 0x96
  | .fyAttest => 0x97
  | .fyUpdBegin => 0xA0
  | .fyUpdRefused => 0xA1
  | .fyUpdVerified => 0xA2
  | .fyUpdStep => 0xA3
  | .fyUpdLoadFail => 0xA4
  | .fyUpdConfirm => 0xA5
  | .fyUpdRevert => 0xA6
  | .fyUpdSchema => 0xA7
  | .fyUpdDist => 0xA8
  | .fyArcOverflow => 0xB0
  | .fyArcRing => 0xB1
  | .fyArcCleared => 0xB2
  | .fyArcClearedHash => 0xB3
  | .fyArcUnclean => 0xB4
  | .fyArcTorn => 0xB5
  | .fyArcClearIncomplete => 0xB6
  | .fyConfigRejected => 0xC0
  | .fyFlashFault => 0xC1
  | .fyFlashDegraded => 0xC2
  | .fyJnlRestored => 0xC3
  | .fyJnlLost => 0xC4

/-- Region code of the raising region (01 R26, 00 R3); flight events are given flight A's code here. -/
def EvId.hi : EvId → Nat
  | .modGradient => 0
  | .modState => 0
  | .modSpareExhausted => 0
  | .fyStart => 1
  | .fyPwrwarnFlush => 1
  | .fySelftestFail => 1
  | .nwSelftestFail => 5
  | .nwFrameDefer => 5
  | .nwSampleCoalesced => 5
  | .crUnknownType => 2
  | .crMalformed => 2
  | .crLaneSpared => 2
  | .crLost => 2
  | .crRestored => 2
  | .nwFlightFault => 5
  | .nwSwitchover => 5
  | .nwPlannedSwitch => 5
  | .nwDiverged => 5
  | .nwStairStart => 5
  | .nwStairDone => 5
  | .nwStairAbandoned => 5
  | .nwQuarantine => 5
  | .nwQuarRelease => 5
  | .nwCommonFault => 5
  | .nwBothLost => 5
  | .nwReset => 5
  | .nwFlightState => 5
  | .nwSwctlDone => 5
  | .nwMapOrder => 5
  | .flEccUncorr => 3
  | .fyEccUncorr => 1
  | .flEccPartial => 3
  | .fyEccPartial => 1
  | .flCeRate => 3
  | .fyCeRate => 1
  | .flRemap => 3
  | .fyRemap => 1
  | .flRemapFull => 3
  | .fyRemapFull => 1
  | .flBankSpared => 3
  | .fyBankSpared => 1
  | .flLatchMisuse => 3
  | .fyLatchMisuse => 1
  | .flLatchReleased => 3
  | .flForce => 3
  | .flForceDropped => 3
  | .flForcesCleared => 3
  | .flSuiteViol => 3
  | .flNotifyLag => 3
  | .fySuiteDenied => 1
  | .flScanLate => 3
  | .flScanOverrun => 3
  | .flTaskFault => 3
  | .flErrqOverflow => 3
  | .flErrcallUnserved => 3
  | .flProgSwitch => 3
  | .flTaskEnable => 3
  | .flTreadSpared => 3
  | .glStationLost => 6
  | .glStationReturned => 6
  | .glStationMismatch => 6
  | .glStationMissing => 6
  | .glLineOverrun => 6
  | .glDaliFault => 6
  | .glDaliReturned => 6
  | .glJmlLost => 6
  | .glJmlUp => 6
  | .glJmlPeerMismatch => 6
  | .flEnfTableFull => 3
  | .flEnfNoconv => 3
  | .flEnfLate => 3
  | .flEnfReachTrunc => 3
  | .flEnfLean => 3
  | .flEnfVerify => 3
  | .flEnfAgeing => 3
  | .flEnfState => 3
  | .flEnfCellSpared => 3
  | .flSchedLate => 3
  | .flSchedCatchup => 3
  | .flSchedFallback => 3
  | .flSchedTrust => 3
  | .flSchedDst => 3
  | .glDrvFailsafe => 6
  | .glDrvResumed => 6
  | .glBankSupply => 6
  | .glChDisable => 6
  | .glDrvRetime => 6
  | .glChOpen => 6
  | .glChShort => 6
  | .glChOffshort => 6
  | .glChCleared => 6
  | .glCellSpared => 6
  | .glCellTest => 6
  | .glMtrPhase => 6
  | .glProbeDefer => 6
  | .glCellFault => 6
  | .glAdcFault => 6
  | .lgTxDrop => 7
  | .lgPressure => 7
  | .lgChainState => 7
  | .lgChainFault => 7
  | .lgRxOverrun => 7
  | .lgTime => 7
  | .lgReqRefused => 7
  | .flMacJoin => 3
  | .flMacJoinRefused => 3
  | .flMacNodeLost => 3
  | .flMacNodeReturned => 3
  | .flMacPeerLost => 3
  | .flMacPeerReturned => 3
  | .flMacSleepyDrop => 3
  | .flMacLinkLost => 3
  | .flMacReroute => 3
  | .flMacReplay => 3
  | .flMacCtrLow => 3
  | .flMacChainTakeover => 3
  | .flMacFw => 3
  | .fyTimeTrust => 1
  | .fyTimeStep => 1
  | .fyPtpState => 1
  | .fyTimeNeedstep => 1
  | .fyRtcOsf => 1
  | .fyBklost => 1
  | .fyTalarm => 1
  | .fySessOpen => 1
  | .fySessClose => 1
  | .fySessAuthFail => 1
  | .fyAlcTimeout => 1
  | .fyEthLink => 1
  | .fyEthSwitch => 1
  | .fyKeyCommit => 1
  | .fyKeyInvalidate => 1
  | .fyKeyStaleErased => 1
  | .fyTrngFail => 1
  | .fyKeyStoreRecover => 1
  | .fyKeyFieldMissing => 1
  | .fyLifecycleDebug => 1
  | .fyAttest => 1
  | .fyUpdBegin => 1
  | .fyUpdRefused => 1
  | .fyUpdVerified => 1
  | .fyUpdStep => 1
  | .fyUpdLoadFail => 1
  | .fyUpdConfirm => 1
  | .fyUpdRevert => 1
  | .fyUpdSchema => 1
  | .fyUpdDist => 1
  | .fyArcOverflow => 1
  | .fyArcRing => 1
  | .fyArcCleared => 1
  | .fyArcClearedHash => 1
  | .fyArcUnclean => 1
  | .fyArcTorn => 1
  | .fyArcClearIncomplete => 1
  | .fyConfigRejected => 1
  | .fyFlashFault => 1
  | .fyFlashDegraded => 1
  | .fyJnlRestored => 1
  | .fyJnlLost => 1

/-- Fixed host event sources of an event. The flight of EV_NW_FLIGHT_FAULT, the alarm of EV_FY_TALARM and the
alcove of EV_FY_ALC_TIMEOUT choose a source in `Ev.sources`. -/
def EvId.fixedSources : EvId → List Nat
  | .modGradient => [4]
  | .modState => [0]
  | .modSpareExhausted => [124]
  | .fyStart => [3]
  | .fyPwrwarnFlush => []
  | .fySelftestFail => [3]
  | .nwSelftestFail => [3]
  | .nwFrameDefer => []
  | .nwSampleCoalesced => []
  | .crUnknownType => []
  | .crMalformed => []
  | .crLaneSpared => [2]
  | .crLost => [2]
  | .crRestored => [2]
  | .nwFlightFault => []
  | .nwSwitchover => [64]
  | .nwPlannedSwitch => [64]
  | .nwDiverged => [67]
  | .nwStairStart => []
  | .nwStairDone => [68]
  | .nwStairAbandoned => [68]
  | .nwQuarantine => [69]
  | .nwQuarRelease => [69]
  | .nwCommonFault => [71]
  | .nwBothLost => [70]
  | .nwReset => [72]
  | .nwFlightState => []
  | .nwSwctlDone => [73]
  | .nwMapOrder => []
  | .flEccUncorr => []
  | .fyEccUncorr => [5]
  | .flEccPartial => []
  | .fyEccPartial => [5]
  | .flCeRate => []
  | .fyCeRate => [5]
  | .flRemap => [125]
  | .fyRemap => [125]
  | .flRemapFull => [125]
  | .fyRemapFull => [5, 125]
  | .flBankSpared => [125]
  | .fyBankSpared => [125]
  | .flLatchMisuse => []
  | .fyLatchMisuse => []
  | .flLatchReleased => []
  | .flForce => []
  | .flForceDropped => []
  | .flForcesCleared => []
  | .flSuiteViol => []
  | .flNotifyLag => []
  | .fySuiteDenied => [9]
  | .flScanLate => []
  | .flScanOverrun => [104]
  | .flTaskFault => [105]
  | .flErrqOverflow => [106]
  | .flErrcallUnserved => [106]
  | .flProgSwitch => [107]
  | .flTaskEnable => []
  | .flTreadSpared => [108]
  | .glStationLost => [92]
  | .glStationReturned => [92]
  | .glStationMismatch => [92]
  | .glStationMissing => [92]
  | .glLineOverrun => [93]
  | .glDaliFault => [94]
  | .glDaliReturned => [94]
  | .glJmlLost => [95]
  | .glJmlUp => [95]
  | .glJmlPeerMismatch => [95]
  | .flEnfTableFull => []
  | .flEnfNoconv => []
  | .flEnfLate => []
  | .flEnfReachTrunc => []
  | .flEnfLean => []
  | .flEnfVerify => []
  | .flEnfAgeing => []
  | .flEnfState => []
  | .flEnfCellSpared => [125]
  | .flSchedLate => []
  | .flSchedCatchup => []
  | .flSchedFallback => []
  | .flSchedTrust => []
  | .flSchedDst => []
  | .glDrvFailsafe => [80]
  | .glDrvResumed => [80]
  | .glBankSupply => [81]
  | .glChDisable => []
  | .glDrvRetime => []
  | .glChOpen => [82]
  | .glChShort => [83]
  | .glChOffshort => [84]
  | .glChCleared => [85]
  | .glCellSpared => [86]
  | .glCellTest => [87]
  | .glMtrPhase => [88]
  | .glProbeDefer => []
  | .glCellFault => [89]
  | .glAdcFault => [89]
  | .lgTxDrop => [96]
  | .lgPressure => [97]
  | .lgChainState => [98]
  | .lgChainFault => [99]
  | .lgRxOverrun => [100]
  | .lgTime => [101]
  | .lgReqRefused => [102]
  | .flMacJoin => []
  | .flMacJoinRefused => []
  | .flMacNodeLost => []
  | .flMacNodeReturned => []
  | .flMacPeerLost => []
  | .flMacPeerReturned => []
  | .flMacSleepyDrop => []
  | .flMacLinkLost => []
  | .flMacReroute => []
  | .flMacReplay => []
  | .flMacCtrLow => []
  | .flMacChainTakeover => []
  | .flMacFw => []
  | .fyTimeTrust => [56]
  | .fyTimeStep => [57]
  | .fyPtpState => [58]
  | .fyTimeNeedstep => [58]
  | .fyRtcOsf => [59]
  | .fyBklost => [59]
  | .fyTalarm => []
  | .fySessOpen => [8]
  | .fySessClose => [8]
  | .fySessAuthFail => [8]
  | .fyAlcTimeout => []
  | .fyEthLink => [7]
  | .fyEthSwitch => [7]
  | .fyKeyCommit => [112]
  | .fyKeyInvalidate => [112]
  | .fyKeyStaleErased => [112]
  | .fyTrngFail => [113]
  | .fyKeyStoreRecover => [114]
  | .fyKeyFieldMissing => [114]
  | .fyLifecycleDebug => [115]
  | .fyAttest => []
  | .fyUpdBegin => [116]
  | .fyUpdRefused => [116]
  | .fyUpdVerified => [116]
  | .fyUpdStep => [117]
  | .fyUpdLoadFail => [117]
  | .fyUpdConfirm => [118]
  | .fyUpdRevert => [118]
  | .fyUpdSchema => [118]
  | .fyUpdDist => [119]
  | .fyArcOverflow => [120]
  | .fyArcRing => [121]
  | .fyArcCleared => [122]
  | .fyArcClearedHash => []
  | .fyArcUnclean => [123]
  | .fyArcTorn => [123]
  | .fyArcClearIncomplete => [123]
  | .fyConfigRejected => []
  | .fyFlashFault => []
  | .fyFlashDegraded => []
  | .fyJnlRestored => []
  | .fyJnlLost => []

/-- Block code of an event (19 R515). -/
def EvId.block : EvId → Nat
  | .modGradient => 0x00
  | .modState => 0x02
  | .modSpareExhausted => 0x01
  | .fyStart => 0x02
  | .fyPwrwarnFlush => 0x02
  | .fySelftestFail => 0x02
  | .nwSelftestFail => 0x02
  | .nwFrameDefer => 0x00
  | .nwSampleCoalesced => 0x00
  | .crUnknownType => 0x12
  | .crMalformed => 0x12
  | .crLaneSpared => 0x12
  | .crLost => 0x12
  | .crRestored => 0x12
  | .nwFlightFault => 0x03
  | .nwSwitchover => 0x03
  | .nwPlannedSwitch => 0x03
  | .nwDiverged => 0x03
  | .nwStairStart => 0x03
  | .nwStairDone => 0x03
  | .nwStairAbandoned => 0x03
  | .nwQuarantine => 0x03
  | .nwQuarRelease => 0x03
  | .nwCommonFault => 0x03
  | .nwBothLost => 0x03
  | .nwReset => 0x03
  | .nwFlightState => 0x03
  | .nwSwctlDone => 0x03
  | .nwMapOrder => 0x0D
  | .flEccUncorr => 0x01
  | .fyEccUncorr => 0x01
  | .flEccPartial => 0x01
  | .fyEccPartial => 0x01
  | .flCeRate => 0x01
  | .fyCeRate => 0x01
  | .flRemap => 0x01
  | .fyRemap => 0x01
  | .flRemapFull => 0x01
  | .fyRemapFull => 0x01
  | .flBankSpared => 0x01
  | .fyBankSpared => 0x01
  | .flLatchMisuse => 0x01
  | .fyLatchMisuse => 0x01
  | .flLatchReleased => 0x01
  | .flForce => 0x04
  | .flForceDropped => 0x04
  | .flForcesCleared => 0x04
  | .flSuiteViol => 0x04
  | .flNotifyLag => 0x04
  | .fySuiteDenied => 0x04
  | .flScanLate => 0x05
  | .flScanOverrun => 0x05
  | .flTaskFault => 0x05
  | .flErrqOverflow => 0x05
  | .flErrcallUnserved => 0x05
  | .flProgSwitch => 0x05
  | .flTaskEnable => 0x05
  | .flTreadSpared => 0x05
  | .glStationLost => 0x06
  | .glStationReturned => 0x06
  | .glStationMismatch => 0x06
  | .glStationMissing => 0x06
  | .glLineOverrun => 0x06
  | .glDaliFault => 0x06
  | .glDaliReturned => 0x06
  | .glJmlLost => 0x06
  | .glJmlUp => 0x06
  | .glJmlPeerMismatch => 0x06
  | .flEnfTableFull => 0x07
  | .flEnfNoconv => 0x07
  | .flEnfLate => 0x07
  | .flEnfReachTrunc => 0x07
  | .flEnfLean => 0x07
  | .flEnfVerify => 0x07
  | .flEnfAgeing => 0x07
  | .flEnfState => 0x07
  | .flEnfCellSpared => 0x07
  | .flSchedLate => 0x08
  | .flSchedCatchup => 0x08
  | .flSchedFallback => 0x08
  | .flSchedTrust => 0x08
  | .flSchedDst => 0x08
  | .glDrvFailsafe => 0x09
  | .glDrvResumed => 0x09
  | .glBankSupply => 0x09
  | .glChDisable => 0x09
  | .glDrvRetime => 0x09
  | .glChOpen => 0x0A
  | .glChShort => 0x0A
  | .glChOffshort => 0x0A
  | .glChCleared => 0x0A
  | .glCellSpared => 0x0A
  | .glCellTest => 0x0A
  | .glMtrPhase => 0x0A
  | .glProbeDefer => 0x0A
  | .glCellFault => 0x0A
  | .glAdcFault => 0x0A
  | .lgTxDrop => 0x0B
  | .lgPressure => 0x0B
  | .lgChainState => 0x0B
  | .lgChainFault => 0x0B
  | .lgRxOverrun => 0x0B
  | .lgTime => 0x0B
  | .lgReqRefused => 0x0B
  | .flMacJoin => 0x0C
  | .flMacJoinRefused => 0x0C
  | .flMacNodeLost => 0x0C
  | .flMacNodeReturned => 0x0C
  | .flMacPeerLost => 0x0C
  | .flMacPeerReturned => 0x0C
  | .flMacSleepyDrop => 0x0C
  | .flMacLinkLost => 0x0C
  | .flMacReroute => 0x0C
  | .flMacReplay => 0x0C
  | .flMacCtrLow => 0x0C
  | .flMacChainTakeover => 0x0C
  | .flMacFw => 0x0C
  | .fyTimeTrust => 0x0D
  | .fyTimeStep => 0x0D
  | .fyPtpState => 0x0D
  | .fyTimeNeedstep => 0x0D
  | .fyRtcOsf => 0x0D
  | .fyBklost => 0x0D
  | .fyTalarm => 0x0D
  | .fySessOpen => 0x0E
  | .fySessClose => 0x0E
  | .fySessAuthFail => 0x0E
  | .fyAlcTimeout => 0x0E
  | .fyEthLink => 0x0E
  | .fyEthSwitch => 0x0E
  | .fyKeyCommit => 0x0F
  | .fyKeyInvalidate => 0x0F
  | .fyKeyStaleErased => 0x0F
  | .fyTrngFail => 0x0F
  | .fyKeyStoreRecover => 0x0F
  | .fyKeyFieldMissing => 0x0F
  | .fyLifecycleDebug => 0x0F
  | .fyAttest => 0x0F
  | .fyUpdBegin => 0x10
  | .fyUpdRefused => 0x10
  | .fyUpdVerified => 0x10
  | .fyUpdStep => 0x10
  | .fyUpdLoadFail => 0x10
  | .fyUpdConfirm => 0x10
  | .fyUpdRevert => 0x10
  | .fyUpdSchema => 0x10
  | .fyUpdDist => 0x10
  | .fyArcOverflow => 0x11
  | .fyArcRing => 0x11
  | .fyArcCleared => 0x11
  | .fyArcClearedHash => 0x11
  | .fyArcUnclean => 0x11
  | .fyArcTorn => 0x11
  | .fyArcClearIncomplete => 0x11
  | .fyConfigRejected => 0x13
  | .fyFlashFault => 0x13
  | .fyFlashDegraded => 0x13
  | .fyJnlRestored => 0x13
  | .fyJnlLost => 0x13

/-- Events of severity CRITICAL (19 R514). -/
def criticalEvents : List EvId := [.nwBothLost, .modSpareExhausted, .nwQuarantine, .fyKeyStoreRecover, .fyUpdLoadFail]

/-- Events of severity FAULT (19 R514). -/
def faultEvents : List EvId := [
  .nwFlightFault, .nwSwitchover, .nwDiverged, .nwReset, .fySelftestFail, .nwSelftestFail, .flEccUncorr, .fyEccUncorr, .crLost, .modGradient, .glChShort, .glCellFault, .glAdcFault, .glStationLost, .glDaliFault, .glJmlLost, .lgChainFault, .flMacPeerLost, .fyTrngFail, .fyUpdRevert, .fyArcOverflow, .fyArcUnclean]

/-- An event as raised: which event, the region code of the raiser (01 R26), its suite tag (05 R138) and its payload
fields in the order in which the spec's table lists them. [log 18 DESIGN CHOICE] -/
structure Ev where
  id : EvId
  region : Nat
  suite : Option Nat
  payload : List Int
  deriving DecidableEq, Repr

/-- The event code (01 R26): the region of the raiser in the high byte. -/
def Ev.code (e : Ev) : Nat := e.region * 256 + e.id.low

/-- Host event sources that an event sets: 04 R125 for a flight fault (sources 65 and 66), 15 R419 for an alarm
(60 + alarm), 16 R441 for an alcove timeout (source 6 for alcoves 0 to 15). -/
def Ev.sources (e : Ev) : List Nat :=
  match e.id with
  | .nwFlightFault => if e.payload.headD 0 = 0 then [65] else [66]
  | .fyTalarm => [60 + (e.payload.headD 0).toNat]
  | .fyAlcTimeout => if e.payload.headD 0 < 16 then [6] else []
  | i => i.fixedSources

/-- Severity of an event (19 R514). -/
def Ev.severity (e : Ev) : Nat :=
  if e.id ∈ criticalEvents then 3
  else if e.id ∈ faultEvents then 2
  else if e.sources ≠ [] then 1 else 0

/-- A module, Foyer, Corridor, Newel, Gallery or Loggia event, raised by the region of its code (01 R26). -/
def Ev.mk' (i : EvId) (p : List Int) : Ev := ⟨i, i.hi, none, p⟩

/-- An event tagged with a suite (05 R138). -/
def Ev.tag (e : Ev) (suite : Nat) : Ev := { e with suite := some suite }

end Sys2Proof.Machine
end

