-- ==== Sys2Proof/Machine/Records.lean ====
section
/-! DEFINITION. The plain-data records of the machine: entries of its tables and queues, and the records its frames,
messages and configuration image carry. Each docstring names the rule of the spec that gives the record its fields. -/

namespace Sys2Proof.Machine

/-- Pending operation of an open group (07 R189). -/
inductive GroupOp where
  | and
  | or
  | xor
  deriving DecidableEq, Repr

/-- State of a memory word's data against its check bits (03 R68 to R70). -/
inductive WordErr where
  | none
  | correctable
  | uncorrectable
  deriving DecidableEq, Repr

/-- The level in which a flight's scan stands (06 R153, R161). -/
inductive LevelId where
  | idle
  | startup
  | error
  | cyclic (n : Nat)
  deriving DecidableEq, Repr

/-- The TIME_MAP payload (15 R405). -/
structure TimeMap where
  /-- Newel cycle of the mark -/
  c : Nat
  /-- system time at boundary c -/
  ns : Nat
  /-- fraction -/
  frac : Nat
  /-- cycle length, ns -/
  len : Nat
  /-- cycle length, fraction -/
  lenFrac : Nat
  /-- flag TRUSTED -/
  trusted : Bool
  /-- flag HOLDOVER -/
  holdover : Bool
  /-- flag STEPPED -/
  stepped : Bool
  /-- flag LOCKED -/
  locked : Bool
  /-- source code -/
  source : Nat
  /-- step epoch -/
  epoch : Nat
  deriving DecidableEq, Repr

/-- The TimeMap with every field at its lowest value. -/
def TimeMap.zero : TimeMap :=
  { c := 0, ns := 0, frac := 0, len := 0, lenFrac := 0, trusted := false, holdover := false, stepped := false, locked := false, source := 0, epoch := 0 }

/-- One entry of a GALLERY_SAMPLE frame (12 R330). -/
structure SampleEntry where
  /-- GL_CHDSTAT.STATE -/
  state : Nat
  /-- PROBING, SPARE, DEFER -/
  flags : Nat
  /-- last on-sample -/
  on : Nat
  /-- last off-sample -/
  off : Nat
  /-- u64 land-high cycles -/
  cum : Nat
  deriving DecidableEq, Repr

/-- The SampleEntry with every field at its lowest value. -/
def SampleEntry.zero : SampleEntry :=
  { state := 0, flags := 0, on := 0, off := 0, cum := 0 }

/-- One station record of a STATION_DATA frame (08 R209). -/
structure StationRec where
  /-- station 0 to 31 -/
  station : Nat
  /-- 0 DATA, 1 LOST, 2 RETURNED, 3 JOINED, 4 MISMATCH, 5 DISABLED -/
  kind : Nat
  /-- station status byte, or cause for LOST -/
  arg : Nat
  /-- input bytes -/
  inputs : List Byte
  deriving DecidableEq, Repr

/-- The StationRec with every field at its lowest value. -/
def StationRec.zero : StationRec :=
  { station := 0, kind := 0, arg := 0, inputs := [] }

/-- One record of a DALI port's STATION_DATA frame (08 R219). -/
structure DaliRec where
  /-- 0 answer, 1 event, 2 bus state -/
  kind : Nat
  /-- address -/
  address : Nat
  /-- 0 answer, 1 no answer, 2 INVALID -/
  result : Nat
  /-- three data bytes -/
  data : List Nat
  deriving DecidableEq, Repr

/-- The DaliRec with every field at its lowest value. -/
def DaliRec.zero : DaliRec :=
  { kind := 0, address := 0, result := 0, data := [] }

/-- Header fields of a host-to-field Corridor message (01 R34). [log 14 DEDUCED] -/
structure MsgHdr where
  /-- sequence -/
  seq : Nat
  /-- suite of the originating session -/
  suite : Nat
  /-- role code of the originating session (05 R131) -/
  role : Nat
  /-- 0 host port or Foyer, 1 backhaul -/
  origin : Nat
  deriving DecidableEq, Repr

/-- The MsgHdr with every field at its lowest value. -/
def MsgHdr.zero : MsgHdr :=
  { seq := 0, suite := 0, role := 0, origin := 0 }

/-- What the flights take at a snapshot beside the loads of input frames: the Corridor messages that are carried to them in CORRIDOR
frames (01 R35; 05 R148; 14 R388; 16 R450; 18 R497), writes of their registers (06 R156), and the frames of nodes and peers and the
records of the Loggia as the MAC reads them (13 R353, 14 R365). -/
inductive FlightIn where
  /-- POINT_READ operation 0 -/
  | pointRead (h : MsgHdr) (points : List Nat)
  /-- POINT_READ operation 1 -/
  | subscribe (h : MsgHdr) (session : Nat) (entries : List (Nat × Nat × Nat))
  /-- POINT_READ operation 2 -/
  | unsubscribe (h : MsgHdr) (session : Nat) (points : List Nat)
  /-- POINT_READ operation 3 -/
  | clearSession (h : MsgHdr) (session : Nat)
  /-- POINT_READ operation 4 -/
  | clearAll (h : MsgHdr)
  /-- POINT_WRITE -/
  | pointWrite (h : MsgHdr) (entries : List (Nat × W32))
  /-- FORCE_SET -/
  | forceSet (h : MsgHdr) (entries : List (Nat × Nat × W32))
  /-- a point message whose count is out of range or disagrees with its length -/
  | badCount (h : MsgHdr) (typ : Nat)
  /-- MESH_DOWN operation 0 or 4, by the frame type it sends -/
  | meshUnicast (kind : Nat) (h : MsgHdr) (dst : Nat) (flags : Nat) (ms : Nat) (data : List Byte)
  /-- MESH_DOWN operation 1 -/
  | meshMulticast (h : MsgHdr) (flags : Nat) (ms : Nat) (data : List Byte)
  /-- MESH_DOWN operation 2 -/
  | meshFwBlock (h : MsgHdr) (block : Nat) (data : List Byte)
  /-- MESH_DOWN operation 3 -/
  | meshFwControl (h : MsgHdr) (interval : Nat)
  /-- UPDATE_STAGE of component 0x10 or 0x11 -/
  | updateStage (h : MsgHdr) (comp : Nat) (last : Bool) (data : List Byte)
  /-- ACTIVATE of component 0x10 or 0x11 -/
  | activate (h : MsgHdr) (comp : Nat) (ok : Bool)
  /-- REG_WRITE of region 3, 4, 6 or 7 -/
  | regWrite (h : MsgHdr) (region : Nat) (offset : Nat) (values : List W32)
  /-- REG_READ of region 3 or 4 -/
  | regRead (h : MsgHdr) (region : Nat) (count : Nat) (offset : Nat)
  /-- FL_TASKEN0 or FL_TASKEN1 -/
  | taskEnable (n : Nat) (v : W32)
  /-- FL_SCHEDEN -/
  | scheduleEnable (n : Nat) (v : W32)
  /-- FL_RETAIN.FULL -/
  | retainFull
  /-- FL_ENFCTL.EN written 1 -/
  | enfEnable
  /-- FL_ENFCTL.EN written 0, with FDIS or without -/
  | enfDisable (forced : Bool)
  /-- FL_ENFCTL.TURNRST -/
  | turnReset
  /-- a write of one flight register, by flight A's key, that has no row of its own -/
  | fieldWrite (key : Nat) (v : W32)
  /-- LG_CHCFG.EN of a chain, written at the Loggia -/
  | chainEn (n : Nat) (on : Bool)
  /-- a REPORT record -/
  | report (id : Nat) (outcome : Nat) (start : Nat) (air : Nat)
  /-- a STATUS record -/
  | chainStatus (n : Nat) (flags : Nat) (sum : Nat) (budget : Nat)
  /-- DATA of a node -/
  | nodeData (n : Nat) (a : Nat) (ctr : Nat) (mic : Bool) (ts : Nat) (data : List Byte)
  /-- ACK of a node -/
  | nodeAck (n : Nat) (a : Nat) (ctr : Nat) (mic : Bool) (ts : Nat) (acked : Nat) (us : Nat)
  /-- JOIN_REQ, or REJOIN_REQ -/
  | joinReq (again : Bool) (n : Nat) (eui : Nat) (ctr : Nat) (mic : Bool)
  /-- STATUS of a node -/
  | nodeStatus (n : Nat) (a : Nat) (ctr : Nat) (mic : Bool) (ts : Nat) (p : List Byte)
  /-- COORD of a peer -/
  | coordRx (ts : Nat) (serial : Nat) (groups : List Nat) (boundary : Nat) (mic : Bool)
  deriving DecidableEq, Repr

/-- What a flight takes from an input frame at a snapshot (01 R27). -/
inductive FrameBody where
  /-- nothing that the flights apply: a message that the Newel answers itself -/
  | none
  /-- CYCLE: Newel cycle, frames carried forward, HOLDOVER -/
  | cycle (number : Nat) (carried : Nat) (holdover : Bool)
  | timeMap (m : TimeMap)
  /-- CORRIDOR or LOGGIA_RX as the flights read it -/
  | input (m : FlightIn)
  /-- CORRIDOR as the bytes of a whole message -/
  | corridor (bs : List Byte)
  | sample (port : Nat) (block : Nat) (entries : List SampleEntry)
  | meter (port : Nat) (block : Nat) (values : List Int)
  /-- records of a line cycle: its number, and LAST -/
  | stations (line : Nat) (number : Nat) (last : Bool) (recs : List StationRec)
  | dali (bus : Nat) (recs : List DaliRec)
  | jml (port : Nat) (typ : Nat) (full : Bool) (entries : List (Nat × Nat × W32)) (args : List Nat)
  | receive (chain : Nat) (ts : Nat) (rate : Nat) (channel : Nat) (rssi : Int) (flags : Nat) (len : Nat) (psdu : List Byte)
  | report (chain : Nat) (id : Nat) (outcome : Nat) (reason : Nat) (start : Nat) (air : Nat)
  | lgStatus (chain : Nat) (secs : Nat) (flags : Nat) (band : Nat) (queued : Nat) (sum : Nat) (budget : Nat)
  deriving DecidableEq, Repr

/-- One entry of the event landing (19 R518). -/
structure LandEntry where
  /-- the event, or the counts of R513 -/
  ev : Ev
  /-- COUNTS flag: suppressed counts -/
  counts : Bool
  /-- HELD flag: kept in the Newel during a Corridor loss -/
  held : Bool
  deriving DecidableEq, Repr

/-- The LandEntry with every field at its lowest value. -/
def LandEntry.zero : LandEntry :=
  { ev := ⟨.modState, 0, none, []⟩, counts := false, held := false }

/-- One Arcade record (19 R513). -/
structure Record where
  /-- sequence -/
  seq : Nat
  /-- operating seconds at formation -/
  opsec : Nat
  /-- power-cycle count at formation -/
  cycles : Nat
  /-- record epoch at formation -/
  epoch : Nat
  /-- event -/
  ev : Ev
  /-- COUNTS flag -/
  counts : Bool
  /-- HELD flag -/
  held : Bool
  /-- the record's CRC fails (19 R522) -/
  torn : Bool
  deriving DecidableEq, Repr

/-- The Record with every field at its lowest value. -/
def Record.zero : Record :=
  { seq := 0, opsec := 0, cycles := 0, epoch := 0, ev := ⟨.modState, 0, none, []⟩, counts := false, held := false, torn := false }

/-- One point entry (05 R126). -/
structure Point where
  /-- bytes 0-3 -/
  value : W32
  /-- bytes 4-5 (05 R127) -/
  status : BitVec 16
  /-- byte 6 -/
  suite : Nat
  /-- byte 7 (05 R129) -/
  cls : Nat
  /-- bytes 8-15, system time in ns (05 R128) -/
  ctime : Nat
  deriving DecidableEq, Repr

/-- The Point with every field at its lowest value. -/
def Point.zero : Point :=
  { value := 0, status := 0, suite := 0, cls := 0, ctime := 0 }

/-- One POINTS record of the configuration image (20 R541). -/
structure PointCfg where
  /-- class -/
  cls : Nat
  /-- suite -/
  suite : Nat
  /-- status template: COMMON, RETAIN, EXTWR -/
  template : BitVec 16
  /-- stale limit in scans, 0 none -/
  stale : Nat
  /-- initial value -/
  initial : W32
  /-- substitute value -/
  subst : W32
  /-- substitute rule: 0 HOLD, 1 FIXED, 2 ZERO -/
  rule : Nat
  deriving DecidableEq, Repr

/-- The PointCfg with every field at its lowest value. -/
def PointCfg.zero : PointCfg :=
  { cls := 0, suite := 0, template := 0, stale := 0, initial := 0, subst := 0, rule := 0 }

/-- One used entry of the force table (05 R142). -/
structure Force where
  /-- point index -/
  point : Nat
  /-- forced value -/
  value : W32
  /-- underlying value -/
  under : W32
  /-- underlying status -/
  underStatus : BitVec 16
  /-- role of the setter -/
  role : Nat
  /-- suite of the setter -/
  suite : Nat
  deriving DecidableEq, Repr

/-- The Force with every field at its lowest value. -/
def Force.zero : Force :=
  { point := 0, value := 0, under := 0, underStatus := 0, role := 0, suite := 0 }

/-- One subscription entry (05 R145). -/
structure Sub where
  /-- point index -/
  point : Nat
  /-- session id -/
  session : Nat
  /-- subscriber's role -/
  role : Nat
  /-- subscriber's suite -/
  suite : Nat
  /-- deadband -/
  deadband : W32
  /-- minimum interval in scans -/
  minInterval : Nat
  /-- last value sent -/
  lastValue : W32
  /-- last status sent -/
  lastStatus : BitVec 16
  /-- scan of the last send -/
  lastScan : Nat
  /-- something has been sent for the entry (05 R146) -/
  sent : Bool
  /-- the entry was due and did not fit; it stays due (05 R146) -/
  carried : Bool
  deriving DecidableEq, Repr

/-- The Sub with every field at its lowest value. -/
def Sub.zero : Sub :=
  { point := 0, session := 0, role := 0, suite := 0, deadband := 0, minInterval := 0, lastValue := 0, lastStatus := 0, lastScan := 0, sent := false, carried := false }

/-- One edge record of the graph (09 R231). -/
structure Edge where
  /-- tail node -/
  tail : Nat
  /-- head node -/
  head : Nat
  /-- length in dm -/
  length : Nat
  /-- configured turn counter -/
  turn : Nat
  /-- uniformity allowance -/
  u : Nat
  /-- CONT -/
  cont : Bool
  /-- NOTRAVEL -/
  notravel : Bool
  /-- reverse edge, when REV -/
  rev : Option Nat
  deriving DecidableEq, Repr

/-- The Edge with every field at its lowest value. -/
def Edge.zero : Edge :=
  { tail := 0, head := 0, length := 0, turn := 0, u := 0, cont := false, notravel := false, rev := none }

/-- One node record of the graph (09 R230, 20 R542). -/
structure Node where
  /-- first out-edge -/
  first : Nat
  /-- out-edges -/
  count : Nat
  /-- USED -/
  used : Bool
  /-- level point, when LEVEL -/
  level : Option Nat
  /-- baseline point, when BASE -/
  base : Option Nat
  /-- gate point, when GATE -/
  gate : Option Nat
  /-- lowest level -/
  min : Nat
  /-- highest level -/
  max : Nat
  /-- 0 NONE, 1 DIRECT, 2 DALI, 3 MESH -/
  kind : Nat
  /-- rated power of LP_PARAMS -/
  pw : Nat
  /-- ENERGY point of LP_PARAMS -/
  ept : Option Nat
  /-- curve table and BYPASS bit of LP_PARAMS -/
  curve : Nat
  deriving DecidableEq, Repr

/-- The Node with every field at its lowest value. -/
def Node.zero : Node :=
  { first := 0, count := 0, used := false, level := none, base := none, gate := none, min := 0, max := 0, kind := 0, pw := 0, ept := none, curve := 0 }

/-- One injection-point record (09 R232). -/
structure Injection where
  /-- node -/
  node : Nat
  /-- trigger point -/
  trigger : Nat
  /-- aux point, when AUX -/
  aux : Option Nat
  /-- default speed class -/
  cls : Nat
  /-- default direction mask -/
  mask : Nat
  /-- NOMATCH -/
  noMatch : Bool
  /-- NORADIO -/
  noradio : Bool
  /-- direction edges 0 to 3 -/
  dirs : List (Option Nat)
  deriving DecidableEq, Repr

/-- The Injection with every field at its lowest value. -/
def Injection.zero : Injection :=
  { node := 0, trigger := 0, aux := none, cls := 0, mask := 0, noMatch := false, noradio := false, dirs := [] }

/-- One wavelet record (09 R240). -/
structure Wavelet where
  /-- current edge -/
  edge : Nat
  /-- edge travelled before, when P1 -/
  prev1 : Option Nat
  /-- edge before prev1, when P2 -/
  prev2 : Option Nat
  /-- family id -/
  family : Nat
  /-- distance from the tail in 1/256 dm -/
  pos : Nat
  /-- travel past a dead end in 1/256 dm -/
  travel : Nat
  /-- weight -/
  weight : Nat
  /-- injection point -/
  origin : Nat
  /-- speed class -/
  cls : Nat
  /-- STOPPED -/
  stopped : Bool
  /-- ticks since injection -/
  age : Nat
  /-- branch edges chosen, oldest first -/
  trail : List Nat
  deriving DecidableEq, Repr

/-- The Wavelet with every field at its lowest value. -/
def Wavelet.zero : Wavelet :=
  { edge := 0, prev1 := none, prev2 := none, family := 0, pos := 0, travel := 0, weight := 0, origin := 0, cls := 0, stopped := false, age := 0, trail := [] }

/-- One wavelet descriptor (09 R258). -/
structure Desc where
  /-- injection point -/
  inj : Nat
  /-- speed class -/
  cls : Nat
  /-- direction mask -/
  mask : Nat
  /-- LEAN -/
  lean : Bool
  /-- REPEAT -/
  rep : Bool
  /-- CANCEL -/
  cancel : Bool
  /-- tick time of the injecting tick -/
  time : Nat
  /-- tick time of the tick that formed it -/
  tick : Nat
  /-- family -/
  family : Nat
  /-- sequence per injection point -/
  seq : Nat
  deriving DecidableEq, Repr

/-- The Desc with every field at its lowest value. -/
def Desc.zero : Desc :=
  { inj := 0, cls := 0, mask := 0, lean := false, rep := false, cancel := false, time := 0, tick := 0, family := 0, seq := 0 }

/-- One open coalescing window (09 R259). -/
structure Window where
  /-- system time at which the window ends -/
  endsAt : Nat
  /-- events that fell in the window -/
  events : Nat
  /-- family of the latest of those events -/
  family : Nat
  /-- time of the latest of those events -/
  time : Nat
  deriving DecidableEq, Repr

/-- The Window with every field at its lowest value. -/
def Window.zero : Window :=
  { endsAt := 0, events := 0, family := 0, time := 0 }

/-- An alarm that fires (10 R276). -/
structure SchedAlarm where
  /-- nominal instant in UTC s -/
  instant : Int
  /-- local date -/
  date : Int
  /-- position -/
  pos : Nat
  /-- value -/
  value : W32
  /-- the instant came from the gap rule -/
  gap : Bool
  /-- 0 photocell, 1 no usable photocell, 2 fallback, 3 by its instant -/
  how : Nat
  deriving DecidableEq, Repr

/-- The SchedAlarm with every field at its lowest value. -/
def SchedAlarm.zero : SchedAlarm :=
  { instant := 0, date := 0, pos := 0, value := 0, gap := false, how := 0 }

/-- State of a schedule's photocell (10 R275, R281). -/
structure PhotoSt where
  /-- current reading: 0 neither, 1 dark, 2 light -/
  reading : Nat
  /-- schedule time at which it began -/
  since : Nat
  /-- last definite reading since the start, 0 none -/
  definite : Nat
  deriving DecidableEq, Repr

/-- The PhotoSt with every field at its lowest value. -/
def PhotoSt.zero : PhotoSt :=
  { reading := 0, since := 0, definite := 0 }

/-- What the passes over the wavelet table carry (09 R240, R243). -/
structure TickAcc where
  /-- wavelet table -/
  waves : Map Wavelet
  /-- wavelets not created for want of a slot -/
  full : Nat
  /-- crossing limits, walk limits and weights below WMIN -/
  trunc : Nat
  deriving DecidableEq, Repr

/-- The TickAcc with every field at its lowest value. -/
def TickAcc.zero : TickAcc :=
  { waves := [], full := 0, trunc := 0 }

/-- One reach entry (09 R254). -/
structure ReachEntry where
  /-- injection point -/
  inj : Nat
  /-- distance in dm -/
  dist : Nat
  /-- weight byte -/
  weight : Nat
  /-- directions -/
  dirs : Nat
  /-- ahead widening in m -/
  lead : Nat
  /-- behind widening in m -/
  lag : Nat
  deriving DecidableEq, Repr

/-- The ReachEntry with every field at its lowest value. -/
def ReachEntry.zero : ReachEntry :=
  { inj := 0, dist := 0, weight := 0, dirs := 0, lead := 0, lag := 0 }

/-- What the engine keeps for one mesh lantern (09 R257). -/
structure ReachState where
  /-- table last computed -/
  entries : List ReachEntry
  /-- table last pushed -/
  pushed : List ReachEntry
  /-- CRC of the last pushed table -/
  crc : Nat
  /-- structure CRC of the last pushed table -/
  structCrc : Nat
  /-- table CRC last reported by the lantern -/
  reported : Option Nat
  /-- table version -/
  version : Nat
  /-- tick of the last push -/
  pushTick : Nat
  /-- more candidates than 32 entries (09 R253) -/
  truncated : Bool
  deriving DecidableEq, Repr

/-- The ReachState with every field at its lowest value. -/
def ReachState.zero : ReachState :=
  { entries := [], pushed := [], crc := 0, structCrc := 0, reported := none, version := 0, pushTick := 0, truncated := false }

/-- One schedule record (10 R270). -/
structure SchedRec where
  /-- output point -/
  output : Nat
  /-- firing point, when FIRING -/
  firing : Option Nat
  /-- photocell point, when PHOTO -/
  photo : Option Nat
  /-- day programs of Monday to Sunday -/
  week : List Nat
  /-- dark threshold -/
  dark : Int
  /-- light threshold -/
  light : Int
  /-- s -/
  delay : Nat
  /-- s -/
  window : Nat
  /-- untrusted value -/
  untrusted : W32
  deriving DecidableEq, Repr

/-- The SchedRec with every field at its lowest value. -/
def SchedRec.zero : SchedRec :=
  { output := 0, firing := none, photo := none, week := [], dark := 0, light := 0, delay := 0, window := 0, untrusted := 0 }

/-- One switching entry (10 R270). -/
structure SwitchEntry where
  /-- 0 FIXED, 1 DAWN, 2 DUSK, 3 PHOTO_DAWN, 4 PHOTO_DUSK -/
  kind : Nat
  /-- astronomical table -/
  anchor : Nat
  /-- units of 2 s for FIXED, offset in s otherwise -/
  time : Int
  /-- value written -/
  value : W32
  deriving DecidableEq, Repr

/-- The SwitchEntry with every field at its lowest value. -/
def SwitchEntry.zero : SwitchEntry :=
  { kind := 0, anchor := 0, time := 0, value := 0 }

/-- One calendar exception (10 R271). -/
structure SchedException where
  /-- schedule -/
  schedule : Nat
  /-- day program -/
  program : Nat
  /-- priority -/
  priority : Nat
  /-- YEARLY -/
  yearly : Bool
  /-- first date, coded -/
  first : Nat
  /-- last date, coded -/
  last : Nat
  deriving DecidableEq, Repr

/-- The SchedException with every field at its lowest value. -/
def SchedException.zero : SchedException :=
  { schedule := 0, program := 0, priority := 0, yearly := false, first := 0, last := 0 }

/-- A daylight transition of the time-zone section (10 R267). -/
structure TransitionRule where
  /-- month -/
  month : Nat
  /-- week, 5 last -/
  week : Nat
  /-- weekday -/
  weekday : Nat
  /-- minute -/
  minute : Nat
  deriving DecidableEq, Repr

/-- The TransitionRule with every field at its lowest value. -/
def TransitionRule.zero : TransitionRule :=
  { month := 0, week := 0, weekday := 0, minute := 0 }

/-- The time-zone section (10 R267, 20 R542). -/
structure TimeZone where
  /-- TAI - UTC now in force -/
  taiutc : Int
  /-- LEAP entries -/
  leap : List (Nat × Int)
  /-- standard offset, min -/
  std : Int
  /-- 0 none, 1 rule, 2 list then rule -/
  mode : Nat
  /-- daylight addition, min -/
  delta : Int
  /-- start transition -/
  start : TransitionRule
  /-- end transition -/
  stop : TransitionRule
  /-- explicit offsets -/
  list : List (Nat × Int)
  deriving DecidableEq, Repr

/-- The TimeZone with every field at its lowest value. -/
def TimeZone.zero : TimeZone :=
  { taiutc := 0, leap := [], std := 0, mode := 0, delta := 0, start := TransitionRule.zero, stop := TransitionRule.zero, list := [] }

/-- One CHANNELS record (20 R543). -/
structure ChanBind where
  /-- level point -/
  level : Nat
  /-- fade time in ms, or fade point -/
  fade : Nat
  /-- FADEPT -/
  fadePt : Bool
  /-- ENERGY point -/
  ept : Option Nat
  /-- rated power -/
  pw : Nat
  deriving DecidableEq, Repr

/-- The ChanBind with every field at its lowest value. -/
def ChanBind.zero : ChanBind :=
  { level := 0, fade := 0, fadePt := false, ept := none, pw := 0 }

/-- One STATIONS record (20 R545). -/
structure StationCfg where
  /-- vendor -/
  vendor : Nat
  /-- product -/
  product : Nat
  /-- input bytes -/
  inputs : Nat
  /-- output bytes -/
  outputs : Nat
  /-- ms -/
  watchdog : Nat
  /-- hold mask -/
  hold : Nat
  /-- fail-safe values -/
  failSafe : List Byte
  deriving DecidableEq, Repr

/-- The StationCfg with every field at its lowest value. -/
def StationCfg.zero : StationCfg :=
  { vendor := 0, product := 0, inputs := 0, outputs := 0, watchdog := 0, hold := 0, failSafe := [] }

/-- One STATION_POINTS record (20 R545). -/
structure StationPoint where
  /-- station id -/
  station : Nat
  /-- direction -/
  output : Bool
  /-- byte offset -/
  byte : Nat
  /-- bit offset -/
  bit : Nat
  /-- 1, 8, 16 or 32 -/
  width : Nat
  /-- point -/
  point : Nat
  deriving DecidableEq, Repr

/-- The StationPoint with every field at its lowest value. -/
def StationPoint.zero : StationPoint :=
  { station := 0, output := false, byte := 0, bit := 0, width := 0, point := 0 }

/-- One DALI record (20 R545). -/
structure DaliBind where
  /-- bus -/
  bus : Nat
  /-- 0 gear binding, 1 answer map, 2 event map -/
  kind : Nat
  /-- address -/
  address : Nat
  /-- point -/
  point : Nat
  deriving DecidableEq, Repr

/-- The DaliBind with every field at its lowest value. -/
def DaliBind.zero : DaliBind :=
  { bus := 0, kind := 0, address := 0, point := 0 }

/-- One NODES record (20 R544). -/
structure NodeCfg where
  /-- EUI -/
  eui : Nat
  /-- short address -/
  addr : Nat
  /-- chain -/
  chain : Nat
  /-- member -/
  member : Nat
  /-- dedicated slot -/
  slot : Nat
  /-- kind -/
  sleepy : Bool
  /-- Tcheck in ns -/
  tcheck : Nat
  /-- report period in s -/
  report : Nat
  /-- relays, 0xFFFF direct -/
  relays : List Nat
  /-- border group -/
  group : Option Nat
  /-- home peer, none for this module -/
  home : Option Nat
  /-- alternate chain -/
  altChain : Nat
  /-- alternate channel -/
  altChannel : Nat
  /-- alternate segment -/
  altSeg : Nat
  deriving DecidableEq, Repr

/-- The NodeCfg with every field at its lowest value. -/
def NodeCfg.zero : NodeCfg :=
  { eui := 0, addr := 0, chain := 0, member := 0, slot := 0, sleepy := false, tcheck := 0, report := 0, relays := [], group := none, home := none, altChain := 0, altChannel := 0, altSeg := 0 }

/-- One task record of the KZL image (20 R546). -/
structure TaskRec where
  /-- entry block -/
  entry : Nat
  /-- suite mask (05 R137) -/
  mask : BitVec 256
  deriving DecidableEq, Repr

/-- The TaskRec with every field at its lowest value. -/
def TaskRec.zero : TaskRec :=
  { entry := 0, mask := 0 }

/-- One CLIENT record of KEY_POLICY (20 R547). -/
structure KeyClient where
  /-- role -/
  role : Nat
  /-- suite -/
  suite : Nat
  /-- RECOVERY -/
  recovery : Bool
  /-- P-256 public key -/
  pub : List Byte
  deriving DecidableEq, Repr

/-- The KeyClient with every field at its lowest value. -/
def KeyClient.zero : KeyClient :=
  { role := 0, suite := 0, recovery := false, pub := [] }

/-- The loaded configuration image and KZL program image (20 R538, R546). -/
structure Cfg where
  /-- configuration version -/
  version : Nat
  /-- SHA-256 of the configuration image -/
  digest : Nat
  /-- SHA-256 of the KZL image -/
  progDigest : Nat
  /-- KZL program version -/
  progVersion : Nat
  /-- start policy ALWAYS_COLD (02 R56) -/
  alwaysCold : Bool
  /-- serial of IDENTITY, 0 any (20 R539) -/
  serial : Nat
  /-- lifecycles accepted (20 R539) -/
  lifecycles : Nat
  /-- POINTS section -/
  points : Map PointCfg
  /-- suites with DEFINED -/
  suites : List Nat
  /-- task records -/
  tasks : Map TaskRec
  /-- block records: first word and word count -/
  blocks : List (Nat × Nat)
  /-- code words -/
  code : Map W32
  /-- first retentive marker -/
  retMarkFirst : Nat
  /-- retentive marker bytes -/
  retMarkBytes : Nat
  /-- first retentive timer -/
  retTimFirst : Nat
  /-- retentive timers -/
  retTims : Nat
  /-- first retentive counter -/
  retCntFirst : Nat
  /-- retentive counters -/
  retCnts : Nat
  /-- GRAPH_NODES and LP_PARAMS sections -/
  nodes : Map Node
  /-- GRAPH_EDGES section -/
  edges : Map Edge
  /-- INJECTION section -/
  injs : Map Injection
  /-- SCHEDULES section -/
  scheds : Map SchedRec
  /-- DAY_PROGRAMS section: first entry and count -/
  days : Map (Nat × Nat)
  /-- SWITCHING section -/
  switches : Map SwitchEntry
  /-- EXCEPTIONS section -/
  excs : List SchedException
  /-- ANCHORS section: dawn and dusk entries per table -/
  anchors : Map (List (Nat × Nat))
  /-- TIMEZONE section -/
  tz : TimeZone
  /-- CHANNELS section -/
  chans : Map ChanBind
  /-- MATRIX_CELLS section: level point per cell index -/
  cells : Map Nat
  /-- STATIONS section -/
  stations : Map StationCfg
  /-- STATION_POINTS section -/
  stationPts : List StationPoint
  /-- DALI section -/
  dali : List DaliBind
  /-- LINKS SHARE records: port, share index, local point -/
  links : List (Nat × Nat × Nat)
  /-- LINKS PAIR records: peer serial per port -/
  peers : Map Nat
  /-- NODES section -/
  nodeTab : List NodeCfg
  /-- LOCALPROF section by short address: levels and thresholds, dark and light -/
  localProf : Map (Nat × Nat × Nat × Nat)
  /-- NODE_POINTS section: short address, field, point -/
  nodePts : List (Nat × Nat × Nat)
  /-- CLIENT records of KEY_POLICY -/
  clients : Map KeyClient
  /-- FMP sign slot -/
  signSlot : Nat
  /-- group key 0, group key 1, link master, coordination key slots, 255 none -/
  fieldSlots : List Nat
  /-- operator update key (18 R488) -/
  updateKey : Option (List Byte)
  /-- operator audit key (19 R524) -/
  auditKey : Option (List Byte)
  /-- NETWORK record (16 R454, 20 R547) -/
  net : List Byte
  /-- the configuration image -/
  image : List Byte
  /-- the KZL program image -/
  program : List Byte
  /-- NETWORK REVERT (16 R455) -/
  revert : Bool
  /-- a gateway is configured -/
  gateway : Bool
  /-- values of the registers that the images load, by register key, flight A's standing for both flights (20 R540) -/
  regs : Map W32
  /-- registers that may change on line, each with the section that loads it; 256 for the KZL image (20 R538, R540) -/
  regsOn : List (Nat × Nat)
  /-- points of metering inputs: input, quantity 0 to 16, point (12 R331) -/
  meterPts : List (Nat × Nat × Nat)
  /-- points of channel states: channel, point (12 R331) -/
  statePts : List (Nat × Nat)
  deriving DecidableEq, Repr

/-- The Cfg with every field at its lowest value. -/
def Cfg.zero : Cfg :=
  { version := 0, digest := 0, progDigest := 0, progVersion := 0, alwaysCold := false, serial := 0, lifecycles := 0, points := [], suites := [], tasks := [], blocks := [], code := [], retMarkFirst := 0, retMarkBytes := 0, retTimFirst := 0, retTims := 0, retCntFirst := 0, retCnts := 0, nodes := [], edges := [], injs := [], scheds := [], days := [], switches := [], excs := [], anchors := [], tz := TimeZone.zero, chans := [], cells := [], stations := [], stationPts := [], dali := [], links := [], peers := [], nodeTab := [], localProf := [], nodePts := [], clients := [], signSlot := 0, fieldSlots := [], updateKey := none, auditKey := none, net := [], image := [], program := [], revert := false, gateway := false, regs := [], regsOn := [], meterPts := [], statePts := [] }

/-- One entry of a Tread's nesting stack (07 R183, R189). -/
structure NestEntry where
  /-- RLO at the open -/
  rlo : Bool
  /-- pending operation -/
  op : GroupOp
  /-- negation -/
  neg : Bool
  deriving DecidableEq, Repr

/-- The NestEntry with every field at its lowest value. -/
def NestEntry.zero : NestEntry :=
  { rlo := false, op := .and, neg := false }

/-- One entry of a Tread's call stack (07 R183, R201). -/
structure CallEntry where
  /-- return address -/
  ret : BitVec 18
  /-- block of the caller (07 R202) -/
  block : Nat
  /-- nesting depth at the call -/
  depth : Nat
  deriving DecidableEq, Repr

/-- The CallEntry with every field at its lowest value. -/
def CallEntry.zero : CallEntry :=
  { ret := 0, block := 0, depth := 0 }

/-- The state of one Tread (07 R183) and the run it executes (06 R151). -/
structure Tread where
  /-- a task run is in progress -/
  running : Bool
  /-- the Tread has halted (03 R70) -/
  halted : Bool
  /-- task number of the run -/
  task : Nat
  /-- RLO -/
  rlo : Bool
  /-- ACC -/
  acc : W32
  /-- ACC2 -/
  acc2 : W32
  /-- SAT -/
  sat : Bool
  /-- SATS -/
  sats : Bool
  /-- nesting stack, top first, at most 16 entries -/
  nest : List NestEntry
  /-- call stack, top first, at most 8 entries -/
  calls : List CallEntry
  /-- word address of the next instruction -/
  pc : BitVec 18
  /-- block in execution (07 R201, R202) -/
  block : Nat
  /-- instructions executed in the run -/
  instrs : Nat
  /-- number of the run within the level -/
  run : Nat
  deriving DecidableEq, Repr

/-- The Tread with every field at its lowest value. -/
def Tread.zero : Tread :=
  { running := false, halted := false, task := 0, rlo := false, acc := 0, acc2 := 0, sat := false, sats := false, nest := [], calls := [], pc := 0, block := 0, instrs := 0, run := 0 }

/-- One entry of a Tread's write buffer (06 R152, R162, R163). -/
structure WrEntry where
  /-- Tread -/
  tread : Nat
  /-- task -/
  task : Nat
  /-- run of the task within the level -/
  run : Nat
  /-- word address (a logic word, 06 R162) -/
  addr : Nat
  /-- mask -/
  mask : W32
  /-- data -/
  data : W32
  deriving DecidableEq, Repr

/-- The WrEntry with every field at its lowest value. -/
def WrEntry.zero : WrEntry :=
  { tread := 0, task := 0, run := 0, addr := 0, mask := 0, data := 0 }

/-- One queued error call (06 R168, R171). -/
structure ErrCall where
  /-- call code -/
  code : Nat
  /-- detail A -/
  a : Nat
  /-- detail B -/
  b : Nat
  /-- scan that raised the call -/
  scan : Nat
  /-- task that raised it, 64 for a call of phase 1 or 6 -/
  task : Nat
  deriving DecidableEq, Repr

/-- The ErrCall with every field at its lowest value. -/
def ErrCall.zero : ErrCall :=
  { code := 0, a := 0, b := 0, scan := 0, task := 0 }

/-- One entry of the channel image (11 R292). -/
structure ChanEntry where
  /-- level -/
  level : Nat
  /-- fade time in ms -/
  fade : Nat
  /-- table and BYPASS bit -/
  curve : Nat
  deriving DecidableEq, Repr

/-- The ChanEntry with every field at its lowest value. -/
def ChanEntry.zero : ChanEntry :=
  { level := 0, fade := 0, curve := 0 }

/-- A Loggia transmit request (13 R343). -/
structure TxReq where
  /-- id -/
  id : Nat
  /-- chain -/
  chain : Nat
  /-- class -/
  cls : Nat
  /-- STRICT -/
  strict : Bool
  /-- TS -/
  ts : Bool
  /-- FCS32 -/
  fcs32 : Bool
  /-- channel index -/
  channel : Nat
  /-- rate code -/
  rate : Nat
  /-- start, 0 as soon as admitted -/
  start : Nat
  /-- deadline -/
  deadline : Nat
  /-- octets -/
  preamble : Nat
  /-- PSDU octets with FCS -/
  len : Nat
  /-- timestamp offset -/
  tsoff : Nat
  /-- WHITEN -/
  whiten : Bool
  /-- MAC frame: header, then the payload before security (14 R364, R366) -/
  psdu : List Byte
  deriving DecidableEq, Repr

/-- The TxReq with every field at its lowest value. -/
def TxReq.zero : TxReq :=
  { id := 0, chain := 0, cls := 0, strict := false, ts := false, fcs32 := false, channel := 0, rate := 0, start := 0, deadline := 0, preamble := 0, len := 0, tsoff := 0, whiten := false, psdu := [] }

/-- A field-to-host Corridor message of a commit set or of the Newel (01 R35). -/
structure UpMsg where
  /-- type code -/
  typ : Nat
  /-- sequence answered, for a REPLY -/
  answers : Nat
  /-- status byte -/
  status : Nat
  /-- suite of the originating session, for a REPLY -/
  suite : Nat
  /-- role of the originating session, for a REPLY; FIELD otherwise -/
  role : Nat
  /-- payload bytes -/
  body : List Byte
  /-- the event of an EVENT_RECORD -/
  ev : Option Ev
  deriving DecidableEq, Repr

/-- The UpMsg with every field at its lowest value. -/
def UpMsg.zero : UpMsg :=
  { typ := 0, answers := 0, status := 0, suite := 0, role := 0, body := [], ev := none }

/-- A signalled commit set (04 R92, R575). -/
structure CommitSet where
  /-- scan number -/
  scan : Nat
  /-- DETFAULT code -/
  det : Option Nat
  /-- scan digest -/
  digest : W64
  /-- bytes of the set -/
  length : Nat
  /-- channel image -/
  image : Map ChanEntry
  /-- matrix cell levels by cell index -/
  mximage : Map Nat
  /-- fade and curve of each matrix -/
  mxcurve : Map ChanEntry
  /-- output image per station id -/
  stationOut : Map (List Byte)
  /-- output level per bus x 64 + gear -/
  daliOut : Map Nat
  /-- Loggia requests -/
  reqs : List TxReq
  /-- Corridor messages -/
  msgs : List UpMsg
  /-- Gallery and Loggia register writes by key -/
  regw : List (Nat × W32)
  /-- Jalmethen frames: port, type, payload -/
  links : List (Nat × Nat × List Byte)
  /-- Gallery and Loggia register values of a switching scan (11 R306) -/
  online : List (Nat × W32)
  /-- Newel cycle at which the set was signalled -/
  signalAt : Nat
  /-- count of parts -/
  parts : Nat
  /-- CRC-32C that ends the set -/
  crc : Nat
  deriving DecidableEq, Repr

/-- The CommitSet with every field at its lowest value. -/
def CommitSet.zero : CommitSet :=
  { scan := 0, det := none, digest := 0, length := 0, image := [], mximage := [], mxcurve := [], stationOut := [], daliOut := [], reqs := [], msgs := [], regw := [], links := [], online := [], signalAt := 0, parts := 0, crc := 0 }

/-- What the MAC keeps for one node (14 R375, R376). -/
structure NodeState where
  /-- joined -/
  joined : Bool
  /-- LOST -/
  lost : Bool
  /-- system time of the last accepted frame -/
  heard : Nat
  /-- index of the relay entry in use (14 R383) -/
  route : Nat
  /-- chain that serves the node -/
  chain : Nat
  /-- dedicated slot -/
  slot : Nat
  /-- member -/
  member : Nat
  /-- time of the last EV_FL_MAC_REPLAY -/
  replayAt : Option Nat
  /-- firmware blocks missing -/
  missing : Nat
  deriving DecidableEq, Repr

/-- The NodeState with every field at its lowest value. -/
def NodeState.zero : NodeState :=
  { joined := false, lost := false, heard := 0, route := 0, chain := 0, slot := 0, member := 0, replayAt := none, missing := 0 }

/-- Wake tracking of one sleepy partner (14 R380). -/
structure SleepyState where
  /-- last observed wake, ns -/
  wl : Int
  /-- rate, ppb -/
  rho : Int
  /-- uncertainty, ppb -/
  delta : Nat
  /-- KNOWN -/
  known : Bool
  deriving DecidableEq, Repr

/-- The SleepyState with every field at its lowest value. -/
def SleepyState.zero : SleepyState := { wl := 0, rho := 0, delta := 0, known := false }

/-- A frame held for a sleepy partner, or waiting for a listen slot (14 R377, R382). -/
structure HeldFrame where
  /-- number that tells it from the other frames of the queue -/
  num : Nat
  /-- destination -/
  dst : Nat
  /-- MESH_DOWN sequence, none for a frame of the MAC's own -/
  seq : Option Nat
  /-- system time -/
  deadline : Nat
  /-- URGENT asked -/
  urgent : Bool
  /-- ACKREQ -/
  ackreq : Bool
  /-- sends left -/
  retries : Nat
  /-- MAC frame type (14 R365) -/
  kind : Nat
  /-- payload -/
  data : List Byte
  /-- 0 waiting, 1 handed to the Loggia, 2 sent and awaiting its ACK, 3 returned by a chain -/
  stage : Nat
  /-- frame counter under which it was formed -/
  ctr : Nat
  /-- chain: that of a multicast frame, or the one to which the frame was handed -/
  via : Nat
  /-- end of the time in which its ACK may come -/
  due : Nat
  /-- already resubmitted on a chain that has taken over -/
  again : Bool
  deriving DecidableEq, Repr

/-- The HeldFrame with every field at its lowest value. -/
def HeldFrame.zero : HeldFrame :=
  { num := 0, dst := 0, seq := none, deadline := 0, urgent := false, ackreq := false, retries := 0, kind := 0, data := [], stage := 0
    ctr := 0, via := 0, due := 0, again := false }

/-- A request the MAC has handed to the Loggia and whose outcome it awaits (14 R377). -/
structure MacReq where
  /-- MAC frame type -/
  kind : Nat
  /-- chain -/
  chain : Nat
  /-- number of the held frame that it carries -/
  num : Nat
  /-- payload of an AGGACK -/
  data : List Byte
  deriving DecidableEq, Repr

/-- The MacReq with every field at its lowest value. -/
def MacReq.zero : MacReq := { kind := 0, chain := 0, num := 0, data := [] }

/-- A border group or chain group that this module serves (14 R385, R387). -/
structure Adopted where
  /-- peer index; 8 + chain for a chain takeover -/
  peer : Nat
  /-- group -/
  group : Nat
  /-- hand-back boundary, once named -/
  boundary : Option Nat
  deriving DecidableEq, Repr

/-- The Adopted with every field at its lowest value. -/
def Adopted.zero : Adopted :=
  { peer := 0, group := 0, boundary := none }

/-- A frame waiting at the Newel ingress (01 R27, R30). -/
structure InFrame where
  /-- kind code of R27 -/
  kind : Nat
  /-- port -/
  port : Nat
  /-- Corridor sequence, for kind CORRIDOR -/
  seq : Nat
  /-- payload bytes -/
  length : Nat
  /-- content that a flight consumes at a snapshot -/
  body : FrameBody
  deriving DecidableEq, Repr

/-- The InFrame with every field at its lowest value. -/
def InFrame.zero : InFrame :=
  { kind := 0, port := 0, seq := 0, length := 0, body := .none }

/-- A numbered input frame in a flight's frame memory (01 R27). -/
structure Frame where
  /-- frame number -/
  number : Nat
  /-- Newel cycle of release -/
  cycle : Nat
  /-- the frame -/
  frame : InFrame
  /-- CRC-32C of its last four bytes -/
  crc : Nat
  deriving DecidableEq, Repr

/-- The Frame with every field at its lowest value. -/
def Frame.zero : Frame :=
  { number := 0, cycle := 0, frame := InFrame.zero, crc := 0 }

/-- A host-to-field request awaiting its REPLY (01 R41). -/
structure CrReq where
  /-- sequence -/
  seq : Nat
  /-- message type -/
  typ : Nat
  /-- resends made -/
  tries : Nat
  /-- originating session, 0 the Foyer itself -/
  session : Nat
  /-- FMP request id; 0 for the proxy -/
  reqId : Nat
  /-- suite of the originating session -/
  suite : Nat
  /-- role of the originating session -/
  role : Nat
  /-- 0 host port or Foyer, 1 backhaul -/
  origin : Nat
  /-- request payload, kept for the resend -/
  payload : List Byte
  deriving DecidableEq, Repr

/-- The CrReq with every field at its lowest value. -/
def CrReq.zero : CrReq :=
  { seq := 0, typ := 0, tries := 0, session := 0, reqId := 0, suite := 0, role := 0, origin := 0, payload := [] }

/-- A host-to-field message sent and not acknowledged (01 R34, R39). -/
structure DownMsg where
  /-- sequence -/
  seq : Nat
  /-- type code -/
  typ : Nat
  /-- flags byte: bit 0 REPLY, bit 1 MORE -/
  flags : Nat
  /-- sequence of the request answered, 0 in a request -/
  answers : Nat
  /-- status byte -/
  status : Nat
  /-- suite byte -/
  suite : Nat
  /-- role byte -/
  role : Nat
  /-- origin byte -/
  origin : Nat
  /-- payload -/
  payload : List Byte
  deriving DecidableEq, Repr

/-- The DownMsg with every field at its lowest value. -/
def DownMsg.zero : DownMsg :=
  { seq := 0, typ := 0, flags := 0, answers := 0, status := 0, suite := 0, role := 0, origin := 0, payload := [] }

/-- One direction of the Corridor (01 R34, R39, R40). -/
structure CrDir where
  /-- next sequence to send -/
  txSeq : Nat
  /-- failed sends of the oldest unacknowledged message -/
  fails : Nat
  /-- the direction runs on its spare lane -/
  spare : Bool
  /-- the direction is lost -/
  lost : Bool
  /-- last accepted sequence; none before the first message after a reset or restoration -/
  lastAcc : Option Nat
  /-- duplicates discarded, holds at 0xFFFF_FFFF -/
  dups : Nat
  deriving DecidableEq, Repr

/-- The CrDir with every field at its lowest value. -/
def CrDir.zero : CrDir :=
  { txSeq := 0, fails := 0, spare := false, lost := false, lastAcc := none, dups := 0 }

/-- A request written to NW_SWCTL that is in progress (04 R577). -/
structure PlanReq where
  /-- TEST, otherwise PLAN -/
  test : Bool
  /-- flight -/
  target : Nat
  /-- AFTER -/
  after : Nat
  deriving DecidableEq, Repr

/-- The PlanReq with every field at its lowest value. -/
def PlanReq.zero : PlanReq :=
  { test := false, target := 0, after := 0 }

/-- A stair transfer in progress (04 R110). -/
structure Stair where
  /-- joining flight -/
  flight : Nat
  /-- scans verified in step 5 -/
  verified : Nat
  /-- duration of the freeze in us -/
  freeze : Nat
  /-- scan of the freeze, the first that is verified -/
  first : Nat
  deriving DecidableEq, Repr

/-- The Stair with every field at its lowest value. -/
def Stair.zero : Stair :=
  { flight := 0, verified := 0, freeze := 0, first := 0 }

/-- Gallery state of one channel beyond its registers (11 R294, R295; 12 R313 to R319). -/
structure Chan where
  /-- held fade time -/
  fade : Nat
  /-- held table and BYPASS bit -/
  curve : Nat
  /-- a new target waits for the next fade tick -/
  start : Bool
  /-- N of the next or running fade -/
  fadeN : Nat
  /-- S of the running fade -/
  fs : Int
  /-- T of the running fade -/
  ft : Int
  /-- k of the running fade -/
  fk : Nat
  /-- n latched at the last period start, in counts -/
  n : Nat
  /-- on-time of the period, in cycles of 2.5 ns -/
  on : Nat
  /-- land driven with the latched on-time (false: held low) -/
  land : Bool
  /-- the land has been forced low within the period -/
  cutNow : Bool
  /-- disable waits for the next period start -/
  disableAt : Bool
  /-- enable waits for the next fade tick -/
  enableAt : Bool
  /-- open counter -/
  cOpen : Nat
  /-- short counter -/
  cShort : Nat
  /-- off-short counter -/
  cOff : Nat
  /-- consecutive good samples towards clearing -/
  cGood : Nat
  /-- a good observation has been made -/
  everGood : Bool
  /-- periods since the last on-sample -/
  lastOn : Option Nat
  /-- the comparator tripped in this period -/
  tripped : Bool
  /-- this period is a probe period -/
  probe : Bool
  /-- a short retry period is due or running -/
  retry : Bool
  /-- CLR waits for the next period start -/
  clr : Bool
  /-- the channel's cell has failed -/
  cellFault : Bool
  /-- time of the last EV_GL_PROBE_DEFER -/
  deferAt : Option Nat
  /-- land-high cycles, u64 -/
  cum : Nat
  /-- period starts until the spare takes the land; 0: none waits -/
  spareIn : Nat
  /-- the disable in force was forced -/
  forced : Bool
  /-- repayment quantum of the last probe (12 R318) -/
  q : Nat
  /-- an on-sample has been taken since the channel was enabled -/
  sampled : Bool
  deriving DecidableEq, Repr

/-- The Chan with every field at its lowest value. -/
def Chan.zero : Chan :=
  { fade := 0, curve := 0, start := false, fadeN := 0, fs := 0, ft := 0, fk := 0, n := 0, on := 0, land := false, cutNow := false, disableAt := false, enableAt := false, cOpen := 0, cShort := 0, cOff := 0, cGood := 0, everGood := false, lastOn := none, tripped := false, probe := false, retry := false, clr := false, cellFault := false, deferAt := none, cum := 0, spareIn := 0, forced := false, q := 0, sampled := false }

/-- Gallery state of one matrix cell (11 R304). -/
structure Cell where
  /-- held target -/
  target : Nat
  /-- fine level -/
  fl : Nat
  /-- a new target waits for the next fade tick -/
  start : Bool
  /-- N -/
  fadeN : Nat
  /-- S -/
  fs : Int
  /-- T -/
  ft : Int
  /-- k -/
  fk : Nat
  /-- fade in progress -/
  fading : Bool
  /-- D -/
  duty : Nat
  /-- latched on-time -/
  on : Nat
  /-- held fade time in ms -/
  fade : Nat
  /-- held table and BYPASS bit -/
  curve : Nat
  deriving DecidableEq, Repr

/-- The Cell with every field at its lowest value. -/
def Cell.zero : Cell :=
  { target := 0, fl := 0, start := false, fadeN := 0, fs := 0, ft := 0, fk := 0, fading := false, duty := 0, on := 0, fade := 0, curve := 0 }

/-- Gallery state of one remote-I/O line (08 R207 to R215). -/
structure Line where
  /-- line cycles since field reset -/
  cycleNo : Nat
  /-- output frames from a commit since field power-up -/
  haveOut : Bool
  /-- station after which the round-robin of step 2 goes on -/
  rr : Nat
  /-- request sequence -/
  seq : Nat
  /-- a line cycle is in progress -/
  running : Bool
  /-- exchanges of the cycle still to make, the first in progress: station, RELEASE (else DATA) -/
  todo : List (Nat × Bool)
  /-- failed attempts of the exchange in progress -/
  tries : Nat
  /-- station of step 2, not yet resolved -/
  turn : Option Nat
  /-- Newel cycle of the last EV_GL_LINE_OVERRUN -/
  overrunAt : Option Nat
  /-- disable waits for the next cycle start -/
  stopAt : Bool
  /-- records gathered in the cycle -/
  recs : List StationRec
  /-- Newel cycle at which the line was enabled -/
  enabledAt : Nat
  /-- Newel cycle of the last cycle start, made or skipped -/
  startedAt : Option Nat
  /-- output images that the cycle uses: those of the latest commit at its start -/
  outs : Map (List Byte)
  /-- station of the cycle's firmware exchange, not yet resolved (18 R507) -/
  fwTurn : Option Nat
  /-- request frame last sent -/
  wire : List Byte
  deriving DecidableEq, Repr

/-- The Line with every field at its lowest value. -/
def Line.zero : Line :=
  { cycleNo := 0, haveOut := false, rr := 0, seq := 0, running := false, todo := [], tries := 0, turn := none, overrunAt := none, stopAt := false, recs := [], enabledAt := 0, startedAt := none, outs := [], fwTurn := none, wire := [] }

/-- A request that a line controller has sent (08 R204, R205). -/
structure RioReq where
  /-- station id -/
  id : Nat
  /-- type -/
  typ : Nat
  /-- sequence -/
  seq : Nat
  /-- payload -/
  payload : List Byte
  deriving DecidableEq, Repr

/-- A remote-I/O frame as it was received (08 R204). -/
structure RioFrame where
  /-- address byte: station in [4:0], DIR in [7] -/
  address : Nat
  /-- type -/
  typ : Nat
  /-- sequence -/
  seq : Nat
  /-- payload -/
  payload : List Byte
  deriving DecidableEq, Repr

/-- A Jalmethen frame as it was received (08 R223). -/
structure JmlFrame where
  /-- type -/
  typ : Nat
  /-- flags -/
  flags : Nat
  /-- sequence -/
  seq : Nat
  /-- last sequence that the peer received in order -/
  ack : Nat
  /-- payload -/
  payload : List Byte
  deriving DecidableEq, Repr

/-- Gallery state of one station beyond GL_STSTATE (08 R210). -/
structure StState where
  /-- the station came from LOST -/
  fromLost : Bool
  /-- consecutive failed attempts of PARAM -/
  tries : Nat
  /-- EV_GL_STATION_MISSING has been raised -/
  missing : Bool
  /-- MISMATCH recorded in this entry into SEARCH or LOST -/
  mismatch : Bool
  /-- disable waits for the next cycle start -/
  disableAt : Bool
  /-- firmware version and serial of the last IDENT (08 R205) -/
  ident : Nat × Nat
  deriving DecidableEq, Repr

/-- The StState with every field at its lowest value. -/
def StState.zero : StState :=
  { fromLost := false, tries := 0, missing := false, mismatch := false, disableAt := false, ident := (0, 0) }

/-- A raw DALI forward frame waiting (08 R220). -/
structure RawFrame where
  /-- frame -/
  frame : Nat
  /-- 24-bit -/
  size24 : Bool
  /-- send twice -/
  twice : Bool
  /-- a backward frame is expected -/
  answer : Bool
  /-- priority -/
  prio : Nat
  deriving DecidableEq, Repr

/-- The RawFrame with every field at its lowest value. -/
def RawFrame.zero : RawFrame :=
  { frame := 0, size24 := false, twice := false, answer := false, prio := 0 }

/-- Gallery state of one DALI bus (08 R218 to R222). -/
structure Bus where
  /-- pending arc per gear -/
  pending : Map Nat
  /-- current arc per gear -/
  arcs : Map Nat
  /-- output value of each bound gear's point in the last commit -/
  levels : Map Nat
  /-- last short address sent -/
  last : Nat
  /-- next gear polled -/
  poll : Nat
  /-- raw frames waiting, oldest first -/
  raw : List RawFrame
  /-- frame in transmission or awaiting its answer: 0 DAPC, 1 poll, 2 raw; and its address -/
  sending : Option (Nat × Nat)
  /-- the forward frame has ended and an answer is awaited -/
  awaiting : Bool
  /-- raw frame in transmission -/
  sentRaw : Option RawFrame
  /-- DAPC of every gear is due after a bus return -/
  resend : Bool
  /-- the raw frame in transmission is to be sent a second time -/
  again : Bool
  deriving DecidableEq, Repr

/-- The Bus with every field at its lowest value. -/
def Bus.zero : Bus :=
  { pending := [], arcs := [], levels := [], last := 0, poll := 0, raw := [], sending := none, awaiting := false, sentRaw := none, resend := false, again := false }

/-- Gallery state of one Jalmethen link (08 R223 to R226). -/
structure Link where
  /-- next sequence -/
  txSeq : Nat
  /-- last sequence received in order -/
  rxSeq : Nat
  /-- frames sent and not acknowledged: sequence, type, flags and payload -/
  unacked : List (Nat × Nat × Nat × List Byte)
  /-- resends of the oldest frame -/
  resends : Nat
  /-- serial in the peer's last HELLO -/
  peer : Nat
  /-- KEEPALIVE frames sent -/
  keepalives : Nat
  /-- frames that the link sent last -/
  wire : List (List Byte)
  /-- frames of other types dropped -/
  dropped : Nat
  deriving DecidableEq, Repr

/-- The Link with every field at its lowest value. -/
def Link.zero : Link :=
  { txSeq := 0, rxSeq := 0, unacked := [], resends := 0, peer := 0, keepalives := 0, wire := [], dropped := 0 }

/-- Loggia state of one chain beyond its registers (13 R343 to R356). -/
structure RadioChain where
  /-- queued requests in arrival order -/
  queue : List TxReq
  /-- request on the air -/
  tx : Option TxReq
  /-- LST of its first preamble bit -/
  txStart : Nat
  /-- its airtime in us -/
  txAir : Nat
  /-- airtime of it already in tally buckets -/
  txCounted : Nat
  /-- LST at the end of the last transmission -/
  lastEnd : Option Nat
  /-- its power at the land in dBm -/
  txPower : Int
  /-- its PSDU without FCS as sent -/
  txPsdu : List Byte
  /-- Newel cycle of the last EV_LG_RX_OVERRUN -/
  overAt : Option Nat
  /-- frames discarded since -/
  overN : Nat
  /-- Newel cycle of the last EV_LG_TX_DROP -/
  dropAt : Option Nat
  /-- drops since -/
  dropN : Nat
  /-- Newel cycle of the last EV_LG_REQ_REFUSED -/
  refAt : Option Nat
  /-- disable waits for the end of the frame -/
  offAtEnd : Bool
  deriving DecidableEq, Repr

/-- The RadioChain with every field at its lowest value. -/
def RadioChain.zero : RadioChain :=
  { queue := [], tx := none, txStart := 0, txAir := 0, txCounted := 0, lastEnd := none, txPower := 0, txPsdu := [], overAt := none, overN := 0, dropAt := none, dropN := 0, refAt := none, offAtEnd := false }

/-- A frame on the air as a chain's receiver meets it (13 R338, R352 to R354). -/
structure RxFrame where
  /-- receive timestamp -/
  ts : Nat
  /-- rate code -/
  rate : Nat
  /-- channel index -/
  channel : Nat
  /-- RSSI in dBm -/
  rssi : Int
  /-- FCS32 -/
  fcs32 : Bool
  /-- WHITEN -/
  whiten : Bool
  /-- the PHR has the mode switch bit set -/
  modeSwitch : Bool
  /-- PSDU octets with FCS -/
  len : Nat
  /-- the FCS is valid -/
  fcsOk : Bool
  /-- the reception was cut by blanking -/
  cut : Bool
  /-- PSDU without FCS -/
  psdu : List Byte
  deriving DecidableEq, Repr

/-- The RxFrame with every field at its lowest value. -/
def RxFrame.zero : RxFrame :=
  { ts := 0, rate := 0, channel := 0, rssi := 0, fcs32 := false, whiten := false, modeSwitch := false, len := 0, fcsOk := false, cut := false, psdu := [] }

/-- One item of landings 0 to 3 (16 R433). -/
structure LdItem where
  /-- tag -/
  tag : Nat
  /-- valid bytes -/
  data : List Byte
  deriving DecidableEq, Repr

/-- The LdItem with every field at its lowest value. -/
def LdItem.zero : LdItem :=
  { tag := 0, data := [] }

/-- Packer of one of landings 0 to 3 (16 R434 to R436). -/
structure Packer where
  /-- bytes of the held word -/
  held : List Byte
  /-- items of the packet queued -/
  items : Nat
  /-- the packet has overflowed -/
  overflowed : Bool
  /-- one abort item waits for room -/
  abortDue : Bool
  /-- DROP in force -/
  dropping : Bool
  deriving DecidableEq, Repr

/-- The Packer with every field at its lowest value. -/
def Packer.zero : Packer :=
  { held := [], items := 0, overflowed := false, abortDue := false, dropping := false }

/-- An FMP request in progress (16 R448). -/
structure FmpReq where
  /-- request id -/
  id : Nat
  /-- operation -/
  op : Nat
  /-- flags -/
  flags : Nat
  /-- joined payload -/
  payload : List Byte
  /-- tag of the alcove notice that carried it -/
  tag : Nat
  /-- it has been forwarded to the field side, or runs on -/
  sent : Bool
  deriving DecidableEq, Repr

/-- The FmpReq with every field at its lowest value. -/
def FmpReq.zero : FmpReq :=
  { id := 0, op := 0, flags := 0, payload := [], tag := 0, sent := false }

/-- One of the last 16 replies of a session (16 R448). -/
structure FmpReply where
  /-- request id -/
  id : Nat
  /-- operation -/
  op : Nat
  /-- status -/
  status : Nat
  /-- payload -/
  payload : List Byte
  deriving DecidableEq, Repr

/-- The FmpReply with every field at its lowest value. -/
def FmpReply.zero : FmpReply :=
  { id := 0, op := 0, status := 0, payload := [] }

/-- One FMP session (16 R443 to R448). [log 105 DESIGN CHOICE] -/
structure Session where
  /-- client entry -/
  client : Nat
  /-- role -/
  role : Nat
  /-- suite -/
  suite : Nat
  /-- transport: UDP -/
  udp : Bool
  /-- landing channel 0 to 3, or 16 + alcove channel -/
  channel : Nat
  /-- last accepted sequence -/
  rxSeq : Nat
  /-- next sequence to send -/
  txSeq : Nat
  /-- requests in progress, at most 4 -/
  busy : List FmpReq
  /-- last 16 replies, newest first -/
  replies : List FmpReply
  /-- messages being joined: request id and payload so far -/
  joining : List (Nat × List Byte)
  /-- time-base count of the last EV_FY_SUITE_DENIED -/
  deniedAt : Option Nat
  /-- number of the session's keys (model's own counter of a free value) -/
  key : Nat
  deriving DecidableEq, Repr

/-- The Session with every field at its lowest value. -/
def Session.zero : Session :=
  { client := 0, role := 0, suite := 0, udp := false, channel := 0, rxSeq := 0, txSeq := 0, busy := [], replies := [], joining := [], deniedAt := none, key := 0 }

/-- One pending FMP handshake (16 R444). -/
structure Handshake where
  /-- client entry -/
  client : Nat
  /-- session id offered -/
  session : Nat
  /-- transport -/
  udp : Bool
  /-- channel -/
  channel : Nat
  /-- tag of the alcove notice that carried HELLO -/
  tag : Nat
  /-- number of the keys it would derive (model's own counter of a free value) -/
  key : Nat
  /-- pool slot of its ephemeral private key -/
  pool : Nat
  deriving DecidableEq, Repr

/-- The Handshake with every field at its lowest value. -/
def Handshake.zero : Handshake :=
  { client := 0, session := 0, udp := false, channel := 0, tag := 0, key := 0, pool := 48 }

/-- The attribute record and material of a key slot (17 R459). -/
structure KeyAttr where
  /-- type -/
  typ : Nat
  /-- usage bits -/
  usage : Nat
  /-- PERSIST, EXPORT, LOCK, FIELD, VENDOR bits -/
  flags : Nat
  /-- parent slot, 0xFF none -/
  parent : Nat
  /-- generation -/
  gen : Nat
  /-- parent generation -/
  pgen : Nat
  /-- commit counter -/
  ctr : Nat
  /-- the material -/
  key : List Byte
  deriving DecidableEq, Repr

/-- The KeyAttr with every field at its lowest value. -/
def KeyAttr.zero : KeyAttr :=
  { typ := 0, usage := 0, flags := 0, parent := 0, gen := 0, pgen := 0, ctr := 0, key := [] }

/-- The pending store of a slot (17 R468, R470). -/
structure KeyPend where
  /-- pending attributes and material -/
  attr : KeyAttr
  /-- session that prepared it -/
  session : Nat
  deriving DecidableEq, Repr

/-- The KeyPend with every field at its lowest value. -/
def KeyPend.zero : KeyPend :=
  { attr := KeyAttr.zero, session := 0 }

/-- The two persistent records of a slot (17 R468, R469). -/
structure KeyRec where
  /-- record A, none when it fails its tag -/
  a : Option KeyAttr
  /-- record B -/
  b : Option KeyAttr
  deriving DecidableEq, Repr

/-- The KeyRec with every field at its lowest value. -/
def KeyRec.zero : KeyRec :=
  { a := none, b := none }

/-- A streaming context (17 R466). -/
structure StreamCtx where
  /-- slot -/
  slot : Nat
  deriving DecidableEq, Repr

/-- The StreamCtx with every field at its lowest value. -/
def StreamCtx.zero : StreamCtx :=
  { slot := 0 }

/-- A slot of boot flash (18 R486, R490; 20 R532). -/
structure SlotInfo where
  /-- image header, 512 bytes -/
  header : List Byte
  /-- payload blocks as stored -/
  blocks : Map (List Byte)
  /-- blocks whose bit is set -/
  bitmap : List Nat
  /-- plaintext payload, as the last decryption found it -/
  plain : List Byte
  /-- sectors freshly erased after a read-back that failed -/
  erased : List Nat
  deriving DecidableEq, Repr

/-- The SlotInfo with every field at its lowest value. -/
def SlotInfo.zero : SlotInfo :=
  { header := [], blocks := [], bitmap := [], plain := [], erased := [] }

/-- The campaign in progress or in trial (18 R496 to R503). -/
structure Campaign where
  /-- component indices of the campaign, in step order -/
  comps : List Nat
  /-- steps still to run, the first in progress -/
  todo : List Nat
  /-- the first step of `todo` has begun -/
  busy : Bool
  /-- the restart path -/
  restart : Bool
  /-- cause of the revert in progress -/
  revert : Option Nat
  /-- restart path: 0 the field restart is awaited, 1 it runs -/
  stage : Nat
  /-- number of the step's requests, which their replies carry back -/
  tag : Nat
  /-- replies of staging still awaited -/
  waits : Nat
  deriving DecidableEq, Repr

/-- The Campaign with every field at its lowest value. -/
def Campaign.zero : Campaign :=
  { comps := [], todo := [], busy := false, restart := false, revert := none, stage := 0, tag := 0, waits := 0 }

/-- The retained snapshot the Foyer holds (06 R175, R176; 02 R57). -/
structure Snapshot where
  /-- scan of the seal -/
  scan : Nat
  /-- the image matches the CRC-32C of its seal -/
  crcOk : Bool
  /-- retained-layout version -/
  layout : Nat
  /-- configuration-image digest -/
  cfg : Nat
  /-- KZL-program digest -/
  prog : Nat
  /-- the 80 blocks applied, by block number -/
  blocks : Map (List Byte)
  /-- force entries with USED set -/
  forces : Nat
  deriving DecidableEq, Repr

/-- The Snapshot with every field at its lowest value. -/
def Snapshot.zero : Snapshot :=
  { scan := 0, crcOk := false, layout := 0, cfg := 0, prog := 0, blocks := [], forces := 0 }

/-- What the integrity hardware holds of one physical memory word (03 R64). -/
structure WordInfo where
  /-- valid bit -/
  valid : Bool
  /-- state of data against check bits -/
  err : WordErr
  /-- check bits stored by a window write -/
  check : BitVec 8
  /-- corrected on the present or the last scrub pass -/
  corrected : Bool
  /-- pass number of that correction -/
  pass : Nat
  deriving DecidableEq, Repr

/-- The WordInfo with every field at its lowest value. -/
def WordInfo.zero : WordInfo :=
  { valid := false, err := .none, check := 0, corrected := false, pass := 0 }

/-- One Foyer time alarm (15 R408). -/
structure Alarm where
  /-- armed -/
  armed : Bool
  /-- LF -/
  lf : Nat
  deriving DecidableEq, Repr

/-- The Alarm with every field at its lowest value. -/
def Alarm.zero : Alarm :=
  { armed := false, lf := 0 }

/-- One shadow set of the RTC (15 R413). -/
structure Shadow where
  /-- a copy is held -/
  held : Bool
  /-- prescaler -/
  sub : Nat
  /-- count -/
  cnt : Nat
  /-- calendar view: UTC seconds -/
  utc : Int
  deriving DecidableEq, Repr

/-- The Shadow with every field at its lowest value. -/
def Shadow.zero : Shadow :=
  { held := false, sub := 0, cnt := 0, utc := 0 }

/-- A master known from its Announce messages (15 R398). -/
structure PtpMaster where
  /-- clockIdentity -/
  ident : Nat
  /-- dataset in the order in which the standard compares it -/
  rank : List Nat
  deriving DecidableEq, Repr

/-- The PtpMaster with every field at its lowest value. -/
def PtpMaster.zero : PtpMaster :=
  { ident := 0, rank := [] }

/-- A clear in progress (19 R525). -/
structure ArcClear where
  /-- first sequence of the cleared range -/
  first : Nat
  /-- last sequence of the cleared range -/
  last : Nat
  /-- sequence of the fifth clear record -/
  upto : Nat
  deriving DecidableEq, Repr

/-- The ArcClear with every field at its lowest value. -/
def ArcClear.zero : ArcClear :=
  { first := 0, last := 0, upto := 0 }

/-- A settings copy in the journal (18 R505). -/
structure SettingsCopy where
  /-- schema version -/
  schema : Nat
  /-- component that wrote it -/
  comp : Nat
  /-- slot that wrote it -/
  slot : Nat
  /-- tagged with a TRIAL slot, not yet current -/
  trial : Bool
  /-- taken from the configuration at a cold start -/
  fromCfg : Bool
  deriving DecidableEq, Repr

/-- The SettingsCopy with every field at its lowest value. -/
def SettingsCopy.zero : SettingsCopy :=
  { schema := 0, comp := 0, slot := 0, trial := false, fromCfg := false }

/-- One archive copy of the journal (20 R536). -/
structure Archive where
  /-- sequence -/
  seq : Nat
  /-- operating seconds in its header -/
  opsecAt : Nat
  /-- its tag passes -/
  ok : Bool
  /-- update metadata: slots -/
  slots : Map SlotInfo
  /-- update metadata: slot states, trial counters and floors -/
  words : Map Nat
  /-- update metadata: campaign -/
  camp : Option Campaign
  /-- recovery client table -/
  clients : Map KeyClient
  /-- operator update key -/
  updateKey : Option (List Byte)
  /-- quarantine record of flight A -/
  quarA : Bool
  /-- quarantine record of flight B -/
  quarB : Bool
  /-- settings copies -/
  settings : List SettingsCopy
  /-- retained snapshot -/
  snap : Option Snapshot
  /-- turn counters -/
  turns : Option (Map Nat)
  /-- node counters -/
  nbr : Map W32
  /-- transmit counter -/
  txctr : Option Nat
  /-- operating seconds -/
  opsec : Nat
  /-- power-cycle mirror -/
  pwrcyc : Nat
  /-- time -/
  time : Nat
  deriving DecidableEq, Repr

/-- The Archive with every field at its lowest value. -/
def Archive.zero : Archive :=
  { seq := 0, opsecAt := 0, ok := false, slots := [], words := [], camp := none, clients := [], updateKey := none, quarA := false, quarB := false, settings := [], snap := none, turns := none, nbr := [], txctr := none, opsec := 0, pwrcyc := 0, time := 0 }

/-- A copy of the layout descriptor for a device of 128 MiB: SXBF, version 1, the size, zeros and the CRC-32C (20 R531). [log 148 DESIGN CHOICE] -/
def layoutReset : List Byte :=
  [0x53, 0x58, 0x42, 0x46, 1, 0, 0, 0, 0, 0, 0, 8, 0, 0, 0, 0] ++ List.replicate 44 0 ++ [0xFE, 0xC4, 0x26, 0x73]

end Sys2Proof.Machine
end

