-- ==== Sys2Proof/Syntax.lean ====
section
/-! DEFINITION. The commands of the block: one constructor per row of the opcode table, in the table's order, with the
row's operands. What the environment decides (a test's outcome, a received frame, whether a check passes) is an operand. -/

namespace Sys2Proof

open Machine

/-- The commands of the block. -/
inductive Instr where
  /-- VHIN_VALID (R54): VHIN enters its operating range, taking the module from OFF to BOOT and starting the Foyer power-on reset. -/
  | vhinValid
  /-- VHIN_LOST (R54): VHIN leaves its range; the module state becomes OFF while the field side continues per R42. -/
  | vhinLost (written : Nat) (torn : Bool)
  /-- VFIN_VALID (R54): VFIN becomes valid; field reset, and an automatic start from HOLD when the last HOLD cause was VFIN loss. -/
  | vfinValid
  /-- VFIN_LOST (R54): VFIN falls below 9.8 V for longer than the ride-through; the module enters HOLD and the flights become ABSENT. -/
  | vfinLost
  /-- HOST_RESET (R560): HRST_N is held low for at least 1 µs, acting as a Foyer power-on reset. -/
  | hostReset (written : Nat) (torn : Bool)
  /-- BOOT_ROM_DONE (R45): The boot ROM finishes its self-test, measures and verifies the Foyer firmware and starts it, or enters HOLD with the recovery responder. -/
  | bootRomDone (fails : List (Nat × Nat)) (digest : Nat) (flash : Nat) (copies : List (Nat × List Byte)) (badParts : List Nat) (debug : Bool) (badKeys : List (Nat × Nat)) (trialBad : Bool) (known : Nat) (oldest : Nat) (ticks : Nat)
  /-- CORRIDOR_UP_TIMEOUT (R54): The Corridor is not up 500 ms after step 3; the module enters HOLD with test 0x06 reported. -/
  | corridorUpTimeout
  /-- FIELD_SELFTEST_DONE (R49): Field self-tests end; the module moves to LOADING or HOLD and images start to cross the Corridor. -/
  | fieldSelftestDone (fails : List (Nat × Nat × Nat)) (spared : List (Nat × Nat × Nat)) (bad : List Nat)
  /-- PWRWARN_FALL (R60): A falling edge on the power-warning land starts the journal flush. -/
  | pwrwarnFall
  /-- PWRWARN_RISE (R62): The power-warning land returns high; normal journal writes resume after the flush. -/
  | pwrwarnRise
  /-- GRADIENT_CHECK (R25): A region temperature difference above 40 K lasting 1 s raises EV_MOD_GRADIENT. -/
  | gradientCheck (host : Bool) (r1 : Nat) (r2 : Nat) (kelvin : Nat)
  /-- REFERENCE_FAULT (R569): The field reference departs by more than 1 % for 1 ms; both flights take fault 0x01. -/
  | referenceFault
  /-- CROSSING_PARITY_ERROR (R23): A crossing transfer with a parity error is discarded and requested again; a second error is a block fault. -/
  | crossingParityError (crossing : Nat) (region : Nat) (again : Bool)
  /-- NEWEL_CYCLE (R28): A Newel cycle boundary: a batch is released and flights are sampled, compared and committed. -/
  | newelCycle (fetchOk : Bool) (ue : Option (Nat × Nat)) (lst : Nat)
  /-- TIME_MAP_SYNTHESIS (R33): After 4 cycles without a TIME_MAP the Newel synthesises one with HOLDOVER. -/
  | timeMapSynthesis
  /-- INPUT_ARRIVAL (R30): A frame from the Corridor, the Gallery or the Loggia arrives at the Newel ingress buffer. -/
  | inputArrival (fr : InFrame)
  /-- BATCH_DELIVERED (R32): A released batch becomes present in a flight's frame memory. -/
  | batchDelivered (f : Flt) (bad : Option Nat)
  /-- BATCH_ACK (R98): A flight acknowledges a received batch to the Newel. -/
  | batchAck (f : Flt)
  /-- FLIGHT_FAULT_REPORT (R98): A flight reports a kind H fault that it detected itself. -/
  | flightFaultReport (f : Flt) (code : Nat) (t : Nat) (at_ : Option (Nat × Nat))
  /-- CORRIDOR_UNKNOWN_TYPE (R35): A Corridor message of an unknown type or wrong length is dropped with an event. -/
  | corridorUnknownType (toHost : Bool) (typ : Nat) (seq : Nat) (lengthOk : Bool)
  /-- LINK_ACK (R39): A link acknowledgement for a Corridor message arrives. -/
  | linkAck (down : Bool) (seq : Nat)
  /-- CORRIDOR_NAK (R39): A negative acknowledgement causes a resend; after 3 failures the direction moves to its spare lane. -/
  | corridorNak (down : Bool) (crc : Bool)
  /-- REPLY_TIMEOUT (R41): A REPLY has not arrived within its reply time; the request is resent or reported failed. -/
  | replyTimeout (seq : Nat)
  /-- HEARTBEAT_SEND (R42): Each side sends HEARTBEAT every 1 ms. -/
  | heartbeatSend (host : Bool)
  /-- HEARTBEAT (R42): A HEARTBEAT message is received; the field-to-host copy carries the last cycle-mark number. -/
  | heartbeat (toHost : Bool) (seq : Nat) (mark : Nat)
  /-- CORRIDOR_LOST (R42): No valid message arrives for 5 ms; the side declares the Corridor lost. -/
  | corridorLost (host : Bool)
  /-- STATUS_SEND (R44): Each side sends STATUS every 100 ms. -/
  | statusSend (host : Bool)
  /-- STATUS_TO_HOST (R44): The field-to-host STATUS arrives and the Foyer refreshes its mirrors and spare budgets. -/
  | statusToHost (seq : Nat) (payload : List Byte)
  /-- STATUS_TO_FIELD (R44): The host-to-field STATUS arrives, giving the Newel the module state. -/
  | statusToField (seq : Nat) (payload : List Byte)
  /-- BOOT_IMAGE_BLOCK (R45): A block of flight firmware or microcode is loaded at the field side. -/
  | bootImageBlock (seq : Nat) (comp : Nat) (last : Bool) (data : List Byte)
  /-- CONFIG_BLOCK (R45): A block of the configuration image, or of wrapped field keys, is loaded at the field side. -/
  | configBlock (seq : Nat) (comp : Nat) (last : Bool) (data : List Byte)
  /-- MEASURE_REPORT (R53): The flights' image digests reach the Foyer and are checked against the measurement registers. -/
  | measureReport (seq : Nat) (digests : List (Nat × Nat × Nat))
  /-- BOOT_DONE (R572): The final start kind is delivered and the flights initialise and apply the early register messages. -/
  | bootDone (seq : Nat)
  /-- POINT_READ (R139): A POINT_READ read operation is applied at the snapshot and returns entries with a status per point. -/
  | pointRead (h : MsgHdr) (points : List Nat)
  /-- SUBSCRIBE (R145): POINT_READ operation 1 admits subscription entries. -/
  | subscribe (h : MsgHdr) (session : Nat) (entries : List (Nat × Nat × Nat))
  /-- UNSUBSCRIBE (R145): POINT_READ operation 2 removes subscription entries. -/
  | unsubscribe (h : MsgHdr) (session : Nat) (points : List Nat)
  /-- CLEAR_SESSION (R147): POINT_READ operation 3 clears a session's subscriptions. -/
  | clearSession (h : MsgHdr) (session : Nat)
  /-- CLEAR_ALL (R147): POINT_READ operation 4 clears every subscription. -/
  | clearAll (h : MsgHdr)
  /-- POINT_WRITE (R140): A POINT_WRITE is checked whole and applied at the snapshot. -/
  | pointWrite (h : MsgHdr) (entries : List (Nat × W32))
  /-- FORCE_SET (R142): Forces are set or released at the snapshot, taking or freeing force table entries. -/
  | forceSet (h : MsgHdr) (entries : List (Nat × Nat × W32))
  /-- POINT_NOTIFY (R146): Subscribed point changes reach the Foyer and are passed to the session. -/
  | pointNotify (seq : Nat) (session : Nat) (entries : List Byte)
  /-- EVENT_RECORD (R517): A field event reaches the Foyer and takes an entry of the event landing. -/
  | eventRecord (seq : Nat) (ev : Ev) (counts : Bool) (held : Bool)
  /-- RETAIN_MIRROR (R176): Retentive blocks and a seal reach the Foyer and are applied or discarded. -/
  | retainMirror (seq : Nat) (payload : List Byte)
  /-- TIME_MAP (R406): A TIME_MAP reaches the Newel and is released, or discarded when out of order. -/
  | timeMap (q : Nat) (m : TimeMap)
  /-- REG_READ (R450): A Corridor REG_READ of a field register is served by the Newel or by the named flight. -/
  | regRead (h : MsgHdr) (region : Nat) (count : Nat) (offset : Nat)
  /-- REG_WRITE (R450): A Corridor REG_WRITE is checked whole and applied word by word at the consuming snapshot. -/
  | regWrite (h : MsgHdr) (region : Nat) (offset : Nat) (values : List W32)
  /-- MESH_DOWN_UNICAST (R377): MESH_DOWN op 0 queues unicast DATA to a node. -/
  | meshDownUnicast (h : MsgHdr) (dst : Nat) (flags : Nat) (ms : Nat) (data : List Byte)
  /-- MESH_DOWN_MULTICAST (R388): MESH_DOWN op 1 queues multicast DATA. -/
  | meshDownMulticast (h : MsgHdr) (flags : Nat) (ms : Nat) (data : List Byte)
  /-- MESH_DOWN_FWBLOCK (R389): MESH_DOWN op 2 queues a node firmware block. -/
  | meshDownFwblock (h : MsgHdr) (block : Nat) (data : List Byte)
  /-- MESH_DOWN_FW_CONTROL (R389): MESH_DOWN op 3 queues a firmware control frame naming the activation interval. -/
  | meshDownFwControl (h : MsgHdr) (interval : Nat)
  /-- MESH_DOWN_COMMAND (R388): MESH_DOWN op 4 queues a COMMAND to a node. -/
  | meshDownCommand (h : MsgHdr) (dst : Nat) (flags : Nat) (ms : Nat) (data : List Byte)
  /-- MESH_UP (R388): Mesh data, node status or a delivery outcome reaches the Foyer for the backhaul. -/
  | meshUp (seq : Nat) (payload : List Byte)
  /-- UPDATE_STAGE (R497): A field component image is staged in the Newel, Gallery, Loggia or the flights' shadow areas. -/
  | updateStage (h : MsgHdr) (comp : Nat) (last : Bool) (data : List Byte)
  /-- ACTIVATE (R177): A staged field component is activated; for programs and configuration, an on-line change is accepted or refused. -/
  | activate (h : MsgHdr) (comp : Nat) (ok : Bool)
  /-- ONLINE_SWITCH (R178): An accepted on-line change switches programs and sections at the next snapshot. -/
  | onlineSwitch (f : Flt)
  /-- SCAN (R153): A flight starts a scan once its grid batch is present, taking the input snapshot and running the startup, error and cyclic levels. -/
  | scan (f : Flt) (wait : Nat) (dur : Nat) (dirty : Nat)
  /-- LEVEL_BARRIER (R163): Every Tread has finished its tasks of a level; the write buffers are merged in task order. -/
  | levelBarrier (f : Flt) (time : Nat)
  /-- BUDGET_EXCEEDED (R166): A task's instruction budget is used up; the run stops and its writes are discarded. -/
  | budgetExceeded (f : Flt) (t : Nat)
  /-- NOP (R195): Does nothing. -/
  | kzNop (f : Flt) (t : Nat)
  /-- LB (R188): Loads RLO with the operand bit. -/
  | kzLb (f : Flt) (t : Nat) (sp : Nat) (addr : Nat)
  /-- LBN (R188): Loads RLO with the negated operand bit. -/
  | kzLbn (f : Flt) (t : Nat) (sp : Nat) (addr : Nat)
  /-- AB (R188): ANDs the operand bit into RLO. -/
  | kzAb (f : Flt) (t : Nat) (sp : Nat) (addr : Nat)
  /-- ABN (R188): ANDs the negated operand bit into RLO. -/
  | kzAbn (f : Flt) (t : Nat) (sp : Nat) (addr : Nat)
  /-- OB (R188): ORs the operand bit into RLO. -/
  | kzOb (f : Flt) (t : Nat) (sp : Nat) (addr : Nat)
  /-- OBN (R188): ORs the negated operand bit into RLO. -/
  | kzObn (f : Flt) (t : Nat) (sp : Nat) (addr : Nat)
  /-- XB (R188): XORs the operand bit into RLO. -/
  | kzXb (f : Flt) (t : Nat) (sp : Nat) (addr : Nat)
  /-- XBN (R188): XORs the negated operand bit into RLO. -/
  | kzXbn (f : Flt) (t : Nat) (sp : Nat) (addr : Nat)
  /-- GA (R189): Opens an AND group on the nesting stack. -/
  | kzGa (f : Flt) (t : Nat)
  /-- GAN (R189): Opens an AND NOT group on the nesting stack. -/
  | kzGan (f : Flt) (t : Nat)
  /-- GO (R189): Opens an OR group on the nesting stack. -/
  | kzGo (f : Flt) (t : Nat)
  /-- GON (R189): Opens an OR NOT group on the nesting stack. -/
  | kzGon (f : Flt) (t : Nat)
  /-- GX (R189): Opens an XOR group on the nesting stack. -/
  | kzGx (f : Flt) (t : Nat)
  /-- GXN (R189): Opens an XOR NOT group on the nesting stack. -/
  | kzGxn (f : Flt) (t : Nat)
  /-- GE (R189): Closes a group and combines the inner result with the saved RLO. -/
  | kzGe (f : Flt) (t : Nat)
  /-- NOT (R195): Negates RLO. -/
  | kzNot (f : Flt) (t : Nat)
  /-- SET (R195): Sets RLO to 1. -/
  | kzSet (f : Flt) (t : Nat)
  /-- CLR (R195): Sets RLO to 0. -/
  | kzClr (f : Flt) (t : Nat)
  /-- STB (R190): Writes RLO to the operand bit. -/
  | kzStb (f : Flt) (t : Nat) (sp : Nat) (addr : Nat)
  /-- SB (R190): Sets the operand bit when RLO is 1, or loads a counter from ACC. -/
  | kzSb (f : Flt) (t : Nat) (sp : Nat) (addr : Nat)
  /-- RB (R190): Resets the operand bit, timer or counter when RLO is 1. -/
  | kzRb (f : Flt) (t : Nat) (sp : Nat) (addr : Nat)
  /-- EDR (R190): Detects a rising edge against the edge bit. -/
  | kzEdr (f : Flt) (t : Nat) (sp : Nat) (addr : Nat)
  /-- EDF (R190): Detects a falling edge against the edge bit. -/
  | kzEdf (f : Flt) (t : Nat) (sp : Nat) (addr : Nat)
  /-- QT (R199): Loads RLO with a quality test of a point's status. -/
  | kzQt (f : Flt) (t : Nat) (sp : Nat) (addr : Nat)
  /-- LD (R192): Moves ACC to ACC2 and loads the operand word into ACC. -/
  | kzLd (f : Flt) (t : Nat) (sp : Nat) (addr : Nat) (k : W32)
  /-- ST (R192): Writes ACC to the operand word. -/
  | kzSt (f : Flt) (t : Nat) (sp : Nat) (addr : Nat)
  /-- LDS (R192): Loads the status of a point or the flag byte of a timer or counter. -/
  | kzLds (f : Flt) (t : Nat) (sp : Nat) (addr : Nat)
  /-- CLRS (R193): Clears SATS. -/
  | kzClrs (f : Flt) (t : Nat)
  /-- ADD (R193): Signed saturating addition. -/
  | kzAdd (f : Flt) (t : Nat) (sp : Nat) (addr : Nat) (k : W32)
  /-- SUB (R193): Signed saturating subtraction. -/
  | kzSub (f : Flt) (t : Nat) (sp : Nat) (addr : Nat) (k : W32)
  /-- MUL (R193): Signed saturating multiplication. -/
  | kzMul (f : Flt) (t : Nat) (sp : Nat) (addr : Nat) (k : W32)
  /-- DIV (R193): Signed truncating division with saturation on division by zero. -/
  | kzDiv (f : Flt) (t : Nat) (sp : Nat) (addr : Nat) (k : W32)
  /-- MOD (R193): Signed remainder with the sign of the dividend. -/
  | kzMod (f : Flt) (t : Nat) (sp : Nat) (addr : Nat) (k : W32)
  /-- ADDU (R193): Unsigned clamped addition. -/
  | kzAddu (f : Flt) (t : Nat) (sp : Nat) (addr : Nat) (k : W32)
  /-- SUBU (R193): Unsigned clamped subtraction. -/
  | kzSubu (f : Flt) (t : Nat) (sp : Nat) (addr : Nat) (k : W32)
  /-- ADDW (R193): Wrapping addition modulo 2^32. -/
  | kzAddw (f : Flt) (t : Nat) (sp : Nat) (addr : Nat) (k : W32)
  /-- SUBW (R193): Wrapping subtraction modulo 2^32. -/
  | kzSubw (f : Flt) (t : Nat) (sp : Nat) (addr : Nat) (k : W32)
  /-- MIN (R193): Signed minimum of ACC and the operand. -/
  | kzMin (f : Flt) (t : Nat) (sp : Nat) (addr : Nat) (k : W32)
  /-- MAX (R193): Signed maximum of ACC and the operand. -/
  | kzMax (f : Flt) (t : Nat) (sp : Nat) (addr : Nat) (k : W32)
  /-- NEG (R193): Saturating negation of ACC. -/
  | kzNeg (f : Flt) (t : Nat)
  /-- ABS (R193): Saturating absolute value of ACC. -/
  | kzAbs (f : Flt) (t : Nat)
  /-- MULDIV (R193): Multiplies ACC by the operand in 64 bits and divides by ACC2. -/
  | kzMuldiv (f : Flt) (t : Nat) (sp : Nat) (addr : Nat) (k : W32)
  /-- AND (R195): Bitwise AND of ACC with the operand. -/
  | kzAnd (f : Flt) (t : Nat) (sp : Nat) (addr : Nat) (k : W32)
  /-- OR (R195): Bitwise OR of ACC with the operand. -/
  | kzOr (f : Flt) (t : Nat) (sp : Nat) (addr : Nat) (k : W32)
  /-- XOR (R195): Bitwise XOR of ACC with the operand. -/
  | kzXor (f : Flt) (t : Nat) (sp : Nat) (addr : Nat) (k : W32)
  /-- INV (R195): Bitwise inversion of ACC. -/
  | kzInv (f : Flt) (t : Nat)
  /-- SHL (R193): Left shift of ACC by the low 5 bits of the operand. -/
  | kzShl (f : Flt) (t : Nat) (sp : Nat) (addr : Nat) (k : W32)
  /-- SHR (R193): Logical right shift of ACC. -/
  | kzShr (f : Flt) (t : Nat) (sp : Nat) (addr : Nat) (k : W32)
  /-- SAR (R193): Arithmetic right shift of ACC. -/
  | kzSar (f : Flt) (t : Nat) (sp : Nat) (addr : Nat) (k : W32)
  /-- CEQ (R194): Loads RLO with ACC equal to the operand. -/
  | kzCeq (f : Flt) (t : Nat) (sp : Nat) (addr : Nat) (k : W32)
  /-- CNE (R194): Loads RLO with ACC not equal to the operand. -/
  | kzCne (f : Flt) (t : Nat) (sp : Nat) (addr : Nat) (k : W32)
  /-- CLT (R194): Signed less-than compare into RLO. -/
  | kzClt (f : Flt) (t : Nat) (sp : Nat) (addr : Nat) (k : W32)
  /-- CLE (R194): Signed less-or-equal compare into RLO. -/
  | kzCle (f : Flt) (t : Nat) (sp : Nat) (addr : Nat) (k : W32)
  /-- CGT (R194): Signed greater-than compare into RLO. -/
  | kzCgt (f : Flt) (t : Nat) (sp : Nat) (addr : Nat) (k : W32)
  /-- CGE (R194): Signed greater-or-equal compare into RLO. -/
  | kzCge (f : Flt) (t : Nat) (sp : Nat) (addr : Nat) (k : W32)
  /-- CLTU (R194): Unsigned less-than compare into RLO. -/
  | kzCltu (f : Flt) (t : Nat) (sp : Nat) (addr : Nat) (k : W32)
  /-- CLEU (R194): Unsigned less-or-equal compare into RLO. -/
  | kzCleu (f : Flt) (t : Nat) (sp : Nat) (addr : Nat) (k : W32)
  /-- CGTU (R194): Unsigned greater-than compare into RLO. -/
  | kzCgtu (f : Flt) (t : Nat) (sp : Nat) (addr : Nat) (k : W32)
  /-- CGEU (R194): Unsigned greater-or-equal compare into RLO. -/
  | kzCgeu (f : Flt) (t : Nat) (sp : Nat) (addr : Nat) (k : W32)
  /-- TON (R197): Evaluates an on-delay timer. -/
  | kzTon (f : Flt) (t : Nat) (addr : Nat)
  /-- TOF (R197): Evaluates an off-delay timer. -/
  | kzTof (f : Flt) (t : Nat) (addr : Nat)
  /-- TP (R197): Evaluates a pulse timer. -/
  | kzTp (f : Flt) (t : Nat) (addr : Nat)
  /-- CTU (R198): Counts up on a rising RLO. -/
  | kzCtu (f : Flt) (t : Nat) (addr : Nat)
  /-- CTD (R198): Counts down on a rising RLO. -/
  | kzCtd (f : Flt) (t : Nat) (addr : Nat)
  /-- JMP (R200): Unconditional relative jump. -/
  | kzJmp (f : Flt) (t : Nat) (addr : Nat)
  /-- JT (R200): Jumps when RLO is 1. -/
  | kzJt (f : Flt) (t : Nat) (addr : Nat)
  /-- JF (R200): Jumps when RLO is 0. -/
  | kzJf (f : Flt) (t : Nat) (addr : Nat)
  /-- JZ (R200): Jumps when ACC is 0. -/
  | kzJz (f : Flt) (t : Nat) (addr : Nat)
  /-- JNZ (R200): Jumps when ACC is not 0. -/
  | kzJnz (f : Flt) (t : Nat) (addr : Nat)
  /-- CALL (R201): Calls a block, pushing the return address and nesting depth. -/
  | kzCall (f : Flt) (t : Nat) (addr : Nat)
  /-- CALLT (R201): Calls a block when RLO is 1. -/
  | kzCallt (f : Flt) (t : Nat) (addr : Nat)
  /-- RET (R201): Returns from a block, or ends the run with an empty call stack. -/
  | kzRet (f : Flt) (t : Nat)
  /-- RETT (R201): Returns when RLO is 1. -/
  | kzRett (f : Flt) (t : Nat)
  /-- TRAP (R202): Raises program fault TRAP with a trap code. -/
  | kzTrap (f : Flt) (t : Nat) (addr : Nat)
  /-- SCRUB_STEP (R72): The scrubber reads one word and writes back a corrected word. -/
  | scrubStep (m : Mem) (found : WordErr)
  /-- BANK_EVACUATE (R77): FL_EVAC START copies a logical bank to a free spare bank. -/
  | bankEvacuate (m : Mem) (lb : Nat)
  /-- EVACUATION_DONE (R77): The last word is copied and the logical bank is switched to its new physical bank. -/
  | evacuationDone (m : Mem) (ue : List Nat)
  /-- BANK_TEST (R79): FL_EVAC TEST evacuates a bank and runs the march test on it. -/
  | bankTest (m : Mem) (lb : Nat) (force : Bool)
  /-- BANK_TEST_DONE (R79): The march test ends; the bank becomes a free spare or is retired. -/
  | bankTestDone (m : Mem) (pass : Bool)
  /-- ECCTEST_ARM (R81): Arms the check-bit XOR mask for the next write of the selected word. -/
  | ecctestArm (m : Mem) (pb : Nat) (w : Nat) (mask : Nat)
  /-- LATCH_ACQUIRE (R82): A read of LATCH[n] acquires a free latch or returns the owner. -/
  | latchAcquire (m : Mem) (n : Nat) (master : Nat)
  /-- LATCH_RELEASE (R83): A write of LATCH[n] releases it for its owner or is refused. -/
  | latchRelease (m : Mem) (n : Nat) (master : Nat) (v : Nat)
  /-- STAIR_BULK_DONE (R110): The bulk copy of a stair transfer ends and the recopy rounds begin. -/
  | stairBulkDone (ue : List (Nat × Nat))
  /-- STAIR_FREEZE_DONE (R111): The freeze copy ends and the joining flight starts with the current scan. -/
  | stairFreezeDone (us : Nat)
  /-- PLANNED_SWITCHOVER (R114): NW_SWCTL.PLAN requests a planned switch-over. -/
  | plannedSwitchover (role : Nat) (after : Nat)
  /-- LOGIC_BIST_REQUEST (R115): NW_SWCTL.TEST requests logic BIST on a flight. -/
  | logicBistRequest (role : Nat) (target : Flt) (force : Bool)
  /-- QUARANTINE_SET (R118): NW_QUAR.SETA or SETB quarantines a flight. -/
  | quarantineSet (role : Nat) (f : Flt) (restore : Bool)
  /-- QUARANTINE_RELEASE (R117): NW_QUAR.RELA or RELB releases a quarantined flight to RESET. -/
  | quarantineRelease (role : Nat) (f : Flt)
  /-- REPAIR_RETRY (R112): The retry delay elapses and a failed or reset flight is tested again. -/
  | repairRetry (f : Flt)
  /-- FAILSAFE_RESTART (R120): 5 s after FAILSAFE the Foyer orders a field restart, at most 3 per hour. -/
  | failsafeRestart
  /-- NEWEL_FAULT (R121): The Newel watchdog or sequencer parity trips; the commit gate closes and the Newel resets. -/
  | newelFault
  /-- NEWEL_RESUME (R121): The Newel resumes with frame number and cycle count kept. -/
  | newelResume
  /-- GALLERY_KEEPALIVE_TIMEOUT (R122): Neither a commit nor a keepalive for 100 ms; the Gallery applies fail-safe levels. -/
  | galleryKeepaliveTimeout
  /-- TASK_ENABLE (R167): A write of FL_TASKEN0 or FL_TASKEN1 changes task enables at the snapshot. -/
  | taskEnable (n : Nat) (v : W32)
  /-- SCHEDULE_ENABLE (R282): A write of FL_SCHEDEN changes schedule enables from the next snapshot. -/
  | scheduleEnable (n : Nat) (v : W32)
  /-- RETAIN_FULL (R176): FL_RETAIN.FULL requests that the next mirror carries all 80 blocks. -/
  | retainFull
  /-- REGISTER_WRITE (R8): A write to a register that has no row of its own acts by the access codes of its fields. -/
  | registerWrite (role : Nat) (key : Nat) (v : W32)
  /-- LINE_CYCLE (R207): A remote-I/O line cycle exchanges DATA, sends one PROBE or PARAM and emits STATION_DATA frames. -/
  | lineCycle (n : Nat)
  /-- RIO_ATTEMPT_TIMEOUT (R206): No valid delimiter arrives within TRESP + tc; the attempt has failed. -/
  | rioAttemptTimeout (id : Nat)
  /-- IDENT (R210): A station's IDENT reply to PROBE moves it to PARAM or records a mismatch. -/
  | ident (n : Nat) (parity : Bool) (bs : List Byte)
  /-- PARAM_ACK (R210): A station's PARAM_ACK moves it to APPLY or back. -/
  | paramAck (n : Nat) (parity : Bool) (bs : List Byte)
  /-- RIO_DATA_REPLY (R210): A station's DATA reply yields a record or moves it to RUN or LOST. -/
  | rioDataReply (n : Nat) (parity : Bool) (bs : List Byte)
  /-- RELEASED (R215): A station answers RELEASE and goes to OFF. -/
  | released (n : Nat) (parity : Bool) (bs : List Byte)
  /-- STATION_MISSING (R210): A station stays in SEARCH for 1 s after line enable and EV_GL_STATION_MISSING is raised once. -/
  | stationMissing (id : Nat)
  /-- RIO_LINE_ENABLE (R210): GL_RIOCFG.EN written 1 starts the line. -/
  | rioLineEnable (n : Nat)
  /-- RIO_LINE_DISABLE (R215): GL_RIOCFG.EN written 0 releases the line's stations at the next cycle start. -/
  | rioLineDisable (n : Nat)
  /-- RIO_LINE_FORCED_DISABLE (R215): FDIS with EN 0 stops the line at the next character boundary. -/
  | rioLineForcedDisable (n : Nat)
  /-- RIO_STATION_ENABLE (R210): GL_STSTATE.EN written 1 moves a station to SEARCH. -/
  | rioStationEnable (id : Nat)
  /-- RIO_STATION_DISABLE (R215): GL_STSTATE.EN written 0 releases a station. -/
  | rioStationDisable (id : Nat)
  /-- RIO_STATION_FORCED_DISABLE (R215): FDIS with EN 0 disables a station without RELEASE. -/
  | rioStationForcedDisable (id : Nat)
  /-- DALI_FRAME_END (R218): A DALI forward frame and its settling end; the next pending frame is sent. -/
  | daliFrameEnd (b : Nat)
  /-- DALI_POLL (R219): On an idle bus the controller polls QUERY STATUS of the next gear. -/
  | daliPoll (b : Nat)
  /-- DALI_BACKWARD_FRAME (R219): A backward frame or its absence yields an answer record. -/
  | daliBackwardFrame (b : Nat) (result : Nat) (value : Nat)
  /-- DALI_EVENT_MESSAGE (R219): A -103 event message is received and delivered as a record. -/
  | daliEventMessage (b : Nat) (address : Nat) (value : List Nat)
  /-- DALI_SYSTEM_FAILURE (R221): The bus stays low for more than 500 ms and is in system failure. -/
  | daliSystemFailure (b : Nat)
  /-- DALI_COLLISION_TIMEOUT (R221): No frame could be sent for 10 s because of collisions; bus fault cause 2. -/
  | daliCollisionTimeout (b : Nat) (coll : Nat)
  /-- DALI_BUS_RETURN (R221): The bus has been high for 500 ms; DAPC is resent to every bound gear. -/
  | daliBusReturn (b : Nat)
  /-- DALI_RAW_GO (R220): GL_DALIRAW.GO queues a raw forward frame. -/
  | daliRawGo (b : Nat) (fr : RawFrame)
  /-- DALI_BUS_ENABLE (R217): GL_DALICFG.EN written 1 starts the bus controller. -/
  | daliBusEnable (b : Nat)
  /-- DALI_BUS_DISABLE (R222): GL_DALICFG.EN written 0 completes the frame in transmission and discards the queues. -/
  | daliBusDisable (b : Nat)
  /-- DALI_BUS_FORCED_DISABLE (R222): FDIS with EN 0 truncates the frame at once. -/
  | daliBusForcedDisable (b : Nat)
  /-- JML_HELLO (R224): A peer HELLO brings the link up or shows peer mismatch. -/
  | jmlHello (p : Nat) (bs : List Byte)
  /-- JML_KEEPALIVE_SEND (R224): The link controller sends KEEPALIVE every 1 ms. -/
  | jmlKeepaliveSend (p : Nat)
  /-- JML_KEEPALIVE (R224): A KEEPALIVE is received from the peer. -/
  | jmlKeepalive (p : Nat) (bs : List Byte)
  /-- JML_POINTS (R225): A POINTS frame updates imported points. -/
  | jmlPoints (p : Nat) (bs : List Byte)
  /-- RECLAIM (R226): A RECLAIM asks the adopter to release a border group. -/
  | reclaim (p : Nat) (bs : List Byte)
  /-- RELEASE (R226): A RELEASE lets the home module resume a group at the boundary. -/
  | release (p : Nat) (bs : List Byte)
  /-- JML_ACK_TIMEOUT (R224): No ack for 2 ms; frames are resent from the first unacknowledged one. -/
  | jmlAckTimeout (p : Nat)
  /-- JML_LINK_LOSS (R224): After 3 resends or LOSTMS without a valid frame the link is lost. -/
  | jmlLinkLoss (p : Nat)
  /-- JML_LINK_ENABLE (R224): GL_JMLCFG.EN written 1 starts sending HELLO. -/
  | jmlLinkEnable (p : Nat)
  /-- JML_LINK_DISABLE (R224): GL_JMLCFG.EN written 0 stops the link. -/
  | jmlLinkDisable (p : Nat)
  /-- ENFILADE_TICK (R236): A tick advances wavelets, matches and injects, walks demand, relaxes and forms descriptors. -/
  | enfiladeTick (f : Flt) (dur : Nat)
  /-- ENF_ENABLE (R262): FL_ENFCTL.EN written 1 starts ticks with an empty table. -/
  | enfEnable
  /-- ENF_DISABLE (R262): FL_ENFCTL.EN written 0 lets the tick in progress apply and then stops the engine. -/
  | enfDisable
  /-- ENF_FORCED_DISABLE (R262): EN 0 with FDIS discards the tick in progress. -/
  | enfForcedDisable
  /-- TURN_RESET (R263): FL_ENFCTL.TURNRESET loads the configured turn counters at the next tick. -/
  | turnReset
  /-- LEAN_HOLD_EXPIRY (R260): A chain leaves lean mode after LEANHOLD s without pressure. -/
  | leanHoldExpiry (n : Nat)
  /-- HOLD_REGISTER_UPDATE (R293): Committed drive parts are copied from shadow into the hold registers. -/
  | holdRegisterUpdate (bad : List (Nat × Nat))
  /-- FADE_TICK (R295): The 1 kHz fade tick advances fades and recomputes curve values and duties. -/
  | fadeTick
  /-- PWM_PERIOD_START (R288): A group period starts; each channel latches its on-time, with probes, repayment and cell changes. -/
  | pwmPeriodStart (g : Nat)
  /-- ROW_SLOT_START (R303): A matrix row slot starts with blanking, precharge and the lit row. -/
  | rowSlotStart (m : Nat)
  /-- CHANNEL_ENABLE (R299): GL_CHCFG.EN written 1 fades the channel from 0 to its held target. -/
  | channelEnable (n : Nat)
  /-- CHANNEL_DISABLE (R299): GL_CHCFG.EN written 0 holds the land low from its next period start. -/
  | channelDisable (n : Nat)
  /-- CHANNEL_FORCED_DISABLE (R300): FDIS with EN 0 drives the land low within 10 ns. -/
  | channelForcedDisable (n : Nat) (cut : Nat)
  /-- MATRIX_ENABLE (R304): GL_MXCFG.EN written 1 restarts the matrix. -/
  | matrixEnable (m : Nat)
  /-- MATRIX_DISABLE (R304): GL_MXCFG.EN written 0 holds its lands low from the next row slot. -/
  | matrixDisable (m : Nat)
  /-- MATRIX_FORCED_DISABLE (R304): FDIS holds the matrix lands low at once. -/
  | matrixForcedDisable (m : Nat) (cut : Nat)
  /-- BANK_SUPPLY_CHANGE (R305): A bank supply enters or leaves its range, driving or releasing its lands. -/
  | bankSupplyChange (g : Nat) (ok : Bool) (highv : Bool) (cut : Nat)
  /-- ADC_SAMPLE (R310): An ADC takes a sample of the slot channel and qualifies open and off-short observations. -/
  | adcSample (n : Nat) (conv : List Nat)
  /-- SHORT_COMPARATOR_TRIP (R312): The sense voltage crosses the short threshold and the land goes low. -/
  | shortComparatorTrip (n : Nat) (cut : Nat)
  /-- SHORT_RETRY (R315): SHRETRY seconds after a short latch, one period is retried. -/
  | shortRetry (n : Nat)
  /-- DIAG_CLEAR (R316): GL_CHDSTAT.CLR clears latched faults and counters. -/
  | diagClear (n : Nat)
  /-- CELL_PARITY_ERROR (R322): A channel cell stops on a parity error and the group's spare takes its land. -/
  | cellParityError (n : Nat) (cut : Nat)
  /-- CHANNEL_TEST (R324): GL_CHTEST.START moves a channel onto the spare and tests its cell. -/
  | channelTest (n : Nat) (force : Bool)
  /-- CHANNEL_TEST_DONE (R324): The cell test ends; the cell retakes the land or the spare is consumed. -/
  | channelTestDone (n : Nat) (pass : Bool)
  /-- ROTATION_TEST (R325): Every ROTATE minutes the next enabled channel is tested and free spares are checked. -/
  | rotationTest (spareOk : Bool)
  /-- ADC_REFERENCE_CHECK (R325): Once per second each ADC converts its internal reference. -/
  | adcReferenceCheck (a : Nat) (ok : Bool)
  /-- METER_REFRESH (R329): Metering values are refreshed every 10 ms and phase changes are reported. -/
  | meterRefresh (m : Nat) (phok : Nat) (rev : Nat) (seqWrong : Bool) (vals : List Int)
  /-- GALLERY_SAMPLE_EMIT (R330): An ADC port emits its GALLERY_SAMPLE frame at its Newel cycle. -/
  | gallerySampleEmit (a : Nat)
  /-- METERING_FRAME_EMIT (R331): A metering port emits its frame every 40 Newel cycles. -/
  | meteringFrameEmit (m : Nat)
  /-- TX_REQUEST_ARRIVAL (R345): A committed transmit request reaches the Loggia and is queued or refused. -/
  | txRequestArrival (now : Nat)
  /-- TX_START (R346): A free chain takes the first ready request that the tally admits and transmits it. -/
  | txStart (n : Nat) (now : Nat)
  /-- TX_END (R353): A transmission ends and a REPORT with outcome SENT is emitted. -/
  | txEnd (n : Nat) (now : Nat)
  /-- TX_LATE_START (R347): A timed request cannot begin within 100 µs of its start. -/
  | txLateStart (n : Nat) (now : Nat)
  /-- TX_DEADLINE (R347): A request not begun by its deadline ends with DROPPED_DEADLINE. -/
  | txDeadline (n : Nat) (now : Nat)
  /-- FRAME_RECEPTION (R353): A chain receives a frame and delivers it as a RECEIVE record or counts it. -/
  | frameReception (n : Nat) (rx : RxFrame)
  /-- TALLY_BUCKET (R348): A one-second bucket boundary ages the window and STATUS records are emitted. -/
  | tallyBucket (now : Nat)
  /-- CHAIN_ENABLE (R356): LG_CHCFG.EN written 1 starts the chain. -/
  | chainEnable (n : Nat)
  /-- CHAIN_DISABLE (R356): LG_CHCFG.EN written 0 completes the frame and returns queued requests. -/
  | chainDisable (n : Nat)
  /-- CHAIN_FORCED_DISABLE (R356): FDIS with EN 0 cuts a transmission within 10 µs. -/
  | chainForcedDisable (n : Nat) (now : Nat)
  /-- CHAIN_FAULT (R356): Synthesiser lock loss or loopback failure puts the chain into FAULT. -/
  | chainFault (n : Nat) (cause : Nat) (now : Nat)
  /-- CHAIN_RETRY (R356): A chain in FAULT is retried once per second. -/
  | chainRetry (n : Nat) (pass : Bool)
  /-- BEACON_INTERVAL (R371): The MAC commits each MESH chain's beacon and each COORD beacon. -/
  | beaconInterval
  /-- LOGGIA_REPORT (R377): A Loggia REPORT outcome is handled by the MAC. -/
  | loggiaReport (id : Nat) (outcome : Nat) (start : Nat) (air : Nat)
  /-- LOGGIA_STATUS_RECORD (R382): A Loggia STATUS record updates pressure and airtime knowledge. -/
  | loggiaStatusRecord (n : Nat) (flags : Nat) (sum : Nat) (budget : Nat)
  /-- NODE_DATA (R368): A node DATA frame is checked by counter and MIC and passed on in MESH_UP. -/
  | nodeData (n : Nat) (a : Nat) (ctr : Nat) (mic : Bool) (ts : Nat) (data : List Byte)
  /-- NODE_ACK (R380): A node ACK confirms delivery and gives a wake observation. -/
  | nodeAck (n : Nat) (a : Nat) (ctr : Nat) (mic : Bool) (ts : Nat) (acked : Nat) (us : Nat)
  /-- JOIN_REQ (R375): A join request is checked and answered with JOIN_RESP, or refused. -/
  | joinReq (n : Nat) (eui : Nat) (ctr : Nat) (mic : Bool)
  /-- REJOIN_REQ (R385): A rejoin request assigns a free slot for an adopted or returning node. -/
  | rejoinReq (n : Nat) (eui : Nat) (ctr : Nat) (mic : Bool)
  /-- NODE_STATUS (R373): A node STATUS updates points, reach confirmation and link-loss handling. -/
  | nodeStatus (n : Nat) (a : Nat) (ctr : Nat) (mic : Bool) (ts : Nat) (p : List Byte)
  /-- NODE_LOST (R376): A node sends no accepted frame in NODELOST periods and is LOST. -/
  | nodeLost (a : Nat)
  /-- SLEEPY_DEADLINE (R382): A held frame to a sleepy partner passes its deadline and is dropped. -/
  | sleepyDeadline (a : Nat) (seq : Nat)
  /-- COORD_RX (R384): A peer's coordination beacon is received. -/
  | coordRx (ts : Nat) (serial : Nat) (groups : List Nat) (boundary : Nat) (mic : Bool)
  /-- PEER_COORD_MISS (R385): A peer coordination beacon window passes without a valid COORD. -/
  | peerCoordMiss (p : Nat)
  /-- HANDBACK_BOUNDARY (R386): At the hand-back boundary the adopter stops serving returned groups. -/
  | handbackBoundary
  /-- ANNOUNCE_RX (R398): A PTP Announce is received and the master is selected. -/
  | announceRx (ident : Nat) (domain : Nat) (rank : List Nat)
  /-- SYNC_RX (R400): A PTP Sync gives an offset sample to the servo. -/
  | syncRx (now : Nat) (ident : Nat) (m : Nat) (seq : Nat) (two : Bool) (ovr : Bool) (t1 : Int)
  /-- FOLLOW_UP_RX (R400): A PTP Follow_Up provides the origin time of a two-step Sync. -/
  | followUpRx (ident : Nat) (seq : Nat) (t1 : Int)
  /-- DELAY_REQ_SEND (R399): A Delay_Req is sent with its inserted timestamp. -/
  | delayReqSend (now : Nat)
  /-- DELAY_RESP_RX (R400): A PTP Delay_Resp updates the mean path delay. -/
  | delayRespRx (ident : Nat) (t4 : Int)
  /-- SYNC_TIMEOUT (R401): No Sync for 4 intervals or an announce timeout moves the servo to HOLDOVER or FREE. -/
  | syncTimeout
  /-- PTP_ENABLE (R398): FY_PTPCFG.EN written 1 starts the servo. -/
  | ptpEnable
  /-- PTP_DISABLE (R401): FY_PTPCFG.EN written 0 moves the servo to FREE. -/
  | ptpDisable
  /-- TRUST_EXPIRY (R397): The trust period of the time source expires and the source becomes none. -/
  | trustExpiry
  /-- CYCLE_MARK (R404): A cycle mark arrives at the Foyer and every fourth gives a TIME_MAP. -/
  | cycleMark (now : Nat)
  /-- ALARM_ARM (R408): A write of FY_TALCMPHI arms a Foyer time alarm. -/
  | alarmArm (n : Nat) (v : W32)
  /-- ALARM_FIRE (R408): System time reaches an armed alarm's CMP. -/
  | alarmFire (now : Nat) (n : Nat)
  /-- RTC_WRITE (R412): Every 10 minutes of trusted time the RTC is written from system time. -/
  | rtcWrite (now : Nat)
  /-- RTC_SHADOW_COPY (R413): A read of FY_RTCSUB copies prescaler, count and calendar into shadows. -/
  | rtcShadowCopy (mgmt : Bool) (ticks : Nat)
  /-- RTC_SHADOW_RELEASE (R413): A read of FY_RTCCAL1 releases the shadows. -/
  | rtcShadowRelease (mgmt : Bool)
  /-- RTC_SHADOW_TIMEOUT (R413): Shadows are released 1 ms after the copy. -/
  | rtcShadowTimeout (mgmt : Bool)
  /-- RAW_READ_LATCH (R418): A read of FY_TBRAWLO latches FY_TBRAWHI. -/
  | rawReadLatch (now : Nat)
  /-- TIME_READ_LATCH (R418): A read of FY_TIMELO latches the high word and fraction. -/
  | timeReadLatch (now : Nat)
  /-- OPSEC_READ_LATCH (R418): A read of FY_OPSECLO latches FY_OPSECHI. -/
  | opsecReadLatch (now : Nat)
  /-- BACKUP_DOMAIN_LOSS (R409): The backup domain falls below 1.6 V, setting BKLOST and OSF. -/
  | backupDomainLoss
  /-- BACKUP_SUPPLY_SWITCH (R416): The backup domain switches between VBAT and the main rail. -/
  | backupSupplySwitch (onBat : Bool) (mv : Nat)
  /-- OSCILLATOR_STOP (R411): The 32.768 kHz crystal stops for more than 4 cycles; OSF is set. -/
  | oscillatorStop
  /-- OPSEC_CHECKPOINT (R415): Operating seconds and time are checkpointed every 10 minutes. -/
  | opsecCheckpoint (now : Nat)
  /-- NBR_CHECKPOINT (R368): Node counter entries are checkpointed every 10 minutes. -/
  | nbrCheckpoint
  /-- TXCTR_CHECKPOINT (R369): FL_MACTXCTR is read and checkpointed every 60 s. -/
  | txctrCheckpoint
  /-- TURN_CHECKPOINT (R247): Turn counters are checkpointed after each ageing and every 6 h. -/
  | turnCheckpoint
  /-- HOST_READ (R421): Host port command 0x0B reads words with a status byte. -/
  | hostRead (now : Nat) (addr : Nat) (len : Nat)
  /-- HOST_WRITE (R421): Host port command 0x02 writes registers or the host window. -/
  | hostWrite (addr : Nat) (bytes : List Byte)
  /-- HOST_STAT (R422): Host port command 0x05 returns and clears the sticky status. -/
  | hostStat
  /-- HOST_UNKNOWN_COMMAND (R421): An unknown command byte is ignored and counted with E_CMD. -/
  | hostUnknownCommand
  /-- HPSESS_BIND (R426): A write of FY_HPSESS binds a host-port session to direct accesses. -/
  | hpsessBind (v : W32)
  /-- ALCOVE_TAG_WRITE (R429): The sender's TAG write sets FULL and starts the timer, after checks. -/
  | alcoveTagWrite (a : Nat) (tag : Nat)
  /-- ALCOVE_EMPTY (R429): The receiver writes 1 to FULL and empties the alcove. -/
  | alcoveEmpty (a : Nat)
  /-- ALCOVE_TIMEOUT (R431): FULL is still set after TMO ms; TIMEOUT is set. -/
  | alcoveTimeout (a : Nat)
  /-- ALCOVE_TIMEOUT_CLEAR (R431): The sender writes 1 to TIMEOUT to clear it. -/
  | alcoveTimeoutClear (a : Nat)
  /-- LANDING_DATA_WRITE (R434): Bytes written to FY_LDDATA fill the packer and queue continuation items. -/
  | landingDataWrite (n : Nat) (bytes : List Byte)
  /-- LANDING_EOP_WRITE (R434): Bytes written to FY_LDEOP end a packet with its last item. -/
  | landingEopWrite (n : Nat) (bytes : List Byte)
  /-- LANDING_ABORT (R435): FY_LDCTL.ABORT discards the held bytes and may queue an abort item. -/
  | landingAbort (n : Nat)
  /-- LANDING_DROP (R436): The Foyer discards the rest of the current packet. -/
  | landingDrop (n : Nat)
  /-- LANDING_READ (R437): A read of FY_LDDATA of landings 4 to 7 pops a word or reports EMPTY. -/
  | landingRead (n : Nat)
  /-- EVENT_VECTOR_READ (R439): A read of FY_EVVEC delivers the highest-priority pending source and clears it. -/
  | eventVectorRead
  /-- EVENT_PEND_CLEAR (R439): A write of FY_EVPEND clears host-routed pending sources. -/
  | eventPendClear (w : Nat) (v : W32)
  /-- EVENT_RAISE (R518): An event is raised, sets its host source and takes an event landing entry. -/
  | eventRaise (ev : Ev)
  /-- PROXY_READ (R456): FY_CRPCTL.READ sends a REG_READ for the bound session. -/
  | proxyRead (v : W32)
  /-- PROXY_WRITE (R456): FY_CRPCTL.WRITE sends a REG_WRITE from FY_CRPDATA. -/
  | proxyWrite (v : W32)
  /-- HELLO (R444): An FMP HELLO is checked and answered with HELLO_REPLY or REFUSE. -/
  | hello (udp : Bool) (channel : Nat) (tag : Nat) (body : List Byte)
  /-- FINISH (R444): An FMP FINISH is verified, keys are derived and the session opens. -/
  | finish (udp : Bool) (channel : Nat) (tag : Nat) (session : Nat) (sigOk : Bool)
  /-- HANDSHAKE_TIMEOUT (R444): No FINISH arrives within 5 s; the handshake fails. -/
  | handshakeTimeout (session : Nat)
  /-- LOCKOUT_EXPIRY (R444): The 60 s lockout of a client entry ends. -/
  | lockoutExpiry (entry : Nat)
  /-- FMP_DATA_RECORD (R446): An FMP DATA record is authenticated, checked by sequence and joined into a message. -/
  | fmpDataRecord (udp : Bool) (channel : Nat) (session : Nat) (seq : Nat) (ok : Bool) (msg : List Byte) (tag : Nat)
  /-- SESSION_IDLE_TIMEOUT (R447): A session without an accepted record for 120 s closes. -/
  | sessionIdleTimeout (session : Nat)
  /-- FMP_STATUS (R449): FMP op 0x01 returns module, Newel and time-base status. -/
  | fmpStatus (session : Nat) (id : Nat)
  /-- KEEPALIVE (R449): FMP op 0x02 keeps a session alive. -/
  | keepalive (session : Nat) (id : Nat)
  /-- CLOSE (R449): FMP op 0x03 replies and closes the session. -/
  | close (session : Nat) (id : Nat)
  /-- FMP_POINT_READ (R134): FMP op 0x10 is checked for role and forwarded as POINT_READ. -/
  | fmpPointRead (session : Nat) (id : Nat)
  /-- FMP_POINT_WRITE (R134): FMP op 0x11 is checked for role and forwarded as POINT_WRITE. -/
  | fmpPointWrite (session : Nat) (id : Nat)
  /-- FMP_FORCE_SET (R134): FMP op 0x13 is checked for role and forwarded as FORCE_SET. -/
  | fmpForceSet (session : Nat) (id : Nat)
  /-- FMP_REG_READ (R450): FMP op 0x20 is forwarded as REG_READ. -/
  | fmpRegRead (session : Nat) (id : Nat)
  /-- FMP_REG_WRITE (R450): FMP op 0x21 is forwarded as REG_WRITE. -/
  | fmpRegWrite (session : Nat) (id : Nat)
  /-- LREG_READ (R449): FMP op 0x22 reads host registers in the Foyer. -/
  | lregRead (session : Nat) (id : Nat)
  /-- TIME_STEP (R403): FMP op 0x30 steps system time. -/
  | timeStep (now : Nat) (session : Nat) (id : Nat)
  /-- TIME_SET (R403): FMP op 0x31 sets system time as a step. -/
  | timeSet (now : Nat) (session : Nat) (id : Nat)
  /-- FMP_MESH_DOWN (R388): FMP op 0x40 is forwarded as MESH_DOWN. -/
  | fmpMeshDown (session : Nat) (id : Nat)
  /-- ATTEST (R479): FMP op 0x50 returns a signed attestation statement. -/
  | attest (session : Nat) (id : Nat)
  /-- KEY_INFO (R480): FMP op 0x51 returns a slot's attribute record. -/
  | keyInfo (session : Nat) (id : Nat)
  /-- KEY_PREPARE (R468): FMP op 0x52 places new material in a slot's pending store. -/
  | keyPrepare (session : Nat) (id : Nat)
  /-- KEY_COMMIT (R468): FMP op 0x53 commits pending material and raises the generation. -/
  | keyCommit (session : Nat) (id : Nat)
  /-- KEY_ABORT (R470): FMP op 0x54 discards a pending value. -/
  | keyAbort (session : Nat) (id : Nat)
  /-- KEY_INVALIDATE (R465): FMP op 0x55 erases a slot and makes its descendants stale. -/
  | keyInvalidate (session : Nat) (id : Nat)
  /-- KEY_EXPORT (R471): FMP op 0x56 exports a slot as a wrapped blob. -/
  | keyExport (session : Nat) (id : Nat)
  /-- STREAM_BLOCK (R466): A block of a streaming crypto context is processed or refused as stale. -/
  | streamBlock (ctx : Nat) (slot : Nat) (use : Nat) (len : Nat) (fin : Bool) (ue : Option (Nat × Nat))
  /-- CONTEXT_IDLE_TIMEOUT (R466): A streaming context with no block for 10 s is closed. -/
  | contextIdleTimeout (ctx : Nat)
  /-- TRNG_HEALTH_FAIL (R474): A health test fails; the DRBG stops and the start-up test reruns. -/
  | trngHealthFail (test : Nat)
  /-- DRBG_RESEED (R473): The DRBG is reseeded every 1,024 requests and every 60 s. -/
  | drbgReseed
  /-- ARCADE_READ (R523): FMP op 0x58 returns records from a sequence. -/
  | arcadeRead (session : Nat) (id : Nat)
  /-- ARCADE_CLEAR_NONCE (R523): ARCADE_CLEAR action 0 returns a clear nonce. -/
  | arcadeClearNonce (session : Nat) (id : Nat)
  /-- ARCADE_CLEAR (R525): ARCADE_CLEAR action 1 clears a signed range and writes the clear records. -/
  | arcadeClear (session : Nat) (id : Nat) (sigOk : Bool)
  /-- RESTART (R449): FMP op 0x70 orders a field restart of the named kind. -/
  | restart (session : Nat) (id : Nat)
  /-- UPD_BEGIN (R489): FMP op 0x60 checks an image header and starts or resumes a download. -/
  | updBegin (session : Nat) (id : Nat) (vendorOk : Bool) (operatorOk : Bool) (unwraps : Bool)
  /-- UPD_BLOCK (R490): FMP op 0x61 writes and reads back a payload block. -/
  | updBlock (session : Nat) (id : Nat) (readOk : Bool)
  /-- UPD_STATUS (R509): FMP op 0x62 returns slot states and the bitmap. -/
  | updStatus (session : Nat) (id : Nat)
  /-- UPD_VERIFY (R491): FMP op 0x63 decrypts and checks a whole payload. -/
  | updVerify (session : Nat) (id : Nat) (tagOk : Bool) (plain : List Byte)
  /-- UPD_ACTIVATE (R496): FMP op 0x64 forms a campaign and runs its steps. -/
  | updActivate (session : Nat) (id : Nat)
  /-- UPD_CONFIRM (R501): FMP op 0x65 confirms a campaign in trial. -/
  | updConfirm (session : Nat) (id : Nat)
  /-- UPD_REVERT (R503): FMP op 0x66 reverts a campaign in trial. -/
  | updRevert (session : Nat) (id : Nat)
  /-- UPD_ABORT (R493): FMP op 0x67 empties a slot being downloaded. -/
  | updAbort (session : Nat) (id : Nat)
  /-- UPD_DISTRIBUTE (R506): FMP op 0x68 sends node or station firmware to its targets. -/
  | updDistribute (session : Nat) (id : Nat)
  /-- AUTO_CONFIRM (R501): 10 minutes in SERVICE confirm a campaign in trial. -/
  | autoConfirm
  /-- STANDBY_WAIT_TIMEOUT (R508): No STANDBY within 60 s of step 3; the campaign reverts. -/
  | standbyWaitTimeout
  /-- CAMPAIGN_CORRIDOR_TIMEOUT (R508): The Corridor stays lost for 10 s during a live step; the campaign reverts. -/
  | campaignCorridorTimeout
  /-- FLASH_SCRUB (R533): Hourly the Foyer rechecks one stored slot for degradation. -/
  | flashScrub (ok : Bool)
  /-- JOURNAL_ARCHIVE (R536): Daily and at confirmation the archived partitions are written to the older archive copy. -/
  | journalArchive
  /-- ARCADE_RECORD_FORM (R518): The Foyer forms a record from the event landing into the buffer. -/
  | arcadeRecordForm
  /-- ARCADE_FLUSH_TIMER (R520): 60 s after the last flush, with records buffered, a flush starts. -/
  | arcadeFlushTimer
  /-- ARCADE_FLUSH_DONE (R520): The buffer is empty and the flush ends. -/
  | arcadeFlushDone
  /-- ETH_LINK_CHANGE (R455): An Ethernet link goes up or down. -/
  | ethLinkChange (port : Nat) (up : Bool)
  /-- GATEWAY_PROBE (R455): The gateway is probed every 1 s and the active port may switch. -/
  | gatewayProbe (port : Nat) (answered : Bool)
  /-- ETH_REVERT (R455): With REVERT 1, port 0 becomes active again after 60 s of health. -/
  | ethRevert
  /-- ETH_FRAME_RX (R454): An Ethernet frame is answered if ARP, neighbour solicitation or echo, passed on if UDP 48211 or PTP, or discarded. -/
  | ethFrameRx (now : Nat) (port : Nat) (kind : Nat) (vid : Nat) (family : Nat) (src : List Byte) (addressed : Bool) (fragment : Bool) (ue : Option (Nat × Nat))
  /-- FLIGHT_SUPPLY_OUT_OF_RANGE (R99): A supply rail of a flight leaves its range at the Newel's supply monitors, giving fault SUPPLY of that flight. -/
  | flightSupplyOutOfRange (f : Flt)
  /-- CORRIDOR_CRC_ERROR (R39): A Corridor message with a CRC error arrives and is negatively acknowledged by the receiver. -/
  | corridorCrcError (toHost : Bool) (ue : Option (Nat × Nat))
  /-- CORRIDOR_REPLY (R41): A field-to-host REPLY arrives at the Foyer, ends its reply time and is passed to the originating FMP request or to the proxy registers. -/
  | corridorReply (seq : Nat) (answers : Nat) (status : Nat) (payload : List Byte)
  /-- STATION_FIRMWARE_REPLY (R507): A station answers a firmware transfer request with a reply of type 0x90 to 0x93. -/
  | stationFirmwareReply (n : Nat) (parity : Bool) (bs : List Byte)
  /-- MICROCODE_RELOAD_DONE (R497): The Gallery or the Loggia finishes reloading its microcode and resumes output, qualification or radio operation. -/
  | microcodeReloadDone (loggia : Bool)
  /-- TRNG_STARTUP_DONE (R474): The TRNG start-up test of 1,024 samples passes, so the TRNG becomes healthy and the DRBG resumes. -/
  | trngStartupDone
  /-- POWER_WARNING_FLUSH_DONE (R60): The journal flush begun at the power-warning edge completes, EV_FY_PWRWARN_FLUSH is written, and normal journal writes resume if the land is high. -/
  | powerWarningFlushDone (now : Nat)
  /-- ACTIVE_LINK_DOWN_TIMEOUT (R455): The active Ethernet link has been down for 500 ms while the other link is up, so the active port switches within 100 ms. -/
  | activeLinkDownTimeout
  deriving DecidableEq, Repr

end Sys2Proof
end

