-- ==== Sys2Proof/Decode.lean ====
section
/-! DEFINITION. Decoding. The opcode table gives its rows no bits, so `decodeTableWord` spells no command. The one
encoding the spec gives is that of KZL program words (07 R184 to R187, R195): `kzlDecode` reads a KZL instruction from
its word and the word that follows it, and `kzlEncode` writes it. -/

namespace Sys2Proof

open Machine

/-- The command a word spells by the table's bits: the table gives no row any bits. [log 3 DESIGN CHOICE] -/
def decodeTableWord (_nbits _w : Nat) : Option Instr := none

namespace Machine

/-- How an opcode uses its space and address fields (07 R184 to R186). -/
inductive KzKind where
  | free | bit | word | quality | jump | call | trap
  deriving DecidableEq, Repr

/-- The opcodes with their kind and the spaces that R187 accepts (07 R195). -/
def kzTable : List (Nat × KzKind × List Nat) := [
  (0x00, .free, [0]),
  (0x01, .bit, [0, 1, 2, 3, 4, 5, 6, 7, 9]),
  (0x02, .bit, [0, 1, 2, 3, 4, 5, 6, 7, 9]),
  (0x03, .bit, [0, 1, 2, 3, 4, 5, 6, 7, 9]),
  (0x04, .bit, [0, 1, 2, 3, 4, 5, 6, 7, 9]),
  (0x05, .bit, [0, 1, 2, 3, 4, 5, 6, 7, 9]),
  (0x06, .bit, [0, 1, 2, 3, 4, 5, 6, 7, 9]),
  (0x07, .bit, [0, 1, 2, 3, 4, 5, 6, 7, 9]),
  (0x08, .bit, [0, 1, 2, 3, 4, 5, 6, 7, 9]),
  (0x0A, .free, [0]),
  (0x0B, .free, [0]),
  (0x0C, .free, [0]),
  (0x0D, .free, [0]),
  (0x0E, .free, [0]),
  (0x0F, .free, [0]),
  (0x10, .free, [0]),
  (0x11, .free, [0]),
  (0x12, .free, [0]),
  (0x13, .free, [0]),
  (0x14, .bit, [1, 2, 3, 4, 7]),
  (0x15, .bit, [1, 2, 3, 4, 6, 7]),
  (0x16, .bit, [1, 2, 3, 4, 5, 6, 7]),
  (0x18, .bit, [1, 3, 7]),
  (0x19, .bit, [1, 3, 7]),
  (0x1C, .quality, [1, 2, 4]),
  (0x20, .word, [0, 1, 2, 3, 4, 5, 6, 7, 8]),
  (0x21, .word, [1, 2, 3, 4, 7]),
  (0x22, .word, [1, 2, 4, 5, 6]),
  (0x24, .free, [0]),
  (0x28, .word, [0, 1, 2, 3, 4, 5, 6, 7, 8]),
  (0x29, .word, [0, 1, 2, 3, 4, 5, 6, 7, 8]),
  (0x2A, .word, [0, 1, 2, 3, 4, 5, 6, 7, 8]),
  (0x2B, .word, [0, 1, 2, 3, 4, 5, 6, 7, 8]),
  (0x2C, .word, [0, 1, 2, 3, 4, 5, 6, 7, 8]),
  (0x2D, .word, [0, 1, 2, 3, 4, 5, 6, 7, 8]),
  (0x2E, .word, [0, 1, 2, 3, 4, 5, 6, 7, 8]),
  (0x2F, .word, [0, 1, 2, 3, 4, 5, 6, 7, 8]),
  (0x30, .word, [0, 1, 2, 3, 4, 5, 6, 7, 8]),
  (0x31, .word, [0, 1, 2, 3, 4, 5, 6, 7, 8]),
  (0x32, .word, [0, 1, 2, 3, 4, 5, 6, 7, 8]),
  (0x33, .free, [0]),
  (0x34, .free, [0]),
  (0x35, .word, [0, 1, 2, 3, 4, 5, 6, 7, 8]),
  (0x38, .word, [0, 1, 2, 3, 4, 5, 6, 7, 8]),
  (0x39, .word, [0, 1, 2, 3, 4, 5, 6, 7, 8]),
  (0x3A, .word, [0, 1, 2, 3, 4, 5, 6, 7, 8]),
  (0x3B, .free, [0]),
  (0x3C, .word, [0, 1, 2, 3, 4, 5, 6, 7, 8]),
  (0x3D, .word, [0, 1, 2, 3, 4, 5, 6, 7, 8]),
  (0x3E, .word, [0, 1, 2, 3, 4, 5, 6, 7, 8]),
  (0x40, .word, [0, 1, 2, 3, 4, 5, 6, 7, 8]),
  (0x41, .word, [0, 1, 2, 3, 4, 5, 6, 7, 8]),
  (0x42, .word, [0, 1, 2, 3, 4, 5, 6, 7, 8]),
  (0x43, .word, [0, 1, 2, 3, 4, 5, 6, 7, 8]),
  (0x44, .word, [0, 1, 2, 3, 4, 5, 6, 7, 8]),
  (0x45, .word, [0, 1, 2, 3, 4, 5, 6, 7, 8]),
  (0x46, .word, [0, 1, 2, 3, 4, 5, 6, 7, 8]),
  (0x47, .word, [0, 1, 2, 3, 4, 5, 6, 7, 8]),
  (0x48, .word, [0, 1, 2, 3, 4, 5, 6, 7, 8]),
  (0x49, .word, [0, 1, 2, 3, 4, 5, 6, 7, 8]),
  (0x50, .bit, [5]),
  (0x51, .bit, [5]),
  (0x52, .bit, [5]),
  (0x54, .bit, [6]),
  (0x55, .bit, [6]),
  (0x58, .jump, [0]),
  (0x59, .jump, [0]),
  (0x5A, .jump, [0]),
  (0x5B, .jump, [0]),
  (0x5C, .jump, [0]),
  (0x60, .call, [0]),
  (0x61, .call, [0]),
  (0x62, .free, [0]),
  (0x63, .free, [0]),
  (0x70, .trap, [0])]

/-- The row of an opcode; none for a reserved opcode (07 R195). -/
def kzRow (op : Nat) : Option (KzKind × List Nat) := (kzTable.find? (·.1 == op)).map (·.2)

/-- Bit addresses that R185 and R186 allow in a space. -/
def kzBitAddr (sp addr : Nat) : Bool :=
  match sp with
  | 0 => addr < 2
  | 1 | 2 | 4 => addr < 2 ^ 21
  | 3 => addr < 65536
  | 5 | 6 => addr < 1024
  | 7 => addr < 8192
  | 9 => addr < 5
  | _ => false

/-- Word addresses that R185 and R186 allow in a space. -/
def kzWordAddr (sp addr : Nat) : Bool :=
  match sp with
  | 0 => addr == 0
  | 1 | 2 | 4 => addr < 2 ^ 21 && addr % 32 == 0
  | 3 => addr < 65536 && addr % 32 == 0
  | 5 | 6 => addr < 1024
  | 7 => addr < 8192 && addr % 32 == 0
  | 8 => addr == 0
  | _ => false

/-- Whether R187 accepts the encoding, as far as one instruction shows it. -/
def kzLegal (op sp addr : Nat) : Bool :=
  match kzRow op with
  | none => false
  | some (k, sps) =>
    sps.contains sp && match k with
      | .free => addr == 0
      | .bit => kzBitAddr sp addr
      | .word => kzWordAddr sp addr
      | .quality => addr < 2 ^ 21 && (addr % 32 < 6 || addr % 32 == 8)
      | .jump => addr < 2 ^ 21
      | .call => addr < 4096
      | .trap => addr < 256

/-- The word of an instruction (07 R184). -/
def kzWord (op sp addr : Nat) : W32 := BitVec.ofNat 32 (op * 2 ^ 25 + sp * 2 ^ 21 + addr)

/-- The fields of a KZL command: opcode, space, address, and its constant. None for a command that is no KZL
instruction. -/
def kzFields : Instr → Option (Nat × Nat × Nat × W32)
  | .kzNop _ _ => some (0x00, 0, 0, 0)
  | .kzLb _ _ sp addr => some (0x01, sp, addr, 0)
  | .kzLbn _ _ sp addr => some (0x02, sp, addr, 0)
  | .kzAb _ _ sp addr => some (0x03, sp, addr, 0)
  | .kzAbn _ _ sp addr => some (0x04, sp, addr, 0)
  | .kzOb _ _ sp addr => some (0x05, sp, addr, 0)
  | .kzObn _ _ sp addr => some (0x06, sp, addr, 0)
  | .kzXb _ _ sp addr => some (0x07, sp, addr, 0)
  | .kzXbn _ _ sp addr => some (0x08, sp, addr, 0)
  | .kzGa _ _ => some (0x0A, 0, 0, 0)
  | .kzGan _ _ => some (0x0B, 0, 0, 0)
  | .kzGo _ _ => some (0x0C, 0, 0, 0)
  | .kzGon _ _ => some (0x0D, 0, 0, 0)
  | .kzGx _ _ => some (0x0E, 0, 0, 0)
  | .kzGxn _ _ => some (0x0F, 0, 0, 0)
  | .kzGe _ _ => some (0x10, 0, 0, 0)
  | .kzNot _ _ => some (0x11, 0, 0, 0)
  | .kzSet _ _ => some (0x12, 0, 0, 0)
  | .kzClr _ _ => some (0x13, 0, 0, 0)
  | .kzStb _ _ sp addr => some (0x14, sp, addr, 0)
  | .kzSb _ _ sp addr => some (0x15, sp, addr, 0)
  | .kzRb _ _ sp addr => some (0x16, sp, addr, 0)
  | .kzEdr _ _ sp addr => some (0x18, sp, addr, 0)
  | .kzEdf _ _ sp addr => some (0x19, sp, addr, 0)
  | .kzQt _ _ sp addr => some (0x1C, sp, addr, 0)
  | .kzLd _ _ sp addr k => some (0x20, sp, addr, k)
  | .kzSt _ _ sp addr => some (0x21, sp, addr, 0)
  | .kzLds _ _ sp addr => some (0x22, sp, addr, 0)
  | .kzClrs _ _ => some (0x24, 0, 0, 0)
  | .kzAdd _ _ sp addr k => some (0x28, sp, addr, k)
  | .kzSub _ _ sp addr k => some (0x29, sp, addr, k)
  | .kzMul _ _ sp addr k => some (0x2A, sp, addr, k)
  | .kzDiv _ _ sp addr k => some (0x2B, sp, addr, k)
  | .kzMod _ _ sp addr k => some (0x2C, sp, addr, k)
  | .kzAddu _ _ sp addr k => some (0x2D, sp, addr, k)
  | .kzSubu _ _ sp addr k => some (0x2E, sp, addr, k)
  | .kzAddw _ _ sp addr k => some (0x2F, sp, addr, k)
  | .kzSubw _ _ sp addr k => some (0x30, sp, addr, k)
  | .kzMin _ _ sp addr k => some (0x31, sp, addr, k)
  | .kzMax _ _ sp addr k => some (0x32, sp, addr, k)
  | .kzNeg _ _ => some (0x33, 0, 0, 0)
  | .kzAbs _ _ => some (0x34, 0, 0, 0)
  | .kzMuldiv _ _ sp addr k => some (0x35, sp, addr, k)
  | .kzAnd _ _ sp addr k => some (0x38, sp, addr, k)
  | .kzOr _ _ sp addr k => some (0x39, sp, addr, k)
  | .kzXor _ _ sp addr k => some (0x3A, sp, addr, k)
  | .kzInv _ _ => some (0x3B, 0, 0, 0)
  | .kzShl _ _ sp addr k => some (0x3C, sp, addr, k)
  | .kzShr _ _ sp addr k => some (0x3D, sp, addr, k)
  | .kzSar _ _ sp addr k => some (0x3E, sp, addr, k)
  | .kzCeq _ _ sp addr k => some (0x40, sp, addr, k)
  | .kzCne _ _ sp addr k => some (0x41, sp, addr, k)
  | .kzClt _ _ sp addr k => some (0x42, sp, addr, k)
  | .kzCle _ _ sp addr k => some (0x43, sp, addr, k)
  | .kzCgt _ _ sp addr k => some (0x44, sp, addr, k)
  | .kzCge _ _ sp addr k => some (0x45, sp, addr, k)
  | .kzCltu _ _ sp addr k => some (0x46, sp, addr, k)
  | .kzCleu _ _ sp addr k => some (0x47, sp, addr, k)
  | .kzCgtu _ _ sp addr k => some (0x48, sp, addr, k)
  | .kzCgeu _ _ sp addr k => some (0x49, sp, addr, k)
  | .kzTon _ _ addr => some (0x50, 5, addr, 0)
  | .kzTof _ _ addr => some (0x51, 5, addr, 0)
  | .kzTp _ _ addr => some (0x52, 5, addr, 0)
  | .kzCtu _ _ addr => some (0x54, 6, addr, 0)
  | .kzCtd _ _ addr => some (0x55, 6, addr, 0)
  | .kzJmp _ _ addr => some (0x58, 0, addr, 0)
  | .kzJt _ _ addr => some (0x59, 0, addr, 0)
  | .kzJf _ _ addr => some (0x5A, 0, addr, 0)
  | .kzJz _ _ addr => some (0x5B, 0, addr, 0)
  | .kzJnz _ _ addr => some (0x5C, 0, addr, 0)
  | .kzCall _ _ addr => some (0x60, 0, addr, 0)
  | .kzCallt _ _ addr => some (0x61, 0, addr, 0)
  | .kzRet _ _ => some (0x62, 0, 0, 0)
  | .kzRett _ _ => some (0x63, 0, 0, 0)
  | .kzTrap _ _ addr => some (0x70, 0, addr, 0)
  | _ => none

/-- Whether the instruction of these fields is followed by a constant word (07 R184). -/
def kzHasConst (op sp : Nat) : Bool :=
  sp == 0 && match kzRow op with
    | some (.word, _) => true
    | _ => false

/-- A KZL instruction in words: its word, and the constant that follows a word instruction of space K (07 R184). -/
def kzlEncode (i : Instr) : Option (W32 × Option W32) :=
  match kzFields i with
  | some (op, sp, addr, k) => some (kzWord op sp addr, if kzHasConst op sp then some k else none)
  | none => none

/-- The command of an accepted encoding on a Tread. -/
def kzInstr (f : Flt) (t op sp addr : Nat) (k : W32) : Option Instr :=
  match op with
  | 0x00 => some (.kzNop f t)
  | 0x01 => some (.kzLb f t sp addr)
  | 0x02 => some (.kzLbn f t sp addr)
  | 0x03 => some (.kzAb f t sp addr)
  | 0x04 => some (.kzAbn f t sp addr)
  | 0x05 => some (.kzOb f t sp addr)
  | 0x06 => some (.kzObn f t sp addr)
  | 0x07 => some (.kzXb f t sp addr)
  | 0x08 => some (.kzXbn f t sp addr)
  | 0x0A => some (.kzGa f t)
  | 0x0B => some (.kzGan f t)
  | 0x0C => some (.kzGo f t)
  | 0x0D => some (.kzGon f t)
  | 0x0E => some (.kzGx f t)
  | 0x0F => some (.kzGxn f t)
  | 0x10 => some (.kzGe f t)
  | 0x11 => some (.kzNot f t)
  | 0x12 => some (.kzSet f t)
  | 0x13 => some (.kzClr f t)
  | 0x14 => some (.kzStb f t sp addr)
  | 0x15 => some (.kzSb f t sp addr)
  | 0x16 => some (.kzRb f t sp addr)
  | 0x18 => some (.kzEdr f t sp addr)
  | 0x19 => some (.kzEdf f t sp addr)
  | 0x1C => some (.kzQt f t sp addr)
  | 0x20 => some (.kzLd f t sp addr k)
  | 0x21 => some (.kzSt f t sp addr)
  | 0x22 => some (.kzLds f t sp addr)
  | 0x24 => some (.kzClrs f t)
  | 0x28 => some (.kzAdd f t sp addr k)
  | 0x29 => some (.kzSub f t sp addr k)
  | 0x2A => some (.kzMul f t sp addr k)
  | 0x2B => some (.kzDiv f t sp addr k)
  | 0x2C => some (.kzMod f t sp addr k)
  | 0x2D => some (.kzAddu f t sp addr k)
  | 0x2E => some (.kzSubu f t sp addr k)
  | 0x2F => some (.kzAddw f t sp addr k)
  | 0x30 => some (.kzSubw f t sp addr k)
  | 0x31 => some (.kzMin f t sp addr k)
  | 0x32 => some (.kzMax f t sp addr k)
  | 0x33 => some (.kzNeg f t)
  | 0x34 => some (.kzAbs f t)
  | 0x35 => some (.kzMuldiv f t sp addr k)
  | 0x38 => some (.kzAnd f t sp addr k)
  | 0x39 => some (.kzOr f t sp addr k)
  | 0x3A => some (.kzXor f t sp addr k)
  | 0x3B => some (.kzInv f t)
  | 0x3C => some (.kzShl f t sp addr k)
  | 0x3D => some (.kzShr f t sp addr k)
  | 0x3E => some (.kzSar f t sp addr k)
  | 0x40 => some (.kzCeq f t sp addr k)
  | 0x41 => some (.kzCne f t sp addr k)
  | 0x42 => some (.kzClt f t sp addr k)
  | 0x43 => some (.kzCle f t sp addr k)
  | 0x44 => some (.kzCgt f t sp addr k)
  | 0x45 => some (.kzCge f t sp addr k)
  | 0x46 => some (.kzCltu f t sp addr k)
  | 0x47 => some (.kzCleu f t sp addr k)
  | 0x48 => some (.kzCgtu f t sp addr k)
  | 0x49 => some (.kzCgeu f t sp addr k)
  | 0x50 => some (.kzTon f t addr)
  | 0x51 => some (.kzTof f t addr)
  | 0x52 => some (.kzTp f t addr)
  | 0x54 => some (.kzCtu f t addr)
  | 0x55 => some (.kzCtd f t addr)
  | 0x58 => some (.kzJmp f t addr)
  | 0x59 => some (.kzJt f t addr)
  | 0x5A => some (.kzJf f t addr)
  | 0x5B => some (.kzJz f t addr)
  | 0x5C => some (.kzJnz f t addr)
  | 0x60 => some (.kzCall f t addr)
  | 0x61 => some (.kzCallt f t addr)
  | 0x62 => some (.kzRet f t)
  | 0x63 => some (.kzRett f t)
  | 0x70 => some (.kzTrap f t addr)
  | _ => none

/-- The KZL instruction that a Tread of a flight reads from a word and the word that follows it; none where R187
rejects the word. -/
def kzlDecode (f : Flt) (t : Nat) (w next : W32) : Option Instr :=
  let op := w.toNat / 2 ^ 25
  let sp := w.toNat / 2 ^ 21 % 16
  let addr := w.toNat % 2 ^ 21
  if kzLegal op sp addr then kzInstr f t op sp addr (if kzHasConst op sp then next else 0) else none

end Machine

end Sys2Proof
end

