-- ==== Sys2Proof/Config.lean ====
section
/-! DEFINITION. What an implementation fixes and the spec leaves open: constants without a body, so that no proof can
see a value of them. -/

namespace Sys2Proof.Config

open Machine

/-- Fused module serial number (00 R1, 02 R63). [log 8 DESIGN CHOICE] -/
opaque serial : Nat

/-- Fused Ethernet port addresses as words of FY_ETHMAC (16 R456). [log 8 DESIGN CHOICE] -/
opaque ethMac : Nat → Nat

/-- The ten payload bytes that an event's fields take in a record (19 R513, R517): the spec lists the fields of each
event and no packing of them into bytes. [log 18 DESIGN CHOICE] -/
opaque evPayload : Ev → List Byte

/-- The check bits that the error-correcting code gives a word of data: 03 R64 names the code's properties and not its
matrix. [log 12 DESIGN CHOICE] -/
opaque eccCode : Nat → BitVec 8

/-- Fade time in ms of the cells of a matrix: 11 R292 and R304 carry one and no section of the image gives it. [log 72 DESIGN CHOICE] -/
opaque matrixFade : Nat → Nat

/-- Points of metering quantities in a configuration image: input, quantity, point. 12 R331 has the configuration map each quantity
to a point and no section of the image carries the map. [log 120 DESIGN CHOICE] -/
opaque meterPoints : List Byte → List (Nat × Nat × Nat)

/-- Points of channel states in a configuration image: channel, point (12 R331, as before). [log 120 DESIGN CHOICE] -/
opaque statePoints : List Byte → List (Nat × Nat)

/-- What a word of backup RAM holds after the n-th loss of the domain (15 R409). [log 9 DESIGN CHOICE] -/
opaque backupWord : Nat → Nat → BitVec 32

/-- What the RTC's count and prescaler hold after the n-th loss of the domain (15 R409, R411). [log 9 DESIGN CHOICE] -/
opaque backupRtc : Nat → BitVec 63

/-- FY_PTPMPD where the mean path delay comes out negative: the register is unsigned and the spec states no value
(15 R418). [log 84 DESIGN CHOICE] -/
opaque ptpMpdNeg : Int → BitVec 32

/-- Bytes of an FMP record's ciphertext and tag, by the number of the session's keys, the record's sequence and its
plaintext (16 R445, R446): the keys come from random numbers. [log 102 DESIGN CHOICE] -/
opaque fmpCipher : Nat → Nat → List Byte → Nat → Byte

/-- The random and signed parts of the n-th HELLO_REPLY (16 R444). [log 102 DESIGN CHOICE] -/
opaque helloReply : Nat → Nat → Byte

/-- Bytes of the n-th draw from the DRBG (17 R473). [log 102 DESIGN CHOICE] -/
opaque drbg : Nat → Nat → Byte

/-- Bytes of the fused device root of slot 0 (17 R458). [log 102 DESIGN CHOICE] -/
opaque deviceRoot : Nat → Byte

/-- Bytes of the fused field transport key of slot 3 (17 R458). [log 102 DESIGN CHOICE] -/
opaque transportKey : Nat → Byte

/-- Label from which slot 2 derives from slot 0 (17 R458, R476 give none). [log 102 DESIGN CHOICE] -/
opaque updateLabel : List Byte

/-- AES-256-GCM: bytes of ciphertext and tag by key, nonce, additional data and plaintext (17 R468, R471). [log 102 DESIGN CHOICE] -/
opaque gcm : List Byte → List Byte → List Byte → List Byte → Nat → Byte

/-- AES-256-GCM: the plaintext of a blob under a key, none where its tag fails (17 R471). [log 102 DESIGN CHOICE] -/
opaque gcmOpen : List Byte → List Byte → Option (List Byte)

/-- Bytes of the P-256 public key of a scalar (17 R460). [log 102 DESIGN CHOICE] -/
opaque publicKey : List Byte → Nat → Byte

/-- Bytes of the ECDSA signature, by scalar and message (17 R474, R477). [log 102 DESIGN CHOICE] -/
opaque sign : List Byte → List Byte → Nat → Byte

/-- Certificate chain of slot 1, by lifecycle (17 R478). [log 102 DESIGN CHOICE] -/
opaque certificates : Nat → List (List Byte)

/-- Status of a request that no REPLY has answered (01 R41): the spec leaves it to the originating path, which names none. It lies
below 0x80, whose codes are never returned (00 R11). [log 44 DESIGN CHOICE] -/
opaque requestFailed : Nat → BitVec 7

/-- Status with which UPD_ACTIVATE is answered where its campaign has reverted before its last step ended, by the cause: 18 R509
gives no code. [log 110 DESIGN CHOICE] -/
opaque updateFailed : Nat → BitVec 7

/-- 64 data bits of a word whose content the firmware of the region chooses: region, logical bank, word (03 R64, 04 R573). FREE. [log 12 DESIGN CHOICE] -/
opaque memWord : Nat → Nat → Nat → BitVec 64

/-- Bytes of the LOGGIA_RX record whose frame the MAC reads as an input: its PSDU is secured under the mesh keys (13 R353, 14 R366). [log 135 DESIGN CHOICE] -/
opaque rxRecord : FlightIn → Nat → Byte

/-- Bytes of the group key of an index and generation, which JOIN_RESP and REJOIN_RESP carry (14 R367, R375). [log 70 DESIGN CHOICE] -/
opaque groupKey : Nat → Nat → Nat → Byte

/-- Whether the MIC of a received frame verifies, by key index, generation of that key, EUI of its source and PSDU (14 R366). [log 135 DESIGN CHOICE] -/
opaque micOk : Nat → Nat → Nat → List Byte → Bool

/-- The payload of a received frame of level 6 in the clear, by the same and the bytes as received (14 R366). [log 135 DESIGN CHOICE] -/
opaque micClear : Nat → Nat → Nat → List Byte → Nat → Byte

/-- Tag of an alcove notice that carries an unsolicited message (16 R442 gives none). [log 106 DESIGN CHOICE] -/
opaque unsolicitedTag : Nat → Nat

end Sys2Proof.Config
end

