-- ==== Sys2Proof/Machine/State.lean ====
section
/-! DEFINITION. The machine's state: every piece of state the spec gives the module, as plain data, and the queue of
waiting commands. The registers of the register map live in `Dev.regs`; everything else has a field of its own.
INVENTORY.md lists each field with the rule that names it and its reset value. -/

namespace Sys2Proof.Machine

/-- Why a command may fault: the block stops on no command, since the spec gives each one an effect or none. [log 2 DESIGN CHOICE] -/
inductive Fault where
  /-- Raised by no command of this model. Safe: a stop would only withhold states. -/
  | unreachable
  deriving DecidableEq, Repr

/-- Why a command may be refused. [log 2 DESIGN CHOICE] -/
inductive Refusal where
  /-- Raised by `exec` alone, for a command that has no meaning yet. Safe: a refused command claims nothing. -/
  | notModelled (mnemonic : String)
  deriving DecidableEq, Repr

/-- The module as a whole: supplies, start, measured boot and module state (chapters 02 and 04). -/
structure ModSt where
  /-- VHIN lies in its operating range (02 R54). -/
  vhin : Bool
  /-- the Foyer firmware runs (02 R45). -/
  started : Bool
  /-- the present Foyer boot followed a power-on reset, not a restart (15 R393, R415). -/
  por : Bool
  /-- HOLD was entered by the boot ROM; the ROM recovery responder serves (02 R55, 16 R453). -/
  romHold : Bool
  /-- the last HOLD cause was VFIN loss (02 R54). -/
  holdVfin : Bool
  /-- start kind of the restart command in force: 0 by R56, 1 cold, 2 warm (02 R56, 16 R449). -/
  order : Option Nat
  /-- the Gallery has committed output since field power-up (02 R51). -/
  inService : Bool
  /-- the start in progress is a restart under R51 (02 R51). -/
  fieldOnly : Bool
  /-- the power-warning flush is in progress (02 R60). -/
  flushing : Bool
  /-- by 8 x first + second region: time-base count at which the Foyer last raised EV_MOD_GRADIENT of a lasting condition (01 R25). -/
  gradHost : Map Nat
  /-- by 8 x first + second region: Newel cycle at which the Newel last raised EV_MOD_GRADIENT of a lasting condition (01 R25). -/
  gradField : Map Nat
  /-- measurement registers (02 R52). -/
  meas : Map Nat
  /-- measurement registers written in this Foyer boot (02 R52). -/
  measDone : List Nat
  /-- time-base counts of the restarts of the last hour (04 R120). -/
  restarts : List Nat
  /-- time-base count at which FAILSAFE was entered (04 R120). -/
  failsafeAt : Option Nat
  /-- retained snapshot the Foyer holds (06 R176, 02 R57). -/
  snap : Option Snapshot
  /-- scan of the blocks received and not yet sealed (06 R176). -/
  mirrorScan : Option Nat
  /-- blocks received and not yet sealed (06 R176). -/
  mirrorBlocks : Map (List Byte)
  /-- loaded configuration and KZL program image (20 R538). -/
  cfg : Cfg
  /-- a configuration image is present (02 R54, 20 R538). -/
  cfgPresent : Bool
  /-- configuration commit has taken place in this start (20 R550). -/
  committed : Bool
  /-- the start adopts a field side that is in service (02 R54). -/
  adopt : Bool
  /-- a transfer on the crossing met a first parity error (01 R23). -/
  crossing : Map Bool
  /-- step 5 of the start in progress runs at the warm scope (02 R45, R49). -/
  scopeWarm : Bool
  /-- EV_FY_START of the start in progress is still to be raised (02 R59). -/
  startDue : Bool
  /-- block faults of crossings: destination region, crossing (01 R23). -/
  blockFaults : List (Nat × Nat)
  /-- the messages that precede BOOT_DONE have been sent in this start (05 R147, 06 R574). -/
  preDone : Bool
  /-- size of the boot flash in bytes that the boot ROM has read from SFDP (20 R529, R531). -/
  flash : Nat
  deriving DecidableEq, Repr

/-- ModSt at reset. [log 6 DESIGN CHOICE; 7 DESIGN CHOICE] -/
def ModSt.empty : ModSt where
  vhin := true
  started := false
  por := true
  romHold := false
  holdVfin := false
  order := none
  inService := false
  fieldOnly := false
  flushing := false
  gradHost := []
  gradField := []
  meas := []
  measDone := []
  restarts := []
  failsafeAt := none
  snap := none
  mirrorScan := none
  mirrorBlocks := []
  cfg := Cfg.zero
  cfgPresent := false
  committed := false
  adopt := false
  crossing := []
  scopeWarm := false
  startDue := false
  blockFaults := []
  preDone := false
  flash := 0

/-- The Corridor and both its ends (chapter 01). -/
structure CorrSt where
  /-- host-to-field direction (01 R34, R39, R40). -/
  down : CrDir
  /-- field-to-host direction (01 R34, R39, R40). -/
  up : CrDir
  /-- the Foyer side holds the Corridor up (01 R42, R43). -/
  hostUp : Bool
  /-- the field side holds the Corridor up (01 R42, R43). -/
  fieldUp : Bool
  /-- consecutive valid HEARTBEATs at the Foyer since loss (01 R43). -/
  hbHost : Nat
  /-- consecutive valid HEARTBEATs at the Newel since loss (01 R43). -/
  hbField : Nat
  /-- the Foyer side has been up since its reset (01 R43). -/
  everHost : Bool
  /-- the field side has been up since its reset (01 R43). -/
  everField : Bool
  /-- requests awaiting their REPLY (01 R41). -/
  reqs : List CrReq
  /-- scan period last reported in STATUS (01 R41, R44). -/
  period : Option Nat
  /-- last STATUS sent to the field (01 R44). -/
  hostStatus : List Byte
  /-- last STATUS sent to the host (01 R44). -/
  fieldStatus : List Byte
  /-- host-to-field messages sent and not acknowledged, oldest first (01 R37, R39). -/
  downQ : List DownMsg
  /-- field-to-host messages sent and not acknowledged, oldest first: sequence, message (01 R37, R39). -/
  upQ : List (Nat × UpMsg)
  /-- byte 0 of the last field-to-host STATUS (01 R44). -/
  fieldState : Nat
  deriving DecidableEq, Repr

/-- CorrSt at reset. -/
def CorrSt.empty : CorrSt where
  down := CrDir.zero
  up := CrDir.zero
  hostUp := false
  fieldUp := false
  hbHost := 0
  hbField := 0
  everHost := false
  everField := false
  reqs := []
  period := none
  hostStatus := []
  fieldStatus := []
  downQ := []
  upQ := []
  fieldState := 0

/-- The Newel (chapters 01 and 04). -/
structure NewelSt where
  /-- Newel cycle of the last boundary (NW_CYCLO, NW_CYCHI) (04 R123, 01 R27). -/
  cycle : Nat
  /-- next frame number (NW_FRAMELO, NW_FRAMEHI) (01 R27, 04 R123). -/
  nextFrame : Nat
  /-- arrivals of the cycle, in receive order (01 R30). -/
  ingress : List InFrame
  /-- arrivals held at their source crossings while the ingress buffer is full (01 R30). -/
  source : List InFrame
  /-- frames carried forward, in order (01 R29). -/
  carried : List InFrame
  /-- TIME_MAP accepted since the last batch (01 R28, 15 R406). -/
  newMap : Option TimeMap
  /-- last map received from the Corridor (01 R33, 15 R406). -/
  lastMap : Option TimeMap
  /-- cycles without a TIME_MAP from the Corridor (01 R33). -/
  sinceMap : Nat
  /-- the Newel synthesises maps (01 R33). -/
  synth : Bool
  /-- cycle of the last EV_NW_FRAME_DEFER of a continuing deferral (01 R29). -/
  deferAt : Option Nat
  /-- sample blocks replaced since the last EV_NW_SAMPLE_COALESCED (01 R30). -/
  coalesced : Nat
  /-- cycle of the last EV_NW_SAMPLE_COALESCED (01 R30). -/
  coalAt : Option Nat
  /-- last released batch (01 R28). -/
  batch : List Frame
  /-- flights to which the last batch was released (04 R98). -/
  batchDue : List Nat
  /-- flights that have acknowledged the last batch (04 R98). -/
  acked : List Nat
  /-- kind H faults reported or detected and not yet recognised: flight, code (04 R98, R99). -/
  faults : List (Nat × Nat)
  /-- flight A's signalled commit sets not yet committed or discarded (04 R96). -/
  sigA : List CommitSet
  /-- flight B's signalled commit sets not yet committed or discarded (04 R96). -/
  sigB : List CommitSet
  /-- commit gate open (04 R119, R121). -/
  gate : Bool
  /-- commit set in fetch, from which flight (04 R96). -/
  fetch : Option (Nat × CommitSet)
  /-- last committed scan (NW_SCANLO, NW_SCANHI) (04 R95, R123). -/
  lastScan : Option Nat
  /-- last digest of flight A (NW_DIG[0..1]) (04 R123). -/
  digA : W64
  /-- last digest of flight B (NW_DIG[2..3]) (04 R123). -/
  digB : W64
  /-- boundary at which the earlier digest of the awaited scan was first present (04 R96). -/
  early : Option Nat
  /-- compared scans that matched in a row, holding at 16 (04 R114). -/
  matched : Nat
  /-- scan at which the standby last returned to STANDBY (04 R103). -/
  returnScan : Option Nat
  /-- request of NW_SWCTL in progress (04 R577). -/
  plan : Option PlanReq
  /-- accepted planned switch-over that waits for its commit (04 R114, R118). -/
  switching : Option PlanReq
  /-- reason with which the former active flight is quarantined after the switch-over (04 R117). -/
  quarAfter : Option Nat
  /-- stair transfer in progress (04 R110). -/
  stair : Option Stair
  /-- cycles of flight A's entries into FAILED in the last 24 h (04 R118). -/
  histA : List Nat
  /-- cycles of flight B's entries into FAILED in the last 24 h (04 R118). -/
  histB : List Nat
  /-- cycle from which flight A's retry delay runs (04 R112, R117). -/
  retryA : Option Nat
  /-- cycle from which flight B's retry delay runs (04 R112, R117). -/
  retryB : Option Nat
  /-- flight A is held in RESET for the update manager (04 R114, 18 R498). -/
  heldA : Bool
  /-- flight B is held in RESET for the update manager (04 R114, 18 R498). -/
  heldB : Bool
  /-- digest epoch of flight A's firmware (04 R116, 18 R495). -/
  epochA : Nat
  /-- digest epoch of flight B's firmware (04 R116, 18 R495). -/
  epochB : Nat
  /-- boot flash slot of flight A's firmware (18 R498). -/
  fwA : Nat
  /-- boot flash slot of flight B's firmware (18 R498). -/
  fwB : Nat
  /-- EVENT_RECORD messages kept while the Corridor is lost (01 R42). -/
  kept : List UpMsg
  /-- events counted per region beyond 256 (01 R42). -/
  keptCounts : Map Nat
  /-- latest RETAIN_MIRROR kept while the Corridor is lost (01 R42). -/
  keptMirror : List UpMsg
  /-- cycle of the last EV_NW_MAP_ORDER (15 R406). -/
  mapOrderAt : Option Nat
  /-- module state as the field side holds it (01 R44, 11 R298). -/
  modState : Nat
  /-- flags of the last host-to-field STATUS (01 R44). -/
  hostFlags : Nat
  /-- the Newel is in its internal reset (04 R121). -/
  stopped : Bool
  /-- boundary at which the fault of the switch-over in progress was recognised (04 R105). -/
  recogAt : Option Nat
  /-- fault code of the switch-over whose first commit is awaited (04 R105). -/
  promoted : Option Nat
  /-- region fault bits of STATUS (01 R44). -/
  regionFaults : Nat
  /-- digests of the active flight awaiting the joining flight's: scan, digest, boundary at which it was present, DETFAULT code (04 R110). -/
  verifyQ : List (Nat × W64 × Nat × Option Nat)
  /-- compared scans since the last divergence, holding at 1,000 (04 R103). -/
  compared : Nat
  /-- microcode images staged, by component (18 R497). -/
  staged : List Nat
  /-- images that have crossed the Corridor, by component (02 R45, 18 R497). -/
  load : Map (List Byte)
  /-- flight A was SYNCING at BOOT_DONE (04 R117). -/
  bothSyncing : Bool
  /-- tests due in service as slices, with their units still to run (02 R46, R51). -/
  slices : Map Nat
  deriving DecidableEq, Repr

/-- NewelSt at reset. [log 7 DESIGN CHOICE] -/
def NewelSt.empty : NewelSt where
  cycle := 0
  nextFrame := 0
  ingress := []
  source := []
  carried := []
  newMap := none
  lastMap := none
  sinceMap := 0
  synth := false
  deferAt := none
  coalesced := 0
  coalAt := none
  batch := []
  batchDue := []
  acked := []
  faults := []
  sigA := []
  sigB := []
  gate := false
  fetch := none
  lastScan := none
  digA := 0
  digB := 0
  early := none
  matched := 0
  returnScan := none
  plan := none
  switching := none
  quarAfter := none
  stair := none
  histA := []
  histB := []
  retryA := none
  retryB := none
  heldA := false
  heldB := false
  epochA := 0
  epochB := 0
  fwA := 0
  fwB := 0
  kept := []
  keptCounts := []
  keptMirror := []
  mapOrderAt := none
  modState := 1
  hostFlags := 0
  stopped := false
  recogAt := none
  promoted := none
  regionFaults := 0
  verifyQ := []
  compared := 0
  staged := []
  load := []
  bothSyncing := false
  slices := []

/-- The host port, its window, alcoves and landings (chapter 16). -/
structure HostSt where
  /-- bytes of the host window by offset from 0x10_0000 (16 R427, R428). -/
  window : Map Byte
  /-- the port answers (16 R420). -/
  portUp : Bool
  /-- the Foyer core domain is down (16 R425). -/
  coreDown : Bool
  /-- HOST_RDY asserted (16 R424, 02 R45). -/
  hostRdy : Bool
  /-- alcoves whose timeout timer runs (16 R431). -/
  alcoves : List Nat
  /-- replies waiting for alcove 16 + a to be emptied: tag, record (16 R442). -/
  waiting : Map (List (Nat × List Byte))
  /-- landings 0 to 3 (16 R433). -/
  items : Map (List LdItem)
  /-- packers of landings 0 to 3 (16 R434, R435). -/
  packers : Map Packer
  /-- landings 4 to 7, each word with whether it ends a record (16 R433). -/
  words : Map (List (W32 × Bool))
  /-- words that wait for room in landings 4 to 7 (16 R442). -/
  ldWait : Map (List (W32 × Bool))
  /-- bytes of the last READ on the lanes (16 R421, R422). -/
  lastData : List Byte
  /-- status byte of the last access (16 R422). -/
  lastStatus : Nat
  deriving DecidableEq, Repr

/-- HostSt at reset. -/
def HostSt.empty : HostSt where
  window := []
  portUp := false
  coreDown := true
  hostRdy := false
  alcoves := []
  waiting := []
  items := []
  packers := []
  words := []
  ldWait := []
  lastData := []
  lastStatus := 0

/-- The Foyer message protocol (chapter 16). -/
structure FmpSt where
  /-- open sessions by id (16 R444, R447). -/
  sessions : Map Session
  /-- pending handshakes by session id offered (16 R444). -/
  shakes : Map Handshake
  /-- failures of the last 60 s: client entry, time-base count (16 R444). -/
  fails : List (Nat × Nat)
  /-- client entries in lockout (16 R444). -/
  locked : List Nat
  /-- session id last issued (16 R447). -/
  lastId : Nat
  /-- handshakes answered (model's own counter of a free value) (16 R444, R445). -/
  keys : Nat
  deriving DecidableEq, Repr

/-- FmpSt at reset. -/
def FmpSt.empty : FmpSt where
  sessions := []
  shakes := []
  fails := []
  locked := []
  lastId := 0
  keys := 0

/-- Ethernet ports (chapter 16). -/
structure EthSt where
  /-- consecutive unanswered gateway probes (16 R455). -/
  probes : Nat
  /-- gratuitous announcements still to send (16 R455). -/
  announce : Nat
  /-- the active link has been down for 500 ms (16 R455). -/
  downLong : Bool
  /-- second in which datagrams are counted (16 R454). -/
  second : Nat
  /-- datagrams in that second (16 R454). -/
  datagrams : Nat
  /-- ARP, neighbour solicitation and echo frames answered (16 R454). -/
  answered : Nat
  /-- NETWORK record in force since the Foyer start (16 R454, 20 R547, R550). -/
  net : List Byte
  /-- last FMP record sent in a datagram (16 R442). -/
  last : List Byte
  deriving DecidableEq, Repr

/-- EthSt at reset. -/
def EthSt.empty : EthSt where
  probes := 0
  announce := 0
  downLong := false
  second := 0
  datagrams := 0
  answered := 0
  net := []
  last := []

/-- The Arcade (chapter 19). -/
structure ArcSt where
  /-- event landing, oldest first (19 R518). -/
  landing : List LandEntry
  /-- volatile buffer, oldest first (19 R520). -/
  buffer : List Record
  /-- event partition, oldest first (19 R522). -/
  ring : List Record
  /-- counts of the open suppression period by region (19 R519). -/
  period : Map Nat
  /-- records overwritten since the Foyer reset (19 R522). -/
  overwritten : Nat
  /-- time-base count of the end of the last flush (19 R520). -/
  lastFlush : Nat
  /-- clear nonces in force: session, nonce, time-base count of issue (19 R524). -/
  nonces : List (Nat × List Byte × Nat)
  /-- number of nonces issued (model's own counter of a free value) (19 R523). -/
  nonceNo : Nat
  /-- after the power-warning edge: events are counted, not queued (19 R521). -/
  warned : Bool
  /-- clear in progress (19 R525). -/
  clearing : Option ArcClear
  deriving DecidableEq, Repr

/-- ArcSt at reset. -/
def ArcSt.empty : ArcSt where
  landing := []
  buffer := []
  ring := []
  period := []
  overwritten := 0
  lastFlush := 0
  nonces := []
  nonceNo := 0
  warned := false
  clearing := none

/-- The Enfilade engine of a flight (chapter 09). -/
structure EnfSt where
  /-- last completed tick (09 R236). -/
  tick : Nat
  /-- tick bound to a scan and not yet complete: number, multiplicity (09 R234, R236). -/
  due : Option (Nat × Nat)
  /-- aux, baseline and gate points as the tick read them (09 R236). -/
  inPts : Map Point
  /-- tick time of the tick in progress (09 R236). -/
  inTime : Nat
  /-- latches that the tick in progress consumes, by injection point (09 R235). -/
  taken : Map Nat
  /-- events latched since the last tick, by injection point (09 R235). -/
  latches : Map Nat
  /-- bit triggers that were 1 with QUAL GOOD or FORCED at the last snapshot (09 R235). -/
  on : List Nat
  /-- references of the COUNTER triggers, by injection point (09 R235). -/
  cref : Map W32
  /-- the next snapshot only sets the reference state of the triggers (09 R235, R262). -/
  fresh : Bool
  /-- wavelet table by slot (09 R240). -/
  waves : Map Wavelet
  /-- family id last issued (09 R240). -/
  lastFam : Nat
  /-- turn counters that depart from the configuration's, by edge (FL_TURNCNT) (09 R231, R263). -/
  turns : Map Nat
  /-- TURNRESET waits for the next tick (09 R263). -/
  turnReset : Bool
  /-- levels of the last completed tick by light point (09 R252). -/
  levels : Map Nat
  /-- multiplicity of a completed tick whose results have not been applied (09 R237). -/
  results : Option Nat
  /-- descriptors formed and not yet handed to the MAC (09 R258). -/
  descs : List Desc
  /-- reach fragments queued for push: light point, fragment (09 R257). -/
  pushes : List (Nat × Nat)
  /-- open coalescing windows, by injection point x 64 + class x 16 + mask (09 R259). -/
  windows : Map Window
  /-- descriptor last sent for a family, by family (09 R259). -/
  sent : Map Desc
  /-- descriptors formed per injection point, modulo 256 (09 R258). -/
  seqs : Map Nat
  /-- reach state by light point (09 R257). -/
  reach : Map ReachState
  /-- light point from which the sweep goes on (09 R257). -/
  sweep : Nat
  /-- profile epoch (09 R255, R262). -/
  epoch : Nat
  /-- local date of the last ageing (09 R247). -/
  ageDate : Option Nat
  /-- wavelets not created in the tick that runs (09 R264). -/
  fails : Nat
  /-- ticks of the last 60 s with wavelets not created: grid cycle, wavelets (09 R264). -/
  failLog : List (Nat × Nat)
  /-- grid cycle of the last EV_FL_ENF_TABLE_FULL (09 R264). -/
  fullAt : Option Nat
  /-- grid cycle of the last EV_FL_ENF_NOCONV (09 R252). -/
  noconvAt : Option Nat
  /-- grid cycle of the last EV_FL_ENF_LATE (09 R238). -/
  lateAt : Option Nat
  /-- EN written 0: the wavelets clear at the next tick's grid point (09 R262). -/
  stopping : Bool
  /-- system time since which a chain in lean mode has been without pressure, plus 1 (09 R260). -/
  off : Map Nat
  /-- consecutive differing reports of a lantern, and whether EV_FL_ENF_VERIFY has been raised (09 R261). -/
  vern : Map (Nat × Bool)
  /-- energy accumulators by light point (12 R327). -/
  energy : Map Nat
  /-- lanterns whose truncation has been reported (09 R253). -/
  truncated : List Nat
  deriving DecidableEq, Repr

/-- EnfSt at reset. [log 7 DESIGN CHOICE] -/
def EnfSt.empty : EnfSt where
  tick := 0
  due := none
  inPts := []
  inTime := 0
  taken := []
  latches := []
  on := []
  cref := []
  fresh := true
  waves := []
  lastFam := 65535
  turns := []
  turnReset := false
  levels := []
  results := none
  descs := []
  pushes := []
  windows := []
  sent := []
  seqs := []
  reach := []
  sweep := 0
  epoch := 0
  ageDate := none
  fails := 0
  failLog := []
  fullAt := none
  noconvAt := none
  lateAt := none
  stopping := false
  off := []
  vern := []
  energy := []
  truncated := []

/-- The schedules of a flight (chapter 10). -/
structure SchedSt where
  /-- last date on which an alarm fired, by schedule x 128 + position x 4 + date mod 4 (10 R276). -/
  kept : Map Nat
  /-- photocell state by schedule (10 R275). -/
  photo : Map PhotoSt
  /-- schedule time of the previous snapshot (10 R280). -/
  prevT : Option Nat
  /-- schedules whose enable catch-up is due at the next snapshot (10 R282). -/
  enDue : List Nat
  deriving DecidableEq, Repr

/-- SchedSt at reset. -/
def SchedSt.empty : SchedSt where
  kept := []
  photo := []
  prevT := none
  enDue := []

/-- The mesh MAC of a flight (chapter 14). -/
structure MacSt where
  /-- nodes by short address (14 R375, R376). -/
  nodes : Map NodeState
  /-- wake tracking of sleepy partners, by short address (14 R380). -/
  sleepy : Map SleepyState
  /-- uplink frames to be named in the next AGGACK: chain, source, counter (14 R377). -/
  acks : List (Nat × Nat × Nat)
  /-- frames waiting for a slot or a wake (14 R377, R382). -/
  queue : List HeldFrame
  /-- requests whose outcome is awaited, by id (14 R377). -/
  reqs : Map MacReq
  /-- next request id (13 R343). -/
  nextId : Nat
  /-- interval of the last beacon formed by a chain, plus 1 (14 R371). -/
  beaconI : Map Nat
  /-- interval of the last coordination beacon formed by a chain, plus 1 (14 R384). -/
  coordI : Map Nat
  /-- band sum and budget of a chain's last STATUS record (14 R382, 13 R353). -/
  air : Map (Nat × Nat)
  /-- chains that report pressure (09 R260, 13 R353). -/
  press : List Nat
  /-- LOCKED of the last STATUS record (14 R371, 13 R353). -/
  locked : Bool
  /-- consecutive coordination beacons of a peer since its loss (14 R386). -/
  present : Map Nat
  /-- groups that this module serves for others (14 R385, R387). -/
  adopted : List Adopted
  /-- own groups being reclaimed: group, boundary (14 R386, 08 R226). -/
  reclaim : List (Nat × Nat)
  /-- groups whose RELEASE has arrived: group, boundary (08 R226). -/
  released : List (Nat × Nat)
  /-- group key index in use (14 R367). -/
  gkey : Nat
  /-- generations of the delivered mesh keys (14 R367, 17 R472). -/
  keys : Map Nat
  /-- system time of the last EV_FL_MAC_CTR_LOW (14 R369). -/
  ctrLowAt : Option Nat
  /-- descriptors handed over and not yet sent (14 R378). -/
  descs : List Desc
  /-- firmware blocks of the distribution in progress (14 R389). -/
  fwBlocks : List Nat
  /-- nodes not yet complete (14 R389). -/
  fwPending : List Nat
  /-- activation interval named by firmware control (14 R389). -/
  fwInterval : Option Nat
  /-- multicast PROFILE sends still due (14 R377). -/
  profileDue : Nat
  /-- trains to a sleepy partner whose ACK has not been accepted, in a row (14 R383). -/
  missed : Map Nat
  /-- instant until which no request is placed on a chain (14 R381). -/
  quietUntil : Map Nat
  /-- reach fragments of the tick applied last: lantern and fragment, due in the commit set of the scan (09 R237). -/
  reachDue : List (Nat × Nat)
  /-- chains whose LG_CHCFG.EN the flight holds as 1 (14 R387, 13 R356). -/
  chEn : List Nat
  /-- chains that report FAULT (14 R387, 13 R353). -/
  fault : List Nat
  /-- number of the next held frame (14 R377). -/
  nextNum : Nat
  /-- frames of type 0xF dropped (14 R365). -/
  malformed : Nat
  /-- beacon interval, plus 1, whose coordination beacon of a peer was last received or missed (14 R384). -/
  coordSeen : Map Nat
  /-- LOCALPROF values still to be pushed after an on-line change (14 R390). -/
  localDue : Bool
  deriving DecidableEq, Repr

/-- MacSt at reset. [log 7 DESIGN CHOICE] -/
def MacSt.empty : MacSt where
  nodes := []
  sleepy := []
  acks := []
  queue := []
  reqs := []
  nextId := 1
  beaconI := []
  coordI := []
  air := []
  press := []
  locked := false
  present := []
  adopted := []
  reclaim := []
  released := []
  gkey := 0
  keys := []
  ctrLowAt := none
  descs := []
  fwBlocks := []
  fwPending := []
  fwInterval := none
  profileDue := 0
  missed := []
  quietUntil := []
  reachDue := []
  chEn := []
  fault := []
  nextNum := 0
  malformed := 0
  coordSeen := []
  localDue := false

/-- One flight (chapters 03, 05, 06, 07, 09, 10 and 14). -/
structure FlightSt where
  /-- input frames not yet consumed, in number order (01 R27, R32). -/
  frames : List Frame
  /-- number of the next frame expected (01 R31). -/
  nextNo : Nat
  /-- a frame failed its check; no later frame is applied (01 R31). -/
  frameBad : Bool
  /-- Newel cycle of the latest batch in frame memory (06 R158). -/
  lastBatch : Nat
  /-- Newel cycle of the batch that carried BOOT_DONE (06 R154). -/
  bootCycle : Option Nat
  /-- point table (05 R126). -/
  pts : Map Point
  /-- force table, used entries by entry number (05 R142). -/
  forces : Map Force
  /-- subscription table, used entries by entry number (05 R145). -/
  subs : Map Sub
  /-- grid cycle of a session's last EV_FL_NOTIFY_LAG plus 1 (05 R146). -/
  lagAt : Map Nat
  /-- scans since the point's source last updated it (05 R130). -/
  age : Map Nat
  /-- system time carried by the last TIME_MAP consumed (05 R128). -/
  mapTime : Nat
  /-- last TIME_MAP consumed (15 R405, 10 R265). -/
  map : Option TimeMap
  /-- number of the scan in progress or last run (04 R92). -/
  scan : Option Nat
  /-- grid cycle of that scan (06 R154). -/
  grid : Nat
  /-- grid cycle of the scan before (06 R157). -/
  prevGrid : Nat
  /-- grid cycle of the next scan (06 R154, R159). -/
  nextGrid : Nat
  /-- a scan is in progress (06 R153). -/
  inScan : Bool
  /-- level in progress (06 R161). -/
  level : LevelId
  /-- tasks of the level that have not yet run (06 R161). -/
  todo : List Nat
  /-- error calls served in this scan and not yet run (06 R168, R169). -/
  calls : List ErrCall
  /-- Tread state (07 R183, 06 R151). -/
  treads : Map Tread
  /-- write buffers, in write order (06 R162, R165). -/
  wrbuf : List WrEntry
  /-- error queue (06 R168). -/
  errq : List ErrCall
  /-- calls raised in the level, queued at its barrier (06 R168). -/
  raised : List ErrCall
  /-- grid cycle of the last EV_FL_ERRCALL_UNSERVED (06 R170). -/
  unservedAt : Option Nat
  /-- grid cycle of the last EV_FL_SCAN_LATE (06 R158). -/
  lateAt : Option Nat
  /-- markers, timers, counters and locals by logic word (06 R152, R173). -/
  lmem : Map W32
  /-- output image: points written through Q in this scan (06 R164). -/
  qimg : Map W32
  /-- phase-1 entries of points changed since phase 1 (06 R164). -/
  iOver : Map Point
  /-- points written during the scan (04 R93). -/
  written : List Nat
  /-- kind D fault of the scan (04 R92). -/
  det : Option Nat
  /-- tasks whose suite violation of this scan has been raised (05 R137, 06 R171). -/
  viol : List Nat
  /-- tasks whose EV_FL_TASK_FAULT of this scan has been raised (06 R166). -/
  faulted : List Nat
  /-- start kind of the start in progress (02 R58). -/
  warm : Bool
  /-- START_FALLBACK is to be called in scan 0 (06 R171). -/
  fallback : Bool
  /-- Corridor messages formed and not yet in a signalled set, REPLY messages last (04 R92). -/
  msgs : List UpMsg
  /-- Loggia requests formed and not yet in a signalled set (04 R92). -/
  reqs : List TxReq
  /-- Gallery and Loggia register writes of the scan (06 R156, 04 R575). -/
  regw : List (Nat × W32)
  /-- Jalmethen frames of the scan (04 R575). -/
  links : List (Nat × Nat × List Byte)
  /-- links up, as frames have shown (08 R225). -/
  linkUp : List Nat
  /-- links whose next POINTS is FULL (08 R225). -/
  linkFull : List Nat
  /-- links that await the first FULL POINTS after link-up (08 R225). -/
  linkRet : List Nat
  /-- value and quality last sent by port x 8,192 + export index (08 R225). -/
  linkSent : Map (W32 × Nat)
  /-- image of the previous scan's mirror (06 R175). -/
  mirror : Map (List Byte)
  /-- staged program and configuration sections (06 R152, R177). -/
  shadow : Option Cfg
  /-- previous image, held for reversion (06 R178). -/
  former : Option Cfg
  /-- ACTIVATE accepted; the switch takes place at the next snapshot (06 R177). -/
  switchDue : Bool
  /-- the scan in progress is the switching scan (06 R178). -/
  switched : Bool
  /-- memory words whose state departs from valid and free of error (03 R64). -/
  words : Map WordInfo
  /-- corrections per physical bank in the present scrub pass (03 R74). -/
  ceCount : Map Nat
  /-- evacuation in progress: logical bank and the spare bank to which it copies (03 R77). -/
  evacTo : Option (Nat × Nat)
  /-- defects that wait for the entries of a bank in evacuation: bank, word, uncorrectable (03 R76). -/
  memWait : List (Nat × Nat × Bool)
  /-- the evacuation in progress serves a bank test (03 R79). -/
  evacTest : Bool
  /-- physical bank under march test (03 R79). -/
  testing : Option Nat
  /-- retired physical banks (03 R77, R78). -/
  retired : List Nat
  /-- Treads halted whose latches await release at the scan boundary (03 R85). -/
  haltedTreads : List Nat
  /-- tick checksum of the last completed Enfilade tick (04 R93, 09 R263). -/
  chk : W64
  /-- Enfilade engine (chapter 09). -/
  enf : EnfSt
  /-- schedules (chapter 10). -/
  sch : SchedSt
  /-- mesh MAC (chapter 14). -/
  mac : MacSt
  /-- the image this flight still runs while the other has switched on line (06 R178). -/
  own : Option Cfg
  /-- count of cleared forces that scan 0 reports (02 R572, 05 R144). -/
  forcesOff : Option Nat
  /-- the mirror of the scan in progress sends every block (06 R175). -/
  fullDue : Bool
  /-- FULL was written during the scan in progress (06 R175). -/
  fullAgain : Bool
  /-- Newel cycles by which a freeze extends the scan's limit (06 R158, 04 R111). -/
  waited : Nat
  /-- by channel: land-high cycles of the last block, and energy not yet counted (12 R326, R327). -/
  chanE : Map (Nat × Nat)
  /-- by input x 32 + quantity: last energy value, and energy not yet counted (12 R331). -/
  mtrE : Map (Nat × Nat)
  /-- program version before the last switch (06 R178). -/
  oldVer : Nat
  /-- images being staged, by component (06 R152, R177). -/
  stage : Map (List Byte)
  /-- subscriptions that a switch has dropped and whose last entry is due: session, point (05 R145). -/
  dropped : List (Nat × Nat)
  /-- Gallery register values of the switching scan (11 R306). -/
  online : List (Nat × W32)
  /-- pages of the placements that the spec fixes, written since a stair transfer last copied them (04 R573). -/
  pages : List Nat
  /-- words that firmware has written as a whole: physical bank, first word, count (03 R66). -/
  ranges : List (Nat × Nat × Nat)
  /-- physical banks whose corrections have reached CETHR in the present pass (03 R74). -/
  ceDone : List Nat
  /-- physical banks whose evacuation is due and waits for the unit (03 R74, R76). -/
  evacWait : List Nat
  deriving DecidableEq, Repr

/-- FlightSt at reset. [log 7 DESIGN CHOICE] -/
def FlightSt.empty : FlightSt where
  frames := []
  nextNo := 0
  frameBad := false
  lastBatch := 0
  bootCycle := none
  pts := []
  forces := []
  subs := []
  lagAt := []
  age := []
  mapTime := 0
  map := none
  scan := none
  grid := 0
  prevGrid := 0
  nextGrid := 0
  inScan := false
  level := .idle
  todo := []
  calls := []
  treads := []
  wrbuf := []
  errq := []
  raised := []
  unservedAt := none
  lateAt := none
  lmem := []
  qimg := []
  iOver := []
  written := []
  det := none
  viol := []
  faulted := []
  warm := false
  fallback := false
  msgs := []
  reqs := []
  regw := []
  links := []
  linkUp := []
  linkFull := []
  linkRet := []
  linkSent := []
  mirror := []
  shadow := none
  former := none
  switchDue := false
  switched := false
  words := []
  ceCount := []
  evacTo := none
  memWait := []
  evacTest := false
  testing := none
  retired := []
  haltedTreads := []
  chk := 0
  enf := EnfSt.empty
  sch := SchedSt.empty
  mac := MacSt.empty
  own := none
  forcesOff := none
  fullDue := false
  fullAgain := false
  waited := 0
  chanE := []
  mtrE := []
  oldVer := 0
  stage := []
  dropped := []
  online := []
  pages := []
  ranges := []
  ceDone := []
  evacWait := []

/-- The Gallery (chapters 08, 11 and 12). -/
structure GallerySt where
  /-- channels (11 R294, 12 R313). -/
  chans : Map Chan
  /-- matrix cells by cell index (11 R304). -/
  cells : Map Cell
  /-- period index of each group (11 R287). -/
  k : Map Nat
  /-- drive parts received and not yet in the hold registers (11 R293). -/
  shadow : Option CommitSet
  /-- the configuration, with its fail-safe levels, has been received (11 R297). -/
  cfgHeld : Bool
  /-- Newel cycle of the last entry to source 1 (11 R308). -/
  fsAt : Nat
  /-- groups whose timing takes effect at the first commit (11 R306). -/
  retime : Nat
  /-- channel test in progress in a group: channel, requested by GL_CHTEST, land held low without a spare (12 R324). -/
  tests : Map (Nat × Bool × Bool)
  /-- channel from which the rotation goes on (12 R325). -/
  rotNext : Nat
  /-- last refreshed values of a metering input (12 R329, R331). -/
  meters : Map (List Int)
  /-- block number of each sample port (12 R330, R331). -/
  blocks : Map Nat
  /-- a disabled matrix still runs until its next row slot (11 R304). -/
  mxRun : Map Bool
  /-- remote-I/O lines (08 R207). -/
  lines : Map Line
  /-- stations (08 R210). -/
  sts : Map StState
  /-- output image of each station from the last commit (08 R214). -/
  outImg : Map (List Byte)
  /-- DALI buses (08 R218). -/
  buses : Map Bus
  /-- Jalmethen links (08 R223). -/
  links : Map Link
  /-- the Gallery reloads its microcode (18 R497). -/
  paused : Bool
  /-- row drivers whose land is high (11 R302, R303). -/
  rows : List Nat
  /-- row slot in progress of a matrix: BLANK and PRE in ns, and the column level during precharge (11 R303). -/
  slots : Map (Nat × Nat × Bool)
  /-- ADCs that have failed (12 R325). -/
  adcBad : List Nat
  deriving DecidableEq, Repr

/-- GallerySt at reset. -/
def GallerySt.empty : GallerySt where
  chans := []
  cells := []
  k := []
  shadow := none
  cfgHeld := false
  fsAt := 0
  retime := 0
  tests := []
  rotNext := 0
  meters := []
  blocks := []
  mxRun := []
  lines := []
  sts := []
  outImg := []
  buses := []
  links := []
  paused := false
  rows := []
  slots := []
  adcBad := []

/-- The Loggia (chapter 13). -/
structure LoggiaSt where
  /-- the Loggia reloads its microcode (18 R497). -/
  paused : Bool
  /-- chains (13 R343). -/
  chains : Map RadioChain
  /-- requests of commits that have not yet arrived at their chains (13 R343). -/
  inbox : List TxReq
  /-- LST at the last strobe (13 R351). -/
  lst : Nat
  /-- LST has been stepped since field reset (13 R351). -/
  stepped : Bool
  /-- error being removed by rate over 64 Newel cycles (13 R351). -/
  slew : Int
  /-- tally seconds since field power-up (13 R353). -/
  secs : Nat
  /-- buckets of each band, current first; buckets before them hold the power-up value (13 R348, R350). -/
  duty : Map (List Nat)
  /-- dwell buckets by band x 256 + channel, current first (13 R348, R350). -/
  dwell : Map (List Nat)
  /-- last transmission of an antenna port: chain, and the LST at which PA-enable is asserted and released (13 R334, R337). -/
  pa : Map (Nat × Nat × Nat)
  deriving DecidableEq, Repr

/-- LoggiaSt at reset. -/
def LoggiaSt.empty : LoggiaSt where
  paused := false
  chains := []
  inbox := []
  lst := 0
  stepped := false
  slew := 0
  secs := 0
  duty := []
  dwell := []
  pa := []

/-- Time base and backup domain (chapter 15). -/
structure TimeSt where
  /-- raw count of the time base (15 R393). -/
  raw : Nat
  /-- base B, ns (15 R394). -/
  bNs : Nat
  /-- base B, 2^-32 ns (15 R394). -/
  bFrac : Nat
  /-- anchor (15 R394). -/
  r0 : Nat
  /-- integral term of the servo (15 R400). -/
  integ : Int
  /-- latest mean path delay (15 R400). -/
  mpd : Option Int
  /-- mean path delays of the last 16 samples, newest first (15 R402). -/
  mpds : List Int
  /-- offset and mean path delay of the last 4 samples, newest first (15 R401). -/
  samples : List (Int × Int)
  /-- samples since ACQUIRING was entered (15 R401). -/
  nSamples : Nat
  /-- consecutive samples within 1 us (15 R401). -/
  good : Nat
  /-- consecutive samples beyond 10 us (15 R401). -/
  wide : Nat
  /-- raw count from which the offset has been beyond STEPTHR (15 R401). -/
  overAt : Option Nat
  /-- raw count of the last EV_FY_TIME_NEEDSTEP (15 R401). -/
  needAt : Option Nat
  /-- LOCKED has been reached since boot (15 R401). -/
  lockedEver : Bool
  /-- masters known from Announce messages (15 R398). -/
  masters : List PtpMaster
  /-- selected master (15 R398, R401). -/
  master : Option Nat
  /-- Sync that awaits its Follow_Up: sequence, receive time (15 R398). -/
  twoStep : Option (Nat × Int)
  /-- origin and receive time of the last Sync (15 R400). -/
  sync : Option (Int × Int)
  /-- Delay_Req awaiting its answer: origin and receive time of the Sync before it, departure time (15 R400). -/
  dreq : Option (Int × Int × Int)
  /-- the next map is the first after a step (15 R405). -/
  stepped : Bool
  /-- number of the last cycle mark that arrived (15 R404). -/
  markNo : Option Nat
  /-- raw counts of the last marks, newest first (15 R404). -/
  marks : List Nat
  /-- time alarms (15 R408). -/
  alarms : Map Alarm
  /-- RTC count (15 R410). -/
  rtcCnt : Nat
  /-- RTC prescaler (15 R410). -/
  rtcSub : Nat
  /-- shadow set of the host port (15 R413). -/
  shHost : Shadow
  /-- shadow set of the management cores (15 R413). -/
  shMgmt : Shadow
  /-- operating seconds at the Foyer power-on reset (15 R415). -/
  opsec0 : Nat
  /-- losses of the backup domain (model's own counter of a free value) (15 R409). -/
  losses : Nat
  deriving DecidableEq, Repr

/-- TimeSt at reset. [log 9 DESIGN CHOICE] -/
def TimeSt.empty : TimeSt where
  raw := 0
  bNs := 0
  bFrac := 0
  r0 := 0
  integ := 0
  mpd := none
  mpds := []
  samples := []
  nSamples := 0
  good := 0
  wide := 0
  overAt := none
  needAt := none
  lockedEver := false
  masters := []
  master := none
  twoStep := none
  sync := none
  dreq := none
  stepped := false
  markNo := none
  marks := []
  alarms := []
  rtcCnt := 0
  rtcSub := 0
  shHost := Shadow.zero
  shMgmt := Shadow.zero
  opsec0 := 0
  losses := 0

/-- The Undercroft (chapter 17). -/
structure UnderSt where
  /-- key slots (17 R459). -/
  slots : Map KeyAttr
  /-- pending stores (17 R468, R470). -/
  pend : Map KeyPend
  /-- slot of each open streaming context (17 R466). -/
  ctxs : Map Nat
  /-- draws from the DRBG (model's own counter of a free value) (17 R473). -/
  draws : Nat
  /-- DRBG requests since the last reseed (17 R473). -/
  reqs : Nat
  /-- consecutive failed start-up tests (17 R474). -/
  fails : Nat
  /-- second in which ATTEST requests are counted (17 R479). -/
  attSecond : Nat
  /-- ATTEST requests in that second (17 R479). -/
  attests : Nat
  /-- outcome of the last streaming block (17 R466). -/
  lastStatus : Nat
  deriving DecidableEq, Repr

/-- UnderSt at reset. -/
def UnderSt.empty : UnderSt where
  slots := []
  pend := []
  ctxs := []
  draws := 0
  reqs := 0
  fails := 0
  attSecond := 0
  attests := 0
  lastStatus := 0

/-- The update manager (chapter 18). -/
structure UpdSt where
  /-- time-base count from which the module has been in SERVICE without interruption (18 R501). -/
  service : Option Nat
  /-- session that downloads a component, and the slot, by index (18 R489). -/
  loads : Map (Nat × Nat)
  /-- distribution in progress: component, slot, targets due, done and failed (18 R506). -/
  dist : Option (Nat × Nat × List Nat × List Nat × List Nat)
  /-- firmware exchange of a station: request type and offset (18 R507). -/
  fw : Map (Nat × Nat)
  /-- lines on which the firmware exchange takes the place of step 2 (18 R507). -/
  forced : List Nat
  deriving DecidableEq, Repr

/-- UpdSt at reset. -/
def UpdSt.empty : UpdSt where
  service := none
  loads := []
  dist := none
  fw := []
  forced := []

/-- Journal partitions and boot flash the Foyer keeps (chapters 17, 18 and 20). -/
structure JournalSt where
  /-- quarantine of flight A recorded (04 R118). -/
  quarA : Bool
  /-- quarantine of flight B recorded (04 R118). -/
  quarB : Bool
  /-- operating seconds (15 R415). -/
  opsec : Nat
  /-- last system time checkpoint (15 R412). -/
  time : Nat
  /-- mirror of the power-cycle counter (15 R415). -/
  pwrcyc : Nat
  /-- counters of the nodes by register key (14 R368). -/
  nbr : Map W32
  /-- FL_MACTXCTR (14 R369). -/
  txctr : Option Nat
  /-- turn counters (09 R247). -/
  turns : Option (Map Nat)
  /-- retained snapshot (06 R175, 20 R534). -/
  snap : Option Snapshot
  /-- persistent records of the key slots (17 R468). -/
  keys : Map KeyRec
  /-- slot and generation of the link master last delivered (17 R472). -/
  linkGen : Option (Nat × Nat)
  /-- slot states, trial counters and floors, coded as FY_UPDSLOT (18 R485, R511). -/
  words : Map Nat
  /-- slots of boot flash by 2 x index + slot (18 R485, 20 R530). -/
  slots : Map SlotInfo
  /-- campaign (18 R496, 20 R534). -/
  camp : Option Campaign
  /-- settings copies (18 R505). -/
  settings : List SettingsCopy
  /-- recovery client table (16 R453, 20 R550). -/
  clients : Map KeyClient
  /-- operator update key (18 R488, 20 R550). -/
  updateKey : Option (List Byte)
  /-- archive copy 0 (20 R536). -/
  archA : Option Archive
  /-- archive copy 1 (20 R536). -/
  archB : Option Archive
  /-- slot from which the hourly check goes on (20 R533). -/
  scrub : Nat
  /-- record epoch (19 R516). -/
  epoch : Nat
  /-- clears performed (19 R527). -/
  clears : Nat
  /-- copies of the layout descriptor of boot flash (20 R531). -/
  layout : List (List Byte)
  deriving DecidableEq, Repr

/-- JournalSt at reset. [log 10 DESIGN CHOICE] -/
def JournalSt.empty : JournalSt where
  quarA := false
  quarB := false
  opsec := 0
  time := 0
  pwrcyc := 0
  nbr := []
  txctr := none
  turns := none
  snap := none
  keys := []
  linkGen := none
  words := []
  slots := []
  camp := none
  settings := []
  clients := []
  updateKey := none
  archA := none
  archB := none
  scrub := 0
  epoch := 0
  clears := 0
  layout := [layoutReset, layoutReset]

/-- Foyer memory integrity (chapter 03). -/
structure FoyMemSt where
  /-- memory words whose state departs from valid and free of error (03 R64, R65). -/
  words : Map WordInfo
  /-- corrections per physical bank in the present scrub pass (03 R74). -/
  ceCount : Map Nat
  /-- evacuation in progress: logical bank and the spare bank to which it copies (03 R77). -/
  evacTo : Option (Nat × Nat)
  /-- defects that wait for the entries of a bank in evacuation: bank, word, uncorrectable (03 R76). -/
  memWait : List (Nat × Nat × Bool)
  /-- the evacuation in progress serves a bank test (03 R79). -/
  evacTest : Bool
  /-- physical bank under march test (03 R79). -/
  testing : Option Nat
  /-- retired physical banks (03 R77, R78). -/
  retired : List Nat
  /-- words that firmware has written as a whole: physical bank, first word, count (03 R66). -/
  ranges : List (Nat × Nat × Nat)
  /-- physical banks whose corrections have reached CETHR in the present pass (03 R74). -/
  ceDone : List Nat
  /-- physical banks whose evacuation is due and waits for the unit (03 R74, R76). -/
  evacWait : List Nat
  deriving DecidableEq, Repr

/-- FoyMemSt at reset. -/
def FoyMemSt.empty : FoyMemSt where
  words := []
  ceCount := []
  evacTo := none
  memWait := []
  evacTest := false
  testing := none
  retired := []
  ranges := []
  ceDone := []
  evacWait := []

/-- The module without its command queue. -/
structure Dev where
  /-- registers whose value departs from their reset value, by key (00 R8 and each register table). -/
  regs : Map W32
  /-- module (chapter 02). -/
  mod : ModSt
  /-- Corridor (chapter 01). -/
  cor : CorrSt
  /-- Newel (chapter 04). -/
  nw : NewelSt
  /-- flight A (chapter 04). -/
  fa : FlightSt
  /-- flight B (chapter 04). -/
  fb : FlightSt
  /-- Gallery (chapter 11). -/
  gl : GallerySt
  /-- Loggia (chapter 13). -/
  lg : LoggiaSt
  /-- time base and backup domain (chapter 15). -/
  time : TimeSt
  /-- host port (chapter 16). -/
  host : HostSt
  /-- FMP (chapter 16). -/
  fmp : FmpSt
  /-- Ethernet (chapter 16). -/
  eth : EthSt
  /-- Arcade (chapter 19). -/
  arc : ArcSt
  /-- Undercroft (chapter 17). -/
  und : UnderSt
  /-- update manager (chapter 18). -/
  upd : UpdSt
  /-- journal (chapters 18 and 20). -/
  jnl : JournalSt
  /-- Foyer memory (chapter 03). -/
  fmem : FoyMemSt
  deriving DecidableEq, Repr

/-- Dev at reset. -/
def Dev.empty : Dev where
  regs := []
  mod := ModSt.empty
  cor := CorrSt.empty
  nw := NewelSt.empty
  fa := FlightSt.empty
  fb := FlightSt.empty
  gl := GallerySt.empty
  lg := LoggiaSt.empty
  time := TimeSt.empty
  host := HostSt.empty
  fmp := FmpSt.empty
  eth := EthSt.empty
  arc := ArcSt.empty
  und := UnderSt.empty
  upd := UpdSt.empty
  jnl := JournalSt.empty
  fmem := FoyMemSt.empty

/-- The machine: the module and the commands that wait, first in, first out. -/
structure State where
  /-- The module. -/
  dev : Dev
  /-- The commands that wait, the front first. -/
  pending : List Instr
  deriving DecidableEq, Repr

/-- The machine right after reset: every register and field at its reset value and no command waiting. The Foyer has
come out of its power-on reset with VHIN valid, VFIN is not yet valid, and FY_MODSTATE.STATE reads BOOT (02 R63). [log 6 DESIGN CHOICE; 7 DESIGN CHOICE] -/
def State.reset : State where
  dev := Dev.empty
  pending := []

end Sys2Proof.Machine
end

