-- ==== Sys2Proof/Machine/RegMap.lean ====
section
/-! DEFINITION. The register map: every register of the spec's register tables (02 R63, 03 R89 R90, 04 R123 R124,
05 R149, 06 R180, 08 R227, 09 R263, 10 R284, 11 R307, 12 R332, 13 R358, 14 R391, 15 R418, 16 R456, 17 R482,
18 R511, 19 R527), its offsets, its reset value and the access code of each field (00 R8). A register's key is
its region code (R3) times 2^24 plus its offset; a flight register's key is given for flight A (region 3). -/

namespace Sys2Proof.Machine

/-- Access codes of 00 R8. -/
inductive Acc where
  | ro | rw | wo | w1c | w1s | rc | rwl | ra
  deriving DecidableEq, Repr

/-- A field of a register: the register's key and the field's highest and lowest bit. -/
structure Fld where
  key : Nat
  hi : Nat
  lo : Nat
  deriving DecidableEq, Repr

/-- A row of a register table: first and last key, stride, reset value, and its fields (high bit, low bit, access code). -/
structure RegRow where
  first : Nat
  last : Nat
  step : Nat
  reset : Nat
  fields : List (Nat × Nat × Acc)
  deriving DecidableEq, Repr

/-- FY_PARTNO0: part number bytes 0–3, "SX-J" (02 R63). -/
def FY_PARTNO0 : Nat := 0x01000000
/-- FY_PARTNO1: part number bytes 4–7, "16" (02 R63). -/
def FY_PARTNO1 : Nat := 0x01000004
/-- FY_BUILD: build "0A" (02 R63). -/
def FY_BUILD : Nat := 0x01000008
/-- FY_SERIAL0: serial number [31:0] (02 R63). -/
def FY_SERIAL0 : Nat := 0x01000010
/-- FY_SERIAL1: serial number [63:32] (02 R63). -/
def FY_SERIAL1 : Nat := 0x01000014
/-- FY_MODSTATE: module and flight states (02 R63). -/
def FY_MODSTATE : Nat := 0x01000020
def FY_MODSTATE_STATE : Fld := ⟨FY_MODSTATE, 3, 0⟩
def FY_MODSTATE_FASTATE : Fld := ⟨FY_MODSTATE, 11, 8⟩
def FY_MODSTATE_FBSTATE : Fld := ⟨FY_MODSTATE, 15, 12⟩
def FY_MODSTATE_CRUP : Fld := ⟨FY_MODSTATE, 16, 16⟩
def FY_MODSTATE_FIELDPWR : Fld := ⟨FY_MODSTATE, 17, 17⟩
def FY_MODSTATE_PWRWARN : Fld := ⟨FY_MODSTATE, 18, 18⟩
/-- FY_STRESULT: first self-test failure (02 R63). -/
def FY_STRESULT : Nat := 0x01000024
def FY_STRESULT_REGION : Fld := ⟨FY_STRESULT, 7, 0⟩
def FY_STRESULT_TEST : Fld := ⟨FY_STRESULT, 15, 8⟩
def FY_STRESULT_DETAIL : Fld := ⟨FY_STRESULT, 23, 16⟩
def FY_STRESULT_COUNT : Fld := ⟨FY_STRESULT, 31, 24⟩
/-- FY_START: start kind and basis (02 R63). -/
def FY_START : Nat := 0x01000028
def FY_START_KIND : Fld := ⟨FY_START, 0, 0⟩
def FY_START_BASIS : Fld := ⟨FY_START, 2, 1⟩
def FY_START_FALLBACK : Fld := ⟨FY_START, 3, 3⟩
def FY_START_FIELDONLY : Fld := ⟨FY_START, 4, 4⟩
/-- FY_MEASSEL: measurement register selector (02 R63). -/
def FY_MEASSEL : Nat := 0x01000030
def FY_MEASSEL_SEL : Fld := ⟨FY_MEASSEL, 2, 0⟩
/-- FY_MEASDATA[0..7]: selected digest, word 0 = bytes 0–3 (02 R63). -/
def FY_MEASDATA : Nat := 0x01000040

/-- Register rows of chapter 02. -/
def regRows02_0 : List RegRow := [
  ⟨0x01000000, 0x01000000, 4, 0x4A2D5853, [(31, 0, .ro)]⟩,
  ⟨0x01000004, 0x01000004, 4, 0x00003631, [(31, 0, .ro)]⟩,
  ⟨0x01000008, 0x01000008, 4, 0x00004130, [(31, 0, .ro)]⟩,
  ⟨0x01000010, 0x01000010, 4, 0x00000000, [(31, 0, .ro)]⟩,
  ⟨0x01000014, 0x01000014, 4, 0x00000000, [(31, 0, .ro)]⟩,
  ⟨0x01000020, 0x01000020, 4, 0x00000001, [(3, 0, .ro), (11, 8, .ro), (15, 12, .ro), (16, 16, .ro), (17, 17, .ro), (18, 18, .ro)]⟩,
  ⟨0x01000024, 0x01000024, 4, 0x00000000, [(7, 0, .ro), (15, 8, .ro), (23, 16, .ro), (31, 24, .ro)]⟩,
  ⟨0x01000028, 0x01000028, 4, 0x00000000, [(0, 0, .ro), (2, 1, .ro), (3, 3, .ro), (4, 4, .ro)]⟩,
  ⟨0x01000030, 0x01000030, 4, 0x00000000, [(2, 0, .rw)]⟩,
  ⟨0x01000040, 0x0100005C, 4, 0x00000000, [(31, 0, .ro)]⟩]

/-- FL_SCRUBCFG: scrubber enable, rate and threshold (03 R89). -/
def FL_SCRUBCFG : Nat := 0x03003000
def FL_SCRUBCFG_EN : Fld := ⟨FL_SCRUBCFG, 0, 0⟩
def FL_SCRUBCFG_AUTOEVAC : Fld := ⟨FL_SCRUBCFG, 1, 1⟩
def FL_SCRUBCFG_PERIOD : Fld := ⟨FL_SCRUBCFG, 15, 8⟩
def FL_SCRUBCFG_CETHR : Fld := ⟨FL_SCRUBCFG, 31, 16⟩
/-- FL_SCRUBPOS: scrubber position and pass count (03 R89). -/
def FL_SCRUBPOS : Nat := 0x03003004
def FL_SCRUBPOS_PBANK : Fld := ⟨FL_SCRUBPOS, 5, 0⟩
def FL_SCRUBPOS_WORD : Fld := ⟨FL_SCRUBPOS, 22, 8⟩
def FL_SCRUBPOS_PASSES : Fld := ⟨FL_SCRUBPOS, 31, 24⟩
/-- FL_CECNT: corrections since field reset, saturating at 0xFFFF_FFFF (03 R89). -/
def FL_CECNT : Nat := 0x03003008
def FL_CECNT_COUNT : Fld := ⟨FL_CECNT, 31, 0⟩
/-- FL_UECNT: uncorrectable errors met, saturating at 0xFFFF_FFFF (03 R89). -/
def FL_UECNT : Nat := 0x0300300C
def FL_UECNT_COUNT : Fld := ⟨FL_UECNT, 31, 0⟩
/-- FL_ERRADDR: last error (03 R89). -/
def FL_ERRADDR : Nat := 0x03003010
def FL_ERRADDR_PBANK : Fld := ⟨FL_ERRADDR, 5, 0⟩
def FL_ERRADDR_WORD : Fld := ⟨FL_ERRADDR, 20, 6⟩
def FL_ERRADDR_UE : Fld := ⟨FL_ERRADDR, 21, 21⟩
def FL_ERRADDR_AGENT : Fld := ⟨FL_ERRADDR, 24, 22⟩
/-- FL_EVAC: evacuation and bank test (03 R89). -/
def FL_EVAC : Nat := 0x03003014
def FL_EVAC_LBANK : Fld := ⟨FL_EVAC, 4, 0⟩
def FL_EVAC_START : Fld := ⟨FL_EVAC, 8, 8⟩
def FL_EVAC_TEST : Fld := ⟨FL_EVAC, 9, 9⟩
def FL_EVAC_FORCE : Fld := ⟨FL_EVAC, 10, 10⟩
def FL_EVAC_BUSY : Fld := ⟨FL_EVAC, 16, 16⟩
def FL_EVAC_DONE : Fld := ⟨FL_EVAC, 17, 17⟩
def FL_EVAC_RESULT : Fld := ⟨FL_EVAC, 31, 24⟩
/-- FL_SPAREMAP: free spare banks and retired count (03 R89). -/
def FL_SPAREMAP : Nat := 0x03003018
def FL_SPAREMAP_SPARE0 : Fld := ⟨FL_SPAREMAP, 5, 0⟩
def FL_SPAREMAP_SPARE1 : Fld := ⟨FL_SPAREMAP, 13, 8⟩
def FL_SPAREMAP_RETIRED : Fld := ⟨FL_SPAREMAP, 21, 16⟩
/-- FL_ECCTEST: check-bit test window (03 R89). -/
def FL_ECCTEST : Nat := 0x0300301C
def FL_ECCTEST_PBANK : Fld := ⟨FL_ECCTEST, 5, 0⟩
def FL_ECCTEST_WORD : Fld := ⟨FL_ECCTEST, 20, 6⟩
def FL_ECCTEST_MASK : Fld := ⟨FL_ECCTEST, 28, 21⟩
def FL_ECCTEST_ARM : Fld := ⟨FL_ECCTEST, 29, 29⟩
/-- FL_ECCRAW: check bits stored by the last window write (03 R89). -/
def FL_ECCRAW : Nat := 0x03003020
def FL_ECCRAW_CHECK : Fld := ⟨FL_ECCRAW, 7, 0⟩
/-- FL_BANKPHYS[0..7]: logical to physical bank map (03 R89). -/
def FL_BANKPHYS : Nat := 0x03003030
def FL_BANKPHYS_P0 : Fld := ⟨FL_BANKPHYS, 5, 0⟩
def FL_BANKPHYS_P1 : Fld := ⟨FL_BANKPHYS, 13, 8⟩
def FL_BANKPHYS_P2 : Fld := ⟨FL_BANKPHYS, 21, 16⟩
def FL_BANKPHYS_P3 : Fld := ⟨FL_BANKPHYS, 29, 24⟩
/-- FL_REMAP[0..15]: remap entries (03 R89). -/
def FL_REMAP : Nat := 0x03003080
def FL_REMAP_VALID : Fld := ⟨FL_REMAP, 0, 0⟩
def FL_REMAP_UE : Fld := ⟨FL_REMAP, 1, 1⟩
def FL_REMAP_PBANK : Fld := ⟨FL_REMAP, 7, 2⟩
def FL_REMAP_WORD : Fld := ⟨FL_REMAP, 22, 8⟩
/-- FL_SPAREBUD: spare budgets of the flight (03 R89). -/
def FL_SPAREBUD : Nat := 0x030030C0
def FL_SPAREBUD_BANKS : Fld := ⟨FL_SPAREBUD, 1, 0⟩
def FL_SPAREBUD_REMAP : Fld := ⟨FL_SPAREBUD, 12, 8⟩
def FL_SPAREBUD_TREAD : Fld := ⟨FL_SPAREBUD, 16, 16⟩
def FL_SPAREBUD_ENF : Fld := ⟨FL_SPAREBUD, 22, 20⟩
/-- FL_LATCH[0..31]: latch registers (03 R89). -/
def FL_LATCH : Nat := 0x03003100
def FL_LATCH_OWNER : Fld := ⟨FL_LATCH, 5, 0⟩
/-- FL_LATCHOWN[0..31]: owner without acquiring (03 R89). -/
def FL_LATCHOWN : Nat := 0x03003180
def FL_LATCHOWN_OWNER : Fld := ⟨FL_LATCHOWN, 5, 0⟩
/-- FY_LATCH[0..31]: latch registers (03 R90). -/
def FY_LATCH : Nat := 0x01000500
def FY_LATCH_OWNER : Fld := ⟨FY_LATCH, 5, 0⟩
/-- FY_LATCHOWN[0..31]: owner without acquiring (03 R90). -/
def FY_LATCHOWN : Nat := 0x01000580
def FY_LATCHOWN_OWNER : Fld := ⟨FY_LATCHOWN, 5, 0⟩
/-- FY_SCRUBCFG: as FL_SCRUBCFG (03 R90). -/
def FY_SCRUBCFG : Nat := 0x01000C00
def FY_SCRUBCFG_EN : Fld := ⟨FY_SCRUBCFG, 0, 0⟩
def FY_SCRUBCFG_AUTOEVAC : Fld := ⟨FY_SCRUBCFG, 1, 1⟩
def FY_SCRUBCFG_PERIOD : Fld := ⟨FY_SCRUBCFG, 15, 8⟩
def FY_SCRUBCFG_CETHR : Fld := ⟨FY_SCRUBCFG, 31, 16⟩
/-- FY_SCRUBPOS: as FL_SCRUBPOS (03 R90). -/
def FY_SCRUBPOS : Nat := 0x01000C04
def FY_SCRUBPOS_PBANK : Fld := ⟨FY_SCRUBPOS, 5, 0⟩
def FY_SCRUBPOS_WORD : Fld := ⟨FY_SCRUBPOS, 22, 8⟩
def FY_SCRUBPOS_PASSES : Fld := ⟨FY_SCRUBPOS, 31, 24⟩
/-- FY_CECNT: as FL_CECNT (03 R90). -/
def FY_CECNT : Nat := 0x01000C08
def FY_CECNT_COUNT : Fld := ⟨FY_CECNT, 31, 0⟩
/-- FY_UECNT: as FL_UECNT (03 R90). -/
def FY_UECNT : Nat := 0x01000C0C
def FY_UECNT_COUNT : Fld := ⟨FY_UECNT, 31, 0⟩
/-- FY_ERRADDR: as FL_ERRADDR (03 R90). -/
def FY_ERRADDR : Nat := 0x01000C10
def FY_ERRADDR_PBANK : Fld := ⟨FY_ERRADDR, 5, 0⟩
def FY_ERRADDR_WORD : Fld := ⟨FY_ERRADDR, 20, 6⟩
def FY_ERRADDR_UE : Fld := ⟨FY_ERRADDR, 21, 21⟩
def FY_ERRADDR_AGENT : Fld := ⟨FY_ERRADDR, 24, 22⟩
/-- FY_EVAC: as FL_EVAC (03 R90). -/
def FY_EVAC : Nat := 0x01000C14
def FY_EVAC_LBANK : Fld := ⟨FY_EVAC, 3, 0⟩
def FY_EVAC_START : Fld := ⟨FY_EVAC, 8, 8⟩
def FY_EVAC_TEST : Fld := ⟨FY_EVAC, 9, 9⟩
def FY_EVAC_FORCE : Fld := ⟨FY_EVAC, 10, 10⟩
def FY_EVAC_BUSY : Fld := ⟨FY_EVAC, 16, 16⟩
def FY_EVAC_DONE : Fld := ⟨FY_EVAC, 17, 17⟩
def FY_EVAC_RESULT : Fld := ⟨FY_EVAC, 31, 24⟩
/-- FY_SPAREMAP: SPARE1 is always 0x3F (03 R90). -/
def FY_SPAREMAP : Nat := 0x01000C18
def FY_SPAREMAP_SPARE0 : Fld := ⟨FY_SPAREMAP, 5, 0⟩
def FY_SPAREMAP_SPARE1 : Fld := ⟨FY_SPAREMAP, 13, 8⟩
def FY_SPAREMAP_RETIRED : Fld := ⟨FY_SPAREMAP, 21, 16⟩
/-- FY_ECCTEST: as FL_ECCTEST (03 R90). -/
def FY_ECCTEST : Nat := 0x01000C1C
def FY_ECCTEST_PBANK : Fld := ⟨FY_ECCTEST, 5, 0⟩
def FY_ECCTEST_WORD : Fld := ⟨FY_ECCTEST, 20, 6⟩
def FY_ECCTEST_MASK : Fld := ⟨FY_ECCTEST, 28, 21⟩
def FY_ECCTEST_ARM : Fld := ⟨FY_ECCTEST, 29, 29⟩
/-- FY_ECCRAW: as FL_ECCRAW (03 R90). -/
def FY_ECCRAW : Nat := 0x01000C20
def FY_ECCRAW_CHECK : Fld := ⟨FY_ECCRAW, 7, 0⟩
/-- FY_BANKPHYS[0..3]: logical banks 0 to 15 (03 R90). -/
def FY_BANKPHYS : Nat := 0x01000C30
def FY_BANKPHYS_P0 : Fld := ⟨FY_BANKPHYS, 5, 0⟩
def FY_BANKPHYS_P1 : Fld := ⟨FY_BANKPHYS, 13, 8⟩
def FY_BANKPHYS_P2 : Fld := ⟨FY_BANKPHYS, 21, 16⟩
def FY_BANKPHYS_P3 : Fld := ⟨FY_BANKPHYS, 29, 24⟩
/-- FY_REMAP[0..7]: as FL_REMAP (03 R90). -/
def FY_REMAP : Nat := 0x01000C40
def FY_REMAP_VALID : Fld := ⟨FY_REMAP, 0, 0⟩
def FY_REMAP_UE : Fld := ⟨FY_REMAP, 1, 1⟩
def FY_REMAP_PBANK : Fld := ⟨FY_REMAP, 7, 2⟩
def FY_REMAP_WORD : Fld := ⟨FY_REMAP, 22, 8⟩
/-- FY_SPAREBUD0: host-side and Corridor budgets (03 R90). -/
def FY_SPAREBUD0 : Nat := 0x01000C80
def FY_SPAREBUD0_BANKS : Fld := ⟨FY_SPAREBUD0, 0, 0⟩
def FY_SPAREBUD0_REMAP : Fld := ⟨FY_SPAREBUD0, 7, 4⟩
def FY_SPAREBUD0_CRDOWN : Fld := ⟨FY_SPAREBUD0, 8, 8⟩
def FY_SPAREBUD0_CRUP : Fld := ⟨FY_SPAREBUD0, 9, 9⟩
/-- FY_SPAREBUD1: channel spare cells (03 R90). -/
def FY_SPAREBUD1 : Nat := 0x01000C84
def FY_SPAREBUD1_GROUP : Fld := ⟨FY_SPAREBUD1, 15, 0⟩
/-- FY_SPAREBUD2: copy of flight A FL_SPAREBUD (03 R90). -/
def FY_SPAREBUD2 : Nat := 0x01000C88
def FY_SPAREBUD2_BANKS : Fld := ⟨FY_SPAREBUD2, 1, 0⟩
def FY_SPAREBUD2_REMAP : Fld := ⟨FY_SPAREBUD2, 12, 8⟩
def FY_SPAREBUD2_TREAD : Fld := ⟨FY_SPAREBUD2, 16, 16⟩
def FY_SPAREBUD2_ENF : Fld := ⟨FY_SPAREBUD2, 22, 20⟩
/-- FY_SPAREBUD3: copy of flight B FL_SPAREBUD (03 R90). -/
def FY_SPAREBUD3 : Nat := 0x01000C8C
def FY_SPAREBUD3_BANKS : Fld := ⟨FY_SPAREBUD3, 1, 0⟩
def FY_SPAREBUD3_REMAP : Fld := ⟨FY_SPAREBUD3, 12, 8⟩
def FY_SPAREBUD3_TREAD : Fld := ⟨FY_SPAREBUD3, 16, 16⟩
def FY_SPAREBUD3_ENF : Fld := ⟨FY_SPAREBUD3, 22, 20⟩

/-- Register rows of chapter 03. -/
def regRows03_0 : List RegRow := [
  ⟨0x03003000, 0x03003000, 4, 0x00103F03, [(0, 0, .rw), (1, 1, .rw), (15, 8, .rw), (31, 16, .rw)]⟩,
  ⟨0x03003004, 0x03003004, 4, 0x00000000, [(5, 0, .ro), (22, 8, .ro), (31, 24, .ro)]⟩,
  ⟨0x03003008, 0x03003008, 4, 0x00000000, [(31, 0, .ro)]⟩,
  ⟨0x0300300C, 0x0300300C, 4, 0x00000000, [(31, 0, .ro)]⟩,
  ⟨0x03003010, 0x03003010, 4, 0x00000000, [(5, 0, .ro), (20, 6, .ro), (21, 21, .ro), (24, 22, .ro)]⟩,
  ⟨0x03003014, 0x03003014, 4, 0x00000000, [(4, 0, .rw), (8, 8, .wo), (9, 9, .wo), (10, 10, .wo), (16, 16, .ro), (17, 17, .w1c), (31, 24, .ro)]⟩,
  ⟨0x03003018, 0x03003018, 4, 0x00002120, [(5, 0, .ro), (13, 8, .ro), (21, 16, .ro)]⟩,
  ⟨0x0300301C, 0x0300301C, 4, 0x00000000, [(5, 0, .rw), (20, 6, .rw), (28, 21, .rw), (29, 29, .w1s)]⟩,
  ⟨0x03003020, 0x03003020, 4, 0x00000000, [(7, 0, .ro)]⟩,
  ⟨0x03003030, 0x03003030, 4, 0x03020100, [(5, 0, .ro), (13, 8, .ro), (21, 16, .ro), (29, 24, .ro)]⟩,
  ⟨0x03003034, 0x03003034, 4, 0x07060504, [(5, 0, .ro), (13, 8, .ro), (21, 16, .ro), (29, 24, .ro)]⟩,
  ⟨0x03003038, 0x03003038, 4, 0x0B0A0908, [(5, 0, .ro), (13, 8, .ro), (21, 16, .ro), (29, 24, .ro)]⟩,
  ⟨0x0300303C, 0x0300303C, 4, 0x0F0E0D0C, [(5, 0, .ro), (13, 8, .ro), (21, 16, .ro), (29, 24, .ro)]⟩,
  ⟨0x03003040, 0x03003040, 4, 0x13121110, [(5, 0, .ro), (13, 8, .ro), (21, 16, .ro), (29, 24, .ro)]⟩,
  ⟨0x03003044, 0x03003044, 4, 0x17161514, [(5, 0, .ro), (13, 8, .ro), (21, 16, .ro), (29, 24, .ro)]⟩,
  ⟨0x03003048, 0x03003048, 4, 0x1B1A1918, [(5, 0, .ro), (13, 8, .ro), (21, 16, .ro), (29, 24, .ro)]⟩,
  ⟨0x0300304C, 0x0300304C, 4, 0x1F1E1D1C, [(5, 0, .ro), (13, 8, .ro), (21, 16, .ro), (29, 24, .ro)]⟩,
  ⟨0x03003080, 0x030030BC, 4, 0x00000000, [(0, 0, .ro), (1, 1, .ro), (7, 2, .ro), (22, 8, .ro)]⟩,
  ⟨0x030030C0, 0x030030C0, 4, 0x00411002, [(1, 0, .ro), (12, 8, .ro), (16, 16, .ro), (22, 20, .ro)]⟩,
  ⟨0x03003100, 0x0300317C, 4, 0x00000000, [(5, 0, .ra)]⟩,
  ⟨0x03003180, 0x030031FC, 4, 0x00000000, [(5, 0, .ro)]⟩,
  ⟨0x01000500, 0x0100057C, 4, 0x00000000, [(5, 0, .ra)]⟩,
  ⟨0x01000580, 0x010005FC, 4, 0x00000000, [(5, 0, .ro)]⟩,
  ⟨0x01000C00, 0x01000C00, 4, 0x00103F03, [(0, 0, .rw), (1, 1, .rw), (15, 8, .rw), (31, 16, .rw)]⟩,
  ⟨0x01000C04, 0x01000C04, 4, 0x00000000, [(5, 0, .ro), (22, 8, .ro), (31, 24, .ro)]⟩,
  ⟨0x01000C08, 0x01000C08, 4, 0x00000000, [(31, 0, .ro)]⟩,
  ⟨0x01000C0C, 0x01000C0C, 4, 0x00000000, [(31, 0, .ro)]⟩,
  ⟨0x01000C10, 0x01000C10, 4, 0x00000000, [(5, 0, .ro), (20, 6, .ro), (21, 21, .ro), (24, 22, .ro)]⟩,
  ⟨0x01000C14, 0x01000C14, 4, 0x00000000, [(3, 0, .rw), (8, 8, .wo), (9, 9, .wo), (10, 10, .wo), (16, 16, .ro), (17, 17, .w1c), (31, 24, .ro)]⟩,
  ⟨0x01000C18, 0x01000C18, 4, 0x00003F10, [(5, 0, .ro), (13, 8, .ro), (21, 16, .ro)]⟩,
  ⟨0x01000C1C, 0x01000C1C, 4, 0x00000000, [(5, 0, .rw), (20, 6, .rw), (28, 21, .rw), (29, 29, .w1s)]⟩,
  ⟨0x01000C20, 0x01000C20, 4, 0x00000000, [(7, 0, .ro)]⟩,
  ⟨0x01000C30, 0x01000C30, 4, 0x03020100, [(5, 0, .ro), (13, 8, .ro), (21, 16, .ro), (29, 24, .ro)]⟩,
  ⟨0x01000C34, 0x01000C34, 4, 0x07060504, [(5, 0, .ro), (13, 8, .ro), (21, 16, .ro), (29, 24, .ro)]⟩,
  ⟨0x01000C38, 0x01000C38, 4, 0x0B0A0908, [(5, 0, .ro), (13, 8, .ro), (21, 16, .ro), (29, 24, .ro)]⟩,
  ⟨0x01000C3C, 0x01000C3C, 4, 0x0F0E0D0C, [(5, 0, .ro), (13, 8, .ro), (21, 16, .ro), (29, 24, .ro)]⟩,
  ⟨0x01000C40, 0x01000C5C, 4, 0x00000000, [(0, 0, .ro), (1, 1, .ro), (7, 2, .ro), (22, 8, .ro)]⟩,
  ⟨0x01000C80, 0x01000C80, 4, 0x00000381, [(0, 0, .ro), (7, 4, .ro), (8, 8, .ro), (9, 9, .ro)]⟩,
  ⟨0x01000C84, 0x01000C84, 4, 0x0000FFFF, [(15, 0, .ro)]⟩,
  ⟨0x01000C88, 0x01000C88, 4, 0x00411002, [(1, 0, .ro), (12, 8, .ro), (16, 16, .ro), (22, 20, .ro)]⟩]
def regRows03_1 : List RegRow := [
  ⟨0x01000C8C, 0x01000C8C, 4, 0x00411002, [(1, 0, .ro), (12, 8, .ro), (16, 16, .ro), (22, 20, .ro)]⟩]

/-- NW_STAT: active flight and flight states (04 R123). -/
def NW_STAT : Nat := 0x05000000
def NW_STAT_ACTIVE : Fld := ⟨NW_STAT, 0, 0⟩
def NW_STAT_ACTV : Fld := ⟨NW_STAT, 1, 1⟩
def NW_STAT_UNCOMPARED : Fld := ⟨NW_STAT, 2, 2⟩
def NW_STAT_STAIR : Fld := ⟨NW_STAT, 3, 3⟩
def NW_STAT_FASTATE : Fld := ⟨NW_STAT, 11, 8⟩
def NW_STAT_FBSTATE : Fld := ⟨NW_STAT, 15, 12⟩
def NW_STAT_MODE : Fld := ⟨NW_STAT, 17, 16⟩
/-- NW_SWCTL: planned switch-over and tests (04 R123). -/
def NW_SWCTL : Nat := 0x05000004
def NW_SWCTL_PLAN : Fld := ⟨NW_SWCTL, 0, 0⟩
def NW_SWCTL_TEST : Fld := ⟨NW_SWCTL, 1, 1⟩
def NW_SWCTL_FORCE : Fld := ⟨NW_SWCTL, 2, 2⟩
def NW_SWCTL_TARGET : Fld := ⟨NW_SWCTL, 3, 3⟩
def NW_SWCTL_AFTER : Fld := ⟨NW_SWCTL, 5, 4⟩
def NW_SWCTL_BUSY : Fld := ⟨NW_SWCTL, 16, 16⟩
def NW_SWCTL_DONE : Fld := ⟨NW_SWCTL, 17, 17⟩
def NW_SWCTL_RESULT : Fld := ⟨NW_SWCTL, 31, 24⟩
/-- NW_SWSTAT: last switch-over (04 R123). -/
def NW_SWSTAT : Nat := 0x05000008
def NW_SWSTAT_FROM : Fld := ⟨NW_SWSTAT, 0, 0⟩
def NW_SWSTAT_PLANNED : Fld := ⟨NW_SWSTAT, 1, 1⟩
def NW_SWSTAT_CAUSE : Fld := ⟨NW_SWSTAT, 15, 8⟩
def NW_SWSTAT_LAT : Fld := ⟨NW_SWSTAT, 23, 16⟩
/-- NW_SWCNT: switch-over counts (04 R123). -/
def NW_SWCNT : Nat := 0x0500000C
def NW_SWCNT_FAILOVER : Fld := ⟨NW_SWCNT, 15, 0⟩
def NW_SWCNT_PLANNED : Fld := ⟨NW_SWCNT, 31, 16⟩
/-- NW_FAULTA: faults of flight A (04 R123). -/
def NW_FAULTA : Nat := 0x05000010
def NW_FAULTA_CODE : Fld := ⟨NW_FAULTA, 7, 0⟩
def NW_FAULTA_DAY : Fld := ⟨NW_FAULTA, 9, 8⟩
def NW_FAULTA_TOTAL : Fld := ⟨NW_FAULTA, 31, 16⟩
/-- NW_FAULTB: faults of flight B (04 R123). -/
def NW_FAULTB : Nat := 0x05000014
def NW_FAULTB_CODE : Fld := ⟨NW_FAULTB, 7, 0⟩
def NW_FAULTB_DAY : Fld := ⟨NW_FAULTB, 9, 8⟩
def NW_FAULTB_TOTAL : Fld := ⟨NW_FAULTB, 31, 16⟩
/-- NW_DIVSTAT: divergences (04 R123). -/
def NW_DIVSTAT : Nat := 0x05000018
def NW_DIVSTAT_COUNT : Fld := ⟨NW_DIVSTAT, 15, 0⟩
def NW_DIVSTAT_STRIKE : Fld := ⟨NW_DIVSTAT, 16, 16⟩
/-- NW_SCANLO: last committed scan [31:0] (04 R123). -/
def NW_SCANLO : Nat := 0x05000020
/-- NW_SCANHI: last committed scan [63:32] (04 R123). -/
def NW_SCANHI : Nat := 0x05000024
/-- NW_DIG[0..3]: last digests: A [31:0], A [63:32], B [31:0], B [63:32] (04 R123). -/
def NW_DIG : Nat := 0x05000028
/-- NW_STAIRCFG: stair transfer parameters (04 R123). -/
def NW_STAIRCFG : Nat := 0x05000040
def NW_STAIRCFG_RATE : Fld := ⟨NW_STAIRCFG, 1, 0⟩
def NW_STAIRCFG_ROUNDS : Fld := ⟨NW_STAIRCFG, 7, 4⟩
def NW_STAIRCFG_FREEZEPG : Fld := ⟨NW_STAIRCFG, 13, 8⟩
def NW_STAIRCFG_VERIFY : Fld := ⟨NW_STAIRCFG, 23, 16⟩
/-- NW_STAIRSTAT: stair transfer progress (04 R123). -/
def NW_STAIRSTAT : Nat := 0x05000044
def NW_STAIRSTAT_PHASE : Fld := ⟨NW_STAIRSTAT, 2, 0⟩
def NW_STAIRSTAT_ROUND : Fld := ⟨NW_STAIRSTAT, 7, 4⟩
def NW_STAIRSTAT_DIRTY : Fld := ⟨NW_STAIRSTAT, 18, 8⟩
def NW_STAIRSTAT_TRIES : Fld := ⟨NW_STAIRSTAT, 21, 20⟩
def NW_STAIRSTAT_RESULT : Fld := ⟨NW_STAIRSTAT, 31, 24⟩
/-- NW_REPAIRCFG: automatic repair (04 R123). -/
def NW_REPAIRCFG : Nat := 0x05000048
def NW_REPAIRCFG_RETRY : Fld := ⟨NW_REPAIRCFG, 7, 0⟩
def NW_REPAIRCFG_QEN : Fld := ⟨NW_REPAIRCFG, 8, 8⟩
/-- NW_QUAR: quarantine (04 R123). -/
def NW_QUAR : Nat := 0x0500004C
def NW_QUAR_QA : Fld := ⟨NW_QUAR, 0, 0⟩
def NW_QUAR_QB : Fld := ⟨NW_QUAR, 1, 1⟩
def NW_QUAR_REASONA : Fld := ⟨NW_QUAR, 15, 8⟩
def NW_QUAR_REASONB : Fld := ⟨NW_QUAR, 23, 16⟩
def NW_QUAR_RELA : Fld := ⟨NW_QUAR, 24, 24⟩
def NW_QUAR_RELB : Fld := ⟨NW_QUAR, 25, 25⟩
def NW_QUAR_SETA : Fld := ⟨NW_QUAR, 26, 26⟩
def NW_QUAR_SETB : Fld := ⟨NW_QUAR, 27, 27⟩
def NW_QUAR_RESTORE : Fld := ⟨NW_QUAR, 28, 28⟩
/-- NW_FRAMELO: next frame number [31:0] (04 R123). -/
def NW_FRAMELO : Nat := 0x05000050
/-- NW_FRAMEHI: next frame number [63:32] (04 R123). -/
def NW_FRAMEHI : Nat := 0x05000054
/-- NW_CYCLO: Newel cycle [31:0] (04 R123). -/
def NW_CYCLO : Nat := 0x05000058
/-- NW_CYCHI: Newel cycle [63:32] (04 R123). -/
def NW_CYCHI : Nat := 0x0500005C
/-- FY_NWSTAT: as NW_STAT (04 R124). -/
def FY_NWSTAT : Nat := 0x01000B00
def FY_NWSTAT_ACTIVE : Fld := ⟨FY_NWSTAT, 0, 0⟩
def FY_NWSTAT_ACTV : Fld := ⟨FY_NWSTAT, 1, 1⟩
def FY_NWSTAT_UNCOMPARED : Fld := ⟨FY_NWSTAT, 2, 2⟩
def FY_NWSTAT_STAIR : Fld := ⟨FY_NWSTAT, 3, 3⟩
def FY_NWSTAT_FASTATE : Fld := ⟨FY_NWSTAT, 11, 8⟩
def FY_NWSTAT_FBSTATE : Fld := ⟨FY_NWSTAT, 15, 12⟩
def FY_NWSTAT_MODE : Fld := ⟨FY_NWSTAT, 17, 16⟩
/-- FY_NWSWSTAT: as NW_SWSTAT (04 R124). -/
def FY_NWSWSTAT : Nat := 0x01000B04
def FY_NWSWSTAT_FROM : Fld := ⟨FY_NWSWSTAT, 0, 0⟩
def FY_NWSWSTAT_PLANNED : Fld := ⟨FY_NWSWSTAT, 1, 1⟩
def FY_NWSWSTAT_CAUSE : Fld := ⟨FY_NWSWSTAT, 15, 8⟩
def FY_NWSWSTAT_LAT : Fld := ⟨FY_NWSWSTAT, 23, 16⟩
/-- FY_NWSWCNT: as NW_SWCNT (04 R124). -/
def FY_NWSWCNT : Nat := 0x01000B08
def FY_NWSWCNT_FAILOVER : Fld := ⟨FY_NWSWCNT, 15, 0⟩
def FY_NWSWCNT_PLANNED : Fld := ⟨FY_NWSWCNT, 31, 16⟩
/-- FY_NWFAULTA: as NW_FAULTA (04 R124). -/
def FY_NWFAULTA : Nat := 0x01000B0C
def FY_NWFAULTA_CODE : Fld := ⟨FY_NWFAULTA, 7, 0⟩
def FY_NWFAULTA_DAY : Fld := ⟨FY_NWFAULTA, 9, 8⟩
def FY_NWFAULTA_TOTAL : Fld := ⟨FY_NWFAULTA, 31, 16⟩
/-- FY_NWFAULTB: as NW_FAULTB (04 R124). -/
def FY_NWFAULTB : Nat := 0x01000B10
def FY_NWFAULTB_CODE : Fld := ⟨FY_NWFAULTB, 7, 0⟩
def FY_NWFAULTB_DAY : Fld := ⟨FY_NWFAULTB, 9, 8⟩
def FY_NWFAULTB_TOTAL : Fld := ⟨FY_NWFAULTB, 31, 16⟩
/-- FY_NWDIVSTAT: as NW_DIVSTAT (04 R124). -/
def FY_NWDIVSTAT : Nat := 0x01000B14
def FY_NWDIVSTAT_COUNT : Fld := ⟨FY_NWDIVSTAT, 15, 0⟩
def FY_NWDIVSTAT_STRIKE : Fld := ⟨FY_NWDIVSTAT, 16, 16⟩
/-- FY_NWSTAIRSTAT: as NW_STAIRSTAT (04 R124). -/
def FY_NWSTAIRSTAT : Nat := 0x01000B18
def FY_NWSTAIRSTAT_PHASE : Fld := ⟨FY_NWSTAIRSTAT, 2, 0⟩
def FY_NWSTAIRSTAT_ROUND : Fld := ⟨FY_NWSTAIRSTAT, 7, 4⟩
def FY_NWSTAIRSTAT_DIRTY : Fld := ⟨FY_NWSTAIRSTAT, 18, 8⟩
def FY_NWSTAIRSTAT_TRIES : Fld := ⟨FY_NWSTAIRSTAT, 21, 20⟩
def FY_NWSTAIRSTAT_RESULT : Fld := ⟨FY_NWSTAIRSTAT, 31, 24⟩
/-- FY_NWQUAR: as NW_QUAR (04 R124). -/
def FY_NWQUAR : Nat := 0x01000B1C
def FY_NWQUAR_QA : Fld := ⟨FY_NWQUAR, 0, 0⟩
def FY_NWQUAR_QB : Fld := ⟨FY_NWQUAR, 1, 1⟩
def FY_NWQUAR_REASONA : Fld := ⟨FY_NWQUAR, 15, 8⟩
def FY_NWQUAR_REASONB : Fld := ⟨FY_NWQUAR, 23, 16⟩
def FY_NWQUAR_RELA : Fld := ⟨FY_NWQUAR, 24, 24⟩
def FY_NWQUAR_RELB : Fld := ⟨FY_NWQUAR, 25, 25⟩
def FY_NWQUAR_SETA : Fld := ⟨FY_NWQUAR, 26, 26⟩
def FY_NWQUAR_SETB : Fld := ⟨FY_NWQUAR, 27, 27⟩
def FY_NWQUAR_RESTORE : Fld := ⟨FY_NWQUAR, 28, 28⟩
/-- FY_NWSCANLO: as NW_SCANLO (04 R124). -/
def FY_NWSCANLO : Nat := 0x01000B20
/-- FY_NWSCANHI: as NW_SCANHI (04 R124). -/
def FY_NWSCANHI : Nat := 0x01000B24

/-- Register rows of chapter 04. -/
def regRows04_0 : List RegRow := [
  ⟨0x05000000, 0x05000000, 4, 0x00000000, [(0, 0, .ro), (1, 1, .ro), (2, 2, .ro), (3, 3, .ro), (11, 8, .ro), (15, 12, .ro), (17, 16, .ro)]⟩,
  ⟨0x05000004, 0x05000004, 4, 0x00000000, [(0, 0, .wo), (1, 1, .wo), (2, 2, .wo), (3, 3, .rw), (5, 4, .rw), (16, 16, .ro), (17, 17, .w1c), (31, 24, .ro)]⟩,
  ⟨0x05000008, 0x05000008, 4, 0x00000000, [(0, 0, .ro), (1, 1, .ro), (15, 8, .ro), (23, 16, .ro)]⟩,
  ⟨0x0500000C, 0x0500000C, 4, 0x00000000, [(15, 0, .ro), (31, 16, .ro)]⟩,
  ⟨0x05000010, 0x05000010, 4, 0x00000000, [(7, 0, .ro), (9, 8, .ro), (31, 16, .ro)]⟩,
  ⟨0x05000014, 0x05000014, 4, 0x00000000, [(7, 0, .ro), (9, 8, .ro), (31, 16, .ro)]⟩,
  ⟨0x05000018, 0x05000018, 4, 0x00000000, [(15, 0, .ro), (16, 16, .ro)]⟩,
  ⟨0x05000020, 0x05000020, 4, 0x00000000, [(31, 0, .ro)]⟩,
  ⟨0x05000024, 0x05000024, 4, 0x00000000, [(31, 0, .ro)]⟩,
  ⟨0x05000028, 0x05000034, 4, 0x00000000, [(31, 0, .ro)]⟩,
  ⟨0x05000040, 0x05000040, 4, 0x00100081, [(1, 0, .rw), (7, 4, .rw), (13, 8, .rw), (23, 16, .rw)]⟩,
  ⟨0x05000044, 0x05000044, 4, 0x00000000, [(2, 0, .ro), (7, 4, .ro), (18, 8, .ro), (21, 20, .ro), (31, 24, .ro)]⟩,
  ⟨0x05000048, 0x05000048, 4, 0x0000010A, [(7, 0, .rw), (8, 8, .rw)]⟩,
  ⟨0x0500004C, 0x0500004C, 4, 0x00000000, [(0, 0, .ro), (1, 1, .ro), (15, 8, .ro), (23, 16, .ro), (24, 24, .wo), (25, 25, .wo), (26, 26, .wo), (27, 27, .wo), (28, 28, .wo)]⟩,
  ⟨0x05000050, 0x05000050, 4, 0x00000000, [(31, 0, .ro)]⟩,
  ⟨0x05000054, 0x05000054, 4, 0x00000000, [(31, 0, .ro)]⟩,
  ⟨0x05000058, 0x05000058, 4, 0x00000000, [(31, 0, .ro)]⟩,
  ⟨0x0500005C, 0x0500005C, 4, 0x00000000, [(31, 0, .ro)]⟩,
  ⟨0x01000B00, 0x01000B00, 4, 0x00000000, [(0, 0, .ro), (1, 1, .ro), (2, 2, .ro), (3, 3, .ro), (11, 8, .ro), (15, 12, .ro), (17, 16, .ro)]⟩,
  ⟨0x01000B04, 0x01000B04, 4, 0x00000000, [(0, 0, .ro), (1, 1, .ro), (15, 8, .ro), (23, 16, .ro)]⟩,
  ⟨0x01000B08, 0x01000B08, 4, 0x00000000, [(15, 0, .ro), (31, 16, .ro)]⟩,
  ⟨0x01000B0C, 0x01000B0C, 4, 0x00000000, [(7, 0, .ro), (9, 8, .ro), (31, 16, .ro)]⟩,
  ⟨0x01000B10, 0x01000B10, 4, 0x00000000, [(7, 0, .ro), (9, 8, .ro), (31, 16, .ro)]⟩,
  ⟨0x01000B14, 0x01000B14, 4, 0x00000000, [(15, 0, .ro), (16, 16, .ro)]⟩,
  ⟨0x01000B18, 0x01000B18, 4, 0x00000000, [(2, 0, .ro), (7, 4, .ro), (18, 8, .ro), (21, 20, .ro), (31, 24, .ro)]⟩,
  ⟨0x01000B1C, 0x01000B1C, 4, 0x00000000, [(0, 0, .ro), (1, 1, .ro), (15, 8, .ro), (23, 16, .ro), (24, 24, .ro), (25, 25, .ro), (26, 26, .ro), (27, 27, .ro), (28, 28, .ro)]⟩,
  ⟨0x01000B20, 0x01000B20, 4, 0x00000000, [(31, 0, .ro)]⟩,
  ⟨0x01000B24, 0x01000B24, 4, 0x00000000, [(31, 0, .ro)]⟩]

/-- FL_PTSTAT: force and subscription occupancy (05 R149). -/
def FL_PTSTAT : Nat := 0x03003400
def FL_PTSTAT_FORCES : Fld := ⟨FL_PTSTAT, 9, 0⟩
def FL_PTSTAT_SUBS : Fld := ⟨FL_PTSTAT, 28, 16⟩
/-- FL_SUITEVIOL: suite violations since field reset (05 R149). -/
def FL_SUITEVIOL : Nat := 0x03003404
def FL_SUITEVIOL_TREAD : Fld := ⟨FL_SUITEVIOL, 15, 0⟩
def FL_SUITEVIOL_CORRIDOR : Fld := ⟨FL_SUITEVIOL, 31, 16⟩

/-- Register rows of chapter 05. -/
def regRows05_0 : List RegRow := [
  ⟨0x03003400, 0x03003400, 4, 0x00000000, [(9, 0, .ro), (28, 16, .ro)]⟩,
  ⟨0x03003404, 0x03003404, 4, 0x00000000, [(15, 0, .ro), (31, 16, .ro)]⟩]

/-- FL_SCANCFG: scan period and startup allowance (06 R180). -/
def FL_SCANCFG : Nat := 0x03003800
def FL_SCANCFG_PERIOD : Fld := ⟨FL_SCANCFG, 9, 0⟩
def FL_SCANCFG_STARTEXT : Fld := ⟨FL_SCANCFG, 25, 16⟩
/-- FL_SCANLO: last signalled scan [31:0] (06 R180). -/
def FL_SCANLO : Nat := 0x03003804
/-- FL_SCANHI: last signalled scan [63:32] (06 R180). -/
def FL_SCANHI : Nat := 0x03003808
/-- FL_SCANGRID: grid cycle of the current scan [31:0] (06 R180). -/
def FL_SCANGRID : Nat := 0x0300380C
/-- FL_SCANTIME: scan duration (06 R180). -/
def FL_SCANTIME : Nat := 0x03003810
def FL_SCANTIME_LAST : Fld := ⟨FL_SCANTIME, 15, 0⟩
def FL_SCANTIME_MAX : Fld := ⟨FL_SCANTIME, 31, 16⟩
/-- FL_SCANCNT: late and overrun scans (06 R180). -/
def FL_SCANCNT : Nat := 0x03003814
def FL_SCANCNT_LATE : Fld := ⟨FL_SCANCNT, 15, 0⟩
def FL_SCANCNT_OVERRUN : Fld := ⟨FL_SCANCNT, 31, 16⟩
/-- FL_ERRQ: error queue (06 R180). -/
def FL_ERRQ : Nat := 0x03003818
def FL_ERRQ_DEPTH : Fld := ⟨FL_ERRQ, 8, 0⟩
def FL_ERRQ_LOST : Fld := ⟨FL_ERRQ, 23, 16⟩
def FL_ERRQ_UNSERVED : Fld := ⟨FL_ERRQ, 31, 24⟩
/-- FL_TREADMAP: spare Tread (06 R180). -/
def FL_TREADMAP : Nat := 0x0300381C
def FL_TREADMAP_SPAREFOR : Fld := ⟨FL_TREADMAP, 4, 0⟩
def FL_TREADMAP_SPAREOK : Fld := ⟨FL_TREADMAP, 5, 5⟩
/-- FL_TASKEN0: enables of tasks 0 to 31 (06 R180). -/
def FL_TASKEN0 : Nat := 0x03003820
def FL_TASKEN0_EN : Fld := ⟨FL_TASKEN0, 31, 0⟩
/-- FL_TASKEN1: enables of tasks 32 to 63 (06 R180). -/
def FL_TASKEN1 : Nat := 0x03003824
def FL_TASKEN1_EN : Fld := ⟨FL_TASKEN1, 31, 0⟩
/-- FL_PROGVER: program versions (06 R180). -/
def FL_PROGVER : Nat := 0x03003830
def FL_PROGVER_ACTIVE : Fld := ⟨FL_PROGVER, 15, 0⟩
def FL_PROGVER_SHADOW : Fld := ⟨FL_PROGVER, 31, 16⟩
/-- FL_PROGSTAT: on-line change status (06 R180). -/
def FL_PROGSTAT : Nat := 0x03003834
def FL_PROGSTAT_STAGED : Fld := ⟨FL_PROGSTAT, 0, 0⟩
def FL_PROGSTAT_PENDING : Fld := ⟨FL_PROGSTAT, 1, 1⟩
def FL_PROGSTAT_REVERTIBLE : Fld := ⟨FL_PROGSTAT, 2, 2⟩
def FL_PROGSTAT_RESULT : Fld := ⟨FL_PROGSTAT, 15, 8⟩
def FL_PROGSTAT_SWITCHES : Fld := ⟨FL_PROGSTAT, 31, 16⟩
/-- FL_RETAIN: retained area and mirror (06 R180). -/
def FL_RETAIN : Nat := 0x03003838
def FL_RETAIN_USED : Fld := ⟨FL_RETAIN, 14, 0⟩
def FL_RETAIN_FULL : Fld := ⟨FL_RETAIN, 15, 15⟩
def FL_RETAIN_LAYOUT : Fld := ⟨FL_RETAIN, 31, 16⟩
/-- FL_TASKSTAT[0..63]: last run of each task (06 R180). -/
def FL_TASKSTAT : Nat := 0x03003840
def FL_TASKSTAT_INSTR : Fld := ⟨FL_TASKSTAT, 15, 0⟩
def FL_TASKSTAT_FAULT : Fld := ⟨FL_TASKSTAT, 23, 16⟩
def FL_TASKSTAT_RAN : Fld := ⟨FL_TASKSTAT, 24, 24⟩
/-- FL_TASKCFG[0..63]: task kind, level, Tread and interval (06 R180). -/
def FL_TASKCFG : Nat := 0x03003A00
def FL_TASKCFG_KIND : Fld := ⟨FL_TASKCFG, 1, 0⟩
def FL_TASKCFG_LEVEL : Fld := ⟨FL_TASKCFG, 5, 2⟩
def FL_TASKCFG_TREAD : Fld := ⟨FL_TASKCFG, 9, 6⟩
def FL_TASKCFG_INTERVAL : Fld := ⟨FL_TASKCFG, 17, 10⟩
def FL_TASKCFG_PHASE : Fld := ⟨FL_TASKCFG, 25, 18⟩
/-- FL_TASKBUD[0..63]: instruction budget (06 R180). -/
def FL_TASKBUD : Nat := 0x03003B00
def FL_TASKBUD_BUDGET : Fld := ⟨FL_TASKBUD, 15, 0⟩

/-- Register rows of chapter 06. -/
def regRows06_0 : List RegRow := [
  ⟨0x03003800, 0x03003800, 4, 0x0000000A, [(9, 0, .rwl), (25, 16, .rwl)]⟩,
  ⟨0x03003804, 0x03003804, 4, 0x00000000, [(31, 0, .ro)]⟩,
  ⟨0x03003808, 0x03003808, 4, 0x00000000, [(31, 0, .ro)]⟩,
  ⟨0x0300380C, 0x0300380C, 4, 0x00000000, [(31, 0, .ro)]⟩,
  ⟨0x03003810, 0x03003810, 4, 0x00000000, [(15, 0, .ro), (31, 16, .ro)]⟩,
  ⟨0x03003814, 0x03003814, 4, 0x00000000, [(15, 0, .ro), (31, 16, .ro)]⟩,
  ⟨0x03003818, 0x03003818, 4, 0x00000000, [(8, 0, .ro), (23, 16, .ro), (31, 24, .ro)]⟩,
  ⟨0x0300381C, 0x0300381C, 4, 0x0000003F, [(4, 0, .ro), (5, 5, .ro)]⟩,
  ⟨0x03003820, 0x03003820, 4, 0x00000000, [(31, 0, .rw)]⟩,
  ⟨0x03003824, 0x03003824, 4, 0x00000000, [(31, 0, .rw)]⟩,
  ⟨0x03003830, 0x03003830, 4, 0x00000000, [(15, 0, .ro), (31, 16, .ro)]⟩,
  ⟨0x03003834, 0x03003834, 4, 0x00000000, [(0, 0, .ro), (1, 1, .ro), (2, 2, .ro), (15, 8, .ro), (31, 16, .ro)]⟩,
  ⟨0x03003838, 0x03003838, 4, 0x00000000, [(14, 0, .ro), (15, 15, .w1s), (31, 16, .ro)]⟩,
  ⟨0x03003840, 0x0300393C, 4, 0x00000000, [(15, 0, .ro), (23, 16, .ro), (24, 24, .ro)]⟩,
  ⟨0x03003A00, 0x03003AFC, 4, 0x00000400, [(1, 0, .rwl), (5, 2, .rwl), (9, 6, .rwl), (17, 10, .rwl), (25, 18, .rwl)]⟩,
  ⟨0x03003B00, 0x03003BFC, 4, 0x00000000, [(15, 0, .rwl)]⟩]

/-- GL_RIOCFG[0..15]: line enable, rate, cycle, retries (08 R227). -/
def GL_RIOCFG : Nat := 0x06006000
def GL_RIOCFG_EN : Fld := ⟨GL_RIOCFG, 0, 0⟩
def GL_RIOCFG_FDIS : Fld := ⟨GL_RIOCFG, 1, 1⟩
def GL_RIOCFG_RATE : Fld := ⟨GL_RIOCFG, 6, 4⟩
def GL_RIOCFG_LINECYC : Fld := ⟨GL_RIOCFG, 13, 8⟩
def GL_RIOCFG_RETRIES : Fld := ⟨GL_RIOCFG, 15, 14⟩
/-- GL_RIOSTAT[0..15]: line cycles, overruns, stations in RUN (08 R227). -/
def GL_RIOSTAT : Nat := 0x06006040
def GL_RIOSTAT_CYCLES : Fld := ⟨GL_RIOSTAT, 15, 0⟩
def GL_RIOSTAT_OVERRUN : Fld := ⟨GL_RIOSTAT, 23, 16⟩
def GL_RIOSTAT_RUN : Fld := ⟨GL_RIOSTAT, 29, 24⟩
/-- GL_STSTATE[0..511]: station state by station id (08 R227). -/
def GL_STSTATE : Nat := 0x06006800
def GL_STSTATE_STATE : Fld := ⟨GL_STSTATE, 2, 0⟩
def GL_STSTATE_EN : Fld := ⟨GL_STSTATE, 3, 3⟩
def GL_STSTATE_FDIS : Fld := ⟨GL_STSTATE, 4, 4⟩
def GL_STSTATE_CAUSE : Fld := ⟨GL_STSTATE, 15, 8⟩
def GL_STSTATE_FAILS : Fld := ⟨GL_STSTATE, 31, 16⟩
/-- GL_DALICFG[0..3]: bus enable and polling (08 R227). -/
def GL_DALICFG : Nat := 0x06007000
def GL_DALICFG_EN : Fld := ⟨GL_DALICFG, 0, 0⟩
def GL_DALICFG_FDIS : Fld := ⟨GL_DALICFG, 1, 1⟩
def GL_DALICFG_POLL : Fld := ⟨GL_DALICFG, 15, 8⟩
/-- GL_DALISTAT[0..3]: bus state, queue, collisions (08 R227). -/
def GL_DALISTAT : Nat := 0x06007010
def GL_DALISTAT_BUS : Fld := ⟨GL_DALISTAT, 1, 0⟩
def GL_DALISTAT_CAUSE : Fld := ⟨GL_DALISTAT, 3, 2⟩
def GL_DALISTAT_QUEUE : Fld := ⟨GL_DALISTAT, 14, 8⟩
def GL_DALISTAT_COLL : Fld := ⟨GL_DALISTAT, 31, 16⟩
/-- GL_DALIRAW[0..3]: raw forward frame (08 R227). -/
def GL_DALIRAW : Nat := 0x06007020
def GL_DALIRAW_FRAME : Fld := ⟨GL_DALIRAW, 23, 0⟩
def GL_DALIRAW_SIZE : Fld := ⟨GL_DALIRAW, 24, 24⟩
def GL_DALIRAW_TWICE : Fld := ⟨GL_DALIRAW, 25, 25⟩
def GL_DALIRAW_ANSWER : Fld := ⟨GL_DALIRAW, 26, 26⟩
def GL_DALIRAW_PRIO : Fld := ⟨GL_DALIRAW, 30, 28⟩
def GL_DALIRAW_GO : Fld := ⟨GL_DALIRAW, 31, 31⟩
/-- GL_DALIANS[0..3]: raw frame result (08 R227). -/
def GL_DALIANS : Nat := 0x06007030
def GL_DALIANS_DATA : Fld := ⟨GL_DALIANS, 7, 0⟩
def GL_DALIANS_RESULT : Fld := ⟨GL_DALIANS, 10, 8⟩
def GL_DALIANS_DONE : Fld := ⟨GL_DALIANS, 11, 11⟩
/-- GL_JMLCFG[0..1]: link enable and loss time (08 R227). -/
def GL_JMLCFG : Nat := 0x06007100
def GL_JMLCFG_EN : Fld := ⟨GL_JMLCFG, 0, 0⟩
def GL_JMLCFG_LOSTMS : Fld := ⟨GL_JMLCFG, 15, 8⟩
/-- GL_JMLSTAT[0..1]: link state and counts (08 R227). -/
def GL_JMLSTAT : Nat := 0x06007108
def GL_JMLSTAT_LINK : Fld := ⟨GL_JMLSTAT, 1, 0⟩
def GL_JMLSTAT_LOSSES : Fld := ⟨GL_JMLSTAT, 15, 8⟩
def GL_JMLSTAT_RESENT : Fld := ⟨GL_JMLSTAT, 31, 16⟩

/-- Register rows of chapter 08. -/
def regRows08_0 : List RegRow := [
  ⟨0x06006000, 0x0600603C, 4, 0x00008440, [(0, 0, .rw), (1, 1, .wo), (6, 4, .rwl), (13, 8, .rwl), (15, 14, .rwl)]⟩,
  ⟨0x06006040, 0x0600607C, 4, 0x00000000, [(15, 0, .ro), (23, 16, .ro), (29, 24, .ro)]⟩,
  ⟨0x06006800, 0x06006FFC, 4, 0x00000000, [(2, 0, .ro), (3, 3, .rw), (4, 4, .wo), (15, 8, .ro), (31, 16, .ro)]⟩,
  ⟨0x06007000, 0x0600700C, 4, 0x00003C00, [(0, 0, .rw), (1, 1, .wo), (15, 8, .rwl)]⟩,
  ⟨0x06007010, 0x0600701C, 4, 0x00000000, [(1, 0, .ro), (3, 2, .ro), (14, 8, .ro), (31, 16, .ro)]⟩,
  ⟨0x06007020, 0x0600702C, 4, 0x50000000, [(23, 0, .rw), (24, 24, .rw), (25, 25, .rw), (26, 26, .rw), (30, 28, .rw), (31, 31, .wo)]⟩,
  ⟨0x06007030, 0x0600703C, 4, 0x00000000, [(7, 0, .ro), (10, 8, .ro), (11, 11, .w1c)]⟩,
  ⟨0x06007100, 0x06007104, 4, 0x00000A00, [(0, 0, .rw), (15, 8, .rwl)]⟩,
  ⟨0x06007108, 0x0600710C, 4, 0x00000000, [(1, 0, .ro), (15, 8, .ro), (31, 16, .ro)]⟩]

/-- FL_ENFCTL: enable and lean control (09 R263). -/
def FL_ENFCTL : Nat := 0x03004000
def FL_ENFCTL_EN : Fld := ⟨FL_ENFCTL, 0, 0⟩
def FL_ENFCTL_FDIS : Fld := ⟨FL_ENFCTL, 1, 1⟩
def FL_ENFCTL_LEAN : Fld := ⟨FL_ENFCTL, 3, 2⟩
def FL_ENFCTL_TURNRESET : Fld := ⟨FL_ENFCTL, 4, 4⟩
/-- FL_ENFCFG: split floor, spread, passes (09 R263). -/
def FL_ENFCFG : Nat := 0x03004004
def FL_ENFCFG_WMIN : Fld := ⟨FL_ENFCFG, 15, 0⟩
def FL_ENFCFG_SPREAD : Fld := ⟨FL_ENFCFG, 23, 16⟩
def FL_ENFCFG_PASSES : Fld := ⟨FL_ENFCFG, 27, 24⟩
/-- FL_ENFREACH: reach radius and sweep (09 R263). -/
def FL_ENFREACH : Nat := 0x03004008
def FL_ENFREACH_RADIUS : Fld := ⟨FL_ENFREACH, 15, 0⟩
def FL_ENFREACH_SWEEP : Fld := ⟨FL_ENFREACH, 23, 16⟩
/-- FL_ENFMATCH: match distance and ageing (09 R263). -/
def FL_ENFMATCH : Nat := 0x0300400C
def FL_ENFMATCH_MATCH : Fld := ⟨FL_ENFMATCH, 15, 0⟩
def FL_ENFMATCH_AGEHOUR : Fld := ⟨FL_ENFMATCH, 20, 16⟩
def FL_ENFMATCH_AGESHIFT : Fld := ⟨FL_ENFMATCH, 25, 24⟩
/-- FL_ENFAIR: coalescing windows (09 R263). -/
def FL_ENFAIR : Nat := 0x03004010
def FL_ENFAIR_COALESCE : Fld := ⟨FL_ENFAIR, 15, 0⟩
def FL_ENFAIR_LEANWIN : Fld := ⟨FL_ENFAIR, 31, 16⟩
/-- FL_ENFAIR2: lean hold and descriptor deadline (09 R263). -/
def FL_ENFAIR2 : Nat := 0x03004014
def FL_ENFAIR2_LEANHOLD : Fld := ⟨FL_ENFAIR2, 15, 0⟩
def FL_ENFAIR2_DESCDL : Fld := ⟨FL_ENFAIR2, 31, 16⟩
/-- FL_ENFVER: verification tolerance (09 R263). -/
def FL_ENFVER : Nat := 0x03004018
def FL_ENFVER_VERTOL : Fld := ⟨FL_ENFVER, 11, 0⟩
def FL_ENFVER_VERN : Fld := ⟨FL_ENFVER, 15, 12⟩
/-- FL_ENFCLASS[0..3]: class speed and maximum age (09 R263). -/
def FL_ENFCLASS : Nat := 0x03004020
def FL_ENFCLASS_SPEED : Fld := ⟨FL_ENFCLASS, 15, 0⟩
def FL_ENFCLASS_MAXAGE : Fld := ⟨FL_ENFCLASS, 31, 16⟩
/-- FL_ENFPROFA[0..3]: PA and RA of each class (09 R263). -/
def FL_ENFPROFA : Nat := 0x03004030
def FL_ENFPROFA_PA : Fld := ⟨FL_ENFPROFA, 15, 0⟩
def FL_ENFPROFA_RA : Fld := ⟨FL_ENFPROFA, 31, 16⟩
/-- FL_ENFPROFB[0..3]: PB and RB of each class (09 R263). -/
def FL_ENFPROFB : Nat := 0x03004040
def FL_ENFPROFB_PB : Fld := ⟨FL_ENFPROFB, 15, 0⟩
def FL_ENFPROFB_RB : Fld := ⟨FL_ENFPROFB, 31, 16⟩
/-- FL_ENFPEAK[0..3]: PEAK of each class (09 R263). -/
def FL_ENFPEAK : Nat := 0x03004050
def FL_ENFPEAK_PEAK : Fld := ⟨FL_ENFPEAK, 11, 0⟩
/-- FL_ENFSTAT: engine state (09 R263). -/
def FL_ENFSTAT : Nat := 0x03004080
def FL_ENFSTAT_RUN : Fld := ⟨FL_ENFSTAT, 0, 0⟩
def FL_ENFSTAT_LATE : Fld := ⟨FL_ENFSTAT, 1, 1⟩
def FL_ENFSTAT_LEANCH : Fld := ⟨FL_ENFSTAT, 15, 8⟩
def FL_ENFSTAT_MULT : Fld := ⟨FL_ENFSTAT, 23, 16⟩
/-- FL_ENFTICKLO: last completed tick [31:0] (09 R263). -/
def FL_ENFTICKLO : Nat := 0x03004084
/-- FL_ENFTICKHI: last completed tick [63:32] (09 R263). -/
def FL_ENFTICKHI : Nat := 0x03004088
/-- FL_ENFWAV: wavelet occupancy (09 R263). -/
def FL_ENFWAV : Nat := 0x0300408C
def FL_ENFWAV_ACTIVE : Fld := ⟨FL_ENFWAV, 13, 0⟩
def FL_ENFWAV_PEAK : Fld := ⟨FL_ENFWAV, 29, 16⟩
/-- FL_ENFLOSS: losses and truncations (09 R263). -/
def FL_ENFLOSS : Nat := 0x03004090
def FL_ENFLOSS_FULL : Fld := ⟨FL_ENFLOSS, 15, 0⟩
def FL_ENFLOSS_TRUNC : Fld := ⟨FL_ENFLOSS, 31, 16⟩
/-- FL_ENFRELAX: relaxation (09 R263). -/
def FL_ENFRELAX : Nat := 0x03004094
def FL_ENFRELAX_PASSES : Fld := ⟨FL_ENFRELAX, 3, 0⟩
def FL_ENFRELAX_NOCONV : Fld := ⟨FL_ENFRELAX, 31, 16⟩
/-- FL_ENFREACHST: reach tables (09 R263). -/
def FL_ENFREACHST : Nat := 0x03004098
def FL_ENFREACHST_PENDING : Fld := ⟨FL_ENFREACHST, 14, 0⟩
def FL_ENFREACHST_TRUNC : Fld := ⟨FL_ENFREACHST, 30, 16⟩
/-- FL_ENFDESC: descriptors (09 R263). -/
def FL_ENFDESC : Nat := 0x0300409C
def FL_ENFDESC_SENT : Fld := ⟨FL_ENFDESC, 15, 0⟩
def FL_ENFDESC_COALESCED : Fld := ⟨FL_ENFDESC, 31, 16⟩
/-- FL_ENFTIME: tick duration (09 R263). -/
def FL_ENFTIME : Nat := 0x030040A0
def FL_ENFTIME_LAST : Fld := ⟨FL_ENFTIME, 15, 0⟩
def FL_ENFTIME_MAX : Fld := ⟨FL_ENFTIME, 31, 16⟩
/-- FL_ENFCHK[0..1]: last tick checksum [31:0], [63:32] (09 R263). -/
def FL_ENFCHK : Nat := 0x030040A8
/-- FL_ENFCELLMAP: spare Enfilade cells (09 R263). -/
def FL_ENFCELLMAP : Nat := 0x030040B0
def FL_ENFCELLMAP_SPARE0 : Fld := ⟨FL_ENFCELLMAP, 5, 0⟩
def FL_ENFCELLMAP_SPARE1 : Fld := ⟨FL_ENFCELLMAP, 13, 8⟩
def FL_ENFCELLMAP_SPARE2 : Fld := ⟨FL_ENFCELLMAP, 21, 16⟩
def FL_ENFCELLMAP_SPARE3 : Fld := ⟨FL_ENFCELLMAP, 29, 24⟩
/-- FL_TURNCNT[0..32767]: turn counters (09 R263). -/
def FL_TURNCNT : Nat := 0x03020000
def FL_TURNCNT_EVEN : Fld := ⟨FL_TURNCNT, 15, 0⟩
def FL_TURNCNT_ODD : Fld := ⟨FL_TURNCNT, 31, 16⟩

/-- Register rows of chapter 09. -/
def regRows09_0 : List RegRow := [
  ⟨0x03004000, 0x03004000, 4, 0x00000000, [(0, 0, .rw), (1, 1, .wo), (3, 2, .rw), (4, 4, .wo)]⟩,
  ⟨0x03004004, 0x03004004, 4, 0x081A0400, [(15, 0, .rwl), (23, 16, .rwl), (27, 24, .rwl)]⟩,
  ⟨0x03004008, 0x03004008, 4, 0x000807D0, [(15, 0, .rwl), (23, 16, .rwl)]⟩,
  ⟨0x0300400C, 0x0300400C, 4, 0x02030096, [(15, 0, .rwl), (20, 16, .rwl), (25, 24, .rwl)]⟩,
  ⟨0x03004010, 0x03004010, 4, 0x07D001F4, [(15, 0, .rwl), (31, 16, .rwl)]⟩,
  ⟨0x03004014, 0x03004014, 4, 0x01F4003C, [(15, 0, .rwl), (31, 16, .rwl)]⟩,
  ⟨0x03004018, 0x03004018, 4, 0x00003190, [(11, 0, .rwl), (15, 12, .rwl)]⟩,
  ⟨0x03004020, 0x03004020, 4, 0x0960008C, [(15, 0, .rwl), (31, 16, .rwl)]⟩,
  ⟨0x03004024, 0x03004024, 4, 0x09600226, [(15, 0, .rwl), (31, 16, .rwl)]⟩,
  ⟨0x03004028, 0x03004028, 4, 0x0960033E, [(15, 0, .rwl), (31, 16, .rwl)]⟩,
  ⟨0x0300402C, 0x0300402C, 4, 0x0960056E, [(15, 0, .rwl), (31, 16, .rwl)]⟩,
  ⟨0x03004030, 0x0300403C, 4, 0x00000000, [(15, 0, .rwl), (31, 16, .rwl)]⟩,
  ⟨0x03004040, 0x0300404C, 4, 0x00000000, [(15, 0, .rwl), (31, 16, .rwl)]⟩,
  ⟨0x03004050, 0x0300405C, 4, 0x00000000, [(11, 0, .rwl)]⟩,
  ⟨0x03004080, 0x03004080, 4, 0x00000000, [(0, 0, .ro), (1, 1, .ro), (15, 8, .ro), (23, 16, .ro)]⟩,
  ⟨0x03004084, 0x03004084, 4, 0x00000000, [(31, 0, .ro)]⟩,
  ⟨0x03004088, 0x03004088, 4, 0x00000000, [(31, 0, .ro)]⟩,
  ⟨0x0300408C, 0x0300408C, 4, 0x00000000, [(13, 0, .ro), (29, 16, .ro)]⟩,
  ⟨0x03004090, 0x03004090, 4, 0x00000000, [(15, 0, .ro), (31, 16, .ro)]⟩,
  ⟨0x03004094, 0x03004094, 4, 0x00000000, [(3, 0, .ro), (31, 16, .ro)]⟩,
  ⟨0x03004098, 0x03004098, 4, 0x00000000, [(14, 0, .ro), (30, 16, .ro)]⟩,
  ⟨0x0300409C, 0x0300409C, 4, 0x00000000, [(15, 0, .ro), (31, 16, .ro)]⟩,
  ⟨0x030040A0, 0x030040A0, 4, 0x00000000, [(15, 0, .ro), (31, 16, .ro)]⟩,
  ⟨0x030040A8, 0x030040AC, 4, 0x00000000, [(31, 0, .ro)]⟩,
  ⟨0x030040B0, 0x030040B0, 4, 0x3F3F3F3F, [(5, 0, .ro), (13, 8, .ro), (21, 16, .ro), (29, 24, .ro)]⟩,
  ⟨0x03020000, 0x0303FFFC, 4, 0x00000000, [(15, 0, .rwl), (31, 16, .rwl)]⟩]

/-- FL_SCHEDCFG: lateness tolerance (10 R284). -/
def FL_SCHEDCFG : Nat := 0x03004400
def FL_SCHEDCFG_LATETOL : Fld := ⟨FL_SCHEDCFG, 7, 0⟩
/-- FL_SCHEDSTAT: trust and daylight state (10 R284). -/
def FL_SCHEDSTAT : Nat := 0x03004404
def FL_SCHEDSTAT_TRUST : Fld := ⟨FL_SCHEDSTAT, 0, 0⟩
def FL_SCHEDSTAT_DST : Fld := ⟨FL_SCHEDSTAT, 1, 1⟩
def FL_SCHEDSTAT_CATCHUPS : Fld := ⟨FL_SCHEDSTAT, 31, 16⟩
/-- FL_SCHEDLOCAL: local date and time at the last snapshot (10 R284). -/
def FL_SCHEDLOCAL : Nat := 0x03004408
def FL_SCHEDLOCAL_DAY : Fld := ⟨FL_SCHEDLOCAL, 15, 0⟩
def FL_SCHEDLOCAL_TIME : Fld := ⟨FL_SCHEDLOCAL, 31, 16⟩
/-- FL_SCHEDCNT: alarms fired and late (10 R284). -/
def FL_SCHEDCNT : Nat := 0x0300440C
def FL_SCHEDCNT_FIRED : Fld := ⟨FL_SCHEDCNT, 15, 0⟩
def FL_SCHEDCNT_LATE : Fld := ⟨FL_SCHEDCNT, 31, 16⟩
/-- FL_SCHEDEN[0..7]: enables of schedules 32n to 32n + 31 (10 R284). -/
def FL_SCHEDEN : Nat := 0x03004420
def FL_SCHEDEN_EN : Fld := ⟨FL_SCHEDEN, 31, 0⟩
/-- FL_SCHEDST[0..255]: last alarm of each schedule (10 R284). -/
def FL_SCHEDST : Nat := 0x03004800
def FL_SCHEDST_LASTPOS : Fld := ⟨FL_SCHEDST, 7, 0⟩
def FL_SCHEDST_LATE : Fld := ⟨FL_SCHEDST, 8, 8⟩
def FL_SCHEDST_GAP : Fld := ⟨FL_SCHEDST, 9, 9⟩
def FL_SCHEDST_FALLBACK : Fld := ⟨FL_SCHEDST, 10, 10⟩
def FL_SCHEDST_PHOTO : Fld := ⟨FL_SCHEDST, 11, 11⟩
def FL_SCHEDST_UNTRUSTED : Fld := ⟨FL_SCHEDST, 12, 12⟩
def FL_SCHEDST_LASTDAY : Fld := ⟨FL_SCHEDST, 31, 16⟩

/-- Register rows of chapter 10. -/
def regRows10_0 : List RegRow := [
  ⟨0x03004400, 0x03004400, 4, 0x00000002, [(7, 0, .rwl)]⟩,
  ⟨0x03004404, 0x03004404, 4, 0x00000000, [(0, 0, .ro), (1, 1, .ro), (31, 16, .ro)]⟩,
  ⟨0x03004408, 0x03004408, 4, 0x00000000, [(15, 0, .ro), (31, 16, .ro)]⟩,
  ⟨0x0300440C, 0x0300440C, 4, 0x00000000, [(15, 0, .ro), (31, 16, .ro)]⟩,
  ⟨0x03004420, 0x0300443C, 4, 0x00000000, [(31, 0, .rw)]⟩,
  ⟨0x03004800, 0x03004BFC, 4, 0x000000FF, [(7, 0, .ro), (8, 8, .ro), (9, 9, .ro), (10, 10, .ro), (11, 11, .ro), (12, 12, .ro), (31, 16, .ro)]⟩]

/-- GL_DRVSTAT: output source, commits, part errors (11 R307). -/
def GL_DRVSTAT : Nat := 0x06000000
def GL_DRVSTAT_SOURCE : Fld := ⟨GL_DRVSTAT, 1, 0⟩
def GL_DRVSTAT_CAUSE : Fld := ⟨GL_DRVSTAT, 3, 2⟩
def GL_DRVSTAT_PARTERR : Fld := ⟨GL_DRVSTAT, 15, 8⟩
def GL_DRVSTAT_COMMITS : Fld := ⟨GL_DRVSTAT, 31, 16⟩
/-- GL_BANKSTAT: bank supplies (11 R307). -/
def GL_BANKSTAT : Nat := 0x06000004
def GL_BANKSTAT_OK : Fld := ⟨GL_BANKSTAT, 15, 0⟩
def GL_BANKSTAT_HIGHV : Fld := ⟨GL_BANKSTAT, 31, 16⟩
/-- GL_GRPCFG[0..15]: group timing and mode (11 R307). -/
def GL_GRPCFG : Nat := 0x06000040
def GL_GRPCFG_BITS : Fld := ⟨GL_GRPCFG, 4, 0⟩
def GL_GRPCFG_PRESC : Fld := ⟨GL_GRPCFG, 15, 8⟩
def GL_GRPCFG_DITHER : Fld := ⟨GL_GRPCFG, 16, 16⟩
def GL_GRPCFG_PHASE : Fld := ⟨GL_GRPCFG, 23, 20⟩
def GL_GRPCFG_MODE : Fld := ⟨GL_GRPCFG, 25, 24⟩
/-- GL_MXCFG[0..3]: matrix geometry and enable (11 R307). -/
def GL_MXCFG : Nat := 0x06000100
def GL_MXCFG_EN : Fld := ⟨GL_MXCFG, 0, 0⟩
def GL_MXCFG_FDIS : Fld := ⟨GL_MXCFG, 1, 1⟩
def GL_MXCFG_COLGRPS : Fld := ⟨GL_MXCFG, 3, 2⟩
def GL_MXCFG_COLBASE : Fld := ⟨GL_MXCFG, 7, 4⟩
def GL_MXCFG_ROWBASE : Fld := ⟨GL_MXCFG, 11, 8⟩
def GL_MXCFG_ROWS : Fld := ⟨GL_MXCFG, 15, 12⟩
def GL_MXCFG_CURVE : Fld := ⟨GL_MXCFG, 18, 16⟩
def GL_MXCFG_BYPASS : Fld := ⟨GL_MXCFG, 19, 19⟩
def GL_MXCFG_PREPOL : Fld := ⟨GL_MXCFG, 20, 20⟩
/-- GL_MXTIM[0..3]: blanking and precharge (11 R307). -/
def GL_MXTIM : Nat := 0x06000110
def GL_MXTIM_PRE : Fld := ⟨GL_MXTIM, 7, 0⟩
def GL_MXTIM_BLANK : Fld := ⟨GL_MXTIM, 15, 8⟩
/-- GL_MXFS[0..3]: matrix fail-safe level and fade (11 R307). -/
def GL_MXFS : Nat := 0x06000120
def GL_MXFS_LEVEL : Fld := ⟨GL_MXFS, 11, 0⟩
def GL_MXFS_FADE : Fld := ⟨GL_MXFS, 31, 16⟩
/-- GL_MXSTAT[0..3]: matrix scan state (11 R307). -/
def GL_MXSTAT : Nat := 0x06000130
def GL_MXSTAT_ROW : Fld := ⟨GL_MXSTAT, 3, 0⟩
def GL_MXSTAT_RUN : Fld := ⟨GL_MXSTAT, 4, 4⟩
def GL_MXSTAT_FRAMES : Fld := ⟨GL_MXSTAT, 31, 16⟩
/-- GL_CHCFG[0..255]: channel enable and curve (11 R307). -/
def GL_CHCFG : Nat := 0x06000400
def GL_CHCFG_EN : Fld := ⟨GL_CHCFG, 0, 0⟩
def GL_CHCFG_FDIS : Fld := ⟨GL_CHCFG, 1, 1⟩
def GL_CHCFG_CURVE : Fld := ⟨GL_CHCFG, 6, 4⟩
def GL_CHCFG_BYPASS : Fld := ⟨GL_CHCFG, 7, 7⟩
/-- GL_CHLVL[0..255]: target and current level (11 R307). -/
def GL_CHLVL : Nat := 0x06000800
def GL_CHLVL_TARGET : Fld := ⟨GL_CHLVL, 11, 0⟩
def GL_CHLVL_FADING : Fld := ⟨GL_CHLVL, 12, 12⟩
def GL_CHLVL_FS : Fld := ⟨GL_CHLVL, 13, 13⟩
def GL_CHLVL_OFF : Fld := ⟨GL_CHLVL, 14, 14⟩
def GL_CHLVL_FINE : Fld := ⟨GL_CHLVL, 31, 16⟩
/-- GL_CHFS[0..255]: channel fail-safe level and fade (11 R307). -/
def GL_CHFS : Nat := 0x06000C00
def GL_CHFS_LEVEL : Fld := ⟨GL_CHFS, 11, 0⟩
def GL_CHFS_FADE : Fld := ⟨GL_CHFS, 31, 16⟩
/-- GL_CHDUTY[0..255]: current duty (11 R307). -/
def GL_CHDUTY : Nat := 0x06001000
def GL_CHDUTY_DUTY : Fld := ⟨GL_CHDUTY, 20, 0⟩
/-- GL_CURVE[0..4095]: curve tables in use (11 R307). -/
def GL_CURVE : Nat := 0x06002000
def GL_CURVE_LOW : Fld := ⟨GL_CURVE, 15, 0⟩
def GL_CURVE_HIGH : Fld := ⟨GL_CURVE, 31, 16⟩
/-- GL_MXLVL[0..2047]: matrix cell targets (11 R307). -/
def GL_MXLVL : Nat := 0x06008000
def GL_MXLVL_CELL0 : Fld := ⟨GL_MXLVL, 11, 0⟩
def GL_MXLVL_CELL1 : Fld := ⟨GL_MXLVL, 27, 16⟩

/-- Register rows of chapter 11. -/
def regRows11_0 : List RegRow := [
  ⟨0x06000000, 0x06000000, 4, 0x00000000, [(1, 0, .ro), (3, 2, .ro), (15, 8, .ro), (31, 16, .ro)]⟩,
  ⟨0x06000004, 0x06000004, 4, 0x00000000, [(15, 0, .ro), (31, 16, .ro)]⟩,
  ⟨0x06000040, 0x06000040, 4, 0x0000070C, [(4, 0, .rwl), (15, 8, .rwl), (16, 16, .rwl), (23, 20, .rwl), (25, 24, .rwl)]⟩,
  ⟨0x06000044, 0x06000044, 4, 0x0010070C, [(4, 0, .rwl), (15, 8, .rwl), (16, 16, .rwl), (23, 20, .rwl), (25, 24, .rwl)]⟩,
  ⟨0x06000048, 0x06000048, 4, 0x0020070C, [(4, 0, .rwl), (15, 8, .rwl), (16, 16, .rwl), (23, 20, .rwl), (25, 24, .rwl)]⟩,
  ⟨0x0600004C, 0x0600004C, 4, 0x0030070C, [(4, 0, .rwl), (15, 8, .rwl), (16, 16, .rwl), (23, 20, .rwl), (25, 24, .rwl)]⟩,
  ⟨0x06000050, 0x06000050, 4, 0x0040070C, [(4, 0, .rwl), (15, 8, .rwl), (16, 16, .rwl), (23, 20, .rwl), (25, 24, .rwl)]⟩,
  ⟨0x06000054, 0x06000054, 4, 0x0050070C, [(4, 0, .rwl), (15, 8, .rwl), (16, 16, .rwl), (23, 20, .rwl), (25, 24, .rwl)]⟩,
  ⟨0x06000058, 0x06000058, 4, 0x0060070C, [(4, 0, .rwl), (15, 8, .rwl), (16, 16, .rwl), (23, 20, .rwl), (25, 24, .rwl)]⟩,
  ⟨0x0600005C, 0x0600005C, 4, 0x0070070C, [(4, 0, .rwl), (15, 8, .rwl), (16, 16, .rwl), (23, 20, .rwl), (25, 24, .rwl)]⟩,
  ⟨0x06000060, 0x06000060, 4, 0x0080070C, [(4, 0, .rwl), (15, 8, .rwl), (16, 16, .rwl), (23, 20, .rwl), (25, 24, .rwl)]⟩,
  ⟨0x06000064, 0x06000064, 4, 0x0090070C, [(4, 0, .rwl), (15, 8, .rwl), (16, 16, .rwl), (23, 20, .rwl), (25, 24, .rwl)]⟩,
  ⟨0x06000068, 0x06000068, 4, 0x00A0070C, [(4, 0, .rwl), (15, 8, .rwl), (16, 16, .rwl), (23, 20, .rwl), (25, 24, .rwl)]⟩,
  ⟨0x0600006C, 0x0600006C, 4, 0x00B0070C, [(4, 0, .rwl), (15, 8, .rwl), (16, 16, .rwl), (23, 20, .rwl), (25, 24, .rwl)]⟩,
  ⟨0x06000070, 0x06000070, 4, 0x00C0070C, [(4, 0, .rwl), (15, 8, .rwl), (16, 16, .rwl), (23, 20, .rwl), (25, 24, .rwl)]⟩,
  ⟨0x06000074, 0x06000074, 4, 0x00D0070C, [(4, 0, .rwl), (15, 8, .rwl), (16, 16, .rwl), (23, 20, .rwl), (25, 24, .rwl)]⟩,
  ⟨0x06000078, 0x06000078, 4, 0x00E0070C, [(4, 0, .rwl), (15, 8, .rwl), (16, 16, .rwl), (23, 20, .rwl), (25, 24, .rwl)]⟩,
  ⟨0x0600007C, 0x0600007C, 4, 0x00F0070C, [(4, 0, .rwl), (15, 8, .rwl), (16, 16, .rwl), (23, 20, .rwl), (25, 24, .rwl)]⟩,
  ⟨0x06000100, 0x0600010C, 4, 0x00080000, [(0, 0, .rw), (1, 1, .wo), (3, 2, .rwl), (7, 4, .rwl), (11, 8, .rwl), (15, 12, .rwl), (18, 16, .rwl), (19, 19, .rwl), (20, 20, .rwl)]⟩,
  ⟨0x06000110, 0x0600011C, 4, 0x0000020B, [(7, 0, .rwl), (15, 8, .rwl)]⟩,
  ⟨0x06000120, 0x0600012C, 4, 0x00000000, [(11, 0, .rwl), (31, 16, .rwl)]⟩,
  ⟨0x06000130, 0x0600013C, 4, 0x00000000, [(3, 0, .ro), (4, 4, .ro), (31, 16, .ro)]⟩,
  ⟨0x06000400, 0x060007FC, 4, 0x00000080, [(0, 0, .rw), (1, 1, .wo), (6, 4, .rwl), (7, 7, .rwl)]⟩,
  ⟨0x06000800, 0x06000BFC, 4, 0x00000000, [(11, 0, .ro), (12, 12, .ro), (13, 13, .ro), (14, 14, .ro), (31, 16, .ro)]⟩,
  ⟨0x06000C00, 0x06000FFC, 4, 0x00000000, [(11, 0, .rwl), (31, 16, .rwl)]⟩,
  ⟨0x06001000, 0x060013FC, 4, 0x00000000, [(20, 0, .ro)]⟩,
  ⟨0x06002000, 0x06005FFC, 4, 0x00000000, [(15, 0, .rwl), (31, 16, .rwl)]⟩,
  ⟨0x06008000, 0x06009FFC, 4, 0x00000000, [(11, 0, .ro), (27, 16, .ro)]⟩]

/-- GL_DIAGCFG: short retry and test rotation (12 R332). -/
def GL_DIAGCFG : Nat := 0x0600A000
def GL_DIAGCFG_SHRETRY : Fld := ⟨GL_DIAGCFG, 7, 0⟩
def GL_DIAGCFG_ROTATE : Fld := ⟨GL_DIAGCFG, 15, 8⟩
/-- GL_CHTEST: in-service channel test (12 R332). -/
def GL_CHTEST : Nat := 0x0600A004
def GL_CHTEST_CHAN : Fld := ⟨GL_CHTEST, 7, 0⟩
def GL_CHTEST_START : Fld := ⟨GL_CHTEST, 8, 8⟩
def GL_CHTEST_FORCE : Fld := ⟨GL_CHTEST, 9, 9⟩
def GL_CHTEST_BUSY : Fld := ⟨GL_CHTEST, 16, 16⟩
def GL_CHTEST_DONE : Fld := ⟨GL_CHTEST, 17, 17⟩
def GL_CHTEST_OUTCOME : Fld := ⟨GL_CHTEST, 19, 18⟩
def GL_CHTEST_RESULT : Fld := ⟨GL_CHTEST, 31, 24⟩
/-- GL_DIAGSUM: latched fault counts (12 R332). -/
def GL_DIAGSUM : Nat := 0x0600A008
def GL_DIAGSUM_OPEN : Fld := ⟨GL_DIAGSUM, 8, 0⟩
def GL_DIAGSUM_SHORT : Fld := ⟨GL_DIAGSUM, 24, 16⟩
/-- GL_SPARECELL[0..15]: spare cell of each group (12 R332). -/
def GL_SPARECELL : Nat := 0x0600A040
def GL_SPARECELL_CHAN : Fld := ⟨GL_SPARECELL, 7, 0⟩
def GL_SPARECELL_BUSY : Fld := ⟨GL_SPARECELL, 8, 8⟩
def GL_SPARECELL_PERM : Fld := ⟨GL_SPARECELL, 9, 9⟩
def GL_SPARECELL_DEFECT : Fld := ⟨GL_SPARECELL, 10, 10⟩
/-- GL_CHDIAG[0..255]: diagnostic enables and probe (12 R332). -/
def GL_CHDIAG : Nat := 0x0600A400
def GL_CHDIAG_EN : Fld := ⟨GL_CHDIAG, 0, 0⟩
def GL_CHDIAG_NEXP : Fld := ⟨GL_CHDIAG, 4, 1⟩
def GL_CHDIAG_SPREAD : Fld := ⟨GL_CHDIAG, 10, 5⟩
def GL_CHDIAG_OFFEN : Fld := ⟨GL_CHDIAG, 11, 11⟩
def GL_CHDIAG_PROBE : Fld := ⟨GL_CHDIAG, 12, 12⟩
/-- GL_CHDSTAT[0..255]: state, counters, accumulator (12 R332). -/
def GL_CHDSTAT : Nat := 0x0600A800
def GL_CHDSTAT_STATE : Fld := ⟨GL_CHDSTAT, 2, 0⟩
def GL_CHDSTAT_CLR : Fld := ⟨GL_CHDSTAT, 3, 3⟩
def GL_CHDSTAT_CNT : Fld := ⟨GL_CHDSTAT, 5, 4⟩
def GL_CHDSTAT_PROBING : Fld := ⟨GL_CHDSTAT, 6, 6⟩
def GL_CHDSTAT_DEFER : Fld := ⟨GL_CHDSTAT, 7, 7⟩
def GL_CHDSTAT_COMP : Fld := ⟨GL_CHDSTAT, 31, 8⟩
/-- GL_CHSENSE[0..255]: last samples (12 R332). -/
def GL_CHSENSE : Nat := 0x0600AC00
def GL_CHSENSE_ON : Fld := ⟨GL_CHSENSE, 11, 0⟩
def GL_CHSENSE_RETRIES : Fld := ⟨GL_CHSENSE, 15, 12⟩
def GL_CHSENSE_OFFV : Fld := ⟨GL_CHSENSE, 27, 16⟩
/-- GL_CHTHR[0..255]: thresholds (12 R332). -/
def GL_CHTHR : Nat := 0x0600B000
def GL_CHTHR_OPEN : Fld := ⟨GL_CHTHR, 7, 0⟩
def GL_CHTHR_SHORT : Fld := ⟨GL_CHTHR, 15, 8⟩
def GL_CHTHR_OFF : Fld := ⟨GL_CHTHR, 23, 16⟩
/-- GL_MTRCFG[0..1]: metering input setup (12 R332). -/
def GL_MTRCFG : Nat := 0x0600B400
def GL_MTRCFG_EN : Fld := ⟨GL_MTRCFG, 0, 0⟩
def GL_MTRCFG_HZ60 : Fld := ⟨GL_MTRCFG, 1, 1⟩
def GL_MTRCFG_INOM : Fld := ⟨GL_MTRCFG, 2, 2⟩
def GL_MTRCFG_CTPRI : Fld := ⟨GL_MTRCFG, 19, 4⟩
/-- GL_MTRSTAT[0..1]: metering input status (12 R332). -/
def GL_MTRSTAT : Nat := 0x0600B408
def GL_MTRSTAT_PHOK : Fld := ⟨GL_MTRSTAT, 2, 0⟩
def GL_MTRSTAT_REV : Fld := ⟨GL_MTRSTAT, 5, 3⟩
def GL_MTRSTAT_SEQ : Fld := ⟨GL_MTRSTAT, 6, 6⟩
def GL_MTRSTAT_BLOCKS : Fld := ⟨GL_MTRSTAT, 31, 16⟩

/-- Register rows of chapter 12. -/
def regRows12_0 : List RegRow := [
  ⟨0x0600A000, 0x0600A000, 4, 0x00000A05, [(7, 0, .rwl), (15, 8, .rwl)]⟩,
  ⟨0x0600A004, 0x0600A004, 4, 0x00000000, [(7, 0, .rw), (8, 8, .wo), (9, 9, .wo), (16, 16, .ro), (17, 17, .w1c), (19, 18, .ro), (31, 24, .ro)]⟩,
  ⟨0x0600A008, 0x0600A008, 4, 0x00000000, [(8, 0, .ro), (24, 16, .ro)]⟩,
  ⟨0x0600A040, 0x0600A07C, 4, 0x00000000, [(7, 0, .ro), (8, 8, .ro), (9, 9, .ro), (10, 10, .ro)]⟩,
  ⟨0x0600A400, 0x0600A7FC, 4, 0x000011E4, [(0, 0, .rwl), (4, 1, .rwl), (10, 5, .rwl), (11, 11, .rwl), (12, 12, .rwl)]⟩,
  ⟨0x0600A800, 0x0600ABFC, 4, 0x00000000, [(2, 0, .ro), (3, 3, .wo), (5, 4, .ro), (6, 6, .ro), (7, 7, .ro), (31, 8, .ro)]⟩,
  ⟨0x0600AC00, 0x0600AFFC, 4, 0x00000000, [(11, 0, .ro), (15, 12, .ro), (27, 16, .ro)]⟩,
  ⟨0x0600B000, 0x0600B3FC, 4, 0x0010F008, [(7, 0, .rwl), (15, 8, .rwl), (23, 16, .rwl)]⟩,
  ⟨0x0600B400, 0x0600B404, 4, 0x00000000, [(0, 0, .rwl), (1, 1, .rwl), (2, 2, .rwl), (19, 4, .rwl)]⟩,
  ⟨0x0600B408, 0x0600B40C, 4, 0x00000000, [(2, 0, .ro), (5, 3, .ro), (6, 6, .ro), (31, 16, .ro)]⟩]

/-- LG_STAT: chain enable, transmit, pressure and fault (13 R358). -/
def LG_STAT : Nat := 0x07000000
def LG_STAT_EN : Fld := ⟨LG_STAT, 7, 0⟩
def LG_STAT_TX : Fld := ⟨LG_STAT, 15, 8⟩
def LG_STAT_PRESS : Fld := ⟨LG_STAT, 23, 16⟩
def LG_STAT_FAULT : Fld := ⟨LG_STAT, 31, 24⟩
/-- LG_PROFILE: regulatory profile (13 R358). -/
def LG_PROFILE : Nat := 0x07000004
def LG_PROFILE_PROFILE : Fld := ⟨LG_PROFILE, 1, 0⟩
/-- LG_TALLYCFG: pressure thresholds and ceilings (13 R358). -/
def LG_TALLYCFG : Nat := 0x07000008
def LG_TALLYCFG_PRESSON : Fld := ⟨LG_TALLYCFG, 7, 0⟩
def LG_TALLYCFG_PRESSOFF : Fld := ⟨LG_TALLYCFG, 15, 8⟩
def LG_TALLYCFG_CEILN : Fld := ⟨LG_TALLYCFG, 23, 16⟩
def LG_TALLYCFG_CEILB : Fld := ⟨LG_TALLYCFG, 31, 24⟩
/-- LG_TIMESTAT: Loggia time discipline (13 R358). -/
def LG_TIMESTAT : Nat := 0x0700000C
def LG_TIMESTAT_ERR : Fld := ⟨LG_TIMESTAT, 15, 0⟩
def LG_TIMESTAT_LOCKED : Fld := ⟨LG_TIMESTAT, 16, 16⟩
def LG_TIMESTAT_HOLDOVER : Fld := ⟨LG_TIMESTAT, 17, 17⟩
def LG_TIMESTAT_STEPS : Fld := ⟨LG_TIMESTAT, 31, 24⟩
/-- LG_CHCFG[0..7]: chain enable, band, rate, channel, power (13 R358). -/
def LG_CHCFG : Nat := 0x07000040
def LG_CHCFG_EN : Fld := ⟨LG_CHCFG, 0, 0⟩
def LG_CHCFG_FDIS : Fld := ⟨LG_CHCFG, 1, 1⟩
def LG_CHCFG_RXONLY : Fld := ⟨LG_CHCFG, 2, 2⟩
def LG_CHCFG_BAND : Fld := ⟨LG_CHCFG, 6, 4⟩
def LG_CHCFG_RATE : Fld := ⟨LG_CHCFG, 9, 8⟩
def LG_CHCFG_CHAN : Fld := ⟨LG_CHCFG, 23, 16⟩
def LG_CHCFG_POWER : Fld := ⟨LG_CHCFG, 28, 24⟩
/-- LG_CHPLAN[0..7]: channel plan (13 R358). -/
def LG_CHPLAN : Nat := 0x07000060
def LG_CHPLAN_BASE : Fld := ⟨LG_CHPLAN, 19, 0⟩
def LG_CHPLAN_SPACING : Fld := ⟨LG_CHPLAN, 27, 20⟩
def LG_CHPLAN_COUNT : Fld := ⟨LG_CHPLAN, 31, 28⟩
/-- LG_CHSTAT[0..7]: chain state and queue (13 R358). -/
def LG_CHSTAT : Nat := 0x07000080
def LG_CHSTAT_STATE : Fld := ⟨LG_CHSTAT, 2, 0⟩
def LG_CHSTAT_PRESS : Fld := ⟨LG_CHSTAT, 3, 3⟩
def LG_CHSTAT_QUEUE : Fld := ⟨LG_CHSTAT, 10, 4⟩
def LG_CHSTAT_RXLOST : Fld := ⟨LG_CHSTAT, 23, 16⟩
def LG_CHSTAT_DROPS : Fld := ⟨LG_CHSTAT, 31, 24⟩
/-- LG_CHCNT[0..7]: frame counts (13 R358). -/
def LG_CHCNT : Nat := 0x070000A0
def LG_CHCNT_TX : Fld := ⟨LG_CHCNT, 11, 0⟩
def LG_CHCNT_RX : Fld := ⟨LG_CHCNT, 23, 12⟩
def LG_CHCNT_BADFCS : Fld := ⟨LG_CHCNT, 31, 24⟩
/-- LG_PORTCFG[0..3]: PA control and gain (13 R358). -/
def LG_PORTCFG : Nat := 0x070000C0
def LG_PORTCFG_PALEAD : Fld := ⟨LG_PORTCFG, 6, 0⟩
def LG_PORTCFG_POL : Fld := ⟨LG_PORTCFG, 7, 7⟩
def LG_PORTCFG_PATAIL : Fld := ⟨LG_PORTCFG, 14, 8⟩
def LG_PORTCFG_GAIN : Fld := ⟨LG_PORTCFG, 23, 16⟩
/-- LG_BANDLO[0..7]: band lower edge (13 R358). -/
def LG_BANDLO : Nat := 0x07000100
def LG_BANDLO_FREQ : Fld := ⟨LG_BANDLO, 19, 0⟩
/-- LG_BANDHI[0..7]: band upper edge (13 R358). -/
def LG_BANDHI : Nat := 0x07000120
def LG_BANDHI_FREQ : Fld := ⟨LG_BANDHI, 19, 0⟩
/-- LG_BANDLIM[0..7]: duty, power, hopping (13 R358). -/
def LG_BANDLIM : Nat := 0x07000140
def LG_BANDLIM_DUTY : Fld := ⟨LG_BANDLIM, 15, 0⟩
def LG_BANDLIM_PMAX : Fld := ⟨LG_BANDLIM, 23, 16⟩
def LG_BANDLIM_HOP : Fld := ⟨LG_BANDLIM, 24, 24⟩
def LG_BANDLIM_VALID : Fld := ⟨LG_BANDLIM, 25, 25⟩
/-- LG_TALLY[0..7]: window sums (13 R358). -/
def LG_TALLY : Nat := 0x07000180
def LG_TALLY_SUM : Fld := ⟨LG_TALLY, 31, 0⟩
/-- LG_HOPCFG: hopping channels and dwell (13 R358). -/
def LG_HOPCFG : Nat := 0x070001A0
def LG_HOPCFG_NCH : Fld := ⟨LG_HOPCFG, 7, 0⟩
def LG_HOPCFG_DWELL : Fld := ⟨LG_HOPCFG, 31, 16⟩

/-- Register rows of chapter 13. -/
def regRows13_0 : List RegRow := [
  ⟨0x07000000, 0x07000000, 4, 0x00000000, [(7, 0, .ro), (15, 8, .ro), (23, 16, .ro), (31, 24, .ro)]⟩,
  ⟨0x07000004, 0x07000004, 4, 0x00000000, [(1, 0, .rwl)]⟩,
  ⟨0x07000008, 0x07000008, 4, 0x46553C46, [(7, 0, .rwl), (15, 8, .rwl), (23, 16, .rwl), (31, 24, .rwl)]⟩,
  ⟨0x0700000C, 0x0700000C, 4, 0x00000000, [(15, 0, .ro), (16, 16, .ro), (17, 17, .ro), (31, 24, .ro)]⟩,
  ⟨0x07000040, 0x0700005C, 4, 0x18000100, [(0, 0, .rw), (1, 1, .wo), (2, 2, .rwl), (6, 4, .rwl), (9, 8, .rwl), (23, 16, .rw), (28, 24, .rwl)]⟩,
  ⟨0x07000060, 0x0700007C, 4, 0x00000000, [(19, 0, .rwl), (27, 20, .rwl), (31, 28, .rwl)]⟩,
  ⟨0x07000080, 0x0700009C, 4, 0x00000000, [(2, 0, .ro), (3, 3, .ro), (10, 4, .ro), (23, 16, .ro), (31, 24, .ro)]⟩,
  ⟨0x070000A0, 0x070000BC, 4, 0x00000000, [(11, 0, .ro), (23, 12, .ro), (31, 24, .ro)]⟩,
  ⟨0x070000C0, 0x070000CC, 4, 0x0000050A, [(6, 0, .rwl), (7, 7, .rwl), (14, 8, .rwl), (23, 16, .rwl)]⟩,
  ⟨0x07000100, 0x0700011C, 4, 0x00000000, [(19, 0, .rwl)]⟩,
  ⟨0x07000120, 0x0700013C, 4, 0x00000000, [(19, 0, .rwl)]⟩,
  ⟨0x07000140, 0x0700015C, 4, 0x00000000, [(15, 0, .rwl), (23, 16, .rwl), (24, 24, .rwl), (25, 25, .rwl)]⟩,
  ⟨0x07000180, 0x0700019C, 4, 0x00000000, [(31, 0, .ro)]⟩,
  ⟨0x070001A0, 0x070001A0, 4, 0x01900000, [(7, 0, .rwl), (31, 16, .rwl)]⟩]

/-- FL_MACCFG: interval, layout, segment (14 R391). -/
def FL_MACCFG : Nat := 0x03005000
def FL_MACCFG_BICODE : Fld := ⟨FL_MACCFG, 2, 0⟩
def FL_MACCFG_MCAST : Fld := ⟨FL_MACCFG, 5, 3⟩
def FL_MACCFG_CONT : Fld := ⟨FL_MACCFG, 9, 6⟩
def FL_MACCFG_SEGID : Fld := ⟨FL_MACCFG, 31, 16⟩
/-- FL_MACTIM: loss, drift, retries (14 R391). -/
def FL_MACTIM : Nat := 0x03005004
def FL_MACTIM_NODELOST : Fld := ⟨FL_MACTIM, 7, 0⟩
def FL_MACTIM_DRIFTMIN : Fld := ⟨FL_MACTIM, 15, 8⟩
def FL_MACTIM_RETRY : Fld := ⟨FL_MACTIM, 18, 16⟩
/-- FL_MACSTAT: nodes joined, beacons (14 R391). -/
def FL_MACSTAT : Nat := 0x03005008
def FL_MACSTAT_AWAKE : Fld := ⟨FL_MACSTAT, 14, 0⟩
def FL_MACSTAT_SLEEPY : Fld := ⟨FL_MACSTAT, 28, 16⟩
def FL_MACSTAT_BEACON : Fld := ⟨FL_MACSTAT, 29, 29⟩
/-- FL_MACCNT: replays, duplicates (14 R391). -/
def FL_MACCNT : Nat := 0x0300500C
def FL_MACCNT_REPLAY : Fld := ⟨FL_MACCNT, 15, 0⟩
def FL_MACCNT_DUP : Fld := ⟨FL_MACCNT, 31, 16⟩
/-- FL_MACDROP: frames dropped at deadline (14 R391). -/
def FL_MACDROP : Nat := 0x03005010
def FL_MACDROP_DESC : Fld := ⟨FL_MACDROP, 15, 0⟩
def FL_MACDROP_SLEEPY : Fld := ⟨FL_MACDROP, 31, 16⟩
/-- FL_SLEEPYST: long preambles, link losses (14 R391). -/
def FL_SLEEPYST : Nat := 0x03005014
def FL_SLEEPYST_LONGPRE : Fld := ⟨FL_SLEEPYST, 15, 0⟩
def FL_SLEEPYST_LINKLOST : Fld := ⟨FL_SLEEPYST, 31, 16⟩
/-- FL_JOINCTL: join permit (14 R391). -/
def FL_JOINCTL : Nat := 0x03005018
def FL_JOINCTL_PERMIT : Fld := ⟨FL_JOINCTL, 0, 0⟩
def FL_JOINCTL_JOINS : Fld := ⟨FL_JOINCTL, 31, 16⟩
/-- FL_COORDCFG: own coordination slot (14 R391). -/
def FL_COORDCFG : Nat := 0x0300501C
def FL_COORDCFG_SLOT : Fld := ⟨FL_COORDCFG, 3, 0⟩
/-- FL_CHROLE[0..7]: chain role (14 R391). -/
def FL_CHROLE : Nat := 0x03005020
def FL_CHROLE_ROLE : Fld := ⟨FL_CHROLE, 1, 0⟩
def FL_CHROLE_OFFSET : Fld := ⟨FL_CHROLE, 15, 8⟩
def FL_CHROLE_PARTNER : Fld := ⟨FL_CHROLE, 23, 16⟩
/-- FL_PEERCFG[0..7]: neighbouring controllers (14 R391). -/
def FL_PEERCFG : Nat := 0x03005040
def FL_PEERCFG_SLOT : Fld := ⟨FL_PEERCFG, 3, 0⟩
def FL_PEERCFG_VALID : Fld := ⟨FL_PEERCFG, 4, 4⟩
def FL_PEERCFG_LINK : Fld := ⟨FL_PEERCFG, 9, 8⟩
/-- FL_PEERSTAT[0..7]: peer state (14 R391). -/
def FL_PEERSTAT : Nat := 0x03005060
def FL_PEERSTAT_STATE : Fld := ⟨FL_PEERSTAT, 1, 0⟩
def FL_PEERSTAT_MISS : Fld := ⟨FL_PEERSTAT, 7, 4⟩
def FL_PEERSTAT_ADOPTED : Fld := ⟨FL_PEERSTAT, 15, 8⟩
def FL_PEERSTAT_LOSSES : Fld := ⟨FL_PEERSTAT, 31, 16⟩
/-- FL_MACTXCTR: module transmit counter (14 R391). -/
def FL_MACTXCTR : Nat := 0x03005080
def FL_MACTXCTR_COUNTER : Fld := ⟨FL_MACTXCTR, 31, 0⟩
/-- FL_FWDIST: node firmware distribution (14 R391). -/
def FL_FWDIST : Nat := 0x03005084
def FL_FWDIST_PHASE : Fld := ⟨FL_FWDIST, 1, 0⟩
def FL_FWDIST_ROUND : Fld := ⟨FL_FWDIST, 15, 8⟩
def FL_FWDIST_PENDING : Fld := ⟨FL_FWDIST, 31, 16⟩
/-- FL_PEERSER[0..15]: serials of the neighbouring controllers (14 R391). -/
def FL_PEERSER : Nat := 0x03005090
def FL_PEERSER_SERIAL : Fld := ⟨FL_PEERSER, 31, 0⟩
/-- FL_NBRCTR[0..20479]: node counter entries (14 R391). -/
def FL_NBRCTR : Nat := 0x03040000
def FL_NBRCTR_COUNTER : Fld := ⟨FL_NBRCTR, 31, 0⟩

/-- Register rows of chapter 14. -/
def regRows14_0 : List RegRow := [
  ⟨0x03005000, 0x03005000, 4, 0x0000011A, [(2, 0, .rwl), (5, 3, .rwl), (9, 6, .rwl), (31, 16, .rwl)]⟩,
  ⟨0x03005004, 0x03005004, 4, 0x00031403, [(7, 0, .rwl), (15, 8, .rwl), (18, 16, .rwl)]⟩,
  ⟨0x03005008, 0x03005008, 4, 0x00000000, [(14, 0, .ro), (28, 16, .ro), (29, 29, .ro)]⟩,
  ⟨0x0300500C, 0x0300500C, 4, 0x00000000, [(15, 0, .ro), (31, 16, .ro)]⟩,
  ⟨0x03005010, 0x03005010, 4, 0x00000000, [(15, 0, .ro), (31, 16, .ro)]⟩,
  ⟨0x03005014, 0x03005014, 4, 0x00000000, [(15, 0, .ro), (31, 16, .ro)]⟩,
  ⟨0x03005018, 0x03005018, 4, 0x00000001, [(0, 0, .rw), (31, 16, .ro)]⟩,
  ⟨0x0300501C, 0x0300501C, 4, 0x00000000, [(3, 0, .rwl)]⟩,
  ⟨0x03005020, 0x0300503C, 4, 0x00FF0000, [(1, 0, .rwl), (15, 8, .rwl), (23, 16, .rwl)]⟩,
  ⟨0x03005040, 0x0300505C, 4, 0x00000200, [(3, 0, .rwl), (4, 4, .rwl), (9, 8, .rwl)]⟩,
  ⟨0x03005060, 0x0300507C, 4, 0x00000000, [(1, 0, .ro), (7, 4, .ro), (15, 8, .ro), (31, 16, .ro)]⟩,
  ⟨0x03005080, 0x03005080, 4, 0x00000000, [(31, 0, .rwl)]⟩,
  ⟨0x03005084, 0x03005084, 4, 0x00000000, [(1, 0, .ro), (15, 8, .ro), (31, 16, .ro)]⟩,
  ⟨0x03005090, 0x030050CC, 4, 0x00000000, [(31, 0, .rwl)]⟩,
  ⟨0x03040000, 0x03053FFC, 4, 0x00000000, [(31, 0, .rwl)]⟩]

/-- FY_TBRAWLO: raw counter [31:0]; reading latches FY_TBRAWHI (15 R418). -/
def FY_TBRAWLO : Nat := 0x01000600
/-- FY_TBRAWHI: raw counter [63:32] (15 R418). -/
def FY_TBRAWHI : Nat := 0x01000604
/-- FY_TIMELO: system time ns [31:0]; reading latches HI and FRAC (15 R418). -/
def FY_TIMELO : Nat := 0x01000608
/-- FY_TIMEHI: system time ns [63:32] (15 R418). -/
def FY_TIMEHI : Nat := 0x0100060C
/-- FY_TIMEFRAC: fraction (15 R418). -/
def FY_TIMEFRAC : Nat := 0x01000610
/-- FY_TBRATE: rho (15 R418). -/
def FY_TBRATE : Nat := 0x01000614
def FY_TBRATE_RATE : Fld := ⟨FY_TBRATE, 31, 0⟩
/-- FY_TBSTAT: trust, source, servo, epoch (15 R418). -/
def FY_TBSTAT : Nat := 0x01000618
def FY_TBSTAT_TRUST : Fld := ⟨FY_TBSTAT, 0, 0⟩
def FY_TBSTAT_SOURCE : Fld := ⟨FY_TBSTAT, 3, 1⟩
def FY_TBSTAT_SERVO : Fld := ⟨FY_TBSTAT, 6, 4⟩
def FY_TBSTAT_STEPUSED : Fld := ⟨FY_TBSTAT, 7, 7⟩
def FY_TBSTAT_EPOCH : Fld := ⟨FY_TBSTAT, 31, 16⟩
/-- FY_PTPCFG: PTP setup (15 R418). -/
def FY_PTPCFG : Nat := 0x0100061C
def FY_PTPCFG_EN : Fld := ⟨FY_PTPCFG, 0, 0⟩
def FY_PTPCFG_TRANSPORT : Fld := ⟨FY_PTPCFG, 1, 1⟩
def FY_PTPCFG_DOMAIN : Fld := ⟨FY_PTPCFG, 15, 8⟩
def FY_PTPCFG_STEPTHR : Fld := ⟨FY_PTPCFG, 19, 16⟩
def FY_PTPCFG_HOLDTRUST : Fld := ⟨FY_PTPCFG, 27, 20⟩
def FY_PTPCFG_RTCTRUST : Fld := ⟨FY_PTPCFG, 31, 28⟩
/-- FY_PTPOFS: last offset (15 R418). -/
def FY_PTPOFS : Nat := 0x01000620
/-- FY_PTPMPD: mean path delay (15 R418). -/
def FY_PTPMPD : Nat := 0x01000624
/-- FY_PTPLAT: PHY latencies (15 R418). -/
def FY_PTPLAT : Nat := 0x01000628
def FY_PTPLAT_RXLAT : Fld := ⟨FY_PTPLAT, 15, 0⟩
def FY_PTPLAT_TXLAT : Fld := ⟨FY_PTPLAT, 31, 16⟩
/-- FY_RXTS[0..3]: receive latch of MAC m: [2m] low, [2m + 1] high (15 R418). -/
def FY_RXTS : Nat := 0x01000630
/-- FY_TXTS[0..1]: last inserted time, low and high (15 R418). -/
def FY_TXTS : Nat := 0x01000640
/-- FY_RTCSUB: prescaler; reading takes the shadows (15 R418). -/
def FY_RTCSUB : Nat := 0x01000700
def FY_RTCSUB_PRESC : Fld := ⟨FY_RTCSUB, 14, 0⟩
/-- FY_RTCCNTLO: count [31:0] (15 R418). -/
def FY_RTCCNTLO : Nat := 0x01000704
/-- FY_RTCCNTHI: count [47:32] (15 R418). -/
def FY_RTCCNTHI : Nat := 0x01000708
def FY_RTCCNTHI_COUNT : Fld := ⟨FY_RTCCNTHI, 15, 0⟩
/-- FY_RTCCAL0: second, minute, hour, weekday (15 R418). -/
def FY_RTCCAL0 : Nat := 0x0100070C
def FY_RTCCAL0_SEC : Fld := ⟨FY_RTCCAL0, 5, 0⟩
def FY_RTCCAL0_MIN : Fld := ⟨FY_RTCCAL0, 13, 8⟩
def FY_RTCCAL0_HOUR : Fld := ⟨FY_RTCCAL0, 20, 16⟩
def FY_RTCCAL0_WDAY : Fld := ⟨FY_RTCCAL0, 26, 24⟩
/-- FY_RTCCAL1: day, month, year; reading releases (15 R418). -/
def FY_RTCCAL1 : Nat := 0x01000710
def FY_RTCCAL1_DAY : Fld := ⟨FY_RTCCAL1, 4, 0⟩
def FY_RTCCAL1_MON : Fld := ⟨FY_RTCCAL1, 11, 8⟩
def FY_RTCCAL1_YEAR : Fld := ⟨FY_RTCCAL1, 27, 16⟩
/-- FY_BKSTAT: backup-domain state (15 R418). -/
def FY_BKSTAT : Nat := 0x01000714
def FY_BKSTAT_OSF : Fld := ⟨FY_BKSTAT, 0, 0⟩
def FY_BKSTAT_BKLOST : Fld := ⟨FY_BKSTAT, 1, 1⟩
def FY_BKSTAT_RAMOK : Fld := ⟨FY_BKSTAT, 2, 2⟩
def FY_BKSTAT_ONBAT : Fld := ⟨FY_BKSTAT, 3, 3⟩
def FY_BKSTAT_TAIUTC : Fld := ⟨FY_BKSTAT, 15, 8⟩
def FY_BKSTAT_VBAT : Fld := ⟨FY_BKSTAT, 27, 16⟩
/-- FY_PWRCYC: power-cycle counter (15 R418). -/
def FY_PWRCYC : Nat := 0x01000718
/-- FY_OPSECLO: operating seconds [31:0]; reading latches HI (15 R418). -/
def FY_OPSECLO : Nat := 0x0100071C
/-- FY_OPSECHI: operating seconds [39:32] in [7:0] (15 R418). -/
def FY_OPSECHI : Nat := 0x01000720
def FY_OPSECHI_SEC : Fld := ⟨FY_OPSECHI, 7, 0⟩
/-- FY_BKRAM[0..31]: backup RAM, R414 (15 R418). -/
def FY_BKRAM : Nat := 0x01000780
/-- FY_TALCMPLO[0..3]: alarm compare low (15 R418). -/
def FY_TALCMPLO : Nat := 0x01000680
/-- FY_TALCMPHI[0..3]: alarm compare high; a write arms (15 R418). -/
def FY_TALCMPHI : Nat := 0x01000684
/-- FY_TALCTL[0..3]: alarm control (15 R418). -/
def FY_TALCTL : Nat := 0x01000688
def FY_TALCTL_EN : Fld := ⟨FY_TALCTL, 0, 0⟩
def FY_TALCTL_PERIOD : Fld := ⟨FY_TALCTL, 31, 8⟩
/-- FY_TALSTAT[0..3]: alarm state (15 R418). -/
def FY_TALSTAT : Nat := 0x0100068C
def FY_TALSTAT_FIRED : Fld := ⟨FY_TALSTAT, 0, 0⟩
def FY_TALSTAT_LATE : Fld := ⟨FY_TALSTAT, 1, 1⟩
def FY_TALSTAT_SKIPPED : Fld := ⟨FY_TALSTAT, 15, 8⟩

/-- Register rows of chapter 15. -/
def regRows15_0 : List RegRow := [
  ⟨0x01000600, 0x01000600, 4, 0x00000000, [(31, 0, .ro)]⟩,
  ⟨0x01000604, 0x01000604, 4, 0x00000000, [(31, 0, .ro)]⟩,
  ⟨0x01000608, 0x01000608, 4, 0x00000000, [(31, 0, .ro)]⟩,
  ⟨0x0100060C, 0x0100060C, 4, 0x00000000, [(31, 0, .ro)]⟩,
  ⟨0x01000610, 0x01000610, 4, 0x00000000, [(31, 0, .ro)]⟩,
  ⟨0x01000614, 0x01000614, 4, 0x00000000, [(31, 0, .ro)]⟩,
  ⟨0x01000618, 0x01000618, 4, 0x00000000, [(0, 0, .ro), (3, 1, .ro), (6, 4, .ro), (7, 7, .ro), (31, 16, .ro)]⟩,
  ⟨0x0100061C, 0x0100061C, 4, 0x00180000, [(0, 0, .rw), (1, 1, .rwl), (15, 8, .rwl), (19, 16, .rwl), (27, 20, .rwl), (31, 28, .rwl)]⟩,
  ⟨0x01000620, 0x01000620, 4, 0x00000000, [(31, 0, .ro)]⟩,
  ⟨0x01000624, 0x01000624, 4, 0x00000000, [(31, 0, .ro)]⟩,
  ⟨0x01000628, 0x01000628, 4, 0x00000000, [(15, 0, .rwl), (31, 16, .rwl)]⟩,
  ⟨0x01000630, 0x0100063C, 4, 0x00000000, [(31, 0, .ro)]⟩,
  ⟨0x01000640, 0x01000644, 4, 0x00000000, [(31, 0, .ro)]⟩,
  ⟨0x01000700, 0x01000700, 4, 0x00000000, [(14, 0, .ro)]⟩,
  ⟨0x01000704, 0x01000704, 4, 0x00000000, [(31, 0, .ro)]⟩,
  ⟨0x01000708, 0x01000708, 4, 0x00000000, [(15, 0, .ro)]⟩,
  ⟨0x0100070C, 0x0100070C, 4, 0x00000000, [(5, 0, .ro), (13, 8, .ro), (20, 16, .ro), (26, 24, .ro)]⟩,
  ⟨0x01000710, 0x01000710, 4, 0x00000000, [(4, 0, .ro), (11, 8, .ro), (27, 16, .ro)]⟩,
  ⟨0x01000714, 0x01000714, 4, 0x00000003, [(0, 0, .ro), (1, 1, .ro), (2, 2, .ro), (3, 3, .ro), (15, 8, .ro), (27, 16, .ro)]⟩,
  ⟨0x01000718, 0x01000718, 4, 0x00000000, [(31, 0, .ro)]⟩,
  ⟨0x0100071C, 0x0100071C, 4, 0x00000000, [(31, 0, .ro)]⟩,
  ⟨0x01000720, 0x01000720, 4, 0x00000000, [(7, 0, .ro)]⟩,
  ⟨0x01000780, 0x010007DC, 4, 0, [(31, 0, .ro)]⟩,
  ⟨0x010007E0, 0x010007F8, 4, 0, [(31, 0, .rw)]⟩,
  ⟨0x010007FC, 0x010007FC, 4, 0, [(31, 0, .ro)]⟩,
  ⟨0x01000680, 0x010006B0, 16, 0x00000000, [(31, 0, .rw)]⟩,
  ⟨0x01000684, 0x010006B4, 16, 0x00000000, [(31, 0, .rw)]⟩,
  ⟨0x01000688, 0x010006B8, 16, 0x00000000, [(0, 0, .rw), (31, 8, .rw)]⟩,
  ⟨0x0100068C, 0x010006BC, 16, 0x00000000, [(0, 0, .w1c), (1, 1, .w1c), (15, 8, .ro)]⟩]

/-- FY_HPSTAT: sticky status, command errors (16 R456). -/
def FY_HPSTAT : Nat := 0x01000080
def FY_HPSTAT_CODE : Fld := ⟨FY_HPSTAT, 6, 0⟩
def FY_HPSTAT_EMPTY : Fld := ⟨FY_HPSTAT, 7, 7⟩
def FY_HPSTAT_CMDERR : Fld := ⟨FY_HPSTAT, 31, 16⟩
/-- FY_HPSESS: session bound to direct accesses (16 R456). -/
def FY_HPSESS : Nat := 0x01000084
def FY_HPSESS_SESSION : Fld := ⟨FY_HPSESS, 7, 0⟩
def FY_HPSESS_OPEN : Fld := ⟨FY_HPSESS, 8, 8⟩
/-- FY_FMPSTAT: sessions and bad records (16 R456). -/
def FY_FMPSTAT : Nat := 0x01000088
def FY_FMPSTAT_OPEN : Fld := ⟨FY_FMPSTAT, 5, 0⟩
def FY_FMPSTAT_HSPEND : Fld := ⟨FY_FMPSTAT, 11, 8⟩
def FY_FMPSTAT_BAD : Fld := ⟨FY_FMPSTAT, 31, 16⟩
/-- FY_ETHSTAT: links and backhaul (16 R456). -/
def FY_ETHSTAT : Nat := 0x0100008C
def FY_ETHSTAT_LINK0 : Fld := ⟨FY_ETHSTAT, 0, 0⟩
def FY_ETHSTAT_LINK1 : Fld := ⟨FY_ETHSTAT, 1, 1⟩
def FY_ETHSTAT_ACTIVE : Fld := ⟨FY_ETHSTAT, 2, 2⟩
def FY_ETHSTAT_GW0 : Fld := ⟨FY_ETHSTAT, 3, 3⟩
def FY_ETHSTAT_GW1 : Fld := ⟨FY_ETHSTAT, 4, 4⟩
def FY_ETHSTAT_SWITCHES : Fld := ⟨FY_ETHSTAT, 15, 8⟩
def FY_ETHSTAT_DISCARDED : Fld := ⟨FY_ETHSTAT, 31, 16⟩
/-- FY_ETHMAC[0..3]: port addresses (16 R456). -/
def FY_ETHMAC : Nat := 0x01000090
/-- FY_EVVEC: vector (16 R456). -/
def FY_EVVEC : Nat := 0x01000100
def FY_EVVEC_SOURCE : Fld := ⟨FY_EVVEC, 6, 0⟩
def FY_EVVEC_PRI : Fld := ⟨FY_EVVEC, 11, 8⟩
def FY_EVVEC_NONE : Fld := ⟨FY_EVVEC, 31, 31⟩
/-- FY_EVPEND[0..3]: pending, sources 32w to 32w + 31 (16 R456). -/
def FY_EVPEND : Nat := 0x01000110
def FY_EVPEND_BITS : Fld := ⟨FY_EVPEND, 31, 0⟩
/-- FY_EVEN[0..3]: enables (16 R456). -/
def FY_EVEN : Nat := 0x01000120
def FY_EVEN_BITS : Fld := ⟨FY_EVEN, 31, 0⟩
/-- FY_EVROUTE[0..3]: routes (16 R456). -/
def FY_EVROUTE : Nat := 0x01000130
def FY_EVROUTE_BITS : Fld := ⟨FY_EVROUTE, 31, 0⟩
/-- FY_EVPRI[0..15]: priorities (16 R456). -/
def FY_EVPRI : Nat := 0x01000140
def FY_EVPRI_PRI0 : Fld := ⟨FY_EVPRI, 3, 0⟩
def FY_EVPRI_PRI1 : Fld := ⟨FY_EVPRI, 7, 4⟩
def FY_EVPRI_PRI2 : Fld := ⟨FY_EVPRI, 11, 8⟩
def FY_EVPRI_PRI3 : Fld := ⟨FY_EVPRI, 15, 12⟩
def FY_EVPRI_PRI4 : Fld := ⟨FY_EVPRI, 19, 16⟩
def FY_EVPRI_PRI5 : Fld := ⟨FY_EVPRI, 23, 20⟩
def FY_EVPRI_PRI6 : Fld := ⟨FY_EVPRI, 27, 24⟩
def FY_EVPRI_PRI7 : Fld := ⟨FY_EVPRI, 31, 28⟩
/-- FY_CRPADDR: proxy target (16 R456). -/
def FY_CRPADDR : Nat := 0x01001000
def FY_CRPADDR_OFFSET : Fld := ⟨FY_CRPADDR, 23, 0⟩
def FY_CRPADDR_REGION : Fld := ⟨FY_CRPADDR, 26, 24⟩
/-- FY_CRPCTL: proxy control (16 R456). -/
def FY_CRPCTL : Nat := 0x01001004
def FY_CRPCTL_READ : Fld := ⟨FY_CRPCTL, 0, 0⟩
def FY_CRPCTL_WRITE : Fld := ⟨FY_CRPCTL, 1, 1⟩
def FY_CRPCTL_IDX : Fld := ⟨FY_CRPCTL, 7, 2⟩
def FY_CRPCTL_COUNT : Fld := ⟨FY_CRPCTL, 13, 8⟩
def FY_CRPCTL_BUSY : Fld := ⟨FY_CRPCTL, 16, 16⟩
def FY_CRPCTL_DONE : Fld := ⟨FY_CRPCTL, 17, 17⟩
def FY_CRPCTL_RESULT : Fld := ⟨FY_CRPCTL, 31, 24⟩
/-- FY_CRPDATA[0..63]: proxy data (16 R456). -/
def FY_CRPDATA : Nat := 0x01001100
/-- FY_ALCPTR[0..31]: buffer offset in the host window (16 R456). -/
def FY_ALCPTR : Nat := 0x01000200
def FY_ALCPTR_PTR : Fld := ⟨FY_ALCPTR, 31, 0⟩
/-- FY_ALCLEN[0..31]: buffer length (16 R456). -/
def FY_ALCLEN : Nat := 0x01000204
def FY_ALCLEN_LEN : Fld := ⟨FY_ALCLEN, 15, 0⟩
/-- FY_ALCTAG[0..31]: tag; a write sets FULL (16 R456). -/
def FY_ALCTAG : Nat := 0x01000208
def FY_ALCTAG_TAG : Fld := ⟨FY_ALCTAG, 15, 0⟩
/-- FY_ALCCTL[0..31]: timeout and flags (16 R456). -/
def FY_ALCCTL : Nat := 0x0100020C
def FY_ALCCTL_TMO : Fld := ⟨FY_ALCCTL, 9, 0⟩
def FY_ALCCTL_FULL : Fld := ⟨FY_ALCCTL, 16, 16⟩
def FY_ALCCTL_TIMEOUT : Fld := ⟨FY_ALCCTL, 17, 17⟩
/-- FY_LDDATA[0..7]: data port (16 R456). -/
def FY_LDDATA : Nat := 0x01000400
/-- FY_LDEOP[0..7]: end-of-packet data port (16 R456). -/
def FY_LDEOP : Nat := 0x01000404
/-- FY_LDCTL[0..7]: threshold and abort (16 R456). -/
def FY_LDCTL : Nat := 0x01000408
def FY_LDCTL_THR : Fld := ⟨FY_LDCTL, 9, 0⟩
def FY_LDCTL_ABORT : Fld := ⟨FY_LDCTL, 16, 16⟩
/-- FY_LDSTAT[0..7]: level and flags (16 R456). -/
def FY_LDSTAT : Nat := 0x0100040C
def FY_LDSTAT_LEVEL : Fld := ⟨FY_LDSTAT, 10, 0⟩
def FY_LDSTAT_FULL : Fld := ⟨FY_LDSTAT, 12, 12⟩
def FY_LDSTAT_EMPTY : Fld := ⟨FY_LDSTAT, 13, 13⟩
def FY_LDSTAT_OVF : Fld := ⟨FY_LDSTAT, 14, 14⟩
def FY_LDSTAT_DROPS : Fld := ⟨FY_LDSTAT, 31, 16⟩

/-- Register rows of chapter 16. -/
def regRows16_0 : List RegRow := [
  ⟨0x01000080, 0x01000080, 4, 0x00000000, [(6, 0, .ro), (7, 7, .ro), (31, 16, .ro)]⟩,
  ⟨0x01000084, 0x01000084, 4, 0x00000000, [(7, 0, .rw), (8, 8, .ro)]⟩,
  ⟨0x01000088, 0x01000088, 4, 0x00000000, [(5, 0, .ro), (11, 8, .ro), (31, 16, .ro)]⟩,
  ⟨0x0100008C, 0x0100008C, 4, 0x00000000, [(0, 0, .ro), (1, 1, .ro), (2, 2, .ro), (3, 3, .ro), (4, 4, .ro), (15, 8, .ro), (31, 16, .ro)]⟩,
  ⟨0x01000090, 0x0100009C, 4, 0x00000000, [(31, 0, .ro)]⟩,
  ⟨0x01000100, 0x01000100, 4, 0x80000000, [(6, 0, .rc), (11, 8, .rc), (31, 31, .rc)]⟩,
  ⟨0x01000110, 0x0100011C, 4, 0x00000000, [(31, 0, .w1c)]⟩,
  ⟨0x01000120, 0x0100012C, 4, 0x00000000, [(31, 0, .rw)]⟩,
  ⟨0x01000130, 0x01000130, 4, 0xFFFF0000, [(31, 0, .rw)]⟩,
  ⟨0x01000134, 0x01000134, 4, 0x000F0000, [(31, 0, .rw)]⟩,
  ⟨0x01000138, 0x01000138, 4, 0x00000000, [(31, 0, .rw)]⟩,
  ⟨0x0100013C, 0x0100013C, 4, 0x00000000, [(31, 0, .rw)]⟩,
  ⟨0x01000140, 0x0100017C, 4, 0x00000000, [(3, 0, .rw), (7, 4, .rw), (11, 8, .rw), (15, 12, .rw), (19, 16, .rw), (23, 20, .rw), (27, 24, .rw), (31, 28, .rw)]⟩,
  ⟨0x01001000, 0x01001000, 4, 0x00000000, [(23, 0, .rw), (26, 24, .rw)]⟩,
  ⟨0x01001004, 0x01001004, 4, 0x00000100, [(0, 0, .wo), (1, 1, .wo), (7, 2, .ro), (13, 8, .rw), (16, 16, .ro), (17, 17, .w1c), (31, 24, .ro)]⟩,
  ⟨0x01001100, 0x010011FC, 4, 0x00000000, [(31, 0, .rw)]⟩,
  ⟨0x01000200, 0x010003F0, 16, 0x00000000, [(31, 0, .rw)]⟩,
  ⟨0x01000204, 0x010003F4, 16, 0x00000000, [(15, 0, .rw)]⟩,
  ⟨0x01000208, 0x010003F8, 16, 0x00000000, [(15, 0, .rw)]⟩,
  ⟨0x0100020C, 0x010003FC, 16, 0x00000064, [(9, 0, .rw), (16, 16, .w1c), (17, 17, .w1c)]⟩,
  ⟨0x01000400, 0x01000470, 16, 0x00000000, [(31, 0, .wo)]⟩,
  ⟨0x01000404, 0x01000474, 16, 0x00000000, [(31, 0, .wo)]⟩,
  ⟨0x01000408, 0x01000478, 16, 0x00000000, [(9, 0, .rw), (16, 16, .wo)]⟩,
  ⟨0x0100040C, 0x0100047C, 16, 0x00002000, [(10, 0, .ro), (12, 12, .ro), (13, 13, .ro), (14, 14, .w1c), (31, 16, .ro)]⟩]

/-- FY_UCSTAT: lifecycle, TRNG, occupancy (17 R482). -/
def FY_UCSTAT : Nat := 0x01000800
def FY_UCSTAT_LIFECYCLE : Fld := ⟨FY_UCSTAT, 2, 0⟩
def FY_UCSTAT_TESTROOT : Fld := ⟨FY_UCSTAT, 3, 3⟩
def FY_UCSTAT_TRNG : Fld := ⟨FY_UCSTAT, 5, 4⟩
def FY_UCSTAT_KSOK : Fld := ⟨FY_UCSTAT, 6, 6⟩
def FY_UCSTAT_USED : Fld := ⟨FY_UCSTAT, 22, 16⟩
def FY_UCSTAT_CTX : Fld := ⟨FY_UCSTAT, 28, 24⟩
/-- FY_UCTRNG: health-test failures (17 R482). -/
def FY_UCTRNG : Nat := 0x01000804
def FY_UCTRNG_RCT : Fld := ⟨FY_UCTRNG, 15, 0⟩
def FY_UCTRNG_APT : Fld := ⟨FY_UCTRNG, 31, 16⟩
/-- FY_UCSTALE[0..1]: stale slots (17 R482). -/
def FY_UCSTALE : Nat := 0x01000808
def FY_UCSTALE_SLOTS : Fld := ⟨FY_UCSTALE, 31, 0⟩
/-- FY_UCPEND[0..1]: pending slots (17 R482). -/
def FY_UCPEND : Nat := 0x01000810
def FY_UCPEND_SLOTS : Fld := ⟨FY_UCPEND, 31, 0⟩
/-- FY_UCSEL: slot selector (17 R482). -/
def FY_UCSEL : Nat := 0x01000818
def FY_UCSEL_SLOT : Fld := ⟨FY_UCSEL, 5, 0⟩
/-- FY_UCATTR: selected slot: type, usage, flags, parent (17 R482). -/
def FY_UCATTR : Nat := 0x0100081C
def FY_UCATTR_TYPE : Fld := ⟨FY_UCATTR, 7, 0⟩
def FY_UCATTR_USAGE : Fld := ⟨FY_UCATTR, 15, 8⟩
def FY_UCATTR_FLAGS : Fld := ⟨FY_UCATTR, 23, 16⟩
def FY_UCATTR_PARENT : Fld := ⟨FY_UCATTR, 31, 24⟩
/-- FY_UCGEN: selected slot: generation (17 R482). -/
def FY_UCGEN : Nat := 0x01000820
/-- FY_UCPGEN: selected slot: parent generation (17 R482). -/
def FY_UCPGEN : Nat := 0x01000824
/-- FY_UCCTR: selected slot: commit counter (17 R482). -/
def FY_UCCTR : Nat := 0x01000828

/-- Register rows of chapter 17. -/
def regRows17_0 : List RegRow := [
  ⟨0x01000800, 0x01000800, 4, 0x00000000, [(2, 0, .ro), (3, 3, .ro), (5, 4, .ro), (6, 6, .ro), (22, 16, .ro), (28, 24, .ro)]⟩,
  ⟨0x01000804, 0x01000804, 4, 0x00000000, [(15, 0, .ro), (31, 16, .ro)]⟩,
  ⟨0x01000808, 0x0100080C, 4, 0x00000000, [(31, 0, .ro)]⟩,
  ⟨0x01000810, 0x01000814, 4, 0x00000000, [(31, 0, .ro)]⟩,
  ⟨0x01000818, 0x01000818, 4, 0x00000000, [(5, 0, .rw)]⟩,
  ⟨0x0100081C, 0x0100081C, 4, 0x00000000, [(7, 0, .ro), (15, 8, .ro), (23, 16, .ro), (31, 24, .ro)]⟩,
  ⟨0x01000820, 0x01000820, 4, 0x00000000, [(31, 0, .ro)]⟩,
  ⟨0x01000824, 0x01000824, 4, 0x00000000, [(31, 0, .ro)]⟩,
  ⟨0x01000828, 0x01000828, 4, 0x00000000, [(31, 0, .ro)]⟩]

/-- FY_UPDSTAT: campaign state (18 R511). -/
def FY_UPDSTAT : Nat := 0x01000900
def FY_UPDSTAT_PHASE : Fld := ⟨FY_UPDSTAT, 3, 0⟩
def FY_UPDSTAT_STEP : Fld := ⟨FY_UPDSTAT, 7, 4⟩
def FY_UPDSTAT_RESULT : Fld := ⟨FY_UPDSTAT, 15, 8⟩
def FY_UPDSTAT_SCHEMAERR : Fld := ⟨FY_UPDSTAT, 16, 16⟩
/-- FY_UPDCONF: automatic confirmation (18 R511). -/
def FY_UPDCONF : Nat := 0x01000904
def FY_UPDCONF_SECONDS : Fld := ⟨FY_UPDCONF, 15, 0⟩
def FY_UPDCONF_HELD : Fld := ⟨FY_UPDCONF, 16, 16⟩
/-- FY_UPDSLOT[0..8]: slots of component index n (18 R511). -/
def FY_UPDSLOT : Nat := 0x01000910
def FY_UPDSLOT_STATEA : Fld := ⟨FY_UPDSLOT, 3, 0⟩
def FY_UPDSLOT_STATEB : Fld := ⟨FY_UPDSLOT, 7, 4⟩
def FY_UPDSLOT_RUN : Fld := ⟨FY_UPDSLOT, 8, 8⟩
def FY_UPDSLOT_TRIALS : Fld := ⟨FY_UPDSLOT, 10, 9⟩
def FY_UPDSLOT_FLOOR : Fld := ⟨FY_UPDSLOT, 31, 16⟩

/-- Register rows of chapter 18. -/
def regRows18_0 : List RegRow := [
  ⟨0x01000900, 0x01000900, 4, 0x00000000, [(3, 0, .ro), (7, 4, .ro), (15, 8, .ro), (16, 16, .ro)]⟩,
  ⟨0x01000904, 0x01000904, 4, 0x0000FFFF, [(15, 0, .ro), (16, 16, .ro)]⟩,
  ⟨0x01000910, 0x01000930, 4, 0x00000005, [(3, 0, .ro), (7, 4, .ro), (8, 8, .ro), (10, 9, .ro), (31, 16, .ro)]⟩]

/-- FY_ARCSTAT: landing, buffer, flush (19 R527). -/
def FY_ARCSTAT : Nat := 0x01000A00
def FY_ARCSTAT_LANDING : Fld := ⟨FY_ARCSTAT, 10, 0⟩
def FY_ARCSTAT_SUPPRESSING : Fld := ⟨FY_ARCSTAT, 11, 11⟩
def FY_ARCSTAT_BUFFER : Fld := ⟨FY_ARCSTAT, 22, 12⟩
def FY_ARCSTAT_FLUSHING : Fld := ⟨FY_ARCSTAT, 23, 23⟩
def FY_ARCSTAT_TORN : Fld := ⟨FY_ARCSTAT, 31, 24⟩
/-- FY_ARCNEXT: next sequence (19 R527). -/
def FY_ARCNEXT : Nat := 0x01000A04
def FY_ARCNEXT_SEQ : Fld := ⟨FY_ARCNEXT, 31, 0⟩
/-- FY_ARCOLD: oldest retained sequence (19 R527). -/
def FY_ARCOLD : Nat := 0x01000A08
def FY_ARCOLD_SEQ : Fld := ⟨FY_ARCOLD, 31, 0⟩
/-- FY_ARCEPOCH: epoch and clears (19 R527). -/
def FY_ARCEPOCH : Nat := 0x01000A0C
def FY_ARCEPOCH_EPOCH : Fld := ⟨FY_ARCEPOCH, 15, 0⟩
def FY_ARCEPOCH_CLEARS : Fld := ⟨FY_ARCEPOCH, 31, 16⟩
/-- FY_ARCSUPP[0..7]: suppressed events per region code (19 R527). -/
def FY_ARCSUPP : Nat := 0x01000A20
def FY_ARCSUPP_COUNT : Fld := ⟨FY_ARCSUPP, 31, 0⟩

/-- Register rows of chapter 19. -/
def regRows19_0 : List RegRow := [
  ⟨0x01000A00, 0x01000A00, 4, 0x00000000, [(10, 0, .ro), (11, 11, .ro), (22, 12, .ro), (23, 23, .ro), (31, 24, .ro)]⟩,
  ⟨0x01000A04, 0x01000A04, 4, 0x00000000, [(31, 0, .ro)]⟩,
  ⟨0x01000A08, 0x01000A08, 4, 0x00000000, [(31, 0, .ro)]⟩,
  ⟨0x01000A0C, 0x01000A0C, 4, 0x00000000, [(15, 0, .ro), (31, 16, .ro)]⟩,
  ⟨0x01000A20, 0x01000A3C, 4, 0x00000000, [(31, 0, .ro)]⟩]

/-- The whole register map. -/
def regRows : List RegRow :=
  regRows02_0 ++ regRows03_0 ++ regRows03_1 ++ regRows04_0 ++ regRows05_0 ++ regRows06_0 ++ regRows08_0 ++ regRows09_0 ++ regRows10_0 ++ regRows11_0 ++ regRows12_0 ++ regRows13_0 ++ regRows14_0 ++ regRows15_0 ++ regRows16_0 ++ regRows17_0 ++ regRows18_0 ++ regRows19_0

/-- The row that holds a register key, flight B's registers being those of flight A (00 R3). -/
def regRow (k : Nat) : Option RegRow :=
  let k' := if k / 2 ^ 24 = 4 then k - 2 ^ 24 else k
  regRows.find? fun r => r.first ≤ k' && k' ≤ r.last && (k' - r.first) % r.step == 0

end Sys2Proof.Machine
end

