-- ==== Sys2Proof/Machine/Ops.lean ====
section
/-! DEFINITION. The named operations of the machine: sparse maps, registers and their access codes, bit fields and
byte strings, events, Corridor sending and the module state. -/

namespace Sys2Proof.Machine

/-! ## Sparse maps -/

/-- The entry of a map at an index, `d` where it has none. -/
def mget {α : Type} (d : α) : Map α → Nat → α
  | [], _ => d
  | (k', v) :: t, k => if k' = k then v else mget d t k

/-- Whether a map has an entry at an index. -/
def mhas {α : Type} (m : Map α) (k : Nat) : Bool := m.any (·.1 == k)

/-- The entry of a map at an index. -/
def mget? {α : Type} : Map α → Nat → Option α
  | [], _ => none
  | (k', v) :: t, k => if k' = k then some v else mget? t k

/-- Remove the entry at an index. -/
def mdel {α : Type} (m : Map α) (k : Nat) : Map α := m.filter fun e => decide (e.1 ≠ k)

/-- Put an entry at its place among rising indices. -/
def mins {α : Type} : Map α → Nat → α → Map α
  | [], k, v => [(k, v)]
  | (k', v') :: t, k, v => if k < k' then (k, v) :: (k', v') :: t else (k', v') :: mins t k v

/-- Put an entry, whatever its value. -/
def mput {α : Type} (m : Map α) (k : Nat) (v : α) : Map α := mins (mdel m k) k v

/-- Set the value at an index; a value equal to the default leaves no entry. -/
def mset {α : Type} [DecidableEq α] (d : α) (m : Map α) (k : Nat) (v : α) : Map α :=
  if v = d then mdel m k else mins (mdel m k) k v

/-- Change the value at an index. -/
def mupd {α : Type} [DecidableEq α] (d : α) (m : Map α) (k : Nat) (g : α → α) : Map α :=
  mset d m k (g (mget d m k))

/-- Canonical form of a map: indices rising, no entry equal to the default. -/
def mwf {α : Type} [DecidableEq α] (d : α) : Map α → Bool
  | [] => true
  | (k, v) :: t => decide (v ≠ d) && t.all (fun e => decide (k < e.1)) && mwf d t

/-- Canonical form of a memory of bytes: addresses rising, no byte listed that reads 0, which is what an unlisted address reads as. [log 11 DESIGN CHOICE] -/
def Memory.wf (m : Map Byte) : Bool := mwf 0 m

/-! ## Bit fields and bytes -/

/-- Bits [hi:lo] of a number. -/
def bitsOf (v hi lo : Nat) : Nat := v / 2 ^ lo % 2 ^ (hi + 1 - lo)

/-- A number with its bits [hi:lo] replaced. -/
def putBits (v hi lo x : Nat) : Nat := v - bitsOf v hi lo * 2 ^ lo + x % 2 ^ (hi + 1 - lo) * 2 ^ lo

/-- Bit n of a number. -/
def bitOf (v n : Nat) : Bool := v / 2 ^ n % 2 = 1

/-- 1 for true. -/
def b2n (b : Bool) : Nat := if b then 1 else 0

/-- n bytes of a number, little-endian (00 R6). -/
def le : Nat → Nat → List Byte
  | 0, _ => []
  | n + 1, v => BitVec.ofNat 8 v :: le n (v / 256)

/-- The number that bytes spell, little-endian (00 R6). -/
def unle : List Byte → Nat
  | [] => 0
  | b :: t => b.toNat + 256 * unle t

/-- The field of n bytes at offset o. -/
def field (bs : List Byte) (o n : Nat) : Nat := unle ((bs.drop o).take n)

/-- A two's-complement reading of an n-bit number. -/
def signed (n v : Nat) : Int := if v % 2 ^ n < 2 ^ (n - 1) then (v % 2 ^ n : Nat) else (v % 2 ^ n : Nat) - (2 ^ n : Nat)

/-- A number clamped to a range. -/
def clampN (lo hi v : Nat) : Nat := max lo (min hi v)

/-- An integer clamped to a range. -/
def clampI (lo hi v : Int) : Int := max lo (min hi v)

/-- One bit of a most-significant-first CRC of width w. -/
def crcMsbStep (w poly crc : Nat) (b : Bool) : Nat :=
  let top := bitOf crc (w - 1)
  let sh := crc * 2 % 2 ^ w
  if top != b then sh ^^^ poly else sh

/-- The bits of a byte, most significant first. -/
def bitsMsb (b : Byte) : List Bool := (List.range 8).map fun i => b.getLsbD (7 - i)

/-- A most-significant-first CRC over bytes. -/
def crcMsb (w poly init : Nat) (bs : List Byte) : Nat :=
  bs.foldl (fun c b => (bitsMsb b).foldl (crcMsbStep w poly) c) init

/-- CRC-64/ECMA-182 (04 R93). -/
def crc64 (bs : List Byte) : Nat := crcMsb 64 0x42F0E1EBA9EA3693 0 bs

/-- CRC-16/CCITT-FALSE (19 R513). -/
def crc16 (bs : List Byte) : Nat := crcMsb 16 0x1021 0xFFFF bs

/-- One byte of CRC-32C, reflected, polynomial 0x1EDC6F41. -/
def crc32cByte (c : Nat) (b : Byte) : Nat :=
  (List.range 8).foldl (fun c _ => if c % 2 = 1 then c / 2 ^^^ 0x82F63B78 else c / 2) (c ^^^ b.toNat)

/-- CRC-32C over bytes (01 R27, R34). -/
def crc32c (bs : List Byte) : Nat := bs.foldl crc32cByte 0xFFFFFFFF ^^^ 0xFFFFFFFF

/-! ## Error codes (00 R11 and the chapters that assign more) -/

def E_OK : Nat := 0x00
def E_PD : Nat := 0x01
def E_ECC : Nat := 0x02
def E_SUITE : Nat := 0x03
def E_LOCK : Nat := 0x04
def E_KEY_STALE : Nat := 0x05
def E_BUSY_SERVICE : Nat := 0x06
def E_SETTINGS_SCHEMA : Nat := 0x07
def E_BUDGET : Nat := 0x08
def E_SEQ : Nat := 0x09
def E_NOT_VISIBLE : Nat := 0x0A
def E_ROLE : Nat := 0x0B
def E_NO_POINT : Nat := 0x0C
def E_NOT_WRITABLE : Nat := 0x0D
def E_FULL : Nat := 0x0E
def E_RANGE : Nat := 0x0F
def E_NEEDS_RESTART : Nat := 0x10
def E_NO_ROUTE : Nat := 0x11
def E_AUTH : Nat := 0x12
def E_NO_SESSION : Nat := 0x13
def E_OVERFLOW : Nat := 0x14
def E_BUSY : Nat := 0x15
def E_CMD : Nat := 0x16
def E_KEY_USAGE : Nat := 0x17
def E_KEY_EMPTY : Nat := 0x18
def E_ENTROPY : Nat := 0x19
def E_IMAGE_HEADER : Nat := 0x1A
def E_IMAGE_PAYLOAD : Nat := 0x1B
def E_EPOCH : Nat := 0x1C
def E_ROLLBACK : Nat := 0x1D
def E_CONFIG : Nat := 0x1E

/-! ## The step's answer -/

/-- A command's effect on the module leaves the queue as it is. [log 2 DESIGN CHOICE] -/
def State.upd (s : State) (g : Dev → Dev) : Host.Outcome State Fault Refusal := .next { s with dev := g s.dev }

/-- Apply an effect only where the state admits the event; elsewhere nothing happens. [log 2 DESIGN CHOICE] -/
def Dev.when (c : Bool) (g : Dev → Dev) (d : Dev) : Dev := if c then g d else d

/-! ## Registers -/

/-- Reset value of a register (00 R8 and the register tables); fused registers have the implementation's value. [log 8 DESIGN CHOICE] -/
def regReset (k : Nat) : W32 :=
  if k = FY_SERIAL0 then BitVec.ofNat 32 Config.serial
  else if k = FY_SERIAL1 then BitVec.ofNat 32 (Config.serial / 2 ^ 32)
  else if FY_ETHMAC ≤ k ∧ k ≤ FY_ETHMAC + 12 then BitVec.ofNat 32 (Config.ethMac ((k - FY_ETHMAC) / 4))
  else match regRow k with
    | some r => BitVec.ofNat 32 r.reset
    | none => 0

/-- A register's stored value. [log 8 DESIGN CHOICE] -/
def Dev.rd (d : Dev) (k : Nat) : W32 := mget (regReset k) d.regs k

/-- Set a register's stored value. -/
def Dev.wr (d : Dev) (k : Nat) (v : W32) : Dev := { d with regs := mset (regReset k) d.regs k v }

/-- The register of the other flight: flight A's key moved to the named flight. -/
def Flt.key (f : Flt) (k : Nat) : Nat := k + f.num * 2 ^ 24

/-- The field in the named flight's register. -/
def Fld.at (x : Fld) (f : Flt) : Fld := { x with key := f.key x.key }

/-- The field in the n-th register of an array of words. -/
def Fld.ix (x : Fld) (n : Nat) : Fld := { x with key := x.key + 4 * n }

/-- The field in the n-th register of an array with a stride. -/
def Fld.ixs (x : Fld) (stride n : Nat) : Fld := { x with key := x.key + stride * n }

/-- Value of a field. -/
def Dev.get (d : Dev) (x : Fld) : Nat := bitsOf (d.rd x.key).toNat x.hi x.lo

/-- A one-bit field. -/
def Dev.bit (d : Dev) (x : Fld) : Bool := d.get x = 1

/-- Set a field. -/
def Dev.put (d : Dev) (x : Fld) (v : Nat) : Dev :=
  d.wr x.key (BitVec.ofNat 32 (putBits (d.rd x.key).toNat x.hi x.lo v))

/-- Add to a counter field that holds at its largest value. -/
def Dev.inc (d : Dev) (x : Fld) (n : Nat := 1) : Dev := d.put x (min (d.get x + n) (2 ^ (x.hi + 1 - x.lo) - 1))

/-- Subtract from a field that stops at 0. -/
def Dev.dec (d : Dev) (x : Fld) (n : Nat := 1) : Dev := d.put x (d.get x - n)

/-- Add to a counter field that wraps. -/
def Dev.incWrap (d : Dev) (x : Fld) (n : Nat := 1) : Dev := d.put x (d.get x + n)

/-- A register restored to its reset value. -/
def Dev.clearReg (d : Dev) (k : Nat) : Dev := { d with regs := mdel d.regs k }

/-- Every register of a region restored to its reset value. -/
def Dev.clearRegion (d : Dev) (r : Nat) : Dev := { d with regs := d.regs.filter fun e => decide (e.1 / 2 ^ 24 ≠ r) }

/-- What a software write leaves in a register and whether an RWL field refused it (00 R8, R10). -/
def writeFields (committed : Bool) (old new : Nat) : List (Nat × Nat × Acc) → Nat × Bool
  | [] => (old, false)
  | (h, l, a) :: t =>
    let r := writeFields committed old new t
    let x := bitsOf new h l
    let o := bitsOf old h l
    match a with
    | .rw => (putBits r.1 h l x, r.2)
    | .rwl => if committed then (r.1, r.2 || decide (x ≠ o)) else (putBits r.1 h l x, r.2)
    | .w1c => (putBits r.1 h l (o - (o &&& x)), r.2)
    | .w1s => (putBits r.1 h l (o ||| x), r.2)
    | .ro | .wo | .rc | .ra => r

/-- A software write by the access codes of the register's fields (00 R8); a reserved address ignores it (00 R10). The
second part is E_LOCK where an RWL field refused the write. -/
def Dev.swWrite (d : Dev) (committed : Bool) (k : Nat) (v : W32) : Dev × Nat :=
  match regRow k with
  | none => (d, E_OK)
  | some r =>
    let p := writeFields committed (d.rd k).toNat v.toNat r.fields
    (d.wr k (BitVec.ofNat 32 p.1), if p.2 then E_LOCK else E_OK)

/-- What a software read sees of stored bits: WO fields read 0 (00 R8), bits outside every field read 0 (00 R10). -/
def readFields (v : Nat) : List (Nat × Nat × Acc) → Nat
  | [] => 0
  | (h, l, a) :: t =>
    let r := readFields v t
    match a with
    | .wo => r
    | _ => putBits r h l (bitsOf v h l)

/-- What a read leaves: RC fields clear (00 R8). -/
def readClear (v : Nat) : List (Nat × Nat × Acc) → Nat
  | [] => v
  | (h, l, a) :: t =>
    let r := readClear v t
    match a with
    | .rc => putBits r h l 0
    | _ => r

/-! ## Parts of the module -/

/-- A flight. -/
def Dev.fl (d : Dev) : Flt → FlightSt
  | .a => d.fa
  | .b => d.fb

/-- Change a flight. -/
def Dev.updFl (d : Dev) (f : Flt) (g : FlightSt → FlightSt) : Dev :=
  match f with
  | .a => { d with fa := g d.fa }
  | .b => { d with fb := g d.fb }

/-- The image that a flight runs: the loaded one, or its own former one where the other flight has already switched on
line (06 R178). -/
def Dev.cfgOf (d : Dev) (f : Flt) : Cfg := (d.fl f).own.getD d.mod.cfg

/-- Change both flights alike. -/
def Dev.bothFl (d : Dev) (g : Flt → Dev → Dev) : Dev := g .b (g .a d)

/-- Change the Newel. -/
def Dev.updNw (d : Dev) (g : NewelSt → NewelSt) : Dev := { d with nw := g d.nw }

/-- Change the module's own part. -/
def Dev.updMod (d : Dev) (g : ModSt → ModSt) : Dev := { d with mod := g d.mod }

/-- Change the Corridor. -/
def Dev.updCor (d : Dev) (g : CorrSt → CorrSt) : Dev := { d with cor := g d.cor }

/-- Flight states, coded as in FY_MODSTATE (02 R63). -/
def fsAbsent : Nat := 0
def fsReset : Nat := 1
def fsTesting : Nat := 2
def fsLoading : Nat := 3
def fsSyncing : Nat := 4
def fsStandby : Nat := 5
def fsActive : Nat := 6
def fsFailed : Nat := 7
def fsQuarantined : Nat := 8

/-- Module states, coded as in FY_MODSTATE (02 R63). -/
def msOff : Nat := 0
def msBoot : Nat := 1
def msSelftest : Nat := 2
def msHold : Nat := 3
def msLoading : Nat := 4
def msService : Nat := 5
def msDegraded : Nat := 6
def msFailsafe : Nat := 7

/-- NW_STAT's state field of a flight. -/
def nwStateFld : Flt → Fld
  | .a => NW_STAT_FASTATE
  | .b => NW_STAT_FBSTATE

/-- State of a flight (04 R117). -/
def Dev.fst (d : Dev) (f : Flt) : Nat := d.get (nwStateFld f)

/-- Module state (02 R54). -/
def Dev.mst (d : Dev) : Nat := d.get FY_MODSTATE_STATE

/-- The active flight, if there is one (04 R123). -/
def Dev.active (d : Dev) : Option Flt :=
  if d.fst .a = fsActive then some .a else if d.fst .b = fsActive then some .b else none

/-- Flights that consume frames: ACTIVE, STANDBY, and a joining flight in step 5 of a stair transfer (04 R110). -/
def Dev.consumes (d : Dev) (f : Flt) : Bool :=
  d.fst f == fsActive || d.fst f == fsStandby ||
    (d.fst f == fsSyncing && match d.nw.stair with
      | some st => st.flight == f.num && d.get NW_STAIRSTAT_PHASE == 4
      | none => false)

/-- Apply an effect in every flight that consumes frames. -/
def Dev.eachConsumer (d : Dev) (g : Flt → Dev → Dev) : Dev :=
  let d1 := if d.consumes .a then g .a d else d
  if d.consumes .b then g .b d1 else d1

/-- The flights that consume frames stand between two scans, and at the same one (06 R155, R156). -/
def Dev.atRest (d : Dev) : Bool :=
  let ok (f : Flt) : Bool := !d.consumes f || !(d.fl f).inScan
  ok .a && ok .b && (!(d.consumes .a && d.consumes .b) || d.fa.scan == d.fb.scan)

/-- Apply what the flights compute of themselves at a scan boundary, in every flight that consumes frames alike. [log 136 DESIGN CHOICE] -/
def Dev.eachAtRest (d : Dev) (g : Flt → Dev → Dev) : Dev := if d.atRest then d.eachConsumer g else d

/-! ## Time -/

/-- Time-base counts in a second (15 R393): 250 MHz. -/
def rawPerSec : Nat := 250000000

/-- Newel cycles in a second (01 R27): one per 250 us. -/
def cycPerSec : Nat := 4000

/-- Whether an event limited to once per `gap` may be raised at `now`. -/
def rateOk (last : Option Nat) (now gap : Nat) : Bool :=
  match last with
  | none => true
  | some t => decide (t + gap ≤ now)

/-! ## Events -/

/-- Set PEND of host event sources (16 R439). -/
def Dev.pend (d : Dev) (srcs : List Nat) : Dev :=
  srcs.foldl (fun d n => d.put ⟨FY_EVPEND + 4 * (n / 32), n % 32, n % 32⟩ 1) d

/-- Show the landing's and buffer's occupancy (19 R527). -/
def Dev.arcStat (d : Dev) : Dev :=
  (d.put FY_ARCSTAT_LANDING d.arc.landing.length).put FY_ARCSTAT_BUFFER d.arc.buffer.length

/-- Capacity of the event landing and of the volatile buffer (19 R518, R520). -/
def arcCap : Nat := 1024

/-- An arrival at the event landing: queued, or counted against its region when the landing is full or after the
power-warning edge (19 R518, R519, R521). -/
def Dev.land (d : Dev) (e : LandEntry) : Dev :=
  if d.arc.landing.length < arcCap && !d.arc.warned then
    ({ d with arc := { d.arc with landing := d.arc.landing ++ [e] } } : Dev).arcStat
  else
    let d1 := { d with arc := { d.arc with period := mupd 0 d.arc.period e.ev.region (· + 1) } }
    (d1.inc ((FY_ARCSUPP_COUNT).ix e.ev.region)).put FY_ARCSTAT_SUPPRESSING 1

/-- Payload bytes of a record: packed as the spec packs them where it says how, otherwise as the implementation does (00 R6; 02 R59,
R63; 19 R513, R525). [log 18 DESIGN CHOICE] -/
def Ev.packed (e : Ev) : List Byte :=
  match e.id, e.payload with
  | .fyStart, [v] => le 4 v.toNat
  | .fySelftestFail, l => l.flatMap fun v => le 1 v.toNat
  | .nwSelftestFail, l => l.flatMap fun v => le 1 v.toNat
  | .fyArcCleared, [n, first, epoch] => le 4 n.toNat ++ le 4 first.toNat ++ le 2 epoch.toNat
  | .fyArcClearedHash, part :: hash => le 1 part.toNat ++ [0] ++ hash.flatMap fun v => le 1 v.toNat
  | _, _ => Config.evPayload e

/-- The region of an event is the one that its code names; a flight's is either flight (00 R3, R12; 01 R26). -/
def Ev.regionOk (e : Ev) : Bool := if e.id.hi = 3 then e.region == 3 || e.region == 4 else e.region == e.id.hi

/-- An event raised by a Foyer block: its sources are set and it takes a landing entry (16 R439, 19 R518). -/
def Dev.raiseFy (d : Dev) (e : Ev) : Dev := (d.pend e.sources).land ⟨e, false, false⟩

/-! ## The Corridor's lanes (01 R34, R35, R37) -/

/-- A Corridor message: twelve bytes of header, the payload, and the CRC-32C of what stands before it (01 R34). -/
def wireMsg (typ flags seq answers status suite role origin : Nat) (payload : List Byte) : List Byte :=
  let b := le 1 typ ++ le 1 flags ++ le 2 seq ++ le 2 answers ++ le 2 payload.length ++ le 1 status ++ le 1 suite ++
    le 1 role ++ le 1 origin ++ payload
  b ++ le 4 (crc32c b)

/-- A host-to-field message as the lane carries it. -/
def DownMsg.wire (m : DownMsg) : List Byte :=
  wireMsg m.typ m.flags m.seq m.answers m.status m.suite m.role m.origin m.payload

/-- Class of a message type (01 R35). -/
def msgClass (typ : Nat) : Nat :=
  if typ = 0x30 ∨ typ = 0x7F then 0
  else if typ ∈ [0x01, 0x02, 0x21, 0x50, 0x51, 0x60] then 2 else 1

/-- Messages of a queue that a new one must follow whatever its class: those that the receiver has accepted, and the one behind
them, which the lane transmits (01 R37). [log 133 DESIGN CHOICE] -/
def onLane {α : Type} (sq : α → Nat) (lastAcc : Option Nat) (l : List α) : Nat :=
  let got (m : α) : Bool := match lastAcc with
    | none => false
    | some a => decide ((a + 65536 - sq m) % 65536 < 32768)
  min l.length ((l.takeWhile got).length + 1)

/-- Place of a new message of a class among those that wait: behind every message of its class or a lower one (01 R37). -/
def laneSlot {α : Type} (cls : α → Nat) (sent c : Nat) (l : List α) : Nat :=
  l.length - (((l.drop sent).reverse.takeWhile fun m => decide (c < cls m)).length)

/-- Messages behind a place take the sequences that follow on the new one's. -/
def renumber {α : Type} (set : α → Nat → α) : Nat → List α → List α
  | _, [] => []
  | q, m :: t => set m (q % 65536) :: renumber set (q + 1) t

/-- Sequence that a message handed to the host-to-field lane takes, and its place (01 R34, R37). -/
def Dev.downSlot (d : Dev) (typ : Nat) : Nat × Nat :=
  let l := d.cor.downQ
  let i := laneSlot (fun m : DownMsg => msgClass m.typ) (onLane DownMsg.seq d.cor.down.lastAcc l) (msgClass typ) l
  ((d.cor.down.txSeq + 65536 - (l.length - i)) % 65536, i)

/-- A message that a side hands to the Corridor takes its place and sequence in its direction and stays until it is
acknowledged; requests that it overtakes keep their link to their messages (01 R34, R37, R39). [log 17 DESIGN CHOICE] -/
def Dev.sendDown (d : Dev) (typ : Nat) (payload : List Byte) (suite : Nat := 0) (role : Nat := 0) (origin : Nat := 0)
    (more : Bool := false) : Dev :=
  let p := d.downSlot typ
  let late := d.cor.downQ.length - p.2
  let m : DownMsg := ⟨p.1, typ, 2 * b2n more, 0, 0, suite, role, origin, payload⟩
  { d with cor := { d.cor with
      down := { d.cor.down with txSeq := (d.cor.down.txSeq + 1) % 65536 }
      downQ := d.cor.downQ.take p.2 ++ m :: renumber (fun m q => { m with seq := q }) (p.1 + 1) (d.cor.downQ.drop p.2)
      reqs := d.cor.reqs.map fun r =>
        if (r.seq + 65536 - p.1) % 65536 < late then { r with seq := (r.seq + 1) % 65536 } else r } }

/-- A request sent, and awaiting its REPLY (01 R41). -/
def Dev.sendReq (d : Dev) (r : CrReq) (more : Bool := false) : Dev :=
  let q := (d.downSlot r.typ).1
  let d1 := d.sendDown r.typ r.payload r.suite r.role r.origin more
  { d1 with cor := { d1.cor with reqs := d1.cor.reqs ++ [{ r with seq := q }] } }

/-- A request of the Foyer itself, which it sends in the operator role (01 R41, 05 R131). [log 45 DESIGN CHOICE] -/
def Dev.request (d : Dev) (typ : Nat) (payload : List Byte) (more : Bool := false) : Dev :=
  d.sendReq { CrReq.zero with typ := typ, role := 1, payload := payload } more

/-- A field-to-host message put on the lane in its place (01 R34, R37). -/
def Dev.putUp (d : Dev) (m : UpMsg) : Dev :=
  let l := d.cor.upQ
  let i := laneSlot (fun e : Nat × UpMsg => msgClass e.2.typ) (onLane Prod.fst d.cor.up.lastAcc l) (msgClass m.typ) l
  let q := (d.cor.up.txSeq + 65536 - (l.length - i)) % 65536
  { d with cor := { d.cor with
      up := { d.cor.up with txSeq := (d.cor.up.txSeq + 1) % 65536 }
      upQ := l.take i ++ (q, m) :: renumber (fun e q => (q, e.2)) (q + 1) (l.drop i) } }

/-- Type code of EVENT_RECORD and of RETAIN_MIRROR (01 R35). -/
def tEventRecord : Nat := 0x20
def tRetainMirror : Nat := 0x21

/-- What the Newel does with a field-to-host message: sent while the Corridor is up; while it is lost, an event is kept,
up to 256, and then counted against its region, and every other message but the latest scan's mirror is not sent (01 R42). -/
def Dev.sendUp (d : Dev) (m : UpMsg) : Dev :=
  if d.cor.fieldUp then d.putUp m
  else match m.ev with
    | some e =>
      if d.nw.kept.length < 256 then d.updNw fun n => { n with kept := n.kept ++ [m] }
      else d.updNw fun n => { n with keptCounts := mupd 0 n.keptCounts e.region (· + 1) }
    | none => if m.typ = tRetainMirror then d.updNw fun n => { n with
        keptMirror := (n.keptMirror.filter fun k => field k.body 0 8 == field m.body 0 8) ++ [m] } else d

/-- An EVENT_RECORD message of an event (19 R517). -/
def evMsg (e : Ev) : UpMsg := ⟨tEventRecord, 0, 0, 0, 0, [], some e⟩

/-- An event of the Newel, the Gallery or the Loggia, or one that a flight hands to the Newel outside its commit
set: the Newel sends it (04 R576, 13 R359). -/
def Dev.raiseNw (d : Dev) (e : Ev) : Dev := d.sendUp (evMsg e)

/-- An event of a flight, carried in the commit set of its scan (04 R92). -/
def Dev.raiseFl (d : Dev) (f : Flt) (i : EvId) (p : List Int) (suite : Option Nat := none) : Dev :=
  d.updFl f fun x => { x with msgs := x.msgs ++ [evMsg ⟨i, f.region, suite, p⟩] }

/-- An event of a flight that R576 or R71 keeps out of commit sets: the Newel sends it. -/
def Dev.raiseFlNow (d : Dev) (f : Flt) (i : EvId) (p : List Int) : Dev := d.raiseNw ⟨i, f.region, none, p⟩

/-- An event that depends on physical time: the Newel sends those of the active flight and discards the others (04
R576). -/
def Dev.raiseTimed (d : Dev) (f : Flt) (i : EvId) (p : List Int) : Dev :=
  if d.active = some f then d.raiseFlNow f i p else d

/-- The event sources routed to the host, pending and enabled (16 R439, R440). -/
def Dev.hostSources (d : Dev) : List Nat :=
  (List.range 128).filter fun n =>
    d.bit ⟨FY_EVPEND + 4 * (n / 32), n % 32, n % 32⟩ && d.bit ⟨FY_EVEN + 4 * (n / 32), n % 32, n % 32⟩ &&
      !d.bit ⟨FY_EVROUTE + 4 * (n / 32), n % 32, n % 32⟩

/-- HOST_IRQ asserted (16 R440). -/
def Dev.hostIrq (d : Dev) : Bool := !d.hostSources.isEmpty

/-! ## Self-tests that remain to be run as slices (02 R46, R51) -/

/-- Units of the tests that may be left to service: flights, banks, flights, cells, converters, chains. [log 142 DESIGN CHOICE] -/
def sliceUnits : List (Nat × Nat) := [(0x10, 2), (0x11, 68), (0x13, 2), (0x14, 272), (0x15, 32), (0x16, 8)]

/-- Tests that the start has omitted become due in service. -/
def Dev.slicesDue (d : Dev) (codes : List Nat) : Dev :=
  (sliceUnits.filter fun e => codes.contains e.1).foldl (fun (d : Dev) e => d.updNw fun n => { n with slices := mput n.slices e.1 e.2 }) d

/-- Units of a test have been run in service. -/
def Dev.sliceRun (d : Dev) (code units : Nat) : Dev := d.updNw fun n => { n with slices := mset 0 n.slices code (mget 0 n.slices code - units) }

/-! ## Module state -/

/-- FULL of an alcove (16 R429). -/
def alcFull (a : Nat) : Fld := (FY_ALCCTL_FULL).ixs 16 a

/-- Module states in which alcoves and landings set their sources (16 R430). -/
def msServes (m : Nat) : Bool := m == msService || m == msDegraded || m == msFailsafe

/-- Landings with a packet or a record to take (16 R433, R438). -/
def Dev.landingDue (d : Dev) (n : Nat) : Bool :=
  if n < 4 then (mget [] d.host.items n).any fun i => i.tag != 0xF
  else (mget [] d.host.words n).any fun w => w.2

/-- On entry to SERVICE, DEGRADED or FAILSAFE every FULL alcove sets its source, and so does every landing that holds a
packet or a record (16 R430, R438). [log 107 DESIGN CHOICE] -/
def Dev.portSources (d : Dev) : Dev :=
  d.pend ((((List.range 32).filter fun a => d.bit (alcFull a)).map (16 + ·)) ++
    (((List.range 8).filter d.landingDue).map (48 + ·)))

/-! ## STATUS (01 R44) -/

/-- Type codes of STATUS and HEARTBEAT (01 R35). -/
def tStatus : Nat := 0x7E
def tHeartbeat : Nat := 0x7F

/-- Bit g is 1 while the spare cell of group g is unconsumed (03 R90, R91; 12 R322, R323). -/
def Dev.spareGroup (d : Dev) : Nat :=
  (List.range 16).foldl (fun n g =>
    if d.bit (GL_SPARECELL_PERM.ix g) || d.bit (GL_SPARECELL_DEFECT.ix g) then n else n + 2 ^ g) 0

/-- Bits of the field regions that report a fault: FA, FB, NW, GL, LG. [log 41 DESIGN CHOICE] -/
def Dev.faultBits (d : Dev) : Nat :=
  let bad (f : Flt) : Nat := b2n (d.fst f == fsFailed || d.fst f == fsQuarantined)
  (bad .a + 2 * bad .b) ||| d.nw.regionFaults

/-- The field-to-host STATUS. -/
def Dev.fieldStatusOf (d : Dev) : List Byte :=
  let bits := d.faultBits
  let low := ((List.range 5).find? fun n => bitOf bits n).map (· + 3)
  le 1 d.nw.modState ++ le 1 (low.getD 0) ++ le 1 bits ++ ([0] : List Byte) ++
    ([NW_STAT, NW_SWSTAT, NW_SWCNT, NW_FAULTA, NW_FAULTB, NW_DIVSTAT, NW_STAIRSTAT, NW_QUAR].flatMap fun k => le 4 (d.rd k).toNat) ++
    le 8 (d.nw.lastScan.getD 0) ++ le 4 (d.rd FL_SPAREBUD).toNat ++ le 4 (d.rd (Flt.b.key FL_SPAREBUD)).toNat ++
    le 2 d.spareGroup ++ le 2 (match d.active with | some f => d.get (FL_SCANCFG_PERIOD.at f) | none => 0) ++
    le 4 d.cor.down.dups ++ ([0, 0, 0, 0] : List Byte)

/-- The host-to-field STATUS. -/
def Dev.hostStatusOf (d : Dev) : List Byte :=
  le 1 d.mst ++ le 1 (d.get FY_TBSTAT_TRUST + 2 * b2n d.mod.committed) ++ [0, 0] ++ le 4 d.cor.up.dups

/-- A side sends STATUS. -/
def Dev.sendStatus (d : Dev) (host : Bool) : Dev :=
  if host then
    let p := d.hostStatusOf
    (d.sendDown tStatus p).updCor fun c => { c with hostStatus := p }
  else
    let p := d.fieldStatusOf
    (d.putUp ⟨tStatus, 0, 0, 0, 0, p, none⟩).updCor fun c => { c with fieldStatus := p }

/-- The bytes of a STATUS whose change makes its side send it at once. -/
def statusMarks (host : Bool) (p : List Byte) : List Byte := if host then p.take 2 else p.take 36 ++ (p.drop 44).take 12

/-- A side whose marked fields differ from the last STATUS that it sent sends STATUS at once. [log 134 DESIGN CHOICE] -/
def Dev.statusNow (d : Dev) (host : Bool) : Dev :=
  if host then
    if d.cor.hostUp && statusMarks true d.cor.hostStatus != statusMarks true d.hostStatusOf then d.sendStatus true else d
  else if d.cor.fieldUp && !d.nw.stopped && statusMarks false d.cor.fieldStatus != statusMarks false d.fieldStatusOf then
    d.sendStatus false
  else d

/-- Both sides hold the Corridor up, so that what one orders reaches the other within the step (01 R13, R42). [log 140 DESIGN CHOICE] -/
def Dev.linkUp (d : Dev) : Bool := d.cor.hostUp && d.cor.fieldUp

/-- EV_FY_START of the start in progress, which each start raises once: at BOOT_DONE, or where the start ends in HOLD (02 R59). [log 38 DEDUCED] -/
def Dev.startTold (d : Dev) : Dev :=
  if d.mod.startDue then (d.updMod fun m => { m with startDue := false }).raiseFy (.mk' .fyStart [(d.rd FY_START).toNat]) else d

/-- A transition of the module state table by its row number, counted from 1 in the table's order (02 R54). [log 29 DESIGN CHOICE; 30 DESIGN CHOICE] -/
def Dev.setMod (d : Dev) (new row : Nat) : Dev :=
  let old := d.mst
  if old = new then d
  else
    let d1 := (d.put FY_MODSTATE_STATE new).raiseFy (.mk' .modState [old, new, row])
    let d2 := if new = msFailsafe then d1.updMod fun m => { m with failsafeAt := some d.time.raw }
      else if new = msHold then (d1.updMod fun m => { m with holdVfin := row = 15 }).startTold else d1
    let d3 : Dev := { d2 with upd := { d2.upd with service := if new = msService then some d.time.raw else none } }
    (if msServes new && !msServes old then d3.portSources else d3).statusNow true

/-- A transition of the module state that comes about on the field side: the Foyer follows when STATUS reaches it (01 R13,
R44; 02 R54). -/
def Dev.fieldMod (d : Dev) (new : Nat) : Dev :=
  if d.nw.modState = new then d else (d.updNw fun n => { n with modState := new }).statusNow false

/-- Raise EV_MOD_SPARE_EXHAUSTED from the Foyer or from the field side: region, register offset and lowest bit of the
budget's field (03 R87). -/
def Dev.spareExhausted (d : Dev) (region : Nat) (x : Fld) : Dev :=
  let e : Ev := ⟨.modSpareExhausted, 0, none, [region, (x.key % 2 ^ 24 : Nat), x.lo]⟩
  if region ≤ 2 then
    let d1 := d.raiseFy e
    if d1.mst = msService then d1.setMod msDegraded 11 else d1
  else
    let d1 := d.raiseNw e
    if d1.nw.modState = msService then d1.fieldMod msDegraded else d1

/-- Consume one spare of a budget field that counts the spares that remain (03 R87). -/
def Dev.useSpare (d : Dev) (region : Nat) (x : Fld) : Dev :=
  if d.get x = 0 then d
  else
    let d1 := d.dec x
    if d1.get x = 0 then d1.spareExhausted region x else d1

/-- Whether a spare budget of the field side is exhausted (02 R54, 03 R87). [log 76 DESIGN CHOICE] -/
def Dev.fieldBudgetOut (d : Dev) : Bool :=
  d.spareGroup != 0xFFFF ||
  [Flt.a, Flt.b].any fun f =>
    d.get (FL_SPAREBUD_BANKS.at f) == 0 || d.get (FL_SPAREBUD_REMAP.at f) == 0 ||
    d.get (FL_SPAREBUD_TREAD.at f) == 0 || d.get (FL_SPAREBUD_ENF.at f) == 0

/-- Whether a spare budget of the Foyer or of the Corridor is exhausted (02 R54, 03 R87). [log 76 DESIGN CHOICE] -/
def Dev.hostBudgetOut (d : Dev) : Bool :=
  d.get FY_SPAREBUD0_BANKS == 0 || d.get FY_SPAREBUD0_REMAP == 0 || d.get FY_SPAREBUD0_CRDOWN == 0 ||
  d.get FY_SPAREBUD0_CRUP == 0

/-- Record a self-test failure: FY_STRESULT keeps the first and counts all, every further one raises an event
(02 R49, R63). [log 20 DEDUCED] -/
def Dev.testFailed (d : Dev) (region test detail : Nat) : Dev :=
  let d1 := if d.get FY_STRESULT_TEST = 0 then
      ((d.put FY_STRESULT_REGION region).put FY_STRESULT_TEST test).put FY_STRESULT_DETAIL detail
    else
      if region ≤ 2 then d.raiseFy (.mk' .fySelftestFail [region, test, detail])
      else d.raiseNw (.mk' .nwSelftestFail [region, test, detail])
  d1.inc FY_STRESULT_COUNT

end Sys2Proof.Machine
end

