-- ==== Sys2Proof/Machine/Flags.lean ====
section
/-! DEFINITION. The arithmetic of KZL word instructions and the flags SAT and SATS (07 R193), shifts (07 R193) and
comparisons (07 R194). -/

namespace Sys2Proof.Machine

/-- An exact result brought into s32, and whether it saturated (07 R193, sat32). -/
def sat32 (x : Int) : W32 × Bool :=
  if x > 2147483647 then (0x7FFFFFFF, true)
  else if x < -2147483648 then (0x80000000, true)
  else (BitVec.ofInt 32 x, false)

/-- The value that division by zero leaves, by the sign of the dividend (07 R193). -/
def divZero (nonneg : Bool) : W32 × Bool := (if nonneg then 0x7FFFFFFF else 0x80000000, true)

/-- ADD (07 R193). -/
def kzAddF (a v : W32) : W32 × Bool := sat32 (a.toInt + v.toInt)

/-- SUB (07 R193). -/
def kzSubF (a v : W32) : W32 × Bool := sat32 (a.toInt - v.toInt)

/-- MUL (07 R193). -/
def kzMulF (a v : W32) : W32 × Bool := sat32 (a.toInt * v.toInt)

/-- DIV, truncating toward zero (07 R193). -/
def kzDivF (a v : W32) : W32 × Bool :=
  if v = 0 then divZero (decide (0 ≤ a.toInt)) else sat32 (Int.tdiv a.toInt v.toInt)

/-- MOD, with the sign of the dividend (07 R193). -/
def kzModF (a v : W32) : W32 × Bool :=
  if v = 0 then (0, true) else (BitVec.ofInt 32 (a.toInt - Int.tdiv a.toInt v.toInt * v.toInt), false)

/-- MULDIV: the product in 64 bits, divided by ACC2 (07 R193). -/
def kzMuldivF (a v acc2 : W32) : W32 × Bool :=
  let p := a.toInt * v.toInt
  if acc2 = 0 then divZero (decide (0 ≤ p)) else sat32 (Int.tdiv p acc2.toInt)

/-- ADDU, clamped at 0xFFFF_FFFF (07 R193). -/
def kzAdduF (a v : W32) : W32 × Bool :=
  if a.toNat + v.toNat > 0xFFFFFFFF then (0xFFFFFFFF, true) else (a + v, false)

/-- SUBU, clamped at 0 (07 R193). -/
def kzSubuF (a v : W32) : W32 × Bool := if a.toNat < v.toNat then (0, true) else (a - v, false)

/-- ADDW (07 R193). -/
def kzAddwF (a v : W32) : W32 × Bool := (a + v, false)

/-- SUBW (07 R193). -/
def kzSubwF (a v : W32) : W32 × Bool := (a - v, false)

/-- MIN, signed (07 R193). -/
def kzMinF (a v : W32) : W32 × Bool := (if a.toInt ≤ v.toInt then a else v, false)

/-- MAX, signed (07 R193). -/
def kzMaxF (a v : W32) : W32 × Bool := (if a.toInt ≤ v.toInt then v else a, false)

/-- NEG (07 R193). -/
def kzNegF (a : W32) : W32 × Bool := sat32 (0 - a.toInt)

/-- ABS (07 R193). -/
def kzAbsF (a : W32) : W32 × Bool := sat32 a.toInt.natAbs

/-- Shift count: the low 5 bits of the operand (07 R193). -/
def kzCount (v : W32) : Nat := v.toNat % 32

/-- SHL. -/
def kzShlF (a v : W32) : W32 := a <<< kzCount v

/-- SHR, logical. -/
def kzShrF (a v : W32) : W32 := a >>> kzCount v

/-- SAR, arithmetic. -/
def kzSarF (a v : W32) : W32 := a.sshiftRight (kzCount v)

/-- Signed comparisons of ACC with the operand (07 R194). -/
def kzCltF (a v : W32) : Bool := decide (a.toInt < v.toInt)

/-- Unsigned comparisons of ACC with the operand (07 R194). -/
def kzCltuF (a v : W32) : Bool := decide (a.toNat < v.toNat)

end Sys2Proof.Machine
end

