-- ==== Sys2Proof/Machine/Wire.lean ====
section
/-! DEFINITION. Input frames as bytes: the payloads of the frame kinds, the messages that CORRIDOR frames carry, and the frame
with its CRC-32C (01 R27, R34; 05 R148; 08 R209, R219, R223; 12 R330, R331; 13 R353; 14 R388; 15 R405; 16 R450). -/

namespace Sys2Proof.Machine

/-! ## Messages to the flights -/

/-- Type code of the message that an input is, 0 for what is no Corridor message (01 R35). -/
def FlightIn.typ : FlightIn → Nat
  | .pointRead .. | .subscribe .. | .unsubscribe .. | .clearSession .. | .clearAll .. => 0x10
  | .pointWrite .. => 0x11
  | .forceSet .. => 0x13
  | .badCount _ t => t
  | .meshUnicast .. | .meshMulticast .. | .meshFwBlock .. | .meshFwControl .. => 0x50
  | .updateStage .. => 0x60
  | .activate .. => 0x61
  | .regRead .. => 0x40
  | .regWrite .. | .fieldWrite .. | .chainEn .. | .taskEnable .. | .scheduleEnable .. | .retainFull | .enfEnable | .enfDisable _ | .turnReset => 0x41
  | .report .. | .chainStatus .. | .nodeData .. | .nodeAck .. | .joinReq .. | .nodeStatus .. | .coordRx .. => 0

/-- Whether an input comes from the Loggia. -/
def FlightIn.radio (m : FlightIn) : Bool := m.typ == 0

/-- Whether an input writes registers: the snapshot applies it after the frames of R139 (06 R156). -/
def FlightIn.isReg (m : FlightIn) : Bool := m.typ == 0x41

/-- Header of the message; a register write that carries none is the Foyer's own. -/
def FlightIn.hdr : FlightIn → MsgHdr
  | .pointRead h _ | .subscribe h _ _ | .unsubscribe h _ _ | .clearSession h _ | .clearAll h | .pointWrite h _ | .forceSet h _
  | .badCount h _ | .meshUnicast _ h .. | .meshMulticast h .. | .meshFwBlock h .. | .meshFwControl h _ | .updateStage h ..
  | .activate h .. | .regWrite h .. | .regRead h .. => h
  | _ => ⟨0, 0, 1, 0⟩

/-- Chain that carried an input of the Loggia. -/
def FlightIn.port : FlightIn → Nat
  | .chainStatus n .. | .nodeData n .. | .nodeAck n .. | .joinReq _ n .. | .nodeStatus n .. => n % 8
  | _ => 0

/-- A register request: region, count, offset and words (16 R450). -/
def regReq (region count offset : Nat) (values : List W32) : List Byte :=
  le 1 region ++ le 1 count ++ [0, 0] ++ le 4 offset ++ values.flatMap fun v => le 4 v.toNat

/-- A write of one flight register, which names flight A: both flights apply it (16 R450). -/
def flReq (key : Nat) (v : W32) : List Byte := regReq 3 1 (key % 2 ^ 24) [v]

/-- A MESH_DOWN payload (14 R388). -/
def meshReq (op flags dst ms : Nat) (data : List Byte) : List Byte :=
  le 1 op ++ le 1 flags ++ le 2 dst ++ le 4 ms ++ le 2 data.length ++ [0, 0] ++ data

/-- Payload of the message that an input is. -/
def FlightIn.payload : FlightIn → List Byte
  | .pointRead _ ps => [0, 0] ++ le 2 ps.length ++ ps.flatMap fun n => le 8 n
  | .subscribe _ s es => [1] ++ le 1 s ++ le 2 es.length ++ es.flatMap fun e => le 2 e.1 ++ le 2 e.2.1 ++ le 4 e.2.2
  | .unsubscribe _ s ps => [2] ++ le 1 s ++ le 2 ps.length ++ ps.flatMap fun n => le 8 n
  | .clearSession _ s => [3] ++ le 1 s ++ [0, 0]
  | .clearAll _ => [4, 0, 0, 0]
  | .pointWrite _ es => le 2 es.length ++ [0, 0] ++ es.flatMap fun e => le 4 e.1 ++ le 4 e.2.toNat
  | .forceSet _ es => le 2 es.length ++ [0, 0] ++ es.flatMap fun e => le 2 e.1 ++ le 2 e.2.1 ++ le 4 e.2.2.toNat
  | .badCount .. => []
  | .meshUnicast k _ dst fl ms data => meshReq (if k = 0xE then 4 else 0) fl dst ms data
  | .meshMulticast _ fl ms data => meshReq 1 fl 0xFFFF ms data
  | .meshFwBlock _ b data => meshReq 2 0 0xFFFF 0 (le 4 b ++ data)
  | .meshFwControl _ i => meshReq 3 0 0xFFFF 0 (le 4 i)
  | .updateStage _ c last data => le 1 c ++ le 1 (b2n last) ++ data
  | .activate _ c _ => le 1 c
  | .regWrite _ r o vs => regReq r vs.length o vs
  | .regRead _ r n o => regReq r n o []
  | .fieldWrite k v => flReq k v
  | .taskEnable n v => flReq (FL_TASKEN0 + 4 * n) v
  | .scheduleEnable n v => flReq (FL_SCHEDEN + 4 * n) v
  | .retainFull => flReq FL_RETAIN 0x8000
  | .enfEnable => flReq FL_ENFCTL 1
  | .enfDisable forced => flReq FL_ENFCTL (if forced then 2 else 0)
  | .turnReset => flReq FL_ENFCTL 16
  | .chainEn n on => regReq 7 1 ((LG_CHCFG + 4 * n) % 2 ^ 24) [BitVec.ofNat 32 (b2n on)]
  | .report .. | .chainStatus .. | .nodeData .. | .nodeAck .. | .joinReq .. | .nodeStatus .. | .coordRx .. => []

/-- The message as the Corridor carried it. -/
def FlightIn.wire (m : FlightIn) : List Byte :=
  let h := m.hdr
  wireMsg m.typ 0 h.seq 0 0 h.suite h.role h.origin m.payload

/-- Bytes of the LOGGIA_RX record of an input of the Loggia: a RECEIVE record with its PSDU, a REPORT or a STATUS (13 R353). -/
def FlightIn.rxLen : FlightIn → Nat
  | .report .. => 24
  | .chainStatus .. => 20
  | .nodeData _ _ _ _ _ data => 20 + 14 + data.length + 8
  | .nodeStatus _ _ _ _ _ p => 20 + 14 + p.length + 8
  | .coordRx _ _ gs _ _ => 20 + 14 + 38 + 2 * gs.length + 8
  | _ => 20 + 14 + 8

/-! ## Payloads of frames -/

/-- The TIME_MAP payload (15 R405). -/
def TimeMap.bytes (m : TimeMap) : List Byte :=
  le 8 m.c ++ le 8 m.ns ++ le 4 m.frac ++ le 4 m.len ++ le 4 m.lenFrac ++
    le 1 (b2n m.trusted + 2 * b2n m.holdover + 4 * b2n m.stepped + 8 * b2n m.locked) ++ le 1 m.source ++ le 2 m.epoch

/-- One entry of a sample block (12 R330). -/
def SampleEntry.bytes (e : SampleEntry) : List Byte :=
  le 1 e.state ++ le 1 e.flags ++ le 2 e.on ++ le 2 e.off ++ [0, 0] ++ le 8 e.cum

/-- Two's-complement bytes of an integer. -/
def leI (n : Nat) (v : Int) : List Byte := le n (v % 2 ^ (8 * n)).toNat

/-- A metering block: frequency, phases and energies, in the order of the quantities (12 R331). -/
def meterBytes (block : Nat) (vs : List Int) : List Byte :=
  let v (i : Nat) : Int := vs.getD i 0
  le 4 block ++ leI 2 (v 0) ++ leI 1 (v 17) ++ [0] ++ ((List.range 12).flatMap fun i => leI 4 (v (1 + i))) ++
    (List.range 4).flatMap fun i => leI 8 (v (13 + i))

/-- One station record (08 R209). -/
def StationRec.bytes (r : StationRec) : List Byte := le 1 r.station ++ le 1 r.kind ++ le 1 r.arg ++ le 1 r.inputs.length ++ r.inputs

/-- One record of a DALI port (08 R219). -/
def DaliRec.bytes (r : DaliRec) : List Byte :=
  le 1 r.kind ++ le 1 r.address ++ le 1 r.result ++ (List.range 3).flatMap fun i => le 1 (r.data.getD i 0)

/-- Payload of a frame (01 R27). A record of the Loggia whose PSDU is secured under keys is free. [log 135 DESIGN CHOICE] -/
def FrameBody.bytes : FrameBody → List Byte
  | .none => []
  | .cycle n c h => le 8 n ++ le 2 c ++ le 2 (b2n h)
  | .timeMap m => m.bytes
  | .input m => if m.radio then (List.range m.rxLen).map (Config.rxRecord m) else m.wire
  | .corridor bs => bs
  | .sample _ block es => le 4 block ++ [0, 0, 0, 0] ++ es.flatMap SampleEntry.bytes
  | .meter _ block vs => meterBytes block vs
  | .stations _ n last rs => le 4 n ++ le 1 rs.length ++ le 1 (b2n last) ++ [0, 0] ++ rs.flatMap StationRec.bytes
  | .dali _ rs => rs.flatMap DaliRec.bytes
  | .jml _ typ full es args => le 1 typ ++ le 1 (b2n full) ++
      (es.flatMap fun e => le 2 e.1 ++ le 2 e.2.1 ++ le 4 e.2.2.toNat) ++
      (match args with
        | [g, b] => le 2 g ++ le 8 b
        | _ => [])
  | .receive n ts rate ch rssi fl l psdu => [0] ++ le 1 n ++ [0, 0] ++ le 8 ts ++ le 1 rate ++ le 1 ch ++ leI 1 rssi ++ le 1 fl ++
      le 2 l ++ [0, 0] ++ psdu
  | .report n id o r start air => [1] ++ le 1 n ++ [0, 0] ++ le 4 id ++ le 1 o ++ le 1 r ++ [0, 0] ++ le 8 start ++ le 4 air
  | .lgStatus n s fl band q sum bud => [2] ++ le 1 n ++ [0, 0] ++ le 4 s ++ le 1 fl ++ le 1 band ++ le 2 q ++ le 4 sum ++ le 4 bud

/-- Bytes 0 to the end of the payload of a numbered frame (01 R27). -/
def Frame.head (fr : Frame) : List Byte :=
  le 8 fr.number ++ le 1 fr.frame.kind ++ le 1 fr.frame.port ++ le 2 fr.frame.length ++ le 4 fr.cycle ++ fr.frame.body.bytes

/-- A numbered frame with its CRC-32C (01 R27). -/
def mkFrame (number cycle : Nat) (fr : InFrame) : Frame :=
  let f : Frame := ⟨number, cycle, fr, 0⟩
  { f with crc := crc32c f.head }

/-- A frame of an input: CORRIDOR, or LOGGIA_RX of its chain (01 R27). -/
def FlightIn.frame (m : FlightIn) : InFrame :=
  if m.radio then ⟨0x06, m.port, 0, m.rxLen, .input m⟩ else ⟨0x03, 0, m.hdr.seq, m.wire.length, .input m⟩

/-- A CORRIDOR frame of a message that no flight applies. -/
def corFrame (m : DownMsg) : InFrame := ⟨0x03, 0, m.seq, m.wire.length, .corridor m.wire⟩

/-! ## Messages read from their bytes (05 R148; 14 R388; 16 R450; 18 R497) -/

/-- n entries of a size behind the first o bytes. -/
def entriesOf (bs : List Byte) (o size n : Nat) : List (List Byte) := (List.range n).map fun i => (bs.drop (o + size * i)).take size

/-- A point request: refused where its length disagrees with its count (05 R148). -/
def parsePoint (h : MsgHdr) (p : List Byte) : FlightIn :=
  let n := field p 2 2
  let op := field p 0 1
  let s := field p 1 1
  let es := entriesOf p 4 8 n
  if p.length ≠ 4 + 8 * n ∨ (3 ≤ op ∧ n ≠ 0) then .badCount h 0x10
  else match op with
    | 0 => .pointRead h (es.map fun e => field e 0 2)
    | 1 => .subscribe h s (es.map fun e => (field e 0 2, field e 2 2, field e 4 4))
    | 2 => .unsubscribe h s (es.map fun e => field e 0 2)
    | 3 => .clearSession h s
    | 4 => .clearAll h
    | _ => .badCount h 0x10

/-- The input that a host-to-field message is for the flights, where it is one. -/
def parseMsg (bs : List Byte) : Option FlightIn :=
  let h : MsgHdr := ⟨field bs 2 2, field bs 9 1, field bs 10 1, field bs 11 1⟩
  let p := (bs.drop 12).take (field bs 6 2)
  let n := field p 0 2
  let es := entriesOf p 4 8 n
  match field bs 0 1 with
  | 0x10 => some (parsePoint h p)
  | 0x11 => some (if p.length ≠ 4 + 8 * n then .badCount h 0x11 else .pointWrite h (es.map fun e => (field e 0 2, BitVec.ofNat 32 (field e 4 4))))
  | 0x13 => some (if p.length ≠ 4 + 8 * n then .badCount h 0x13
      else .forceSet h (es.map fun e => (field e 0 2, field e 2 1, BitVec.ofNat 32 (field e 4 4))))
  | 0x40 => if field p 0 1 = 3 ∨ field p 0 1 = 4 then some (.regRead h (field p 0 1) (field p 1 1) (field p 4 4)) else none
  | 0x41 => if field p 0 1 = 5 then none
      else some (.regWrite h (field p 0 1) (field p 4 4) ((entriesOf p 8 4 ((p.length - 8) / 4)).map fun e => BitVec.ofNat 32 (unle e)))
  | 0x50 =>
    let data := p.drop 12
    match field p 0 1 with
    | 0 => some (.meshUnicast 0x2 h (field p 2 2) (field p 1 1) (field p 4 4) data)
    | 1 => some (.meshMulticast h (field p 1 1) (field p 4 4) data)
    | 2 => some (.meshFwBlock h (field data 0 4) (data.drop 4))
    | 3 => some (.meshFwControl h (field data 0 4))
    | 4 => some (.meshUnicast 0xE h (field p 2 2) (field p 1 1) (field p 4 4) data)
    | _ => none
  | 0x60 => if field p 0 1 = 0x10 ∨ field p 0 1 = 0x11 then some (.updateStage h (field p 0 1) (field p 1 1 == 1) (p.drop 2)) else none
  | 0x61 => if field p 0 1 = 0x10 ∨ field p 0 1 = 0x11 then some (.activate h (field p 0 1) true) else none
  | _ => none

end Sys2Proof.Machine
end

