-- ==== Sys2Proof/Machine/Ingress.lean ====
section
/-! DEFINITION. Arrivals at the Newel ingress buffer, and messages that the Newel accepts from the Corridor (01 R27, R30, R40). -/

namespace Sys2Proof.Machine

/-- Bytes of a frame: header, payload and CRC-32C (01 R27). -/
def InFrame.bytes (fr : InFrame) : Nat := 20 + fr.length

/-- Bytes that frames take together. -/
def framesBytes (l : List InFrame) : Nat := (l.map InFrame.bytes).sum

/-- Capacity of the ingress buffer: 256 KiB (01 R30). -/
def ingressCap : Nat := 262144

/-- Bytes that the ingress buffer holds: the arrivals of the cycle and the frames carried forward; a TIME_MAP has space of its own
(01 R29, R30). -/
def NewelSt.buffered (n : NewelSt) : Nat := framesBytes (n.carried.filter fun f => f.kind != 0x02) + framesBytes n.ingress

/-- EV_NW_SAMPLE_COALESCED with the replacements not yet reported, at most once per second (01 R30). -/
def Dev.coalesced (d : Dev) : Dev :=
  if d.nw.coalesced ≠ 0 ∧ rateOk d.nw.coalAt d.nw.cycle cycPerSec then
    (d.updNw fun x => { x with coalAt := some x.cycle, coalesced := 0 }).raiseNw (.mk' .nwSampleCoalesced [d.nw.coalesced])
  else d

/-- Whether a frame is a sample block of a port. -/
def isSample (port : Nat) (x : InFrame) : Bool := x.kind == 0x04 && x.port == port

/-- A newer sample block replaces the unreleased one of its port, which is counted (01 R30). -/
def Dev.coalesce (d : Dev) (fr : InFrame) : Dev :=
  let put (l : List InFrame) : List InFrame := l.map fun x => if isSample fr.port x then fr else x
  (d.updNw fun n => { n with ingress := put n.ingress, carried := put n.carried, coalesced := n.coalesced + 1 }).coalesced

/-- An arrival: stored while there is room. With the buffer full, a GALLERY_SAMPLE block replaces the unreleased block of
its port, and any other frame waits at its source (01 R30). [log 16 DESIGN CHOICE] -/
def Dev.ingress (d : Dev) (fr : InFrame) : Dev :=
  if d.nw.buffered + fr.bytes ≤ ingressCap ∧ d.nw.source = [] then d.updNw fun n => { n with ingress := n.ingress ++ [fr] }
  else if fr.kind = 0x04 ∧ (d.nw.carried ++ d.nw.ingress).any (isSample fr.port) then d.coalesce fr
  else d.updNw fun n => { n with source := n.source ++ [fr] }

/-- What the receiving side does with a message of valid CRC by its sequence: the first after a reset or restoration
and the next in order are accepted, the 32,768 values up to the last accepted are duplicates, any other is negatively
acknowledged (01 R40). Answers the direction and whether the message is accepted. -/
def CrDir.accept (c : CrDir) (q : Nat) : CrDir × Bool :=
  if c.lost then (c, false)
  else match c.lastAcc with
  | none => ({ c with lastAcc := some (q % 65536) }, true)
  | some l =>
    let dist := (q + 65536 - l) % 65536
    if dist = 1 then ({ c with lastAcc := some (q % 65536) }, true)
    else if dist = 0 ∨ 32769 ≤ dist then ({ c with dups := min (c.dups + 1) 0xFFFFFFFF }, false)
    else (c, false)

/-- A host-to-field message at the Newel: its effect follows only where the message is accepted (01 R40). -/
def Dev.acceptDown (d : Dev) (q : Nat) (g : Dev → Dev) : Dev :=
  let p := d.cor.down.accept q
  let d1 := d.updCor fun c => { c with down := p.1 }
  if p.2 then g d1 else d1

/-- A message to the flights: accepted, it becomes a CORRIDOR frame of the cycle, which the flights consume at a snapshot (01 R27,
R28, R40; 05 R139). [log 14 DEDUCED] -/
def Dev.toFlights (d : Dev) (m : FlightIn) : Dev := d.acceptDown m.hdr.seq fun d => d.ingress m.frame

/-- A message that the Newel answers or keeps to itself: it becomes a CORRIDOR frame too, which the flights apply nothing of (01 R28). -/
def Dev.toNewel (d : Dev) (m : DownMsg) (g : Dev → Dev) : Dev := d.acceptDown m.seq fun d => g (d.ingress (corFrame m))

/-- A field-to-host message at the Foyer: its effect follows only where the message is accepted (01 R40). [log 17 DESIGN CHOICE] -/
def Dev.acceptUp (d : Dev) (q : Nat) (g : Dev → Dev) : Dev :=
  let p := d.cor.up.accept q
  let d1 := d.updCor fun c => { c with up := p.1 }
  if p.2 then g d1 else d1

/-- A frame of the radio, or a write of the Foyer that reaches the flights without a REPLY, as the cycle's arrival (01 R27). [log 14 DEDUCED] -/
def Dev.arrive (d : Dev) (m : FlightIn) : Dev := d.ingress m.frame

/-- INPUT_ARRIVAL (01 R30). [log 16 DESIGN CHOICE] -/
def execInputArrival (fr : InFrame) (s : State) : Host.Outcome State Fault Refusal := s.upd fun d => d.ingress fr

end Sys2Proof.Machine
end

