-- ==== Sys2Proof/Machine/Points.lean ====
section
/-! DEFINITION. The point table of a flight: classes, quality, change times, forces, subscriptions, and the point
messages (chapter 05). -/

namespace Sys2Proof.Machine

/-! ## Point entries -/

/-- Quality codes (05 R127). -/
def qGood : Nat := 0
def qUncertain : Nat := 1
def qSubst : Nat := 2
def qBad : Nat := 3
def qForced : Nat := 4

/-- QUAL of a status. -/
def stQual (s : BitVec 16) : Nat := bitsOf s.toNat 2 0

/-- SOURCE of a status. -/
def stSource (s : BitVec 16) : Nat := bitsOf s.toNat 6 3

/-- STALE of a status. -/
def stStale (s : BitVec 16) : Bool := bitOf s.toNat 7

/-- COMMON of a status. -/
def stCommon (s : BitVec 16) : Bool := bitOf s.toNat 8

/-- RETAIN of a status. -/
def stRetain (s : BitVec 16) : Bool := bitOf s.toNat 9

/-- EXTWR of a status. -/
def stExtwr (s : BitVec 16) : Bool := bitOf s.toNat 10

/-- UNDERQ of a status. -/
def stUnderq (s : BitVec 16) : Nat := bitsOf s.toNat 14 12

/-- A status with a field replaced. -/
def stPut (s : BitVec 16) (h l v : Nat) : BitVec 16 := BitVec.ofNat 16 (putBits s.toNat h l v)

/-- A status with quality and source set; UNDERQ equals QUAL while not forced (05 R127). -/
def stSet (s : BitVec 16) (q src : Nat) : BitVec 16 := stPut (stPut (stPut s 2 0 q) 6 3 src) 14 12 q

/-- Point entry n of a flight (05 R126). -/
def FlightSt.pt (x : FlightSt) (n : Nat) : Point := mget Point.zero x.pts n

/-- The force entry of a point, with its entry number (05 R142). -/
def FlightSt.forceOf (x : FlightSt) (n : Nat) : Option (Nat × Force) := x.forces.find? fun e => e.2.point == n

/-- Whether a class holds bit 0 only (05 R129). -/
def clsBit (c : Nat) : Bool := c == 0x01 || c == 0x02 || c == 0x0A

/-- A value brought into its class range: LEVEL is clamped, bit classes keep bit 0 (06 R164). [log 125 DEDUCED] -/
def clsRange (c : Nat) (v : W32) : W32 :=
  if c = 0x05 then (if v.toNat > 4095 then 4095 else v)
  else if clsBit c then v &&& 1
  else v

/-- Whether the value of a class is signed (05 R129). -/
def clsSigned (c : Nat) : Bool := c == 0x03 || c == 0x04 || c == 0x08

/-- Whether a message may write the value to the class (05 R129). -/
def clsAccepts (c : Nat) (v : W32) : Bool := clsRange c v == v

/-- Whether two values differ by more than a deadband, compared as the class says (05 R129). -/
def clsDiffers (c : Nat) (a b : W32) (deadband : W32) : Bool :=
  if clsSigned c then decide ((a.toInt - b.toInt).natAbs > deadband.toNat)
  else if c = 0x05 then decide ((a.toNat : Int) - b.toNat > deadband.toNat ∨ (b.toNat : Int) - a.toNat > deadband.toNat)
  else if c = 0x06 ∨ c = 0x07 then decide ((a - b).toNat > deadband.toNat)
  else decide (a ≠ b)

/-- Insertion of a point index into rising indices. -/
def insIx (n : Nat) : List Nat → List Nat
  | [] => [n]
  | k :: t => if n < k then n :: k :: t else if n = k then k :: t else k :: insIx n t

/-- Page of a force table entry: entry e lies at byte 16 e of bank 5 (05 R142). -/
def forcePage (e : Nat) : Nat := 64 * 5 + e / 256

/-- Keep the phase-1 entry of a point that changes during a scan, and note that the scan wrote it (06 R164, 04 R93). -/
def FlightSt.noteWrite (x : FlightSt) (n : Nat) : FlightSt :=
  let y := { x with written := if n ∈ x.written then x.written else x.written ++ [n] }
  if x.inScan && !mhas x.iOver n then { y with iOver := mput x.iOver n (x.pt n) } else y

/-- A point entry replaced; its change time is that of the scan when its value, QUAL or STALE changes (05 R128). -/
def FlightSt.putPt (x : FlightSt) (n : Nat) (p : Point) : FlightSt :=
  let o := x.pt n
  let changed := o.value ≠ p.value ∨ stQual o.status ≠ stQual p.status ∨ stStale o.status ≠ stStale p.status
  let p' := if changed then { p with ctime := x.mapTime } else p
  { x.noteWrite n with pts := mset Point.zero x.pts n p' }

/-- A value from a source: it becomes the point's value with its quality, or, while the point is forced, the underlying
value and quality in the force entry (05 R140). STALE clears (05 R130). -/
def FlightSt.load (x : FlightSt) (n : Nat) (v : W32) (q src : Nat) : FlightSt :=
  let p := x.pt n
  if p.cls = 0 then x
  else
    let x := { x with age := mset 0 x.age n (if x.inScan then 1 else 0) }
    match x.forceOf n with
    | some (e, fo) =>
      let fo' : Force := { fo with under := v, underStatus := stPut (stSet fo.underStatus q src) 7 7 0 }
      let y := { x with forces := mput x.forces e fo' }
      y.putPt n { p with status := stPut (stPut p.status 14 12 q) 7 7 0 }
    | none => x.putPt n { p with value := v, status := stPut (stSet p.status q src) 7 7 0 }

/-- A change of quality alone, the value kept. -/
def FlightSt.setQual (x : FlightSt) (n : Nat) (q : Nat) : FlightSt :=
  let p := x.pt n
  if p.cls = 0 then x
  else match x.forceOf n with
    | some (e, fo) =>
      let y := { x with forces := mput x.forces e { fo with underStatus := stPut (stPut fo.underStatus 2 0 q) 14 12 q } }
      y.putPt n { p with status := stPut p.status 14 12 q }
    | none => x.putPt n { p with status := stPut (stPut p.status 2 0 q) 14 12 q }

/-- The value a source last left: the underlying value while the point is forced. -/
def FlightSt.under (x : FlightSt) (n : Nat) : W32 :=
  match x.forceOf n with
  | some (_, fo) => fo.under
  | none => (x.pt n).value

/-- The sixteen bytes of a point entry (05 R126). -/
def Point.bytes (p : Point) : List Byte :=
  le 4 p.value.toNat ++ le 2 p.status.toNat ++ le 1 p.suite ++ le 1 p.cls ++ le 8 p.ctime

/-- The sixteen bytes of a force table entry in use (05 R142). -/
def Force.bytes (fo : Force) : List Byte :=
  le 2 fo.point ++ [1, 0] ++ le 4 fo.value.toNat ++ le 4 fo.under.toNat ++ le 2 fo.underStatus.toNat ++
    le 1 fo.role ++ le 1 fo.suite

/-- Lowest index of n entries that a table does not use. -/
def freeEntry {α : Type} (m : Map α) (n : Nat) : Option Nat := (List.range n).find? fun i => !mhas m i

/-- Show the occupancy of the force and subscription tables (05 R149). -/
def Dev.ptStat (d : Dev) (f : Flt) : Dev :=
  (d.put (FL_PTSTAT_FORCES.at f) (d.fl f).forces.length).put (FL_PTSTAT_SUBS.at f) (d.fl f).subs.length

/-! ## Roles (05 R131, R132) -/

/-- A role that may read points. -/
def roleReads (r : Nat) : Bool := r == 1 || r == 2 || r == 3 || r == 4

/-- A role that may write points. -/
def roleWrites (r : Nat) : Bool := r == 1 || r == 3

/-- A role bound to its suite. -/
def roleSuite (r : Nat) : Bool := r == 3 || r == 4

/-- Status of a point for a reader (05 R132, R135). -/
def readStatus (role suite : Nat) (p : Point) : Nat :=
  if roleSuite role then
    if p.cls ≠ 0 ∧ (p.suite = suite ∨ stCommon p.status) then E_OK else E_SUITE
  else if p.cls = 0 then E_NO_POINT else E_OK

/-- Status of one entry of a POINT_WRITE (05 R129, R132, R135). -/
def writeStatus (role suite : Nat) (p : Point) (v : W32) : Nat :=
  if roleSuite role ∧ ¬(p.cls ≠ 0 ∧ p.suite = suite) then E_SUITE
  else if p.cls = 0 then E_NO_POINT
  else if !stExtwr p.status then E_NOT_WRITABLE
  else if !clsAccepts p.cls v then E_RANGE
  else E_OK

/-- The first failing entry of a request checked whole: its position and code (05 R136). -/
def firstFail : Nat → List Nat → Option (Nat × Nat)
  | _, [] => none
  | i, c :: t => if c ≠ E_OK then some (i, c) else firstFail (i + 1) t

/-- A REPLY formed by a flight, carried in the commit set of its scan (04 R92, 05 R141). -/
def Dev.reply (d : Dev) (f : Flt) (typ : Nat) (h : MsgHdr) (status : Nat) (body : List Byte) : Dev :=
  d.updFl f fun x => { x with msgs := x.msgs ++ [⟨typ, h.seq, status, h.suite, h.role, body, none⟩] }

/-- Count entries refused with E_SUITE (05 R149). -/
def Dev.countSuite (d : Dev) (f : Flt) (codes : List Nat) : Dev :=
  d.inc (FL_SUITEVIOL_CORRIDOR.at f) (codes.filter (· == E_SUITE)).length

/-- One 20-byte entry of a POINT_READ REPLY or a POINT_NOTIFY (05 R148). -/
def readEntry (n st : Nat) (p : Point) : List Byte :=
  le 2 n ++ le 1 st ++ [0] ++ (if st = E_OK then p.bytes else List.replicate 16 0)

/-- POINT_READ operation 0 in one flight (05 R132 to R136, R148). -/
def pointReadIn (f : Flt) (h : MsgHdr) (points : List Nat) (d : Dev) : Dev :=
  if !roleReads h.role then d.reply f 0x10 h E_ROLE [0, 0, 0, 0]
  else if points.length > 51 then d.reply f 0x10 h E_RANGE [0, 0, 0, 0]
  else
    let codes := points.map fun n => readStatus h.role h.suite ((d.fl f).pt n)
    let body := le 2 points.length ++ [0, 0] ++
      (List.zip points codes).flatMap fun e => readEntry e.1 e.2 ((d.fl f).pt e.1)
    (d.countSuite f codes).reply f 0x10 h E_OK body

/-- Admit one subscription entry: its status, and the table with the entry (05 R145). -/
def subscribeOne (h : MsgHdr) (session : Nat) (x : FlightSt) (e : Nat × Nat × Nat) : FlightSt × Nat :=
  let c := readStatus h.role h.suite (x.pt e.1)
  if c ≠ E_OK then (x, c)
  else
    let slot := match x.subs.find? fun s => s.2.point == e.1 && s.2.session == session with
      | some s => some s.1
      | none => freeEntry x.subs 4096
    match slot with
    | none => (x, E_FULL)
    | some i =>
      let sub : Sub := ⟨e.1, session, h.role, h.suite, BitVec.ofNat 32 e.2.2, e.2.1, 0, 0, 0, false, false⟩
      ({ x with subs := mput x.subs i sub }, E_OK)

/-- Admit the entries of a subscription in order. -/
def subscribeAll (h : MsgHdr) (session : Nat) (x : FlightSt) : List (Nat × Nat × Nat) → FlightSt × List Nat
  | [] => (x, [])
  | e :: t =>
    let p := subscribeOne h session x e
    let r := subscribeAll h session p.1 t
    (r.1, p.2 :: r.2)

/-- POINT_READ operation 1 in one flight (05 R145). -/
def subscribeIn (f : Flt) (h : MsgHdr) (session : Nat) (entries : List (Nat × Nat × Nat)) (d : Dev) : Dev :=
  if !roleReads h.role then d.reply f 0x10 h E_ROLE [0, 0, 0, 0]
  else if entries.length > 51 then d.reply f 0x10 h E_RANGE [0, 0, 0, 0]
  else
    let p := subscribeAll h session (d.fl f) entries
    let body := le 2 entries.length ++ [0, 0] ++
      (List.zip entries p.2).flatMap fun e => readEntry e.1.1 e.2 ((d.fl f).pt e.1.1)
    (((d.updFl f fun _ => p.1).countSuite f p.2).ptStat f).reply f 0x10 h E_OK body

/-- Remove the subscription entries that a test selects. -/
def Dev.dropSubs (d : Dev) (f : Flt) (sel : Sub → Bool) : Dev :=
  (d.updFl f fun x => { x with subs := x.subs.filter fun e => !sel e.2 }).ptStat f

/-- POINT_READ operation 2 in one flight (05 R145, R148). -/
def unsubscribeIn (f : Flt) (h : MsgHdr) (session : Nat) (points : List Nat) (d : Dev) : Dev :=
  if !roleReads h.role then d.reply f 0x10 h E_ROLE [0, 0, 0, 0]
  else if points.length > 51 then d.reply f 0x10 h E_RANGE [0, 0, 0, 0]
  else
    let body := le 2 points.length ++ [0, 0] ++ points.flatMap fun n =>
      readEntry n (readStatus h.role h.suite ((d.fl f).pt n)) ((d.fl f).pt n)
    let codes := points.map fun n => readStatus h.role h.suite ((d.fl f).pt n)
    ((d.dropSubs f fun s => s.session == session && points.contains s.point).countSuite f codes).reply f 0x10 h E_OK body

/-- POINT_READ operations 3 and 4 in one flight (05 R147). -/
def clearSubsIn (f : Flt) (h : MsgHdr) (sel : Sub → Bool) (d : Dev) : Dev :=
  if !roleReads h.role then d.reply f 0x10 h E_ROLE [0, 0, 0, 0]
  else (d.dropSubs f sel).reply f 0x10 h E_OK [0, 0, 0, 0]

/-- Reply body of POINT_WRITE and FORCE_SET: position of the first failing entry, or 0xFFFF (05 R148). -/
def posBody (p : Option (Nat × Nat)) : List Byte := le 2 (match p with | some e => e.1 | none => 0xFFFF) ++ [0, 0]

/-- POINT_WRITE in one flight: checked whole, then applied (05 R136, R140). -/
def pointWriteIn (f : Flt) (h : MsgHdr) (entries : List (Nat × W32)) (d : Dev) : Dev :=
  if !roleWrites h.role then d.reply f 0x11 h E_ROLE (posBody none)
  else if entries.length = 0 ∨ entries.length > 127 then d.reply f 0x11 h E_RANGE (posBody none)
  else
    let codes := entries.map fun e => writeStatus h.role h.suite ((d.fl f).pt e.1) e.2
    let d1 := d.countSuite f codes
    match firstFail 0 codes with
    | some p => d1.reply f 0x11 h p.2 (posBody (some p))
    | none =>
      let src := if h.origin = 1 then 11 else 10
      (d1.updFl f fun x => entries.foldl (fun x e =>
        x.load e.1 e.2 qGood src) x).reply f 0x11 h E_OK (posBody none)

/-- Set a force on a point (05 R140, R142). -/
def FlightSt.forceSet (x : FlightSt) (role suite n : Nat) (v : W32) : FlightSt :=
  let p := x.pt n
  match x.forceOf n with
  | some (e, fo) =>
    { x with forces := mput x.forces e { fo with value := v, role := role, suite := suite } }.putPt n { p with value := v }
  | none =>
    match freeEntry x.forces 512 with
    | none => x
    | some e =>
      let y := { x with forces := mput x.forces e ⟨n, v, p.value, p.status, role, suite⟩ }
      y.putPt n { p with value := v, status := stPut (stPut (stPut p.status 2 0 qForced) 6 3 12) 14 12 (stQual p.status) }

/-- Release a force: the point takes the underlying value and status, with the change time of the releasing scan
(05 R143). -/
def FlightSt.forceRelease (x : FlightSt) (n : Nat) : FlightSt :=
  match x.forceOf n with
  | none => x
  | some (e, fo) =>
    let p := x.pt n
    let y := { x with forces := mdel x.forces e, pages := insIx (forcePage e) x.pages }.noteWrite n
    { y with pts := mset Point.zero y.pts n { p with value := fo.under, status := fo.underStatus, ctime := x.mapTime } }

/-- Statuses of the entries of a FORCE_SET, counting the free entries as the entries before take and release them; an action other than
set and release fails with E_RANGE (05 R135, R136, R142). [log 145 DESIGN CHOICE] -/
def forceStatuses (x : FlightSt) : Nat → List Nat → List (Nat × Nat × W32) → List Nat
  | _, _, [] => []
  | free, forced, (n, act, v) :: t =>
    let p := x.pt n
    if p.cls = 0 then E_NO_POINT :: forceStatuses x free forced t
    else if act > 1 ∨ (act = 1 ∧ !clsAccepts p.cls v) then E_RANGE :: forceStatuses x free forced t
    else if act = 1 then
      if n ∈ forced then E_OK :: forceStatuses x free forced t
      else if free = 0 then E_FULL :: forceStatuses x free forced t
      else E_OK :: forceStatuses x (free - 1) (n :: forced) t
    else if n ∈ forced then E_OK :: forceStatuses x (free + 1) (forced.filter (· ≠ n)) t
    else E_OK :: forceStatuses x free forced t

/-- FORCE_SET in one flight: checked whole, then applied; each entry raises EV_FL_FORCE (05 R136, R142, R150). -/
def forceSetIn (f : Flt) (h : MsgHdr) (entries : List (Nat × Nat × W32)) (d : Dev) : Dev :=
  if h.role ≠ 1 then d.reply f 0x13 h E_ROLE (posBody none)
  else if entries.length = 0 ∨ entries.length > 127 then d.reply f 0x13 h E_RANGE (posBody none)
  else
    let x := d.fl f
    match firstFail 0 (forceStatuses x (512 - x.forces.length) (x.forces.map (·.2.point)) entries) with
    | some p => d.reply f 0x13 h p.2 (posBody (some p))
    | none =>
      let one (d : Dev) (e : Nat × Nat × W32) : Dev :=
        let d1 := d.updFl f fun x => if e.2.1 = 1 then x.forceSet h.role h.suite e.1 e.2.2 else x.forceRelease e.1
        d1.raiseFl f .flForce [e.1, e.2.1, e.2.2.toNat, h.role, h.suite] (some ((d.fl f).pt e.1).suite)
      ((entries.foldl one d).ptStat f).reply f 0x13 h E_OK (posBody none)

/-- The journal keeps the quarantine of a flight as the Newel reports it (04 R118). -/
def Dev.noteQuarantine (d : Dev) (ev : Ev) : Dev :=
  let on := decide (ev.id = .nwQuarantine)
  if !d.arc.warned && (on || decide (ev.id = .nwQuarRelease)) then
    if ev.payload.headD 0 = 0 then { d with jnl := { d.jnl with quarA := on } } else { d with jnl := { d.jnl with quarB := on } }
  else d

end Sys2Proof.Machine
end

