-- ==== Sys2Proof/Machine/MemOps.lean ====
section
/-! DEFINITION. Protected memory words: where a word stands, what an access meets, corrections and error addresses,
remap entries and banks (chapter 03). -/

namespace Sys2Proof.Machine

/-- The register field of this memory, from the flight's field and the Foyer's (03 R89, R90). -/
def Mem.fld (m : Mem) (xfl xfy : Fld) : Fld :=
  match m with
  | .fl f => xfl.at f
  | .fy => xfy

/-- Region code of the memory (00 R3). -/
def Mem.region : Mem → Nat
  | .fl f => f.region
  | .fy => 1

/-- Physical banks (03 R64, R65). -/
def Mem.banks : Mem → Nat
  | .fl _ => 34
  | .fy => 17

/-- Logical banks (03 R64, R65). -/
def Mem.lbanks : Mem → Nat
  | .fl _ => 32
  | .fy => 16

/-- Remap entries (03 R75). -/
def Mem.entries : Mem → Nat
  | .fl _ => 16
  | .fy => 8

/-- Words in a bank (03 R64). -/
def bankWords : Nat := 32768

/-- Integrity state that this memory keeps, in the shape of the Foyer's. -/
def Dev.mem (d : Dev) : Mem → FoyMemSt
  | .fl f => ⟨(d.fl f).words, (d.fl f).ceCount, (d.fl f).evacTo, (d.fl f).memWait, (d.fl f).evacTest, (d.fl f).testing, (d.fl f).retired,
      (d.fl f).ranges, (d.fl f).ceDone, (d.fl f).evacWait⟩
  | .fy => d.fmem

/-- Change the integrity state of a memory. -/
def Dev.updMem (d : Dev) (m : Mem) (g : FoyMemSt → FoyMemSt) : Dev :=
  let y := g (d.mem m)
  match m with
  | .fl f => d.updFl f fun x => { x with
      words := y.words, ceCount := y.ceCount, evacTo := y.evacTo, memWait := y.memWait
      evacTest := y.evacTest, testing := y.testing, retired := y.retired
      ranges := y.ranges, ceDone := y.ceDone, evacWait := y.evacWait }
  | .fy => { d with fmem := y }

/-- Key of a physical word. -/
def wordKey (pb w : Nat) : Nat := pb * bankWords + w

/-- A word no access has found anything about: invalid, free of error. [log 12 DESIGN CHOICE] -/
def wordInfo0 : WordInfo := WordInfo.zero

/-- Field of the bank map for a logical bank (03 R89). -/
def Mem.bankFld (m : Mem) (lb : Nat) : Fld :=
  let x := m.fld FL_BANKPHYS_P0 FY_BANKPHYS_P0
  ⟨x.key + 4 * (lb / 4), 8 * (lb % 4) + 5, 8 * (lb % 4)⟩

/-- Physical bank that carries a logical bank (03 R89). -/
def Dev.phys (d : Dev) (m : Mem) (lb : Nat) : Nat := d.get (m.bankFld lb)

/-- The logical bank that a physical bank carries. -/
def Dev.logical (d : Dev) (m : Mem) (pb : Nat) : Option Nat := (List.range m.lbanks).find? fun l => d.phys m l == pb

/-- Whether firmware has written the word with a whole range (03 R66). -/
def FoyMemSt.inRange (y : FoyMemSt) (pb w : Nat) : Bool := y.ranges.any fun e => e.1 == pb && decide (e.2.1 ≤ w ∧ w < e.2.1 + e.2.2)

/-- State of a word that has no entry of its own: valid where firmware has written it, and free of error. [log 12 DESIGN CHOICE] -/
def FoyMemSt.plain (y : FoyMemSt) (pb w : Nat) : WordInfo := { wordInfo0 with valid := y.inRange pb w }

/-- State of a physical word (03 R64). Bank number `m.banks` is the remap array (03 R75). [log 12 DESIGN CHOICE] -/
def Dev.word (d : Dev) (m : Mem) (pb w : Nat) : WordInfo := mget ((d.mem m).plain pb w) (d.mem m).words (wordKey pb w)

/-- Set the state of a physical word. -/
def Dev.setWord (d : Dev) (m : Mem) (pb w : Nat) (i : WordInfo) : Dev :=
  d.updMem m fun y => { y with words := mset (y.plain pb w) y.words (wordKey pb w) i }

/-- An event of this memory: a flight's goes by the Newel and stays out of commit sets (03 R71), a Foyer's is raised
at once. -/
def Dev.raiseMem (d : Dev) (m : Mem) (ifl ify : EvId) (p : List Int) : Dev :=
  match m with
  | .fl f => d.raiseFlNow f ifl p
  | .fy => d.raiseFy (.mk' ify p)

/-- Record the last error (03 R68, R70). -/
def Dev.errAddr (d : Dev) (m : Mem) (pb w ue agent : Nat) : Dev :=
  (((d.put (m.fld FL_ERRADDR_PBANK FY_ERRADDR_PBANK) pb).put (m.fld FL_ERRADDR_WORD FY_ERRADDR_WORD) w).put
    (m.fld FL_ERRADDR_UE FY_ERRADDR_UE) ue).put (m.fld FL_ERRADDR_AGENT FY_ERRADDR_AGENT) agent

/-- First free spare bank: 0x3F in the field means none. -/
def Dev.spareBank (d : Dev) (m : Mem) : Option Nat :=
  let s := d.get (m.fld FL_SPAREMAP_SPARE0 FY_SPAREMAP_SPARE0)
  if s = 0x3F then none else some s

/-- The evacuation unit is idle. -/
def Dev.evacIdle (d : Dev) (m : Mem) : Bool := !d.bit (m.fld FL_EVAC_BUSY FY_EVAC_BUSY)

/-- An evacuation of a logical bank to a free spare begins (03 R77); `test` when a bank test follows (03 R79). What was known of the
spare's words is void. [log 83 DEDUCED] -/
def Dev.evacStart (d : Dev) (m : Mem) (lb dest : Nat) (test : Bool) : Dev :=
  (d.updMem m fun y => { y with
    evacTo := some (lb, dest), evacTest := test, words := y.words.filter fun e => e.1 / bankWords ≠ dest
    ranges := y.ranges.filter fun e => e.1 ≠ dest }).put (m.fld FL_EVAC_BUSY FY_EVAC_BUSY) 1

/-- A physical bank that is to be evacuated without a request: at once, or when the unit is idle again (03 R74, R76). [log 83 DEDUCED] -/
def Dev.evacDue (d : Dev) (m : Mem) (pb : Nat) : Dev :=
  match d.spareBank m, d.logical m pb with
  | some s, some lb =>
    if d.evacIdle m then d.evacStart m lb s false
    else d.updMem m fun y => { y with evacWait := if pb ∈ y.evacWait then y.evacWait else y.evacWait ++ [pb] }
  | _, _ => d

/-- The corrections of a bank in this pass reach CETHR (03 R74). -/
def Dev.ceRate (d : Dev) (m : Mem) (pb : Nat) : Dev :=
  let n := mget 0 (d.mem m).ceCount pb
  let thr := d.get (m.fld FL_SCRUBCFG_CETHR FY_SCRUBCFG_CETHR)
  if thr = 0 ∨ n < thr ∨ pb ∈ (d.mem m).ceDone then d
  else
    let d1 := (d.updMem m fun y => { y with ceDone := y.ceDone ++ [pb] }).raiseMem m .flCeRate .fyCeRate [pb, n]
    if d1.bit (m.fld FL_SCRUBCFG_AUTOEVAC FY_SCRUBCFG_AUTOEVAC) then d1.evacDue m pb else d1

/-- A correction: counted, its address recorded, and counted in its bank (03 R68, R74). -/
def Dev.corrected (d : Dev) (m : Mem) (pb w agent : Nat) : Dev :=
  let d1 := (d.inc (m.fld FL_CECNT_COUNT FY_CECNT_COUNT)).errAddr m pb w 0 agent
  (d1.updMem m fun y => { y with ceCount := mupd 0 y.ceCount pb fun n => min (n + 1) 0xFFFF }).ceRate m pb

/-- An uncorrectable error met: counted and its address recorded (03 R70). -/
def Dev.uncorrected (d : Dev) (m : Mem) (pb w agent : Nat) : Dev :=
  (d.inc (m.fld FL_UECNT_COUNT FY_UECNT_COUNT)).errAddr m pb w 1 agent

/-- Remap entry fields (03 R89). -/
def Mem.remapFld (m : Mem) (xfl xfy : Fld) (n : Nat) : Fld := (m.fld xfl xfy).ix n

/-- The remap entry, if any, that a test on its physical bank and word selects. -/
def Dev.remapOf (d : Dev) (m : Mem) (pb w : Nat) : Option Nat :=
  (List.range m.entries).find? fun n =>
    d.bit (m.remapFld FL_REMAP_VALID FY_REMAP_VALID n) &&
      d.get (m.remapFld FL_REMAP_PBANK FY_REMAP_PBANK n) == pb &&
      d.get (m.remapFld FL_REMAP_WORD FY_REMAP_WORD n) == w

/-- A free remap entry (03 R75). -/
def Dev.remapFree (d : Dev) (m : Mem) : Option Nat :=
  (List.range m.entries).find? fun n => !d.bit (m.remapFld FL_REMAP_VALID FY_REMAP_VALID n)

/-- The budget of free remap entries (03 R89, R90). -/
def Mem.remapBud (m : Mem) : Fld := m.fld FL_SPAREBUD_REMAP FY_SPAREBUD0_REMAP

/-- The budget of spare banks (03 R89, R90). -/
def Mem.bankBud (m : Mem) : Fld := m.fld FL_SPAREBUD_BANKS FY_SPAREBUD0_BANKS

/-- The word that stands for a physical word: that of the remap array once its entry has been carried out (03 R75). -/
def Dev.home (d : Dev) (m : Mem) (pb w : Nat) : Nat × Nat :=
  match d.remapOf m pb w with
  | some n => if d.bit (m.remapFld FL_REMAP_UE FY_REMAP_UE n) then (pb, w) else (m.banks, n)
  | none => (pb, w)

/-- What a read of a physical word by an agent meets: an invalid word is not checked and reads 0, a correctable error is corrected
and counted, an uncorrectable one counted (03 R66, R68, R70, R75). -/
def Dev.readWord (d : Dev) (m : Mem) (pb w agent : Nat) : Dev × WordErr :=
  let p := d.home m pb w
  let i := d.word m p.1 p.2
  if !i.valid then (d, .none)
  else match i.err with
    | .none => (d, .none)
    | .correctable => (d.corrected m pb w agent, .correctable)
    | .uncorrectable => (d.uncorrected m pb w agent, .uncorrectable)

/-- Take remap entry n for a word: awaiting a full write when the word is uncorrectable, otherwise carried out with the corrected
data (03 R73, R75). The event is raised as the entry is taken. [log 141 DESIGN CHOICE] -/
def Dev.remapTake (d : Dev) (m : Mem) (n pb w : Nat) (ue : Bool) : Dev :=
  let d0 := if ue then d else d.setWord m m.banks n { wordInfo0 with valid := true }
  let d1 := (((d0.put (m.remapFld FL_REMAP_VALID FY_REMAP_VALID n) 1).put (m.remapFld FL_REMAP_UE FY_REMAP_UE n)
    (b2n ue)).put (m.remapFld FL_REMAP_PBANK FY_REMAP_PBANK n) pb).put (m.remapFld FL_REMAP_WORD FY_REMAP_WORD n) w
  (d1.useSpare m.region m.remapBud).raiseMem m .flRemap .fyRemap [n, pb, w]

/-- The state of a stored word whose check bits were altered by a mask: no bit leaves it free of error, one bit is
correctable, two bits are detected (03 R64: single-error-correcting, double-error-detecting). More than two altered bits
lie outside what the code promises and are taken as detected. [log 13 DESIGN CHOICE] -/
def maskErr (mask : Nat) : WordErr :=
  match ((List.range 8).filter fun i => bitOf mask i).length with
  | 0 => .none
  | 1 => .correctable
  | _ => .uncorrectable

/-- ECCTEST applies to the next write of the selected word: the altered check bits are stored and shown, and ARM clears
(03 R81). [log 12 DESIGN CHOICE] -/
def Dev.eccWindow (d : Dev) (m : Mem) (pb w : Nat) (dataWord : Nat) : Dev :=
  let arm := m.fld FL_ECCTEST_ARM FY_ECCTEST_ARM
  if d.bit arm && d.get (m.fld FL_ECCTEST_PBANK FY_ECCTEST_PBANK) == pb &&
      d.get (m.fld FL_ECCTEST_WORD FY_ECCTEST_WORD) == w then
    let mask := d.get (m.fld FL_ECCTEST_MASK FY_ECCTEST_MASK)
    let chk := Config.eccCode dataWord ^^^ BitVec.ofNat 8 mask
    let i := d.word m pb w
    ((d.setWord m pb w { i with valid := true, err := maskErr mask, check := chk }).put
      (m.fld FL_ECCRAW_CHECK FY_ECCRAW_CHECK) chk.toNat).put arm 0
  else d

/-- Agent code of a master in FL_ERRADDR or FY_ERRADDR (01 R15; 03 R89, R90). -/
def Mem.agentOf : Mem → Nat → Nat
  | .fl _, n => if n < 2 then 0 else if n < 18 then 1 else if n = 18 then 2 else if n = 19 then 3 else if n = 20 then 4 else 5
  | .fy, n => if n < 2 then n else if n < 4 then 2 else n - 1

/-- What a write leaves where it is performed: the word is valid and free of error, and the test window acts on it; a bank that is
being evacuated takes the write in both places (03 R66, R77, R81). -/
def Dev.stored (d : Dev) (m : Mem) (pb w : Nat) (home : Nat × Nat) (data : Nat) : Dev :=
  let i := d.word m home.1 home.2
  let d1 := (d.setWord m home.1 home.2 { i with valid := true, err := .none, check := 0 }).eccWindow m pb w data
  match (d.mem m).evacTo with
  | some (lb, new) => if d.phys m lb = pb then d1.eccWindow m new w data else d1
  | none => d1

/-- A write to a physical word, resolved by the state it meets; `data` are the 64 bits that it leaves (03 R69). Answers whether the
write is performed; the writer receives E_ECC where it is not. -/
def Dev.writeWord (d : Dev) (m : Mem) (pb w : Nat) (full : Bool) (master data : Nat) : Dev × Bool :=
  let p := d.home m pb w
  let i := d.word m p.1 p.2
  match (if i.valid then i.err else .none) with
  | .none => (d.stored m pb w p data, true)
  | .correctable => ((if full then d else d.corrected m pb w (m.agentOf master)).stored m pb w p data, true)
  | .uncorrectable =>
    if full then
      match d.remapOf m pb w with
      | some n => ((d.put (m.remapFld FL_REMAP_UE FY_REMAP_UE n) 0).stored m pb w (m.banks, n) data, true)
      | none => (d.stored m pb w p data, true)
    else (d.raiseMem m .flEccPartial .fyEccPartial [pb, w, master], false)

end Sys2Proof.Machine
end

