-- ==== Sys2Proof/Machine/Operands.lean ====
section
/-! DEFINITION. The operands of KZL instructions: logic words and where they stand in memory, reads with suite reach and
the Tread's own buffered writes, buffered writes, error calls, and the start and stop of a run (chapters 05, 06, 07). -/

namespace Sys2Proof.Machine

/-! ## Logic words -/

/-- Key of the output-image word of a point. -/
def kQ (n : Nat) : Nat := 0x2000000 + n

/-- Key of the 32 markers of word w. -/
def kM (w : Nat) : Nat := 0x3000000 + w

/-- Key of a point's value as space P writes it. -/
def kP (n : Nat) : Nat := 0x4000000 + n

/-- Key of word j of a timer: 0 ET; 1 STAMP with the flag byte in [31:24] (07 R196). -/
def kT (t j : Nat) : Nat := 0x5000000 + 2 * t + j

/-- Key of word j of a counter: 0 CV; 1 the flag byte in [7:0] (07 R198). -/
def kC (c j : Nat) : Nat := 0x6000000 + 2 * c + j

/-- Key of local word w of a task. -/
def kL (task w : Nat) : Nat := 0x7000000 + 256 * task + w

/-- Bytes of a bank (03 R64). -/
def bankBytes : Nat := 262144

/-- Logical bank and byte in which byte j of a logic word stands: markers, timers and counters of the retained ranges in the retained
area, at whatever byte their range begins, the others in bank 7, point values in their entries (05 R126; 06 R152, R172, R173). -/
def Cfg.placeByte (c : Cfg) (key j : Nat) : Option (Nat × Nat) :=
  let i := key % 2 ^ 24
  let entry (first count before base : Nat) : Nat × Nat :=
    let o := 4 * (i % 2) + j
    if first ≤ i / 2 ∧ i / 2 < first + count then (0, 64 + before + 8 * (i / 2 - first) + o) else (7, base + 8 * (i / 2) + o)
  match key / 2 ^ 24 with
  | 3 =>
    let b := 4 * i + j
    let first := c.retMarkFirst / 8
    some (if first ≤ b ∧ b < first + c.retMarkBytes then (0, 64 + (b - first)) else (7, b))
  | 4 => some (1 + (16 * i + j) / bankBytes, (16 * i + j) % bankBytes)
  | 5 => some (entry c.retTimFirst c.retTims c.retMarkBytes 8192)
  | 6 => some (entry c.retCntFirst c.retCnts (c.retMarkBytes + 8 * c.retTims) 16384)
  | 7 => some (7, 24576 + 4 * i + j)
  | _ => none

/-- The memory word of byte j of a logic word: logical bank and word. -/
def Cfg.place (c : Cfg) (key j : Nat) : Option (Nat × Nat) := (c.placeByte key j).map fun p => (p.1, p.2 / 8)

/-- The memory words of some bytes of a logic word. -/
def Cfg.places (c : Cfg) (key : Nat) (js : List Nat) : List (Nat × Nat) := (js.filterMap (c.place key)).eraseDups

/-- The memory words of n code words from a pc on: the KZL image lies in banks 20 to 23 as it is stored (07 R187; 20 R546). -/
def Cfg.fetchPlaces (c : Cfg) (pc n : Nat) : List (Nat × Nat) :=
  ((List.range n).map fun k =>
    let b := 32 + 48 * c.tasks.length + 8 * c.blocks.length + 4 * (pc + k)
    (20 + b / bankBytes, b % bankBytes / 8)).eraseDups

/-- A byte of flight memory, where the model knows what stands there: point entries, the force table, logic words; elsewhere what the
flight firmware has chosen (04 R573; 05 R126, R142; 06 R152, R172). -/
def Dev.memByte (d : Dev) (f : Flt) (lb b : Nat) : Byte :=
  let x := d.fl f
  let c := d.cfgOf f
  let at_ (key j : Nat) : Byte := BitVec.ofNat 8 ((mget 0 x.lmem key).toNat / 2 ^ (8 * j))
  let pair (k0 b : Nat) : Byte := at_ (k0 + b / 4) (b % 4)
  let free : Byte := BitVec.ofNat 8 ((Config.memWord f.region lb (b / 8)).toNat / 2 ^ (8 * (b % 8)))
  let o1 := 64 + c.retMarkBytes
  let o2 := o1 + 8 * c.retTims
  if 1 ≤ lb ∧ lb ≤ 4 then (x.pt (((lb - 1) * bankBytes + b) / 16)).bytes.getD (b % 16) 0
  else if lb = 5 then ((mget? x.forces (b / 16)).map fun fo => fo.bytes.getD (b % 16) 0).getD 0
  else if lb = 7 then
    if b < 8192 then pair (kM 0) b
    else if b < 16384 then pair (kT 0 0) (b - 8192)
    else if b < 24576 then pair (kC 0 0) (b - 16384) else pair (kL 0 0) (b - 24576)
  else if lb = 0 ∧ 64 ≤ b then
    if b < o1 then pair (kM 0) (c.retMarkFirst / 8 + (b - 64))
    else if b < o2 then pair (kT c.retTimFirst 0) (b - o1)
    else if b < o2 + 8 * c.retCnts then pair (kC c.retCntFirst 0) (b - o2) else free
  else free

/-- The 64 data bits of a word of flight memory (03 R64). [log 12 DESIGN CHOICE] -/
def Dev.memData (d : Dev) (f : Flt) (lb w : Nat) : Nat := unle ((List.range 8).map fun k => d.memByte f lb (8 * w + k))

/-! ## Treads and tasks -/

/-- A Tread of a flight (07 R183). -/
def Dev.tread (d : Dev) (f : Flt) (t : Nat) : Tread := mget Tread.zero (d.fl f).treads t

/-- Change a Tread. -/
def Dev.updTread (d : Dev) (f : Flt) (t : Nat) (g : Tread → Tread) : Dev :=
  d.updFl f fun x => { x with treads := mupd Tread.zero x.treads t g }

/-- Load RLO. -/
def Dev.setRlo (d : Dev) (f : Flt) (t : Nat) (b : Bool) : Dev := d.updTread f t fun r => { r with rlo := b }

/-- Load ACC. -/
def Dev.setAcc (d : Dev) (f : Flt) (t : Nat) (v : W32) : Dev := d.updTread f t fun r => { r with acc := v }

/-- Load ACC and SAT, and set SATS with SAT (07 R193). -/
def Dev.setArith (d : Dev) (f : Flt) (t : Nat) (p : W32 × Bool) : Dev :=
  d.updTread f t fun r => { r with acc := p.1, sat := p.2, sats := r.sats || p.2 }

/-- Record of a task in the program image (06 R160, 05 R137). -/
def Dev.taskRec (d : Dev) (f : Flt) (n : Nat) : TaskRec := mget TaskRec.zero (d.cfgOf f).tasks n

/-- Whether a task is enabled (06 R167). -/
def Dev.taskEn (d : Dev) (f : Flt) (n : Nat) : Bool :=
  let x := if n < 32 then FL_TASKEN0_EN else FL_TASKEN1_EN
  bitOf (d.get (x.at f)) (n % 32)

/-- KIND of a task: 0 CYCLIC, 1 COLD, 2 WARM, 3 ERROR (06 R160). -/
def Dev.taskKind (d : Dev) (f : Flt) (n : Nat) : Nat := d.get ((FL_TASKCFG_KIND.ix n).at f)

/-- Tread of a task (06 R151). -/
def Dev.taskTread (d : Dev) (f : Flt) (n : Nat) : Nat := d.get ((FL_TASKCFG_TREAD.ix n).at f)

/-- The task of a kind that the image holds and that is enabled (06 R160). -/
def Dev.taskOf (d : Dev) (f : Flt) (kind : Nat) : Option Nat :=
  (List.range 64).find? fun n => mhas (d.cfgOf f).tasks n && d.taskKind f n == kind && d.taskEn f n

/-- Instructions that a run of a task may execute (06 R166). -/
def Dev.taskBudget (d : Dev) (f : Flt) (n : Nat) : Nat :=
  let b := d.get ((FL_TASKBUD_BUDGET.ix n).at f)
  (if b = 0 then 65536 else b) * 1024

/-- Kind H faults that a flight reports wait for the next boundary (04 R98, R99). -/
def Dev.report (d : Dev) (f : Flt) (code : Nat) : Dev :=
  d.updNw fun n => { n with faults := n.faults ++ [(f.num, code)] }

/-! ## Error calls (06 R168 to R171) -/

/-- EV_FL_ERRCALL_UNSERVED and the count of a call with no enabled ERROR task (06 R170). -/
def Dev.unserved (d : Dev) (f : Flt) : Dev :=
  let d1 := d.inc (FL_ERRQ_UNSERVED.at f)
  let x := d1.fl f
  if rateOk x.unservedAt x.grid (60 * cycPerSec) then
    (d1.updFl f fun x => { x with unservedAt := some x.grid }).raiseFl f .flErrcallUnserved
      [d1.get (FL_ERRQ_UNSERVED.at f)]
  else d1

/-- Put a call into the queue (06 R168, R170). -/
def Dev.enqueue (d : Dev) (f : Flt) (c : ErrCall) : Dev :=
  match d.taskOf f 3 with
  | none => d.unserved f
  | some _ =>
    let lost := d.get (FL_ERRQ_LOST.at f)
    let d1 :=
      if (d.fl f).errq.length < 256 ∧ lost > 0 then
        let o : ErrCall := ⟨0x21, lost, 0, c.scan, 64⟩
        ((d.updFl f fun x => { x with errq := x.errq ++ [o] }).put (FL_ERRQ_LOST.at f) 0).raiseFl f .flErrqOverflow [lost]
      else d
    let d2 :=
      if (d1.fl f).errq.length < 256 then d1.updFl f fun x => { x with errq := x.errq ++ [c] }
      else d1.inc (FL_ERRQ_LOST.at f)
    d2.put (FL_ERRQ_DEPTH.at f) (d2.fl f).errq.length

/-- A call of phase 1 is queued at once (06 R168). -/
def Dev.call1 (d : Dev) (f : Flt) (code a b : Nat) : Dev :=
  d.enqueue f ⟨code, a, b, ((d.fl f).scan.getD 0) % 2 ^ 32, 64⟩

/-- EV_FL_TASK_FAULT, at most once per task per scan (06 R166). -/
def Dev.taskFault (d : Dev) (f : Flt) (task code : Nat) : Dev :=
  if task ∈ (d.fl f).faulted then d
  else (d.updFl f fun x => { x with faulted := task :: x.faulted }).raiseFl f .flTaskFault [task, code]

/-- A call that a task raises: queued at the barrier of its level; inside the error task no call is raised (06 R168,
R169). -/
def Dev.callTask (d : Dev) (f : Flt) (task code b : Nat) : Dev :=
  let d1 := d.put ((FL_TASKSTAT_FAULT.ix task).at f) (code % 256)
  if d.taskKind f task = 3 then d1
  else
    let c : ErrCall := ⟨code, task, b, ((d.fl f).scan.getD 0) % 2 ^ 32, task⟩
    d1.updFl f fun x => { x with raised := x.raised ++ [c] }

/-! ## Runs -/

/-- Entry block of a task as first word; the block's own number (06 R160, 20 R546). -/
def Dev.blockFirst (d : Dev) (f : Flt) (b : Nat) : Option Nat := ((d.cfgOf f).blocks[b]?).map (·.1)

/-- Start a run of a task on its Tread, every part of the Tread's state at its start value (07 R183). -/
def Dev.startRun (d : Dev) (f : Flt) (t n : Nat) : Dev :=
  let e := (d.taskRec f n).entry
  d.updTread f t fun r => { Tread.zero with
    running := true, halted := r.halted, task := n, block := e, run := r.run + 1
    pc := BitVec.ofNat 18 ((d.blockFirst f e).getD 0) }

/-- Set local word w of a task. -/
def Dev.setLocal (d : Dev) (f : Flt) (task w : Nat) (v : W32) : Dev :=
  d.updFl f fun x => { x with lmem := mset 0 x.lmem (kL task w) v }

/-- The next run of a Tread in the level: the error task once for each served call with L0 to L3 set (06 R169), other
tasks in ascending number (06 R161); with none left the Tread is idle. -/
def Dev.nextRun (d : Dev) (f : Flt) (t : Nat) : Dev :=
  let idle := d.updTread f t fun r => { r with running := false }
  if (d.tread f t).halted then idle
  else if (d.fl f).level = .error then
    match d.taskOf f 3, (d.fl f).calls with
    | some n, c :: rest =>
      if d.taskTread f n = t then
        let d1 := d.updFl f fun x => { x with calls := rest }
        let d2 := (((d1.setLocal f n 0 (BitVec.ofNat 32 c.code)).setLocal f n 1 (BitVec.ofNat 32 c.a)).setLocal f n 2
          (BitVec.ofNat 32 c.b)).setLocal f n 3 (BitVec.ofNat 32 c.scan)
        d2.startRun f t n
      else idle
    | _, _ => idle
  else
    match (d.fl f).todo.find? fun n => d.taskTread f n == t with
    | some n => (d.updFl f fun x => { x with todo := x.todo.filter (· ≠ n) }).startRun f t n
    | none => idle

/-- A run has ended: FL_TASKSTAT shows it and the Tread goes on to its next run (06 R180). -/
def Dev.endRun (d : Dev) (f : Flt) (t : Nat) : Dev :=
  let r := d.tread f t
  let d1 := (d.put ((FL_TASKSTAT_INSTR.ix r.task).at f) (min (r.instrs / 16) 0xFFFF)).put
    ((FL_TASKSTAT_RAN.ix r.task).at f) 1
  d1.nextRun f t

/-- A run stops: its buffered writes are discarded, the call is raised, EV_FL_TASK_FAULT is raised (06 R165, R166). -/
def Dev.stopRun (d : Dev) (f : Flt) (t code b : Nat) : Dev :=
  let r := d.tread f t
  let d1 := d.updFl f fun x => { x with
    wrbuf := x.wrbuf.filter fun e => !(e.tread == t && e.task == r.task && e.run == r.run) }
  ((d1.callTask f r.task code b).taskFault f r.task code).endRun f t

/-- DETFAULT with a fault of kind D; the lowest code stands (04 R92, R99). -/
def FlightSt.detFault (x : FlightSt) (code : Nat) : FlightSt :=
  { x with det := some (match x.det with | some c => min c code | none => code) }

/-- A program fault (07 R202, 06 R166). -/
def Dev.progFault (d : Dev) (f : Flt) (t fault trap : Nat) : Dev :=
  let r := d.tread f t
  (d.updFl f fun x => x.detFault 0x0C).stopRun f t 0x11 (fault + trap % 256 * 256 + r.block % 65536 * 65536)

/-- The Tread halts: a flight fault is reported (03 R70, 04 R99). -/
def Dev.haltTread (d : Dev) (f : Flt) (t : Nat) : Dev :=
  ((d.updTread f t fun r => { r with halted := true, running := false }).updFl f fun x =>
    { x with haltedTreads := x.haltedTreads ++ [t] }).report f 0x04

/-! ## Reads -/

/-- What a Tread's reads of memory words meet: a correctable error is corrected and counted, an uncorrectable one halts the Tread
(03 R68, R70). Answers whether the Tread goes on. -/
def Dev.touchWords (d : Dev) (f : Flt) (t : Nat) : List (Nat × Nat) → Dev × Bool
  | [] => (d, true)
  | (lb, w) :: rest =>
    let r := d.readWord (.fl f) (d.phys (.fl f) lb) w 1
    match r.2 with
    | .uncorrectable => (r.1.haltTread f t, false)
    | _ => r.1.touchWords f t rest

/-- A Tread's read of a logic word. -/
def Dev.touch (d : Dev) (f : Flt) (t key : Nat) : Dev × Bool := d.touchWords f t ((d.cfgOf f).places key (List.range 4))

/-- A Tread's read of both words of a timer or a counter: a retained entry may straddle two memory words (06 R172). -/
def Dev.touchEntry (d : Dev) (f : Flt) (t k0 k1 : Nat) : Dev × Bool :=
  d.touchWords f t ((d.cfgOf f).places k0 (List.range 4) ++ (d.cfgOf f).places k1 (List.range 4)).eraseDups

/-- A Tread's fetch of an instruction and its constant. -/
def Dev.fetchKz (d : Dev) (f : Flt) (t n : Nat) : Dev × Bool := d.touchWords f t ((d.cfgOf f).fetchPlaces (d.tread f t).pc.toNat n)

/-- A word as a task sees it: its own latest buffered writes over what stood when the level began (06 R162). -/
def FlightSt.view (x : FlightSt) (r : Tread) (t key : Nat) (base : W32) : W32 :=
  x.wrbuf.foldl (fun v e =>
    if e.tread = t ∧ e.task = r.task ∧ e.addr = key then (v &&& ~~~e.mask) ||| (e.data &&& e.mask) else v) base

/-- The entry of a point after phase 1 of the scan (06 R164, space I). -/
def FlightSt.ptIn (x : FlightSt) (n : Nat) : Point := mget (x.pt n) x.iOver n

/-- A logic word of markers, timers, counters or locals, as the task sees it. -/
def Dev.logic (d : Dev) (f : Flt) (t key : Nat) : W32 :=
  let x := d.fl f
  x.view (d.tread f t) t key (mget 0 x.lmem key)

/-- The value under a point in space I, Q or P with the task's own writes: what a force hides (05 R140; 06 R164). -/
def Dev.ptOwn (d : Dev) (f : Flt) (t sp n : Nat) : W32 :=
  let x := d.fl f
  let began := if (x.forceOf n).isSome then x.under n else (x.ptIn n).value
  match sp with
  | 1 => began
  | 2 => x.view (d.tread f t) t (kQ n) (mget began x.qimg n)
  | _ => x.view (d.tread f t) t (kP n) (x.under n)

/-- A point's value in space I, Q or P, as the task sees it; a forced point is read by every path as its forced value (05 R140; 06 R164). -/
def Dev.ptVal (d : Dev) (f : Flt) (t sp n : Nat) : W32 :=
  match (d.fl f).forceOf n with
  | some (_, fo) => fo.value
  | none => d.ptOwn f t sp n

/-- Whether a task may read or write a point (05 R137). -/
def Dev.reach (d : Dev) (f : Flt) (task n : Nat) (write : Bool) : Bool :=
  let p := (d.fl f).pt n
  p.cls ≠ 0 && ((d.taskRec f task).mask.getLsbD p.suite || (!write && stCommon p.status))

/-- A suite violation (05 R137, R149, R150; 06 R169, R171). -/
def Dev.violate (d : Dev) (f : Flt) (t sp n : Nat) : Dev :=
  let task := (d.tread f t).task
  let d1 := d.inc (FL_SUITEVIOL_TREAD.at f)
  if d.taskKind f task = 3 then (d1.callTask f task 0x10 0).taskFault f task 0x10
  else if task ∈ (d.fl f).viol then d1
  else
    let d2 := d1.updFl f fun x => { x with viol := task :: x.viol }
    let p := (d.fl f).pt n
    (d2.callTask f task 0x10 (sp * 65536 + n)).raiseFl f .flSuiteViol [task, n, sp]
      (if p.cls = 0 then none else some p.suite)

/-- Read of a point by a task: 0 outside its reach (05 R137). Answers the machine, the value, and whether the Tread
goes on. -/
def Dev.readPt (d : Dev) (f : Flt) (t sp n : Nat) (val : Dev → W32) : Dev × W32 × Bool :=
  if d.reach f (d.tread f t).task n false then
    let p := if sp = 2 then (d, true) else d.touch f t (kP n)
    (p.1, val d, p.2)
  else (d.violate f t sp n, 0, true)

/-- Read of a memory logic word. -/
def Dev.readLogic (d : Dev) (f : Flt) (t key : Nat) (g : W32 → W32) : Dev × W32 × Bool :=
  let p := d.touch f t key
  (p.1, g (d.logic f t key), p.2)

/-- A word operand (07 R185, R186). -/
def Dev.kzWordVal (d : Dev) (f : Flt) (t sp addr : Nat) (k : W32) : Dev × W32 × Bool :=
  match sp with
  | 0 => (d, k, true)
  | 1 | 2 | 4 => d.readPt f t sp (addr / 32) fun d => d.ptVal f t sp (addr / 32)
  | 3 => d.readLogic f t (kM (addr / 32)) id
  | 5 => d.readLogic f t (kT addr 0) id
  | 6 => d.readLogic f t (kC addr 0) id
  | 7 => d.readLogic f t (kL (d.tread f t).task (addr / 32)) id
  | _ => (d, (d.tread f t).acc2, true)

/-- Bit n of a word as a word of one bit. -/
def bitW (v : W32) (n : Nat) : W32 := if v.getLsbD n then 1 else 0

/-- A flag bit of space F (07 R186). -/
def Dev.kzFlag (d : Dev) (f : Flt) (t n : Nat) : Bool :=
  let r := d.tread f t
  match n with
  | 0 => r.sat
  | 1 => r.sats
  | 2 => r.acc == 0
  | 3 => r.acc.msb
  | _ => (d.fl f).scan == some 0

/-- A bit operand (07 R185, R186): the timer's Q is bit 2 of its flag byte, the counter's bit 2 of its own. -/
def Dev.kzBitVal (d : Dev) (f : Flt) (t sp addr : Nat) : Dev × Bool × Bool :=
  let r : Dev × W32 × Bool :=
    match sp with
    | 0 => (d, BitVec.ofNat 32 addr, true)
    | 1 | 2 | 4 => d.readPt f t sp (addr / 32) fun d => bitW (d.ptVal f t sp (addr / 32)) (addr % 32)
    | 3 => d.readLogic f t (kM (addr / 32)) fun v => bitW v (addr % 32)
    | 5 => d.readLogic f t (kT addr 1) fun v => bitW v 26
    | 6 => d.readLogic f t (kC addr 1) fun v => bitW v 2
    | 7 => d.readLogic f t (kL (d.tread f t).task (addr / 32)) fun v => bitW v (addr % 32)
    | _ => (d, if d.kzFlag f t addr then 1 else 0, true)
  (r.1, r.2.1.getLsbD 0, r.2.2)

/-- The status of a point in space I, Q or P (07 R192, R199). -/
def Dev.ptSt (d : Dev) (f : Flt) (sp n : Nat) : BitVec 16 :=
  if sp = 1 then ((d.fl f).ptIn n).status else ((d.fl f).pt n).status

/-! ## Writes -/

/-- Entries that a Tread's write buffer holds: repeated writes by one task to one word share one, whichever of its runs made them
(06 R165). -/
def FlightSt.bufUsed (x : FlightSt) (t : Nat) : Nat := ((x.wrbuf.filter (·.tread == t)).map fun e => (e.task, e.addr)).eraseDups.length

/-- A buffered write. What each run of a task wrote is kept apart, since a run that stops loses its own writes alone; an entry that the task
holds for the word takes no further room; a full buffer stops the task, and the calls of the error task go back to the queue (06 R162,
R165). [log 53 DEDUCED] -/
def Dev.bufWrite (d : Dev) (f : Flt) (t key : Nat) (mask data : W32) (k : Dev → Dev) : Dev :=
  let r := d.tread f t
  let x := d.fl f
  let mine (e : WrEntry) : Bool := e.tread == t && e.task == r.task && e.run == r.run && e.addr == key
  if x.wrbuf.any mine then
    let merge (e : WrEntry) : WrEntry :=
      if mine e then { e with mask := e.mask ||| mask, data := (e.data &&& ~~~mask) ||| (data &&& mask) } else e
    k (d.updFl f fun x => { x with wrbuf := x.wrbuf.map merge })
  else if x.bufUsed t < 4096 ∨ (x.wrbuf.any fun e => e.tread == t && e.task == r.task && e.addr == key) then
    let e : WrEntry := ⟨t, r.task, r.run, key, mask, data &&& mask⟩
    k (d.updFl f fun x => { x with wrbuf := x.wrbuf ++ [e] })
  else
    let back := if d.taskKind f r.task = 3 then x.calls ++ x.errq else x.errq
    let d1 := (d.updFl f fun x => { x with errq := back, calls := if d.taskKind f r.task = 3 then [] else x.calls }).put
      (FL_ERRQ_DEPTH.at f) back.length
    d1.stopRun f t 0x13 t

/-- A full mask. [log 53 DEDUCED] -/
def fullMask : W32 := 0xFFFFFFFF

/-- Write a point's value through Q or P, brought into its class range (06 R164, 07 R191; 05 R137). -/
def Dev.kzPutPt (d : Dev) (f : Flt) (t sp n : Nat) (v : W32) (k : Dev → Dev) : Dev :=
  if d.reach f (d.tread f t).task n true then
    d.bufWrite f t (if sp = 2 then kQ n else kP n) fullMask (clsRange ((d.fl f).pt n).cls v) k
  else k (d.violate f t sp n)

/-- The bytes that a mask names. -/
def maskBytes (mask : W32) : List Nat := (List.range 4).filter fun j => bitsOf mask.toNat (8 * j + 7) (8 * j) ≠ 0

/-- The data bits of a memory word after a write of some bits of a logic word. -/
def Dev.dataAfter (d : Dev) (f : Flt) (lb w key : Nat) (mask data : W32) : Nat :=
  let old := unle ((List.range 8).map fun k => d.memByte f lb (8 * w + k))
  (maskBytes mask).foldl (fun v j => match (d.cfgOf f).placeByte key j with
    | some (b, o) => if b = lb ∧ o / 8 = w then
        let m := bitsOf mask.toNat (8 * j + 7) (8 * j)
        let was := bitsOf v (8 * (o % 8) + 7) (8 * (o % 8))
        putBits v (8 * (o % 8) + 7) (8 * (o % 8)) ((was - (was &&& m)) ||| (bitsOf data.toNat (8 * j + 7) (8 * j) &&& m))
      else v
    | none => v) old

/-- A partial write of a logic word by a master: every memory word that it touches is written or refused by itself. Answers the mask
of the bits written (03 R69). -/
def Dev.writeLogic (d : Dev) (f : Flt) (key : Nat) (mask data : W32) (master : Nat) : Dev × W32 :=
  let c := d.cfgOf f
  let js := maskBytes mask
  (c.places key js).foldl (fun (p : Dev × W32) (pl : Nat × Nat) =>
    let r := p.1.writeWord (.fl f) (p.1.phys (.fl f) pl.1) pl.2 false master (p.1.dataAfter f pl.1 pl.2 key mask data)
    let y := r.1.updFl f fun x => { x with pages := insIx (64 * pl.1 + pl.2 / 512) x.pages }
    if r.2 then (y, p.2)
    else (r.1, (js.filter fun j => c.place key j == some pl).foldl (fun m j => m &&& ~~~(BitVec.ofNat 32 (0xFF * 2 ^ (8 * j)))) p.2)) (d, mask)

/-- Write a local word at once (06 R162), as a partial write of its memory word (03 R69). -/
def Dev.putLocal (d : Dev) (f : Flt) (t w : Nat) (v : W32) : Dev :=
  let key := kL (d.tread f t).task w
  let p := d.writeLogic f key fullMask v (t + 2)
  p.1.updFl f fun x => { x with lmem := mset 0 x.lmem key ((mget 0 x.lmem key &&& ~~~p.2) ||| (v &&& p.2)) }

/-- A word with one bit replaced. -/
def setBitW (v : W32) (n : Nat) (b : Bool) : W32 :=
  let m : W32 := BitVec.ofNat 32 (2 ^ n)
  if b then v ||| m else v &&& ~~~m

/-- Write one bit of Q, P, M or L; at a forced point the bit changes in the value that the write updates, the underlying one (05 R140;
07 R190, R191). [log 53 DEDUCED] -/
def Dev.kzPutBit (d : Dev) (f : Flt) (t sp addr : Nat) (b : Bool) (k : Dev → Dev) : Dev :=
  match sp with
  | 3 =>
    let m : W32 := BitVec.ofNat 32 (2 ^ (addr % 32))
    d.bufWrite f t (kM (addr / 32)) m (if b then m else 0) k
  | 7 => k (d.putLocal f t (addr / 32) (setBitW (d.logic f t (kL (d.tread f t).task (addr / 32))) (addr % 32) b))
  | _ => d.kzPutPt f t sp (addr / 32) (setBitW (d.ptOwn f t sp (addr / 32)) (addr % 32) b) k

/-- Write a word of Q, P, M or L (07 R192). -/
def Dev.kzPutWord (d : Dev) (f : Flt) (t sp addr : Nat) (v : W32) (k : Dev → Dev) : Dev :=
  match sp with
  | 3 => d.bufWrite f t (kM (addr / 32)) fullMask v k
  | 7 => k (d.putLocal f t (addr / 32) v)
  | _ => d.kzPutPt f t sp (addr / 32) v k

/-- Write both words of a timer or a counter through the write buffer (07 R198). -/
def Dev.kzPutEntry (d : Dev) (f : Flt) (t k0 k1 : Nat) (v0 v1 : W32) (k : Dev → Dev) : Dev :=
  d.bufWrite f t k0 fullMask v0 fun d => d.bufWrite f t k1 fullMask v1 k

/-! ## One instruction -/

/-- The active flight's tasks wait during the freeze of a stair transfer (04 R111). -/
def Dev.frozen (d : Dev) (f : Flt) : Bool := d.get NW_STAIRSTAT_PHASE == 3 && d.active == some f

/-- Opcode, space and address of a word (07 R184). -/
def kzParts (w : W32) : Nat × Nat × Nat := (bitsOf w.toNat 31 25, bitsOf w.toNat 24 21, bitsOf w.toNat 20 0)

/-- First words of the instructions of a block: `n` words from `at` on; none where a constant runs past the end. -/
def kzStarts (code : Nat → W32) : Nat → Nat → Nat → Option (List Nat)
  | _, _, 0 => some []
  | 0, _, _ => none
  | fuel + 1, a, n + 1 =>
    let p := kzParts (code a)
    if kzHasConst p.1 p.2.1 then
      match n with
      | 0 => none
      | k + 1 => (kzStarts code fuel (a + 2) k).map (a :: ·)
    else (kzStarts code fuel (a + 1) n).map (a :: ·)

/-- Whether the image holds what a jump or a call names: the first word of an instruction of the same block, or a block (07 R187). -/
def Dev.kzTarget (d : Dev) (f : Flt) (t op addr : Nat) : Bool :=
  let c := d.cfgOf f
  let r := d.tread f t
  if 0x58 ≤ op ∧ op ≤ 0x5C then
    match c.blocks[r.block]? with
    | none => false
    | some b =>
      let to_ := (((r.pc.toNat + 1 : Nat) : Int) + signed 21 addr)
      match kzStarts (fun k => mget 0 c.code k) b.2 b.1 b.2 with
      | some l => decide (0 ≤ to_) && l.contains to_.toNat
      | none => false
  else if 0x60 ≤ op ∧ op ≤ 0x61 then (d.blockFirst f addr).isSome
  else true

/-- One instruction of a Tread: outside a freeze, only a running Tread with budget left executes it; PC passes the instruction and its
constant, the instruction counts once, and an encoding that R187 refuses is fault ILLEGAL (07 R184, R202; 06 R166). [log 52 DESIGN CHOICE; 124 DESIGN CHOICE] -/
def Dev.kzStep (d : Dev) (f : Flt) (t op sp addr : Nat) (g : Dev → Dev) : Dev :=
  let r := d.tread f t
  if d.frozen f || !r.running || r.halted || decide (d.taskBudget f r.task ≤ r.instrs) then d
  else
    let n := if kzHasConst op sp then 2 else 1
    let p := d.fetchKz f t n
    if !p.2 then p.1
    else
      let d1 := p.1.updTread f t fun r => { r with pc := r.pc + BitVec.ofNat 18 n, instrs := r.instrs + 1 }
      if kzLegal op sp addr && d.kzTarget f t op addr then g d1 else d1.progFault f t 0x06 0

end Sys2Proof.Machine
end

