-- ==== Sys2Proof/Machine/Redundancy.lean ====
section
/-! DEFINITION. Flight states, failure, quarantine, promotion, planned switch-over and stair transfer (chapter 04). -/

namespace Sys2Proof.Machine

/-! ## Fields that name a flight -/

/-- Fields of NW_FAULTA and NW_FAULTB. -/
def nwFault (f : Flt) (x : Fld) : Fld := match f with | .a => x | .b => { x with key := x.key + 4 }

/-- REASONA or REASONB. -/
def nwReason : Flt → Fld
  | .a => NW_QUAR_REASONA
  | .b => NW_QUAR_REASONB

/-- QA or QB. -/
def nwQuar : Flt → Fld
  | .a => NW_QUAR_QA
  | .b => NW_QUAR_QB

/-- Cycles of a flight's entries into FAILED within the window of R118. -/
def NewelSt.hist (n : NewelSt) : Flt → List Nat
  | .a => n.histA
  | .b => n.histB

/-- Signalled commit sets of a flight. -/
def NewelSt.sig (n : NewelSt) : Flt → List CommitSet
  | .a => n.sigA
  | .b => n.sigB

/-- Change a flight's signalled commit sets. -/
def NewelSt.updSig (n : NewelSt) (f : Flt) (g : List CommitSet → List CommitSet) : NewelSt :=
  match f with
  | .a => { n with sigA := g n.sigA }
  | .b => { n with sigB := g n.sigB }

/-- Start of a flight's retry delay. -/
def NewelSt.retry (n : NewelSt) : Flt → Option Nat
  | .a => n.retryA
  | .b => n.retryB

/-- Set the start of a flight's retry delay. -/
def NewelSt.setRetry (n : NewelSt) (f : Flt) (c : Option Nat) : NewelSt :=
  match f with
  | .a => { n with retryA := c }
  | .b => { n with retryB := c }

/-- Whether a flight is held in RESET for the update manager. -/
def NewelSt.held (n : NewelSt) : Flt → Bool
  | .a => n.heldA
  | .b => n.heldB

/-- Hold or release a flight in RESET. -/
def NewelSt.setHeld (n : NewelSt) (f : Flt) (b : Bool) : NewelSt :=
  match f with
  | .a => { n with heldA := b }
  | .b => { n with heldB := b }

/-! ## Flight states -/

/-- Flights compared: one ACTIVE, the other STANDBY (04 R96). -/
def Dev.pair (d : Dev) : Option (Flt × Flt) :=
  match d.active with
  | some f => if d.fst f.other = fsStandby then some (f, f.other) else none
  | none => none

/-- R116: the two flights' firmware declares different digest epochs. -/
def Dev.uncompared (d : Dev) : Bool := d.pair.isSome && d.nw.epochA != d.nw.epochB

/-- Show ACTIVE, ACTV, UNCOMPARED, STAIR and MODE (04 R123). -/
def Dev.nwStat (d : Dev) : Dev :=
  let act := d.active
  let mode := if act.isSome then (if d.pair.isSome && !d.uncompared then 1 else 2)
    else if msServes d.nw.modState then 3 else 0
  ((((d.put NW_STAT_ACTIVE ((act.map Flt.num).getD 0)).put NW_STAT_ACTV (b2n act.isSome)).put NW_STAT_UNCOMPARED
    (b2n d.uncompared)).put NW_STAT_STAIR (b2n d.nw.stair.isSome)).put NW_STAT_MODE mode

/-- A flight changes state, which raises EV_NW_FLIGHT_STATE (04 R117). -/
def Dev.setFl (d : Dev) (f : Flt) (new : Nat) : Dev :=
  let old := d.fst f
  if old = new then d
  else ((d.put (nwStateFld f) new).raiseNw (.mk' .nwFlightState [f.num, old, new])).nwStat

/-- A request of NW_SWCTL ends: DONE is set and RESULT holds the code (04 R577). -/
def Dev.swctlDone (d : Dev) (test : Bool) (target result : Nat) : Dev :=
  ((d.put NW_SWCTL_DONE 1).put NW_SWCTL_RESULT result).raiseNw (.mk' .nwSwctlDone [b2n test, target, result])

/-- The switch-over in progress is given up or done; the accepted request behind it, if there is one, ends with a code and BUSY
clears (04 R577, R109). [log 25 DESIGN CHOICE] -/
def Dev.planEnds (d : Dev) (result : Nat) : Dev :=
  let d1 := d.updNw fun n => { n with plan := none, switching := none, quarAfter := none }
  match d.nw.plan with
  | none => d1
  | some r => (d1.put NW_SWCTL_BUSY 0).swctlDone r.test r.target result

/-- A flight is quarantined (04 R118): reason 1 to 5. -/
def Dev.quarantine (d : Dev) (f : Flt) (reason : Nat) : Dev :=
  (((d.setFl f fsQuarantined).put (nwQuar f) 1).put (nwReason f) reason).raiseNw (.mk' .nwQuarantine [f.num, reason])

/-- Newel cycles in 24 h (04 R118). -/
def dayCycles : Nat := 345600000

/-- Entries into FAILED that still lie in the window. -/
def Dev.dayHist (d : Dev) (f : Flt) : List Nat := (d.nw.hist f).filter fun c => d.nw.cycle < c + dayCycles

/-- DAY of a flight whose oldest entry has left the window (04 R123). -/
def Dev.dayFalls (d : Dev) (f : Flt) : Dev :=
  let h := d.dayHist f
  if h.length = (d.nw.hist f).length then d
  else (d.updNw fun n => match f with
    | .a => { n with histA := h }
    | .b => { n with histB := h }).put (nwFault f NW_FAULTA_DAY) h.length

/-- Record an entry into FAILED: the code, the count in the window and the total (04 R118, R123). -/
def Dev.recordFail (d : Dev) (f : Flt) (code : Nat) : Dev :=
  let h := (d.dayHist f ++ [d.nw.cycle])
  let h3 := h.drop (h.length - 3)
  let d1 := d.updNw fun n => match f with
    | .a => { n with histA := h3 }
    | .b => { n with histB := h3 }
  ((d1.put (nwFault f NW_FAULTA_CODE) code).put (nwFault f NW_FAULTA_DAY) h3.length).inc (nwFault f NW_FAULTA_TOTAL)

/-- Registers that a transfer copies: those of the flight but its memory-integrity registers, latches excepted, and but the maps of its own
spare Tread and cells (04 R94, R111). [log 144 DESIGN CHOICE] -/
def stairReg (k : Nat) : Bool :=
  k / 2 ^ 24 == 3 && (k % 2 ^ 24 < 0x3000 || 0x3100 ≤ k % 2 ^ 24) && k != FL_TREADMAP && k != FL_ENFCELLMAP

/-- A flight leaves operation for RESET or TESTING: what it holds is given up, its memory-integrity state apart (03 R78,
04 R117); an evacuation or bank test in progress ends with E_SEQ. [log 141 DESIGN CHOICE] -/
def Dev.flReset (d : Dev) (f : Flt) : Dev :=
  let d0 := if d.bit (FL_EVAC_BUSY.at f) then ((d.put (FL_EVAC_BUSY.at f) 0).put (FL_EVAC_DONE.at f) 1).put (FL_EVAC_RESULT.at f) E_SEQ else d
  let d1 := d0.updFl f fun x => { FlightSt.empty with
    words := x.words, ceCount := x.ceCount, retired := x.retired, ranges := x.ranges, ceDone := x.ceDone }
  { d1 with regs := d1.regs.filter fun e => !(stairReg (e.1 - f.num * 2 ^ 24) && e.1 / 2 ^ 24 == 3 + f.num) }

/-- The stair transfer in progress ends with an outcome (04 R112). -/
def Dev.stairEnds (d : Dev) (result : Nat) : Dev :=
  (((d.updNw fun n => { n with stair := none, verifyQ := [] }).put NW_STAIRSTAT_PHASE 0).put
    NW_STAIRSTAT_RESULT result).nwStat

/-- EV_NW_FLIGHT_FAULT and the state FAILED (04 R100, R118): a self-test failure, a third entry in 24 h and a third
abandonment lead on to QUARANTINED while QEN is 1. [log 19 DESIGN CHOICE] -/
def Dev.failFl (d : Dev) (f : Flt) (code : Nat) : Dev :=
  let scan : Nat := ((d.fl f).scan.getD 0) % 2 ^ 32
  let d1 := (d.recordFail f code).raiseNw (.mk' .nwFlightFault [f.num, code, scan])
  let d2 := match d1.nw.stair with
    | some st => if st.flight = f.num then d1.stairEnds E_SEQ else d1
    | none => d1
  let d3 := ((d2.setFl f fsFailed).updNw fun n => (n.setRetry f (some n.cycle)).updSig f fun _ => []).updNw fun n =>
    { n with faults := n.faults.filter fun e => e.1 ≠ f.num }
  let qen := d3.bit NW_REPAIRCFG_QEN
  if qen && code == 0x0E then d3.quarantine f 1
  else if qen && code == 0x11 then d3.quarantine f 3
  else if qen && (d3.nw.hist f).length == 3 then d3.quarantine f 2
  else d3

/-- The joining flight of an abandoned transfer: RESET for a first or second abandonment in a row, FAILED with code
0x11 for the third (04 R112, R117). -/
def Dev.stairAbandon (d : Dev) (result : Nat) : Dev :=
  match d.nw.stair with
  | none => d
  | some st =>
    let f := Flt.ofNum st.flight
    let tries := min (d.get NW_STAIRSTAT_TRIES + 1) 3
    let d1 := ((d.stairEnds result).put NW_STAIRSTAT_TRIES tries).raiseNw (.mk' .nwStairAbandoned [f.num, tries])
    if tries = 3 then d1.failFl f 0x11
    else ((d1.flReset f).setFl f fsReset).updNw fun n => n.setRetry f (some n.cycle)

/-- A flight is lost or repaired: SERVICE goes to DEGRADED, or back when no spare budget is exhausted (02 R54). -/
def Dev.modFollows (d : Dev) : Dev :=
  if d.nw.modState = msService ∧ d.pair.isNone then d.fieldMod msDegraded
  else if d.nw.modState = msDegraded ∧ d.pair.isSome ∧ !d.fieldBudgetOut then d.fieldMod msService
  else d

/-- No flight remains ACTIVE: the commit gate closes and the module enters FAILSAFE (04 R119). -/
def Dev.bothLost (d : Dev) : Dev :=
  let d1 := (d.updNw fun n => { n with gate := false, fetch := none, early := none }).raiseNw (.mk' .nwBothLost [])
  let d2 := d1.planEnds E_SEQ
  if d2.nw.modState = msService ∨ d2.nw.modState = msDegraded then d2.fieldMod msFailsafe
  else if d2.nw.modState = msLoading then d2.fieldMod msHold
  else d2

/-- Whether a scan has not yet been committed (04 R95). -/
def NewelSt.uncommitted (n : NewelSt) (scan : Nat) : Bool := match n.lastScan with
  | none => true
  | some l => decide (l < scan)

/-- Promotion of the standby flight: its commit set of the oldest uncommitted scan is fetched when its digest is present
(04 R95, R105, R113). -/
def Dev.promote (d : Dev) (f : Flt) (code : Nat) : Dev :=
  let d1 := d.planEnds E_SEQ
  let d2 := d1.setFl f fsActive
  let d3 := ((((d2.put NW_SWSTAT_FROM f.other.num).put NW_SWSTAT_PLANNED 0).put NW_SWSTAT_CAUSE code).put NW_SWSTAT_LAT 0).inc
    NW_SWCNT_FAILOVER
  (d3.updNw fun n => n.updSig f fun l => l.filter fun c => n.uncommitted c.scan).updNw fun n => { n with
    early := none, matched := 0, recogAt := some n.cycle, promoted := some code
    fetch := match (n.sig f).head? with
      | some cs => if cs.signalAt < n.cycle then some (f.num, cs) else none
      | none => none }

/-- A start whose flights have both failed before the first is ACTIVE is abandoned (02 R48, R54). -/
def Dev.startLost (d : Dev) : Dev :=
  let lost (f : Flt) : Bool := decide (d.fst f ∈ [fsAbsent, fsFailed, fsQuarantined])
  if d.nw.modState = msLoading ∧ lost .a ∧ lost .b then
    (d.updNw fun n => { n with gate := false, fetch := none, early := none }).fieldMod msHold
  else d

/-- What follows the failure of flights at one boundary (04 R105, R108, R109). -/
def Dev.afterFail (d : Dev) (wasActive : Option Flt) (code : Nat) : Dev :=
  match wasActive with
  | none => d.startLost
  | some f =>
    if d.fst f = fsActive then
      -- the standby has failed: a planned switch-over before its commit is abandoned
      (if d.fst f.other ≠ fsStandby ∧ d.nw.switching.isSome then d.planEnds E_SEQ else d).modFollows
    else
      let d1 := d.updNw fun n => { n with fetch := none }
      let d2 := if d1.nw.stair.isSome then d1.stairAbandon E_SEQ else d1
      if d2.fst f.other = fsStandby then (d2.promote f.other code).modFollows else d2.bothLost

/-- Failures that are recognised at one boundary: every flight named fails, then the active one is replaced or lost (04 R109). -/
def Dev.failAll (d : Dev) (l : List (Flt × Nat)) : Dev :=
  let act := d.active
  (l.foldl (fun (d : Dev) e => d.failFl e.1 e.2) d).afterFail act
    (((l.find? fun e => decide (some e.1 = act)).map (·.2)).getD 0)

/-- Failure of one flight, with all that follows. -/
def Dev.failOne (d : Dev) (f : Flt) (code : Nat) : Dev := d.failAll [(f, code)]

/-! ## Planned switch-over and tests (04 R114, R115, R577) -/

/-- What the former active flight, or a flight taken by a test, does (04 R114): TESTING or RESET with code 0x12. -/
def Dev.takeOut (d : Dev) (f : Flt) (after : Nat) : Dev :=
  match after with
  | 1 => (((d.flReset f).put (nwFault f NW_FAULTA_CODE) 0x12).setFl f fsTesting).modFollows
  | 2 => ((((d.flReset f).put (nwFault f NW_FAULTA_CODE) 0x12).setFl f fsReset).updNw fun n => n.setHeld f true).modFollows
  | _ => d

/-- Whether a planned switch-over is performed (04 R114). -/
def Dev.planOk (d : Dev) : Bool := d.pair.isSome && d.nw.matched == 16 && d.nw.stair.isNone

/-- A request refused at once; an accepted one in progress stays BUSY (04 R577). -/
def Dev.planRefused (d : Dev) (test : Bool) (target code : Nat) : Dev × Nat := (d.swctlDone test target code, code)

/-- NW_SWCTL.PLAN (04 R114). Answers the status of the REPLY. -/
def Dev.planSwitch (d : Dev) (after : Nat) : Dev × Nat :=
  let target := d.get NW_SWCTL_TARGET
  if d.bit NW_SWCTL_BUSY || !d.planOk then d.planRefused false target E_BUSY_SERVICE
  else
    let r : PlanReq := ⟨false, target, if after = 3 then 0 else after⟩
    ((d.updNw fun n => { n with plan := some r, switching := some r }).put NW_SWCTL_BUSY 1, E_OK)

/-- NW_SWCTL.TEST (04 R115). Answers the status of the REPLY. [log 26 DESIGN CHOICE] -/
def Dev.planTest (d : Dev) (target : Flt) (force : Bool) : Dev × Nat :=
  if d.bit NW_SWCTL_BUSY || d.pair.isNone then d.planRefused true target.num E_BUSY_SERVICE
  else if d.fst target = fsStandby then
    let r : PlanReq := ⟨true, target.num, 1⟩
    (((d.updNw fun n => { n with plan := some r }).put NW_SWCTL_BUSY 1).takeOut target 1, E_OK)
  else if force && d.planOk then
    let r : PlanReq := ⟨true, target.num, 1⟩
    ((d.updNw fun n => { n with plan := some r, switching := some r }).put NW_SWCTL_BUSY 1, E_OK)
  else d.planRefused true target.num E_BUSY_SERVICE

/-- The planned switch-over takes place with the commit of a scan: later scans come from the other flight (04 R114). -/
def Dev.switchOver (d : Dev) : Dev :=
  match d.nw.switching, d.pair with
  | some r, some (f, g) =>
    let quar := d.nw.quarAfter
    let d1 := (d.put (nwStateFld f) fsStandby).put (nwStateFld g) fsActive
    let d2 := (((d1.raiseNw (.mk' .nwFlightState [f.num, fsActive, fsStandby])).raiseNw
      (.mk' .nwFlightState [g.num, fsStandby, fsActive])).raiseNw
      (.mk' .nwPlannedSwitch [f.num, g.num])).nwStat
    let d3 := ((((d2.put NW_SWSTAT_FROM f.num).put NW_SWSTAT_PLANNED 1).put NW_SWSTAT_CAUSE 0).put NW_SWSTAT_LAT 0).inc
      NW_SWCNT_PLANNED
    let d4 := d3.planEnds E_OK
    match quar with
    | some reason => ((d4.quarantine f reason).updNw fun n => n.updSig f fun _ => []).modFollows
    | none => d4.takeOut f r.after
  | _, _ => d

/-! ## Quarantine by the operator (04 R117, R118, R123) -/

/-- NW_QUAR.SETA or SETB (04 R117). Answers the status of the REPLY. [log 25 DESIGN CHOICE; 139 DESIGN CHOICE] -/
def Dev.quarSet (d : Dev) (f : Flt) (restore : Bool) : Dev × Nat :=
  let reason := if restore then 5 else 4
  let st := d.fst f
  if st = fsAbsent ∨ st = fsQuarantined then (d, E_OK)
  else if st = fsActive then
    if d.fst f.other = fsStandby then
      (d.updNw fun n => { n with switching := some (n.switching.getD ⟨false, f.num, 0⟩), quarAfter := some reason }, E_OK)
    else (d, E_BUSY_SERVICE)
  else
    let d1 := match d.nw.stair with
      | some s => if s.flight = f.num then
          (d.stairEnds E_SEQ).raiseNw (.mk' .nwStairAbandoned [f.num, d.get NW_STAIRSTAT_TRIES]) else d
      | none => d
    let d2 := (d1.quarantine f reason).updNw fun n => n.updSig f fun _ => []
    ((if d2.nw.switching.isSome then d2.planEnds E_SEQ else d2).modFollows.startLost, E_OK)

/-- NW_QUAR.RELA or RELB (04 R117): back to RESET, where repair may start. -/
def Dev.quarRelease (d : Dev) (f : Flt) : Dev × Nat :=
  if d.fst f ≠ fsQuarantined then (d, E_OK)
  else
    (((((d.put (nwQuar f) 0).put (nwReason f) 0).setFl f fsReset).raiseNw (.mk' .nwQuarRelease [f.num])).updNw fun n =>
      n.setRetry f (some n.cycle), E_OK)

/-! ## Stair transfer (04 R110 to R112) -/

/-- A transfer starts to a flight in SYNCING while the other is ACTIVE (04 R110 step 1). -/
def Dev.stairStart (d : Dev) (f : Flt) : Dev :=
  (((((d.bothFl fun f d => d.updFl f fun x => { x with pages := [] }).updNw fun n => { n with stair := some ⟨f.num, 0, 0, 0⟩ }).put NW_STAIRSTAT_PHASE 1).put NW_STAIRSTAT_ROUND 0).raiseNw
    (.mk' .nwStairStart [f.num])).nwStat

/-- The register image of the active flight in the joining one (04 R111). -/
def Dev.copyRegs (d : Dev) (src dst : Flt) : Dev :=
  let keys := d.regs.filter fun e => stairReg (e.1 - src.num * 2 ^ 24)
  let gone : Dev := { d with regs := d.regs.filter fun e => !(stairReg (e.1 - dst.num * 2 ^ 24) && e.1 / 2 ^ 24 == 3 + dst.num) }
  keys.foldl (fun d e => d.wr (e.1 - src.num * 2 ^ 24 + dst.num * 2 ^ 24) e.2) gone

/-- What the joining flight holds after the freeze: the active flight's state, its own frames and memory-integrity
state apart (04 R71, R110, R111). [log 126 DESIGN CHOICE] -/
def FlightSt.joinFrom (own act : FlightSt) : FlightSt :=
  { act with
    frames := own.frames, nextNo := own.nextNo, frameBad := false, lastBatch := own.lastBatch
    words := own.words, ceCount := own.ceCount, evacTo := own.evacTo, memWait := own.memWait
    evacTest := own.evacTest, testing := own.testing, retired := own.retired, ranges := own.ranges, ceDone := own.ceDone
    evacWait := own.evacWait, haltedTreads := [], pages := [] }

/-- The words of logical banks 0 to 29 are those of the active flight: valid where they are valid there, and uncorrectable where they
are uncorrectable there (03 R70, R71; 04 R110, R111). -/
def Dev.copyValid (d : Dev) (src dst : Flt) : Dev :=
  let ms := Mem.fl src
  let mt := Mem.fl dst
  let banks := (List.range 30).map fun lb => (d.phys ms lb, d.phys mt lb)
  let dest (pb : Nat) : Option Nat := (banks.find? fun e => e.1 == pb).map (·.2)
  let own (pb : Nat) : Bool := banks.any fun e => e.2 == pb
  let d1 := d.updMem mt fun y => { y with
    words := y.words.filter fun e => !own (e.1 / bankWords)
    ranges := (y.ranges.filter fun e => !own e.1) ++ (d.mem ms).ranges.filterMap fun e => (dest e.1).map fun pb => (pb, e.2) }
  (d.mem ms).words.foldl (fun (d : Dev) e => match dest (e.1 / bankWords) with
    | some pb => d.setWord mt pb (e.1 % bankWords) { wordInfo0 with
        valid := e.2.valid, err := if e.2.valid && e.2.err == .uncorrectable then .uncorrectable else .none }
    | none => d) d1

/-- STAIR_FREEZE_DONE: dirty pages and the register image are copied; the verification begins (04 R111). [log 126 DESIGN CHOICE] -/
def Dev.stairCopy (d : Dev) (us : Nat) : Dev :=
  match d.nw.stair, d.active with
  | some st, some act =>
    let f := Flt.ofNum st.flight
    let src := d.fl act
    let wait := (us + 249) / 250
    (((((d.updFl f fun x => { x.joinFrom src with waited := wait }).updFl act fun x => { x with waited := wait }).copyValid act f).copyRegs act f).put
      NW_STAIRSTAT_PHASE 4).updNw fun n =>
      { n with stair := some { st with verified := 0, freeze := us, first := src.scan.getD 0 }, verifyQ := [] }
  | _, _ => d

/-- The joining flight becomes STANDBY after the verification (04 R110 step 6). -/
def Dev.stairDone (d : Dev) : Dev :=
  match d.nw.stair with
  | none => d
  | some st =>
    let f := Flt.ofNum st.flight
    let d1 := (((d.stairEnds E_OK).put NW_STAIRSTAT_TRIES 0).setFl f fsStandby).raiseNw
      (.mk' .nwStairDone [d.get NW_STAIRSTAT_ROUND, st.freeze])
    (d1.updNw fun n => { n with
      returnScan := some (n.lastScan.getD 0), matched := 0 }).modFollows

/-! ## Repair (04 R112, R117) -/

/-- Newel cycles of a retry delay: units of 100 ms. [log 27 DESIGN CHOICE] -/
def Dev.retryCycles (d : Dev) : Nat := d.get NW_REPAIRCFG_RETRY * 400

/-- Whether a flight's repair is due: FAILED, or in RESET and not held, and its retry delay has elapsed. -/
def Dev.repairDue (d : Dev) (f : Flt) : Bool :=
  (d.fst f == fsFailed || (d.fst f == fsReset && !d.nw.held f)) && d.get NW_REPAIRCFG_RETRY != 0 &&
    match d.nw.retry f with
    | some c => decide (c + d.retryCycles ≤ d.nw.cycle)
    | none => false

/-- Automatic repair: RESET, then the self-test starts (04 R117). -/
def Dev.repair (d : Dev) (f : Flt) : Dev :=
  (((d.flReset f).setFl f fsReset).setFl f fsTesting).updNw fun n => n.setRetry f none

/-- A flight is released from its hold by the update manager and tested (04 R117, 18 R498). -/
def Dev.releaseHeld (d : Dev) (f : Flt) : Dev :=
  if d.nw.held f ∧ d.fst f = fsReset then (d.updNw fun n => n.setHeld f false).setFl f fsTesting else d

/-! ## Meanings -/

/-- Agent that meets an uncorrectable word behind a fault of a flight: steward pair, Tread, Enfilade engine or DMA (03 R70, 04 R99). -/
def faultAgent (code : Nat) : Option Nat := if 3 ≤ code ∧ code ≤ 6 then some (code - 3) else none

/-- A fault that a flight detects itself: the word met is recorded, a Tread that halts stays halted, a tick in progress is abandoned
(03 R70; 04 R98, R99). `at_` is the physical bank and word met, `t` the Tread. -/
def Dev.selfFault (d : Dev) (f : Flt) (code t : Nat) (at_ : Option (Nat × Nat)) : Dev :=
  let d1 := match at_, faultAgent code with
    | some p, some a => d.uncorrected (.fl f) p.1 p.2 a
    | _, _ => d
  match code with
  | 4 => d1.haltTread f t
  | 5 => (d1.updFl f fun x => { x with enf := { x.enf with due := none } }).report f 5
  | _ => d1.report f code

/-- FLIGHT_FAULT_REPORT: a kind H fault that a flight detects itself waits for the next boundary (03 R70; 04 R98, R99). -/
def execFlightFaultReport (f : Flt) (code t : Nat) (at_ : Option (Nat × Nat)) (s : State) : Host.Outcome State Fault Refusal :=
  s.upd fun d => d.selfFault f code t at_

/-- FLIGHT_SUPPLY_OUT_OF_RANGE: fault SUPPLY of the flight, detected by the Newel (04 R99, 21 R559). -/
def execFlightSupplyOutOfRange (f : Flt) (s : State) : Host.Outcome State Fault Refusal :=
  s.upd fun d => d.report f 0x01

/-- PLANNED_SWITCHOVER: NW_SWCTL.PLAN written by the operator role (04 R114, R123). -/
def execPlannedSwitchover (role after : Nat) (s : State) : Host.Outcome State Fault Refusal :=
  s.upd fun d => if role = 1 then ((d.put NW_SWCTL_AFTER after).planSwitch after).1 else d

/-- LOGIC_BIST_REQUEST: NW_SWCTL.TEST written by the operator role (04 R115, R123). -/
def execLogicBistRequest (role : Nat) (target : Flt) (force : Bool) (s : State) : Host.Outcome State Fault Refusal :=
  s.upd fun d => if role = 1 then ((d.put NW_SWCTL_TARGET target.num).planTest target force).1 else d

/-- QUARANTINE_SET: NW_QUAR.SETA or SETB written by the operator role (04 R118, R123). -/
def execQuarantineSet (role : Nat) (f : Flt) (restore : Bool) (s : State) : Host.Outcome State Fault Refusal :=
  s.upd fun d => if role = 1 then (d.quarSet f restore).1 else d

/-- QUARANTINE_RELEASE: NW_QUAR.RELA or RELB written by the operator role (04 R117, R123). -/
def execQuarantineRelease (role : Nat) (f : Flt) (s : State) : Host.Outcome State Fault Refusal :=
  s.upd fun d => if role = 1 then (d.quarRelease f).1 else d

/-- REPAIR_RETRY: the retry delay of NW_REPAIRCFG has elapsed (04 R112, R117). [log 27 DESIGN CHOICE] -/
def execRepairRetry (f : Flt) (s : State) : Host.Outcome State Fault Refusal :=
  s.upd fun d => d.when (d.repairDue f) fun d => d.repair f

/-- An uncorrectable word of the active flight is copied unchanged: it stays so in both flights, each in the physical bank that
carries the logical one, raises EV_FL_ECC_UNCORR and takes a remap entry in both (04 R110 step 2, 03 R70, R71). -/
def Dev.stairUncorrectable (d : Dev) (act join : Flt) (pb w : Nat) : Dev :=
  let i := d.word (.fl act) pb w
  let bad : WordInfo := { i with valid := true, err := .uncorrectable }
  let take (d : Dev) (m : Mem) (pb : Nat) : Dev :=
    if (d.remapOf m pb w).isSome then d
    else match d.remapFree m with
      | some n => d.remapTake m n pb w true
      | none => d.raiseMem m .flRemapFull .fyRemapFull [pb, w]
  let d1 := ((d.setWord (.fl act) pb w bad).uncorrected (.fl act) pb w 5).raiseMem (.fl act) .flEccUncorr .fyEccUncorr [pb, w, 5]
  let d2 := take d1 (.fl act) pb
  match d.logical (.fl act) pb with
  | none => d2
  | some lb => take (d2.setWord (.fl join) (d2.phys (.fl join) lb) w bad) (.fl join) (d2.phys (.fl join) lb)

/-- STAIR_BULK_DONE (04 R110 step 2). -/
def execStairBulkDone (ue : List (Nat × Nat)) (s : State) : Host.Outcome State Fault Refusal :=
  s.upd fun d => match d.nw.stair, d.active with
    | some st, some act =>
      if d.get NW_STAIRSTAT_PHASE = 1 then
        let d1 := ue.foldl (fun d e => d.stairUncorrectable act (Flt.ofNum st.flight) e.1 e.2) d
        (d1.put NW_STAIRSTAT_PHASE 2).put NW_STAIRSTAT_ROUND 1
      else d
    | _, _ => d

/-- STAIR_FREEZE_DONE after the given microseconds (04 R111). -/
def execStairFreezeDone (us : Nat) (s : State) : Host.Outcome State Fault Refusal :=
  s.upd fun d => d.when (d.get NW_STAIRSTAT_PHASE == 3) fun d => d.stairCopy us

end Sys2Proof.Machine
end

