-- ==== Sys2Proof/Machine/Drive.lean ====
section
/-! DEFINITION. Drive channels: curves, duty, hold registers, fades, output sources, matrices and bank supplies
(chapter 11). -/

namespace Sys2Proof.Machine

/-! ## Channels and groups -/

/-- Change the Gallery. -/
def Dev.updGl (d : Dev) (g : GallerySt → GallerySt) : Dev := { d with gl := g d.gl }

/-- State of a channel beyond its registers. -/
def Dev.ch (d : Dev) (n : Nat) : Chan := mget Chan.zero d.gl.chans n

/-- Change a channel's state. -/
def Dev.updCh (d : Dev) (n : Nat) (g : Chan → Chan) : Dev :=
  d.updGl fun x => { x with chans := mupd Chan.zero x.chans n g }

/-- Group of a channel (11, Groups). -/
def grp (n : Nat) : Nat := n / 16

/-- PRESC of a group: counts of 2.5 ns (11 R286). -/
def Dev.presc (d : Dev) (g : Nat) : Nat := d.get (GL_GRPCFG_PRESC.ix g) + 1

/-- Period of a group in cycles of 2.5 ns (11 R286). -/
def Dev.period (d : Dev) (g : Nat) : Nat := d.presc g * 2 ^ d.get (GL_GRPCFG_BITS.ix g)

/-- Fields of a channel. -/
def chEn (n : Nat) : Fld := GL_CHCFG_EN.ix n
def chFine (n : Nat) : Fld := GL_CHLVL_FINE.ix n
def chTarget (n : Nat) : Fld := GL_CHLVL_TARGET.ix n
def chFading (n : Nat) : Fld := GL_CHLVL_FADING.ix n
def chState (n : Nat) : Fld := GL_CHDSTAT_STATE.ix n

/-! ## From level to duty (11 R289 to R291) -/

/-- Entry i of a curve table. -/
def Dev.curveEntry (d : Dev) (tbl i : Nat) : Nat :=
  let e := tbl * 1024 + i
  d.get ((if e % 2 = 0 then GL_CURVE_LOW else GL_CURVE_HIGH).ix (e / 2))

/-- Curve value of a fine level; the code holds the table in [2:0] and BYPASS in bit 3 (11 R289, R292). -/
def Dev.curve (d : Dev) (code fl : Nat) : Nat :=
  if bitOf code 3 then fl + fl / 4096
  else
    let p := fl * 1023
    let i := p / 65520
    let f := p % 65520
    if i ≥ 1023 then d.curveEntry (code % 8) 1023
    else (d.curveEntry (code % 8) i * (65520 - f) + d.curveEntry (code % 8) (i + 1) * f + 32760) / 65520

/-- Duty D of a curve value (11 R290). -/
def dutyOf (bits : Nat) (dither : Bool) (c : Nat) : Nat := (c * 2 ^ (if dither then bits + 4 else bits) + 32767) / 65535

/-- Four bits in reverse order (11 R291). -/
def bitrev4 (j : Nat) : Nat := (j % 2) * 8 + (j / 2 % 2) * 4 + (j / 4 % 2) * 2 + j / 8 % 2

/-- On-time in counts of duty D in period k (11 R291). -/
def ditherOn (dither : Bool) (duty k : Nat) : Nat :=
  if dither then duty / 16 + (if bitrev4 (k % 16) < duty % 16 then 1 else 0) else duty

/-- One step of a fade: fine level, k, and whether the fade is done (11 R295). -/
def fadeStep (s t : Int) (n k : Nat) : Nat × Nat × Bool :=
  if n = 0 then (t.toNat, k, true)
  else
    let k' := k + 1
    ((s + Int.tdiv ((t - s) * k') n).toNat, k', k' == n)

/-! ## Sources (11 R297, R298) -/

/-- Event of a channel, tagged with the suite of the bound point (12 R333). -/
def Dev.raiseCh (d : Dev) (i : EvId) (n : Nat) (p : List Int) : Dev :=
  let suite := (mget? d.mod.cfg.chans n).bind fun b => (mget? d.mod.cfg.points b.level).map (·.suite)
  d.raiseNw { Ev.mk' i p with suite := suite }

/-- Channels whose GL_CHCFG and GL_CHFS have an effect: those that are no matrix columns (11 R302). -/
def Dev.direct (d : Dev) (n : Nat) : Bool := d.get (GL_GRPCFG_MODE.ix (grp n)) != 1

/-- A fade of a channel to its fail-safe level (11 R298). -/
def Dev.chFailsafe (d : Dev) (n : Nat) : Dev :=
  if d.bit (chEn n) && d.direct n then
    ((d.updCh n fun c => { c with
      start := false, fadeN := d.get (GL_CHFS_FADE.ix n), fs := d.get (chFine n)
      ft := d.get (GL_CHFS_LEVEL.ix n) * 16, fk := 0 }).put (chFading n) 1).put (GL_CHLVL_FS.ix n) 1
  else d

/-- Columns of a matrix (11 R302). -/
def Dev.mxCols (d : Dev) (m : Nat) : Nat := 16 * (d.get (GL_MXCFG_COLGRPS.ix m) + 1)

/-- Rows of a matrix. -/
def Dev.mxRows (d : Dev) (m : Nat) : Nat := d.get (GL_MXCFG_ROWS.ix m) + 1

/-- Cell indices of a matrix, row-major (11 R307). -/
def Dev.mxCells (d : Dev) (m : Nat) : List Nat :=
  (List.range (d.mxRows m)).flatMap fun r => (List.range (d.mxCols m)).map fun c => m * 1024 + r * 64 + c

/-- A matrix cell. -/
def Dev.cell (d : Dev) (i : Nat) : Cell := mget Cell.zero d.gl.cells i

/-- Change a matrix cell. -/
def Dev.updCell (d : Dev) (i : Nat) (g : Cell → Cell) : Dev :=
  d.updGl fun x => { x with cells := mupd Cell.zero x.cells i g }

/-- Enabled matrices. -/
def Dev.matrices (d : Dev) : List Nat := (List.range 4).filter fun m => d.bit (GL_MXCFG_EN.ix m)

/-- Fades of a matrix's cells to its fail-safe level (11 R298). -/
def Dev.mxFailsafe (d : Dev) (m : Nat) : Dev :=
  (d.mxCells m).foldl (fun d i => d.updCell i fun c => { c with
    start := false, fadeN := d.get (GL_MXFS_FADE.ix m), fs := c.fl, ft := d.get (GL_MXFS_LEVEL.ix m) * 16
    fk := 0, fading := true }) d

/-- Entry to source 1, which needs the configuration (11 R297, R298): cause 0 HOLD order, 1 FAILSAFE order, 2 timeout. -/
def Dev.glFailsafe (d : Dev) (cause : Nat) : Dev :=
  if !d.gl.cfgHeld || d.get GL_DRVSTAT_SOURCE == 1 then d
  else
    let d1 := ((d.put GL_DRVSTAT_SOURCE 1).put GL_DRVSTAT_CAUSE cause).updGl fun x => { x with fsAt := d.nw.cycle }
    let d2 := (List.range 256).foldl (fun d n => d.chFailsafe n) d1
    (d2.matrices.foldl (fun d m => d.mxFailsafe m) d2).raiseNw (.mk' .glDrvFailsafe [cause])

/-! ## Hold registers (11 R293, R294) -/

/-- The hold register of a channel takes a committed entry; after source 1 every channel fades (11 R294, R298). -/
def Dev.chCommit (d : Dev) (resume : Bool) (n : Nat) (e : ChanEntry) : Dev :=
  let changed := d.get (chTarget n) ≠ e.level
  let d1 := (d.put (chTarget n) e.level).updCh n fun c => { c with
    fade := e.fade, curve := e.curve
    start := c.start || ((changed || resume) && d.bit (chEn n)) }
  if resume then d1.put (GL_CHLVL_FS.ix n) 0 else d1

/-- The hold register of a matrix cell takes a committed level. [log 72 DESIGN CHOICE] -/
def Dev.cellCommit (d : Dev) (resume : Bool) (i level : Nat) : Dev :=
  d.updCell i fun c => { c with target := level, start := c.start || c.target != level || resume }

/-! ## Fades (11 R295, R296, R299) -/

/-- What a fade tick does with one channel. -/
def Dev.chTick (d : Dev) (n : Nat) : Dev :=
  let c := d.ch n
  if !((d.bit (chEn n) || c.disableAt) && d.direct n) then d
  else
    let d1 := if c.enableAt then (d.put (chFine n) 0).put (GL_CHLVL_OFF.ix n) 0 else d
    let d2 := if c.start || c.enableAt then
        (d1.updCh n fun c => { c with
          start := false, enableAt := false, fadeN := c.fade, fs := d1.get (chFine n)
          ft := d1.get (chTarget n) * 16, fk := 0 }).put (chFading n) 1
      else d1
    let d3 := if d2.bit (chFading n) then
        let c := d2.ch n
        let r := fadeStep c.fs c.ft c.fadeN c.fk
        ((d2.put (chFine n) r.1).updCh n fun c => { c with fk := r.2.1 }).put (chFading n) (b2n (!r.2.2))
      else d2
    let g := grp n
    d3.put (GL_CHDUTY_DUTY.ix n) (dutyOf (d3.get (GL_GRPCFG_BITS.ix g)) (d3.bit (GL_GRPCFG_DITHER.ix g))
      (d3.curve (d3.ch n).curve (d3.get (chFine n))))

/-- What a fade tick does with one matrix cell. -/
def Dev.cellTick (d : Dev) (m i : Nat) : Dev :=
  let g := d.get (GL_MXCFG_COLBASE.ix m)
  d.updCell i fun c =>
    let c1 := if c.start then { c with start := false, fadeN := c.fade, fs := c.fl, ft := c.target * 16, fk := 0, fading := true }
      else c
    let c2 := if c1.fading then
        let r := fadeStep c1.fs c1.ft c1.fadeN c1.fk
        { c1 with fl := r.1, fk := r.2.1, fading := !r.2.2 }
      else c1
    { c2 with duty := dutyOf (d.get (GL_GRPCFG_BITS.ix g)) (d.bit (GL_GRPCFG_DITHER.ix g)) (d.curve c2.curve c2.fl) }

/-- The 1 kHz fade tick. -/
def Dev.fadeTick (d : Dev) : Dev :=
  let d1 := (List.range 256).foldl (fun d n => d.chTick n) d
  d1.matrices.foldl (fun d m => (d.mxCells m).foldl (fun d i => d.cellTick m i) d) d1

/-! ## Enables (11 R299, R300, R304) -/

/-- EV_GL_CH_DISABLE. -/
def Dev.chDisableEv (d : Dev) (n : Nat) (en forced : Bool) : Dev :=
  d.raiseNw (.mk' .glChDisable [n, b2n en, b2n forced])

/-- The land of a channel goes low, `cut` cycles of 2.5 ns into its period (11 R300, R305; 12 R312, R322). -/
def Dev.landCut (d : Dev) (n cut : Nat) : Dev :=
  d.updCh n fun c => if c.land then { c with
    land := false, cum := (c.cum + 2 ^ 64 - (c.on - min cut c.on)) % 2 ^ 64, on := min cut c.on } else c

/-- GL_CHCFG.EN written 1. It has no effect on a matrix column (11 R299, R302). -/
def Dev.chEnable (d : Dev) (n : Nat) : Dev :=
  if d.bit (chEn n) then d
  else if !d.direct n then d.put (chEn n) 1
  else ((d.put (chEn n) 1).updCh n fun c => { c with
    enableAt := true, disableAt := false, forced := false, everGood := false, sampled := false }).chDisableEv n true false

/-- GL_CHCFG.EN written 0, with FDIS for a forced disable: the land goes low at once, `cut` cycles into the period, also where a disable
already waits for the period start (11 R299, R300, R302). -/
def Dev.chDisable (d : Dev) (n : Nat) (forced : Bool) (cut : Nat) : Dev :=
  let force (d : Dev) : Dev := ((d.landCut n cut).updCh n fun c => { c with cutNow := true, forced := true }).put (GL_CHDSTAT_COMP.ix n) 0
  if !d.direct n then d.put (chEn n) 0
  else if !d.bit (chEn n) then (if forced && (d.ch n).disableAt then force d else d)
  else
    let d1 := (d.put (chEn n) 0).updCh n fun c => { c with disableAt := true, enableAt := false, forced := forced }
    (if forced then force d1 else d1).chDisableEv n false forced

/-! ## Bank supplies (11 R305) -/

/-- The measured supply of a bank changes. Out of range, its lands are high-impedance at once, `cut` cycles into the period; back in
range, each is driven from its next period start. [log 131 DEDUCED] -/
def Dev.bankSupply (d0 : Dev) (g : Nat) (ok highv : Bool) (cut : Nat) : Dev :=
  let d := if ok then d0 else
    ((List.range 16).foldl (fun (d : Dev) i => d.landCut (16 * g + i) cut) d0).updGl fun x => { x with rows := x.rows.filter (· ≠ g) }
  let x : Fld := ⟨GL_BANKSTAT, g, g⟩
  let y : Fld := ⟨GL_BANKSTAT, 16 + g, 16 + g⟩
  let was := d.bit x
  let d1 := (d.put x (b2n ok)).put y (b2n (ok && highv))
  if was = ok then d1 else d1.raiseNw (.mk' .glBankSupply [g, b2n ok])

/-! ## The commit in the Gallery (11 R293, R306) -/

/-- A Gallery register that an on-line section loads takes its value at the first commit of the switching scan; EN of a
channel acts as a write of it does (11 R306, 20 R538). -/
def Dev.onlineReg (d : Dev) (key : Nat) (v : W32) : Dev :=
  if GL_CHCFG ≤ key ∧ key < GL_CHCFG + 1024 then
    let n := (key - GL_CHCFG) / 4
    let d1 := if v.getLsbD 0 then d.chEnable n else d.chDisable n false 0
    (d1.put (GL_CHCFG_CURVE.ix n) (bitsOf v.toNat 6 4)).put (GL_CHCFG_BYPASS.ix n) (bitsOf v.toNat 7 7)
  else d.wr key v

/-- Step 3 of R293: the shadow becomes the hold registers; `bad` are the drive parts, as kind and index, that did not
arrive complete. [log 75 DESIGN CHOICE] -/
def Dev.holdUpdate (d : Dev) (bad : List (Nat × Nat)) : Dev :=
  match d.gl.shadow with
  | none => d
  | some cs =>
    let src := d.get GL_DRVSTAT_SOURCE
    let resume := src == 1
    let d0 := cs.online.foldl (fun d e => d.onlineReg e.1 e.2) (d.updGl fun x => { x with shadow := none })
    let d1 := if d0.gl.retime ≠ 0 then
        ((d0.updGl fun x => { x with retime := 0, k := [] }).raiseNw (.mk' .glDrvRetime [d0.gl.retime])) else d0
    let lost := bad.eraseDups.filter fun e => e == (1, 0) || (e.1 == 2 && cs.mxcurve.any fun c => c.1 == e.2)
    let d2 := (d1.inc GL_DRVSTAT_PARTERR lost.length).incWrap GL_DRVSTAT_COMMITS
    let d3 := if bad.contains (1, 0) then d2
      else cs.image.foldl (fun d e => if d.direct e.1 then d.chCommit resume e.1 e.2 else d) d2
    let d4 := cs.mximage.foldl (fun d e => if bad.contains (2, e.1 / 1024) then d else d.cellCommit resume e.1 e.2) d3
    let d5 := cs.mxcurve.foldl (fun d e => if bad.contains (2, e.1) then d else
      (d.mxCells e.1).foldl (fun d i => d.updCell i fun c => { c with fade := e.2.fade, curve := e.2.curve }) d) d4
    let d6 := d5.put GL_DRVSTAT_SOURCE 2
    if resume then d6.raiseNw (.mk' .glDrvResumed [min (d.nw.cycle - d.gl.fsAt) 0xFFFF]) else d6

/-! ## Meanings -/

/-- HOLD_REGISTER_UPDATE (11 R293). -/
def execHoldRegisterUpdate (bad : List (Nat × Nat)) (s : State) : Host.Outcome State Fault Refusal :=
  s.upd fun d => d.when (!d.gl.paused) fun d => d.holdUpdate bad

/-- FADE_TICK (11 R295). -/
def execFadeTick (s : State) : Host.Outcome State Fault Refusal := s.upd fun d => d.when (!d.gl.paused) Dev.fadeTick

/-- CHANNEL_ENABLE (11 R299). -/
def execChannelEnable (n : Nat) (s : State) : Host.Outcome State Fault Refusal := s.upd fun d => d.chEnable (n % 256)

/-- CHANNEL_DISABLE (11 R299). -/
def execChannelDisable (n : Nat) (s : State) : Host.Outcome State Fault Refusal :=
  s.upd fun d => d.chDisable (n % 256) false 0

/-- CHANNEL_FORCED_DISABLE, `cut` cycles of 2.5 ns into the period (11 R300). -/
def execChannelForcedDisable (n cut : Nat) (s : State) : Host.Outcome State Fault Refusal :=
  s.upd fun d => d.chDisable (n % 256) true cut

/-- BANK_SUPPLY_CHANGE (11 R305). -/
def execBankSupplyChange (g : Nat) (ok highv : Bool) (cut : Nat) (s : State) : Host.Outcome State Fault Refusal :=
  s.upd fun d => d.bankSupply (g % 16) ok highv cut

/-- GALLERY_KEEPALIVE_TIMEOUT: neither a commit nor a keepalive for 100 ms (04 R122, 11 R297). -/
def execGalleryKeepaliveTimeout (s : State) : Host.Outcome State Fault Refusal := s.upd fun d => d.glFailsafe 2

end Sys2Proof.Machine
end

