-- ==== Sys2Proof/Machine/Schedule.lean ====
section
/-! DEFINITION. Schedule time, local time and the schedules of a flight (chapter 10). -/

namespace Sys2Proof.Machine

/-! ## The calendar (10 R266) -/

/-- Days since 1970-01-01 of a date of the proleptic Gregorian calendar. -/
def daysOf (y : Int) (m d : Nat) : Int :=
  let y' := if m ≤ 2 then y - 1 else y
  let era := y' / 400
  let yoe := y' - era * 400
  let doy : Int := ((153 * (if m > 2 then m - 3 else m + 9) + 2) / 5 + d - 1 : Nat)
  era * 146097 + (yoe * 365 + yoe / 4 - yoe / 100 + doy) - 719468

/-- Year, month and day of a day count. -/
def civilOf (n : Int) : Int × Nat × Nat :=
  let z := n + 719468
  let era := z / 146097
  let doe := z - era * 146097
  let yoe := (doe - doe / 1460 + doe / 36524 - doe / 146096) / 365
  let doy := doe - (365 * yoe + yoe / 4 - yoe / 100)
  let mp := ((5 * doy + 2) / 153).toNat
  let m := if mp < 10 then mp + 3 else mp - 9
  (yoe + era * 400 + (if m ≤ 2 then 1 else 0), m, (doy - ((153 * mp + 2) / 5 : Nat) + 1).toNat)

/-- Weekday of a day count, 0 for Monday (10 R266). -/
def weekday (n : Int) : Nat := ((n + 3) % 7).toNat

/-- Days of a month. -/
def monthDays (y : Int) (m : Nat) : Nat :=
  (if m = 12 then daysOf (y + 1) 1 1 - daysOf y 12 1 else daysOf y (m + 1) 1 - daysOf y m 1).toNat

/-- Date of a transition rule in a year; week 5 is the last (10 R267). -/
def TransitionRule.day (r : TransitionRule) (y : Int) : Int :=
  let first := daysOf y r.month 1
  let d := (r.weekday + 7 - Machine.weekday first) % 7 + 7 * (r.week - 1)
  first + ((if monthDays y r.month ≤ d then d - 7 else d : Nat) : Int)

/-! ## Local time (10 R265 to R268) -/

/-- UTC seconds of system time in s: TAI - UTC in force; an entry of LEAP is in force from its UTC second (10 R266,
R267). [log 56 DEDUCED] -/
def TimeZone.utc (z : TimeZone) (t : Nat) : Int :=
  let tai := z.leap.foldl (fun v e => if e.1 ≠ 0 ∧ ((e.1 : Nat) : Int) + e.2 ≤ (t : Nat) then e.2 else v) z.taiutc
  (t : Nat) - tai

/-- Start transition in a year, in UTC (10 R267). -/
def TimeZone.startAt (z : TimeZone) (y : Int) : Int :=
  z.start.day y * 86400 + 60 * ((z.start.minute : Nat) : Int) - 60 * z.std

/-- End transition in a year, in UTC (10 R267). -/
def TimeZone.stopAt (z : TimeZone) (y : Int) : Int :=
  z.stop.day y * 86400 + 60 * ((z.stop.minute : Nat) : Int) - 60 * (z.std + z.delta)

/-- Local standard year of a UTC instant. -/
def TimeZone.year (z : TimeZone) (u : Int) : Int := (civilOf ((u + 60 * z.std) / 86400)).1

/-- Daylight time in force by the rule (10 R267). -/
def TimeZone.ruleDst (z : TimeZone) (u : Int) : Bool :=
  let y := z.year u
  let s := z.startAt y
  let e := z.stopAt y
  if z.start.month > z.stop.month then decide (s ≤ u ∨ u < e) else decide (s ≤ u ∧ u < e)

/-- Offset of the rule in minutes (10 R267). -/
def TimeZone.ruleOff (z : TimeZone) (u : Int) : Int := if z.ruleDst u then z.std + z.delta else z.std

/-- Rule transitions of the years about an instant. -/
def TimeZone.transitions (z : TimeZone) (u : Int) : List Int :=
  let y := z.year u
  [y - 1, y, y + 1, y + 2].flatMap fun y => [z.startAt y, z.stopAt y]

/-- The last entry of LIST at or before an instant, and whether it is the last entry of all. [log 56 DEDUCED] -/
def listAt (u : Int) : List (Nat × Int) → Option (Int × Int × Bool)
  | [] => none
  | e :: t =>
    if ((e.1 : Nat) : Int) ≤ u then
      match listAt u t with
      | some r => some r
      | none => some ((e.1 : Nat), e.2, t.isEmpty)
    else none

/-- Total offset in minutes in force at a UTC instant (10 R267). -/
def TimeZone.off (z : TimeZone) (u : Int) : Int :=
  match z.mode with
  | 0 => z.std
  | 1 => z.ruleOff u
  | _ =>
    match listAt u z.list with
    | none => z.ruleOff u
    | some (t0, o, lastOne) =>
      if lastOne ∧ (z.transitions t0).any (fun x => decide (t0 < x ∧ x ≤ u)) then z.ruleOff u else o

/-- Daylight time in force: by the rule, or where LIST holds, an offset above STD (10 R267). [log 57 DEDUCED] -/
def TimeZone.dst (z : TimeZone) (u : Int) : Bool := decide (z.std < z.off u)

/-- Local wall seconds (10 R266). -/
def TimeZone.wall (z : TimeZone) (u : Int) : Int := u + 60 * z.off u

/-- Instants at which the offset may change, about an instant. -/
def TimeZone.changes (z : TimeZone) (u : Int) : List Int :=
  match z.mode with
  | 0 => []
  | 1 => z.transitions u
  | _ => z.list.map (fun e => ((e.1 : Nat) : Int)) ++ z.transitions u

/-- The least of a list of instants. -/
def leastI : List Int → Option Int
  | [] => none
  | x :: t => match leastI t with
    | some y => some (min x y)
    | none => some x

/-- A local wall time as a UTC instant, and whether it fell into a gap: a repeated time maps to its first occurrence, a
time in a gap to the instant of the change (10 R268). -/
def TimeZone.toUtc (z : TimeZone) (d : Int) (sec : Nat) : Int × Bool :=
  let l := d * 86400 + (sec : Nat)
  let offs := [z.std, z.std + z.delta] ++ (if z.mode = 2 then z.list.map (·.2) else [])
  match leastI ((offs.map fun o => l - 60 * o).filter fun u => decide (z.wall u = l)) with
  | some u => (u, false)
  | none =>
    match leastI ((z.changes (l - 60 * z.std)).filter fun c =>
      decide (c + 60 * z.off (c - 1) ≤ l ∧ l < c + 60 * z.off c)) with
    | some c => (c, true)
    | none => (l - 60 * z.std, false)

/-! ## Day programs and alarms (10 R270 to R275) -/

/-- A coded date of an exception as month x 32 + day, and as a day count (10 R271). -/
def codedDay (c : Nat) : Int := daysOf (2000 + ((c / 512 : Nat) : Int)) (c / 32 % 16) (c % 32)

/-- Whether an exception covers a date (10 R271). -/
def SchedException.covers (e : SchedException) (d : Int) : Bool :=
  if e.yearly then
    let c := civilOf d
    let md := c.2.1 * 32 + c.2.2
    let a := e.first % 512
    let b := e.last % 512
    if a ≤ b then decide (a ≤ md ∧ md ≤ b) else decide (a ≤ md ∨ md ≤ b)
  else decide (codedDay e.first ≤ d ∧ d ≤ codedDay e.last)

/-- Day program of a schedule for a date, 0xFF none (10 R271). -/
def Cfg.dayProgram (c : Cfg) (n : Nat) (r : SchedRec) (d : Int) : Nat :=
  let best := c.excs.foldl (fun (b : Option SchedException) e =>
    if e.schedule = n ∧ e.covers d then
      match b with
      | some x => if x.priority < e.priority then some e else b
      | none => some e
    else b) none
  match best with
  | some e => e.program
  | none => (r.week[weekday d]?).getD 0xFF

/-- Entries of a day program with their positions. -/
def Cfg.programEntries (c : Cfg) (p : Nat) : List (Nat × SwitchEntry) :=
  match mget? c.days p with
  | none => []
  | some (first, count) => (List.range count).filterMap fun i => (mget? c.switches (first + i)).map fun e => (i, e)

/-- Whether a switching entry is a PHOTO entry. -/
def SwitchEntry.isPhoto (e : SwitchEntry) : Bool := e.kind == 3 || e.kind == 4

/-- Anchor instant of an entry for a date; none where the sun does not cross the angle (10 R272, R274). -/
def Cfg.anchorAt (c : Cfg) (e : SwitchEntry) (d : Int) : Option Int :=
  let idx := ((d - 10957) % 1461).toNat
  match (mget [] c.anchors e.anchor)[idx]? with
  | none => none
  | some (dawn, dusk) =>
    let v := if e.kind = 1 ∨ e.kind = 3 then dawn else dusk
    if v = 0xFFFF then none else some (d * 86400 - 60 * c.tz.std + 2 * (v : Nat) + e.time)

/-- Nominal instant of an alarm, its anchor and whether it came from the gap rule (10 R274, R275). -/
def Cfg.alarmAt (c : Cfg) (r : SchedRec) (e : SwitchEntry) (d : Int) : Option (Int × Int × Bool) :=
  if e.kind = 0 then
    let p := c.tz.toUtc d (2 * e.time.toNat)
    some (p.1, p.1, p.2)
  else (c.anchorAt e d).map fun a => (if e.isPhoto then a + (r.window : Nat) else a, a, false)

/-- Whether a photocell is usable (10 R275). -/
def photoUsable (p : Point) : Bool :=
  p.cls ≠ 0 && (stQual p.status == qGood || stQual p.status == qForced) && !stStale p.status

/-- Reading of a photocell: 1 dark, 2 light, 0 neither (10 R275). -/
def SchedRec.photoRead (r : SchedRec) (p : Point) : Nat :=
  if p.cls = 1 then (if p.value.getLsbD 0 then 1 else 2)
  else if p.value.toInt < r.dark then 1
  else if r.light < p.value.toInt then 2
  else 0

/-- Whether an alarm of a PHOTO entry is due, and how: 0 by the photocell, 1 because none is usable, 2 fallback
(10 R275). [log 58 DEDUCED] -/
def photoDue (r : SchedRec) (ps : PhotoSt) (usable : Bool) (e : SwitchEntry) (a : Int) (u : Int) (t : Nat) : Option Nat :=
  let want := if e.kind = 3 then 2 else 1
  let sat := usable && ps.reading == want && decide (ps.since + r.delay ≤ t)
  let w : Int := (r.window : Nat)
  if a - w ≤ u ∧ u ≤ a + w ∧ sat then some 0
  else if !usable ∧ a ≤ u then some 1
  else if a + w ≤ u then some 2
  else none

/-- Order of R276. -/
def alarmLe (x y : SchedAlarm) : Bool :=
  decide (x.instant < y.instant ∨ (x.instant = y.instant ∧ (x.date < y.date ∨ (x.date = y.date ∧ x.pos ≤ y.pos))))

/-- Insert an alarm in the order of R276. -/
def alarmIns (x : SchedAlarm) : List SchedAlarm → List SchedAlarm
  | [] => [x]
  | y :: t => if alarmLe y x then y :: alarmIns x t else x :: y :: t

/-- Index of a kept date (10 R276). -/
def keptKey (n pos : Nat) (d : Int) : Nat := n * 128 + pos * 4 + (d % 4).toNat

/-- Alarms of the dates about D, by a test that says whether and how one is due. -/
def Cfg.alarms (c : Cfg) (n : Nat) (r : SchedRec) (day : Int)
    (due : SwitchEntry → Int → Int → Option Nat) (kept : Map Nat) : List SchedAlarm :=
  let all := [day - 1, day, day + 1].flatMap fun d =>
    (c.programEntries (c.dayProgram n r d)).filterMap fun p =>
      match c.alarmAt r p.2 d with
      | none => none
      | some (i, a, gap) =>
        match due p.2 i a with
        | some how => if ((mget 0 kept (keptKey n p.1 d) : Nat) : Int) < d then 
            some ⟨i, d, p.1, p.2.value, gap, how⟩ else none
        | none => none
  all.foldl (fun l x => alarmIns x l) []

/-! ## The snapshot (10 R276 to R282) -/

/-- Change the schedules. -/
def Dev.updSch (d : Dev) (f : Flt) (g : SchedSt → SchedSt) : Dev := d.updFl f fun x => { x with sch := g x.sch }

/-- Whether a schedule is enabled. -/
def Dev.schedEn (d : Dev) (f : Flt) (n : Nat) : Bool := bitOf (d.get ((FL_SCHEDEN_EN.ix (n / 32)).at f)) (n % 32)

/-- Suite of a schedule's output point (10 R285). -/
def Dev.schedSuite (d : Dev) (f : Flt) (r : SchedRec) : Option Nat := some ((d.fl f).pt r.output).suite

/-- Follow a photocell's reading (10 R275). [log 58 DEDUCED] -/
def Dev.photoTrack (d : Dev) (f : Flt) (n t : Nat) (r : SchedRec) : Dev :=
  match r.photo with
  | none => d
  | some p =>
    let v := r.photoRead ((d.fl f).pt p)
    let o := mget? (d.fl f).sch.photo n
    let since := match o with
      | some ps => if ps.reading = v then ps.since else t
      | none => t
    let definite := if v ≠ 0 then v else match o with
      | some ps => ps.definite
      | none => 0
    d.updSch f fun x => { x with photo := mput x.photo n ⟨v, since, definite⟩ }

/-- Write a firing point (10 R279). -/
def Dev.firingPoint (d : Dev) (f : Flt) (r : SchedRec) (v : Nat) : Dev :=
  match r.firing with
  | none => d
  | some p => d.updFl f fun x => x.load p (BitVec.ofNat 32 v) qGood 9

/-- Field of FL_SCHEDST of a schedule. -/
def schedSt (x : Fld) (f : Flt) (n : Nat) : Fld := (x.ix n).at f

/-- Show the last alarm applied (10 R284). -/
def Dev.schedShow (d : Dev) (f : Flt) (n pos : Nat) (late gap fallback photo : Bool) (day : Int) : Dev :=
  let p (x : Fld) (v : Nat) (d : Dev) : Dev := d.put (schedSt x f n) v
  p FL_SCHEDST_LASTDAY (day % 65536).toNat <| p FL_SCHEDST_PHOTO (b2n photo) <| p FL_SCHEDST_FALLBACK (b2n fallback) <|
    p FL_SCHEDST_GAP (b2n gap) <| p FL_SCHEDST_LATE (b2n late) <| p FL_SCHEDST_LASTPOS pos d

/-- The alarms due at the snapshot fire (10 R276, R277, R279). -/
def Dev.schedFire (d : Dev) (f : Flt) (n : Nat) (r : SchedRec) (u day : Int) (t : Nat) : Dev :=
  let c := d.cfgOf f
  let usable := match r.photo with
    | some p => photoUsable ((d.fl f).pt p)
    | none => false
  let ps := mget PhotoSt.zero (d.fl f).sch.photo n
  let due (e : SwitchEntry) (i a : Int) : Option Nat :=
    if e.isPhoto then photoDue r ps usable e a u t else if i ≤ u then some 3 else none
  let l := c.alarms n r day due (d.fl f).sch.kept
  let tol : Int := (d.get (FL_SCHEDCFG_LATETOL.at f) : Nat)
  let isLate (a : SchedAlarm) : Bool := decide (u - a.instant > tol)
  let one (d : Dev) (a : SchedAlarm) : Dev :=
    let d1 := (d.updSch f fun x => { x with kept := mput x.kept (keptKey n a.pos a.date) a.date.toNat }).updFl f fun x =>
      x.load r.output a.value qGood 9
    let d2 := d1.incWrap (FL_SCHEDCNT_FIRED.at f)
    let d3 := if isLate a then
        (d2.inc (FL_SCHEDCNT_LATE.at f)).raiseFl f .flSchedLate [n, a.pos, a.date, u - a.instant] (d.schedSuite f r)
      else d2
    let d4 := if a.how = 2 then d3.raiseFl f .flSchedFallback [n, a.pos] (d.schedSuite f r) else d3
    d4.schedShow f n a.pos (isLate a) a.gap (a.how == 2) (a.how == 0) a.date
  match l.getLast? with
  | none => d
  | some last =>
    let v := last.pos + 256 * min l.length 255 + 65536 * b2n (l.any isLate) + 2 ^ 17 * b2n last.gap +
      2 ^ 18 * b2n (last.how == 2) + 2 ^ 19 * b2n (last.how == 0)
    (l.foldl one d).firingPoint f r v

/-- A catch-up (10 R280). [log 55 DEDUCED] -/
def Dev.schedCatchup (d : Dev) (f : Flt) (n cause : Nat) (r : SchedRec) (u day : Int) : Dev :=
  let due (_ : SwitchEntry) (i _ : Int) : Option Nat := if i ≤ u then some 3 else none
  let l := (d.cfgOf f).alarms n r day due []
  let d1 := l.foldl (fun d a => d.updSch f fun x => { x with
    kept := mput x.kept (keptKey n a.pos a.date) a.date.toNat }) d
  let d2 := match l.getLast? with
    | none => d1.firingPoint f r (0xFF + 2 ^ 20)
    | some a =>
      let d2 := (d1.updFl f fun x => x.load r.output a.value qGood 9).firingPoint f r
        (a.pos + 2 ^ 17 * b2n a.gap + 2 ^ 20)
      d2.schedShow f n a.pos false a.gap false false a.date
  (d2.inc (FL_SCHEDSTAT_CATCHUPS.at f)).raiseFl f .flSchedCatchup [n, cause] (d.schedSuite f r)

/-- Value that an untrusted schedule's output takes (10 R281). -/
def Dev.untrustedValue (d : Dev) (f : Flt) (n : Nat) (r : SchedRec) (day : Int) : W32 :=
  let entry (kind : Nat) : W32 :=
    match (((d.cfgOf f).programEntries ((d.cfgOf f).dayProgram n r day)).filter fun e => e.2.kind == kind).getLast? with
    | some e => e.2.value
    | none => r.untrusted
  match r.photo with
  | some p =>
    if photoUsable ((d.fl f).pt p) then
      match (mget PhotoSt.zero (d.fl f).sch.photo n).definite with
      | 1 => entry 4
      | 2 => entry 3
      | _ => r.untrusted
    else r.untrusted
  | none => r.untrusted

/-- A schedule while time is not trusted (10 R281). [log 55 DEDUCED] -/
def Dev.schedUntrusted (d : Dev) (f : Flt) (n : Nat) (r : SchedRec) (day : Int) : Dev :=
  let d1 := d.updFl f fun x => x.load r.output (d.untrustedValue f n r day) qUncertain 9
  if d1.bit (schedSt FL_SCHEDST_UNTRUSTED f n) then d1
  else (d1.firingPoint f r (0xFF + 2 ^ 21)).put (schedSt FL_SCHEDST_UNTRUSTED f n) 1

/-- The schedules at a snapshot: alarms, catch-ups, and what holds while time is not trusted (10 R276 to R282). -/
def Dev.schedules (d : Dev) (f : Flt) : Dev :=
  let x := d.fl f
  let c := d.cfgOf f
  let t := x.mapTime / 1000000000
  let u := c.tz.utc t
  let wall := c.tz.wall u
  let day := wall / 86400
  let trusted := match x.map with
    | some m => m.trusted
    | none => false
  let was := d.bit (FL_SCHEDSTAT_TRUST.at f)
  let dst := c.tz.dst u
  let d1 := if trusted == was then d else
    (d.put (FL_SCHEDSTAT_TRUST.at f) (b2n trusted)).raiseFl f .flSchedTrust [b2n trusted]
  let d2 := if dst == d.bit (FL_SCHEDSTAT_DST.at f) then d1 else
    (d1.put (FL_SCHEDSTAT_DST.at f) (b2n dst)).raiseFl f .flSchedDst [b2n dst]
  let d3 := (d2.put (FL_SCHEDLOCAL_DAY.at f) (day % 65536).toNat).put (FL_SCHEDLOCAL_TIME.at f) (wall % 86400 / 2).toNat
  let back := match x.sch.prevT with
    | some p => decide (t + 86400 < p)
    | none => false
  let one (d : Dev) (e : Nat × SchedRec) : Dev :=
    let n := e.1
    let r := e.2
    let d := d.photoTrack f n t r
    if !d.schedEn f n then d.put (schedSt FL_SCHEDST_UNTRUSTED f n) 0
    else if !trusted then d.schedUntrusted f n r day
    else
      let d := d.put (schedSt FL_SCHEDST_UNTRUSTED f n) 0
      let cause := if x.scan = some 0 then some 0 else if !was then some 1 else if back then some 2
        else if x.switched then some 3 else if n ∈ x.sch.enDue then some 4 else none
      match cause with
      | some k => d.schedCatchup f n k r u day
      | none => d.schedFire f n r u day t
  (c.scheds.foldl one d3).updSch f fun s => { s with prevT := some t, enDue := [] }

/-- FL_SCHEDEN written: the change acts from the next snapshot, where a schedule that it enables makes its catch-up
(10 R282). -/
def Dev.schedEnWrite (d : Dev) (f : Flt) (n : Nat) (v : W32) : Dev :=
  let x := (FL_SCHEDEN_EN.ix n).at f
  let old := d.get x
  let on := ((List.range 32).filter fun i => bitOf v.toNat i && !bitOf old i).map (32 * n + ·)
  let off := ((List.range 32).filter fun i => !bitOf v.toNat i).map (32 * n + ·)
  (d.put x v.toNat).updSch f fun s => { s with enDue := (s.enDue ++ on).filter fun i => !off.contains i }

end Sys2Proof.Machine
end

