-- ==== Sys2Proof/Machine/Enfilade.lean ====
section
/-! DEFINITION. The Enfilade engine of a flight: triggers, ticks, wavelets, demand, relaxation, reach tables and
descriptors (chapter 09). -/

namespace Sys2Proof.Machine

/-! ## The graph (09 R229 to R232) -/

/-- Number of light points (09 R229). -/
def lpCount : Nat := 16384

/-- A node record. -/
def Cfg.node (c : Cfg) (n : Nat) : Node := mget Node.zero c.nodes n

/-- An edge record. -/
def Cfg.edge (c : Cfg) (e : Nat) : Edge := mget Edge.zero c.edges e

/-- Length of an edge in 1/256 dm. -/
def Cfg.len (c : Cfg) (e : Nat) : Nat := (c.edge e).length * 256

/-- Out-edges of a node (09 R230). -/
def Cfg.out (c : Cfg) (n : Nat) : List Nat := (List.range (c.node n).count).map ((c.node n).first + ·)

/-- Out-edges eligible for a wavelet that arrives by an edge, or by none (09 R243). -/
def Cfg.eligible (c : Cfg) (v : Nat) (arr : Option Nat) : List Nat :=
  let back := match arr with
    | some e => (c.edge e).rev
    | none => none
  (c.out v).filter fun x => !(c.edge x).notravel && back != some x

/-- Turn counter of an edge (09 R231, R247). [log 59 DEDUCED] -/
def EnfSt.turn (x : EnfSt) (c : Cfg) (e : Nat) : Nat := mget (c.edge e).turn x.turns e

/-- Set a turn counter. -/
def EnfSt.setTurn (x : EnfSt) (c : Cfg) (e v : Nat) : EnfSt := { x with turns := mset (c.edge e).turn x.turns e v }

/-- Weights of a split: edge and weight (09 R243). -/
def shares (turn : Nat → Nat) (w : Nat) (el : List Nat) : List (Nat × Nat) :=
  match el with
  | [x] => [(x, w)]
  | _ =>
    let sum := (el.map turn).sum
    el.map fun x => (x, w * turn x / sum)

/-- Order of a split: descending weight, ties to the lower edge (09 R243). -/
def shareIns (x : Nat × Nat) : List (Nat × Nat) → List (Nat × Nat)
  | [] => [x]
  | y :: t => if y.2 > x.2 ∨ (y.2 = x.2 ∧ y.1 < x.1) then y :: shareIns x t else x :: y :: t

/-- Shares of at least WMIN in the order of a split, and how many fell below it (09 R243). -/
def splitShares (turn : Nat → Nat) (wmin w : Nat) (el : List Nat) : List (Nat × Nat) × Nat :=
  let all := shares turn w el
  let keep := all.filter fun s => decide (wmin ≤ s.2)
  (keep.foldl (fun l x => shareIns x l) [], all.length - keep.length)

/-! ## Registers of the engine (09 R263) -/

/-- Change the engine. -/
def Dev.updEnf (d : Dev) (f : Flt) (g : EnfSt → EnfSt) : Dev := d.updFl f fun x => { x with enf := g x.enf }

/-- Engine enabled. -/
def Dev.enfEn (d : Dev) (f : Flt) : Bool := d.bit (FL_ENFCTL_EN.at f)

/-- WMIN; 0 acts as 1. -/
def Dev.wmin (d : Dev) (f : Flt) : Nat := max 1 (d.get (FL_ENFCFG_WMIN.at f))

/-- PASSES; 0 and 9 to 15 act as 8. -/
def Dev.enfPasses (d : Dev) (f : Flt) : Nat :=
  let p := d.get (FL_ENFCFG_PASSES.at f)
  if 1 ≤ p ∧ p ≤ 8 then p else 8

/-- Step of a class in 1/256 dm per tick (09 R241). -/
def Dev.enfStep (d : Dev) (f : Flt) (c : Nat) : Nat := (d.get ((FL_ENFCLASS_SPEED.ix c).at f) * 128 + 50) / 100

/-- MAXAGE of a class. -/
def Dev.maxAge (d : Dev) (f : Flt) (c : Nat) : Nat := d.get ((FL_ENFCLASS_MAXAGE.ix c).at f)

/-- Profile of a class at a signed distance in dm (09 R248). -/
def profile (peak pa ra pb rb : Nat) (x : Int) : Nat :=
  if 0 ≤ x then
    let n := x.toNat
    if n ≤ pa then peak else if pa + ra < n then 0 else (peak * (pa + ra - n) + ra / 2) / ra
  else
    let y := (-x).toNat
    if y ≤ pb then peak else if pb + rb < y then 0 else (peak * (pb + rb - y) + rb / 2) / rb

/-- Profile of a class by its registers (09 R248). -/
def Dev.prof (d : Dev) (f : Flt) (c : Nat) (x : Int) : Nat :=
  profile (d.get ((FL_ENFPEAK_PEAK.ix c).at f)) (d.get ((FL_ENFPROFA_PA.ix c).at f)) (d.get ((FL_ENFPROFA_RA.ix c).at f))
    (d.get ((FL_ENFPROFB_PB.ix c).at f)) (d.get ((FL_ENFPROFB_RB.ix c).at f)) x

/-! ## Wavelets (09 R240 to R244) -/

/-- Slots of the wavelet table (09 R240). -/
def waveSlots : Nat := 8192

/-- A wavelet that continues on an edge (09 R243). -/
def Wavelet.onto (w : Wavelet) (x wx : Nat) (branch : Bool) : Wavelet :=
  { w with
    edge := x, prev1 := some w.edge, prev2 := w.prev1, pos := 0, weight := wx
    trail := if branch then (w.trail ++ [x]).drop ((w.trail.length + 1) - 4) else w.trail }

/-- Children of a split take the lowest free slots in order (09 R240, R243). Answers the table and the slots taken. -/
def children (w : Wavelet) (branch : Bool) : List (Nat × Nat) → TickAcc → TickAcc × List Nat
  | [], a => (a, [])
  | (x, wx) :: t, a =>
    match freeEntry a.waves waveSlots with
    | none => children w branch t { a with full := a.full + 1 }
    | some s =>
      let r := children w branch t { a with waves := mput a.waves s (w.onto x wx branch) }
      (r.1, s :: r.2)

/-- Advance one wavelet by what remains of its step; answers the table and its children with what remains of theirs, in
the order of creation (09 R242). The fuel bounds the crossings. [log 59 DEDUCED] -/
def advance (c : Cfg) (turn : Nat → Nat) (wmin : Nat) :
    Nat → TickAcc → Nat → Nat → Nat → TickAcc × List (Nat × Nat × Nat)
  | 0, a, _, _, _ => (a, [])
  | n + 1, a, slot, rem, cross =>
    match mget? a.waves slot with
    | none => (a, [])
    | some w =>
      if w.stopped then ({ a with waves := mput a.waves slot { w with travel := w.travel + rem } }, [])
      else
        let left := c.len w.edge - w.pos
        if rem < left then ({ a with waves := mput a.waves slot { w with pos := w.pos + rem } }, [])
        else
          let rem' := rem - left
          let w' := { w with pos := c.len w.edge }
          if cross = 8 then ({ a with waves := mput a.waves slot w', trunc := a.trunc + 1 }, [])
          else
            let el := c.eligible (c.edge w.edge).head (some w.edge)
            if el = [] then ({ a with waves := mput a.waves slot { w' with stopped := true, travel := rem' } }, [])
            else
              let s := splitShares turn wmin w.weight el
              let branch := decide (2 ≤ el.length)
              let a1 := { a with trunc := a.trunc + s.2 }
              match s.1 with
              | [] => ({ a1 with waves := mdel a1.waves slot }, [])
              | (x, wx) :: others =>
                let k := children w' branch others { a1 with waves := mput a1.waves slot (w'.onto x wx branch) }
                let r := advance c turn wmin n k.1 slot rem' (cross + 1)
                (r.1, k.2.map (fun q => (q, rem', cross + 1)) ++ r.2)

/-- Advance a wavelet and then each of its children with all its descendants (09 R240). -/
def runWave (c : Cfg) (turn : Nat → Nat) (wmin : Nat) : Nat → TickAcc → Nat × Nat × Nat → TickAcc
  | 0, a, _ => a
  | n + 1, a, (slot, rem, cross) =>
    let r := advance c turn wmin 10 a slot rem cross
    r.2.foldl (fun a k => runWave c turn wmin n a k) r.1

/-- Step 2 of a tick of multiplicity m (09 R236, R240, R244). -/
def Dev.enfAdvance (d : Dev) (f : Flt) (m : Nat) : Dev :=
  let c := d.cfgOf f
  let e := (d.fl f).enf
  let a0 : TickAcc := ⟨e.waves.map fun w => (w.1, { w.2 with age := min (w.2.age + m) 0xFFFF }), 0, 0⟩
  let a := e.waves.foldl (fun a w => runWave c (e.turn c) (d.wmin f) 10 a (w.1, m * d.enfStep f w.2.cls, 0)) a0
  let dead (w : Wavelet) : Bool :=
    decide (d.maxAge f w.cls < w.age) ||
    (w.stopped && decide (d.get ((FL_ENFPROFB_PB.ix w.cls).at f) + d.get ((FL_ENFPROFB_RB.ix w.cls).at f) < w.travel / 256)) ||
    decide (w.weight < d.wmin f)
  ((d.updEnf f fun e => { e with waves := a.waves.filter fun w => !dead w.2, fails := e.fails + a.full }).inc
    (FL_ENFLOSS_FULL.at f) a.full).inc (FL_ENFLOSS_TRUNC.at f) a.trunc

/-! ## Triggers (09 R235) -/

/-- Latch the triggers at a snapshot (09 R235). -/
def Dev.enfLatch (d : Dev) (f : Flt) : Dev :=
  if !d.enfEn f then d
  else
    let x := d.fl f
    let one (e : EnfSt) (i : Nat × Injection) : EnfSt :=
      let p := x.pt i.2.trigger
      let ok := stQual p.status == qGood || stQual p.status == qForced
      if p.cls = 6 then
        if ok then
          let old := mget p.value e.cref i.1
          let n := min (p.value - old).toNat 4
          { e with
            cref := mput e.cref i.1 p.value
            latches := if x.enf.fresh || n == 0 then e.latches else mupd 0 e.latches i.1 (· + n) }
        else e
      else
        let on := ok && p.value.getLsbD 0
        let was := x.enf.on.contains i.1
        { e with
          on := (e.on.filter (· ≠ i.1)) ++ (if on then [i.1] else [])
          latches := if on && !was && !x.enf.fresh then mupd 0 e.latches i.1 (· + 1) else e.latches }
    d.updEnf f fun e => { (d.cfgOf f).injs.foldl one e with fresh := false }

/-! ## Lean mode (09 R260) -/

/-- Chain that serves a lantern (14 R374, R375). -/
def FlightSt.chainOf (x : FlightSt) (n : Nat) : Option Nat :=
  match mget? x.mac.nodes n with
  | some s => if s.joined then some s.chain else none
  | none => none

/-- Chains that serve a lantern whose reach table holds an injection point (09 R258). -/
def FlightSt.chainsFor (x : FlightSt) (inj : Nat) : List Nat :=
  ((x.enf.reach.filter fun r => r.2.entries.any fun e => e.inj == inj).filterMap fun r => x.chainOf r.1).dedup

/-- A chain in lean mode (09 R260). -/
def Dev.leanCh (d : Dev) (f : Flt) (n : Nat) : Bool := bitOf (d.get (FL_ENFSTAT_LEANCH.at f)) n

/-- Whether descriptors of an injection point are formed in lean mode. [log 64 DEDUCED] -/
def Dev.leanFor (d : Dev) (f : Flt) (inj : Nat) : Bool :=
  d.get (FL_ENFCTL_LEAN.at f) == 1 || ((d.fl f).chainsFor inj).any fun n => d.leanCh f n

/-- A chain enters or leaves lean mode (09 R260). -/
def Dev.setLean (d : Dev) (f : Flt) (n : Nat) (on : Bool) : Dev :=
  if d.leanCh f n == on then d
  else (d.put ⟨(FL_ENFSTAT_LEANCH.at f).key, 8 + n, 8 + n⟩ (b2n on)).raiseFl f .flEnfLean [n, b2n on]

/-- LEAN written: 1 puts every chain into lean mode, 2 takes every chain out of it, otherwise a chain leaves it after
LEANHOLD s without pressure (09 R260). -/
def Dev.leanWrite (d : Dev) (f : Flt) (v : Nat) : Dev :=
  let d1 := d.put (FL_ENFCTL_LEAN.at f) v
  let x := d.fl f
  (List.range 8).foldl (fun d n =>
    if v = 1 then d.setLean f n true
    else if v = 2 then d.setLean f n false
    else if x.mac.press.contains n then (d.setLean f n true).updEnf f fun e => { e with off := mdel e.off n }
    else if d.leanCh f n ∧ !mhas x.enf.off n then d.updEnf f fun e => { e with off := mput e.off n (x.mapTime + 1) }
    else d) d1

/-- A STATUS record tells of a chain's pressure (09 R260). -/
def Dev.leanPressure (d : Dev) (f : Flt) (n : Nat) (on : Bool) : Dev :=
  let auto := d.get (FL_ENFCTL_LEAN.at f) = 0 ∨ d.get (FL_ENFCTL_LEAN.at f) = 3
  if on then
    let d1 := d.updEnf f fun e => { e with off := mdel e.off n }
    if auto then d1.setLean f n true else d1
  else d.updEnf f fun e => if mhas e.off n then e else { e with off := mput e.off n ((d.fl f).mapTime + 1) }

/-- LEANHOLD s without pressure have passed (09 R260). -/
def Dev.leanExpiry (d : Dev) (f : Flt) (n : Nat) : Dev :=
  let auto := d.get (FL_ENFCTL_LEAN.at f) = 0 ∨ d.get (FL_ENFCTL_LEAN.at f) = 3
  let x := d.fl f
  match mget? x.enf.off n with
  | some t => if auto ∧ t - 1 + d.get (FL_ENFAIR2_LEANHOLD.at f) * 1000000000 ≤ x.mapTime then d.setLean f n false else d
  | none => d

/-! ## Descriptors (09 R258, R259) -/

/-- The twenty bytes of a descriptor (09 R258). -/
def Dev.descBytes (d : Dev) (f : Flt) (x : Desc) : List Byte :=
  le 2 x.inj ++ le 1 (x.cls + 4 * x.mask) ++ le 1 (b2n x.lean + 2 * b2n x.rep + 4 * b2n x.cancel) ++ le 8 x.time ++
    le 2 (d.get ((FL_ENFCLASS_SPEED.ix x.cls).at f)) ++ le 2 x.family ++ le 1 x.seq ++ le 1 (d.fl f).enf.epoch ++
    le 2 (d.maxAge f x.cls)

/-- Form a descriptor: it takes the next sequence of its injection point and is counted (09 R258). [log 59 DEDUCED; 60 DEDUCED] -/
def Dev.formDesc (d : Dev) (f : Flt) (inj cls mask : Nat) (rep cancel : Bool) (time family : Nat) : Dev :=
  let e := (d.fl f).enf
  let x : Desc := ⟨inj, cls, mask, d.leanFor f inj, rep, cancel, time, e.inTime, family, mget 0 e.seqs inj⟩
  (d.updEnf f fun e => { e with
    seqs := mput e.seqs inj ((x.seq + 1) % 256)
    descs := e.descs ++ [x]
    sent := if cancel then mdel e.sent family else mput e.sent family x }).incWrap (FL_ENFDESC_SENT.at f)

/-- Coalescing window in ns (09 R259, R260). -/
def Dev.windowNs (d : Dev) (f : Flt) (inj : Nat) : Nat :=
  (if d.leanFor f inj then d.get (FL_ENFAIR_LEANWIN.at f) else d.get (FL_ENFAIR_COALESCE.at f)) * 1000000

/-- Key of a coalescing window (09 R259). -/
def windowKey (inj cls mask : Nat) : Nat := inj * 64 + cls * 16 + mask

/-- Windows that have ended at the tick: a REPEAT for each that counted an event (09 R259). [log 59 DEDUCED] -/
def Dev.endWindows (d : Dev) (f : Flt) (t : Nat) : Dev :=
  ((d.fl f).enf.windows.filter fun w => decide (w.2.endsAt ≤ t)).foldl (fun d w =>
    let inj := w.1 / 64
    if w.2.events = 0 then d.updEnf f fun e => { e with windows := mdel e.windows w.1 }
    else
      let d1 := (d.formDesc f inj (w.1 / 16 % 4) (w.1 % 16) true false w.2.time w.2.family).incWrap
        (FL_ENFDESC_COALESCED.at f) (w.2.events - 1)
      d1.updEnf f fun e => { e with windows := mput e.windows w.1 ⟨t + d.windowNs f inj, 0, 0, 0⟩ }) d

/-- The descriptor of an event that injected: formed at once, or counted in an open window (09 R259). -/
def Dev.eventDesc (d : Dev) (f : Flt) (inj cls mask t family : Nat) : Dev :=
  let k := windowKey inj cls mask
  match mget? (d.fl f).enf.windows k with
  | some w => d.updEnf f fun e => { e with windows := mput e.windows k ⟨w.endsAt, w.events + 1, family, t⟩ }
  | none => (d.formDesc f inj cls mask false false t family).updEnf f fun e => { e with
      windows := mput e.windows k ⟨t + d.windowNs f inj, 0, 0, 0⟩ }

/-! ## Detections (09 R245, R246) -/

/-- The next family id (09 R240). -/
def EnfSt.nextFam (e : EnfSt) : Nat :=
  let used := e.waves.map (·.2.family)
  let cand := (List.range 65536).map fun i => (e.lastFam + 1 + i) % 65536
  (cand.find? fun n => !used.contains n).getD ((e.lastFam + 1) % 65536)

/-- A wavelet is at a node (09 R246). -/
def Cfg.waveAt (c : Cfg) (w : Wavelet) (v lim : Nat) : Bool :=
  ((c.edge w.edge).head == v && decide (c.len w.edge - w.pos ≤ lim)) ||
    ((c.edge w.edge).tail == v && decide (w.pos ≤ lim))

/-- The candidate of highest weight, ties to the lower family id (09 R246). -/
def bestWave (l : List Wavelet) : Option Wavelet :=
  l.foldl (fun b w => match b with
    | none => some w
    | some x => if x.weight < w.weight ∨ (x.weight = w.weight ∧ w.family < x.family) then some w else b) none

/-- Increment a turn counter; at 65,535 the counters of its tail node are halved first (09 R246). Answers the engine and
the edges changed. -/
def EnfSt.bump (e : EnfSt) (c : Cfg) (x : Nat) : EnfSt × List Nat :=
  if e.turn c x = 65535 then
    let outs := c.out (c.edge x).tail
    let e1 := outs.foldl (fun e y => e.setTurn c y ((e.turn c y + 1) / 2)) e
    (e1.setTurn c x (e1.turn c x + 1), x :: outs)
  else (e.setTurn c x (e.turn c x + 1), [x])

/-- Configured directions of an injection point as a mask (09 R232). -/
def Injection.conf (i : Injection) : Nat :=
  (List.range 4).foldl (fun m k => if ((i.dirs[k]?).getD none).isSome then m + 2 ^ k else m) 0

/-- Direction edges of a mask. -/
def Injection.dirEdges (i : Injection) (mask : Nat) : List Nat :=
  (List.range 4).filterMap fun k => if bitOf mask k then (i.dirs[k]?).getD none else none

/-- Class, direction mask, and whether the aux point gave them (09 R245). -/
def Dev.detClass (d : Dev) (f : Flt) (i : Injection) : Nat × Nat × Bool :=
  match i.aux with
  | none => (i.cls, i.mask &&& i.conf, false)
  | some n =>
    let p := mget Point.zero (d.fl f).enf.inPts n
    let m := bitsOf p.value.toNat 7 4 &&& i.conf
    if stQual p.status = qGood ∧ bitOf p.value.toNat 8 ∧ m ≠ 0 then (bitsOf p.value.toNat 1 0, m, true)
    else (i.cls, i.mask &&& i.conf, false)

/-- Matching of a detection (09 R246). Answers the machine, the class, the mask and the edges changed. -/
def Dev.enfMatch (d : Dev) (f : Flt) (i : Injection) (cls mask : Nat) (aux : Bool) : Dev × Nat × Nat × List Nat :=
  let c := d.cfgOf f
  let e := (d.fl f).enf
  let lim := d.get (FL_ENFMATCH_MATCH.at f) * 256
  match (if i.noMatch then none else bestWave ((e.waves.map (·.2)).filter fun w => c.waveAt w i.node lim)) with
  | none => (d, cls, mask, [])
  | some w =>
    let r := w.trail.foldl (fun (p : EnfSt × List Nat) x =>
      let q := p.1.bump c x
      (q.1, p.2 ++ q.2)) (e, [])
    let d1 := d.updEnf f fun _ => { r.1 with waves := r.1.waves.filter fun v => v.2.family ≠ w.family }
    let d2 := match mget? e.sent w.family with
      | some x =>
        if d.leanFor f x.inj then d1.updEnf f fun e => { e with sent := mdel e.sent w.family }
        else d1.formDesc f x.inj x.cls x.mask false true e.inTime w.family
      | none => d1
    let drop := (List.range 4).foldl (fun m k =>
      if (c.edge w.edge).rev.isSome ∧ (i.dirs[k]?).getD none = (c.edge w.edge).rev ∧ bitOf m k then m - 2 ^ k else m) mask
    (d2, if aux then cls else w.cls, if drop = 0 then mask else drop, r.2)

/-- One detection (09 R245, R246, R258). Answers the machine and the turn counters changed. -/
def Dev.detect (d : Dev) (f : Flt) (n : Nat) (i : Injection) (t : Nat) : Dev × List Nat :=
  let c := d.cfgOf f
  let k := d.detClass f i
  let r := d.enfMatch f i k.1 k.2.1 k.2.2
  let d1 := r.1
  let el := (i.dirEdges r.2.2.1).filter fun x => !(c.edge x).notravel
  let s := splitShares ((d1.fl f).enf.turn c) (d.wmin f) 65535 el
  let d2 := d1.inc (FL_ENFLOSS_TRUNC.at f) s.2
  match s.1 with
  | [] => (d2, r.2.2.2)
  | ws =>
    let fam := (d2.fl f).enf.nextFam
    let a := ws.foldl (fun (a : TickAcc) x =>
      match freeEntry a.waves waveSlots with
      | some sl => { a with waves := mput a.waves sl ⟨x.1, none, none, fam, 0, 0, x.2, n, r.2.1, false, 0, []⟩ }
      | none => { a with full := a.full + 1 }) ⟨(d2.fl f).enf.waves, 0, 0⟩
    let d3 := (d2.updEnf f fun e => { e with
      waves := a.waves, lastFam := fam, fails := e.fails + a.full, sent := mdel e.sent fam }).inc (FL_ENFLOSS_FULL.at f) a.full
    (if i.noradio then d3 else d3.eventDesc f n r.2.1 r.2.2.1 t fam, r.2.2.2)

/-- Every latched event as one detection, in ascending injection point (09 R245). -/
def Dev.detectAll (d : Dev) (f : Flt) (t : Nat) : Dev × List Nat :=
  let l := (d.fl f).enf.taken.flatMap fun e => List.replicate e.2 e.1
  l.foldl (fun (p : Dev × List Nat) n =>
    match mget? (d.cfgOf f).injs n with
    | some i =>
      let r := p.1.detect f n i t
      (r.1, p.2 ++ r.2)
    | none => p) (d, [])

/-- Ageing of the turn counters, once per local date (09 R247). Answers the machine and the counters changed. -/
def Dev.ageing (d : Dev) (f : Flt) (k t : Nat) : Dev × List Nat :=
  let c := d.cfgOf f
  let e := (d.fl f).enf
  let wall := c.tz.wall (c.tz.utc (t / 1000000000))
  let day := (wall / 86400).toNat
  let sh := d.get (FL_ENFMATCH_AGESHIFT.at f)
  if sh = 0 ∨ (wall % 86400).toNat < d.get (FL_ENFMATCH_AGEHOUR.at f) * 3600 ∨ e.ageDate = some day then (d, [])
  else
    let aged (x : Nat) : Nat := max 1 (e.turn c x - e.turn c x / 2 ^ sh)
    let ch := (c.edges.map (·.1)).filter fun x => aged x != e.turn c x
    ((d.updEnf f fun e => { ch.foldl (fun y x => y.setTurn c x (aged x)) e with ageDate := some day }).raiseFl f .flEnfAgeing
      [k, ch.length], ch)

/-! ## Demand (09 R248 to R251) -/

/-- A path's front: distance, node, weight and arrival edge. -/
abbrev Front := Nat × Nat × Nat × Nat

/-- Order in which nodes are settled: distance, lower node, greater weight, lower arrival edge (09 R249). -/
def frontLt (x y : Front) : Bool :=
  decide (x.1 < y.1 ∨ (x.1 = y.1 ∧ (x.2.1 < y.2.1 ∨ (x.2.1 = y.2.1 ∧ (x.2.2.1 > y.2.2.1 ∨
    (x.2.2.1 = y.2.2.1 ∧ x.2.2.2 < y.2.2.2))))))

/-- The next front to settle. -/
def nextFront (l : List Front) : Option Front :=
  l.foldl (fun b x => match b with
    | none => some x
    | some y => if frontLt x y then some x else b) none

/-- Settle nodes in order of distance up to a limit in dm; the fuel is the node limit. Answers the nodes settled and
whether the limit of nodes stopped the walk (09 R249). -/
def walk (c : Cfg) (turn : Nat → Nat) (lim : Nat) : Nat → List Front → List Front → List Front × Bool
  | 0, fr, done => (done, fr.any fun x => decide (x.1 / 256 ≤ lim))
  | n + 1, fr, done =>
    match nextFront fr with
    | none => (done, false)
    | some x =>
      if lim < x.1 / 256 then (done, false)
      else
        let ws := shares turn x.2.2.1 (c.eligible x.2.1 (some x.2.2.2))
        let fresh := ws.map fun s => ((x.1 + c.len s.1, (c.edge s.1).head, s.2, s.1) : Front)
        let done' := x :: done
        let fr' := (fr ++ fresh).filter fun y => !done'.any fun z => z.2.1 == y.2.1
        walk c turn lim n fr' done'

/-- Demand ahead of a wavelet, and whether its walk was cut (09 R249). [log 64 DEDUCED] -/
def Dev.ahead (d : Dev) (f : Flt) (w : Wavelet) (dem : Map Nat) : Map Nat × Bool :=
  let c := d.cfgOf f
  if w.stopped then (dem, false)
  else
    let lim := d.get ((FL_ENFPROFA_PA.ix w.cls).at f) + d.get ((FL_ENFPROFA_RA.ix w.cls).at f)
    let start : Front := (c.len w.edge - w.pos, (c.edge w.edge).head, w.weight, w.edge)
    let r := walk c ((d.fl f).enf.turn c) lim 64 [start] []
    (r.1.foldl (fun m x =>
      if x.2.1 < lpCount then mupd 0 m x.2.1 (max (d.prof f w.cls ((x.1 / 256 : Nat) : Int) * (x.2.2.1 + 1) / 65536)) else m) dem,
      r.2)

/-- Demand behind a wavelet (09 R250). -/
def Dev.behind (d : Dev) (f : Flt) (w : Wavelet) (dem : Map Nat) : Map Nat :=
  let c := d.cfgOf f
  let d0 := w.pos + w.travel
  let n0 := [(d0, (c.edge w.edge).tail)]
  let n1 := match w.prev1 with
    | some e => [(d0 + c.len e, (c.edge e).tail)]
    | none => []
  let n2 := match w.prev1, w.prev2 with
    | some e1, some e2 => [(d0 + c.len e1 + c.len e2, (c.edge e2).tail)]
    | _, _ => []
  (n0 ++ n1 ++ n2).foldl (fun m x =>
    if x.2 < lpCount then mupd 0 m x.2 (max (d.prof f w.cls (-((x.1 / 256 : Nat) : Int)))) else m) dem

/-- The demand field of all wavelets, and the walks cut (09 R249, R250). -/
def Dev.demand (d : Dev) (f : Flt) : Map Nat × Nat :=
  (d.fl f).enf.waves.foldl (fun (p : Map Nat × Nat) w =>
    let r := d.ahead f w.2 p.1
    (d.behind f w.2 r.1, p.2 + b2n r.2)) ([], 0)

/-- Combined level of a light point (09 R251). -/
def Dev.combined (d : Dev) (f : Flt) (n : Node) (dem : Nat) : Nat :=
  let pts := (d.fl f).enf.inPts
  let gated := match n.gate with
    | none => true
    | some g =>
      let p := mget Point.zero pts g
      stQual p.status == qBad || p.value.getLsbD 0
  let b := match n.base with
    | none => 0
    | some g =>
      let p := mget Point.zero pts g
      if stQual p.status = qBad ∨ stStale p.status then n.max
      else (clampI 0 4095 (if clsSigned p.cls then p.value.toInt else p.value.toNat)).toNat
  min (max (max b (if gated then dem else 0)) n.min) n.max

/-- Light points of the graph. -/
def Cfg.lps (c : Cfg) : List (Nat × Node) := c.nodes.filter fun n => decide (n.1 < lpCount)

/-! ## Relaxation (09 R252) -/

/-- One Jacobi pass. -/
def relaxPass (c : Cfg) (l : Map Nat) : Map Nat :=
  let up := (c.edges.filter fun e => e.2.cont).foldl (fun m e =>
    mupd 0 m e.2.head (max (mget 0 l e.2.tail * (256 - e.2.u) / 256))) l
  c.lps.foldl (fun m n => mupd 0 m n.1 (min n.2.max)) up

/-- Passes until nothing changes; answers the levels, the passes made and the levels that the last pass changed. -/
def relax (c : Cfg) : Nat → Map Nat → Nat → Map Nat × Nat × Nat
  | 0, l, n => (l, n, 0)
  | k + 1, l, n =>
    let l' := relaxPass c l
    let ch := (c.lps.filter fun p => mget 0 l p.1 != mget 0 l' p.1).length
    if ch = 0 then (l, n + 1, 0)
    else if k = 0 then (l', n + 1, ch)
    else relax c k l' (n + 1)

/-! ## Reach tables (09 R253 to R257) -/

/-- Walk from an injection point along direction edges (09 R253). [log 64 DEDUCED] -/
def Dev.reachWalk (d : Dev) (f : Flt) (dirs : List Nat) : List Front :=
  let c := d.cfgOf f
  let turn := (d.fl f).enf.turn c
  let el := dirs.filter fun x => !(c.edge x).notravel
  let fr := (shares turn 65535 el).map fun s => ((c.len s.1, (c.edge s.1).head, s.2, s.1) : Front)
  (walk c turn (d.get (FL_ENFREACH_RADIUS.at f)) 64 fr []).1

/-- A lantern's entry for an injection point: distance in dm, W16 and directions (09 R253, R254). -/
def Dev.reachOne (d : Dev) (f : Flt) (lp : Nat) (i : Injection) : Option (Nat × Nat × Nat) :=
  let mask := i.mask &&& i.conf
  if i.node = lp then some (0, 65535, mask)
  else
    match (d.reachWalk f (i.dirEdges mask)).find? fun x => x.2.1 == lp with
    | none => none
    | some x =>
      if x.2.2.1 < 1024 then none
      else
        let hit (k : Nat) : Bool := bitOf mask k && (d.reachWalk f (i.dirEdges (2 ^ k))).any fun y => y.2.1 == lp
        some (x.1 / 256, x.2.2.1, (List.range 4).foldl (fun m k => if hit k then m + 2 ^ k else m) 0)

/-- Insert a candidate by distance, greater W16, lower index (09 R253). -/
def candIns (x : Nat × Nat × Nat × Nat) : List (Nat × Nat × Nat × Nat) → List (Nat × Nat × Nat × Nat)
  | [] => [x]
  | y :: t => if y.2.1 < x.2.1 ∨ (y.2.1 = x.2.1 ∧ (y.2.2.1 > x.2.2.1 ∨ (y.2.2.1 = x.2.2.1 ∧ y.1 < x.1)))
      then y :: candIns x t else x :: y :: t

/-- The table of a lantern and the number of its candidates (09 R253, R254). -/
def Dev.reachTable (d : Dev) (f : Flt) (lp : Nat) : List ReachEntry × Nat :=
  let cands := (d.cfgOf f).injs.foldl (fun l i =>
    match d.reachOne f lp i.2 with
    | some r => candIns (i.1, r.1, r.2.1, r.2.2) l
    | none => l) []
  let entry (x : Nat × Nat × Nat × Nat) : ReachEntry :=
    let lead := min 255 ((x.2.1 * d.get (FL_ENFCFG_SPREAD.at f) + 2559) / 2560)
    ⟨x.1, x.2.1, min 255 ((x.2.2.1 + 2048) / 4096 * 16), x.2.2.2, lead, min 255 ((lead + 1) / 2)⟩
  ((cands.take 32).map entry, cands.length)

/-- The eight bytes of a reach entry (09 R254). -/
def ReachEntry.bytes (e : ReachEntry) : List Byte :=
  le 2 e.inj ++ le 2 e.dist ++ le 1 e.weight ++ le 1 e.dirs ++ le 1 e.lead ++ le 1 e.lag

/-- Table CRC over min, max and all entries (09 R255). -/
def reachCrc (n : Node) (l : List ReachEntry) : Nat := crc32c (le 2 n.min ++ le 2 n.max ++ l.flatMap ReachEntry.bytes)

/-- Structure CRC: the entries with weight bytes 0 (09 R257). -/
def structCrc (l : List ReachEntry) : Nat := crc32c (l.flatMap fun e => { e with weight := 0 }.bytes)

/-- Fragment i of a table. -/
def fragOf (l : List ReachEntry) (i : Nat) : List ReachEntry := (l.drop (8 * i)).take 8

/-- Show the reach registers. -/
def Dev.reachShow (d : Dev) (f : Flt) : Dev :=
  let e := (d.fl f).enf
  (d.put (FL_ENFREACHST_PENDING.at f) ((e.pushes ++ (d.fl f).mac.reachDue).map (·.1)).dedup.length).put (FL_ENFREACHST_TRUNC.at f)
    (e.reach.filter fun r => r.2.truncated).length

/-- Recompute one lantern's table and queue it for push when R257 says so (09 R253, R257). -/
def Dev.reachStep (d : Dev) (f : Flt) (k lp : Nat) : Dev :=
  let n := (d.cfgOf f).node lp
  let t := d.reachTable f lp
  let e := (d.fl f).enf
  let r := mget ReachState.zero e.reach lp
  let crc := reachCrc n t.1
  let sc := structCrc t.1
  let trunc := decide (32 < t.2)
  let lean := match (d.fl f).chainOf lp with
    | some ch => d.leanCh f ch
    | none => false
  let due := r.reported != some crc && !lean && (r.reported.isNone || (sc != r.structCrc && decide (r.pushTick + 400 ≤ k)) ||
    (sc == r.structCrc && decide (r.pushTick + 12000 ≤ k)))
  let frags := (List.range ((t.1.length + 7) / 8)).filter fun i => fragOf t.1 i != fragOf r.pushed i
  let frags := if frags = [] ∨ r.reported = none then List.range (max 1 ((t.1.length + 7) / 8)) else frags
  let r1 := { r with entries := t.1, truncated := trunc }
  let r2 := if due then
      { r1 with pushed := t.1, crc := crc, structCrc := sc, version := (r.version + 1) % 65536, pushTick := k } else r1
  let d1 := d.updEnf f fun e => { e with
    reach := mput e.reach lp r2
    pushes := if due then (e.pushes.filter fun p => p.1 ≠ lp) ++ frags.map fun i => (lp, i) else e.pushes }
  if trunc ∧ !e.truncated.contains lp then
    (d1.updEnf f fun e => { e with truncated := lp :: e.truncated }).raiseFl f .flEnfReachTrunc [lp, t.2]
      (n.level.map fun p => ((d.fl f).pt p).suite)
  else d1

/-- The sweep of step 7 (09 R257). -/
def Dev.reachSweep (d : Dev) (f : Flt) (k : Nat) : Dev :=
  let all := ((d.cfgOf f).lps.filter fun n => n.2.kind == 3).map (·.1)
  let e := (d.fl f).enf
  let l := ((all.filter fun n => decide (e.sweep ≤ n)) ++ all.filter fun n => decide (n < e.sweep)).take
    (8 * max 1 (d.get (FL_ENFREACH_SWEEP.at f)))
  let d1 := l.foldl (fun d n => d.reachStep f k n) d
  (match l.getLast? with
    | some n => d1.updEnf f fun e => { e with sweep := (n + 1) % lpCount }
    | none => d1).reachShow f

/-! ## The tick (09 R236, R239) -/

/-- The 32 bytes of a wavelet record (09 R240). -/
def Wavelet.bytes (w : Wavelet) : List Byte :=
  let state := w.cls + 4 * b2n w.stopped + 8 * b2n w.prev1.isSome + 16 * b2n w.prev2.isSome
  let trail := (w.trail ++ List.replicate 4 0).take 4
  le 2 w.edge ++ le 2 (w.prev1.getD 0) ++ le 2 (w.prev2.getD 0) ++ le 2 w.family ++ le 4 w.pos ++ le 4 w.travel ++
    le 2 w.weight ++ le 2 w.origin ++ le 1 state ++ le 1 w.trail.length ++ le 2 w.age ++ trail.flatMap (le 2)

/-- The tick checksum (09 R239). -/
def Dev.tickChk (d : Dev) (f : Flt) (k : Nat) (changed : List Nat) : Nat :=
  let e := (d.fl f).enf
  let edges := ((d.cfgOf f).edges.map (·.1)).filter fun x => changed.contains x
  crc64 (le 8 k ++ ((List.range lpCount).flatMap fun n => le 2 (mget 0 e.levels n)) ++
    (e.waves.flatMap fun w => le 2 w.1 ++ w.2.bytes) ++
    (edges.flatMap fun x => le 2 x ++ le 2 (e.turn (d.cfgOf f) x)) ++ e.descs.flatMap (d.descBytes f))

/-- EV_FL_ENF_TABLE_FULL, in a tick in which allocations fail, at most once per 60 s (09 R264). [log 61 DEDUCED] -/
def Dev.tableFull (d : Dev) (f : Flt) : Dev :=
  let x := d.fl f
  if x.enf.fails = 0 then d
  else
    let log := (x.enf.failLog.filter fun e => decide (x.grid < e.1 + 60 * cycPerSec)) ++ [(x.grid, x.enf.fails)]
    let d1 := d.updEnf f fun e => { e with fails := 0, failLog := log }
    if rateOk x.enf.fullAt x.grid (60 * cycPerSec) then
      (d1.updEnf f fun e => { e with fullAt := some x.grid }).raiseFl f .flEnfTableFull [(log.map (·.2)).sum]
    else d1

/-- EV_FL_ENF_NOCONV and its count (09 R252). -/
def Dev.noConv (d : Dev) (f : Flt) (k changing : Nat) : Dev :=
  if changing = 0 then d
  else
    let x := d.fl f
    let d1 := d.inc (FL_ENFRELAX_NOCONV.at f)
    if rateOk x.enf.noconvAt x.grid (60 * cycPerSec) then
      (d1.updEnf f fun e => { e with noconvAt := some x.grid }).raiseFl f .flEnfNoconv [k, changing]
    else d1

/-- The tick in progress runs to its end (09 R236). [log 59 DEDUCED] -/
def Dev.enfTick (d : Dev) (f : Flt) (dur : Nat) : Dev :=
  match (d.fl f).enf.due with
  | none => d
  | some (k, m) =>
    let c := d.cfgOf f
    let t := (d.fl f).enf.inTime
    let before := (d.fl f).enf
    let d0 := if before.turnReset then d.updEnf f fun e => { e with turns := [], turnReset := false } else d
    let reset := if before.turnReset then before.turns.map (·.1) else []
    let d1 := (d0.enfAdvance f m).endWindows f t
    let r := d1.detectAll f t
    let a := r.1.ageing f k t
    let dem := a.1.demand f
    let lvl := c.lps.foldl (fun l n => mset 0 l n.1 (a.1.combined f n.2 (mget 0 dem.1 n.1))) ([] : Map Nat)
    let rel := relax c (a.1.enfPasses f) lvl 0
    let d2 := (a.1.updEnf f fun e => { e with levels := rel.1, due := none, taken := [], inPts := [], tick := k, results := some m }).inc
      (FL_ENFLOSS_TRUNC.at f) dem.2
    let d3 := ((d2.put (FL_ENFRELAX_PASSES.at f) rel.2.1).noConv f k rel.2.2).tableFull f
    let d4 := d3.reachSweep f k
    let changed := reset ++ r.2 ++ a.2
    let chk := d4.tickChk f k (changed.filter fun x => (d4.fl f).enf.turn c x != before.turn c x)
    let n := (d4.fl f).enf.waves.length
    let w (k : Nat) (v : Nat) (d : Dev) : Dev := d.wr (f.key k) (BitVec.ofNat 32 v)
    let d5 := w FL_ENFTICKLO k (w FL_ENFTICKHI (k / 2 ^ 32) (w FL_ENFCHK chk (w (FL_ENFCHK + 4) (chk / 2 ^ 32) d4)))
    let d6 := (d5.put (FL_ENFWAV_ACTIVE.at f) n).put (FL_ENFWAV_PEAK.at f) (max n (d4.get (FL_ENFWAV_PEAK.at f)))
    let d7 := (d6.put (FL_ENFSTAT_RUN.at f) 0).put (FL_ENFSTAT_MULT.at f) m
    let last := min dur 0xFFFF
    ((d7.put (FL_ENFTIME_LAST.at f) last).put (FL_ENFTIME_MAX.at f) (max last (d4.get (FL_ENFTIME_MAX.at f)))).updFl f
      fun x => { x with chk := BitVec.ofNat 64 chk }

/-! ## At the snapshot (09 R234 to R238; 12 R327) -/

/-- Tick bound to the scan in progress: its number and multiplicity (09 R234). -/
def FlightSt.tickOf (x : FlightSt) : Option (Nat × Nat) :=
  match x.bootCycle with
  | none => none
  | some b =>
    let now := (x.grid - (b + 1)) / 200
    if x.scan = some 0 then some (now, now + 1)
    else
      let old := (x.prevGrid - (b + 1)) / 200
      if old < now then some (now, now - old) else none

/-- Energy of a light point of kind DALI or MESH, once for each tick of multiplicity (12 R327). [log 65 DEDUCED] -/
def Dev.lpEnergy (d : Dev) (f : Flt) (m : Nat) (n : Nat × Node) : Dev :=
  match n.2.ept with
  | none => d
  | some p =>
    if (n.2.kind = 2 ∨ n.2.kind = 3) ∧ n.2.pw ≠ 0 then
      let e := (d.fl f).enf
      let a := mget 0 e.energy n.1 + m * n.2.pw * d.curve n.2.curve (mget 0 e.levels n.1 * 16)
      let q := 47185200000
      let d1 := d.updEnf f fun e => { e with energy := mset 0 e.energy n.1 (a % q) }
      d1.updFl f fun x => x.load p (x.under p + BitVec.ofNat 32 (a / q)) qGood 8
    else d

/-- EV_FL_ENF_LATE by the path of R576 (09 R238). [log 63 DESIGN CHOICE] -/
def Dev.enfLate (d : Dev) (f : Flt) (k wait : Nat) : Dev :=
  let x := d.fl f
  let d1 := d.put (FL_ENFSTAT_LATE.at f) 1
  if rateOk x.enf.lateAt x.grid (60 * cycPerSec) then
    (d1.updEnf f fun e => { e with lateAt := some x.grid }).raiseTimed f .flEnfLate [k, wait]
  else d1

/-- The reach pushes of the tick enter the commit set of the scan that applies it; those of a lantern that has neither reported nor joined
since the start wait for it (09 R237, R257). [log 64 DEDUCED] -/
def FlightSt.pushesReady (x : FlightSt) : FlightSt :=
  let go (p : Nat × Nat) : Bool := (mget ReachState.zero x.enf.reach p.1).reported.isSome || (x.chainOf p.1).isSome
  { x with
    mac := { x.mac with descs := x.mac.descs ++ x.enf.descs, reachDue := x.mac.reachDue ++ x.enf.pushes.filter go }
    enf := { x.enf with results := none, descs := [], pushes := x.enf.pushes.filter fun p => !go p } }

/-- The snapshot of a scan that starts a tick waits for the tick before and applies its results (09 R237, R238, R262). [log 62 DEDUCED; 65 DEDUCED] -/
def Dev.enfApply (d : Dev) (f : Flt) (wait dur : Nat) : Dev :=
  match (d.fl f).tickOf with
  | none => d
  | some _ =>
    let d1 := match (d.fl f).enf.due with
      | some (k, _) => (d.enfTick f dur).enfLate f k wait
      | none => d.put (FL_ENFSTAT_LATE.at f) 0
    let d2 := match (d1.fl f).enf.results with
      | none => d1
      | some m =>
        let lv (d : Dev) (n : Nat × Node) : Dev :=
          match n.2.level with
          | some p => d.updFl f fun x => x.load p (BitVec.ofNat 32 (mget 0 x.enf.levels n.1)) qGood 8
          | none => d
        ((d.cfgOf f).lps.foldl (fun d n => (lv d n).lpEnergy f m n) d1).updFl f FlightSt.pushesReady
    if (d2.fl f).enf.stopping then
      (d2.updEnf f fun e => { e with stopping := false, waves := [], latches := [], lastFam := 65535 }).put (FL_ENFWAV_ACTIVE.at f) 0
    else d2

/-- A tick starts when phase 1 of its scan ends: it takes the latches and reads its points (09 R236). [log 63 DESIGN CHOICE] -/
def Dev.enfStart (d : Dev) (f : Flt) : Dev :=
  if !d.enfEn f then d
  else
    match (d.fl f).tickOf with
    | none => d
    | some km =>
      let x := d.fl f
      let c := d.cfgOf f
      let want := (c.lps.flatMap fun n => n.2.base.toList ++ n.2.gate.toList) ++ c.injs.flatMap fun i => i.2.aux.toList
      (d.updEnf f fun e => { e with
        due := some km, inTime := x.mapTime, taken := e.latches, latches := []
        inPts := want.foldl (fun m n => mput m n (x.pt n)) [] }).put (FL_ENFSTAT_RUN.at f) 1

/-! ## Enabling (09 R262, R263) -/

/-- EN written 1 (09 R262). -/
def Dev.enfEnable (d : Dev) (f : Flt) : Dev :=
  if d.enfEn f then d
  else ((d.put (FL_ENFCTL_EN.at f) 1).updEnf f fun e => { e with
    fresh := true, latches := [], lastFam := if e.waves = [] then 65535 else e.lastFam }).raiseFl f .flEnfState [1, 0]

/-- EN written 0, with or without FDIS (09 R262). [log 62 DEDUCED] -/
def Dev.enfDisable (d : Dev) (f : Flt) (forced : Bool) : Dev :=
  if !d.enfEn f then d
  else
    let d1 := (d.put (FL_ENFCTL_EN.at f) 0).updEnf f fun e => { e with stopping := true }
    let d2 := if forced then (d1.updEnf f fun e => { e with due := none, taken := [], inPts := [] }).put (FL_ENFSTAT_RUN.at f) 0
      else d1
    d2.raiseFl f .flEnfState [0, b2n forced]

/-- A write of FL_ENFCTL (09 R263). -/
def Dev.enfCtlWrite (d : Dev) (f : Flt) (v : W32) : Dev :=
  let d1 := if v.getLsbD 0 then d.enfEnable f else d.enfDisable f (v.getLsbD 1)
  let d2 := d1.leanWrite f (bitsOf v.toNat 3 2)
  if v.getLsbD 4 then d2.updEnf f fun e => { e with turnReset := true } else d2

/-- FL_TURNCNT[n] as read (09 R263). -/
def Dev.turnReg (d : Dev) (f : Flt) (n : Nat) : W32 :=
  let e := (d.fl f).enf
  BitVec.ofNat 32 (e.turn (d.cfgOf f) (2 * n) + 65536 * e.turn (d.cfgOf f) (2 * n + 1))

/-- FL_TURNCNT[n] written; a write of 0 stores 1 (09 R263). -/
def Dev.turnWrite (d : Dev) (f : Flt) (n : Nat) (v : W32) : Dev :=
  let c := d.cfgOf f
  d.updEnf f fun e => (e.setTurn c (2 * n) (max 1 (v.toNat % 65536))).setTurn c (2 * n + 1) (max 1 (v.toNat / 65536))

/-- A lantern's STATUS: its table CRC is what it holds, and a table that it holds is not sent; its level is verified (09 R257, R261). -/
def Dev.enfVerify (d : Dev) (f : Flt) (lp level crc : Nat) : Dev :=
  let e := (d.fl f).enf
  let want := mget 0 e.levels lp
  let r := mget ReachState.zero e.reach lp
  let held := crc = reachCrc ((d.cfgOf f).node lp) r.entries
  let d1 := (d.updFl f fun x => { x with
    enf := { x.enf with
      reach := mput x.enf.reach lp { r with reported := some crc }
      pushes := if held then x.enf.pushes.filter fun p => p.1 ≠ lp else x.enf.pushes }
    mac := { x.mac with
      reachDue := if held then x.mac.reachDue.filter fun p => p.1 ≠ lp else x.mac.reachDue
      queue := if held then x.mac.queue.filter fun h => !(h.kind == 0xB && h.dst == lp && h.stage == 0) else x.mac.queue } }).reachShow f
  let vern := d.get (FL_ENFVER_VERN.at f)
  let off := decide (d.get (FL_ENFVER_VERTOL.at f) < max (level - want) (want - level))
  let v := mget (0, false) e.vern lp
  if vern = 0 then d1
  else if !off then d1.updEnf f fun e => { e with vern := mdel e.vern lp }
  else
    let n := v.1 + 1
    if vern ≤ n ∧ !v.2 then
      (d1.updEnf f fun e => { e with vern := mput e.vern lp (n, true) }).raiseFl f .flEnfVerify [lp, level, want, n]
        (((d.cfgOf f).node lp).level.map fun p => ((d.fl f).pt p).suite)
    else d1.updEnf f fun e => { e with vern := mput e.vern lp (n, v.2) }

/-! ## Meanings -/

/-- ENFILADE_TICK: the tick in progress of a flight completes (09 R236). -/
def execEnfiladeTick (f : Flt) (dur : Nat) (s : State) : Host.Outcome State Fault Refusal := s.upd fun d => d.enfTick f dur

end Sys2Proof.Machine
end

