-- ==== Sys2Proof/Machine/Radio.lean ====
section
/-! DEFINITION. Loggia radio chains, the airtime tally, transmit requests, receptions and the Loggia's time
(chapter 13). -/

namespace Sys2Proof.Machine

/-! ## Chains -/

/-- Change the Loggia. -/
def Dev.updLg (d : Dev) (g : LoggiaSt → LoggiaSt) : Dev := { d with lg := g d.lg }

/-- A chain's state. -/
def Dev.rc (d : Dev) (n : Nat) : RadioChain := mget RadioChain.zero d.lg.chains n

/-- Change a chain's state, showing its queue (13 R358). -/
def Dev.updRc (d : Dev) (n : Nat) (g : RadioChain → RadioChain) : Dev :=
  let d1 := d.updLg fun x => { x with chains := mupd RadioChain.zero x.chains n g }
  d1.put (LG_CHSTAT_QUEUE.ix n) (d1.rc n).queue.length

/-- Chain states (13 R358). -/
def lsOff : Nat := 0
def lsIdle : Nat := 1
def lsTx : Nat := 3
def lsFault : Nat := 4

/-- STATE of a chain. -/
def Dev.lgs (d : Dev) (n : Nat) : Nat := d.get (LG_CHSTAT_STATE.ix n)

/-- Bit n of a field of LG_STAT. -/
def lgBit (x : Fld) (n : Nat) : Fld := ⟨x.key, x.lo + n, x.lo + n⟩

/-- Move a chain to a state and show it in LG_STAT. -/
def Dev.setLgs (d : Dev) (n st : Nat) : Dev :=
  (((d.put (LG_CHSTAT_STATE.ix n) st).put (lgBit LG_STAT_EN n) (b2n (d.bit (LG_CHCFG_EN.ix n)))).put (lgBit LG_STAT_TX n)
    (b2n (st == lsTx))).put (lgBit LG_STAT_FAULT n) (b2n (st == lsFault))

/-- Partner of a chain on its antenna port (13 R334). -/
def partner (n : Nat) : Nat := if n % 2 = 0 then n + 1 else n - 1

/-- Band entry of a chain. -/
def Dev.band (d : Dev) (n : Nat) : Nat := d.get (LG_CHCFG_BAND.ix n)

/-- The band hops. -/
def Dev.hop (d : Dev) (b : Nat) : Bool := d.bit (LG_BANDLIM_HOP.ix b)

/-! ## Airtime and the tally (13 R340, R344, R348 to R350) -/

/-- Symbol rate and bits per symbol of a rate code (13 R339). -/
def symRate (rate : Nat) : Nat × Nat :=
  match rate with
  | 0 => (50000, 1)
  | 1 => (100000, 1)
  | 2 => (150000, 1)
  | _ => (100000, 2)

/-- Airtime in µs of a frame (13 R340). -/
def airtime (preamble len rate : Nat) : Nat :=
  let p := symRate rate
  (8 * (preamble + 2) * 1000000 * p.2 + 8 * (2 + len) * 1000000 + p.1 * p.2 - 1) / (p.1 * p.2) + 20

/-- Ceiling of a class in % (13 R344). -/
def Dev.ceiling (d : Dev) (cls : Nat) : Nat :=
  match cls with
  | 0 | 1 => 100
  | 2 => 95
  | 3 => d.get LG_TALLYCFG_CEILN
  | _ => d.get LG_TALLYCFG_CEILB

/-- Budget of a duty band in µs (13 R348). -/
def Dev.budget (d : Dev) (b : Nat) : Nat := d.get (LG_BANDLIM_DUTY.ix b) * 360000

/-- Dwell limit in µs. -/
def Dev.dwellMax (d : Dev) : Nat := d.get LG_HOPCFG_DWELL * 1000

/-- Value of a bucket at field power-up (13 R350). -/
def Dev.initDuty (d : Dev) (b : Nat) : Nat := d.budget b / 3600
def Dev.initDwell (d : Dev) : Nat := d.dwellMax / 20

/-- Sum of n buckets of which the listed ones, current first, are known and the others hold their power-up value. -/
def bucketSum (n init : Nat) (l : List Nat) : Nat := (l.take n).sum + (n - l.length) * init

/-- Remaining airtime of admitted transmissions that a test selects. -/
def Dev.onAir (d : Dev) (sel : Nat → TxReq → Bool) : Nat :=
  ((List.range 8).map fun n => match (d.rc n).tx with
    | some r => if sel n r then (d.rc n).txAir - (d.rc n).txCounted else 0
    | none => 0).sum

/-- Window sum S of a duty band (13 R348). -/
def Dev.dutySum (d : Dev) (b : Nat) : Nat :=
  bucketSum 3601 (d.initDuty b) (mget [] d.lg.duty b) + d.onAir fun n _ => d.band n == b

/-- Dwell sum of a channel of a HOP band (13 R348). -/
def Dev.dwellSum (d : Dev) (b ch : Nat) : Nat :=
  bucketSum 21 d.initDwell (mget [] d.lg.dwell (b * 256 + ch)) + d.onAir fun n r => d.band n == b && r.channel == ch

/-- S as reported: the window sum, or the largest dwell sum in a HOP band (13 R353). -/
def Dev.lgSum (d : Dev) (b : Nat) : Nat :=
  if d.hop b then (List.range (d.get LG_HOPCFG_NCH)).foldl (fun m c => max m (d.dwellSum b c)) 0 else d.dutySum b

/-- Budget as reported (13 R353). -/
def Dev.lgBudget (d : Dev) (b : Nat) : Nat := if d.hop b then d.dwellMax else d.budget b

/-- The tally admits a request of airtime air (13 R348). -/
def Dev.admits (d : Dev) (n : Nat) (r : TxReq) (air : Nat) : Bool :=
  let b := d.band n
  if d.hop b then decide ((d.dwellSum b r.channel + air) * 100 ≤ d.ceiling r.cls * d.dwellMax)
  else decide ((d.dutySum b + air) * 100 ≤ d.ceiling r.cls * d.budget b)

/-- Add airtime to the current bucket. -/
def addHead (init x : Nat) : List Nat → List Nat
  | [] => [init + x]
  | a :: t => (a + x) :: t

/-- Count airtime of a chain's transmission in its band (13 R348). -/
def Dev.count (d : Dev) (n ch us : Nat) : Dev :=
  let b := d.band n
  d.updLg fun x => { x with
    duty := if d.hop b then x.duty else mput x.duty b (addHead (d.initDuty b) us (mget [] x.duty b))
    dwell := if d.hop b then mput x.dwell (b * 256 + ch) (addHead d.initDwell us (mget [] x.dwell (b * 256 + ch)))
      else x.dwell }

/-! ## Records and pressure (13 R350, R353) -/

/-- A record of a chain enters its LOGGIA_RX port. -/
def Dev.lgFrame (d : Dev) (n len : Nat) (b : FrameBody) : Dev := d.ingress ⟨0x06, n, 0, len, b⟩

/-- A STATUS record. -/
def Dev.lgStatusRec (d : Dev) (n : Nat) : Dev :=
  let b := d.band n
  let flags := d.get (LG_CHSTAT_PRESS.ix n) + 2 * d.get LG_TIMESTAT_LOCKED + 4 * b2n (d.lgs n == lsFault)
  d.lgFrame n 20 (.lgStatus n d.lg.secs flags b (d.rc n).queue.length (d.lgSum b) (d.lgBudget b))

/-- A REPORT record. -/
def Dev.lgReport (d : Dev) (n id outcome reason start air : Nat) : Dev :=
  d.lgFrame n 24 (.report n id outcome reason start air)

/-- Pressure of a chain set and cleared (13 R350). -/
def Dev.pressOne (d : Dev) (n : Nat) : Dev :=
  let b := d.band n
  let x := LG_CHSTAT_PRESS.ix n
  let s := d.lgSum b * 100
  let on := if d.bit x then decide (d.get LG_TALLYCFG_PRESSOFF * d.lgBudget b ≤ s)
    else decide (d.get LG_TALLYCFG_PRESSON * d.lgBudget b ≤ s)
  if !d.bit (LG_BANDLIM_VALID.ix b) || on == d.bit x then d
  else
    (((d.put x (b2n on)).put (lgBit LG_STAT_PRESS n) (b2n on)).raiseNw (.mk' .lgPressure [n, b, b2n on])).lgStatusRec n

/-- Window sums shown and pressure of every chain (13 R350, R358). -/
def Dev.pressure (d : Dev) : Dev :=
  let d1 := (List.range 8).foldl (fun d b =>
    if d.bit (LG_BANDLIM_VALID.ix b) then d.put (LG_TALLY_SUM.ix b) (d.lgSum b) else d) d
  (List.range 8).foldl (fun d n => d.pressOne n) d1

/-- EV_LG_TX_DROP, at most once per second per chain (13 R355). [log 82 DESIGN CHOICE] -/
def Dev.lgDrop (d : Dev) (n : Nat) : Dev :=
  let k := (d.rc n).dropN + 1
  let d1 := (d.inc (LG_CHSTAT_DROPS.ix n)).updRc n fun c => { c with dropN := k }
  if rateOk (d.rc n).dropAt d.nw.cycle cycPerSec then
    (d1.updRc n fun c => { c with dropN := 0, dropAt := some d.nw.cycle }).raiseNw (.mk' .lgTxDrop [n, k])
  else d1

/-! ## Requests (13 R343, R345 to R347) -/

/-- Least channel spacing of a rate in kHz (13 R339). -/
def leastSpacing (rate : Nat) : Nat := if rate = 0 then 200 else 400

/-- Why a request is refused at arrival: reason 1 to 7 of R353, in the order of R345. -/
def Dev.refusal (d : Dev) (r : TxReq) (now : Nat) : Option Nat :=
  let n := r.chain
  let b := d.band n
  let air := airtime r.preamble r.len r.rate
  let chans := if d.hop b then d.get LG_HOPCFG_NCH else d.get (LG_CHPLAN_COUNT.ix n) + 1
  let fcs := if r.fcs32 then 4 else 2
  let st := d.lgs n
  let whole := if d.hop b then d.dwellMax else d.budget b
  if n ≥ 8 ∨ st = lsOff ∨ st = lsFault ∨ d.bit (LG_CHCFG_RXONLY.ix n) ∨ d.get LG_PROFILE_PROFILE = 0 then some 1
  else if chans ≤ r.channel ∨ 3 < r.rate ∨ d.get (LG_CHPLAN_SPACING.ix n) * 25 < leastSpacing r.rate then some 2
  else if r.len < 5 ∨ 1000 < r.len ∨ r.preamble < 4 ∨ 262143 < r.preamble ∨ (r.ts ∧ r.len < r.tsoff + 8 + fcs) ∨ 4 < r.cls then
    some 3
  else if (d.rc n).queue.length ≥ 64 then some 4
  else if d.ceiling r.cls * whole < air * 100 then some 5
  else if r.start ≠ 0 ∧ !d.bit LG_TIMESTAT_LOCKED then some 6
  else if r.deadline < r.start ∨ now + 60000000000 < r.deadline then some 7
  else none

/-- EV_LG_REQ_REFUSED, at most once per second per chain (13 R359). -/
def Dev.lgRefused (d : Dev) (n id reason : Nat) : Dev :=
  let d1 := d.lgReport n id 5 reason 0 0
  if rateOk (d.rc n).refAt d.nw.cycle cycPerSec then
    (d1.updRc n fun c => { c with refAt := some d.nw.cycle }).raiseNw (.mk' .lgReqRefused [n, id, reason])
  else d1

/-- A request arrives at its chain (13 R345). [log 82 DESIGN CHOICE] -/
def Dev.reqArrives (d : Dev) (r : TxReq) (now : Nat) : Dev :=
  let n := r.chain
  match d.refusal r now with
  | some k => d.lgRefused n r.id k
  | none =>
    if r.strict ∧ r.start ≠ 0 ∧ r.start < now then (d.lgReport n r.id 2 1 0 0).lgDrop n
    else d.updRc n fun c => { c with queue := c.queue ++ [r] }

/-- Order of R346: ascending class, earliest deadline, arrival. -/
def reqBefore (x y : TxReq) : Bool := decide (x.cls < y.cls) || (x.cls == y.cls && decide (x.deadline < y.deadline))

/-- The best of the requests that a test admits, in R346's order. -/
def bestReq (ok : TxReq → Bool) (l : List TxReq) : Option TxReq :=
  l.foldl (fun best r => if ok r then
    match best with
    | none => some r
    | some x => if reqBefore r x then some r else best
    else best) none

/-- A chain is free (13 R346). -/
def Dev.chainFree (d : Dev) (n now : Nat) : Bool :=
  let c := d.rc n
  d.lgs n == lsIdle && c.tx.isNone && (d.rc (partner n)).tx.isNone && d.get LG_PROFILE_PROFILE != 0 &&
    match c.lastEnd with
    | some e => decide (e + 100000 ≤ now)
    | none => true

/-- A request is ready (13 R346). -/
def reqReady (r : TxReq) (now : Nat) : Bool := r.start == 0 || decide (r.start ≤ now + 100000)

/-- A request with start 0 would end too late for a queued STRICT request of the port (13 R346). -/
def Dev.strictBlocks (d : Dev) (n now : Nat) (r : TxReq) : Bool :=
  r.start == 0 && ((d.rc n).queue ++ (d.rc (partner n)).queue).any fun q =>
    q.strict && q.start != 0 && q.id != r.id && decide (q.start < now + airtime r.preamble r.len r.rate * 1000 + 100000)

/-- What a free chain would take: the first ready request that the tally admits (13 R346, R348). -/
def Dev.txBest (d : Dev) (n now : Nat) : Option TxReq :=
  if !d.chainFree n now then none
  else bestReq (fun r => reqReady r now && decide (now ≤ r.deadline) && !d.strictBlocks n now r &&
    d.admits n r (airtime r.preamble r.len r.rate) && !(r.strict && r.start != 0 && decide (r.start + 100000 < now))) (d.rc n).queue

/-- Whether the port partner goes first when both chains are free: the lower class, then the earlier deadline, then the lower chain (13 R346). -/
def Dev.partnerFirst (d : Dev) (n now : Nat) (r : TxReq) : Bool := match d.txBest (partner n) now with
  | some q => reqBefore q r || (!reqBefore r q && decide (partner n < n))
  | none => false

/-- Signed value of a byte field. -/
def Dev.getS8 (d : Dev) (x : Fld) : Int := (BitVec.ofNat 8 (d.get x)).toInt

/-- Power of a chain at its land in dBm: the lower of POWER and the band's PMAX less GAIN (13 R336). -/
def Dev.txPower (d : Dev) (n : Nat) : Int :=
  min ((d.get (LG_CHCFG_POWER.ix n) : Int) - 10) (d.getS8 (LG_BANDLIM_PMAX.ix (d.band n)) - d.getS8 (LG_PORTCFG_GAIN.ix (n / 2)))

/-- The PSDU as sent: with TS, the timestamp field holds the instant at which the last SFD bit leaves the land (13 R352). [log 82 DESIGN CHOICE] -/
def TxReq.sent (r : TxReq) (start : Nat) : List Byte :=
  if r.ts then r.psdu.take r.tsoff ++ le 8 (start + 8 * (r.preamble + 2) * 1000000000 / (symRate r.rate).1) ++ r.psdu.drop (r.tsoff + 8)
  else r.psdu

/-- A chain begins a request: PA-enable is asserted PALEAD before its first bit, and released PATAIL after its last (13 R337). -/
def Dev.txBegin (d : Dev) (n now : Nat) (r : TxReq) : Dev :=
  let air := airtime r.preamble r.len r.rate
  let t := if r.start = 0 then now else max r.start now
  let k := n / 2
  let d1 := d.updLg fun x => { x with pa := mput x.pa k (n, t - 1000 * d.get (LG_PORTCFG_PALEAD.ix k),
    t + 1000 * air + 1000 * d.get (LG_PORTCFG_PATAIL.ix k)) }
  ((d1.updRc n fun c => { c with
    queue := c.queue.erase r, tx := some r, txStart := t, txAir := air, txCounted := 0
    txPower := d.txPower n, txPsdu := r.sent t }).setLgs n lsTx).pressure

/-- A free chain takes its first ready request that the tally admits; where its port partner is free too, the one that goes first does (13
R334, R346, R348). [log 66 DESIGN CHOICE; 82 DESIGN CHOICE] -/
def Dev.txStart (d : Dev) (n now : Nat) : Dev := match d.txBest n now with
  | none => d
  | some r =>
    if d.partnerFirst n now r then
      match d.txBest (partner n) now with
      | some q => d.txBegin (partner n) now q
      | none => d
    else d.txBegin n now r

/-- PA-enable of a port is released at an instant (13 R337). -/
def Dev.paRelease (d : Dev) (n at_ : Nat) : Dev :=
  d.updLg fun x => { x with pa := match mget? x.pa (n / 2) with
    | some (c, a, b) => if c = n then mput x.pa (n / 2) (c, a, min b at_) else x.pa
    | none => x.pa }

/-- Level of land PAEN of a port (13 R337). -/
def Dev.paen (d : Dev) (k now : Nat) : Bool :=
  d.bit (LG_PORTCFG_POL.ix k) != (d.get LG_PROFILE_PROFILE != 0 && match mget? d.lg.pa k with
    | some (_, a, b) => decide (a ≤ now ∧ now < b)
    | none => false)

/-- Whether a receiver is blanked by its port partner: from the assertion of PA-enable until 20 µs after its release (13 R334). -/
def Dev.blanked (d : Dev) (n ts : Nat) : Bool := match mget? d.lg.pa (n / 2) with
  | some (c, a, b) => c == partner n && decide (a ≤ ts ∧ ts < b + 20000)
  | none => false

/-- Every queued request is reported RETURNED (13 R356). -/
def Dev.returnAll (d : Dev) (n reason : Nat) : Dev :=
  let q := (d.rc n).queue
  q.foldl (fun d r => d.lgReport n r.id 3 reason 0 0) (d.updRc n fun c => { c with queue := [] })

/-- A transmission ends (13 R353, R356). -/
def Dev.txEnd (d : Dev) (n now : Nat) : Dev :=
  match (d.rc n).tx with
  | none => d
  | some r =>
    let c := d.rc n
    let d1 := (d.count n r.channel (c.txAir - c.txCounted)).updRc n fun c => { c with tx := none, lastEnd := some now }
    let d2 := (d1.incWrap (LG_CHCNT_TX.ix n)).lgReport n r.id 0 0 c.txStart c.txAir
    let d3 := if c.offAtEnd then ((d2.updRc n fun c => { c with offAtEnd := false }).returnAll n 0).setLgs n lsOff
      else d2.setLgs n lsIdle
    d3.pressure

/-- Requests of a chain that a test selects end without transmission (13 R347): reason 0 where the tally holds them,
else 1. -/
def Dev.endQueued (d : Dev) (n outcome : Nat) (sel : TxReq → Bool) : Dev :=
  let gone := (d.rc n).queue.filter sel
  gone.foldl (fun d r =>
    (d.lgReport n r.id outcome (if d.admits n r (airtime r.preamble r.len r.rate) then 1 else 0) 0 0).lgDrop n)
    (d.updRc n fun c => { c with queue := c.queue.filter fun r => !sel r })

/-- A transmission is cut (13 R356, R357): TRUNCATED with the airtime up to the cut, or RETURNED before the first bit. -/
def Dev.txCut (d : Dev) (n reason now : Nat) : Dev :=
  match (d.rc n).tx with
  | none => d
  | some r =>
    let c := d.rc n
    let air := min ((now - c.txStart) / 1000) c.txAir
    let d1 := d.updRc n fun c => { c with tx := none, lastEnd := some now, offAtEnd := false }
    if now ≤ c.txStart then (d1.lgReport n r.id 3 reason 0 0).paRelease n now
    else ((d1.count n r.channel (air - c.txCounted)).lgReport n r.id 4 reason c.txStart air).paRelease n
      (now + 1000 * d.get (LG_PORTCFG_PATAIL.ix (n / 2)))

/-! ## Enables and faults (13 R356) -/

/-- LG_CHCFG.EN written 1; a disable that waits for the end of a frame is withdrawn (13 R356). [log 82 DESIGN CHOICE] -/
def Dev.chainEnable (d : Dev) (n : Nat) : Dev :=
  if d.bit (LG_CHCFG_EN.ix n) then d
  else
    let d1 := (d.put (LG_CHCFG_EN.ix n) 1).updRc n fun c => { c with offAtEnd := false }
    (d1.setLgs n (if (d.rc n).tx.isSome then lsTx else lsIdle)).pressure

/-- LG_CHCFG.EN written 0: the frame in transmission completes. -/
def Dev.chainDisable (d : Dev) (n : Nat) : Dev :=
  if !d.bit (LG_CHCFG_EN.ix n) then d
  else
    let d1 := d.put (LG_CHCFG_EN.ix n) 0
    if (d.rc n).tx.isSome then (d1.updRc n fun c => { c with offAtEnd := true }).setLgs n lsTx
    else (d1.returnAll n 0).setLgs n lsOff

/-- EN = 0 with FDIS, also where a disable already waits for the end of a frame. -/
def Dev.chainForced (d : Dev) (n now : Nat) : Dev :=
  if !d.bit (LG_CHCFG_EN.ix n) && !(d.rc n).offAtEnd then d
  else (((((d.put (LG_CHCFG_EN.ix n) 0).txCut n 0 now).returnAll n 0).setLgs n lsOff)).pressure

/-- A chain enters FAULT (13 R356): cause 1 lock lost, 2 loopback. -/
def Dev.chainFault (d : Dev) (n cause now : Nat) : Dev :=
  if d.lgs n = lsOff ∨ d.lgs n = lsFault then d
  else
    ((((d.txCut n 1 now).returnAll n 1).setLgs n lsFault).raiseNw (.mk' .lgChainFault [n, cause])).lgStatusRec n |>.pressure

/-- A retry of a chain in FAULT (13 R356). [log 82 DESIGN CHOICE] -/
def Dev.chainRetry (d0 : Dev) (n : Nat) (pass : Bool) : Dev :=
  let d := d0.sliceRun 0x16 1
  if d.lgs n ≠ lsFault ∨ !pass then d
  else
    let st := if d.bit (LG_CHCFG_EN.ix n) then lsIdle else lsOff
    ((d.setLgs n st).raiseNw (.mk' .lgChainState [n, lsFault, st])).lgStatusRec n

/-! ## Receptions (13 R334, R338, R353, R354) -/

/-- Bytes of RECEIVE records of a chain that its buffer holds while the Newel holds the crossing. -/
def Dev.rxHeld (d : Dev) (n : Nat) : Nat :=
  ((d.nw.source.filter fun fr => fr.kind == 0x06 && fr.port == n && match fr.body with
    | .receive .. => true
    | _ => false).map (·.length)).sum

/-- A frame reaches a chain's receiver, on its receive channel, which in a HOP band follows the slots, and at its receive rate. A chain shows IDLE, not RX, since a reception is one
step (13 R334, R358; 14 R363). [log 82 DESIGN CHOICE] -/
def Dev.reception (d : Dev) (n : Nat) (rx : RxFrame) : Dev :=
  let lost := d.inc (LG_CHSTAT_RXLOST.ix n)
  if d.lgs n ≠ lsIdle ∨ (!d.hop (d.band n) ∧ rx.channel ≠ d.get (LG_CHCFG_CHAN.ix n)) ∨ rx.rate ≠ d.get (LG_CHCFG_RATE.ix n) then d
  else if rx.cut || d.blanked n rx.ts then lost
  else if rx.modeSwitch ∨ rx.len < 5 ∨ 1000 < rx.len then lost
  else if !rx.fcsOk then d.inc (LG_CHCNT_BADFCS.ix n)
  else if 65536 < d.rxHeld n + 20 + rx.psdu.length then
    let k := (d.rc n).overN + 1
    let d1 := lost.updRc n fun c => { c with overN := k }
    if rateOk (d.rc n).overAt d.nw.cycle cycPerSec then
      (d1.updRc n fun c => { c with overN := 0, overAt := some d.nw.cycle }).raiseNw (.mk' .lgRxOverrun [n, k])
    else d1
  else
    let flags := b2n rx.fcs32 + 2 * b2n rx.whiten + 4 * b2n (!d.bit LG_TIMESTAT_LOCKED)
    (d.incWrap (LG_CHCNT_RX.ix n)).lgFrame n (20 + rx.psdu.length)
      (.receive n rx.ts rx.rate rx.channel rx.rssi flags rx.len rx.psdu)

/-! ## Bucket boundary and time (13 R348, R351) -/

/-- A bucket boundary: airtime up to it stays in the old bucket (13 R348, R353). -/
def Dev.tallyBucket (d : Dev) (now : Nat) : Dev :=
  let settle (d : Dev) (n : Nat) : Dev :=
    match (d.rc n).tx with
    | none => d
    | some r =>
      let c := d.rc n
      let air := min ((now - c.txStart) / 1000) c.txAir
      (d.count n r.channel (air - c.txCounted)).updRc n fun c => { c with txCounted := max c.txCounted air }
  let d1 := (List.range 8).foldl settle d
  let touch (init : Nat) (l : List Nat) : List Nat := if l = [] then [0, init] else 0 :: l
  let d2 := d1.updLg fun x => { x with
    secs := (x.secs + 1) % 2 ^ 32
    duty := (List.range 8).foldl (fun m b =>
      if d1.bit (LG_BANDLIM_VALID.ix b) && !d1.hop b then mput m b ((touch (d1.initDuty b) (mget [] m b)).take 3601) else m) x.duty
    dwell := ((List.range 8).filter fun b => d1.bit (LG_BANDLIM_VALID.ix b) && d1.hop b).foldl (fun m b =>
      (List.range (d1.get LG_HOPCFG_NCH)).foldl (fun m c =>
        mput m (b * 256 + c) ((touch d1.initDwell (mget [] m (b * 256 + c))).take 21)) m) x.dwell }
  let d3 := d2.pressure
  (List.range 8).foldl (fun d n => d.lgStatusRec n) d3

/-- The strobe of a Newel cycle boundary: the system time of the boundary, and LST as the Loggia's oscillator has
carried it there (13 R351). [log 81 DESIGN CHOICE] -/
def Dev.lgStrobe (d : Dev) (time lst : Nat) (holdover : Bool) : Dev :=
  let e : Int := (lst : Int) - time
  let d1 := (d.put LG_TIMESTAT_ERR ((clampI (-32767) 32767 e % 65536).toNat)).put LG_TIMESTAT_HOLDOVER (b2n holdover)
  let locked := d.bit LG_TIMESTAT_LOCKED
  let statusAll (d : Dev) : Dev := (List.range 8).foldl (fun d n => d.lgStatusRec n) d
  if !locked && d.lg.stepped && decide (e.natAbs ≤ 1000) then
    statusAll ((d1.updLg fun x => { x with lst := lst, slew := e }).put LG_TIMESTAT_LOCKED 1)
  else if !locked || decide (10000 < e.natAbs) then
    let d2 := (((d1.updLg fun x => { x with lst := time, stepped := true, slew := 0 }).put LG_TIMESTAT_LOCKED 0).inc
      LG_TIMESTAT_STEPS).raiseNw (.mk' .lgTime [-e, 0])
    if locked then statusAll d2 else d2
  else d1.updLg fun x => { x with lst := lst, slew := e }

/-! ## Meanings -/

/-- TX_REQUEST_ARRIVAL: the oldest request of the commits reaches its chain at LST now (13 R343, R345). -/
def execTxRequestArrival (now : Nat) (s : State) : Host.Outcome State Fault Refusal :=
  s.upd fun d => match d.lg.inbox with
    | [] => d
    | r :: t => if d.lg.paused then d else (d.updLg fun x => { x with inbox := t }).reqArrives r now

/-- TX_START (13 R346, R348). -/
def execTxStart (n now : Nat) (s : State) : Host.Outcome State Fault Refusal :=
  s.upd fun d => d.when (!d.lg.paused) fun d => d.txStart (n % 8) now

/-- TX_LATE_START: STRICT requests that could not begin within 100 µs after their start (13 R347). -/
def execTxLateStart (n now : Nat) (s : State) : Host.Outcome State Fault Refusal :=
  s.upd fun d => d.endQueued (n % 8) 2 fun r => r.strict && r.start != 0 && decide (r.start + 100000 < now)

/-- TX_DEADLINE: requests whose deadline has passed (13 R347). -/
def execTxDeadline (n now : Nat) (s : State) : Host.Outcome State Fault Refusal :=
  s.upd fun d => d.endQueued (n % 8) 1 fun r => decide (r.deadline < now)

/-- FRAME_RECEPTION (13 R352 to R354). -/
def execFrameReception (n : Nat) (rx : RxFrame) (s : State) : Host.Outcome State Fault Refusal :=
  s.upd fun d => d.when (!d.lg.paused) fun d => d.reception (n % 8) rx

/-- TALLY_BUCKET: a one-second bucket boundary at LST now (13 R348, R349). -/
def execTallyBucket (now : Nat) (s : State) : Host.Outcome State Fault Refusal := s.upd fun d => d.tallyBucket now

end Sys2Proof.Machine
end

