-- ==== Sys2Proof/Machine/Diag.lean ====
section
/-! DEFINITION. PWM periods, lamp diagnostics, probe pulses, spare channel cells, channel tests, energy counts and
metering (chapter 12). -/

namespace Sys2Proof.Machine

/-! ## Channel states (12 R313, R314) -/

def dsNodiag : Nat := 0
def dsOk : Nat := 1
def dsUntested : Nat := 2
def dsOpen : Nat := 3
def dsShort : Nat := 4
def dsOffshort : Nat := 5
def dsNoadc : Nat := 6

/-- Contribution of a state to GL_DIAGSUM. -/
def sumOpen (st : Nat) : Nat := b2n (st == dsOpen)
def sumShort (st : Nat) : Nat := b2n (st == dsShort || st == dsOffshort)

/-- A channel's diagnostic state, with the latched fault counts (12 R332). -/
def Dev.setDs (d : Dev) (n st : Nat) : Dev :=
  let old := d.get (chState n)
  ((d.put (chState n) st).put GL_DIAGSUM_OPEN (d.get GL_DIAGSUM_OPEN + sumOpen st - sumOpen old)).put GL_DIAGSUM_SHORT
    (d.get GL_DIAGSUM_SHORT + sumShort st - sumShort old)

/-- Show the largest of the three counters. -/
def Dev.showCnt (d : Dev) (n : Nat) : Dev :=
  let c := d.ch n
  d.put (GL_CHDSTAT_CNT.ix n) (max c.cOpen (max c.cShort c.cOff))

/-- Whether a channel's state is a latched fault. -/
def dsLatched (st : Nat) : Bool := st == dsOpen || st == dsShort || st == dsOffshort

/-- The enabled matrix of which a group is a column group (11 R302). -/
def Dev.mxOf (d : Dev) (g : Nat) : Option Nat :=
  if d.get (GL_GRPCFG_MODE.ix g) = 1 then
    d.matrices.find? fun m => decide (d.get (GL_MXCFG_COLBASE.ix m) ≤ g ∧ g ≤ d.get (GL_MXCFG_COLBASE.ix m) + d.get (GL_MXCFG_COLGRPS.ix m))
  else none

/-- Whether a channel is enabled: by its own register, or as a column of an enabled matrix (11 R299, R302). -/
def Dev.drives (d : Dev) (n : Nat) : Bool := if d.direct n then d.bit (chEn n) else (d.mxOf (grp n)).isSome

/-- State of a channel without a latched fault: OK after a good observation, UNTESTED before; NOADC where its ADC has failed (12 R314,
R325). [log 76 DESIGN CHOICE] -/
def Dev.dsClear (d : Dev) (n : Nat) : Nat :=
  if d.bit (GL_CHDIAG_EN.ix n) && d.drives n && decide (400 ≤ d.period (grp n)) then
    if d.gl.adcBad.contains (n / 8) then dsNoadc else if (d.ch n).everGood then dsOk else dsUntested
  else dsNodiag

/-- The compensation accumulator A (12 R318). [log 50 DESIGN CHOICE] -/
def Dev.acc (d : Dev) (n : Nat) : Nat := d.get (GL_CHDSTAT_COMP.ix n)

/-- Counters set to 0. -/
def Chan.zeroCnt (c : Chan) : Chan := { c with cOpen := 0, cShort := 0, cOff := 0, cGood := 0 }

/-- A latched fault is cleared (12 R314 to R316). -/
def Dev.dsCleared (d : Dev) (n : Nat) : Dev :=
  let old := d.get (chState n)
  let d1 := (d.updCh n Chan.zeroCnt).showCnt n
  ((d1.setDs n (d1.dsClear n)).raiseCh .glChCleared n [n, old])

/-- The fault of a kind is latched and the counters are set to 0 (12 R313, R314). [log 76 DESIGN CHOICE] -/
def Dev.latch (d : Dev) (n st : Nat) : Dev :=
  let d1 := ((d.updCh n Chan.zeroCnt).showCnt n).setDs n st
  if st = dsOpen then d1.raiseCh .glChOpen n [n, d.get (GL_CHSENSE_ON.ix n)]
  else if st = dsShort then
    (d1.put (GL_CHDSTAT_COMP.ix n) 0).raiseCh .glChShort n [n, d.get (GL_CHSENSE_RETRIES.ix n)]
  else d1.raiseCh .glChOffshort n [n, d.get (GL_CHSENSE_OFFV.ix n)]

/-- A good observation: UNTESTED becomes OK. -/
def Dev.good (d : Dev) (n : Nat) : Dev :=
  let d1 := d.updCh n fun c => { c with everGood := true }
  if d1.get (chState n) = dsUntested then d1.setDs n dsOk else d1

/-! ## Period starts (11 R288, R299; 12 R315 to R321) -/

/-- The land of a channel is no longer driven, and its diagnostics are cleared (12 R321). -/
def Dev.diagOff (d : Dev) (n : Nat) : Dev :=
  let d1 := (d.put (GL_CHDSTAT_COMP.ix n) 0).updCh n fun c => { c.zeroCnt with
    n := 0, on := 0, land := false, cutNow := false, tripped := false
    everGood := false, retry := false, probe := false, lastOn := none, sampled := false }
  ((d1.showCnt n).setDs n dsNodiag).put (GL_CHDSTAT_PROBING.ix n) 0

/-- Disable takes effect: land low, fade abandoned, diagnostics cleared (11 R299, 12 R321). -/
def Dev.chOff (d : Dev) (n : Nat) : Dev :=
  ((((d.put (chFading n) 0).put (GL_CHLVL_FS.ix n) 0).put (GL_CHLVL_OFF.ix n) 1).updCh n fun c => { c with
    disableAt := false, start := false }).diagOff n

/-- What the period that ends shows the short comparator: no trip is a good observation when it was armed (12 R312,
R315). -/
def Dev.periodEnds (d : Dev) (n : Nat) : Dev :=
  let c := d.ch n
  let armed := decide (40 < c.on) && !c.cutNow
  if c.retry && d.get (chState n) == dsShort && (c.tripped || decide (0 < c.on)) then
    if c.tripped then (d.inc (GL_CHSENSE_RETRIES.ix n)).updCh n fun c => { c with retry := false, tripped := false }
    else (d.updCh n fun c => { c with retry := false }).dsCleared n
  else if c.tripped then d.updCh n fun c => { c with tripped := false }
  else if armed && d.bit (GL_CHDIAG_EN.ix n) then ((d.updCh n fun c => { c with cShort := 0 }).showCnt n).good n
  else d

/-- Land-high cycles of a probe (12 R318). -/
def probeOn (presc : Nat) : Nat := presc * ((400 + presc - 1) / presc)

/-- Interval between on-samples of a probing channel, in periods (12 R320). -/
def probeInterval (nn r : Nat) : Nat := (max nn (r + 1) + 7) / 8 * 8

/-- EV_GL_PROBE_DEFER, at most once per channel per hour (12 R317). -/
def Dev.probeDefer (d : Dev) (n t nn tp s : Nat) : Dev :=
  let d1 := d.put (GL_CHDSTAT_DEFER.ix n) 1
  if rateOk (d.ch n).deferAt d.nw.cycle (3600 * cycPerSec) then
    (d1.updCh n fun c => { c with deferAt := some d.nw.cycle }).raiseCh .glProbeDefer n
      [n, probeInterval nn (max s ((tp - t + t - 1) / t))]
  else d1

/-- The on-time of the period that starts: probe, repayment or the latched on-time (12 R317 to R319). -/
def Dev.latchOn (d : Dev) (n k cnt : Nat) : Dev :=
  let g := grp n
  let presc := d.presc g
  let t := cnt * presc
  let c := d.ch n
  let s := d.get (GL_CHDIAG_SPREAD.ix n) + 1
  let nn := 2 ^ (d.get (GL_CHDIAG_NEXP.ix n) + 4)
  let a := d.acc n
  let probing := d.bit (GL_CHDIAG_EN.ix n) && d.bit (GL_CHDIAG_PROBE.ix n) && d.get (chState n) != dsShort &&
    decide (0 < t ∧ t < 400) && decide (400 ≤ d.period g)
  let wanted := probing && n % 8 == k % 8 && (match c.lastOn with | none => true | some m => decide (nn ≤ m + 1))
  let d1 := d.put (GL_CHDSTAT_PROBING.ix n) (b2n probing)
  let set (d : Dev) (on : Nat) (probe : Bool) : Dev := d.updCh n fun c => { c with
    on := on, land := decide (0 < on), probe := probe, cutNow := false, cum := (c.cum + on) % 2 ^ 64
    lastOn := c.lastOn.map (· + 1) }
  let tp := probeOn presc
  if wanted && a == 0 then
    set ((d1.put (GL_CHDSTAT_COMP.ix n) (tp - t)).put (GL_CHDSTAT_DEFER.ix n) 0) tp true
  else
    let d2 := if wanted then d1.probeDefer n t nn tp s else d1
    if a > 0 ∧ cnt > 0 then
      let q := c.q
      let r := min q a
      if r ≤ t then set (d2.put (GL_CHDSTAT_COMP.ix n) (a - r)) (t - r) false
      else set (d2.put (GL_CHDSTAT_COMP.ix n) (a - t)) 0 false
    else set d2 t false

/-- q of R318 for the debt that a probe leaves. -/
def probeQ (presc s a : Nat) : Nat := presc * ((a + s * presc - 1) / (s * presc))

/-- A period start of a channel whose spare cell waits: the spare takes the land now, or one period start later (12 R322, R324). -/
def Dev.spareTakes (d : Dev) (n : Nat) : Dev :=
  d.updCh n fun c => { c with spareIn := c.spareIn - 1, cellFault := c.cellFault && c.spareIn != 1 }

/-- Whether the land of a channel is held low by a test without a spare (12 R324). -/
def Dev.testLow (d : Dev) (n : Nat) : Bool :=
  match mget? d.gl.tests (grp n) with
  | some (c, _, low) => c == n && low
  | none => false

/-- Whether a supplied land of a running cell may be driven at all (11 R297, R305; 12 R322, R324). -/
def Dev.landFit (d : Dev) (n : Nat) : Bool :=
  d.get GL_DRVSTAT_SOURCE != 0 && !(d.ch n).cellFault && !d.testLow n && d.bit ⟨GL_BANKSTAT, grp n, grp n⟩

/-- The land is driven in the period that starts: a group without use holds its lands low, and a latched SHORT those of its own channel,
but not those of a matrix column (11 R299, R302; 12 R311, R314). [log 76 DESIGN CHOICE; 131 DEDUCED] -/
def Dev.landOk (d : Dev) (n : Nat) : Bool :=
  d.landFit n && d.drives n && match d.get (GL_GRPCFG_MODE.ix (grp n)) with
    | 0 => !(d.ch n).enableAt && (d.get (chState n) != dsShort || (d.ch n).retry)
    | 1 => true
    | _ => false

/-- What every period start of a channel brings first: the observation of the period that ends, CLR, and a spare that waits (12 R312,
R316, R322). -/
def Dev.periodTurns (d : Dev) (n : Nat) : Dev :=
  let d1 := d.periodEnds n
  let d2 := if (d1.ch n).clr then (d1.updCh n fun c => { c with clr := false }).dsCleared n else d1
  if 0 < (d2.ch n).spareIn then d2.spareTakes n else d2

/-- A period of an enabled channel with n counts (11 R288; 12 R317 to R319). -/
def Dev.chRun (d : Dev) (n k cnt : Nat) : Dev :=
  let d1 := if d.get (chState n) = dsNodiag then d.setDs n (d.dsClear n) else d
  let d2 := d1.updCh n fun c => { c with n := cnt }
  if d2.landOk n then
    let d3 := d2.latchOn n k cnt
    if (d3.ch n).probe then d3.updCh n fun c => { c with
      q := probeQ (d.presc (grp n)) (d.get (GL_CHDIAG_SPREAD.ix n) + 1) (d3.acc n) }
    else d3
  else d2.updCh n fun c => { c with on := 0, land := false, probe := false, cutNow := false, lastOn := c.lastOn.map (· + 1) }

/-- What a period start does with one channel. [log 76 DESIGN CHOICE] -/
def Dev.chPeriod (d : Dev) (n k : Nat) : Dev :=
  let d1 := d.periodTurns n
  if (d1.ch n).disableAt then d1.chOff n
  else if !d1.bit (chEn n) then d1
  else d1.chRun n k (ditherOn (d1.bit (GL_GRPCFG_DITHER.ix (grp n))) (d1.get (GL_CHDUTY_DUTY.ix n)) k)

/-- The next period of a group has its index (11 R287). -/
def Dev.nextPeriod (d : Dev) (g : Nat) : Dev :=
  d.updGl fun x => { x with k := mput x.k g (match mget? x.k g with
    | some k => k + 1
    | none => 0) }

/-- Period start of a group (11 R287, R288); the periods of column groups lie in their matrix's row slots (11 R303). [log 51 DESIGN CHOICE; 75 DESIGN CHOICE] -/
def Dev.periodStart (d : Dev) (g : Nat) : Dev :=
  if d.get (GL_GRPCFG_MODE.ix g) = 1 then d
  else
    let d1 := d.nextPeriod g
    (List.range 16).foldl (fun d i => d.chPeriod (16 * g + i) (mget 0 d1.gl.k g)) d1

/-! ## Matrices (11 R302 to R304) -/

/-- Channel of a matrix's first column (11 R302). -/
def Dev.mxFirst (d : Dev) (m : Nat) : Nat := 16 * d.get (GL_MXCFG_COLBASE.ix m)

/-- GL_MXCFG.EN written 1. -/
def Dev.mxEnable (d : Dev) (m : Nat) : Dev :=
  if d.bit (GL_MXCFG_EN.ix m) then d
  else
    let d1 := ((d.put (GL_MXCFG_EN.ix m) 1).put (GL_MXSTAT_RUN.ix m) 1).updGl fun x => { x with mxRun := mset false x.mxRun m false }
    ((d1.mxCells m).foldl (fun d i => d.updCell i fun c => { c with fl := 0, start := true }) d1).chDisableEv (0x100 + m) true
      false

/-- The matrix holds all its lands low, `cut` cycles of 2.5 ns into the row slot, and the diagnostics of its columns are cleared (11 R304;
12 R311, R321). -/
def Dev.mxLow (d : Dev) (m : Nat) (cut : Option Nat) : Dev :=
  let d1 := ((d.mxCells m).foldl (fun d i => d.updCell i fun c => { c with on := 0, fading := false, start := false }) d).put
    (GL_MXSTAT_RUN.ix m) 0
  let base := d.get (GL_MXCFG_ROWBASE.ix m)
  let d2 := d1.updGl fun x => { x with
    mxRun := mset false x.mxRun m false, slots := mdel x.slots m
    rows := x.rows.filter fun r => !(decide (base ≤ r ∧ r < base + d.mxRows m)) }
  (List.range (d.mxCols m)).foldl (fun (d : Dev) c =>
    let n := d.mxFirst m + c
    (match cut with
      | some t => d.landCut n t
      | none => d).diagOff n) d2

/-- GL_MXCFG.EN written 0: at the next row slot boundary, or at once with FDIS, also where a disable already waits. -/
def Dev.mxDisable (d : Dev) (m : Nat) (forced : Bool) (cut : Nat) : Dev :=
  if !d.bit (GL_MXCFG_EN.ix m) then (if forced && mget false d.gl.mxRun m then d.mxLow m (some cut) else d)
  else
    let d1 := d.put (GL_MXCFG_EN.ix m) 0
    (if forced then d1.mxLow m (some cut) else d1.updGl fun x => { x with mxRun := mset false x.mxRun m true }).chDisableEv (0x100 + m)
      false forced

/-- Precharge of a column: with PREPOL 1 its land is high for PRE (11 R303; 12 R326). -/
def Dev.precharge (d : Dev) (m n : Nat) : Dev :=
  if d.bit (GL_MXCFG_PREPOL.ix m) && d.landFit n then
    d.updCh n fun c => { c with cum := (c.cum + 4 * (d.get (GL_MXTIM_PRE.ix m) + 1)) % 2 ^ 64 }
  else d

/-- A column of the row slot that starts: its cell latches n, the frame count being k of R291, and its channel runs a period (11 R303, R304;
12 R311). [log 76 DESIGN CHOICE] -/
def Dev.colSlot (d : Dev) (m row c : Nat) : Dev :=
  let n := d.mxFirst m + c
  let i := m * 1024 + row * 64 + c
  let cnt := ditherOn (d.bit (GL_GRPCFG_DITHER.ix (d.get (GL_MXCFG_COLBASE.ix m)))) (d.cell i).duty (d.get (GL_MXSTAT_FRAMES.ix m))
  let d1 := d.updCell i fun x => { x with on := if d.get GL_DRVSTAT_SOURCE = 0 then 0 else cnt }
  ((d1.periodTurns n).precharge m n).chRun n (mget 0 d.gl.k (grp n)) cnt

/-- A row slot starts: the previous row goes low, and the next is lit after BLANK and PRE; after the last row a new frame begins (11 R302,
R303, R304). [log 75 DESIGN CHOICE] -/
def Dev.rowSlot (d : Dev) (m : Nat) : Dev :=
  if mget false d.gl.mxRun m then d.mxLow m none
  else if !d.bit (GL_MXCFG_EN.ix m) then d
  else
    let row := d.get (GL_MXSTAT_ROW.ix m)
    let last := row + 1 ≥ d.mxRows m
    let next := if last then 0 else row + 1
    let d1 := (d.put (GL_MXSTAT_ROW.ix m) next).put (GL_MXSTAT_RUN.ix m) 1
    let d2 := if last then d1.incWrap (GL_MXSTAT_FRAMES.ix m) else d1
    let base := d.get (GL_MXCFG_ROWBASE.ix m)
    let drv := base + next
    let lit := d.get GL_DRVSTAT_SOURCE != 0 && d.bit ⟨GL_BANKSTAT, drv, drv⟩
    let d3 := d2.updGl fun x => { x with
      rows := x.rows.filter (fun r => !(decide (base ≤ r ∧ r < base + d.mxRows m))) ++ (if lit then [drv] else [])
      slots := mput x.slots m (10 * d.get (GL_MXTIM_BLANK.ix m), 10 * (d.get (GL_MXTIM_PRE.ix m) + 1), d.bit (GL_MXCFG_PREPOL.ix m)) }
    let d4 := (List.range (d.get (GL_MXCFG_COLGRPS.ix m) + 1)).foldl (fun (d : Dev) i => d.nextPeriod (d.get (GL_MXCFG_COLBASE.ix m) + i)) d3
    (List.range (d.mxCols m)).foldl (fun d c => d.colSlot m next c) d4

/-! ## Samples (12 R310 to R314) -/

/-- Value of the four conversions (12 R310). -/
def sampleOf (conv : List Nat) : Nat := (conv.sum + 2) / 4

/-- An on-sample of a channel. -/
def Dev.onSample (d : Dev) (n m : Nat) : Dev :=
  let d1 := (d.put (GL_CHSENSE_ON.ix n) m).updCh n fun c => { c with lastOn := some 0, sampled := true }
  if m < d.get (GL_CHTHR_OPEN.ix n) * 16 then
    let d2 := (d1.updCh n fun c => { c with cOpen := c.cOpen + 1, cGood := 0 }).showCnt n
    if (d2.ch n).cOpen ≥ 3 ∧ d2.get (chState n) ≠ dsOpen then d2.latch n dsOpen
    else if (d2.ch n).cOpen ≥ 3 then (d2.updCh n Chan.zeroCnt).showCnt n
    else d2
  else
    let d2 := ((d1.updCh n fun c => { c with cOpen := 0, cGood := if d.get (chState n) = dsOpen then c.cGood + 1 else c.cGood
      }).showCnt n).good n
    if d2.get (chState n) = dsOpen ∧ (d2.ch n).cGood ≥ 3 then d2.dsCleared n else d2

/-- An off-sample of a channel. -/
def Dev.offSample (d : Dev) (n m : Nat) : Dev :=
  let d1 := d.put (GL_CHSENSE_OFFV.ix n) m
  if d.get (GL_CHTHR_OFF.ix n) * 16 ≤ m then
    let d2 := (d1.updCh n fun c => { c with cOff := c.cOff + 1, cGood := 0 }).showCnt n
    if (d2.ch n).cOff ≥ 3 ∧ d2.get (chState n) ≠ dsOffshort then d2.latch n dsOffshort
    else if (d2.ch n).cOff ≥ 3 then (d2.updCh n Chan.zeroCnt).showCnt n
    else d2
  else
    let d2 := ((d1.updCh n fun c => { c with cOff := 0, cGood := if d.get (chState n) = dsOffshort then c.cGood + 1 else c.cGood
      }).showCnt n).good n
    if d2.get (chState n) = dsOffshort ∧ (d2.ch n).cGood ≥ 3 then d2.dsCleared n else d2

/-- What the slot period of a channel yields (12 R311, R321). -/
def Dev.adcSample (d : Dev) (n : Nat) (conv : List Nat) : Dev :=
  let g := grp n
  let k := mget 0 d.gl.k g
  let c := d.ch n
  if d.bit (GL_CHDIAG_EN.ix n) && d.drives n && n % 8 == k % 8 && !c.tripped && !c.cutNow &&
      d.get GL_DRVSTAT_SOURCE != 0 && !d.gl.adcBad.contains (n / 8) && decide (400 ≤ d.period g) then
    if c.land && (c.probe || decide (400 ≤ c.on)) then d.onSample n (sampleOf conv)
    else if c.n == 0 && d.bit (GL_CHDIAG_OFFEN.ix n) then d.offSample n (sampleOf conv)
    else d
  else d

/-- The short comparator trips, `cut` cycles of 2.5 ns into the period, while it is armed: the land goes low for the rest of it, and a
channel with diagnostics counts the observation (12 R312, R321, R332). -/
def Dev.shortTrip (d : Dev) (n cut : Nat) : Dev :=
  let c := d.ch n
  if !c.land || c.tripped || decide (cut < 40 ∨ c.on < cut) then d
  else
    let d1 := ((d.landCut n cut).updCh n fun c => { c with tripped := true }).put (GL_CHDSTAT_COMP.ix n) (if c.probe then 0 else d.acc n)
    if c.retry || !d.bit (GL_CHDIAG_EN.ix n) then d1
    else
      let d2 := (d1.updCh n fun c => { c with cShort := c.cShort + 1, cGood := 0, probe := false }).showCnt n
      if (d2.ch n).cShort ≥ 3 then d2.latch n dsShort else d2

/-- SHORT_RETRY: a retry of a SHORT channel is due (12 R315). -/
def Dev.shortRetry (d : Dev) (n : Nat) : Dev :=
  if d.get (chState n) = dsShort ∧ d.get GL_DIAGCFG_SHRETRY ≠ 0 then d.updCh n fun c => { c with retry := true } else d

/-- DIAG_CLEAR: GL_CHDSTAT.CLR written 1 (12 R316). -/
def Dev.diagClear (d : Dev) (n : Nat) : Dev := d.updCh n fun c => { c with clr := true }

/-! ## Spare cells and channel tests (12 R322 to R325) -/

/-- The spare of a group is free: carrying nothing, not consumed and not defective. -/
def Dev.spareFree (d : Dev) (g : Nat) : Bool :=
  !d.bit (GL_SPARECELL_BUSY.ix g) && !d.bit (GL_SPARECELL_PERM.ix g) && !d.bit (GL_SPARECELL_DEFECT.ix g)

/-- The spare of a group is consumed by a channel (12 R322, R324; 03 R87). [log 76 DESIGN CHOICE] -/
def Dev.spareConsume (d : Dev) (g n : Nat) : Dev :=
  (((d.put (GL_SPARECELL_CHAN.ix g) n).put (GL_SPARECELL_PERM.ix g) 1).put (GL_SPARECELL_BUSY.ix g) 0).spareExhausted 6
    ⟨FY_SPAREBUD1, g, g⟩

/-- The spare of a group fails its own test: it is marked DEFECT and its budget bit clears (12 R323; 03 R87). -/
def Dev.spareDefect (d : Dev) (g : Nat) : Dev := (d.put (GL_SPARECELL_DEFECT.ix g) 1).spareExhausted 6 ⟨FY_SPAREBUD1, g, g⟩

/-- A channel test ends (12 R324, R332). -/
def Dev.testEnds (d : Dev) (n : Nat) (reg : Bool) (outcome : Nat) : Dev :=
  let g := grp n
  let d1 := (d.updGl fun x => { x with tests := mdel x.tests g }).put (GL_SPARECELL_BUSY.ix g) 0
  if reg then
    (((d1.put GL_CHTEST_BUSY 0).put GL_CHTEST_DONE 1).put GL_CHTEST_OUTCOME outcome).put GL_CHTEST_RESULT E_OK
  else d1

/-- A channel cell detects a parity error and stops, `cut` cycles into its period; a test that its group's spare serves is aborted, and
then the spare comes one period start later (12 R322, R324). -/
def Dev.cellParity (d : Dev) (n cut : Nat) : Dev :=
  let g := grp n
  let serves : Bool := match mget? d.gl.tests g with
    | some (_, _, low) => !low
    | none => false
  let d1 := match mget? d.gl.tests g with
    | some (c, reg, low) => if low then d else (d.testEnds c reg 3).raiseCh .glCellTest c [c, 3]
    | none => d
  let d2 := (d1.landCut n cut).updCh n fun c => { c with cellFault := true }
  if d2.spareFree g then
    ((((d2.updCh n fun c => { c.zeroCnt with spareIn := if serves then 2 else 1 }).showCnt n).put (GL_CHDSTAT_COMP.ix n) 0).spareConsume g
      n).raiseCh .glCellSpared n [n, g]
  else d2.raiseCh .glCellFault n [n, g]

/-- A channel test begins (12 R324 steps 1 and 2). A request that is refused ends at once: GL_CHTEST shows it, also while another test goes
on. Answers the status. [log 76 DESIGN CHOICE] -/
def Dev.testStart (d : Dev) (n : Nat) (force reg : Bool) : Dev × Nat :=
  let g := grp n
  let refused : Dev × Nat := (if reg then (d.put GL_CHTEST_DONE 1).put GL_CHTEST_RESULT E_BUSY_SERVICE else d, E_BUSY_SERVICE)
  if (reg && d.bit GL_CHTEST_BUSY) || mhas d.gl.tests g then refused
  else
    let show1 (d : Dev) : Dev := if reg then d.put GL_CHTEST_BUSY 1 else d
    if d.spareFree g then
      (show1 (((d.updGl fun x => { x with tests := mput x.tests g (n, reg, false) }).put (GL_SPARECELL_CHAN.ix g) n).put
        (GL_SPARECELL_BUSY.ix g) 1), E_OK)
    else if force then (show1 (d.updGl fun x => { x with tests := mput x.tests g (n, reg, true) }), E_OK)
    else refused

/-- The test of the vacated cell ends (12 R324 steps 3 and 4). -/
def Dev.testDone (d : Dev) (n : Nat) (pass : Bool) : Dev :=
  let g := grp n
  match mget? d.gl.tests g with
  | none => d
  | some (c, reg, low) =>
    let d1 := d.sliceRun 0x14 1
    if c ≠ n then d
    else if pass then (d1.testEnds n reg 0).raiseCh .glCellTest n [n, 0]
    else if low then
      ((d1.testEnds n reg 2).updCh n fun c => { c with cellFault := true }).raiseCh .glCellFault n [n, g]
    else ((d1.testEnds n reg 1).spareConsume g n).raiseCh .glCellSpared n [n, g]

/-- The next channel of the rotation: enabled, in a group whose spare is free (12 R325). -/
def Dev.rotation (d : Dev) : Option Nat :=
  let from_ := d.gl.rotNext
  ((List.range 256).map fun i => (from_ + i) % 256).find? fun n => d.drives n && d.spareFree (grp n)

/-- A step of the rotation: the free spare is tested first, then a channel test starts (12 R323, R325). -/
def Dev.rotate (d : Dev) (spareOk : Bool) : Dev :=
  if d.get GL_DIAGCFG_ROTATE = 0 then d
  else match d.rotation with
    | none => d
    | some n =>
      let d1 := d.updGl fun x => { x with rotNext := (n + 1) % 256 }
      if spareOk then ((d1.sliceRun 0x14 1).testStart n false false).1 else d1.spareDefect (grp n)

/-- The internal reference of an ADC is converted. One that fails stays out of use, and its channels show NOADC, but for a latched SHORT,
which the comparator alone decides (12 R325). [log 76 DESIGN CHOICE] -/
def Dev.adcCheck (d : Dev) (a : Nat) (ok : Bool) : Dev :=
  let d0 := d.sliceRun 0x15 1
  if ok || d.gl.adcBad.contains a then d0
  else
    let d1 := d0.updGl fun x => { x with adcBad := x.adcBad ++ [a] }
    ((List.range 8).foldl (fun (d : Dev) i => if d.get (chState (8 * a + i)) = dsShort then d else d.setDs (8 * a + i) dsNoadc) d1).raiseNw
      (.mk' .glAdcFault [a])

/-! ## Metering and sample frames (12 R326, R329 to R331) -/

/-- A refresh of a metering input (12 R329): the measured values are the 12 phase quantities and 4 energies of R331
after the frequency; the flags of byte 6 follow. -/
def Dev.meterRefresh (d : Dev) (m phok rev : Nat) (seqWrong : Bool) (vals : List Int) : Dev :=
  if !d.bit (GL_MTRCFG_EN.ix m) then d
  else
    let chg := d.get (GL_MTRSTAT_PHOK.ix m) ≠ phok % 8 ∨ d.get (GL_MTRSTAT_REV.ix m) ≠ rev % 8 ∨
      d.bit (GL_MTRSTAT_SEQ.ix m) ≠ seqWrong
    let d1 := (((d.put (GL_MTRSTAT_PHOK.ix m) phok).put (GL_MTRSTAT_REV.ix m) rev).put (GL_MTRSTAT_SEQ.ix m)
      (b2n seqWrong)).updGl fun x => { x with
        meters := mput x.meters m ((List.range 17).map (fun i => vals.getD i 0) ++ [((phok % 8 + 8 * (rev % 8) + 64 * b2n seqWrong : Nat) : Int)]) }
    if chg then d1.raiseNw (.mk' .glMtrPhase [m, (phok % 8 : Nat), (rev % 8 : Nat), b2n seqWrong]) else d1

/-- Entry of a GALLERY_SAMPLE frame for a channel (12 R330). -/
def Dev.sampleEntry (d : Dev) (n : Nat) : SampleEntry :=
  let g := grp n
  let spare := d.get (GL_SPARECELL_CHAN.ix g) == n && (d.bit (GL_SPARECELL_BUSY.ix g) || d.bit (GL_SPARECELL_PERM.ix g))
  { state := d.get (chState n)
    flags := d.get (GL_CHDSTAT_PROBING.ix n) + 2 * b2n spare + 4 * d.get (GL_CHDSTAT_DEFER.ix n)
    on := d.get (GL_CHSENSE_ON.ix n), off := d.get (GL_CHSENSE_OFFV.ix n), cum := (d.ch n).cum }

/-- Next block number of a sample port. -/
def Dev.nextBlock (d : Dev) (port : Nat) : Dev :=
  d.updGl fun x => { x with blocks := mset 0 x.blocks port ((mget 0 x.blocks port + 1) % 2 ^ 32) }

/-- A sample block of ADC a (12 R330). -/
def Dev.sampleEmit (d : Dev) (a : Nat) : Dev :=
  (d.ingress ⟨0x04, a, 0, 136, .sample a (mget 0 d.gl.blocks a) ((List.range 8).map fun i => d.sampleEntry (8 * a + i))⟩).nextBlock a

/-- A metering frame of input m (12 R331). -/
def Dev.meterEmit (d : Dev) (m : Nat) : Dev :=
  ((d.ingress ⟨0x04, 32 + m, 0, 88, .meter (32 + m) (mget 0 d.gl.blocks (32 + m)) (mget [] d.gl.meters m)⟩).nextBlock (32 + m)).incWrap
    (GL_MTRSTAT_BLOCKS.ix m)

/-! ## Meanings -/

/-- PWM_PERIOD_START of a group (11 R288). -/
def execPwmPeriodStart (g : Nat) (s : State) : Host.Outcome State Fault Refusal :=
  s.upd fun d => d.when (!d.gl.paused) fun d => d.periodStart (g % 16)

/-- ADC_SAMPLE: the four conversions of the slot channel (12 R310). -/
def execAdcSample (n : Nat) (conv : List Nat) (s : State) : Host.Outcome State Fault Refusal :=
  s.upd fun d => d.when (!d.gl.paused) fun d => d.adcSample (n % 256) conv

/-- ROW_SLOT_START (11 R303, R304). -/
def execRowSlotStart (m : Nat) (s : State) : Host.Outcome State Fault Refusal := s.upd fun d => d.when (!d.gl.paused) fun d => d.rowSlot (m % 4)

/-- MATRIX_ENABLE (11 R304). -/
def execMatrixEnable (m : Nat) (s : State) : Host.Outcome State Fault Refusal := s.upd fun d => d.mxEnable (m % 4)

/-- MATRIX_DISABLE (11 R304). -/
def execMatrixDisable (m : Nat) (s : State) : Host.Outcome State Fault Refusal := s.upd fun d => d.mxDisable (m % 4) false 0

/-- MATRIX_FORCED_DISABLE, `cut` cycles of 2.5 ns into the row slot's period (11 R304). -/
def execMatrixForcedDisable (m cut : Nat) (s : State) : Host.Outcome State Fault Refusal := s.upd fun d => d.mxDisable (m % 4) true cut

/-- SHORT_COMPARATOR_TRIP (12 R312). -/
def execShortComparatorTrip (n cut : Nat) (s : State) : Host.Outcome State Fault Refusal :=
  s.upd fun d => d.shortTrip (n % 256) cut

/-- SHORT_RETRY (12 R315). [log 4 DESIGN CHOICE] -/
def execShortRetry (n : Nat) (s : State) : Host.Outcome State Fault Refusal := s.upd fun d => d.shortRetry (n % 256)

/-- DIAG_CLEAR (12 R316). -/
def execDiagClear (n : Nat) (s : State) : Host.Outcome State Fault Refusal := s.upd fun d => d.diagClear (n % 256)

/-- CELL_PARITY_ERROR, `cut` cycles of 2.5 ns into the period (12 R322). -/
def execCellParityError (n cut : Nat) (s : State) : Host.Outcome State Fault Refusal := s.upd fun d => d.cellParity (n % 256) cut

/-- CHANNEL_TEST: GL_CHTEST written with START (12 R324). -/
def execChannelTest (n : Nat) (force : Bool) (s : State) : Host.Outcome State Fault Refusal :=
  s.upd fun d => ((d.put GL_CHTEST_CHAN n).testStart (n % 256) force true).1

/-- CHANNEL_TEST_DONE (12 R324). -/
def execChannelTestDone (n : Nat) (pass : Bool) (s : State) : Host.Outcome State Fault Refusal :=
  s.upd fun d => d.testDone (n % 256) pass

/-- ROTATION_TEST; `spareOk` is the outcome of the spare's test on its internal load (12 R323, R325). -/
def execRotationTest (spareOk : Bool) (s : State) : Host.Outcome State Fault Refusal :=
  s.upd fun d => d.when (!d.gl.paused) fun d => d.rotate spareOk

/-- ADC_REFERENCE_CHECK (12 R325). -/
def execAdcReferenceCheck (a : Nat) (ok : Bool) (s : State) : Host.Outcome State Fault Refusal :=
  s.upd fun d => d.when (!d.gl.paused) fun d => d.adcCheck (a % 32) ok

/-- METER_REFRESH (12 R329). -/
def execMeterRefresh (m phok rev : Nat) (seqWrong : Bool) (vals : List Int) (s : State) : Host.Outcome State Fault Refusal :=
  s.upd fun d => d.when (!d.gl.paused) fun d => d.meterRefresh (m % 2) phok rev seqWrong vals

/-- GALLERY_SAMPLE_EMIT: at Newel cycles c with c mod 4 = a mod 4 (12 R330). -/
def execGallerySampleEmit (a : Nat) (s : State) : Host.Outcome State Fault Refusal :=
  s.upd fun d => d.when (!d.gl.paused && d.nw.cycle % 4 == a % 4) fun d => d.sampleEmit (a % 32)

/-- METERING_FRAME_EMIT: at Newel cycles c with c mod 40 = m (12 R331). -/
def execMeteringFrameEmit (m : Nat) (s : State) : Host.Outcome State Fault Refusal :=
  s.upd fun d => d.when (!d.gl.paused && d.nw.cycle % 40 == m % 2) fun d => d.meterEmit (m % 2)

end Sys2Proof.Machine
end

