-- ==== Sys2Proof/Machine/Sha.lean ====
section
/-! DEFINITION. SHA-256 (FIPS 180-4), the digest of measured boot, of the images and of the link section (02 R52; 08 R224;
18 R486; 20 R546). -/

namespace Sys2Proof.Machine

/-- Greatest r below start + 2^bits whose power r^k does not exceed n, searched bit by bit from the top. -/
def rootSearch (k n : Nat) : Nat → Nat → Nat
  | 0, r => r
  | b + 1, r => rootSearch k n b (if (r + 2 ^ b) ^ k ≤ n then r + 2 ^ b else r)

/-- First 32 bits of the fractional part of the k-th root of a number below 2^12, as FIPS 180-4 forms its constants. -/
def rootFraction (k p : Nat) : W32 := BitVec.ofNat 32 (rootSearch k (p * 2 ^ (32 * k)) 44 0)

/-- The primes below 312: there are 64. -/
def shaPrimes : List Nat := (List.range 312).filter fun p => 1 < p && (List.range p).all fun q => q < 2 || p % q != 0

/-- The round constants: from the cube roots of the first 64 primes. -/
def shaRoundConstants : List W32 := shaPrimes.map (rootFraction 3)

/-- The hash value before the first block: from the square roots of the first 8 primes. -/
def shaStart : List W32 := (shaPrimes.take 8).map (rootFraction 2)

/-- A big-endian word of four bytes. -/
def beWord (bs : List Byte) : W32 := BitVec.ofNat 32 (bs.foldl (fun a b => a * 256 + b.toNat) 0)

/-- n bytes of a number, most significant first. -/
def beBytes (n v : Nat) : List Byte := (le n v).reverse

/-- Message padded to whole blocks. -/
def shaPad (bs : List Byte) : List Byte :=
  bs ++ [0x80] ++ List.replicate ((119 - bs.length % 64) % 64) 0 ++ beBytes 8 (8 * bs.length)

/-- The message schedule, built up in order. -/
def shaSchedule : Nat → List W32 → List W32
  | 0, w => w
  | n + 1, w =>
    let t := w.length
    let g (i : Nat) : W32 := w.getD (t - i) 0
    let s0 := (g 15).rotateRight 7 ^^^ (g 15).rotateRight 18 ^^^ (g 15) >>> 3
    let s1 := (g 2).rotateRight 17 ^^^ (g 2).rotateRight 19 ^^^ (g 2) >>> 10
    shaSchedule n (w ++ [g 16 + s0 + g 7 + s1])

/-- One round. -/
def shaRound (v : List W32) (kw : W32 × W32) : List W32 :=
  match v with
  | [a, b, c, d, e, f, g, h] =>
    let s1 := e.rotateRight 6 ^^^ e.rotateRight 11 ^^^ e.rotateRight 25
    let t1 := h + s1 + ((e &&& f) ^^^ (~~~e &&& g)) + kw.1 + kw.2
    let s0 := a.rotateRight 2 ^^^ a.rotateRight 13 ^^^ a.rotateRight 22
    [t1 + (s0 + ((a &&& b) ^^^ (a &&& c) ^^^ (b &&& c))), a, b, c, d + t1, e, f, g]
  | _ => v

/-- The compression of one block. -/
def shaBlock (h : List W32) (blk : List Byte) : List W32 :=
  let w := shaSchedule 48 ((List.range 16).map fun i => beWord ((blk.drop (4 * i)).take 4))
  List.zipWith (· + ·) h ((List.zip shaRoundConstants w).foldl shaRound h)

/-- SHA-256 as its 32 bytes. -/
def sha256 (bs : List Byte) : List Byte :=
  let m := shaPad bs
  ((List.range (m.length / 64)).foldl (fun h i => shaBlock h ((m.drop (64 * i)).take 64)) shaStart).flatMap fun w =>
    beBytes 4 w.toNat

/-- A digest as a number, byte 0 in bits [7:0]. [log 23 DESIGN CHOICE] -/
def shaNum (bs : List Byte) : Nat := unle (sha256 bs)

end Sys2Proof.Machine
end

