-- ==== Sys2Proof/Machine/RemoteIo.lean ====
section
/-! DEFINITION. Remote-I/O lines and stations, DALI buses and Jalmethen links: the Gallery controllers, and what a flight
takes from their frames (chapter 08). -/

namespace Sys2Proof.Machine

/-! ## Lines and stations -/

/-- A line's state. -/
def Dev.line (d : Dev) (n : Nat) : Line := mget Line.zero d.gl.lines n

/-- Change a line's state. -/
def Dev.updLine (d : Dev) (n : Nat) (g : Line → Line) : Dev :=
  d.updGl fun x => { x with lines := mupd Line.zero x.lines n g }

/-- A station's state beyond its register. -/
def Dev.sta (d : Dev) (id : Nat) : StState := mget StState.zero d.gl.sts id

/-- Change a station's state. -/
def Dev.updSta (d : Dev) (id : Nat) (g : StState → StState) : Dev :=
  d.updGl fun x => { x with sts := mupd StState.zero x.sts id g }

/-- Station states (08 R210, R227). -/
def ssOff : Nat := 0
def ssSearch : Nat := 1
def ssParam : Nat := 2
def ssApply : Nat := 3
def ssRun : Nat := 4
def ssLost : Nat := 5

/-- State of a station. -/
def Dev.ss (d : Dev) (id : Nat) : Nat := d.get (GL_STSTATE_STATE.ix id)

/-- Move a station to a state, with the line's count of stations in RUN. -/
def Dev.setSs (d : Dev) (id new : Nat) : Dev :=
  let x := GL_RIOSTAT_RUN.ix (id / 32)
  ((d.put (GL_STSTATE_STATE.ix id) new).put x (d.get x + b2n (new == ssRun) - b2n (d.ss id == ssRun)))

/-- RETRIES of a line: 0 acts as 1 (08 R227). -/
def Dev.retries (d : Dev) (n : Nat) : Nat := max 1 (d.get (GL_RIOCFG_RETRIES.ix n))

/-- Gather a record of the cycle. -/
def Dev.record (d : Dev) (id kind arg : Nat) (inputs : List Byte) : Dev :=
  d.updLine (id / 32) fun l => { l with recs := l.recs ++ [⟨id % 32, kind, arg, inputs⟩] }

/-- Records in ascending station number, each station's in their order. -/
def recInsert (r : StationRec) : List StationRec → List StationRec
  | [] => [r]
  | x :: t => if r.station < x.station then r :: x :: t else x :: recInsert r t

/-- Sort records by station. -/
def recSort (l : List StationRec) : List StationRec := l.foldl (fun acc r => recInsert r acc) []

/-- Split records into frames of at most 1,016 bytes of records (01 R27, 08 R209). -/
def recFrames : Nat → List StationRec → List (List StationRec)
  | _, [] => []
  | used, r :: t =>
    let n := 4 + r.inputs.length
    match recFrames (if used + n > 1016 then n else used + n) t with
    | f :: fs => if used + n > 1016 then [] :: (r :: f) :: fs else (r :: f) :: fs
    | [] => if used + n > 1016 then [[], [r]] else [[r]]

/-- Emit records as the frames of a line cycle, in the order given; the last frame has LAST (08 R209). -/
def Dev.emitList (d : Dev) (n : Nat) (rs : List StationRec) : Dev :=
  let l := d.line n
  let fs := (recFrames 0 rs).filter (· ≠ [])
  (List.zip (List.range fs.length) fs).foldl (fun d f =>
    d.ingress ⟨0x05, n, 0, 8 + (f.2.map fun r => 4 + r.inputs.length).sum, .stations n l.cycleNo (f.1 + 1 == fs.length) f.2⟩)
    (d.updLine n fun l => { l with recs := [] })

/-- Emit the frames of a cycle that yielded records, in ascending station number (08 R209). -/
def Dev.emitRecs (d : Dev) (n : Nat) : Dev := d.emitList n (recSort (d.line n).recs)

/-- A station enters LOST (08 R209, R210): cause 1 no valid reply after retries, 2 FAILSAFE reported, 3 IDENT changed. [log 78 DEDUCED] -/
def Dev.staLost (d : Dev) (id cause : Nat) : Dev :=
  let was := d.ss id
  let d1 := ((((d.setSs id ssLost).put (GL_STSTATE_CAUSE.ix id) cause).updSta id fun s =>
    { s with fromLost := true, mismatch := false }).record id 1 cause [])
  if was = ssRun then d1.raiseNw (.mk' .glStationLost [id, cause]) else d1

/-- Enabled stations of an enabled line enter SEARCH (08 R210). -/
def Dev.staSearch (d : Dev) (id : Nat) : Dev :=
  if d.bit (GL_RIOCFG_EN.ix (id / 32)) && d.bit (GL_STSTATE_EN.ix id) && mhas d.mod.cfg.stations id && d.ss id == ssOff then
    (d.setSs id ssSearch).updSta id fun _ => StState.zero
  else d

/-- A station leaves its state for OFF: a DISABLED record; one that has been enabled again meanwhile searches anew (08 R210, R215). [log 77 DESIGN CHOICE] -/
def Dev.staOff (d : Dev) (id : Nat) : Dev :=
  if d.ss id = ssOff then d
  else (((d.setSs id ssOff).updSta id fun s =>
    { s with disableAt := false, fromLost := false, mismatch := false, tries := 0 }).record id 5 0 []).staSearch id

/-! ### Frames and requests (08 R204, R205) -/

/-- The bytes of a remote-I/O frame: delimiter, address, type, sequence, length, payload and CRC-32C (08 R204). -/
def rioBytes (x : RioFrame) : List Byte :=
  let b := le 1 x.address ++ le 1 x.typ ++ le 1 x.seq ++ le 1 x.payload.length ++ x.payload
  [0xD5] ++ b ++ le 4 (crc32c b)

/-- The frame that received characters spell; none where the delimiter, a character's parity, the length or the CRC is bad (08 R204). -/
def rioParse (parity : Bool) (bs : List Byte) : Option RioFrame :=
  let n := field bs 4 1
  if parity ∧ field bs 0 1 = 0xD5 ∧ n ≤ 128 ∧ bs.length = 9 + n ∧ field bs (5 + n) 4 = crc32c ((bs.drop 1).take (4 + n)) then
    some ⟨field bs 1 1, field bs 2 1, field bs 3 1, (bs.drop 5).take n⟩
  else none

/-- Configuration of a station. -/
def Dev.staCfg (d : Dev) (id : Nat) : StationCfg := mget StationCfg.zero d.mod.cfg.stations id

/-- Payload of a request to a station (08 R205, R214; 18 R507). -/
def Dev.rioPayload (d : Dev) (id typ : Nat) : List Byte :=
  let c := d.staCfg id
  let fw : SlotInfo := match d.upd.dist with
    | some (i, s, _) => mget SlotInfo.zero d.jnl.slots (2 * i + s)
    | none => SlotInfo.zero
  let o := ((mget? d.upd.fw id).getD (0, 0)).2
  match typ with
  | 0x02 => le 2 c.watchdog ++ le 1 c.outputs ++ [0] ++ le 8 c.hold ++ c.failSafe.take c.outputs
  | 0x03 => le 1 (b2n (d.ss id == ssApply)) ++ mget [] (d.line (id / 32)).outs id
  | 0x10 => le 1 o ++ (fw.header.drop (112 * o)).take 112
  | 0x11 => le 4 o ++ (fw.plain.drop o).take 120
  | _ => []

/-- The request of the exchange in progress: the first of step 1, then that of step 2, then the firmware exchange (08 R207, 18 R507). -/
def Dev.rioReq (d : Dev) (n : Nat) : Option RioReq :=
  let l := d.line n
  let mk (id typ : Nat) : RioReq := ⟨id, typ, l.seq, d.rioPayload id typ⟩
  if !l.running then none
  else match l.todo with
    | (id, rel) :: _ => some (mk id (if rel then 0x04 else 0x03))
    | [] => match l.turn with
      | some id => some (mk id (if d.ss id = ssParam then 0x02 else 0x01))
      | none => l.fwTurn.map fun id => mk id ((mget? d.upd.fw id).getD (0x10, 0)).1

/-- The frame of a request: DIR is 0 (08 R204). -/
def RioReq.frame (r : RioReq) : List Byte := rioBytes ⟨r.id % 32, r.typ, r.seq, r.payload⟩

/-- The request of the exchange in progress is on the wire; with all resolved the cycle ends and its frames are emitted (08 R207). -/
def Dev.cycleEnds (d : Dev) (n : Nat) : Dev :=
  if !(d.line n).running then d
  else match d.rioReq n with
    | some r => d.updLine n fun l => { l with wire := r.frame }
    | none => (d.updLine n fun l => { l with running := false }).emitRecs n

/-- The exchange of step 1 in progress is over; a new request takes the next sequence (08 R205). -/
def Dev.nextExchange (d : Dev) (n : Nat) : Dev :=
  (d.updLine n fun l => { l with todo := l.todo.drop 1, tries := 0, seq := (l.seq + 1) % 256 }).cycleEnds n

/-- The exchange of step 2 is over. -/
def Dev.turnAnswered (d : Dev) (n : Nat) : Dev :=
  (d.updLine n fun l => { l with turn := none, seq := (l.seq + 1) % 256 }).cycleEnds n

/-- The firmware exchange is over. -/
def Dev.fwTurnEnds (d : Dev) (n : Nat) : Dev :=
  (d.updLine n fun l => { l with fwTurn := none, seq := (l.seq + 1) % 256 }).cycleEnds n

/-- Stations of a line that the configuration holds. -/
def Dev.lineStations (d : Dev) (n : Nat) : List Nat :=
  (List.range 32).map (fun s => 32 * n + s) |>.filter fun id => mhas d.mod.cfg.stations id

/-- Station whose turn it is in step 2: in SEARCH, LOST or PARAM, round-robin in ascending number (08 R207). -/
def Dev.nextTurn (d : Dev) (n : Nat) : Option Nat :=
  ((List.range 32).map fun i => 32 * n + ((d.line n).rr + 1 + i) % 32).find? fun id =>
    mhas d.mod.cfg.stations id && (d.ss id == ssSearch || d.ss id == ssLost || d.ss id == ssParam)

/-- EV_GL_LINE_OVERRUN, at most once per 60 s (08 R208). -/
def Dev.lineOverrun (d : Dev) (n : Nat) : Dev :=
  let d1 := (d.inc (GL_RIOSTAT_OVERRUN.ix n)).updLine n fun l => { l with startedAt := some d.nw.cycle }
  if rateOk (d.line n).overrunAt d.nw.cycle (60 * cycPerSec) then
    (d1.updLine n fun l => { l with overrunAt := some d.nw.cycle }).raiseNw
      (.mk' .glLineOverrun [n, d1.get (GL_RIOSTAT_OVERRUN.ix n)])
  else d1

/-- Whether a line cycle starts in this Newel cycle: c mod LINECYC = n mod LINECYC, once in the cycle (08 R207). -/
def Dev.lineStarts (d : Dev) (n : Nat) : Bool :=
  let k := d.get (GL_RIOCFG_LINECYC.ix n)
  d.nw.cycle % k == n % k && (d.line n).startedAt != some d.nw.cycle

/-- Start of a line cycle, with the output frames of the latest commit (08 R207, R208, R214, R215; 18 R507). A station takes part in step 1
from the first commit that holds its image. [log 146 DESIGN CHOICE] -/
def Dev.lineCycle (d : Dev) (n : Nat) : Dev :=
  let l := d.line n
  let x := GL_RIOCFG_EN.ix n
  if !(d.bit x || l.stopAt) || !d.lineStarts n then d
  else if l.running then d.lineOverrun n
  else
    let stop := l.stopAt
    let leaving := (d.lineStations n).filter fun id => stop || (d.sta id).disableAt
    let rel := leaving.filter fun id => d.ss id == ssRun || d.ss id == ssApply
    let d1 := (leaving.filter fun id => !rel.contains id).foldl (fun d id => d.staOff id) d
    let outs := d.gl.outImg.filter fun e => e.1 / 32 == n
    let data := if l.haveOut ∧ !stop then
        (d1.lineStations n).filter fun id => !rel.contains id && mhas outs id && (d1.ss id == ssRun || d1.ss id == ssApply)
      else []
    let turn := if stop || d.upd.forced.contains n then none else d1.nextTurn n
    let fw := if stop then none else (d.upd.fw.find? fun e => e.1 / 32 == n).map (·.1)
    let d2 := d1.updLine n fun l => { l with
      cycleNo := (l.cycleNo + 1) % 2 ^ 32, running := true, stopAt := false, tries := 0, startedAt := some d.nw.cycle, outs := outs
      todo := rel.map (fun id => (id, true)) ++ data.map (fun id => (id, false))
      turn := turn, fwTurn := fw, rr := match turn with | some id => id % 32 | none => l.rr }
    (d2.incWrap (GL_RIOSTAT_CYCLES.ix n)).cycleEnds n

/-- A station whose PARAM has failed in 1 + RETRIES turns of its own goes back to where it came from (08 R207, R210). -/
def Dev.paramFails (d : Dev) (id : Nat) : Dev :=
  if (d.sta id).tries + 1 ≥ 1 + d.retries (id / 32) then
    (d.setSs id (if (d.sta id).fromLost then ssLost else ssSearch)).updSta id fun s => { s with tries := 0, mismatch := false }
  else d.updSta id fun s => { s with tries := s.tries + 1 }

/-- A failed attempt of the exchange in progress with a station (08 R205 to R207, R210); a firmware exchange is made again in the next
cycle. [log 146 DESIGN CHOICE] -/
def Dev.attemptFails (d : Dev) (id : Nat) : Dev :=
  let n := id / 32
  match d.rioReq n with
  | none => d
  | some r =>
    let d0 := d.inc (GL_STSTATE_FAILS.ix id)
    if r.id ≠ id then d
    else match r.typ with
      | 0x04 => (d0.staOff id).nextExchange n
      | 0x03 =>
        if (d.line n).tries + 1 ≤ d.retries n then d0.updLine n fun l => { l with tries := l.tries + 1 }
        else (d0.staLost id 1).nextExchange n
      | 0x02 => (d0.paramFails id).turnAnswered n
      | 0x01 => d0.turnAnswered n
      | _ => d0.fwTurnEnds n

/-- Payload bytes that a reply of a type has (08 R205, 18 R507). -/
def Dev.replySize (d : Dev) (id typ : Nat) : Nat :=
  match typ with
  | 0x81 => 12
  | 0x83 => 1 + (d.staCfg id).inputs
  | 0x84 => 0
  | _ => 1

/-- A reply on a line: what the request in progress awaits is taken, anything else is a failed attempt. `mine` selects the request types
that the command's reply answers (08 R204, R205). [log 146 DESIGN CHOICE] -/
def Dev.rioReply (d : Dev) (n : Nat) (mine : Nat → Bool) (parity : Bool) (bs : List Byte) (g : RioReq → List Byte → Dev → Dev) : Dev :=
  match d.rioReq n with
  | none => d
  | some r =>
    match rioParse parity bs with
    | none => d.attemptFails r.id
    | some x =>
      if mine r.typ ∧ x.typ = r.typ + 0x80 ∧ x.address = 0x80 + r.id % 32 ∧ x.seq = r.seq ∧ x.payload.length = d.replySize r.id x.typ then
        g r x.payload d
      else d.attemptFails r.id

/-- IDENT (08 R205, R210). [log 78 DEDUCED] -/
def Dev.ident (d : Dev) (id : Nat) (p : List Byte) : Dev :=
  let c := d.staCfg id
  let d0 := d.updSta id fun s => { s with ident := (field p 4 2, field p 8 4) }
  let d1 :=
    if c.vendor = field p 0 2 ∧ c.product = field p 2 2 ∧ c.inputs = field p 6 1 ∧ c.outputs = field p 7 1 then
      (d0.setSs id ssParam).updSta id fun s => { s with fromLost := d.ss id == ssLost, tries := 0 }
    else
      let d2 := if (d.sta id).mismatch then d0 else (d0.updSta id fun s => { s with mismatch := true }).record id 4 0 []
      d2.raiseNw (.mk' .glStationMismatch [id, field p 0 2, field p 2 2])
  d1.turnAnswered (id / 32)

/-- PARAM_ACK (08 R205, R210). -/
def Dev.paramAck (d : Dev) (id status : Nat) : Dev :=
  let d1 := if status = 0 then d.setSs id ssApply
    else d.setSs id (if (d.sta id).fromLost then ssLost else ssSearch)
  (d1.updSta id fun s => { s with tries := 0, mismatch := false }).turnAnswered (id / 32)

/-- A valid DATA reply (08 R209, R210). -/
def Dev.dataReply (d : Dev) (id status : Nat) (inputs : List Byte) : Dev :=
  let d1 :=
    if d.ss id = ssApply then
      let lost := (d.sta id).fromLost
      let d2 := (d.setSs id ssRun).record id (if lost then 2 else 3) status []
      if lost then (d2.updSta id fun s => { s with fromLost := false }).raiseNw (.mk' .glStationReturned [id]) else d2
    else if d.ss id = ssRun then
      if bitOf status 0 then d.staLost id 2 else d.record id 0 status inputs
    else d
  d1.nextExchange (id / 32)

/-- RELEASED (08 R205, R215). [log 77 DESIGN CHOICE] -/
def Dev.released (d : Dev) (id : Nat) : Dev := (d.staOff id).nextExchange (id / 32)

/-- GL_RIOCFG.EN written 1. -/
def Dev.lineEnable (d : Dev) (n : Nat) : Dev :=
  if d.bit (GL_RIOCFG_EN.ix n) then d
  else
    let d1 := (d.put (GL_RIOCFG_EN.ix n) 1).updLine n fun l => { l with stopAt := false, enabledAt := d.nw.cycle }
    (d.lineStations n).foldl (fun d id => d.staSearch id) d1

/-- The line stops at once: the records gathered, then the DISABLED ones (08 R215). -/
def Dev.lineCut (d : Dev) (n : Nat) : Dev :=
  let gathered := (d.line n).recs
  let d1 := d.updLine n fun l => { l with
    running := false, todo := [], turn := none, fwTurn := none, stopAt := false, tries := 0, recs := []
    seq := if l.running then (l.seq + 1) % 256 else l.seq }
  let d2 := (d1.lineStations n).foldl (fun d id => d.staOff id) d1
  d2.emitList n (recSort gathered ++ (d2.line n).recs)

/-- GL_RIOCFG.EN written 0, with FDIS for the forced disable, which also cuts a disable that waits (08 R215). -/
def Dev.lineDisable (d : Dev) (n : Nat) (forced : Bool) : Dev :=
  let d1 := d.put (GL_RIOCFG_EN.ix n) 0
  if forced then d1.lineCut n
  else if d.bit (GL_RIOCFG_EN.ix n) then d1.updLine n fun l => { l with stopAt := true }
  else d

/-- GL_STSTATE.EN written 1. -/
def Dev.staEnable (d : Dev) (id : Nat) : Dev :=
  if d.bit (GL_STSTATE_EN.ix id) then d
  else ((d.put (GL_STSTATE_EN.ix id) 1).updSta id fun s => { s with disableAt := false }).staSearch id

/-- A station is cut off at once: its exchange in progress ends without a result, and a new request takes the next sequence (08 R215). [log 77 DESIGN CHOICE] -/
def Dev.staCut (d : Dev) (id : Nat) : Dev :=
  let n := id / 32
  let l := d.line n
  let cur := match d.rioReq n with
    | some r => r.id == id
    | none => false
  let d1 := (d.staOff id).updLine n fun l => { l with
    todo := l.todo.filter fun e => e.1 ≠ id, turn := if l.turn = some id then none else l.turn
    fwTurn := if l.fwTurn = some id then none else l.fwTurn
    tries := if cur then 0 else l.tries, seq := if cur then (l.seq + 1) % 256 else l.seq }
  if l.running then d1.cycleEnds n else d1.emitRecs n

/-- GL_STSTATE.EN written 0, with FDIS for the forced disable, which also cuts a disable that waits (08 R215). [log 77 DESIGN CHOICE] -/
def Dev.staDisable (d : Dev) (id : Nat) (forced : Bool) : Dev :=
  let d1 := d.put (GL_STSTATE_EN.ix id) 0
  if forced then d1.staCut id
  else if !d.bit (GL_STSTATE_EN.ix id) ∨ d1.ss id = ssOff then d1
  else d1.updSta id fun s => { s with disableAt := true }

/-- EV_GL_STATION_MISSING, once per line enable (08 R210). -/
def Dev.stationMissing (d : Dev) (id : Nat) : Dev :=
  if d.ss id = ssSearch ∧ !(d.sta id).missing ∧ (d.line (id / 32)).enabledAt + cycPerSec ≤ d.nw.cycle then
    (d.updSta id fun s => { s with missing := true }).raiseNw (.mk' .glStationMissing [id])
  else d

/-! ## DALI buses -/

/-- A bus's state. -/
def Dev.bus (d : Dev) (b : Nat) : Bus := mget Bus.zero d.gl.buses b

/-- Change a bus's state, showing the pending DAPCs. -/
def Dev.updBus (d : Dev) (b : Nat) (g : Bus → Bus) : Dev :=
  let d1 := d.updGl fun x => { x with buses := mupd Bus.zero x.buses b g }
  d1.put (GL_DALISTAT_QUEUE.ix b) (d1.bus b).pending.length

/-- Arc power of a level (08 R218). -/
def arcOf (level : Nat) : Nat := if level = 0 then 0 else 1 + ((level - 1) * 253 + 2047) / 4094

/-- Bound gear of a bus: short address and point (20 R545). -/
def Dev.gear (d : Dev) (b : Nat) : List (Nat × Nat) :=
  (d.mod.cfg.dali.filter fun e => e.bus == b && e.kind == 0).map fun e => (e.address, e.point)

/-- A record of a DALI bus enters its STATION_DATA port (08 R219). -/
def Dev.daliRec (d : Dev) (b : Nat) (r : DaliRec) : Dev := d.ingress ⟨0x05, 16 + b, 0, 6, .dali b [r]⟩

/-- Raw frames by priority: the oldest of the lowest priority number (08 R217, R220). -/
def rawNext (l : List RawFrame) : Option RawFrame :=
  l.foldl (fun best r => match best with
    | none => some r
    | some x => if r.prio < x.prio then some r else best) none

/-- Next pending DAPC in ascending short address after the last sent (08 R218). -/
def dapcNext (x : Bus) : Option (Nat × Nat) :=
  match x.pending.find? fun e => x.last < e.1 with
  | some e => some e
  | none => x.pending.head?

/-- After a bus return every gear has had its DAPC: EV_GL_DALI_RETURNED and its record (08 R221). -/
def Dev.daliReturned (d : Dev) (b : Nat) : Dev :=
  if (d.bus b).resend then
    ((d.updBus b fun x => { x with resend := false }).raiseNw (.mk' .glDaliReturned [b])).daliRec b ⟨2, 0, 0, [3, 0, 0]⟩
  else d

/-- Start the next frame of an idle bus: pending DAPCs first, then raw frames (08 R217, R218, R220, R221). -/
def Dev.daliNext (d : Dev) (b : Nat) : Dev :=
  let x := d.bus b
  if x.sending.isSome || d.get (GL_DALISTAT_BUS.ix b) != 1 then d
  else match dapcNext x with
    | some (a, arc) => d.updBus b fun x => { x with
        pending := mdel x.pending a, arcs := mput x.arcs a arc, last := a, sending := some (0, a), awaiting := false }
    | none =>
      let d1 := d.daliReturned b
      match rawNext x.raw with
      | some r => d1.updBus b fun x => { x with
          raw := x.raw.erase r, sentRaw := some r, sending := some (2, 0), awaiting := false, again := r.twice }
      | none => d1

/-- The level images of a commit reach the bus controllers (08 R218). -/
def Dev.daliCommit (d : Dev) (out : Map Nat) : Dev :=
  let one (d : Dev) (e : Nat × Nat) : Dev :=
    let b := e.1 / 64
    let a := e.1 % 64
    let x := d.bus b
    if mget? x.levels a = some e.2 then d
    else (d.updBus b fun x => { x with levels := mput x.levels a e.2, pending := mput x.pending a (arcOf e.2) }).daliNext b
  out.foldl one d

/-- Result of a raw frame in GL_DALIANS. [log 80 DESIGN CHOICE] -/
def Dev.rawResult (d : Dev) (b result value : Nat) : Dev :=
  ((d.put (GL_DALIANS_DATA.ix b) value).put (GL_DALIANS_RESULT.ix b) result).put (GL_DALIANS_DONE.ix b) 1

/-- The raw frame in transmission, if any, comes to nothing: RESULT 4 (08 R220, R227). [log 80 DESIGN CHOICE] -/
def Dev.rawLost (d : Dev) (b : Nat) : Dev := if (d.bus b).sentRaw.isSome then d.rawResult b 4 0 else d

/-- A forward frame and its settling end: a frame to be sent twice goes out once more, an answer is awaited where one is expected, and a raw
frame without one completes with RESULT 2 and its record (08 R217, R218, R220). [log 80 DESIGN CHOICE] -/
def Dev.daliFrameEnd (d : Dev) (b : Nat) : Dev :=
  let x := d.bus b
  match x.sending with
  | none => d.daliNext b
  | some (k, _) =>
    if x.awaiting then d
    else if x.again then d.updBus b fun x => { x with again := false }
    else if k = 1 ∨ (k = 2 ∧ (x.sentRaw.map (·.answer)) = some true) then d.updBus b fun x => { x with awaiting := true }
    else
      let d1 := if k = 2 then (d.rawResult b 2 0).daliRec b ⟨0, 0, 1, [0, 0, 0]⟩ else d
      (d1.updBus b fun x => { x with sending := none, sentRaw := none }).daliNext b

/-- QUERY STATUS of the next bound gear on an idle bus (08 R219). -/
def Dev.daliPoll (d : Dev) (b : Nat) : Dev :=
  let x := d.bus b
  if x.sending.isSome || d.get (GL_DALISTAT_BUS.ix b) != 1 || d.get (GL_DALICFG_POLL.ix b) == 0 then d
  else
    let g := (d.gear b).map (·.1)
    match ((List.range 64).map fun i => (x.poll + i) % 64).find? fun a => g.contains a with
    | none => d
    | some a => d.updBus b fun x => { x with sending := some (1, a), awaiting := false, poll := (a + 1) % 64 }

/-- A backward frame, its absence or an INVALID one (08 R217, R219, R220). -/
def Dev.daliBackward (d : Dev) (b result value : Nat) : Dev :=
  let x := d.bus b
  if !x.awaiting then d
  else match x.sending with
    | none => d
    | some (k, a) =>
      let d1 := if k = 2 then d.rawResult b (result + 1) value else d
      ((d1.daliRec b ⟨0, a, result, [value, 0, 0]⟩).updBus b fun x =>
        { x with sending := none, sentRaw := none, awaiting := false }).daliNext b

/-- GL_DALISTAT.BUS changes: a bus-state record carries it (08 R219, R227). [log 80 DESIGN CHOICE] -/
def Dev.setBus (d : Dev) (b state cause : Nat) : Dev :=
  ((d.put (GL_DALISTAT_BUS.ix b) state).put (GL_DALISTAT_CAUSE.ix b) cause).daliRec b ⟨2, 0, 0, [state, cause, 0]⟩

/-- A bus enters a fault: cause 1 system failure, 2 collisions; what it transmits is lost (08 R221). [log 80 DESIGN CHOICE] -/
def Dev.daliFault (d : Dev) (b cause : Nat) : Dev :=
  if d.get (GL_DALISTAT_BUS.ix b) ≠ 1 then d
  else
    (((d.rawLost b).updBus b fun x => { x with sending := none, sentRaw := none, awaiting := false, again := false }).setBus b 2 cause).raiseNw
      (.mk' .glDaliFault [b, cause])

/-- The bus has been high for 500 ms: DAPC of every bound gear with its current arc (08 R221). -/
def Dev.daliReturn (d : Dev) (b : Nat) : Dev :=
  if d.get (GL_DALISTAT_BUS.ix b) ≠ 2 then d
  else
    let d1 := (d.put (GL_DALISTAT_BUS.ix b) 1).put (GL_DALISTAT_CAUSE.ix b) 0
    let g := (d.gear b).map (·.1)
    (d1.updBus b fun x => { x with
      pending := g.foldl (fun p a => if mhas p a then p else mput p a (mget 0 x.arcs a)) x.pending
      resend := true }).daliNext b

/-- GL_DALIRAW.GO (08 R220). -/
def Dev.daliRaw (d : Dev) (b : Nat) (fr : RawFrame) : Dev :=
  let prio := if fr.prio = 0 ∨ 5 < fr.prio then 5 else fr.prio
  if (d.bus b).raw.length ≥ 8 then d.rawResult b 5 0
  else if d.get (GL_DALISTAT_BUS.ix b) ≠ 1 then d.rawResult b 4 0
  else (((d.put (GL_DALIANS_RESULT.ix b) 0).put (GL_DALIANS_DONE.ix b) 0).updBus b fun x =>
    { x with raw := x.raw ++ [{ fr with prio := prio }] }).daliNext b

/-- GL_DALICFG.EN written 1 (08 R219, R227). -/
def Dev.daliEnable (d : Dev) (b : Nat) : Dev :=
  if d.bit (GL_DALICFG_EN.ix b) then d
  else ((d.put (GL_DALICFG_EN.ix b) 1).setBus b 1 0).daliNext b

/-- The frame in transmission is truncated (08 R222). [log 80 DESIGN CHOICE] -/
def Dev.daliCut (d : Dev) (b : Nat) : Dev :=
  (d.rawLost b).updBus b fun x => { x with sending := none, sentRaw := none, awaiting := false, again := false }

/-- GL_DALICFG.EN written 0: the frame in transmission completes, or is truncated with FDIS, also where EN is 0 already; the queues are
discarded (08 R219, R222). -/
def Dev.daliDisable (d : Dev) (b : Nat) (forced : Bool) : Dev :=
  let d1 := if d.bit (GL_DALICFG_EN.ix b) then
      ((d.put (GL_DALICFG_EN.ix b) 0).setBus b 0 0).updBus b fun x => { x with pending := [], raw := [], resend := false }
    else d
  if forced then d1.daliCut b else d1

/-! ## Jalmethen links -/

/-- A link's state. -/
def Dev.link (d : Dev) (p : Nat) : Link := mget Link.zero d.gl.links p

/-- Change a link's state. -/
def Dev.updLink (d : Dev) (p : Nat) (g : Link → Link) : Dev :=
  d.updGl fun x => { x with links := mupd Link.zero x.links p g }

/-- SHA-256 over the link section as port p uses it (20 R545). [log 132 DESIGN CHOICE] -/
def linkDigest (c : Cfg) (p : Nat) : Nat :=
  let peer := mget 0 c.peers p
  let share := ((c.links.filter fun l => l.1 == p).map fun l => l.2.1).foldl (fun acc n => acc.filter (· < n) ++ [n] ++ acc.filter (n < ·)) []
  shaNum (le 8 (min Config.serial peer) ++ le 8 (max Config.serial peer) ++ share.flatMap (le 2))

/-- A frame of a link enters its STATION_DATA port; types 0 and 1 tell of loss and of link-up. [log 79 DESIGN CHOICE] -/
def Dev.jmlFrame (d : Dev) (p typ : Nat) (full : Bool) (es : List (Nat × Nat × W32)) (args : List Nat) : Dev :=
  d.ingress ⟨0x05, 20 + p, 0, 8 * es.length + 2 * args.length, .jml p typ full es args⟩

/-- LINK of a link. -/
def Dev.linkSt (d : Dev) (p : Nat) : Nat := d.get (GL_JMLSTAT_LINK.ix p)

/-- The bytes of a Jalmethen frame: type, flags, sequence, ack, length, payload and CRC-32C (08 R223). -/
def JmlFrame.bytes (x : JmlFrame) : List Byte :=
  let b := le 1 x.typ ++ le 1 x.flags ++ le 2 x.seq ++ le 2 x.ack ++ le 2 x.payload.length ++ x.payload
  b ++ le 4 (crc32c b)

/-- The frame that received bytes spell; none where the length or the CRC is bad (08 R223). -/
def jmlParse (bs : List Byte) : Option JmlFrame :=
  let n := field bs 6 2
  if n ≤ 1024 ∧ bs.length = 12 + n ∧ field bs (8 + n) 4 = crc32c (bs.take (8 + n)) then
    some ⟨field bs 0 1, field bs 1 1, field bs 2 2, field bs 4 2, (bs.drop 8).take n⟩
  else none

/-- Put frames on a link, each with the last sequence received in order as its ack (08 R223). -/
def Dev.jmlWire (d : Dev) (p : Nat) (fs : List (Nat × Nat × Nat × List Byte)) : Dev :=
  d.updLink p fun l => { l with wire := fs.map fun e => JmlFrame.bytes ⟨e.2.1, e.2.2.1, e.1, l.rxSeq, e.2.2.2⟩ }

/-- HELLO: the module serial and the digest of the link section (08 R224). [log 79 DESIGN CHOICE] -/
def Dev.jmlSayHello (d : Dev) (p : Nat) : Dev :=
  let l := d.link p
  (d.jmlWire p [(l.txSeq, 1, 0, le 8 Config.serial ++ le 32 (linkDigest d.mod.cfg p))]).updLink p fun l =>
    { l with txSeq := (l.txSeq + 1) % 65536 }

/-- HELLO of the peer: the link is up where its serial is the configured peer's and the digests agree (08 R224). [log 79 DESIGN CHOICE] -/
def Dev.jmlHello (d : Dev) (p : Nat) (fr : JmlFrame) : Dev :=
  let serial := field fr.payload 0 8
  let ok := mget? d.mod.cfg.peers p = some serial ∧ fr.payload.length = 40 ∧ field fr.payload 8 32 = linkDigest d.mod.cfg p
  if !d.bit (GL_JMLCFG_EN.ix p) then d
  else if d.linkSt p = 2 then
    d.updLink p fun l => { l with rxSeq := if fr.seq = (l.rxSeq + 1) % 65536 then fr.seq else l.rxSeq }
  else
    let d1 := d.updLink p fun l => { l with peer := serial, resends := 0, unacked := [], rxSeq := fr.seq }
    if ok then ((d1.put (GL_JMLSTAT_LINK.ix p) 2).raiseNw (.mk' .glJmlUp [p, (serial % 2 ^ 32 : Nat)])).jmlFrame p 1 false [] []
    else (d1.put (GL_JMLSTAT_LINK.ix p) 3).raiseNw (.mk' .glJmlPeerMismatch [p, (serial % 2 ^ 32 : Nat)])

/-- The link is lost: HELLO is sent again (08 R224, R225). -/
def Dev.jmlLost (d : Dev) (p : Nat) : Dev :=
  if d.linkSt p ≠ 2 then d
  else (((((d.put (GL_JMLSTAT_LINK.ix p) 1).inc (GL_JMLSTAT_LOSSES.ix p)).updLink p fun l =>
    { l with unacked := [], resends := 0 }).raiseNw (.mk' .glJmlLost [p])).jmlFrame p 0 false [] []).jmlSayHello p

/-- Acknowledgement carried by a valid frame: frames up to it are acknowledged. -/
def Dev.jmlAck (d : Dev) (p ack : Nat) : Dev :=
  d.updLink p fun l =>
    if l.unacked.any fun e => e.1 == ack then
      { l with unacked := (l.unacked.dropWhile fun e => e.1 ≠ ack).drop 1, resends := 0 }
    else l

/-- A frame other than HELLO and KEEPALIVE from the peer while the link is up: taken when it is next in order (08 R223). -/
def Dev.jmlRx (d : Dev) (p : Nat) (fr : JmlFrame) (es : List (Nat × Nat × W32)) (args : List Nat) : Dev :=
  if d.linkSt p ≠ 2 then d
  else
    let d1 := d.jmlAck p fr.ack
    if fr.seq = ((d1.link p).rxSeq + 1) % 65536 then
      (d1.updLink p fun l => { l with rxSeq := fr.seq }).jmlFrame p fr.typ (bitOf fr.flags 0) es args
    else d1

/-- Whether R223 names a type. -/
def jmlKnown (t : Nat) : Bool := t == 1 || t == 2 || t == 3 || t == 0x10 || t == 0x11

/-- Bytes received on a link as the frame of one type: an invalid frame is dropped, one of a type that R223 does not name is dropped and
counted (08 R223). -/
def Dev.jmlIn (d : Dev) (p typ : Nat) (bs : List Byte) (g : JmlFrame → Dev → Dev) : Dev :=
  match jmlParse bs with
  | none => d
  | some fr =>
    if !jmlKnown fr.typ then d.updLink p fun l => { l with dropped := l.dropped + 1 }
    else if fr.typ = typ then g fr d else d

/-- Frames of a commit set are sent on links that are up (08 R223). -/
def Dev.jmlCommit (d : Dev) (fs : List (Nat × Nat × List Byte)) : Dev :=
  (List.range 2).foldl (fun d p =>
    let mine := fs.filter fun e => e.1 == p
    if d.linkSt p ≠ 2 ∨ mine = [] then d
    else
      let l := d.link p
      let new := (List.zip (List.range mine.length) mine).map fun e =>
        let t := e.2.2.1
        let p := e.2.2.2
        ((l.txSeq + e.1) % 65536, t, (if t = 3 then field p 0 1 else 0), if t = 3 then p.drop 1 else p)
      (d.jmlWire p new).updLink p fun l => { l with
        unacked := l.unacked ++ new, txSeq := (l.txSeq + mine.length) % 65536 }) d

/-- No ack for 2 ms: resend from the first unacknowledged frame; lost after 3 resends (08 R224). -/
def Dev.jmlAckTimeout (d : Dev) (p : Nat) : Dev :=
  let l := d.link p
  if d.linkSt p ≠ 2 ∨ l.unacked = [] then d
  else if l.resends ≥ 3 then d.jmlLost p
  else ((d.inc (GL_JMLSTAT_RESENT.ix p) l.unacked.length).updLink p fun l => { l with resends := l.resends + 1 }).jmlWire p l.unacked

/-- KEEPALIVE: it takes no sequence of its own (08 R223, R224). -/
def Dev.jmlKeepalive (d : Dev) (p : Nat) : Dev :=
  if d.linkSt p ≠ 2 then d
  else (d.updLink p fun l => { l with keepalives := l.keepalives + 1 }).jmlWire p [(((d.link p).txSeq + 65535) % 65536, 2, 0, [])]

/-- GL_JMLCFG.EN written 1: HELLO is sent (08 R224). -/
def Dev.jmlEnable (d : Dev) (p : Nat) : Dev :=
  if d.bit (GL_JMLCFG_EN.ix p) then d
  else (((d.put (GL_JMLCFG_EN.ix p) 1).put (GL_JMLSTAT_LINK.ix p) 1).updLink p fun _ => Link.zero).jmlSayHello p

/-- GL_JMLCFG.EN written 0: the link stops. -/
def Dev.jmlDisable (d : Dev) (p : Nat) : Dev :=
  if !d.bit (GL_JMLCFG_EN.ix p) then d
  else ((d.jmlLost p).put (GL_JMLCFG_EN.ix p) 0).put (GL_JMLSTAT_LINK.ix p) 0

/-- A commit hands station outputs, DALI levels and link frames to the controllers (04 R575, 08 R214). -/
def Dev.commitIo (d : Dev) (cs : CommitSet) : Dev :=
  let d1 := d.updGl fun x => { x with outImg := cs.stationOut.foldl (fun m e => mput m e.1 e.2) x.outImg }
  let d2 := (List.range 16).foldl (fun d n => if d.bit (GL_RIOCFG_EN.ix n) then d.updLine n fun l => { l with haveOut := true } else d)
    d1
  (d2.daliCommit cs.daliOut).jmlCommit cs.links

/-! ## What a flight takes from the frames (08 R213, R219, R221, R225) -/

/-- A point takes its substitute value with QUAL SUBSTITUTED (08 R213). -/
def Dev.substitute (d : Dev) (f : Flt) (n src : Nat) : Dev :=
  let c := mget PointCfg.zero (d.cfgOf f).points n
  d.updFl f fun x =>
    let v := if c.rule = 1 then c.subst else if c.rule = 2 then 0 else x.under n
    x.load n v qSubst src

/-- Input points of a station. -/
def Dev.staInputs (d : Dev) (id : Nat) : List StationPoint :=
  d.mod.cfg.stationPts.filter fun e => e.station == id && !e.output

/-- Value of a station input from the input bytes (20 R545). -/
def inputVal (e : StationPoint) (bs : List Byte) : W32 :=
  if e.width = 1 then BitVec.ofNat 32 (bitsOf ((bs[e.byte]?).getD 0).toNat e.bit e.bit)
  else BitVec.ofNat 32 (field bs e.byte (e.width / 8))

/-- One record of a station applied at the snapshot (08 R213). -/
def Dev.applyStation (d : Dev) (f : Flt) (line : Nat) (r : StationRec) : Dev :=
  let id := 32 * line + r.station
  let pts := d.staInputs id
  match r.kind with
  | 0 =>
    let q := if bitOf r.arg 1 then qUncertain else qGood
    pts.foldl (fun d e => d.updFl f fun x => x.load e.point (inputVal e r.inputs) q 4) d
  | 1 => (pts.foldl (fun d e => d.substitute f e.point 4) d).call1 f 0x01 id 0
  | 2 => d.call1 f 0x02 id 0
  | 5 => pts.foldl (fun d e => d.substitute f e.point 4) d
  | _ => d

/-- One record of a DALI bus applied at the snapshot (08 R219, R221). [log 80 DESIGN CHOICE] -/
def Dev.applyDali (d : Dev) (f : Flt) (b : Nat) (r : DaliRec) : Dev :=
  let pts (k : Nat) := d.mod.cfg.dali.filter fun e => e.bus == b && e.kind == k
  match r.kind with
  | 0 => ((pts 1).filter fun e => e.address == r.address).foldl (fun d e =>
      if r.result = 0 then d.updFl f fun x => x.load e.point (BitVec.ofNat 32 (r.data.headD 0)) qGood 5
      else d.updFl f fun x => x.load e.point (x.under e.point) qBad 5) d
  | 1 => ((pts 2).filter fun e => e.address == r.address).foldl (fun d e =>
      d.updFl f fun x => x.load e.point (BitVec.ofNat 32 (r.data.foldr (fun v acc => v % 256 + 256 * acc) 0)) qGood 5) d
  | _ =>
    -- bus state: 0 down, 1 up, 2 fault, 3 returned
    if r.data.headD 0 = 2 then
      ((pts 1 ++ pts 2).foldl (fun d e => d.substitute f e.point 5) d).call1 f 0x03 b (r.data.getD 1 0)
    else if r.data.headD 0 = 3 then d.call1 f 0x04 b 0
    else d

/-- Whether this end sends a share index of a port (20 R545). -/
def Dev.exports (d : Dev) (p i : Nat) : Bool :=
  decide (i < 4096) == decide (Config.serial < mget 0 d.mod.cfg.peers p)

/-- Shares of a port that this end imports, and that it exports. -/
def Dev.shares (d : Dev) (p : Nat) (ex : Bool) : List (Nat × Nat) :=
  (d.mod.cfg.links.filter fun e => e.1 == p && d.exports p e.2.1 == ex).map fun e => e.2

/-- Frames of a link applied at the snapshot (08 R225). -/
def Dev.applyJml (d : Dev) (f : Flt) (p typ : Nat) (full : Bool) (es : List (Nat × Nat × W32)) : Dev :=
  match typ with
  | 0 => (((d.shares p false).foldl (fun d e => d.substitute f e.2 6) d).call1 f 0x05 p 0).updFl f fun x =>
      { x with linkUp := x.linkUp.filter (· ≠ p), linkRet := x.linkRet.filter (· ≠ p), linkFull := x.linkFull.filter (· ≠ p) }
  | 1 => d.updFl f fun x => { x with
      linkUp := x.linkUp.filter (· ≠ p) ++ [p], linkRet := x.linkRet.filter (· ≠ p) ++ [p]
      linkFull := x.linkFull.filter (· ≠ p) ++ [p] }
  | 3 =>
    let imports := d.shares p false
    let one (d : Dev) (e : Nat × Nat × W32) : Dev :=
      match imports.find? fun s => s.1 == e.1 with
      | some s =>
        let q := e.2.1 % 8
        d.updFl f fun x => x.load s.2 e.2.2 (if q = qForced then qUncertain else q) 6
      | none => d
    let d1 := es.foldl one d
    if full ∧ p ∈ (d1.fl f).linkRet then
      (d1.updFl f fun x => { x with linkRet := x.linkRet.filter (· ≠ p) }).call1 f 0x06 p 0
    else d1
  | _ => d

/-- POINTS frames that a scan forms for a port: FULL after link-up, changed exports otherwise (08 R225). -/
def Dev.formPoints (d : Dev) (f : Flt) (p : Nat) : Dev :=
  let x := d.fl f
  if p ∉ x.linkUp then d
  else
    let full := p ∈ x.linkFull
    let cur := (d.shares p true).map fun e => (e.1, (x.pt e.2).value, (x.pt e.2).status.toNat)
    let due := cur.filter fun e => full || mget? x.linkSent (p * 8192 + e.1) != some (e.2.1, e.2.2)
    let bytes (l : List (Nat × W32 × Nat)) : List Byte :=
      l.flatMap fun e => le 2 e.1 ++ le 2 e.2.2 ++ le 4 e.2.1.toNat
    let d1 := d.updFl f fun x => { x with
      linkFull := x.linkFull.filter (· ≠ p)
      linkSent := due.foldl (fun m e => mput m (p * 8192 + e.1) (e.2.1, e.2.2)) x.linkSent }
    if due = [] ∧ !full then d1
    else
      -- 128 entries fill a payload of 1,024 bytes
      let chunks := (List.range (max 1 ((due.length + 127) / 128))).map fun i => (due.drop (128 * i)).take 128
      d1.updFl f fun x => { x with links := x.links ++ chunks.map fun c => (p, 3, le 1 (b2n full) ++ bytes c) }

/-! ## Meanings -/

/-- LINE_CYCLE (08 R207). -/
def execLineCycle (n : Nat) (s : State) : Host.Outcome State Fault Refusal :=
  s.upd fun d => d.when (!d.gl.paused) fun d => d.lineCycle (n % 16)

/-- RIO_ATTEMPT_TIMEOUT (08 R206). -/
def execRioAttemptTimeout (id : Nat) (s : State) : Host.Outcome State Fault Refusal := s.upd fun d => d.attemptFails (id % 512)

/-- IDENT: the reply to PROBE (08 R205, R210). -/
def execIdent (n : Nat) (parity : Bool) (bs : List Byte) (s : State) : Host.Outcome State Fault Refusal :=
  s.upd fun d => d.rioReply (n % 16) (· == 0x01) parity bs fun r p d => d.ident r.id p

/-- PARAM_ACK: the reply to PARAM (08 R205, R210). -/
def execParamAck (n : Nat) (parity : Bool) (bs : List Byte) (s : State) : Host.Outcome State Fault Refusal :=
  s.upd fun d => d.rioReply (n % 16) (· == 0x02) parity bs fun r p d => d.paramAck r.id (field p 0 1)

/-- RIO_DATA_REPLY: the reply to DATA (08 R205, R210). -/
def execRioDataReply (n : Nat) (parity : Bool) (bs : List Byte) (s : State) : Host.Outcome State Fault Refusal :=
  s.upd fun d => d.rioReply (n % 16) (· == 0x03) parity bs fun r p d => d.dataReply r.id (field p 0 1) (p.drop 1)

/-- RELEASED: the reply to RELEASE (08 R205, R215). -/
def execReleased (n : Nat) (parity : Bool) (bs : List Byte) (s : State) : Host.Outcome State Fault Refusal :=
  s.upd fun d => d.rioReply (n % 16) (· == 0x04) parity bs fun r _ d => d.released r.id

/-- STATION_MISSING (08 R210). -/
def execStationMissing (id : Nat) (s : State) : Host.Outcome State Fault Refusal := s.upd fun d => d.stationMissing (id % 512)

/-- RIO_LINE_ENABLE (08 R210). -/
def execRioLineEnable (n : Nat) (s : State) : Host.Outcome State Fault Refusal := s.upd fun d => d.lineEnable (n % 16)

/-- RIO_LINE_DISABLE (08 R215). -/
def execRioLineDisable (n : Nat) (s : State) : Host.Outcome State Fault Refusal := s.upd fun d => d.lineDisable (n % 16) false

/-- RIO_LINE_FORCED_DISABLE (08 R215). -/
def execRioLineForcedDisable (n : Nat) (s : State) : Host.Outcome State Fault Refusal :=
  s.upd fun d => d.lineDisable (n % 16) true

/-- RIO_STATION_ENABLE (08 R210). -/
def execRioStationEnable (id : Nat) (s : State) : Host.Outcome State Fault Refusal := s.upd fun d => d.staEnable (id % 512)

/-- RIO_STATION_DISABLE (08 R215). -/
def execRioStationDisable (id : Nat) (s : State) : Host.Outcome State Fault Refusal :=
  s.upd fun d => d.staDisable (id % 512) false

/-- RIO_STATION_FORCED_DISABLE (08 R215). -/
def execRioStationForcedDisable (id : Nat) (s : State) : Host.Outcome State Fault Refusal :=
  s.upd fun d => d.staDisable (id % 512) true

/-- DALI_FRAME_END (08 R218). -/
def execDaliFrameEnd (b : Nat) (s : State) : Host.Outcome State Fault Refusal := s.upd fun d => d.daliFrameEnd (b % 4)

/-- DALI_POLL (08 R219). -/
def execDaliPoll (b : Nat) (s : State) : Host.Outcome State Fault Refusal := s.upd fun d => d.daliPoll (b % 4)

/-- DALI_BACKWARD_FRAME: 0 answer, 1 no answer, 2 INVALID (08 R219). -/
def execDaliBackwardFrame (b result value : Nat) (s : State) : Host.Outcome State Fault Refusal :=
  s.upd fun d => d.daliBackward (b % 4) result value

/-- DALI_EVENT_MESSAGE (08 R219). -/
def execDaliEventMessage (b address : Nat) (value : List Nat) (s : State) : Host.Outcome State Fault Refusal :=
  s.upd fun d => d.when (d.get (GL_DALISTAT_BUS.ix (b % 4)) == 1) fun d => d.daliRec (b % 4) ⟨1, address, 0, value⟩

/-- DALI_SYSTEM_FAILURE (08 R221). -/
def execDaliSystemFailure (b : Nat) (s : State) : Host.Outcome State Fault Refusal := s.upd fun d => d.daliFault (b % 4) 1

/-- DALI_COLLISION_TIMEOUT, with the collisions met (08 R221, R227). -/
def execDaliCollisionTimeout (b coll : Nat) (s : State) : Host.Outcome State Fault Refusal :=
  s.upd fun d => (d.inc (GL_DALISTAT_COLL.ix (b % 4)) coll).daliFault (b % 4) 2

/-- DALI_BUS_RETURN (08 R221). -/
def execDaliBusReturn (b : Nat) (s : State) : Host.Outcome State Fault Refusal := s.upd fun d => d.daliReturn (b % 4)

/-- DALI_RAW_GO (08 R220). -/
def execDaliRawGo (b : Nat) (fr : RawFrame) (s : State) : Host.Outcome State Fault Refusal :=
  s.upd fun d => d.daliRaw (b % 4) fr

/-- DALI_BUS_ENABLE (08 R217). -/
def execDaliBusEnable (b : Nat) (s : State) : Host.Outcome State Fault Refusal := s.upd fun d => d.daliEnable (b % 4)

/-- DALI_BUS_DISABLE (08 R222). -/
def execDaliBusDisable (b : Nat) (s : State) : Host.Outcome State Fault Refusal := s.upd fun d => d.daliDisable (b % 4) false

/-- DALI_BUS_FORCED_DISABLE (08 R222). -/
def execDaliBusForcedDisable (b : Nat) (s : State) : Host.Outcome State Fault Refusal :=
  s.upd fun d => d.daliDisable (b % 4) true

/-- JML_HELLO (08 R224). -/
def execJmlHello (p : Nat) (bs : List Byte) (s : State) : Host.Outcome State Fault Refusal :=
  s.upd fun d => d.jmlIn (p % 2) 0x01 bs fun fr d => d.jmlHello (p % 2) fr

/-- JML_KEEPALIVE_SEND (08 R224). -/
def execJmlKeepaliveSend (p : Nat) (s : State) : Host.Outcome State Fault Refusal := s.upd fun d => d.jmlKeepalive (p % 2)

/-- JML_KEEPALIVE (08 R223, R224). -/
def execJmlKeepalive (p : Nat) (bs : List Byte) (s : State) : Host.Outcome State Fault Refusal :=
  s.upd fun d => d.jmlIn (p % 2) 0x02 bs fun fr d => d.when (d.linkSt (p % 2) == 2) fun d => d.jmlAck (p % 2) fr.ack

/-- JML_POINTS (08 R225). -/
def execJmlPoints (p : Nat) (bs : List Byte) (s : State) : Host.Outcome State Fault Refusal :=
  s.upd fun d => d.jmlIn (p % 2) 0x03 bs fun fr d => d.jmlRx (p % 2) fr
    ((entriesOf fr.payload 0 8 (fr.payload.length / 8)).map fun e => (field e 0 2, field e 2 2, BitVec.ofNat 32 (field e 4 4))) []

/-- RECLAIM (08 R226). -/
def execReclaim (p : Nat) (bs : List Byte) (s : State) : Host.Outcome State Fault Refusal :=
  s.upd fun d => d.jmlIn (p % 2) 0x10 bs fun fr d => d.jmlRx (p % 2) fr [] [field fr.payload 0 2, field fr.payload 2 8]

/-- RELEASE (08 R226). -/
def execRelease (p : Nat) (bs : List Byte) (s : State) : Host.Outcome State Fault Refusal :=
  s.upd fun d => d.jmlIn (p % 2) 0x11 bs fun fr d => d.jmlRx (p % 2) fr [] [field fr.payload 0 2, field fr.payload 2 8]

/-- JML_ACK_TIMEOUT (08 R224). -/
def execJmlAckTimeout (p : Nat) (s : State) : Host.Outcome State Fault Refusal := s.upd fun d => d.jmlAckTimeout (p % 2)

/-- JML_LINK_LOSS (08 R224, R225). -/
def execJmlLinkLoss (p : Nat) (s : State) : Host.Outcome State Fault Refusal := s.upd fun d => d.jmlLost (p % 2)

/-- JML_LINK_ENABLE (08 R224). -/
def execJmlLinkEnable (p : Nat) (s : State) : Host.Outcome State Fault Refusal := s.upd fun d => d.jmlEnable (p % 2)

/-- JML_LINK_DISABLE (08 R224). -/
def execJmlLinkDisable (p : Nat) (s : State) : Host.Outcome State Fault Refusal := s.upd fun d => d.jmlDisable (p % 2)

end Sys2Proof.Machine
end

