-- ==== Sys2Proof/Machine/Mac.lean ====
section
/-! DEFINITION. The mesh MAC in the flights: superframe, frame counters, joining, delivery, sleepy partners, border groups,
chain takeover and node firmware (chapter 14). -/

namespace Sys2Proof.Machine

/-! ## State access -/

/-- Change the MAC of a flight. -/
def Dev.updMac (d : Dev) (f : Flt) (g : MacSt → MacSt) : Dev := d.updFl f fun x => { x with mac := g x.mac }

/-- Configured entry of a short address (14 R363). -/
def Cfg.nodeCfg (c : Cfg) (a : Nat) : Option NodeCfg := c.nodeTab.find? fun n => n.addr == a

/-- What the MAC keeps for a node; a node not yet heard has its configured place. -/
def Dev.nodeSt (d : Dev) (f : Flt) (a : Nat) : NodeState :=
  match mget? (d.fl f).mac.nodes a with
  | some s => s
  | none => match (d.cfgOf f).nodeCfg a with
    | some n => { NodeState.zero with chain := n.chain, slot := n.slot, member := n.member }
    | none => NodeState.zero

/-- Change what the MAC keeps for a node. -/
def Dev.updNode (d : Dev) (f : Flt) (a : Nat) (g : NodeState → NodeState) : Dev :=
  let s := g (d.nodeSt f a)
  d.updMac f fun m => { m with nodes := mput m.nodes a s }

/-- Sleepy partners have addresses from 0x4000 (14 R374). -/
def isSleepy (a : Nat) : Bool := decide (0x4000 ≤ a ∧ a ≤ 0x4FFF)

/-- Addresses of nodes (14 R374). -/
def isNodeAddr (a : Nat) : Bool := decide (a ≤ 0x4FFF)

/-- Counter entry of a node (14 R368, R374). -/
def nbrKey (f : Flt) (a : Nat) : Nat := f.key FL_NBRCTR + 4 * (if isSleepy a then 16384 + (a - 0x4000) else a)

/-- Suite of a lantern's level point (14 R392). -/
def Dev.nodeSuite (d : Dev) (f : Flt) (a : Nat) : Option Nat :=
  if a < 0x4000 then ((d.cfgOf f).node a).level.map fun p => ((d.fl f).pt p).suite else none

/-- Show the joined nodes (14 R391). -/
def Dev.macStat (d : Dev) (f : Flt) : Dev :=
  let l := (d.fl f).mac.nodes.filter fun n => n.2.joined && !n.2.lost
  (d.put (FL_MACSTAT_AWAKE.at f) (l.filter fun n => !isSleepy n.1).length).put (FL_MACSTAT_SLEEPY.at f)
    (l.filter fun n => isSleepy n.1).length

/-! ## The superframe (14 R360 to R363) -/

/-- Role of a chain: 0 OFF, 1 MESH, 2 SLEEPY, 3 COORD (14 R360). -/
def Dev.role (d : Dev) (f : Flt) (n : Nat) : Nat := d.get ((FL_CHROLE_ROLE.ix n).at f)

/-- Beacon interval in ns (14 R361). -/
def Dev.bi (d : Dev) (f : Flt) : Nat := 512000000 * 2 ^ d.get (FL_MACCFG_BICODE.at f)

/-- Slot length in ns. -/
def Dev.slotNs (d : Dev) (f : Flt) : Nat := d.bi f / 256

/-- Offset of a chain's superframe in ns. -/
def Dev.sfOff (d : Dev) (f : Flt) (n : Nat) : Nat := d.get ((FL_CHROLE_OFFSET.ix n).at f) * d.slotNs f

/-- Interval in which an instant lies. -/
def Dev.intervalAt (d : Dev) (f : Flt) (n t : Nat) : Nat := (t - d.sfOff f n) / d.bi f

/-- Start of an interval. -/
def Dev.intervalStart (d : Dev) (f : Flt) (n i : Nat) : Nat := i * d.bi f + d.sfOff f n

/-- Start of transmission in a slot of an interval: 250 us after the slot start (14 R361). -/
def Dev.slotTx (d : Dev) (f : Flt) (n i j : Nat) : Nat := d.intervalStart f n i + j * d.slotNs f + 250000

/-- Multicast and contention slots of a sub-frame. -/
def Dev.mcast (d : Dev) (f : Flt) : Nat := d.get (FL_MACCFG_MCAST.at f)
def Dev.cont (d : Dev) (f : Flt) : Nat := d.get (FL_MACCFG_CONT.at f)

/-- Airtime in ns of a PSDU of a chain with the MAC's preamble. -/
def Dev.airNs (d : Dev) (n len : Nat) : Nat := airtime 8 len (d.get (LG_CHCFG_RATE.ix n)) * 1000

/-- Slots that a beacon of a length occupies (14 R362). -/
def Dev.beaconSlots (d : Dev) (f : Flt) (n len : Nat) : Nat := (d.airNs n len + 500000 + d.slotNs f - 1) / d.slotNs f

/-- The first instant of a list of slots of two intervals that is not before t. -/
def Dev.nextSlot (d : Dev) (f : Flt) (n t : Nat) (ok : Nat → Nat → Bool) : Nat :=
  let i0 := d.intervalAt f n t
  let all := ((List.range 3).map (i0 + ·)).flatMap fun i => ((List.range 256).filter fun j => ok i j).map fun j => d.slotTx f n i j
  (all.find? fun s => decide (t ≤ s)).getD (d.slotTx f n (i0 + 3) 1)

/-- Next multicast slot 1 of a chain; slots under the beacon are not used (14 R362). -/
def Dev.nextMc (d : Dev) (f : Flt) (n t : Nat) : Nat := d.nextSlot f n t fun _ j => j % 16 == 1 && decide (16 ≤ j)

/-- Slot number of dedicated slot q (14 R362). -/
def Dev.dedicated (d : Dev) (f : Flt) (q : Nat) : Nat :=
  let per := max 1 (15 - d.mcast f - d.cont f)
  q / per * 16 + d.mcast f + d.cont f + 1 + q % per

/-- Next listen slot of an awake node: its dedicated slot in intervals that are not its uplink intervals (14 R362). -/
def Dev.nextListen (d : Dev) (f : Flt) (s : NodeState) (t : Nat) : Nat :=
  d.nextSlot f s.chain t fun i j => j == d.dedicated f s.slot && i % 16 != s.member

/-- Channel of a chain at an instant (14 R363). -/
def Dev.macChannel (d : Dev) (f : Flt) (n t : Nat) : Nat :=
  if d.hop (d.band n) ∧ (d.role f n = 1 ∨ d.role f n = 3) then
    let i := d.intervalAt f n t
    let j := (t - d.intervalStart f n i) / d.slotNs f
    (256 * i + j) % max 1 (d.get LG_HOPCFG_NCH)
  else d.get (LG_CHCFG_CHAN.ix n)

/-- A chain that is enabled and not in FAULT, as the flight knows it from its writes and from STATUS records (13 R353, R356). -/
def Dev.chainUp (d : Dev) (f : Flt) (n : Nat) : Bool :=
  let m := (d.fl f).mac
  m.chEn.contains n && !m.fault.contains n

/-- The MAC forms requests with a start time only while the Loggia's time is LOCKED; in FAILSAFE no flight forms any (04 R119; 14 R371,
R390). [log 66 DESIGN CHOICE] -/
def Dev.macTime (d : Dev) (f : Flt) : Bool := (d.fl f).mac.locked

/-- The earliest start of a request on a chain: not while an answer to a train is awaited on its port (14 R381). [log 66 DESIGN CHOICE] -/
def Dev.clearFrom (d : Dev) (f : Flt) (n : Nat) : Nat :=
  let x := d.fl f
  max x.mapTime (mget 0 x.mac.quietUntil n)

/-! ## Frames (14 R364, R365, R369) -/

/-- Contents of a frame that the MAC forms. [log 67 PRESUMED] -/
def frameHdr (typ : Nat) (ackreq : Bool) (train : Option Nat) (level key hops seg dst src ctr : Nat) (route : List Nat) :
    List Byte :=
  le 1 (typ + 16 * b2n ackreq + 32 * b2n train.isSome) ++ le 1 (level + 8 * key + 32 * (hops % 8)) ++ le 2 seg ++ le 2 dst ++
    le 2 src ++ le 4 ctr ++ le 1 route.length ++ [0] ++ route.flatMap (le 2) ++
    (match train with
      | some t => le 8 t
      | none => [])

/-- The transmit counter takes its next value, with its warning (14 R369); none at its end. -/
def Dev.nextCtr (d : Dev) (f : Flt) : Option (Dev × Nat) :=
  let k := f.key FL_MACTXCTR
  let c := (d.rd k).toNat
  if c = 0xFFFFFFFF then none
  else
    let d1 := d.wr k (BitVec.ofNat 32 (c + 1))
    let x := d.fl f
    if 0xF0000000 ≤ c + 1 ∧ rateOk x.mac.ctrLowAt x.mapTime 86400000000000 then
      some ((d1.updMac f fun m => { m with ctrLowAt := some x.mapTime }).raiseFl f .flMacCtrLow [(c + 1 : Nat)], c + 1)
    else some (d1, c + 1)

/-- Everything of a request but its id, counter and PSDU. [log 67 PRESUMED] -/
def Dev.baseReq (d : Dev) (f : Flt) (n cls : Nat) (strict ts : Bool) (start deadline : Nat) : TxReq :=
  { TxReq.zero with
    chain := n, cls := cls, strict := strict, ts := ts, channel := d.macChannel f n start
    rate := d.get (LG_CHCFG_RATE.ix n), start := start, deadline := deadline, preamble := 8, whiten := true }

/-- Put a request for a PSDU into the scan's commit set; the MIC of 8 octets, a stamp and the FCS add to its length
(14 R364). Answers its id. -/
def Dev.putReq (d : Dev) (f : Flt) (r : TxReq) (psdu : List Byte) : Dev × Nat :=
  let id := (d.fl f).mac.nextId
  let stamp := if r.ts then 8 else 0
  let r' := { r with id := id, psdu := psdu, len := psdu.length + 8 + stamp + 2, tsoff := if r.ts then psdu.length + 8 else 0 }
  ((d.updFl f fun x => { x with reqs := x.reqs ++ [r'] }).updMac f fun m => { m with nextId := (id + 1) % 2 ^ 32 }, id)

/-- Key and level of a frame type: group key, or link key 2, coordination key 3 (14 R365, R367). Firmware control is a COMMAND to all, under
the group key (14 R389). [log 71 DESIGN CHOICE] -/
def frameKey (typ dst gkey : Nat) : Nat × Nat :=
  match typ with
  | 0x0 | 0x4 => (2, gkey)
  | 0x1 => (2, 3)
  | 0xA | 0xD => (6, gkey)
  | 0x2 | 0xC | 0xE => (6, if dst = 0xFFFF then gkey else 2)
  | _ => (6, 2)

/-- Whether the key of an index has been delivered: 0 and 1 group keys, 2 link master, 3 coordination key (17 R472). [log 70 DESIGN CHOICE] -/
def Dev.hasKey (d : Dev) (f : Flt) (k : Nat) : Bool := mhas (d.fl f).mac.keys k

/-- Form one frame and its request (14 R369). Answers the machine and the id and counter, none at the counter's end and
under a key that has not been delivered (17 R472). -/
def Dev.macSend (d : Dev) (f : Flt) (r : TxReq) (typ dst : Nat) (ackreq : Bool) (hops : Nat) (route : List Nat)
    (payload : List Byte) : Dev × Option (Nat × Nat) :=
  match (if d.hasKey f (frameKey typ dst (d.fl f).mac.gkey).2 then d.nextCtr f else none) with
  | none => (d, none)
  | some (d1, c) =>
    let k := frameKey typ dst (d.fl f).mac.gkey
    let h := frameHdr typ ackreq none k.1 k.2 hops (d.get (FL_MACCFG_SEGID.at f)) dst (0xFFF0 + r.chain) c route
    let p := d1.putReq f r (h ++ payload)
    (p.1, some (p.2, c))

/-- Note the request whose outcome is awaited (14 R377). -/
def Dev.await (d : Dev) (f : Flt) (id : Nat) (r : MacReq) : Dev := d.updMac f fun m => { m with reqs := mput m.reqs id r }

/-- A MESH_UP message (14 R388). -/
def Dev.meshUp (d : Dev) (f : Flt) (kind chain src time seq : Nat) (data : List Byte) : Dev :=
  let b := le 1 kind ++ le 1 chain ++ le 2 src ++ le 8 time ++ le 2 data.length ++ le 2 seq ++ data
  d.updFl f fun x => { x with msgs := x.msgs ++ [⟨0x51, 0, 0, 0, 0, b, none⟩] }

/-- A delivery outcome of a frame of MESH_DOWN: 0 acknowledged, 1 deadline passed, 2 retries exhausted, 3 no route (14 R388). [log 68 DESIGN CHOICE] -/
def Dev.delivery (d : Dev) (f : Flt) (h : HeldFrame) (outcome : Nat) : Dev := match h.seq with
  | some q => d.meshUp f 2 (d.nodeSt f h.dst).chain h.dst (d.fl f).mapTime q (le 1 outcome)
  | none => d

/-- Put a frame into the queue under a number of its own (14 R377). -/
def Dev.hold (d : Dev) (f : Flt) (h : HeldFrame) : Dev :=
  d.updMac f fun m => { m with queue := m.queue ++ [{ h with num := m.nextNum }], nextNum := m.nextNum + 1 }

/-- Remove a frame from the queue, or put a changed one in its place. -/
def Dev.setHeld (d : Dev) (f : Flt) (h : HeldFrame) (h' : Option HeldFrame) : Dev :=
  d.updMac f fun m => { m with queue := m.queue.flatMap fun q => if q.num = h.num then h'.toList else [q] }

/-- A frame of the queue is given up, with an outcome. -/
def Dev.giveUp (d : Dev) (f : Flt) (h : HeldFrame) (outcome : Nat) : Dev := (d.setHeld f h none).delivery f h outcome

/-! ## Beacons (14 R370, R371, R384) -/

/-- Groups being handed back, with the earliest boundary named. -/
def FlightSt.handback (x : FlightSt) : List Nat × Nat :=
  let l := x.mac.adopted.filter fun a => a.boundary.isSome
  ((l.map (·.group)).take 16, (l.filterMap (·.boundary)).foldl (fun b t => if b = 0 then t else min b t) 0)

/-- First eighteen bytes of a BEACON or COORD payload (14 R370). -/
def Dev.beaconHead (d : Dev) (f : Flt) (n i start : Nat) : List Byte :=
  let x := d.fl f
  let trust := match x.map with
    | some m => m.trusted
    | none => false
  let lean := d.leanCh f n
  le 4 i ++ le 8 (start + (8 * 10 + 0) * 1000000000 / (symRate (d.get (LG_CHCFG_RATE.ix n))).1) ++
    le 1 (b2n trust + 2 * d.get (FL_JOINCTL_PERMIT.at f) + 4 * b2n lean) ++ le 1 (d.get (FL_MACCFG_BICODE.at f)) ++
    le 1 (d.mcast f) ++ le 1 (d.cont f) ++ le 1 x.mac.gkey ++ le 1 x.enf.epoch

/-- BEACON payload (14 R370). -/
def Dev.beaconBody (d : Dev) (f : Flt) (n i start : Nat) : List Byte :=
  let x := d.fl f
  let ad := ((x.mac.adopted.filter fun a => a.boundary.isNone).map (·.group)).take 16
  let hb := x.handback
  d.beaconHead f n i start ++ le 1 ad.length ++ le 1 hb.1.length ++ ad.flatMap (le 2) ++ hb.1.flatMap (le 2) ++
    (if hb.1 = [] then [] else le 8 hb.2)

/-- Shared groups of this home that have not been returned to it since its start (08 R226, 14 R386). [log 69 DESIGN CHOICE] -/
def Dev.groupsOut (d : Dev) (f : Flt) : List Nat :=
  ((((d.cfgOf f).nodeTab.filter fun n => n.home.isNone).filterMap fun n => n.group).dedup).filter fun g =>
    !((d.fl f).mac.released.any fun r => r.1 == g)

/-- Whether an own group is still served by its adopter: the home resumes it at the boundary of its return (08 R226). -/
def Dev.groupAway (d : Dev) (f : Flt) (g : Nat) : Bool :=
  ((d.fl f).mac.reclaim.any fun r => r.1 == g) || (d.fl f).mac.released.any fun r => r.1 == g && decide ((d.fl f).mapTime < r.2)

/-- Without a link the home names its groups in COORD, with a boundary that lies two intervals ahead of the third COORD from now (14 R386).
[log 69 DESIGN CHOICE] [log 69 DESIGN CHOICE] -/
def Dev.coordReclaim (d : Dev) (f : Flt) (i : Nat) : Dev :=
  if (d.fl f).linkUp ≠ [] then d
  else d.updMac f fun m => { m with
    reclaim := m.reclaim ++ ((d.groupsOut f).filter fun g => !(m.reclaim.any fun r => r.1 == g)).map fun g => (g, d.intervalStart f 0 (i + 5)) }

/-- COORD payload: own serial, slot and groups reclaimed (14 R370, R386). -/
def Dev.coordBody (d : Dev) (f : Flt) (n i start : Nat) : List Byte :=
  let rec0 := (d.fl f).mac.reclaim.take 16
  let bound := match rec0 with
    | r :: _ => r.2
    | [] => 0
  d.beaconHead f n i start ++ le 8 Config.serial ++ le 1 (d.get (FL_COORDCFG_SLOT.at f)) ++ le 1 rec0.length ++ [0, 0] ++
    le 8 bound ++ rec0.flatMap fun r => le 2 r.1

/-- The beacon of one chain for the next interval (14 R371, R384). -/
def Dev.beaconOne (d : Dev) (f : Flt) (n : Nat) : Dev :=
  let t := (d.fl f).mapTime
  if !d.chainUp f n then d
  else if d.role f n = 1 then
    let i := d.intervalAt f n t + 1
    let start := d.slotTx f n i 0
    if mget 0 (d.fl f).mac.beaconI n = i + 1 ∨ start < d.clearFrom f n then d
    else
      let r := d.baseReq f n 0 true true start start
      ((d.macSend f r 0x0 0xFFFF false 0 [] (d.beaconBody f n i start)).1).updMac f fun m => { m with
        beaconI := mput m.beaconI n (i + 1) }
  else if d.role f n = 3 then
    let off := d.get (FL_COORDCFG_SLOT.at f) * d.bi f / 16 + 250000
    let i := (t - off) / d.bi f + 1
    let start := i * d.bi f + off
    if mget 0 (d.fl f).mac.coordI n = i + 1 ∨ start < d.clearFrom f n then d
    else
      let d := d.coordReclaim f i
      let r := d.baseReq f n 0 true true start start
      ((d.macSend f r 0x1 0xFFFF false 0 [] (d.coordBody f n i start)).1).updMac f fun m => { m with
        coordI := mput m.coordI n (i + 1) }
  else d

/-- The beacons of every chain (14 R371). -/
def Dev.beacons (d : Dev) (f : Flt) : Dev :=
  if d.macTime f then
    ((List.range 8).foldl (fun d n => d.beaconOne f n) d).put (FL_MACSTAT_BEACON.at f)
      (b2n ((List.range 8).any fun n => d.chainUp f n && d.role f n == 1))
  else d.put (FL_MACSTAT_BEACON.at f) 0

/-! ## Accepting a node's frame (14 R366, R368, R374 to R376) -/

/-- A frame that fails its MIC or its counter (14 R366, R368). -/
def Dev.macReplay (d : Dev) (f : Flt) (a ctr : Nat) (old : Bool) : Dev :=
  let d1 := d.inc (FL_MACCNT_REPLAY.at f)
  let t := (d.fl f).mapTime
  if old ∧ rateOk (d.nodeSt f a).replayAt t 60000000000 then
    (d1.updNode f a fun s => { s with replayAt := some t }).raiseFl f .flMacReplay [a, ctr] (d.nodeSuite f a)
  else d1

/-- Name an uplink frame in the next AGGACK (14 R377). -/
def Dev.nameAck (d : Dev) (f : Flt) (n a ctr : Nat) : Dev := d.updMac f fun m => { m with acks := m.acks ++ [(n, a, ctr)] }

/-- Whether a chain takes the frames of a kind of node: MESH those of awake nodes, SLEEPY every frame (14 R360). -/
def Dev.chainTakes (d : Dev) (f : Flt) (n : Nat) (sleepy : Bool) : Bool := d.role f n == 2 || d.role f n == 1 && !sleepy

/-- A node frame's handling by MIC and counter; an accepted frame counts as a sign of life, and as joining after a start. AGGACKs go out on
MESH chains only (14 R360, R366, R368, R375 to R377). The effect follows only where the frame is accepted. [log 70 DESIGN CHOICE] -/
def Dev.macAccept (d : Dev) (f : Flt) (n a ctr : Nat) (mic up : Bool) (g : Dev → Dev) : Dev :=
  let uplink := up && d.role f n == 1
  if !d.chainTakes f n (isSleepy a) ∨ !isNodeAddr a ∨ ((d.cfgOf f).nodeCfg a).isNone then d
  else if !mic then d.macReplay f a ctr false
  else
    let k := nbrKey f a
    let e := (d.rd k).toNat
    if ctr = e then
      let d1 := d.inc (FL_MACCNT_DUP.at f)
      if uplink then d1.nameAck f n a ctr else d1
    else if ctr < e then d.macReplay f a ctr true
    else
      let was := d.nodeSt f a
      let d1 := (d.wr k (BitVec.ofNat 32 ctr)).updNode f a fun s => { s with joined := true, lost := false, heard := (d.fl f).mapTime }
      let d2 := if was.lost then d1.raiseFl f .flMacNodeReturned [a] (d.nodeSuite f a) else d1
      let d3 := if uplink then d2.nameAck f n a ctr else d2
      g (d3.macStat f)

/-! ## Sleepy partners (14 R380 to R382) -/

/-- Tcheck of a partner in ns. -/
def Dev.tcheck (d : Dev) (f : Flt) (a : Nat) : Nat := match (d.cfgOf f).nodeCfg a with
  | some n => n.tcheck
  | none => 0

/-- DRIFTMIN in ppb; 0 acts as 1 ppm. -/
def Dev.driftMin (d : Dev) (f : Flt) : Int := ((max 1 (d.get (FL_MACTIM_DRIFTMIN.at f)) * 1000 : Nat) : Int)

/-- The partner's period (14 R380). -/
def SleepyState.per (s : SleepyState) (tc : Int) : Int := tc + Int.tdiv (tc * s.rho) 1000000000

/-- An observation of a wake (14 R380). -/
def SleepyState.observe (s : SleepyState) (tc drift w : Int) : SleepyState :=
  if !s.known then { s with wl := w, rho := 0, delta := drift.toNat, known := true }
  else
    let el := w - s.wl
    let p := s.per tc
    let k := Int.tdiv (el + Int.tdiv p 2) p
    if k = 0 then s
    else
      let meas := Int.tdiv ((el - k * tc) * 1000000000) (k * tc)
      { s with delta := (max drift (meas - s.rho).natAbs).toNat, rho := meas, wl := w }

/-- Predicted wake at or after an instant (14 R380). -/
def SleepyState.predict (s : SleepyState) (tc x : Int) : Int :=
  s.wl + Int.tdiv ((x - s.wl) + s.per tc - 1) (s.per tc) * s.per tc

/-- Guard of a wake (14 R380). -/
def SleepyState.guard (s : SleepyState) (x : Int) : Nat := (Int.tdiv (2 * (s.delta : Nat) * (x - s.wl)) 1000000000 + 500000).toNat

/-- An accepted ACK or STATUS gives an observation (14 R380). -/
def Dev.observe (d : Dev) (f : Flt) (a ts us : Nat) : Dev :=
  if !isSleepy a ∨ us = 0xFFFFFFFF then d
  else
    let w : Int := (ts : Nat) - ((us * 1000 : Nat) : Int)
    d.updMac f fun m => { m with
      sleepy := mput m.sleepy a ((mget SleepyState.zero m.sleepy a).observe ((d.tcheck f a : Nat) : Int) (d.driftMin f) w)
      missed := mdel m.missed a }

/-- Octets of a long preamble (14 R381). -/
def longPreamble (tc sr : Nat) : Nat := ((tc / 1000 + 2000) * sr + 7999999) / 8000000

/-- Room below the NORMAL ceiling as last reported (14 R382). -/
def Dev.airRoom (d : Dev) (f : Flt) (n us : Nat) : Bool :=
  match mget? (d.fl f).mac.air n with
  | some (sum, budget) => decide ((sum + us) * 100 ≤ d.get LG_TALLYCFG_CEILN * budget)
  | none => true

/-- Whether an instant falls into the beacon slots of the port partner (14 R381). -/
def Dev.partnerBeacon (d : Dev) (f : Flt) (n a b : Nat) : Bool :=
  let p := partner n
  d.role f p == 1 && d.chainUp f p &&
    (List.range 2).any fun k =>
      let i := d.intervalAt f p a + k
      let s := d.intervalStart f p i
      let e := s + d.beaconSlots f p (14 + (d.beaconBody f p i s).length + 18) * d.slotNs f
      decide (a < e ∧ s < b)

/-- A train at a wake: its guard, its copies, the gap between their starts, its first start and its end, in ns (14 R381). -/
structure Train where
  /-- guard -/
  guard : Nat
  /-- copies -/
  copies : Nat
  /-- from start to start -/
  gap : Nat
  /-- first start -/
  first : Nat
  /-- end -/
  fin : Nat
  deriving DecidableEq, Repr

/-- The train that would meet a wake, of copies that take `air` ns (14 R381). -/
def SleepyState.train (s : SleepyState) (air : Nat) (w : Int) : Train :=
  let g := s.guard w
  let gap := air + 100000
  let r := g / gap + 2
  let first := (w - ((g / 2 : Nat) : Int)).toNat
  ⟨g, r, gap, first, first + (r - 1) * gap + air⟩

/-- The train at a wake, moved past the partner's beacon slot wake by wake (14 R381). [log 66 DESIGN CHOICE] -/
def Dev.trainAt (d : Dev) (f : Flt) (n : Nat) (s : SleepyState) (tc air : Nat) : Nat → Int → Train
  | 0, w => s.train air w
  | k + 1, w =>
    let t := s.train air w
    if d.partnerBeacon f n t.first t.fin then d.trainAt f n s tc air k (w + s.per tc) else t

/-- Send a frame to a sleepy partner by a train or by a long preamble (14 R381). The frame's counter, or none while it
waits. -/
def Dev.sleepySend (d : Dev) (f : Flt) (h : HeldFrame) : Dev × Option Nat :=
  let x := d.fl f
  let n := (d.nodeSt f h.dst).chain
  let now := x.mapTime
  let tc := d.tcheck f h.dst
  let s := mget SleepyState.zero x.mac.sleepy h.dst
  let len := 14 + h.data.length + 8 + 2
  let rate := d.get (LG_CHCFG_RATE.ix n)
  let air := airtime 8 (len + 8 + 8) rate
  let t := d.trainAt f n s tc (air * 1000) 8 (s.predict tc ((now + 50000000 : Nat) : Int))
  let lp := longPreamble tc (symRate rate).1
  let longAir := airtime lp len rate
  let useTrain := s.known && decide (t.guard ≤ tc / 2) && decide (t.copies * air < longAir) && decide (mget 0 x.mac.missed h.dst < 2)
  let need := if useTrain then t.copies * air else longAir
  if !d.macTime f ∨ !d.chainUp f n ∨ now < d.clearFrom f n ∨ !d.airRoom f n need ∨ !d.hasKey f (frameKey h.kind h.dst x.mac.gkey).2 then
    (d, none)
  else
    match d.nextCtr f with
    | none => (d, none)
    | some (d1, c) =>
      let k := frameKey h.kind h.dst x.mac.gkey
      let hdr (train : Option Nat) : List Byte :=
        frameHdr h.kind h.ackreq train k.1 k.2 0 (d.get (FL_MACCFG_SEGID.at f)) h.dst (0xFFF0 + n) c []
      let wait (d : Dev) (id : Nat) : Dev := d.await f id ⟨h.kind, n, h.num, []⟩
      if useTrain then
        let q := t.fin + 1000000 + d.airNs n 32 + 500000
        let d2 := (List.range t.copies).foldl (fun d i =>
          let st := t.first + i * t.gap
          let p := d.putReq f (d.baseReq f n 3 true true st st) (hdr (some t.fin) ++ h.data)
          wait p.1 p.2) d1
        (d2.updMac f fun m => { m with quietUntil := mput (mput m.quietUntil n q) (partner n) q }, some c)
      else
        let rq := { d.baseReq f n 3 false false 0 h.deadline with preamble := lp }
        let p := d1.putReq f rq (hdr none ++ h.data)
        (((wait p.1 p.2).incWrap (FL_SLEEPYST_LONGPRE.at f)).updMac f fun m => { m with
          sleepy := mput m.sleepy h.dst { s with known := false } }, some c)

/-- A frame to a sleepy partner is dropped (14 R382). -/
def Dev.sleepyDrop (d : Dev) (f : Flt) (h : HeldFrame) : Dev :=
  (((d.setHeld f h none).inc (FL_MACDROP_SLEEPY.at f)).raiseFl f .flMacSleepyDrop [h.dst, h.seq.getD 0]).delivery f h 1

/-! ## Routes (14 R383) -/

/-- Relay of a node's present route: none direct (14 R383). -/
def Dev.relayOf (d : Dev) (f : Flt) (a : Nat) : Option Nat :=
  match (d.cfgOf f).nodeCfg a with
  | none => none
  | some n => match n.relays[(d.nodeSt f a).route]? with
    | some r => if r = 0xFFFF then none else some r
    | none => none

/-- Whether a node has a route left (14 R383). -/
def Dev.reachable (d : Dev) (f : Flt) (a : Nat) : Bool :=
  match (d.cfgOf f).nodeCfg a with
  | none => false
  | some n => n.relays = [] || decide ((d.nodeSt f a).route < n.relays.length)

/-- The link between a relay and its partner is declared lost: the first declaration reroutes the partner, and with no entry left its frames
have no route (14 R383, R388). [log 68 DESIGN CHOICE] -/
def Dev.linkLost (d : Dev) (f : Flt) (src other : Nat) : Dev :=
  let sl := if isSleepy other then other else src
  let re := if isSleepy other then src else other
  if d.relayOf f sl ≠ some re then d
  else
    let d1 := (d.inc (FL_SLEEPYST_LINKLOST.at f)).raiseFl f .flMacLinkLost [src, other] (d.nodeSuite f src)
    let d2 := d1.updNode f sl fun s => { s with route := s.route + 1 }
    let new := if !d2.reachable f sl then 0xFFFE else (d2.relayOf f sl).getD 0xFFFF
    let d3 := d2.raiseFl f .flMacReroute [sl, new]
    if !d2.reachable f sl then ((d3.fl f).mac.queue.filter fun h => h.dst == sl).foldl (fun d h => d.giveUp f h 3) d3
    else match d2.relayOf f sl with
      | some r => d3.hold f { HeldFrame.zero with
          dst := r, deadline := (d.fl f).mapTime + 10000000000, ackreq := true, retries := max 1 (d.get (FL_MACTIM_RETRY.at f))
          kind := 0xE, data := le 2 sl }
      | none => d3

/-! ## What a scan sends (14 R377 to R382) -/

/-- The AGGACK of a chain: as many entries as fit slot 1 (14 R377). -/
def Dev.aggAck (d : Dev) (f : Flt) (n : Nat) : Dev :=
  let l := (d.fl f).mac.acks.filter fun a => a.1 == n
  if l = [] ∨ !d.macTime f ∨ !d.chainUp f n ∨ d.role f n ≠ 1 then d
  else
    let fits (k : Nat) : Bool := decide (d.airNs n (14 + 1 + 6 * k + 8 + 2) + 500000 ≤ d.slotNs f)
    let k := (((List.range 161).filter fits).getLastD 0)
    let now := l.take (max 1 k)
    let start := d.nextMc f n (max ((d.fl f).mapTime + 4000000) (d.clearFrom f n))
    let body := le 1 now.length ++ now.flatMap fun a => le 2 a.2.1 ++ le 4 a.2.2
    let p := d.macSend f (d.baseReq f n 1 false false start start) 0x4 0xFFFF false 0 [] body
    let d1 := match p.2 with
      | some (id, _) => p.1.await f id ⟨0x4, n, 0, body⟩
      | none => p.1
    d1.updMac f fun m => { m with acks := m.acks.filter fun a => !(a.1 == n && now.contains a) }

/-- Descriptors of a chain: as many as fit slot 1, further ones in the next sub-frame; one that no slot reaches before its
deadline is counted (09 R258, R260; 14 R377, R378). [log 60 DEDUCED] -/
def Dev.sendDescs (d : Dev) (f : Flt) (n : Nat) (l : List Desc) : Dev :=
  let lean := d.leanCh f n
  let mine := (l.filter fun x => ((d.fl f).chainsFor x.inj).contains n && !(lean && x.cancel)).map fun x => { x with lean := lean }
  let fits (k : Nat) : Bool := decide (d.airNs n (14 + 1 + 20 * k + 8 + 2) + 500000 ≤ d.slotNs f)
  let k := max 1 (((List.range 49).filter fits).getLastD 1)
  let groups := (List.range ((mine.length + k - 1) / k)).map fun i => (mine.drop (i * k)).take k
  let r := groups.foldl (fun (p : Dev × Nat) g =>
    let d := p.1
    let start := d.nextMc f n p.2
    let dl (x : Desc) : Nat := x.tick + d.get (FL_ENFAIR2_DESCDL.at f) * 1000000
    let ok := g.filter fun x => decide (start ≤ dl x)
    let d1 := d.inc (FL_MACDROP_DESC.at f) (g.length - ok.length)
    if ok = [] then (d1, p.2)
    else
      let dead := ok.foldl (fun m x => max m (dl x)) start
      let rq := d1.baseReq f n 2 false false start dead
      ((d1.macSend f rq 0xA 0xFFFF false (d.mcast f - 1) [] (le 1 ok.length ++ ok.flatMap (d.descBytes f))).1, start + 1))
    (d, d.clearFrom f n)
  r.1

/-- Reach fragment payload (09 R255). -/
def Dev.reachPayload (d : Dev) (f : Flt) (lp i : Nat) : List Byte :=
  let r := mget ReachState.zero (d.fl f).enf.reach lp
  let n := (d.cfgOf f).node lp
  let fr := fragOf r.pushed i
  le 2 r.version ++ le 1 i ++ le 1 (max 1 ((r.pushed.length + 7) / 8)) ++ le 4 r.crc ++ le 2 n.min ++ le 2 n.max ++
    le 1 fr.length ++ [0, 0, 0] ++ fr.flatMap ReachEntry.bytes

/-- Profile payload (09 R255). -/
def Dev.profilePayload (d : Dev) (f : Flt) : List Byte :=
  le 1 (d.fl f).enf.epoch ++ [0, 0, 0] ++ (List.range 4).flatMap fun c =>
    le 2 (d.get ((FL_ENFPEAK_PEAK.ix c).at f)) ++ le 2 (d.get ((FL_ENFPROFA_PA.ix c).at f)) ++
    le 2 (d.get ((FL_ENFPROFA_RA.ix c).at f)) ++ le 2 (d.get ((FL_ENFPROFB_PB.ix c).at f)) ++
    le 2 (d.get ((FL_ENFPROFB_RB.ix c).at f)) ++ le 2 (d.get ((FL_ENFCLASS_SPEED.ix c).at f))

/-- A push of LOCALPROF values: 0xFF, and the four values (14 R372, R379). [log 67 PRESUMED] -/
def localPayload (v : Nat × Nat × Nat × Nat) : List Byte :=
  le 1 0xFF ++ [0, 0, 0] ++ le 2 v.1 ++ le 2 v.2.1 ++ le 2 v.2.2.1 ++ le 2 v.2.2.2

/-- A frame of the MAC's own in a listen slot, BULK, for 10 s (14 R377). -/
def Dev.bulkFrame (d : Dev) (f : Flt) (dst kind : Nat) (data : List Byte) : HeldFrame :=
  { HeldFrame.zero with
    dst := dst, deadline := (d.fl f).mapTime + 10000000000, ackreq := true, retries := 1, kind := kind, data := data }

/-- Reach pushes go to the MAC as BULK frames in the lantern's listen slots (14 R377, R379). -/
def Dev.takePushes (d : Dev) (f : Flt) : Dev :=
  let l := (d.fl f).mac.reachDue
  if l = [] then d
  else
    let d1 := l.foldl (fun d p => d.hold f (d.bulkFrame f p.1 0xB (d.reachPayload f p.1 p.2))) d
    (d1.updMac f fun m => { m with reachDue := [] }).reachShow f

/-- A PROFILE to all: multicast slot 1 of three consecutive sub-frames of every MESH chain (14 R377). -/
def Dev.profileAll (d : Dev) (f : Flt) (sends : Nat) (body : List Byte) : Dev :=
  ((List.range 8).filter fun n => d.chainUp f n && d.role f n == 1).foldl (fun d n =>
    ((List.range sends).foldl (fun (p : Dev × Nat) _ =>
      let start := p.1.nextMc f n p.2
      ((p.1.macSend f (p.1.baseReq f n 4 false false start (start + 10000000000)) 0xC 0xFFFF false (p.1.mcast f - 1) [] body).1, start + 1))
      (d, d.clearFrom f n)).1) d

/-- The profile and LOCALPROF values that are due go out to all; lanterns with LOCALPROF values of their own get them in unicast frames
(14 R377, R379, R390). [log 67 PRESUMED] -/
def Dev.sendProfiles (d : Dev) (f : Flt) : Dev :=
  let m := (d.fl f).mac
  if !d.macTime f then d
  else
    let d1 := if m.profileDue = 0 then d else (d.profileAll f m.profileDue (d.profilePayload f)).updMac f fun m => { m with profileDue := 0 }
    if !m.localDue then d1
    else
      let lp := (d.cfgOf f).localProf
      let d2 := match mget? lp 0xFFFF with
        | some v => d1.profileAll f 3 (localPayload v)
        | none => d1
      ((lp.filter fun (e : Nat × Nat × Nat × Nat × Nat) => e.1 != 0xFFFF).foldl (fun d e => d.hold f (d.bulkFrame f e.1 0xC (localPayload e.2))) d2).updMac f
        fun m => { m with localDue := false }

/-- The ACK of a frame that has been sent has not come: a sleepy partner's frame has failed once and waits for another wake, REACH and
PROFILE are left pending, any other frame is sent again while it may (14 R377, R381, R382). -/
def Dev.noAck (d : Dev) (f : Flt) (h : HeldFrame) : Dev :=
  if isSleepy h.dst then
    (d.setHeld f h (some { h with stage := 0, due := 0 })).updMac f fun m => { m with missed := mupd 0 m.missed h.dst (· + 1) }
  else if h.kind = 0xB ∨ h.kind = 0xC then d.setHeld f h none
  else if h.retries ≤ 1 then d.giveUp f h 2
  else d.setHeld f h (some { h with stage := 0, due := 0, retries := h.retries - 1 })

/-- Send a waiting frame: to a sleepy partner at a wake, to an awake node or a relay in its listen slot, to all in multicast slot 1 (14 R377,
R381, R383). -/
def Dev.sendNow (d : Dev) (f : Flt) (h : HeldFrame) : Dev :=
  match isSleepy h.dst, d.relayOf f h.dst with
  | true, none =>
    let p := d.sleepySend f h
    match p.2 with
    | some c => p.1.setHeld f h (some { h with stage := 1, ctr := c, via := (d.nodeSt f h.dst).chain })
    | none => p.1
  | _, re =>
    let mc := h.dst = 0xFFFF
    let sh := d.nodeSt f (re.getD h.dst)
    let n := if mc then h.via else sh.chain
    if !d.chainUp f n then d
    else
      let bulk := h.kind = 0xB ∨ h.kind = 0xC ∨ h.kind = 0xD
      let start := if mc then d.nextMc f n (d.clearFrom f n) else d.nextListen f sh (d.clearFrom f n)
      let cls := if bulk then 4 else if h.urgent then 2 else 3
      let p := d.macSend f (d.baseReq f n cls false false start h.deadline) h.kind h.dst h.ackreq (if mc then d.mcast f - 1 else 0)
        re.toList h.data
      match p.2 with
      | some (id, c) => (p.1.await f id ⟨h.kind, n, h.num, []⟩).setHeld f h (some { h with stage := 1, ctr := c, via := n })
      | none => p.1

/-- A frame of the queue at the end of a scan: sent, resent, given up at its deadline, or resubmitted once where its node has rejoined on the
chain that took it over (14 R377, R381, R382). A sleepy partner's frame is dropped by SLEEPY_DEADLINE. [log 68 DESIGN CHOICE] -/
def Dev.sendHeld (d : Dev) (f : Flt) (h : HeldFrame) : Dev :=
  let now := (d.fl f).mapTime
  if h.stage = 1 then d
  else if h.stage = 2 then if h.due < now then d.noAck f h else d
  else if h.deadline < now then if isSleepy h.dst then d else d.giveUp f h 1
  else if h.stage = 3 then
    if (d.nodeSt f h.dst).chain ≠ h.via then
      let h' := { h with stage := 0, again := true }
      (d.setHeld f h (some h')).sendNow f h'
    else if (d.fl f).mac.adopted.any fun a => a.peer == 8 + h.via then d
    else d.giveUp f h 2
  else d.sendNow f h

/-- What the MAC puts into the commit set of a scan (14 R377). -/
def Dev.macFlush (d : Dev) (f : Flt) : Dev :=
  let descs := (d.fl f).mac.descs
  let d1 := (d.updMac f fun m => { m with descs := [] }).takePushes f
  let d2 := ((List.range 8).foldl (fun d n => (d.sendDescs f n descs).aggAck f n) d1).sendProfiles f
  (d2.fl f).mac.queue.foldl (fun d h => d.sendHeld f h) d2

/-! ## Outcomes (14 R377, R382; 13 R355) -/

/-- The outcome of a request that carried a frame of the queue; `fin` is the end of its transmission, `more` tells that copies of a train
are still with the Loggia. -/
def Dev.heldReport (d : Dev) (f : Flt) (h : HeldFrame) (outcome fin : Nat) (more : Bool) : Dev :=
  if outcome = 0 then
    if h.ackreq then d.setHeld f h (some { h with stage := 2, due := max h.due (fin + 1000000 + d.airNs h.via 32 + 500000) })
    else d.setHeld f h none
  else if more ∨ h.stage = 2 then d
  else if outcome = 3 then if h.again then d.giveUp f h 2 else d.setHeld f h (some { h with stage := 3 })
  else if isSleepy h.dst ∧ outcome = 1 ∧ h.deadline ≤ (d.fl f).mapTime then d.sleepyDrop f h
  else if h.kind = 0xD then d.setHeld f h none
  else d.noAck f h

/-- A REPORT of a request that began at `start` and took `air` µs (14 R377). -/
def Dev.macReport (d : Dev) (f : Flt) (id outcome start air : Nat) : Dev :=
  match mget? (d.fl f).mac.reqs id with
  | none => d
  | some r =>
    let d1 := d.updMac f fun m => { m with reqs := mdel m.reqs id }
    if r.kind = 0x4 then
      if outcome = 0 then d1
      else d1.updMac f fun m => { m with acks := m.acks ++ (List.range (field r.data 0 1)).map fun i =>
        (r.chain, field r.data (1 + 6 * i) 2, field r.data (3 + 6 * i) 4) }
    else match (d1.fl f).mac.queue.find? fun h => h.num == r.num with
      | none => d1
      | some h => d1.heldReport f h outcome (start + air * 1000) ((d1.fl f).mac.reqs.any fun q => q.2.kind != 0x4 && q.2.num == r.num)

/-! ## Nodes (14 R373, R375, R376, R379) -/

/-- Points mapped to a field of a node (20 R544). -/
def Dev.nodePoints (d : Dev) (f : Flt) (a : Nat) : List (Nat × Nat) :=
  ((d.cfgOf f).nodePts.filter fun e => e.1 == a).map fun e => e.2

/-- Value of a STATUS field: 0 level, 1 LAMPFAULT, 2 PRESENCE, 3 RSSI, 8 on the sensor bytes (20 R544). -/
def statusField (p : List Byte) (k : Nat) : Option W32 :=
  let flags := field p 2 1
  match k with
  | 0 => some (BitVec.ofNat 32 (field p 0 2))
  | 1 => some (BitVec.ofNat 32 (b2n (bitOf flags 0)))
  | 2 => some (BitVec.ofNat 32 (b2n (bitOf flags 3)))
  | 3 => some (BitVec.ofInt 32 (signed 8 (field p 3 1)))
  | _ => if 8 ≤ k ∧ 22 + (k - 8) < p.length then some (BitVec.ofNat 32 (field p (22 + (k - 8)) 1)) else none

/-- A node's STATUS (14 R373). -/
def Dev.nodeStatus (d : Dev) (f : Flt) (n a ts : Nat) (p : List Byte) : Dev :=
  let d1 := (d.nodePoints f a).foldl (fun d e =>
    match statusField p e.1 with
    | some v => d.updFl f fun x => x.load e.2 v qGood 7
    | none => d) d
  let lantern := decide (a < 0x4000) && ((d.cfgOf f).node a).kind == 3
  let d2 := if lantern then d1.enfVerify f a (field p 0 2) (field p 4 4) else d1
  let missing := field p 14 2
  let d3 := d2.updNode f a fun s => { s with missing := missing }
  let d4 := if d3.get (FL_FWDIST_PHASE.at f) ≠ 0 then
      let pend := ((d3.fl f).mac.fwPending.filter (· ≠ a)) ++ (if missing = 0 ∨ missing = 0xFFFF then [] else [a])
      (d3.updMac f fun m => { m with fwPending := pend }).put (FL_FWDIST_PENDING.at f) pend.length
    else d3
  let d5 := if lantern ∧ field p 10 1 ≠ (d.fl f).enf.epoch ∧ !(d4.fl f).mac.queue.any fun h => h.dst == a && h.kind == 0xC then
      d4.hold f (d4.bulkFrame f a 0xC (d.profilePayload f))
    else d4
  let d6 := if bitOf (field p 2 1) 2 then d5.linkLost f a (field p 16 2) else d5
  (d6.observe f a ts (field p 18 4)).meshUp f 1 n a ts 0 p

/-- Uplink slots of a node whose start lies at or before an instant (14 R362). -/
def Dev.uplinks (d : Dev) (f : Flt) (s : NodeState) (t : Nat) : Nat :=
  let o := d.sfOff f s.chain + d.dedicated f s.slot * d.slotNs f
  if t < o then 0 else ((t - o) / d.bi f + 16 - s.member) / 16

/-- Whether a node is due to be LOST: NODELOST uplink slots have ended, or as many report periods have passed, since its last accepted
frame (14 R376). -/
def Dev.lostDue (d : Dev) (f : Flt) (a : Nat) : Bool :=
  let s := d.nodeSt f a
  let k := max 1 (d.get (FL_MACTIM_NODELOST.at f))
  let now := (d.fl f).mapTime
  s.joined && !s.lost &&
    (if isSleepy a then decide (s.heard + k * ((((d.cfgOf f).nodeCfg a).map (·.report)).getD 0) * 1000000000 ≤ now)
    else decide (k ≤ d.uplinks f s (now - d.slotNs f) - d.uplinks f s s.heard))

/-- A node is LOST (14 R376). -/
def Dev.nodeLost (d : Dev) (f : Flt) (a : Nat) : Dev :=
  if !d.lostDue f a then d
  else
    let d1 := (d.nodePoints f a).foldl (fun d e => d.substitute f e.2 7) d
    ((d1.updNode f a fun s => { s with lost := true }).raiseFl f .flMacNodeLost [a] (d.nodeSuite f a)).macStat f

/-- JOIN_RESP and REJOIN_RESP: address, place, alternate, group key index, group key and LOCALPROF values, in multicast slot 1. JOIN_RESP
goes to the address of a joining node (14 R374, R375). [log 67 PRESUMED] -/
def Dev.joinResp (d : Dev) (f : Flt) (n typ a : Nat) : Dev :=
  let s := d.nodeSt f a
  let alt := match (d.cfgOf f).nodeCfg a with
    | some c => le 1 c.altChain ++ le 2 c.altSeg ++ le 1 c.altChannel
    | none => []
  let lp := mget (mget (0, 0, 0, 0) (d.cfgOf f).localProf 0xFFFF) (d.cfgOf f).localProf a
  let g := (d.fl f).mac.gkey
  let key := (List.range 16).map (Config.groupKey g (mget 0 (d.fl f).mac.keys g))
  let body := le 2 a ++ le 1 s.chain ++ le 2 s.slot ++ le 1 s.member ++ alt ++ le 1 g ++ key ++ le 2 lp.1 ++
    le 2 lp.2.1 ++ le 2 lp.2.2.1 ++ le 2 lp.2.2.2
  let start := d.nextMc f n (d.clearFrom f n)
  (d.macSend f (d.baseReq f n 1 false false start start) typ (if typ = 0x6 then 0xFFFE else a) false 0 [] body).1

/-- A request to join that is refused; that of a lantern of the table is tagged (14 R375, R390, R392). -/
def Dev.joinRefused (d : Dev) (f : Flt) (eui reason : Nat) (suite : Option Nat := none) : Dev :=
  d.raiseFl f .flMacJoinRefused [((eui % 2 ^ 32 : Nat) : Int), reason] suite

/-- Checks of a join or rejoin request; the effect follows on acceptance (14 R375). -/
def Dev.joinCheck (d : Dev) (f : Flt) (n eui ctr : Nat) (mic : Bool) (g : Dev → NodeCfg → Dev) : Dev :=
  if d.role f n = 0 ∨ d.role f n = 3 then d
  else match (d.cfgOf f).nodeTab.find? fun e => e.eui == eui with
    | none => d.joinRefused f eui 1
    | some c =>
      let tag := d.nodeSuite f c.addr
      if !d.chainTakes f n c.sleepy then d
      else if !d.bit (FL_JOINCTL_PERMIT.at f) then d.joinRefused f eui 2 tag
      else if !mic then (d.inc (FL_MACCNT_REPLAY.at f)).joinRefused f eui 3 tag
      else if ctr ≤ (d.rd (nbrKey f c.addr)).toNat then d.joinRefused f eui 4 tag
      else g (d.wr (nbrKey f c.addr) (BitVec.ofNat 32 ctr)) c

/-- A node has joined (14 R375). -/
def Dev.joined (d : Dev) (f : Flt) (c : NodeCfg) (s : NodeState) : Dev :=
  let d1 := (d.updMac f fun m => { m with nodes := mput m.nodes c.addr { s with joined := true, lost := false, heard := (d.fl f).mapTime } }).incWrap
    (FL_JOINCTL_JOINS.at f)
  (d1.raiseFl f .flMacJoin [c.addr, ((c.eui % 2 ^ 32 : Nat) : Int)] (d.nodeSuite f c.addr)).macStat f

/-- A free place on a chain for a rejoining node; during a takeover two nodes may share each member place, 32 to a slot
(14 R385, R387). -/
def Dev.freePlace (d : Dev) (f : Flt) (n : Nat) : Option (Nat × Nat) :=
  let per := 16 * (15 - d.mcast f - d.cont f)
  let takeover := (d.fl f).mac.adopted.any fun a => decide (8 ≤ a.peer)
  let most := if takeover then 2 else 1
  let places := (List.range per).flatMap fun q => (List.range 16).map fun m => (q, m)
  let all := ((d.cfgOf f).nodeTab.map fun c => (d.nodeSt f c.addr, c)).filter fun p => !p.2.sleepy && p.1.chain == n
  places.find? fun qm => decide ((all.filter fun p => p.1.slot == qm.1 && p.1.member == qm.2).length < most)

/-! ## Border groups and takeover (14 R384 to R387; 08 R226) -/

/-- Nodes of the table that belong to a group of a peer. -/
def Cfg.groupsOf (c : Cfg) (p : Nat) : List Nat :=
  ((c.nodeTab.filter fun n => n.home == some p).filterMap fun n => n.group).dedup

/-- Show how many groups of a peer are served. -/
def Dev.peerShow (d : Dev) (f : Flt) (p : Nat) : Dev :=
  d.put ((FL_PEERSTAT_ADOPTED.ix p).at f) ((d.fl f).mac.adopted.filter fun a => a.peer == p).length

/-- Instant of a peer's coordination beacon within an interval (14 R384). -/
def Dev.peerOff (d : Dev) (f : Flt) (p : Nat) : Nat := d.get ((FL_PEERCFG_SLOT.ix p).at f) * d.bi f / 16 + 250000

/-- The interval whose coordination beacon of a peer is next to be found missed: the one behind the last received or missed, or the latest
whose window of 2 ms is over; none while that window lasts (14 R384). [log 69 DESIGN CHOICE] -/
def Dev.missDue (d : Dev) (f : Flt) (p : Nat) : Option Nat :=
  let o := d.peerOff f p + 2000000
  let now := (d.fl f).mapTime
  let k := mget 0 (d.fl f).mac.coordSeen p
  if now < o then none
  else
    let i := (now - o) / d.bi f
    if k = 0 then some i else if k ≤ i then some k else none

/-- A peer's coordination beacon is missed (14 R384, R385). -/
def Dev.coordMiss (d : Dev) (f : Flt) (p : Nat) : Dev :=
  match (if d.bit ((FL_PEERCFG_VALID.ix p).at f) then d.missDue f p else none) with
  | none => d
  | some i =>
    let st := (FL_PEERSTAT_STATE.ix p).at f
    let d1 := (d.inc ((FL_PEERSTAT_MISS.ix p).at f)).updMac f fun m => { m with
      present := mdel m.present p, coordSeen := mput m.coordSeen p (i + 1) }
    if d1.get ((FL_PEERSTAT_MISS.ix p).at f) < 3 ∨ d1.get st = 2 then d1
    else
      let gs := (d.cfgOf f).groupsOf p
      let free := (List.range 8).foldl (fun n ch =>
        if d.role f ch = 1 ∧ d.chainUp f ch then
          n + (16 * 16 * (15 - d.mcast f - d.cont f) - ((d.cfgOf f).nodeTab.filter fun c => !c.sleepy && c.chain == ch && c.home.isNone).length)
        else n) 0
      let nodes := ((d.cfgOf f).nodeTab.filter fun c => c.home == some p).length
      let keep := (d1.fl f).mac.adopted.filter fun a => a.peer ≠ p
      let d2 := ((d1.put st 2).inc ((FL_PEERSTAT_LOSSES.ix p).at f)).updMac f fun m => { m with
        adopted := keep ++ gs.map fun g => ⟨p, g, none⟩ }
      (d2.peerShow f p).raiseFl f .flMacPeerLost [p, gs.length, ((nodes - free : Nat) : Int)]

/-- A peer's coordination beacon received at an instant counts where it lies within 2 ms of its place; the groups that it names count always
(14 R384, R386). [log 69 DESIGN CHOICE] -/
def Dev.coordRx (d : Dev) (f : Flt) (ts serial : Nat) (groups : List Nat) (boundary : Nat) : Dev :=
  let lo (p : Nat) : Nat := (d.rd (f.key FL_PEERSER + 8 * p)).toNat + 2 ^ 32 * (d.rd (f.key FL_PEERSER + 8 * p + 4)).toNat
  match (List.range 8).find? fun p => d.bit ((FL_PEERCFG_VALID.ix p).at f) && lo p == serial with
  | none => d
  | some p =>
    let st := (FL_PEERSTAT_STATE.ix p).at f
    let o := d.peerOff f p
    let i := (ts + d.bi f / 2 - o) / d.bi f
    let at_ := i * d.bi f + o
    let timely := decide (ts ≤ at_ + 2000000 ∧ at_ ≤ ts + 2000000) && mget 0 (d.fl f).mac.coordSeen p != i + 1
    let d1 := if timely then (d.put ((FL_PEERSTAT_MISS.ix p).at f) 0).updMac f fun m => { m with coordSeen := mput m.coordSeen p (i + 1) } else d
    let d2 := if !timely then d1
      else if d1.get st = 2 then
        let k := mget 0 (d1.fl f).mac.present p + 1
        if 3 ≤ k then
          let any := (d1.fl f).mac.adopted.any fun a => a.peer == p
          (d1.updMac f fun m => { m with present := mdel m.present p }).put st (if any then 3 else 1)
        else d1.updMac f fun m => { m with present := mput m.present p k }
      else if d1.get st = 0 then d1.put st 1 else d1
    d2.updMac f fun m => { m with
      adopted := m.adopted.map fun a => if a.peer = p ∧ groups.contains a.group then { a with boundary := some boundary } else a }

/-- The hand-back boundary: groups whose boundary has come by the scan's time are no longer served (01 R14; 14 R386, R387). -/
def Dev.handback (d : Dev) (f : Flt) : Dev :=
  let due (a : Adopted) : Bool := match a.boundary with
    | some b => decide (b ≤ (d.fl f).mapTime)
    | none => false
  let gone := (d.fl f).mac.adopted.filter due
  let d1 := d.updMac f fun m => { m with adopted := m.adopted.filter fun a => !due a }
  let d2 := (List.range 8).foldl (fun (d : Dev) p =>
    let n := (gone.filter fun a => a.peer == p).length
    if n = 0 then d
    else
      let d1 := (d.peerShow f p).raiseFl f .flMacPeerReturned [p, n]
      if d1.get ((FL_PEERSTAT_ADOPTED.ix p).at f) = 0 ∧ d1.get ((FL_PEERSTAT_STATE.ix p).at f) = 3 then
        d1.put ((FL_PEERSTAT_STATE.ix p).at f) 1
      else d1) d1
  -- nodes of a chain that is served again return to their configured place
  gone.foldl (fun d a =>
    if 8 ≤ a.peer then (d.cfgOf f).nodeTab.foldl (fun d c =>
      if c.chain = a.peer - 8 then d.updNode f c.addr fun s => { s with chain := c.chain, slot := c.slot, member := c.member } else d) d
    else d) d2

/-- RECLAIM of a peer over a link: RELEASE is answered at once, and the group is served up to the boundary (08 R226). -/
def Dev.macReclaim (d : Dev) (f : Flt) (port group boundary : Nat) : Dev :=
  (d.updMac f fun m => { m with
    adopted := m.adopted.map fun a => if a.group = group ∧ a.peer < 8 then { a with boundary := some boundary } else a }).updFl f
    fun x => { x with links := x.links ++ [(port, 0x11, le 2 group ++ le 8 boundary)] }

/-- RELEASE of the adopter: the home resumes the group at the boundary if it came before it (08 R226). -/
def Dev.macRelease (d : Dev) (f : Flt) (group boundary : Nat) : Dev :=
  let x := d.fl f
  if x.mac.reclaim.contains (group, boundary) ∧ x.mapTime < boundary then
    d.updMac f fun m => { m with reclaim := m.reclaim.filter (· ≠ (group, boundary)), released := m.released ++ [(group, boundary)] }
  else d

/-- Whether a peer is joined by the link of a port, as FL_PEERCFG says (14 R386). -/
def Dev.peerLinked (d : Dev) (f : Flt) (port : Nat) : Bool :=
  (List.range 8).any fun p => d.bit ((FL_PEERCFG_VALID.ix p).at f) && d.get ((FL_PEERCFG_LINK.ix p).at f) == port

/-- Name groups to be returned at a boundary, over links (08 R226). -/
def Dev.reclaimOver (d : Dev) (f : Flt) (ports gs : List Nat) (b : Nat) : Dev :=
  (d.updMac f fun m => { m with reclaim := (m.reclaim.filter fun r => !gs.contains r.1) ++ gs.map fun g => (g, b) }).updFl f fun x =>
    { x with links := x.links ++ ports.flatMap fun p => gs.map fun g => (p, 0x10, le 2 g ++ le 8 b) }

/-- A boundary at least two beacon intervals ahead (08 R226, 14 R386). -/
def Dev.boundaryAhead (d : Dev) (f : Flt) : Nat := d.intervalStart f 0 (d.intervalAt f 0 (d.fl f).mapTime + 3)

/-- The home asks for its shared groups back over a link that has come up (08 R226, 14 R386). [log 69 DESIGN CHOICE] -/
def Dev.macReclaimSend (d : Dev) (f : Flt) (port : Nat) : Dev :=
  if d.peerLinked f port then d.reclaimOver f [port] (d.groupsOut f) (d.boundaryAhead f) else d

/-- Boundaries of own groups that have come: over a link RECLAIM goes out again for what no RELEASE has returned, by the COORD route the
groups are resumed (08 R226, 14 R386). [log 69 DESIGN CHOICE] -/
def Dev.reclaimDue (d : Dev) (f : Flt) : Dev :=
  let x := d.fl f
  let late := x.mac.reclaim.filter fun r => decide (r.2 ≤ x.mapTime)
  let ports := [0, 1].filter fun p => x.linkUp.contains p && d.peerLinked f p
  if late = [] then d
  else if ports ≠ [] then d.reclaimOver f ports (late.map (·.1)) (d.boundaryAhead f)
  else d.updMac f fun m => { m with reclaim := m.reclaim.filter fun r => !late.contains r, released := m.released ++ late }

/-- HANDBACK_BOUNDARY in a flight: groups handed back, and own groups (14 R386). -/
def Dev.boundaryComes (d : Dev) (f : Flt) : Dev := (d.handback f).reclaimDue f

/-- A MESH chain leaves the enabled state: its PARTNER takes its nodes over (14 R387). [log 69 DESIGN CHOICE] -/
def Dev.takeover (d : Dev) (f : Flt) (n : Nat) : Dev :=
  let p := d.get ((FL_CHROLE_PARTNER.ix n).at f)
  if d.role f n ≠ 1 ∨ 8 ≤ p ∨ d.role f p ≠ 1 ∨ !d.chainUp f p then d
  else
    let moved := ((d.cfgOf f).nodeTab.filter fun c => (d.nodeSt f c.addr).chain == n).length
    (d.updMac f fun m => { m with adopted := (m.adopted.filter fun a => a.peer != 8 + n) ++ [⟨8 + n, 0xFFF0 + n, none⟩] }).raiseFl f
      .flMacChainTakeover [n, p, moved]

/-- A chain is enabled again: its nodes return at a boundary two beacon intervals ahead (14 R387). -/
def Dev.takeoverEnds (d : Dev) (f : Flt) (n : Nat) : Dev :=
  let b := d.intervalStart f n (d.intervalAt f n (d.fl f).mapTime + 3)
  d.updMac f fun m => { m with
    adopted := m.adopted.map fun a => if a.peer = 8 + n ∧ a.boundary.isNone then { a with boundary := some b } else a }

/-- What the flight knows of its chains changes; where a chain leaves the enabled state or returns to it, its nodes follow (14 R387). -/
def Dev.chainChange (d : Dev) (f : Flt) (n : Nat) (g : MacSt → MacSt) : Dev :=
  let d1 := d.updMac f g
  if d.chainUp f n && !d1.chainUp f n then d1.takeover f n
  else if !d.chainUp f n && d1.chainUp f n then d1.takeoverEnds f n
  else d1

/-- LG_CHCFG.EN of a chain is written (13 R356, 14 R387). -/
def Dev.chainWritten (d : Dev) (f : Flt) (n : Nat) (on : Bool) : Dev :=
  d.chainChange f n fun m => { m with chEn := (m.chEn.filter (· ≠ n)) ++ (if on then [n] else []) }

/-- A STATUS record (13 R353; 09 R260; 14 R382, R387). -/
def Dev.macStatusRec (d : Dev) (f : Flt) (n flags sum budget : Nat) : Dev :=
  let on := bitOf flags 0
  ((d.chainChange f n fun m => { m with fault := (m.fault.filter (· ≠ n)) ++ (if bitOf flags 2 then [n] else []) }).updMac f fun m => { m with
    air := mput m.air n (sum, budget), locked := bitOf flags 1
    press := (m.press.filter (· ≠ n)) ++ (if on then [n] else []) }).leanPressure f n on

/-! ## MESH_DOWN (14 R388, R389) -/

/-- Whether a unicast frame fits its slot with the ACK it requests (14 R361). -/
def Dev.fitsSlot (d : Dev) (f : Flt) (n len : Nat) (ackreq : Bool) : Bool :=
  let air := d.airNs n (14 + len + 8 + 2)
  let ack := if ackreq then 1000000 + d.airNs n 32 else 0
  decide (250000 + air + ack + 250000 ≤ d.slotNs f)

/-- Deadline of a MESH_DOWN message, or its default (14 R377). -/
def Dev.downDeadline (d : Dev) (f : Flt) (a ms : Nat) : Nat :=
  (d.fl f).mapTime + (if ms = 0 then (if isSleepy a then 60000 else 10000) else ms) * 1000000

/-- MESH_DOWN to a node: role, route and size are checked, and the frame waits for its slot or wake (14 R377, R388). -/
def meshUnicast (kind : Nat) (h : MsgHdr) (dst flags ms : Nat) (data : List Byte) (f : Flt) (d : Dev) : Dev :=
  let s := d.nodeSt f dst
  if h.role ≠ 1 then d.reply f 0x50 h E_ROLE []
  else if ((d.cfgOf f).nodeCfg dst).isNone ∨ s.lost ∨ !d.reachable f dst then d.reply f 0x50 h E_NO_ROUTE []
  else if !isSleepy dst ∧ !d.fitsSlot f s.chain data.length (bitOf flags 1) then d.reply f 0x50 h E_RANGE []
  else
    let fr : HeldFrame := { HeldFrame.zero with
      dst := dst, seq := some h.seq, deadline := d.downDeadline f dst ms, urgent := bitOf flags 0, ackreq := bitOf flags 1 || isSleepy dst
      retries := max 1 (d.get (FL_MACTIM_RETRY.at f)), kind := kind, data := data }
    (d.hold f fr).reply f 0x50 h E_OK []

/-- Queue a multicast frame on every MESH chain. [log 68 DESIGN CHOICE] -/
def Dev.multicast (d : Dev) (f : Flt) (kind ms : Nat) (urgent : Bool) (data : List Byte) : Dev :=
  ((List.range 8).filter fun n => d.role f n == 1).foldl (fun d n => d.hold f { HeldFrame.zero with
    dst := 0xFFFF, via := n, deadline := d.downDeadline f 0 ms, urgent := urgent, retries := 1, kind := kind, data := data }) d

/-- MESH_DOWN op 1 (14 R388). -/
def meshMulticast (h : MsgHdr) (flags ms : Nat) (data : List Byte) (f : Flt) (d : Dev) : Dev :=
  if h.role ≠ 1 then d.reply f 0x50 h E_ROLE []
  else (d.multicast f 0x2 ms (bitOf flags 0) data).reply f 0x50 h E_OK []

/-- Move the firmware distribution to a phase (14 R389, R392). [log 71 DESIGN CHOICE] -/
def Dev.fwPhase (d : Dev) (f : Flt) (ph : Nat) : Dev :=
  if d.get (FL_FWDIST_PHASE.at f) = ph then d
  else
    let d1 := d.put (FL_FWDIST_PHASE.at f) ph
    d1.raiseFl f .flMacFw [ph, d1.get (FL_FWDIST_PENDING.at f)]

/-- MESH_DOWN op 2: a firmware block; a block sent again belongs to a repair round (14 R389). -/
def meshFwBlock (h : MsgHdr) (block : Nat) (data : List Byte) (f : Flt) (d : Dev) : Dev :=
  if h.role ≠ 1 then d.reply f 0x50 h E_ROLE []
  else if data.length > 512 then d.reply f 0x50 h E_RANGE []
  else
    let ph := d.get (FL_FWDIST_PHASE.at f)
    let again := (d.fl f).mac.fwBlocks.contains block
    let d1 := if ph = 0 ∨ ph = 3 then
        let nodes := ((d.cfgOf f).nodeTab.filter fun c => !c.sleepy).map (·.addr)
        ((((d.updMac f fun m => { m with fwBlocks := [block], fwPending := nodes }).put (FL_FWDIST_ROUND.at f) 0).put
          (FL_FWDIST_PENDING.at f) nodes.length)).fwPhase f 1
      else if again then
        (((d.updMac f fun m => { m with fwBlocks := [block] }).inc (FL_FWDIST_ROUND.at f)).fwPhase f 2)
      else d.updMac f fun m => { m with fwBlocks := m.fwBlocks ++ [block] }
    (d1.multicast f 0xD 30000 false (le 4 block ++ data)).reply f 0x50 h E_OK []

/-- MESH_DOWN op 3: firmware control names the activation interval (14 R389). -/
def meshFwControl (h : MsgHdr) (interval : Nat) (f : Flt) (d : Dev) : Dev :=
  if h.role ≠ 1 then d.reply f 0x50 h E_ROLE []
  else
    let d1 := (d.updMac f fun m => { m with fwInterval := some interval }).fwPhase f 3
    (d1.multicast f 0xE 0 false (le 4 interval)).reply f 0x50 h E_OK []

/-! ## Meanings -/

/-- TX_END at LST now; a disable that waited for the end of the frame takes effect (13 R337, R356). -/
def execTxEnd (n now : Nat) (s : State) : Host.Outcome State Fault Refusal := s.upd fun d => d.txEnd (n % 8) now

/-- CHAIN_FAULT (13 R356). -/
def execChainFault (n cause now : Nat) (s : State) : Host.Outcome State Fault Refusal := s.upd fun d => d.chainFault (n % 8) cause now

/-- CHAIN_RETRY (13 R356). -/
def execChainRetry (n : Nat) (pass : Bool) (s : State) : Host.Outcome State Fault Refusal := s.upd fun d => d.chainRetry (n % 8) pass

end Sys2Proof.Machine
end

