-- ==== Sys2Proof/Machine/Memory.lean ====
section
/-! DEFINITION. The scrubber, remaps, evacuations, bank tests, the check-bit test window and the latch registers
(chapter 03). -/

namespace Sys2Proof.Machine

/-! ## Evacuation and remap (03 R75 to R79) -/

/-- Agent codes of the scrubber and of the evacuation copy in FL_ERRADDR and FY_ERRADDR (03 R89, R90). -/
def Mem.scrubber : Mem → Nat
  | .fl _ => 4
  | .fy => 6

def Mem.copier : Mem → Nat
  | .fl _ => 6
  | .fy => 7

/-- The evacuation unit ends an operation, or refuses a request, which shows at once even while another operation is in progress. [log 141 DESIGN CHOICE] -/
def Dev.evacEnds (d : Dev) (m : Mem) (result : Nat) : Dev :=
  (d.put (m.fld FL_EVAC_DONE FY_EVAC_DONE) 1).put (m.fld FL_EVAC_RESULT FY_EVAC_RESULT) result

/-- The unit is idle again: the next evacuation that is due begins (03 R74, R76). -/
def Dev.evacNext (d : Dev) (m : Mem) : Dev :=
  match (d.mem m).evacWait with
  | [] => d
  | pb :: rest => (d.updMem m fun y => { y with evacWait := rest }).evacDue m pb

/-- Remap entries that a physical bank holds. -/
def Dev.entriesOf (d : Dev) (m : Mem) (pb : Nat) : List Nat :=
  (List.range m.entries).filter fun n =>
    d.bit (m.remapFld FL_REMAP_VALID FY_REMAP_VALID n) && d.get (m.remapFld FL_REMAP_PBANK FY_REMAP_PBANK n) == pb

/-- The physical bank, of those that carry a logical bank, with the most remap entries; of equal counts, the lower number (03 R76). [log 83 DEDUCED] -/
def Dev.worstBank (d : Dev) (m : Mem) : Option Nat :=
  ((List.range m.banks).foldl (fun (b : Option Nat × Nat) pb =>
    let n := (d.entriesOf m pb).length
    if n > b.2 ∧ (d.logical m pb).isSome then (some pb, n) else b) (none, 0)).1

/-- A defect that needs a remap entry (03 R75, R76): one entry for a word; with none free, the bank that holds the most
entries is evacuated and the defect takes one of its entries; without a free spare bank it stays and EV_FL_REMAP_FULL or
EV_FY_REMAP_FULL is raised. -/
def Dev.remapDefect (d : Dev) (m : Mem) (pb w : Nat) (ue : Bool) : Dev :=
  if (d.remapOf m pb w).isSome ∨ pb = m.banks then d
  else match d.remapFree m with
    | some n => d.remapTake m n pb w ue
    | none =>
      match d.spareBank m, d.worstBank m with
      | some _, some b => (d.evacDue m b).updMem m fun y => { y with memWait := y.memWait ++ [(pb, w, ue)] }
      | _, _ => d.raiseMem m .flRemapFull .fyRemapFull [pb, w]

/-- Free a remap entry. -/
def Dev.remapFreeEntry (d : Dev) (m : Mem) (n : Nat) : Dev :=
  (((d.put (m.remapFld FL_REMAP_VALID FY_REMAP_VALID n) 0).put (m.remapFld FL_REMAP_UE FY_REMAP_UE n) 0).put
    m.remapBud (d.get m.remapBud + 1))

/-- An uncorrectable word met by the evacuation copy: logged; a reserved entry follows it to the new bank (03 R70,
R77). -/
def Dev.copyUe (d : Dev) (m : Mem) (old new w : Nat) : Dev :=
  let d1 := ((d.uncorrected m old w m.copier).raiseMem m .flEccUncorr .fyEccUncorr [old, w, m.copier]).setWord m new w
    { (d.word m old w) with valid := true, err := .uncorrectable }
  match d.remapOf m old w with
  | some n => d1.put (m.remapFld FL_REMAP_PBANK FY_REMAP_PBANK n) new
  | none => d1

/-- Words of a bank of which something is known, by word number. -/
def Dev.bankInfo (d : Dev) (m : Mem) (pb : Nat) : List (Nat × WordInfo) :=
  ((d.mem m).words.filter fun e => e.1 / bankWords == pb).map fun e => (e.1 % bankWords, e.2)

/-- A word of a bank is copied: valid bit and data, corrected where correctable (03 R77). -/
def Dev.copyWord (d : Dev) (m : Mem) (old new w : Nat) : Dev :=
  let p := d.home m old w
  let i := d.word m p.1 p.2
  match (if i.valid then i.err else .none) with
  | .uncorrectable => d.copyUe m old new w
  | .correctable => (d.corrected m old w m.copier).setWord m new w { wordInfo0 with valid := true }
  | .none => d.setWord m new w { wordInfo0 with valid := i.valid }

/-- Every known word of a bank is copied, in ascending order; a word of the new bank that a write has changed since stays as it is
(03 R77, R81). -/
def Dev.copyBank (d : Dev) (m : Mem) (old new : Nat) (ue : List Nat) : Dev :=
  let done := (d.bankInfo m new).map (·.1)
  let remapped := (d.entriesOf m old).map fun n => d.get (m.remapFld FL_REMAP_WORD FY_REMAP_WORD n)
  let known := ((d.bankInfo m old).map (·.1) ++ remapped).eraseDups.filter fun w => !done.contains w
  let d0 := d.updMem m fun y => { y with ranges := y.ranges ++ (y.ranges.filter fun e => e.1 == old).map fun e => (new, e.2) }
  let d1 := known.foldl (fun d w => d.copyWord m old new w) d0
  (ue.filter fun w => !(done.contains w) && (d1.word m new w).err != .uncorrectable).foldl (fun d w => d.copyUe m old new w) d1

/-- SPARE0 and SPARE1 after a spare bank has been used. -/
def Dev.spareUsed (d : Dev) (m : Mem) (b : Nat) : Dev :=
  let x0 := m.fld FL_SPAREMAP_SPARE0 FY_SPAREMAP_SPARE0
  let x1 := m.fld FL_SPAREMAP_SPARE1 FY_SPAREMAP_SPARE1
  if d.get x0 = b then (d.put x0 (d.get x1)).put x1 0x3F
  else if d.get x1 = b then d.put x1 0x3F else d

/-- A bank becomes a free spare (03 R79). -/
def Dev.spareBack (d : Dev) (m : Mem) (b : Nat) : Dev :=
  let x0 := m.fld FL_SPAREMAP_SPARE0 FY_SPAREMAP_SPARE0
  let x1 := m.fld FL_SPAREMAP_SPARE1 FY_SPAREMAP_SPARE1
  if d.get x0 = 0x3F then d.put x0 b else d.put x1 b

/-- A bank is retired (03 R77, R78) and its spare is consumed (03 R87). -/
def Dev.retire (d : Dev) (m : Mem) (b : Nat) : Dev :=
  ((d.updMem m fun y => { y with retired := y.retired ++ [b] }).inc
    (m.fld FL_SPAREMAP_RETIRED FY_SPAREMAP_RETIRED)).useSpare m.region m.bankBud

/-- A bank that a test of a start finds bad: its logical bank moves to a free spare, or the spare itself is taken out of use (02 R50,
03 R78). Answers none where no spare remains. -/
def Dev.bankRepair (d : Dev) (m : Mem) (pb : Nat) : Option Dev :=
  match d.logical m pb with
  | none => if pb < m.banks ∧ pb ∉ (d.mem m).retired then some ((d.spareUsed m pb).retire m pb) else none
  | some lb => (d.spareBank m).map fun s =>
    (((d.put (m.bankFld lb) s).spareUsed m s).retire m pb).raiseMem m .flBankSpared .fyBankSpared [lb, pb, s]

/-- The defects that waited for the entries of an evacuated bank take them (03 R76). -/
def Dev.waiters (d : Dev) (m : Mem) (old : Nat) : Dev :=
  let ws := (d.mem m).memWait
  (ws.filter fun e => e.1 ≠ old).foldl (fun d e => d.remapDefect m e.1 e.2.1 e.2.2)
    (d.updMem m fun y => { y with memWait := [] })

/-- EVACUATION_DONE: the logical bank switches to its new physical bank (03 R77). -/
def Dev.evacDone (d : Dev) (m : Mem) (ue : List Nat) : Dev :=
  match (d.mem m).evacTo with
  | none => d
  | some (lb, new) =>
    let old := d.phys m lb
    let test := (d.mem m).evacTest
    let d1 := (d.copyBank m old new ue).put (m.bankFld lb) new
    let freed := (d1.entriesOf m old).foldl (fun d n => d.remapFreeEntry m n) d1
    let d2 := ((freed.spareUsed m new).updMem m fun y => { y with
        evacTo := none, words := y.words.filter fun e => e.1 / bankWords ≠ old, ranges := y.ranges.filter fun e => e.1 ≠ old
        ceCount := mdel y.ceCount old }).raiseMem m .flBankSpared .fyBankSpared [lb, old, new]
    if test then (d2.updMem m fun y => { y with testing := some old, evacTest := false }).waiters m old
    else ((((d2.retire m old).put (m.fld FL_EVAC_BUSY FY_EVAC_BUSY) 0).evacEnds m E_OK).waiters m old).evacNext m

/-! ## The scrubber (03 R72 to R74) -/

/-- What the scrubber does with the word it reads: an invalid word is skipped; a correctable one is written back corrected, and
remapped where the pass before corrected it too (03 R66, R70, R72, R73). [log 83 DEDUCED] -/
def Dev.scrubWord (d : Dev) (m : Mem) (pb w : Nat) (found : WordErr) : Dev :=
  let i := d.word m pb w
  let pass := d.get (m.fld FL_SCRUBPOS_PASSES FY_SCRUBPOS_PASSES)
  let clean (d : Dev) : Dev := if i.corrected then d.setWord m pb w { i with corrected := false, pass := 0 } else d
  if !i.valid then d
  else match (if i.err = .none then found else i.err) with
    | .none => clean d
    | .correctable =>
      let d1 := (d.corrected m pb w m.scrubber).setWord m pb w
        { i with err := .none, check := 0, corrected := !i.corrected, pass := if i.corrected then 0 else pass }
      if i.corrected then d1.remapDefect m pb w false else d1
    | .uncorrectable =>
      let d1 := ((d.setWord m pb w { i with err := .uncorrectable, corrected := false, pass := 0 }).uncorrected m pb w m.scrubber).raiseMem m
        .flEccUncorr .fyEccUncorr [pb, w, m.scrubber]
      d1.remapDefect m pb w true

/-- The scrubber's next word: banks in ascending order, then the next pass (03 R72, R74). -/
def Dev.scrubNext (d : Dev) (m : Mem) : Dev :=
  let xb := m.fld FL_SCRUBPOS_PBANK FY_SCRUBPOS_PBANK
  let xw := m.fld FL_SCRUBPOS_WORD FY_SCRUBPOS_WORD
  let w := d.get xw
  let b := d.get xb
  if w + 1 < bankWords then d.put xw (w + 1)
  else if b + 1 < m.banks then (d.put xw 0).put xb (b + 1)
  else (((d.put xw 0).put xb 0).incWrap (m.fld FL_SCRUBPOS_PASSES FY_SCRUBPOS_PASSES)).updMem m fun y => { y with ceCount := [], ceDone := [] }

/-- Whether the memory is clocked and out of reset. -/
def Dev.memUp (d : Dev) : Mem → Bool
  | .fl f => d.fst f != fsAbsent && d.fst f != fsReset
  | .fy => d.mst != msOff

/-! ## Bank tests (03 R79, R80) -/

/-- BANK_TEST: test in service, or forced without a free spare (03 R80). The Foyer's forced test runs as a Foyer
restart, which `restart` is. [log 83 DEDUCED] -/
def Dev.bankTest (d : Dev) (m : Mem) (lb : Nat) (force : Bool) (restart : Dev → Dev) : Dev × Nat :=
  let refuse : Dev × Nat := (d.evacEnds m E_BUSY_SERVICE, E_BUSY_SERVICE)
  if !d.evacIdle m then refuse
  else match d.spareBank m with
    | some s => (d.evacStart m lb s true, E_OK)
    | none =>
      if !force then refuse
      else match m with
        | .fy => (restart d, E_OK)
        | .fl f =>
          if d.fst f = fsStandby then (d.takeOut f 1, E_OK)
          else if d.fst f = fsActive ∧ d.planOk ∧ !d.bit NW_SWCTL_BUSY then
            let r : PlanReq := ⟨false, f.num, 1⟩
            ((d.updNw fun n => { n with plan := some r, switching := some r }).put NW_SWCTL_BUSY 1, E_OK)
          else refuse

/-- BANK_TEST_DONE: the march test of the vacated bank ends (03 R79). -/
def Dev.bankTestDone (d : Dev) (m : Mem) (pass : Bool) : Dev :=
  match (d.mem m).testing with
  | none => d
  | some b =>
    let d1 := (((d.updMem m fun y => { y with testing := none }).put (m.fld FL_EVAC_BUSY FY_EVAC_BUSY) 0).evacEnds m E_OK).sliceRun 0x11
      (if m = .fy then 0 else 1)
    (if pass then d1.spareBack m b else d1.retire m b).evacNext m

/-! ## The check-bit test window (03 R81) -/

/-- Whether the window may be armed for a physical bank. -/
def Dev.eccOpen (d : Dev) (m : Mem) (pb : Nat) : Bool :=
  (pb != 0x3F && (d.get (m.fld FL_SPAREMAP_SPARE0 FY_SPAREMAP_SPARE0) == pb ||
    d.get (m.fld FL_SPAREMAP_SPARE1 FY_SPAREMAP_SPARE1) == pb)) || (d.mem m).testing == some pb ||
    match m with
    | .fl f => d.fst f == fsTesting
    | .fy => false

/-- ECCTEST written with ARM (03 R81). Answers the status. -/
def Dev.eccArm (d : Dev) (m : Mem) (pb w mask : Nat) : Dev × Nat :=
  let d1 := ((d.put (m.fld FL_ECCTEST_PBANK FY_ECCTEST_PBANK) pb).put (m.fld FL_ECCTEST_WORD FY_ECCTEST_WORD) w).put
    (m.fld FL_ECCTEST_MASK FY_ECCTEST_MASK) mask
  if d.eccOpen m pb then (d1.put (m.fld FL_ECCTEST_ARM FY_ECCTEST_ARM) 1, E_OK) else (d1, E_LOCK)

/-! ## Latch registers (03 R82 to R86) -/

/-- Owner of a latch, kept in LATCHOWN. -/
def Mem.latch (m : Mem) (n : Nat) : Fld := (m.fld FL_LATCHOWN_OWNER FY_LATCHOWN_OWNER).ix n

/-- A read of LATCH[n]: a free latch takes the reader as owner and reads 0 (03 R82). Answers the value read. -/
def Dev.latchRead (d : Dev) (m : Mem) (n master : Nat) : Dev × Nat :=
  let o := d.get (m.latch n)
  if o = 0 then (d.put (m.latch n) (master + 1), 0) else (d, o)

/-- A write of LATCH[n] (03 R83). Answers the status. -/
def Dev.latchWrite (d : Dev) (m : Mem) (n master v : Nat) : Dev × Nat :=
  let o := d.get (m.latch n)
  if v = 0 ∧ o = master + 1 then (d.put (m.latch n) 0, E_OK)
  else if v = 0 ∧ o = 0 then (d, E_OK)
  else (d.raiseMem m .flLatchMisuse .fyLatchMisuse [master, n], E_LOCK)

/-- Latches whose owner is a halted Tread are released at the scan boundary (03 R85). -/
def Dev.latchAuto (d : Dev) (f : Flt) : Dev :=
  let ts := (d.fl f).haltedTreads
  let one (d : Dev) (n : Nat) : Dev :=
    let o := d.get ((Mem.fl f).latch n)
    if 3 ≤ o ∧ (o - 3) ∈ ts then (d.put ((Mem.fl f).latch n) 0).raiseFlNow f .flLatchReleased [n, o] else d
  if ts = [] then d
  else ((List.range 32).foldl one d).updFl f fun x => { x with haltedTreads := [] }

/-! ## Meanings -/

/-- SCRUB_STEP: the scrubber reads one word; `found` is what the check of a valid word meets (03 R72). -/
def execScrubStep (m : Mem) (found : WordErr) (s : State) : Host.Outcome State Fault Refusal :=
  s.upd fun d => d.when (d.memUp m && d.bit (m.fld FL_SCRUBCFG_EN FY_SCRUBCFG_EN)) fun d =>
    let pb := d.get (m.fld FL_SCRUBPOS_PBANK FY_SCRUBPOS_PBANK)
    let w := d.get (m.fld FL_SCRUBPOS_WORD FY_SCRUBPOS_WORD)
    (d.scrubWord m pb w found).scrubNext m

/-- Evacuation of a logical bank on request (03 R77); refused while one is in progress or without a free spare. [log 141 DESIGN CHOICE] -/
def Dev.bankEvac (d : Dev) (m : Mem) (lb : Nat) : Dev × Nat :=
  match d.spareBank m with
  | some s => if d.evacIdle m then (d.evacStart m lb s false, E_OK) else (d.evacEnds m E_BUSY_SERVICE, E_BUSY_SERVICE)
  | none => (d.evacEnds m E_BUSY_SERVICE, E_BUSY_SERVICE)

/-- BANK_EVACUATE: EVAC written with START (03 R77). -/
def execBankEvacuate (m : Mem) (lb : Nat) (s : State) : Host.Outcome State Fault Refusal :=
  s.upd fun d => ((d.put (m.fld FL_EVAC_LBANK FY_EVAC_LBANK) lb).bankEvac m (lb % m.lbanks)).1

/-- EVACUATION_DONE: `ue` are the words that the copy found uncorrectable (03 R77). -/
def execEvacuationDone (m : Mem) (ue : List Nat) (s : State) : Host.Outcome State Fault Refusal :=
  s.upd fun d => d.evacDone m ue

/-- BANK_TEST_DONE (03 R79). -/
def execBankTestDone (m : Mem) (pass : Bool) (s : State) : Host.Outcome State Fault Refusal :=
  s.upd fun d => d.bankTestDone m pass

/-- ECCTEST_ARM (03 R81). -/
def execEcctestArm (m : Mem) (pb w mask : Nat) (s : State) : Host.Outcome State Fault Refusal :=
  s.upd fun d => (d.eccArm m pb w mask).1

/-- LATCH_ACQUIRE (03 R82, R84). -/
def execLatchAcquire (m : Mem) (n master : Nat) (s : State) : Host.Outcome State Fault Refusal :=
  s.upd fun d => (d.latchRead m (n % 32) master).1

/-- LATCH_RELEASE: a write of LATCH[n] (03 R83, R84). -/
def execLatchRelease (m : Mem) (n master v : Nat) (s : State) : Host.Outcome State Fault Refusal :=
  s.upd fun d => (d.latchWrite m (n % 32) master v).1

end Sys2Proof.Machine
end

