-- ==== Sys2Proof/Machine/FieldRegs.lean ====
section
/-! DEFINITION. What a write does to a Gallery, Loggia or Newel register: the fields by their access codes, and the action
that a field starts (00 R8; 04 R123, R577; 08 R227; 11 R307; 12 R332; 13 R358). -/

namespace Sys2Proof.Machine

/-- Index of a register in an array of n words. [log 121 DESIGN CHOICE] -/
def regIx (key base n : Nat) : Option Nat :=
  if base ≤ key ∧ key < base + 4 * n ∧ (key - base) % 4 = 0 then some ((key - base) / 4) else none

/-- The fields of a write by their access codes, with some bits kept as they stand (00 R8). -/
def Dev.writeKeep (d : Dev) (key : Nat) (v : W32) (keep : W32) : Dev :=
  (d.swWrite d.mod.committed key ((v &&& ~~~keep) ||| (d.rd key &&& keep))).1

/-- The status of a write: E_LOCK where an RWL field refuses it (00 R8). -/
def Dev.writeStatus (d : Dev) (key : Nat) (v : W32) : Nat := (d.swWrite d.mod.committed key v).2

/-- A write to a Gallery register. -/
def Dev.glWrite (d : Dev) (key : Nat) (v : W32) : Dev :=
  let en := v.getLsbD 0
  let fdis := v.getLsbD 1
  let keep (m : W32) (d : Dev) : Dev := d.writeKeep key v m
  match regIx key GL_CHCFG 256 with
  | some n => keep 1 (if en then d.chEnable n else d.chDisable n fdis 0)
  | none =>
  match regIx key GL_MXCFG 4 with
  | some m => keep 1 (if en then d.mxEnable m else d.mxDisable m fdis 0)
  | none =>
  match regIx key GL_RIOCFG 16 with
  | some n => keep 1 (if en then d.lineEnable n else d.lineDisable n fdis)
  | none =>
  match regIx key GL_STSTATE 512 with
  | some id => keep 8 (if v.getLsbD 3 then d.staEnable id else d.staDisable id (v.getLsbD 4))
  | none =>
  match regIx key GL_DALICFG 4 with
  | some b => keep 1 (if en then d.daliEnable b else d.daliDisable b fdis)
  | none =>
  match regIx key GL_DALIRAW 4 with
  | some b =>
    let d1 := keep 0 d
    if v.getLsbD 31 then
      d1.daliRaw b ⟨bitsOf v.toNat 23 0, v.getLsbD 24, v.getLsbD 25, v.getLsbD 26, bitsOf v.toNat 30 28⟩
    else d1
  | none =>
  match regIx key GL_JMLCFG 2 with
  | some p => keep 1 (if en then d.jmlEnable p else d.jmlDisable p)
  | none =>
  match regIx key GL_CHDSTAT 256 with
  | some n => if v.getLsbD 3 then d.diagClear n else d
  | none =>
    let d1 := keep 0 d
    if key = GL_CHTEST ∧ v.getLsbD 8 then (d1.testStart (bitsOf v.toNat 7 0) (v.getLsbD 9) true).1 else d1

/-- A write to a Loggia register. -/
def Dev.lgWrite (d : Dev) (key : Nat) (v : W32) : Dev :=
  match regIx key LG_CHCFG 8 with
  | some n =>
    (if v.getLsbD 0 then d.chainEnable n
      else if v.getLsbD 1 then d.chainForced n d.lg.lst else d.chainDisable n).writeKeep key v 1
  | none => d.writeKeep key v 0

/-- Register writes carried by a commit set (04 R92, R575). -/
def Dev.commitRegs (d : Dev) (cs : CommitSet) : Dev :=
  cs.regw.foldl (fun d e => if e.1 / 2 ^ 24 = 6 then d.glWrite e.1 e.2 else d.lgWrite e.1 e.2) d

/-- A write to NW_REPAIRCFG: RETRY written non-zero starts the delay of flights that wait for it (04 R112). -/
def Dev.repairCfg (d : Dev) (v : W32) : Dev :=
  let old := d.get NW_REPAIRCFG_RETRY
  let d1 := d.writeKeep NW_REPAIRCFG v 0
  if old = 0 ∧ d1.get NW_REPAIRCFG_RETRY ≠ 0 then
    d1.updNw fun n => { n with
      retryA := n.retryA.map fun _ => n.cycle, retryB := n.retryB.map fun _ => n.cycle }
  else d1

/-- A write to NW_SWCTL (04 R114, R115, R577). Answers the status of the REPLY. -/
def Dev.swctlWrite (d : Dev) (v : W32) : Dev × Nat :=
  let d1 := d.writeKeep NW_SWCTL v 0
  if v.getLsbD 0 then d1.planSwitch (bitsOf v.toNat 5 4)
  else if v.getLsbD 1 then d1.planTest (if v.getLsbD 3 then .b else .a) (v.getLsbD 2)
  else (d1, E_OK)

/-- A write to NW_QUAR (04 R117, R118, R123). Answers the status of the REPLY. -/
def Dev.quarWrite (d : Dev) (v : W32) : Dev × Nat :=
  let step (p : Dev × Nat) (on : Bool) (g : Dev → Dev × Nat) : Dev × Nat :=
    if on then ((g p.1).1, if p.2 = E_OK then (g p.1).2 else p.2) else p
  let p1 := step (d, E_OK) (v.getLsbD 24) fun d => d.quarRelease .a
  let p2 := step p1 (v.getLsbD 25) fun d => d.quarRelease .b
  let p3 := step p2 (v.getLsbD 26) fun d => d.quarSet .a (v.getLsbD 28)
  step p3 (v.getLsbD 27) fun d => d.quarSet .b (v.getLsbD 28)

/-- A write to a Newel register, which only the operator role may make (04 R123). Answers the status of the REPLY. -/
def Dev.nwWrite (d : Dev) (role key : Nat) (v : W32) : Dev × Nat :=
  if role ≠ 1 then (d, E_ROLE)
  else if key = NW_SWCTL then d.swctlWrite v
  else if key = NW_QUAR then d.quarWrite v
  else if key = NW_REPAIRCFG then (d.repairCfg v, E_OK)
  else (d.writeKeep key v 0, d.writeStatus key v)

end Sys2Proof.Machine
end

