-- ==== Sys2Proof/Machine/Commit.lean ====
section
/-! DEFINITION. The commit set of a scan as bytes: the retained area and the force table, the parts of R575, deferral, the
scan digest, and the mirror (04 R92 to R94, R575; 06 R172 to R175; 11 R292). -/

namespace Sys2Proof.Machine

/-! ## Retained area and force table (05 R142, 06 R172, R175) -/

/-- Zero bytes up to a length. -/
def padTo (n : Nat) (bs : List Byte) : List Byte := bs ++ List.replicate (n - bs.length) 0

/-- A logic word that no task of the present level sees buffered. -/
def FlightSt.lw (x : FlightSt) (key : Nat) : W32 := mget 0 x.lmem key

/-- Byte b of the markers. -/
def FlightSt.markByte (x : FlightSt) (b : Nat) : Byte := BitVec.ofNat 8 ((x.lw (kM (b / 4))).toNat / 2 ^ (8 * (b % 4)))

/-- Points with RETAIN, in ascending index (06 R172). -/
def FlightSt.retPts (x : FlightSt) : List (Nat × Point) := x.pts.filter fun e => e.2.cls ≠ 0 && stRetain e.2.status

/-- The retained area, 32 KiB (06 R172, R173). -/
def Dev.retained (d : Dev) (f : Flt) : List Byte :=
  let c := d.cfgOf f
  let x := d.fl f
  let pts := x.retPts
  let hdr := le 4 (d.get (FL_RETAIN_LAYOUT.at f)) ++ le 2 c.retMarkBytes ++ le 2 c.retTims ++ le 2 c.retCnts ++ le 2 pts.length
  padTo 32768 (padTo 64 hdr ++
    ((List.range c.retMarkBytes).map fun b => x.markByte (c.retMarkFirst / 8 + b)) ++
    ((List.range c.retTims).flatMap fun t => le 4 (x.lw (kT (c.retTimFirst + t) 0)).toNat ++ le 4 (x.lw (kT (c.retTimFirst + t) 1)).toNat) ++
    ((List.range c.retCnts).flatMap fun t => le 4 (x.lw (kC (c.retCntFirst + t) 0)).toNat ++ le 4 (x.lw (kC (c.retCntFirst + t) 1)).toNat) ++
    pts.flatMap fun e => le 2 e.1 ++ le 2 e.2.status.toNat ++ le 4 e.2.value.toNat)

/-- The force table, 512 entries of 16 bytes (05 R142). -/
def FlightSt.forceBytes (x : FlightSt) : List Byte :=
  (List.range 512).flatMap fun e => match mget? x.forces e with
    | some fo => fo.bytes
    | none => List.replicate 16 0

/-! ## Messages and requests as bytes -/

/-- Bytes 1 to 6 of an EVENT_RECORD payload: bytes 13 to 18 of the record (19 R513, R517). -/
def Ev.head (e : Ev) (counts held : Bool) : List Byte :=
  le 1 e.region ++ le 1 e.id.block ++ le 1 (e.severity * 16 + b2n e.suite.isSome + 2 * b2n counts + 4 * b2n held) ++
    le 2 e.code ++ le 1 (e.suite.getD 0)

/-- The 18 bytes of an EVENT_RECORD of an event (19 R517). -/
def Ev.msgBytes (e : Ev) (held : Bool) : List Byte :=
  [0] ++ e.head false held ++ [0] ++ padTo 10 (e.packed.take 10)

/-- Payload of a field-to-host message. -/
def UpMsg.payload (m : UpMsg) : List Byte :=
  match m.ev with
  | some e => if m.body = [] then e.msgBytes false else m.body
  | none => m.body

/-- Whether a field-to-host message is a REPLY: it carries the type of its request (01 R34, R35). -/
def UpMsg.isReply (m : UpMsg) : Bool := !([0x12, 0x20, 0x21, 0x51, 0x70, 0x7E, 0x7F].contains m.typ)

/-- A field-to-host message as the lane carries it, with its sequence (01 R34). -/
def UpMsg.wire (m : UpMsg) (q : Nat) : List Byte :=
  wireMsg m.typ (b2n m.isReply) q m.answers m.status m.suite m.role 0 m.payload

/-- A message from its type byte to the end of its payload, with its sequence 0 (01 R34, 04 R575). [log 22 DESIGN CHOICE] -/
def UpMsg.bytes (m : UpMsg) : List Byte :=
  le 1 m.typ ++ le 1 (b2n m.isReply) ++ [0, 0] ++ le 2 m.answers ++ le 2 m.payload.length ++ le 1 m.status ++ le 1 m.suite ++
    le 1 m.role ++ [0] ++ m.payload

/-- A Loggia transmit request (13 R343). -/
def TxReq.bytes (r : TxReq) : List Byte :=
  le 4 r.id ++ le 1 r.chain ++
    le 1 (r.cls + 8 * b2n r.strict + 16 * b2n r.ts + 32 * b2n r.fcs32 + 64 * b2n r.whiten) ++ le 1 r.channel ++ le 1 r.rate ++
    le 8 r.start ++ le 8 r.deadline ++ le 4 r.preamble ++ le 2 r.len ++ le 2 r.tsoff ++ r.psdu

/-- A part: header, body and padding (04 R575). [log 22 DESIGN CHOICE] -/
def partBytes (kind index : Nat) (body : List Byte) : List Byte :=
  le 1 kind ++ le 1 index ++ [0, 0] ++ le 4 body.length ++ padTo ((body.length + 7) / 8 * 8) body

/-- A Jalmethen frame in its part: a POINTS frame's flags lead its payload here (04 R575, 08 R223). -/
def linkBytes (typ : Nat) (p : List Byte) : List Byte :=
  if typ = 3 then le 1 typ ++ p.take 1 ++ le 2 (p.length - 1) ++ p.drop 1
  else le 1 typ ++ [0] ++ le 2 p.length ++ p

/-! ## The drive, station and DALI images -/

/-- Value of a level point, or 0 where none is bound. -/
def FlightSt.levelOf (x : FlightSt) (n : Nat) : Nat := min (x.pt n).value.toNat 4095

/-- The channel image's entry of a channel (11 R292, 20 R543): an unbound channel has level 0. [log 73 DESIGN CHOICE] -/
def Dev.chanEntry (d : Dev) (f : Flt) (n : Nat) : ChanEntry :=
  let x := d.fl f
  let cv := d.get (GL_CHCFG_CURVE.ix n) + 8 * d.get (GL_CHCFG_BYPASS.ix n)
  match mget? (d.cfgOf f).chans n with
  | none => ⟨0, 0, cv⟩
  | some b => ⟨x.levelOf b.level, if b.fadePt then (clampI 0 65535 (x.pt b.fade).value.toInt).toNat else b.fade, cv⟩

/-- Cells of the enabled matrices with their levels (11 R292). -/
def Dev.mxImage (d : Dev) (f : Flt) : Map Nat :=
  d.matrices.flatMap fun m => (d.mxCells m).map fun i => (i, match mget? (d.cfgOf f).cells i with
    | some p => (d.fl f).levelOf p
    | none => 0)

/-- Fade time and curve of each enabled matrix. -/
def Dev.mxCurves (d : Dev) : Map ChanEntry :=
  d.matrices.map fun m => (m, ⟨0, Config.matrixFade m % 65536, d.get (GL_MXCFG_CURVE.ix m) + 8 * d.get (GL_MXCFG_BYPASS.ix m)⟩)

/-- A value put into an output image at its byte and bit (20 R545). -/
def putOut (bs : List Byte) (e : StationPoint) (v : W32) : List Byte :=
  if e.width = 1 then
    bs.modify e.byte fun b => BitVec.ofNat 8 (putBits b.toNat e.bit e.bit (v.toNat % 2))
  else bs.take e.byte ++ (le (e.width / 8) v.toNat) ++ bs.drop (e.byte + e.width / 8)

/-- Output image of a station from its output points (08 R214). -/
def Dev.outImage (d : Dev) (f : Flt) (id : Nat) (s : StationCfg) : List Byte :=
  (((d.cfgOf f).stationPts.filter fun e => e.station == id && e.output).foldl (fun bs e =>
    putOut bs e ((d.fl f).pt e.point).value) (List.replicate s.outputs 0)).take s.outputs

/-- Output images of the configured and enabled stations of the enabled lines. -/
def Dev.stationOuts (d : Dev) (f : Flt) : Map (List Byte) :=
  ((d.cfgOf f).stations.filter fun e => d.bit (GL_RIOCFG_EN.ix (e.1 / 32)) && d.bit (GL_STSTATE_EN.ix e.1)).map fun e =>
    (e.1, d.outImage f e.1 e.2)

/-- Levels of the bound gear of the enabled buses, by bus x 64 + gear. -/
def Dev.daliOuts (d : Dev) (f : Flt) : Map Nat :=
  ((List.range 4).filter fun b => d.bit (GL_DALICFG_EN.ix b)).flatMap fun b =>
    (List.range 64).filterMap fun a =>
      ((d.cfgOf f).dali.find? fun e => e.bus == b && e.kind == 0 && e.address == a).map fun e =>
        (64 * b + a, (d.fl f).levelOf e.point)

/-- Parts of kinds 0x01 to 0x06 (04 R575). -/
def Dev.fixedParts (d : Dev) (cs : CommitSet) : List (List Byte) :=
  let chan := cs.image.flatMap fun e => le 2 e.2.level ++ le 2 e.2.fade ++ le 1 e.2.curve ++ [0, 0, 0]
  let mx := cs.mxcurve.map fun e => partBytes 2 e.1 (
    le 1 e.1 ++ le 1 e.2.curve ++ le 2 e.2.fade ++ le 1 (d.mxRows e.1) ++ le 1 (d.mxCols e.1) ++ [0, 0] ++
      (d.mxCells e.1).flatMap fun i => le 2 (mget 0 cs.mximage i))
  let sta := ((List.range 16).filter fun n => d.bit (GL_RIOCFG_EN.ix n)).map fun n => partBytes 3 n (
    (cs.stationOut.filter fun e => e.1 / 32 == n).flatMap fun e => le 1 (e.1 % 32) ++ le 1 e.2.length ++ e.2)
  let dali := ((List.range 4).filter fun b => d.bit (GL_DALICFG_EN.ix b)).map fun b => partBytes 4 b (
    (List.range 64).flatMap fun a => le 2 (mget 0xFFFF cs.daliOut (64 * b + a)))
  let jml := ((List.range 2).filter fun p => cs.links.any fun l => l.1 == p).map fun p => partBytes 5 p (
    (cs.links.filter fun l => l.1 == p).flatMap fun l => linkBytes l.2.1 l.2.2)
  let regs := ([6, 7].filter fun r => cs.regw.any fun w => w.1 / 2 ^ 24 == r).map fun r => partBytes 6 r (
    (cs.regw.filter fun w => w.1 / 2 ^ 24 == r).flatMap fun w => le 4 (w.1 % 2 ^ 24) ++ le 4 w.2.toNat)
  [partBytes 1 0 chan] ++ mx ++ sta ++ dali ++ jml ++ regs

/-! ## Deferral (04 R92) -/

/-- Bytes of a part with a body of n bytes. -/
def partLen (n : Nat) : Nat := 8 + (n + 7) / 8 * 8

/-- How many items from the front fit into a room, and the room that is left. -/
def fitCount (room : Nat) : List Nat → Nat × Nat
  | [] => (0, room)
  | n :: t => if n ≤ room then
      let r := fitCount (room - n) t
      (r.1 + 1, r.2)
    else (0, room)

/-- Keep the first nr REPLY messages and the first no others, each in the order formed; answers what is kept, the others
left and the REPLY messages left. -/
def keepMsgs : Nat → Nat → List UpMsg → List UpMsg × List UpMsg × List UpMsg
  | _, _, [] => ([], [], [])
  | nr, no, m :: t =>
    if m.isReply then
      match nr with
      | 0 => let r := keepMsgs 0 no t; (r.1, r.2.1, m :: r.2.2)
      | k + 1 => let r := keepMsgs k no t; (m :: r.1, r.2.1, r.2.2)
    else
      match no with
      | 0 => let r := keepMsgs nr 0 t; (r.1, m :: r.2.1, r.2.2)
      | k + 1 => let r := keepMsgs nr k t; (m :: r.1, r.2.1, r.2.2)

/-- Largest commit set (04 R92). -/
def setMax : Nat := 196608

/-- The items that a set with `used` bytes of other content carries, and those it defers: requests are deferred first,
then messages other than REPLY, then REPLY messages (04 R92). [log 74 DEDUCED] -/
def deferral (used : Nat) (msgs : List UpMsg) (reqs : List TxReq) : (List UpMsg × List TxReq) × (List UpMsg × List TxReq) :=
  let reps := (msgs.filter UpMsg.isReply).map fun m => partLen m.bytes.length
  let oths := (msgs.filter fun m => !m.isReply).map fun m => partLen m.bytes.length
  let a := fitCount (setMax - used) reps
  let b := if a.1 = reps.length then fitCount a.2 oths else (0, 0)
  let c := if a.1 = reps.length ∧ b.1 = oths.length then (fitCount b.2 (reqs.map fun r => partLen r.bytes.length)).1 else 0
  let k := keepMsgs a.1 b.1 msgs
  ((k.1, reqs.take c), (k.2.1 ++ k.2.2, reqs.drop c))

/-! ## The set and its digest (04 R92, R93) -/

/-- Requests in ascending chain, each chain's in order. -/
def byChain (l : List TxReq) : List TxReq := (List.range 8).flatMap fun n => l.filter fun r => r.chain == n

/-- Every part of a set. [log 74 DEDUCED] -/
def Dev.allParts (d : Dev) (cs : CommitSet) : List (List Byte) :=
  d.fixedParts cs ++ ((byChain cs.reqs).map fun r => partBytes 7 r.chain r.bytes) ++ cs.msgs.map fun m => partBytes 8 0 m.bytes

/-- A message as the digest takes it: the record of a flight's event names flight A as its region. DEDUCED: R26 has each
flight name itself, and two flights that compute alike must give one digest (04 R93, R103). [log 21 DEDUCED] -/
def UpMsg.alike (m : UpMsg) : UpMsg :=
  match m.ev with
  | some e => if e.region = Flt.b.region then { m with ev := some { e with region := Flt.a.region } } else m
  | none => m

/-- The scan digest (04 R93). [log 21 DEDUCED] -/
def Dev.digest (d : Dev) (f : Flt) (set : CommitSet) : W64 :=
  let x := d.fl f
  let cs := { set with msgs := set.msgs.map UpMsg.alike }
  let pts := x.written.foldl (fun l n => insIx n l) []
  BitVec.ofNat 64 (crc64 (le 8 cs.scan ++ le 4 cs.length ++ (d.allParts cs).flatten ++ d.retained f ++
    (pts.flatMap fun n => le 2 n ++ (x.pt n).bytes) ++ x.forceBytes ++ le 8 x.chk.toNat))

/-- The header of a commit set (04 R92). -/
def CommitSet.header (cs : CommitSet) : List Byte :=
  le 8 cs.scan ++ le 4 cs.length ++ le 8 cs.digest.toNat ++ le 2 cs.parts ++ le 2 (b2n cs.det.isSome) ++ le 1 (cs.det.getD 0) ++ [0, 0, 0]

/-- The commit set of the scan that ends in a flight, and the items that it defers. -/
def Dev.formSet (d : Dev) (f : Flt) (online : List (Nat × W32)) : CommitSet × (List UpMsg × List TxReq) :=
  let x := d.fl f
  let cs : CommitSet := { CommitSet.zero with
    scan := x.scan.getD 0, det := x.det
    image := (List.range 256).map fun n => (n, d.chanEntry f n)
    mximage := d.mxImage f, mxcurve := d.mxCurves, stationOut := d.stationOuts f, daliOut := d.daliOuts f
    regw := x.regw, links := x.links, online := online, signalAt := d.nw.cycle }
  let used := 28 + (d.fixedParts cs).flatten.length + 4
  let p := deferral used x.msgs x.reqs
  let cs1 := { cs with msgs := p.1.1, reqs := p.1.2 }
  let parts := d.allParts cs1
  let cs2 := { cs1 with length := 28 + parts.flatten.length + 4, parts := parts.length }
  let cs3 := { cs2 with digest := d.digest f cs2 }
  ({ cs3 with crc := crc32c (cs3.header ++ parts.flatten) }, p.2)

/-! ## The mirror (06 R175) -/

/-- The blocks of the mirror image: 64 of the retained area, 16 of the force table. -/
def Dev.mirrorImage (d : Dev) (f : Flt) : Map (List Byte) :=
  let img := d.retained f ++ (d.fl f).forceBytes
  (List.range 80).map fun b => (b, (img.drop (512 * b)).take 512)

/-- RETAIN_MIRROR messages of the scan that ends: the blocks that differ from the previous image, all of them when FULL
was set at the snapshot and in scan 0, and then the seal (06 R175). -/
def Dev.mirror (d : Dev) (f : Flt) : Dev :=
  let x := d.fl f
  let img := d.mirrorImage f
  let scan := x.scan.getD 0
  let send := img.filter fun b => x.fullDue || mget? x.mirror b.1 != some b.2
  let block (b : Nat × List Byte) : UpMsg := ⟨tRetainMirror, 0, 0, 0, 0, le 8 scan ++ [0] ++ le 1 b.1 ++ List.replicate 6 0 ++ b.2, none⟩
  let c := d.cfgOf f
  let sealMsg : UpMsg := ⟨tRetainMirror, 0, 0, 0, 0,
    le 8 scan ++ [1] ++ le 1 send.length ++ le 1 (b2n x.fullDue) ++ List.replicate 5 0 ++
      le 4 (crc32c (img.flatMap (·.2))) ++ le 4 (d.get (FL_RETAIN_LAYOUT.at f)) ++ le 32 c.digest ++ le 32 c.progDigest, none⟩
  d.updFl f fun x => { x with mirror := img, msgs := x.msgs ++ send.map block ++ [sealMsg] }

end Sys2Proof.Machine
end

