-- ==== Sys2Proof/Machine/FieldIo.lean ====
section
/-! DEFINITION. What a snapshot takes from its frames, and the field registers as REG_READ and REG_WRITE reach them (05
R139; 06 R156, R167, R574; 12 R326, R331; 16 R450; 04 R576). -/

namespace Sys2Proof.Machine

/-! ## Energy, metering and channel states (12 R326, R331) -/

/-- An energy accumulator advanced: what it holds afterwards, and the units that its point gains. -/
def energyStep (acc add konst : Nat) : Nat × Nat := ((acc + add) % 2 ^ 64 % konst, (acc + add) % 2 ^ 64 / konst)

/-- An energy point gains units (12 R326). [log 49 DESIGN CHOICE] -/
def FlightSt.gain (x : FlightSt) (p units src : Nat) : FlightSt :=
  x.load p (x.under p + BitVec.ofNat 32 units) qGood src

/-- One channel of a sample block (12 R326, R331). -/
def Dev.applySample (d : Dev) (f : Flt) (ch : Nat) (e : SampleEntry) : Dev :=
  let c := d.cfgOf f
  let d1 := match mget? c.chans ch with
    | none => d
    | some b => match b.ept with
      | none => d
      | some p => d.updFl f fun x =>
        match mget? x.chanE ch with
        | none => { x with chanE := mput x.chanE ch (e.cum, 0) }.gain p 0 3
        | some (last, acc) =>
          let r := energyStep acc (b.pw * ((e.cum + 2 ^ 64 - last) % 2 ^ 64)) 14400000000000
          { x with chanE := mput x.chanE ch (e.cum, r.1) }.gain p r.2 3
  (c.statePts.filter fun s => s.1 == ch).foldl (fun d s =>
    d.updFl f fun x => x.load s.2 (BitVec.ofNat 32 e.state) qGood 3) d1

/-- One quantity of a metering block; quantities 13 to 16 are energies (12 R331). -/
def Dev.applyMeterOne (d : Dev) (f : Flt) (m q p : Nat) (v : Int) : Dev :=
  d.updFl f fun x =>
    if q < 13 then x.load p (BitVec.ofInt 32 v) qGood 3
    else
      let k := 32 * m + q
      let cum := v.toNat
      match mget? x.mtrE k with
      | none => { x with mtrE := mput x.mtrE k (cum, 0) }.gain p 0 3
      | some (last, acc) =>
        let r := energyStep acc ((cum + 2 ^ 64 - last) % 2 ^ 64) 1000
        { x with mtrE := mput x.mtrE k (cum, r.1) }.gain p r.2 3

/-- A metering block of input m (12 R331). [log 120 DESIGN CHOICE] -/
def Dev.applyMeter (d : Dev) (f : Flt) (m : Nat) (vals : List Int) : Dev :=
  ((d.cfgOf f).meterPts.filter fun e => e.1 == m).foldl (fun d e => d.applyMeterOne f m e.2.1 e.2.2 (vals.getD e.2.1 0)) d

/-! ## Frames (05 R139 step 1) -/

/-- The load of one input frame. The records of the Loggia's own outcomes reach the MAC here (13 R355). -/
def Dev.applyFrame (d : Dev) (f : Flt) (b : FrameBody) : Dev :=
  match b with
  | .sample port _ es => (List.zip (List.range es.length) es).foldl (fun d e => d.applySample f (8 * port + e.1) e.2) d
  | .meter port _ vals => d.applyMeter f (port - 32) vals
  | .stations line _ _ recs => recs.foldl (fun d r => d.applyStation f line r) d
  | .dali bus recs => recs.foldl (fun d r => d.applyDali f bus r) d
  | .jml port typ full es args =>
    match typ with
    | 0x10 => d.macReclaim f port (args.getD 0 0) (args.getD 1 0)
    | 0x11 => d.macRelease f (args.getD 0 0) (args.getD 1 0)
    | 1 => (d.applyJml f port typ full es).macReclaimSend f port
    | _ => d.applyJml f port typ full es
  | .report _ id outcome _ start air => d.macReport f id outcome start air
  | .lgStatus n _ flags _ _ sum budget => d.macStatusRec f n flags sum budget
  | .none | .cycle .. | .timeMap _ | .corridor _ | .input _ | .receive .. => d

/-- A point's STALE set, in the underlying status too while the point is forced (05 R130, R140). [log 48 DEDUCED] -/
def FlightSt.setStale (x : FlightSt) (n : Nat) : FlightSt :=
  let p := x.pt n
  let y := match x.forceOf n with
    | some (e, fo) => { x with forces := mput x.forces e { fo with underStatus := stPut fo.underStatus 7 7 1 } }
    | none => x
  y.putPt n { p with status := stPut p.status 7 7 1 }

/-- Evaluation of STALE: scans passed since the source last updated the point (05 R130). [log 48 DEDUCED] -/
def Dev.staleEval (d : Dev) (f : Flt) : Dev :=
  ((d.cfgOf f).points.filter fun e => e.2.stale ≠ 0).foldl (fun d e =>
    d.updFl f fun x =>
      let a := mget 0 x.age e.1
      let y := { x with age := mset 0 x.age e.1 (min (a + 1) 65536) }
      if e.2.stale ≤ a ∧ (x.pt e.1).cls ≠ 0 ∧ !stStale (x.pt e.1).status then y.setStale e.1 else y) d

/-! ## Field registers as they read -/

/-- Whether a key is a field register that the Corridor reaches: the map marks every register of regions 3 to 7 but the
latch registers (01 R36, 03 R86). -/
def fieldVisible (key : Nat) : Bool :=
  let r := key / 2 ^ 24
  let a := if r = 4 then key - 2 ^ 24 else key
  3 ≤ r && r ≤ 7 && (regRow key).isSome && !(FL_LATCH ≤ a && decide (a < FL_LATCH + 128))

/-- Word i of a number. -/
def word32 (v i : Nat) : W32 := BitVec.ofNat 32 (v / 2 ^ (32 * i))

/-- Registers that the Newel forms from its counters (04 R123). [log 121 DESIGN CHOICE] -/
def Dev.nwLive (d : Dev) (key : Nat) : Option W32 :=
  let n := d.nw
  if key = NW_CYCLO then some (word32 n.cycle 0) else if key = NW_CYCHI then some (word32 n.cycle 1)
  else if key = NW_FRAMELO then some (word32 n.nextFrame 0) else if key = NW_FRAMEHI then some (word32 n.nextFrame 1)
  else if key = NW_SCANLO then some (word32 (n.lastScan.getD 0) 0) else if key = NW_SCANHI then some (word32 (n.lastScan.getD 0) 1)
  else match regIx key NW_DIG 4 with
    | some i => some (word32 (if i < 2 then n.digA else n.digB).toNat (i % 2))
    | none => none

/-- A field register as a read returns it (00 R8, R10; 04 R123; 09 R263; 11 R307). [log 121 DESIGN CHOICE] -/
def Dev.fieldRead (d : Dev) (key : Nat) : W32 :=
  match key / 2 ^ 24 with
  | 5 => match d.nwLive key with
    | some v => v
    | none => match regRow key with
      | some r => BitVec.ofNat 32 (readFields (d.rd key).toNat r.fields)
      | none => 0
  | r =>
    let f := Flt.ofNum (r - 3)
    match (if r = 3 ∨ r = 4 then regIx (key - f.num * 2 ^ 24) FL_TURNCNT 32768 else none) with
    | some n => d.turnReg f n
    | none => match regIx key GL_MXLVL 2048 with
      | some n => BitVec.ofNat 32 ((d.cell (2 * n)).target + 65536 * (d.cell (2 * n + 1)).target)
      | none => match regRow key with
        | some r => BitVec.ofNat 32 (readFields (d.rd key).toNat r.fields)
        | none => 0

/-! ## Writes of flight registers (06 R156, R167, R176; 03 R77 to R81; 09 R263; 10 R282) -/

/-- FL_TASKEN0 or FL_TASKEN1 written: each bit that changes raises EV_FL_TASK_ENABLE (06 R167, R182). -/
def Dev.taskEnWrite (d : Dev) (f : Flt) (i : Nat) (v : W32) : Dev :=
  let x := (if i = 0 then FL_TASKEN0_EN else FL_TASKEN1_EN).at f
  let old := d.get x
  ((List.range 32).filter fun b => bitOf old b != v.getLsbD b).foldl (fun d b =>
    d.raiseFl f .flTaskEnable [((32 * i + b : Nat) : Int), ((b2n (v.getLsbD b) : Nat) : Int)]) (d.put x v.toNat)

/-- FL_RETAIN.FULL set: the next mirror carries every block (06 R175, R176). -/
def Dev.retainFull (d : Dev) (f : Flt) : Dev :=
  (d.put (FL_RETAIN_FULL.at f) 1).updFl f fun x => { x with fullAgain := x.inScan && x.fullDue }

/-- A write of a flight register, its key given as flight A's; `locked` tells that RWL fields refuse it. [log 15 DEDUCED; 141 DESIGN CHOICE] -/
def Dev.flWrite (d : Dev) (f : Flt) (locked : Bool) (key : Nat) (v : W32) : Dev :=
  match regIx key FL_TASKEN0 2, regIx key FL_SCHEDEN 8, regIx key FL_TURNCNT 32768 with
  | some i, _, _ => d.taskEnWrite f i v
  | _, some n, _ => d.schedEnWrite f n v
  | _, _, some n => if locked then d else d.turnWrite f n v
  | _, _, _ =>
    if key = FL_ENFCTL then d.enfCtlWrite f v
    else if key = FL_RETAIN then if v.getLsbD 15 then d.retainFull f else d
    else if key = FL_EVAC then
      let d1 := (d.swWrite locked (f.key key) v).1
      let lb := bitsOf v.toNat 4 0
      if v.getLsbD 8 then (d1.bankEvac (.fl f) lb).1
      else if v.getLsbD 9 then (d1.bankTest (.fl f) lb (v.getLsbD 10) id).1 else d1
    else if key = FL_ECCTEST ∧ v.getLsbD 29 then
      (d.eccArm (.fl f) (bitsOf v.toNat 5 0) (bitsOf v.toNat 20 6) (bitsOf v.toNat 28 21)).1
    else (d.swWrite locked (f.key key) v).1

/-- The status of a write of a field register: E_LOCK where it would change an RWL field of a committed configuration, or arms the test
window of a bank that is neither a free spare nor under test (00 R8; 03 R81; 16 R450). -/
def Dev.lockOf (d : Dev) (locked : Bool) (key : Nat) (v : W32) : Nat :=
  let fl := key / 2 ^ 24 = 3 ∨ key / 2 ^ 24 = 4
  let k := key % 2 ^ 24 + 3 * 2 ^ 24
  if locked ∧ fl ∧ (regIx k FL_TURNCNT 32768).isSome then
    if d.fieldRead key = v then E_OK else E_LOCK
  else if fl ∧ k = FL_ECCTEST ∧ v.getLsbD 29 then (d.eccArm (.fl (Flt.ofNum (key / 2 ^ 24 - 3))) (bitsOf v.toNat 5 0) 0 0).2
  else (d.swWrite locked key v).2

/-! ## REG_READ and REG_WRITE (16 R450; 06 R156, R574; 04 R576) -/

/-- Whether a flight is in SYNCING and awaits BOOT_DONE (06 R574, 04 R576). -/
def Dev.awaitsBoot (d : Dev) (f : Flt) : Bool := d.fst f == fsSyncing && d.nw.stair.isNone && (d.fl f).bootCycle.isNone

/-- Whether a flight will consume a REG_READ of its region: it is ACTIVE or STANDBY, or it awaits BOOT_DONE (04 R576). -/
def Dev.takesReads (d : Dev) (f : Flt) : Bool := d.fst f == fsActive || d.fst f == fsStandby || d.awaitsBoot f

/-- The check of a whole request: range, roles of R131, visibility, and an absent region. Answers the status and the first
failing word, 0xFFFF where no single word fails. [log 46 DEDUCED] -/
def Dev.regCheck (d : Dev) (role region count offset : Nat) : Nat × Nat :=
  if role = 0 ∨ 5 < role then (E_ROLE, 0xFFFF)
  else if region < 3 ∨ 7 < region ∨ count = 0 ∨ 64 < count ∨ offset % 4 ≠ 0 then (E_RANGE, 0xFFFF)
  else match (List.range count).find? fun i => !fieldVisible (region * 2 ^ 24 + offset + 4 * i) with
    | some i => (E_NOT_VISIBLE, i)
    | none =>
      if (region = 3 ∨ region = 4) ∧ d.fst (Flt.ofNum (region - 3)) = fsAbsent then (E_PD, 0xFFFF) else (E_OK, 0xFFFF)

/-- REPLY body: index of the first failing word, then data. -/
def regBody (ix : Nat) (data : List W32) : List Byte := le 2 ix ++ [0, 0] ++ data.flatMap fun v => le 4 v.toNat

/-- A REPLY that the Newel sends outside every commit set (04 R576, 01 R41). -/
def Dev.replyNow (d : Dev) (typ : Nat) (h : MsgHdr) (status : Nat) (body : List Byte) : Dev :=
  d.sendUp ⟨typ, h.seq, status, h.suite, h.role, body, none⟩

/-- A REG_READ answered from the registers as they stand (16 R450). -/
def Dev.regReadNow (d : Dev) (h : MsgHdr) (region count offset : Nat) : Dev :=
  let c := d.regCheck h.role region count offset
  let zeros := if c.1 = E_NOT_VISIBLE then List.replicate count (0 : W32) else []
  if c.1 ≠ E_OK then d.replyNow 0x40 h c.1 (regBody c.2 zeros)
  else d.replyNow 0x40 h E_OK (regBody 0xFFFF ((List.range count).map fun i => d.fieldRead (region * 2 ^ 24 + offset + 4 * i)))

/-- A REG_READ of region 3 or 4 in a flight: the named flight answers, outside its commit set (04 R576). -/
def regReadIn (f : Flt) (h : MsgHdr) (region count offset : Nat) (d : Dev) : Dev :=
  if region = 3 + f.num then d.regReadNow h region count offset else d

/-- The words of a write with their keys, in ascending offset. -/
def regWords (region offset : Nat) (values : List W32) : List (Nat × W32) :=
  (List.zip (List.range values.length) values).map fun e => (region * 2 ^ 24 + offset + 4 * e.1, e.2)

/-- A write to Newel registers, word by word (16 R450, 04 R123). [log 46 DEDUCED] -/
def Dev.nwWrites (d : Dev) (role : Nat) : Nat → List (Nat × W32) → Dev × Nat × Nat
  | _, [] => (d, E_OK, 0xFFFF)
  | i, w :: t =>
    let p := d.nwWrite role w.1 w.2
    let r := Dev.nwWrites p.1 role (i + 1) t
    if p.2 ≠ E_OK then (r.1, p.2, i) else r

/-- A REG_WRITE of the Newel's registers (16 R450, 04 R123). -/
def Dev.nwRegWrite (d : Dev) (h : MsgHdr) (offset : Nat) (values : List W32) : Dev :=
  let c := d.regCheck h.role 5 values.length offset
  if c.1 ≠ E_OK then d.replyNow 0x41 h c.1 (regBody c.2 [])
  else
    let r := d.nwWrites h.role 0 (regWords 5 offset values)
    r.1.replyNow 0x41 h r.2.1 (regBody r.2.2 [])

/-- A REG_WRITE in a flight: checked whole; flight registers are written in the flight, and Gallery and Loggia registers with its
commit set (16 R450; 04 R575; 06 R156; 14 R387). -/
def regWriteIn (f : Flt) (locked : Bool) (h : MsgHdr) (region offset : Nat) (values : List W32) (d : Dev) : Dev :=
  let c := d.regCheck h.role region values.length offset
  let ws := regWords region offset values
  let lock := match firstFail 0 (ws.map fun w => d.lockOf locked w.1 w.2) with
    | some p => (p.2, p.1)
    | none => (E_OK, 0xFFFF)
  if c.1 ≠ E_OK then d.reply f 0x41 h c.1 (regBody c.2 [])
  else
    let d1 :=
      if region < 5 then ws.foldl (fun d w => d.flWrite f locked (w.1 % 2 ^ 24 + 3 * 2 ^ 24) w.2) d
      else ws.foldl (fun d w => match regIx w.1 LG_CHCFG 8 with
        | some n => d.chainWritten f n (w.2.getLsbD 0)
        | none => d) (d.updFl f fun x => { x with regw := x.regw ++ ws })
    d1.reply f 0x41 h lock.1 (regBody lock.2 [])

end Sys2Proof.Machine
end

