-- ==== Sys2Proof/Machine/TimeBase.lean ====
section
/-! DEFINITION. The time base, the PTP servo, trust, TIME_MAP, alarms and the backup domain with its RTC (chapter 15). A
command that happens at an instant of the Foyer names the raw count of that instant. -/

namespace Sys2Proof.Machine

/-- Change the time base. -/
def Dev.updTime (d : Dev) (g : TimeSt → TimeSt) : Dev := { d with time := g d.time }

/-- Change the journal. -/
def Dev.updJnl (d : Dev) (g : JournalSt → JournalSt) : Dev := { d with jnl := g d.jnl }

/-- The raw counter has reached a count; it never runs back (15 R393). -/
def Dev.clock (d : Dev) (now : Nat) : Dev := d.updTime fun t => { t with raw := max t.raw now }

/-! ## System time (15 R393 to R396) -/

/-- Rate rho in units of 2^-40 (15 R394). -/
def Dev.rho (d : Dev) : Int := (d.rd FY_TBRATE).toInt

/-- System time at a raw count, in units of 2^-32 ns (15 R394). -/
def Dev.timeAt (d : Dev) (raw : Nat) : Int :=
  let t := d.time
  let x : Int := ((raw : Int) - t.r0) * 4 * (1099511627776 + d.rho)
  ((t.bNs : Int) + x / 1099511627776) * 4294967296 + t.bFrac + x / 256 % 4294967296

/-- System time now, in units of 2^-32 ns. -/
def Dev.timeNow (d : Dev) : Int := d.timeAt d.time.raw

/-- Whole nanoseconds of a time in units of 2^-32 ns. -/
def unitsNs (u : Int) : Nat := (u / 4294967296).toNat % 2 ^ 64

/-- Fraction of a time in units of 2^-32 ns. -/
def unitsFrac (u : Int) : Nat := (u % 4294967296).toNat

/-- System time in ns. -/
def Dev.nowNs (d : Dev) : Nat := unitsNs d.timeNow

/-- Largest magnitude of a rate (15 R395). -/
def rmax : Int := 549755813

/-- The base B at a time. -/
def Dev.setBase (d : Dev) (u : Int) : Dev := d.updTime fun t => { t with bNs := unitsNs u, bFrac := unitsFrac u }

/-- A rate change: B takes the time at the latched raw count, so system time is continuous (15 R395). -/
def Dev.setRate (d : Dev) (rho : Int) : Dev :=
  ((d.setBase d.timeNow).updTime fun t => { t with r0 := t.raw }).wr FY_TBRATE (BitVec.ofInt 32 (clampI (-rmax) rmax rho))

/-! ## Trust (15 R397) -/

/-- The source of system time changes; a change of trust raises EV_FY_TIME_TRUST, and STATUS tells of it (01 R44). [log 88 DESIGN CHOICE] -/
def Dev.setTimeSource (d : Dev) (src : Nat) : Dev :=
  let was := d.bit FY_TBSTAT_TRUST
  let d1 := (d.put FY_TBSTAT_SOURCE src).put FY_TBSTAT_TRUST (b2n (src != 0))
  if was = (src != 0) then d1 else (d1.raiseFy (.mk' .fyTimeTrust [b2n (src != 0), src])).statusNow true

/-- A source becomes trusted: it replaces one that is earlier in the table. -/
def Dev.timeTrusted (d : Dev) (src : Nat) : Dev := if d.get FY_TBSTAT_SOURCE < src then d.setTimeSource src else d

/-! ## Alarms (15 R408) -/

/-- A field of alarm n: its registers stand 16 bytes apart. -/
def tal (x : Fld) (n : Nat) : Fld := x.ixs 16 n

/-- CMP of an alarm. -/
def Dev.talCmp (d : Dev) (n : Nat) : Nat := (d.rd (FY_TALCMPLO + 16 * n)).toNat + (d.rd (FY_TALCMPHI + 16 * n)).toNat * 2 ^ 32

/-- An alarm fires where it is armed, enabled and due; `late` marks a firing by a forward step. -/
def Dev.talTry (d : Dev) (n : Nat) (late : Bool) : Dev :=
  let a := mget Alarm.zero d.time.alarms n
  let cmp := d.talCmp n
  let now := d.nowNs
  if !a.armed || !d.bit (tal FY_TALCTL_EN n) || decide (now < cmp) || decide (cmp ≤ a.lf) then d
  else
    let per := d.get (tal FY_TALCTL_PERIOD n) * 1000000
    let d1 := (d.put (tal FY_TALSTAT_FIRED n) 1).updTime fun t => { t with alarms := mput t.alarms n { a with lf := cmp } }
    let d2 := if late then (d1.put (tal FY_TALSTAT_LATE n) 1).put (tal FY_TALSTAT_SKIPPED n)
        (if per = 0 then 0 else min ((now - cmp) / per) 0xFF)
      else d1.put (tal FY_TALSTAT_LATE n) 0
    let d3 := if per = 0 then d2.put (tal FY_TALCTL_EN n) 0
      else
        let next := cmp + ((now - cmp) / per + 1) * per
        (d2.wr (FY_TALCMPLO + 16 * n) (BitVec.ofNat 32 next)).wr (FY_TALCMPHI + 16 * n) (BitVec.ofNat 32 (next / 2 ^ 32))
    d3.raiseFy ⟨.fyTalarm, 1, none, [n, d3.get (tal FY_TALSTAT_LATE n), d3.get (tal FY_TALSTAT_SKIPPED n)]⟩

/-- FY_TALCMPHI written: the alarm is armed at CMP and LF is 0; a CMP already past fires at once. -/
def Dev.talArm (d : Dev) (n : Nat) (v : W32) : Dev :=
  ((d.wr (FY_TALCMPHI + 16 * n) v).updTime fun t => { t with alarms := mput t.alarms n ⟨true, 0⟩ }).talTry n false

/-! ## Steps (15 R396, R403) -/

/-- System time moves to a value: the step epoch advances, the next map carries STEPPED, and alarms that a forward step
passes fire. [log 87 DEDUCED] -/
def Dev.stepTo (d : Dev) (target : Int) (cause : Nat) : Dev :=
  let old := d.timeNow
  let d1 := d.setBase ((d.time.bNs : Int) * 4294967296 + d.time.bFrac + (target - old))
  let d2 := (d1.incWrap FY_TBSTAT_EPOCH).updTime fun t => { t with stepped := true, integ := 0 }
  let d3 := d2.raiseFy (.mk' .fyTimeStep [(target - old) / 4294967296, d2.get FY_TBSTAT_EPOCH, cause])
  if old < target then (List.range 4).foldl (fun d n => d.talTry n true) d3 else d3

/-! ## The backup domain (15 R409 to R415) -/

/-- Operating seconds, saturating at 2^40 - 1 (15 R415). [log 90 DESIGN CHOICE] -/
def Dev.opsec (d : Dev) : Nat := min (d.time.opsec0 + d.time.raw / rawPerSec) (2 ^ 40 - 1)

/-- Bytes of words 0 to 30 of backup RAM. -/
def Dev.bkBytes (d : Dev) : List Byte := (List.range 31).flatMap fun i => le 4 (d.rd (FY_BKRAM + 4 * i)).toNat

/-- A write of a word of backup RAM; the domain recomputes word 31 (15 R414). -/
def Dev.bkWrite (d : Dev) (i : Nat) (v : W32) : Dev :=
  let d1 := d.wr (FY_BKRAM + 4 * i) v
  d1.wr (FY_BKRAM + 124) (BitVec.ofNat 32 (crc32c d1.bkBytes))

/-- The Foyer writes the RTC from system time, with RTCSET and rho in backup RAM: words 0 and 1 hold the TAI second of the
write, bit 0 of word 2 whether it was made from trusted time, word 3 rho. RTCSET of trusted time renews nothing while the
RTC itself is the source (15 R412). [log 87 DEDUCED; 90 DESIGN CHOICE] -/
def Dev.rtcWrite (d : Dev) : Dev :=
  let t := d.nowNs
  let src := d.get FY_TBSTAT_SOURCE
  let d1 := (d.updTime fun x => { x with rtcCnt := t / 1000000000 % 2 ^ 48, rtcSub := t % 1000000000 * 32768 / 1000000000 }).bkWrite 3
    (d.rd FY_TBRATE)
  let d2 := if src = 1 then d1
    else ((d1.bkWrite 0 (BitVec.ofNat 32 (t / 1000000000))).bkWrite 1 (BitVec.ofNat 32 (t / 1000000000 / 2 ^ 32))).bkWrite 2
      (BitVec.ofNat 32 (b2n (src != 0)))
  if d.bit FY_TBSTAT_TRUST then (d2.put FY_BKSTAT_OSF 0).put FY_BKSTAT_BKLOST 0 else d2

/-- The RTC has counted on by ticks of its crystal. [log 91 DEDUCED] -/
def Dev.rtcTick (d : Dev) (ticks : Nat) : Dev := d.updTime fun t =>
  let n := t.rtcCnt * 32768 + t.rtcSub + ticks
  { t with rtcCnt := n / 32768 % 2 ^ 48, rtcSub := n % 32768 }

/-- The live value of the RTC as a copy takes it (15 R410, R413). -/
def Dev.rtcCopy (d : Dev) : Shadow := ⟨true, d.time.rtcSub, d.time.rtcCnt, (d.time.rtcCnt : Int) - d.get FY_BKSTAT_TAIUTC⟩

/-- A shadow set of the RTC. -/
def Dev.shadow (d : Dev) (mgmt : Bool) : Shadow := if mgmt then d.time.shMgmt else d.time.shHost

/-- Set a shadow set. -/
def Dev.setShadow (d : Dev) (mgmt : Bool) (x : Shadow) : Dev := d.updTime fun t =>
  if mgmt then { t with shMgmt := x } else { t with shHost := x }

/-- What a port sees of the RTC: the copy while it is held, the live value otherwise. -/
def Dev.rtcSeen (d : Dev) (mgmt : Bool) : Shadow := if (d.shadow mgmt).held then d.shadow mgmt else d.rtcCopy

/-- FY_RTCCAL0 of a copy: second, minute, hour, weekday in UTC. -/
def Shadow.cal0 (x : Shadow) : W32 :=
  let s := (x.utc % 86400).toNat
  BitVec.ofNat 32 (s % 60 + s / 60 % 60 * 2 ^ 8 + s / 3600 * 2 ^ 16 + weekday (x.utc / 86400) * 2 ^ 24)

/-- FY_RTCCAL1 of a copy: day, month, year in UTC. -/
def Shadow.cal1 (x : Shadow) : W32 :=
  let c := civilOf (x.utc / 86400)
  BitVec.ofNat 32 (c.2.2 + c.2.1 * 2 ^ 8 + c.1.toNat % 4096 * 2 ^ 16)

/-- The operating seconds and the time are checkpointed in the journal (15 R412, R415). -/
def Dev.opsecCheckpoint (d : Dev) : Dev := d.updJnl fun j => { j with opsec := d.opsec, time := d.nowNs }

/-- The oscillator has stopped, or the domain is new: OSF (15 R411). -/
def Dev.setOsf (d : Dev) : Dev := (d.put FY_BKSTAT_OSF 1).raiseFy (.mk' .fyRtcOsf [])

/-- The domain fell below 1.6 V and has recovered: BKLOST and OSF are set, and what it held is lost (15 R409). [log 9 DESIGN CHOICE] -/
def Dev.backupLost (d : Dev) : Dev :=
  let k := d.time.losses
  let d1 := (List.range 32).foldl (fun d i => d.wr (FY_BKRAM + 4 * i) (Config.backupWord k i)) d
  (((d1.put FY_BKSTAT_OSF 1).put FY_BKSTAT_BKLOST 1).put FY_BKSTAT_RAMOK 0).updTime fun t =>
    { t with losses := k + 1, rtcCnt := (Config.backupRtc k).toNat % 2 ^ 48, rtcSub := (Config.backupRtc k).toNat / 2 ^ 48 % 2 ^ 15 }

/-- RTCSET: the second of the last write, where it was made from trusted time. -/
def Dev.rtcSet (d : Dev) : Option Nat :=
  if (d.rd (FY_BKRAM + 8)).getLsbD 0 then some ((d.rd FY_BKRAM).toNat + (d.rd (FY_BKRAM + 4)).toNat * 2 ^ 32) else none

/-- Time, backup RAM, power-cycle counter and operating seconds at a Foyer start (15 R409, R412, R414, R415). -/
def Dev.timeInit (d : Dev) : Dev :=
  let ramok := d.rd (FY_BKRAM + 124) == BitVec.ofNat 32 (crc32c d.bkBytes) && !d.bit FY_BKSTAT_BKLOST
  let osf := d.bit FY_BKSTAT_OSF
  let lost := d.bit FY_BKSTAT_BKLOST
  let pc := (d.rd FY_PWRCYC).toNat
  let pc1 := if lost then min (d.jnl.pwrcyc + 1) 0xFFFFFFFF else if d.mod.por then min (pc + 1) 0xFFFFFFFF else pc
  let d1 := if ramok then d else (List.range 31).foldl (fun d i => d.bkWrite i 0) d
  let d2 := (((d1.put FY_BKSTAT_RAMOK (b2n ramok)).wr FY_PWRCYC (BitVec.ofNat 32 pc1)).updJnl fun j => { j with pwrcyc := pc1 }).updTime
    fun t => { t with opsec0 := if d.mod.por then d.jnl.opsec else t.opsec0, r0 := t.raw }
  let d3 := if lost then d2.raiseFy (.mk' .fyBklost [pc1]) else d2
  let d4 := if osf then d3.raiseFy (.mk' .fyRtcOsf []) else d3
  if !osf && !lost && ramok then
    let t := d.time
    let d5 := (d4.setBase (((t.rtcCnt * 1000000000 : Nat) : Int) * 4294967296 + ((t.rtcSub * 1000000000 * 131072 : Nat) : Int))).wr FY_TBRATE
      (BitVec.ofInt 32 (clampI (-rmax) rmax (d.rd (FY_BKRAM + 12)).toInt))
    match d.rtcSet with
    | some s => if t.rtcCnt < s + 8 * (d.get FY_PTPCFG_RTCTRUST + 1) * 3600 then d5.setTimeSource 1 else d5
    | none => d5
  else (d4.setBase ((d.jnl.time : Nat) * 4294967296)).wr FY_TBRATE 0

/-! ## The servo (15 R398 to R402) -/

/-- Servo states, coded as in FY_TBSTAT. -/
def svFree : Nat := 0
def svAcquiring : Nat := 1
def svLocked : Nat := 2
def svHoldover : Nat := 3

/-- State of the servo. -/
def Dev.servo (d : Dev) : Nat := d.get FY_TBSTAT_SERVO

/-- The servo changes state, which raises EV_FY_PTP_STATE; leaving LOCKED leaves source holdover where PTP was the source
(15 R397, R401). -/
def Dev.setServo (d : Dev) (new : Nat) : Dev :=
  let old := d.servo
  let d1 := ((d.put FY_TBSTAT_SERVO new).updTime fun t => { t with nSamples := 0, samples := [], good := 0, wide := 0, overAt := none }).raiseFy
    (.mk' .fyPtpState [old, new, ((d.time.master.getD 0) % 2 ^ 32 : Nat)])
  if old = svLocked ∧ d1.get FY_TBSTAT_SOURCE = 2 then d1.setTimeSource 3 else d1

/-- Lexicographic order of datasets. [log 86 PRESUMED] -/
def rankLt : List Nat → List Nat → Bool
  | [], [] => false
  | [], _ => true
  | _, [] => false
  | a :: t, b :: u => if a < b then true else if b < a then false else rankLt t u

/-- The best known master by dataset comparison. [log 86 PRESUMED] -/
def bestMaster (l : List PtpMaster) : Option PtpMaster := l.foldl (fun b m => match b with
  | none => some m
  | some x => if rankLt m.rank x.rank then some m else b) none

/-- The best known master is selected; FREE and HOLDOVER go to ACQUIRING (15 R401). -/
def Dev.selectMaster (d : Dev) : Dev :=
  match bestMaster d.time.masters with
  | none => d
  | some m =>
    let d1 := d.updTime fun t => if t.master = some m.ident then t else { t with master := some m.ident, twoStep := none, sync := none, dreq := none }
    if d1.servo = svFree ∨ d1.servo = svHoldover then d1.setServo svAcquiring else d1

/-- An Announce message of the configured domain (15 R398). -/
def Dev.announce (d : Dev) (ident domain : Nat) (rank : List Nat) : Dev :=
  if !d.bit FY_PTPCFG_EN || domain != d.get FY_PTPCFG_DOMAIN then d
  else (d.updTime fun t => { t with masters := t.masters.filter (·.ident != ident) ++ [⟨ident, rank⟩] }).selectMaster

/-- STEPTHR in ns. -/
def Dev.stepThr (d : Dev) : Nat := 2 ^ d.get FY_PTPCFG_STEPTHR * 1000

/-- The sample with the least mean path delay. -/
def leastMpd (l : List (Int × Int)) : Option (Int × Int) := l.foldl (fun b s => match b with
  | none => some s
  | some x => if s.2 < x.2 then some s else b) none

/-- The acquisition step at the fourth sample (15 R396, R401). [log 85 DEDUCED] -/
def Dev.acquisition (d : Dev) : Dev :=
  match leastMpd d.time.samples with
  | some (o, _) =>
    if d.time.nSamples = 4 ∧ !d.bit FY_TBSTAT_STEPUSED ∧ d.stepThr < o.natAbs then
      (d.put FY_TBSTAT_STEPUSED 1).stepTo (d.timeNow - o * 4294967296) 0
    else d
  | none => d

/-- EV_FY_TIME_NEEDSTEP: the offset has been beyond STEPTHR for 60 s with the step used (15 R401). -/
def Dev.needStep (d : Dev) (off : Int) : Dev :=
  if off.natAbs ≤ d.stepThr then d.updTime fun t => { t with overAt := none }
  else
    let t := d.time
    let d1 := d.updTime fun t => { t with overAt := some (t.overAt.getD t.raw) }
    match t.overAt with
    | some a =>
      if a + 60 * rawPerSec ≤ t.raw ∧ d.bit FY_TBSTAT_STEPUSED ∧ rateOk t.needAt t.raw (3600 * rawPerSec) then
        (d1.updTime fun t => { t with needAt := some t.raw }).raiseFy (.mk' .fyTimeNeedstep [off])
      else d1
    | none => d1

/-- The transitions of a sample (15 R401). -/
def Dev.servoStep (d : Dev) (off : Int) : Dev :=
  if d.servo = svAcquiring then
    let d1 := d.acquisition
    if d1.time.good = 16 then
      ((d1.setServo svLocked).updTime fun t => { t with lockedEver := true }).setTimeSource 2 |>.rtcWrite
    else d1.needStep off
  else if d.servo = svLocked ∧ d.time.wide = 4 then d.setServo svAcquiring
  else d

/-- A sample of the servo: origin and receive time of a Sync (15 R400, R402). A sample forms only once a mean path delay is
known; quotients are truncated toward zero. [log 84 DESIGN CHOICE] -/
def Dev.ptpSample (d : Dev) (t1 t2 : Int) : Dev :=
  let d0 := d.updTime fun t => { t with sync := some (t1, t2) }
  match d.time.mpd with
  | none => d0
  | some m =>
    let d1 := d0.updTime fun t => { t with mpds := (m :: t.mpds).take 16 }
    if d1.time.mpds.any fun x => decide (4 * x < m) then d1
    else
      let off := t2 - t1 - m
      let q := off * 1099511627776
      let integ := clampI (-rmax) rmax (d.time.integ - Int.tdiv q 256000000000)
      let rho := clampI (-rmax) rmax (integ - Int.tdiv q 16000000000)
      let d2 := ((d1.wr FY_PTPOFS (BitVec.ofInt 32 (clampI (-2147483647) 2147483647 off))).setRate rho).updTime fun t => { t with
        integ := integ, samples := ((off, m) :: t.samples).take 4, nSamples := min (t.nSamples + 1) 5
        good := if off.natAbs ≤ 1000 then min (t.good + 1) 16 else 0
        wide := if 10000 < off.natAbs then min (t.wide + 1) 4 else 0 }
      d2.servoStep off

/-- Whether the servo takes samples of a master. [log 85 DEDUCED] -/
def Dev.servoTakes (d : Dev) (ident : Nat) : Bool :=
  d.bit FY_PTPCFG_EN && d.time.master == some ident && (d.servo == svAcquiring || d.servo == svLocked)

/-- A Sync arrives at MAC m: the raw count is latched; a second SFD before the firmware has read the latch loses both
messages (15 R399, R400). -/
def Dev.syncRx (d : Dev) (ident m seq : Nat) (two ovr : Bool) (t1 : Int) : Dev :=
  let raw := d.time.raw
  let d1 := (d.wr (FY_RXTS + 8 * (m % 2)) (BitVec.ofNat 32 raw)).wr (FY_RXTS + 8 * (m % 2) + 4) (BitVec.ofNat 32 (raw / 2 ^ 32))
  if ovr || !d1.servoTakes ident then d1
  else
    let t2 : Int := d1.timeNow / 4294967296 - d1.get ⟨FY_PTPLAT, 15, 0⟩
    if two then d1.updTime fun t => { t with twoStep := some (seq, t2) } else d1.ptpSample t1 t2

/-- No Sync for 4 intervals, or no Announce within its timeout (15 R401). The master is given up; another that is known is
selected. [log 86 PRESUMED] -/
def Dev.syncTimeout (d : Dev) : Dev :=
  match d.time.master with
  | none => d
  | some m =>
    let hold (d : Dev) : Dev := (d.setServo svHoldover).setRate d.time.integ
    let d1 := if d.servo = svLocked then hold d
      else if d.servo = svAcquiring then (if d.time.lockedEver then hold d else d.setServo svFree)
      else d
    (d1.updTime fun t => { t with
      master := none, masters := t.masters.filter (·.ident != m), twoStep := none, sync := none, dreq := none }).selectMaster

/-- A Delay_Req leaves: its departure time is inserted and latched (15 R399). -/
def Dev.delayReq (d : Dev) : Dev :=
  match d.time.sync with
  | none => d
  | some s =>
    let t3 : Int := d.timeNow / 4294967296 + d.get ⟨FY_PTPLAT, 31, 16⟩
    ((d.wr FY_TXTS (BitVec.ofInt 32 t3)).wr (FY_TXTS + 4) (BitVec.ofInt 32 (t3 / 4294967296))).updTime fun t =>
      { t with dreq := some (s.1, s.2, t3) }

/-- A Delay_Resp gives the mean path delay (15 R400). [log 84 DESIGN CHOICE] -/
def Dev.delayResp (d : Dev) (t4 : Int) : Dev :=
  match d.time.dreq with
  | none => d
  | some (t1, t2, t3) =>
    let m := Int.tdiv ((t2 - t1) + (t4 - t3)) 2
    (d.wr FY_PTPMPD (if m < 0 then Config.ptpMpdNeg m else BitVec.ofInt 32 (min m 0xFFFFFFFF))).updTime fun t =>
      { t with mpd := some m, dreq := none }

/-- FY_PTPCFG.EN written 1: the servo runs (15 R398). -/
def Dev.ptpEnable (d : Dev) : Dev := d.put FY_PTPCFG_EN 1

/-- FY_PTPCFG.EN written 0: the servo goes to FREE, rho kept (15 R401). -/
def Dev.ptpDisable (d : Dev) : Dev :=
  let d1 := d.put FY_PTPCFG_EN 0
  (if d1.servo = svFree then d1 else d1.setServo svFree).updTime fun t => { t with
    master := none, masters := [], twoStep := none, sync := none, dreq := none }

/-! ## Time commands (15 R403) -/

/-- TIME_STEP and TIME_SET: operator only, and refused while LOCKED without force. Answers the status. [log 87 DEDUCED] -/
def Dev.timeCommand (d : Dev) (role : Nat) (force : Bool) (target : Int) : Dev × Nat :=
  if role ≠ 1 then (d, E_ROLE)
  else if d.servo = svLocked ∧ !force then (d, E_BUSY_SERVICE)
  else (((d.stepTo target 1).timeTrusted 4).rtcWrite, E_OK)

/-! ## Time for the field side (15 R404, R405) -/

/-- Mean cycle length over the last 4,096 mark intervals at the present rate, in units of 2^-32 ns; 250 us before the first
interval. [log 89 DESIGN CHOICE] -/
def Dev.cycleLen (d : Dev) : Int :=
  match d.time.marks with
  | [] => 250000 * 4294967296
  | [_] => 250000 * 4294967296
  | m :: t =>
    let n : Int := t.length
    ((m : Int) - t.getLastD m) * 4 * (1099511627776 + d.rho) / (256 * n)

/-- The map of a mark that arrives now: its boundary lies 610 ns before (15 R404). [log 89 DESIGN CHOICE] -/
def Dev.mapOf (d : Dev) (c : Nat) : TimeMap :=
  let t := d.timeNow - 610 * 4294967296
  let l := d.cycleLen
  ⟨c, unitsNs t, unitsFrac t, unitsNs l % 2 ^ 32, unitsFrac l, d.bit FY_TBSTAT_TRUST, false, d.time.stepped, d.servo == svLocked,
    d.get FY_TBSTAT_SOURCE, d.get FY_TBSTAT_EPOCH⟩

/-- A cycle mark arrives: every fourth gives a TIME_MAP while the Corridor is up (15 R404, R406). [log 89 DESIGN CHOICE] -/
def Dev.cycleMark (d : Dev) : Dev :=
  let d1 := d.updTime fun t => { t with markNo := t.markNo.map (· + 1), marks := (t.raw :: t.marks).take 4097 }
  match d1.time.markNo with
  | none => d1
  | some c =>
    if c % 4 ≠ 0 ∨ !d1.cor.hostUp ∨ d1.mst < msSelftest then d1
    else (d1.sendDown 0x30 (d1.mapOf c).bytes).updTime fun t => { t with stepped := false }

/-! ## Checkpoints of the field side (09 R247; 14 R368, R369) -/

/-- The active flight's node counters as the Foyer reads them. -/
def Dev.nbrCheckpoint (d : Dev) : Dev :=
  match d.active with
  | none => d
  | some f => if !d.linkUp then d else d.updJnl fun j => { j with
      nbr := (d.regs.filter fun e => decide (f.key FL_NBRCTR ≤ e.1 ∧ e.1 < f.key FL_NBRCTR + 262144)).map fun e =>
        (e.1 - f.num * 2 ^ 24, e.2) }

/-- The active flight's transmit counter. -/
def Dev.txctrCheckpoint (d : Dev) : Dev :=
  match d.active with
  | none => d
  | some f => if !d.linkUp then d else d.updJnl fun j => { j with txctr := some (d.rd (f.key FL_MACTXCTR)).toNat }

/-- The active flight's turn counters. [log 90 DESIGN CHOICE] -/
def Dev.turnCheckpoint (d : Dev) : Dev :=
  match d.active with
  | none => d
  | some f => if !d.linkUp then d else d.updJnl fun j => { j with turns := some (d.fl f).enf.turns }

/-! ## Meanings -/

/-- ANNOUNCE_RX (15 R398). -/
def execAnnounceRx (ident domain : Nat) (rank : List Nat) (s : State) : Host.Outcome State Fault Refusal :=
  s.upd fun d => d.announce ident domain rank

/-- SYNC_RX (15 R399, R400). -/
def execSyncRx (now ident m seq : Nat) (two ovr : Bool) (t1 : Int) (s : State) : Host.Outcome State Fault Refusal :=
  s.upd fun d => (d.clock now).syncRx ident m seq two ovr t1

/-- FOLLOW_UP_RX (15 R400). -/
def execFollowUpRx (ident seq : Nat) (t1 : Int) (s : State) : Host.Outcome State Fault Refusal :=
  s.upd fun d => match d.time.twoStep with
    | some (q, t2) => if q = seq ∧ d.servoTakes ident then (d.updTime fun t => { t with twoStep := none }).ptpSample t1 t2 else d
    | none => d

/-- DELAY_REQ_SEND (15 R399). -/
def execDelayReqSend (now : Nat) (s : State) : Host.Outcome State Fault Refusal :=
  s.upd fun d => (d.clock now).delayReq

/-- DELAY_RESP_RX (15 R400). -/
def execDelayRespRx (ident : Nat) (t4 : Int) (s : State) : Host.Outcome State Fault Refusal :=
  s.upd fun d => d.when (d.time.master == some ident) fun d => d.delayResp t4

/-- SYNC_TIMEOUT (15 R401). [log 4 DESIGN CHOICE] -/
def execSyncTimeout (s : State) : Host.Outcome State Fault Refusal := s.upd Dev.syncTimeout

/-- PTP_ENABLE (15 R398). -/
def execPtpEnable (s : State) : Host.Outcome State Fault Refusal := s.upd Dev.ptpEnable

/-- PTP_DISABLE (15 R401). -/
def execPtpDisable (s : State) : Host.Outcome State Fault Refusal := s.upd Dev.ptpDisable

/-- TRUST_EXPIRY: the trust of a source that expires has ended (15 R397). [log 88 DESIGN CHOICE] -/
def execTrustExpiry (s : State) : Host.Outcome State Fault Refusal :=
  s.upd fun d => d.when (d.bit FY_TBSTAT_TRUST && d.get FY_TBSTAT_SOURCE != 2) fun d => d.setTimeSource 0

/-- CYCLE_MARK (15 R404). -/
def execCycleMark (now : Nat) (s : State) : Host.Outcome State Fault Refusal := s.upd fun d => (d.clock now).cycleMark

/-- ALARM_ARM (15 R408). -/
def execAlarmArm (n : Nat) (v : W32) (s : State) : Host.Outcome State Fault Refusal := s.upd fun d => d.talArm (n % 4) v

/-- ALARM_FIRE (15 R408). -/
def execAlarmFire (now n : Nat) (s : State) : Host.Outcome State Fault Refusal :=
  s.upd fun d => (d.clock now).talTry (n % 4) false

/-- RTC_WRITE (15 R412). -/
def execRtcWrite (now : Nat) (s : State) : Host.Outcome State Fault Refusal :=
  s.upd fun d => (d.clock now).when (d.bit FY_TBSTAT_TRUST) Dev.rtcWrite

/-- RTC_SHADOW_COPY: the RTC has counted `ticks` since it was last seen (15 R413). -/
def execRtcShadowCopy (mgmt : Bool) (ticks : Nat) (s : State) : Host.Outcome State Fault Refusal :=
  s.upd fun d => let d1 := d.rtcTick ticks; d1.setShadow mgmt d1.rtcCopy

/-- RTC_SHADOW_RELEASE (15 R413). -/
def execRtcShadowRelease (mgmt : Bool) (s : State) : Host.Outcome State Fault Refusal := s.upd fun d => d.setShadow mgmt Shadow.zero

/-- RTC_SHADOW_TIMEOUT (15 R413). [log 4 DESIGN CHOICE] -/
def execRtcShadowTimeout (mgmt : Bool) (s : State) : Host.Outcome State Fault Refusal := s.upd fun d => d.setShadow mgmt Shadow.zero

/-- FY_TBRAWLO read: FY_TBRAWHI latches. -/
def Dev.rawLatch (d : Dev) : Dev := d.wr FY_TBRAWHI (BitVec.ofNat 32 (d.time.raw / 2 ^ 32))

/-- FY_TIMELO read: the high word and the fraction latch. -/
def Dev.timeLatch (d : Dev) : Dev :=
  (d.wr FY_TIMEHI (BitVec.ofNat 32 (d.nowNs / 2 ^ 32))).wr FY_TIMEFRAC (BitVec.ofNat 32 (unitsFrac d.timeNow))

/-- FY_OPSECLO read: FY_OPSECHI latches. -/
def Dev.opsecLatch (d : Dev) : Dev := d.wr FY_OPSECHI (BitVec.ofNat 32 (d.opsec / 2 ^ 32))

/-- RAW_READ_LATCH (15 R418). -/
def execRawReadLatch (now : Nat) (s : State) : Host.Outcome State Fault Refusal := s.upd fun d => (d.clock now).rawLatch

/-- TIME_READ_LATCH (15 R418). -/
def execTimeReadLatch (now : Nat) (s : State) : Host.Outcome State Fault Refusal := s.upd fun d => (d.clock now).timeLatch

/-- OPSEC_READ_LATCH (15 R418). -/
def execOpsecReadLatch (now : Nat) (s : State) : Host.Outcome State Fault Refusal := s.upd fun d => (d.clock now).opsecLatch

/-- BACKUP_DOMAIN_LOSS (15 R409). -/
def execBackupDomainLoss (s : State) : Host.Outcome State Fault Refusal := s.upd Dev.backupLost

/-- BACKUP_SUPPLY_SWITCH: the domain runs from VBAT or from the main rail; its cell measures `mv` (15 R409, R416). -/
def execBackupSupplySwitch (onBat : Bool) (mv : Nat) (s : State) : Host.Outcome State Fault Refusal :=
  s.upd fun d => (d.put FY_BKSTAT_ONBAT (b2n onBat)).put FY_BKSTAT_VBAT (min mv 4095)

/-- OSCILLATOR_STOP (15 R411). -/
def execOscillatorStop (s : State) : Host.Outcome State Fault Refusal := s.upd Dev.setOsf

/-- OPSEC_CHECKPOINT (15 R412, R415). -/
def execOpsecCheckpoint (now : Nat) (s : State) : Host.Outcome State Fault Refusal := 
  s.upd fun d => (d.clock now).when (!d.arc.warned) Dev.opsecCheckpoint

/-- NBR_CHECKPOINT (14 R368). -/
def execNbrCheckpoint (s : State) : Host.Outcome State Fault Refusal := 
  s.upd fun d => d.when (!d.arc.warned) Dev.nbrCheckpoint

/-- TXCTR_CHECKPOINT (14 R369). -/
def execTxctrCheckpoint (s : State) : Host.Outcome State Fault Refusal := 
  s.upd fun d => d.when (!d.arc.warned) Dev.txctrCheckpoint

/-- TURN_CHECKPOINT (09 R247). -/
def execTurnCheckpoint (s : State) : Host.Outcome State Fault Refusal := 
  s.upd fun d => d.when (!d.arc.warned) Dev.turnCheckpoint

end Sys2Proof.Machine
end

