-- ==== Sys2Proof/Machine/HostPort.lean ====
section
/-! DEFINITION. Alcoves, landings, the event controller and the carriers of FMP records (16 R425, R428 to R442). An access
answers the machine and its status code. -/

namespace Sys2Proof.Machine

/-- Change the host port's state. -/
def Dev.updHost (d : Dev) (g : HostSt → HostSt) : Dev := { d with host := g d.host }

/-! ## Alcoves (16 R428 to R432) -/

/-- The register of alcove a: its registers stand 16 bytes apart. -/
def alc (x : Fld) (a : Nat) : Fld := x.ixs 16 a

/-- Offset of the Foyer half of the host window (16 R428). -/
def foyerHalf : Nat := 0x80000

/-- Size of the host window. -/
def windowSize : Nat := 0x100000

/-- Whether the buffer that an alcove names may be noticed: inside the window, and wholly in the sender's half unless it is
empty (16 R429). -/
def alcBufferOk (a ptr len : Nat) : Bool :=
  decide (ptr + len ≤ windowSize) &&
    (len == 0 || (if a < 16 then decide (ptr + len ≤ foyerHalf) else decide (foyerHalf ≤ ptr)))

/-- Timeout of an alcove in ms (16 R456). -/
def Dev.alcTmo (d : Dev) (a : Nat) : Nat := clampN 1 1000 (d.get (alc FY_ALCCTL_TMO a))

/-- A port source is set in the states of R430. -/
def Dev.portSource (d : Dev) (n : Nat) : Dev := if msServes d.mst && !d.mod.romHold then d.pend [n] else d

/-- The sender writes TAG (16 R429, R430). -/
def Dev.alcTag (d : Dev) (a tag : Nat) : Dev × Nat :=
  if d.host.coreDown then (d, E_PD)
  else if d.bit (alcFull a) then (d, E_LOCK)
  else if !alcBufferOk a (d.get (alc FY_ALCPTR_PTR a)) (d.get (alc FY_ALCLEN_LEN a)) then (d, E_RANGE)
  else
    ((((d.put (alc FY_ALCTAG_TAG a) tag).put (alcFull a) 1).updHost fun h =>
      { h with alcoves := h.alcoves.filter (· ≠ a) ++ [a] }).portSource (16 + a), E_OK)

/-- The sender writes PTR or LEN: refused while FULL (16 R429). -/
def Dev.alcField (d : Dev) (a : Nat) (x : Fld) (v : Nat) : Dev × Nat :=
  if d.host.coreDown then (d, E_PD) else if d.bit (alcFull a) then (d, E_LOCK) else (d.put (alc x a) v, E_OK)

/-- Master number of the host port (01 R15). [log 108 DESIGN CHOICE] -/
def hostMaster : Nat := 1

/-- Bytes into the host window. [log 11 DESIGN CHOICE] -/
def Dev.windowWrite (d : Dev) (off : Nat) (bs : List Byte) : Dev := d.updHost fun h =>
  { h with window := (List.zip (List.range bs.length) bs).foldl (fun w e => mset (0 : Byte) w (off + e.1) e.2) h.window }

/-- Bytes of the host window. [log 11 DESIGN CHOICE] -/
def Dev.windowRead (d : Dev) (off n : Nat) : List Byte := (List.range n).map fun i => mget (0 : Byte) d.host.window (off + i)

/-- First of two codes that is not E_OK. -/
def firstCode (a b : Nat) : Nat := if a = E_OK then b else a

/-- The word of Foyer memory at an offset of the host window: logical banks 12 to 15 (03 R65). -/
def windowPlace (off : Nat) : Nat × Nat := (12 + off / bankBytes, off % bankBytes / 8)

/-- Bytes written by a master within one word of the window: a full word or a partial one, which a word with an uncorrectable error refuses
with E_ECC (03 R66, R69; 16 R423). -/
def Dev.windowWord (d : Dev) (master off : Nat) (bs : List Byte) : Dev × Nat :=
  let p := windowPlace off
  let d1 := d.windowWrite off bs
  let r := d1.writeWord .fy (d.phys .fy p.1) p.2 (bs.length == 8) master (unle (d1.windowRead (off - off % 8) 8))
  if r.2 then (r.1, E_OK) else ({ r.1 with host := d.host }, E_ECC)

/-- Bytes written from an offset on, word by word; answers the first code. -/
def Dev.windowPut : Nat → Dev → Nat → Nat → List Byte → Dev × Nat
  | 0, d, _, _, _ => (d, E_OK)
  | k + 1, d, master, off, bs =>
    if bs = [] then (d, E_OK)
    else
      let n := 8 - off % 8
      let r := d.windowWord master off (bs.take n)
      let s := Dev.windowPut k r.1 master (off + n) (bs.drop n)
      (s.1, firstCode r.2 s.2)

/-- Bytes that the host reads from an offset on, word by word: a word with an uncorrectable error reads as zeros with E_ECC (03 R66, R68,
R70). Answers the bytes, the code of the first word, and the first code of all. -/
def Dev.windowGet : Nat → Dev → Nat → Nat → Dev × List Byte × Nat × Nat
  | 0, d, _, _ => (d, [], E_OK, E_OK)
  | k + 1, d, off, n =>
    if n = 0 then (d, [], E_OK, E_OK)
    else
      let p := windowPlace off
      let i := min n (8 - off % 8)
      let r := d.readWord .fy (d.phys .fy p.1) p.2 (Mem.fy.agentOf hostMaster)
      let bad := r.2 == .uncorrectable
      let s := Dev.windowGet k r.1 (off + i) (n - i)
      let c := if bad then E_ECC else E_OK
      (s.1, (if bad then List.replicate i 0 else d.windowRead off i) ++ s.2.1, c, firstCode c s.2.2.2)

/-- Offset of the reply buffer of alcove channel a (16 R428). -/
def replyBuffer (a : Nat) : Nat := foyerHalf + a * 0x8000

/-- The Foyer notices the next waiting reply of channel a, where alcove 16 + a is empty (16 R442). -/
def Dev.alcNext (d : Dev) (a : Nat) : Dev :=
  match mget [] d.host.waiting a with
  | [] => d
  | (tag, rec) :: rest =>
    if d.bit (alcFull (16 + a)) then d
    else
      let d1 := ((d.updHost fun h => { h with waiting := mset [] h.waiting a rest }).windowPut (rec.length + 1) 0 (replyBuffer a) rec).1
      (((d1.put (alc FY_ALCPTR_PTR (16 + a)) (replyBuffer a)).put (alc FY_ALCLEN_LEN (16 + a)) rec.length).alcTag (16 + a) tag).1

/-- The receiver empties an alcove, which stops its timer (16 R429). -/
def Dev.alcEmpty (d : Dev) (a : Nat) : Dev :=
  if d.host.coreDown then d
  else
    let d1 := (d.put (alcFull a) 0).updHost fun h => { h with alcoves := h.alcoves.filter (· ≠ a) }
    if a < 16 then d1 else d1.alcNext (a - 16)

/-- The timer of an alcove runs out with FULL still 1 (16 R431). -/
def Dev.alcTimeout (d : Dev) (a : Nat) : Dev :=
  if d.bit (alcFull a) ∧ a ∈ d.host.alcoves then
    ((d.put (alc FY_ALCCTL_TIMEOUT a) 1).updHost fun h => { h with alcoves := h.alcoves.filter (· ≠ a) }).raiseFy
      (.mk' .fyAlcTimeout [a])
  else d

/-- The sender clears TIMEOUT (16 R431). -/
def Dev.alcClear (d : Dev) (a : Nat) : Dev := if d.host.coreDown then d else d.put (alc FY_ALCCTL_TIMEOUT a) 0

/-! ## Landings 0 to 3 (16 R433 to R436) -/

/-- The register of landing n: its registers stand 16 bytes apart. -/
def ld (x : Fld) (n : Nat) : Fld := x.ixs 16 n

/-- Capacity in items, or in words. -/
def ldCap (n : Nat) : Nat := if n < 4 then 512 else 1024

/-- Items or words held. -/
def Dev.ldLevel (d : Dev) (n : Nat) : Nat :=
  if n < 4 then (mget [] d.host.items n).length else (mget [] d.host.words n).length

/-- Show LEVEL, FULL and EMPTY. -/
def Dev.ldShow (d : Dev) (n : Nat) : Dev :=
  let l := d.ldLevel n
  ((d.put (ld FY_LDSTAT_LEVEL n) l).put (ld FY_LDSTAT_FULL n) (b2n (l == ldCap n))).put (ld FY_LDSTAT_EMPTY n) (b2n (l == 0))

/-- The packer of a landing. -/
def Dev.packer (d : Dev) (n : Nat) : Packer := mget Packer.zero d.host.packers n

/-- Change the packer. -/
def Dev.updPacker (d : Dev) (n : Nat) (g : Packer → Packer) : Dev := d.updHost fun h =>
  { h with packers := mset Packer.zero h.packers n (g (mget Packer.zero h.packers n)) }

/-- A packet is discarded (16 R436). -/
def Dev.ldDropped (d : Dev) (n : Nat) : Dev := d.inc (ld FY_LDSTAT_DROPS n)

/-- An item enters a landing that has room, unless DROP discards it; a tag of 1 to 9 sets the landing's source (16 R436,
R438). -/
def Dev.ldItem (d : Dev) (n : Nat) (i : LdItem) : Dev :=
  if (d.packer n).dropping then
    if i.tag = 0xF then d else (d.updPacker n fun p => { p with dropping := false }).ldDropped n
  else
    let d1 := (d.updHost fun h => { h with items := mset [] h.items n (mget [] h.items n ++ [i]) }).ldShow n
    if i.tag = 0xF then d1 else d1.portSource (48 + n)

/-- Whether a landing has room for one more item. -/
def Dev.ldRoom (d : Dev) (n : Nat) : Bool := decide (d.ldLevel n < ldCap n) || (d.packer n).dropping

/-- The abort item that waits is queued as soon as there is room (16 R435). -/
def Dev.ldAbortDue (d : Dev) (n : Nat) : Dev :=
  if (d.packer n).abortDue && d.ldRoom n then (d.updPacker n fun p => { p with abortDue := false }).ldItem n ⟨0x9, []⟩ else d

/-- A packet overflows (16 R435); `ended` tells that its end has come. -/
def Dev.ldOverflow (d : Dev) (n : Nat) (ended : Bool) : Dev :=
  (d.updPacker n fun p => { p with held := [], items := 0, abortDue := true, overflowed := !ended }).put (ld FY_LDSTAT_OVF n) 1

/-- One byte into the packer (16 R434, R435). [log 107 DESIGN CHOICE] -/
def Dev.ldByte (d : Dev) (n : Nat) (b : Byte) : Dev × Nat :=
  let d0 := d.ldAbortDue n
  let p := d0.packer n
  if p.overflowed then (d0, E_OK)
  else if p.held.length < 8 then (d0.updPacker n fun p => { p with held := p.held ++ [b] }, E_OK)
  else if d0.ldRoom n && !p.abortDue then
    (((d0.updPacker n fun p => { p with held := [b], items := p.items + 1 }).ldItem n ⟨0xF, p.held⟩), E_OK)
  else (d0.ldOverflow n false, E_OVERFLOW)

/-- Bytes written to FY_LDDATA[n]. -/
def Dev.ldBytes (d : Dev) (n : Nat) (bs : List Byte) : Dev × Nat :=
  bs.foldl (fun (p : Dev × Nat) b =>
    let r := p.1.ldByte n b
    (r.1, if p.2 = E_OK then r.2 else p.2)) (d, E_OK)

/-- A write of FY_LDDATA[n] (16 R434). -/
def Dev.ldWrite (d : Dev) (n : Nat) (bs : List Byte) : Dev × Nat :=
  if d.host.coreDown then (d, E_PD) else if n < 4 then d.ldBytes n bs else (d, E_OK)

/-- A write of FY_LDEOP[n]: the packet ends as chip select rises (16 R434, R435). -/
def Dev.ldEop (d : Dev) (n : Nat) (bs : List Byte) : Dev × Nat :=
  if d.host.coreDown then (d, E_PD)
  else if 4 ≤ n then (d, E_OK)
  else
    let r := d.ldBytes n bs
    let p := r.1.packer n
    if p.overflowed then (r.1.updPacker n fun p => { p with overflowed := false, held := [], items := 0 }, r.2)
    else if p.held = [] then r
    else if r.1.ldRoom n && !p.abortDue then
      ((r.1.updPacker n fun p => { p with held := [], items := 0 }).ldItem n ⟨p.held.length, p.held⟩, r.2)
    else (r.1.ldOverflow n true, if r.2 = E_OK then E_OVERFLOW else r.2)

/-- FY_LDCTL[n].ABORT (16 R435). -/
def Dev.ldAbort (d : Dev) (n : Nat) : Dev :=
  if d.host.coreDown ∨ 4 ≤ n then d
  else
    let p := d.packer n
    let d1 := d.updPacker n fun p => { p with held := [], items := 0, overflowed := false, abortDue := p.abortDue || decide (0 < p.items) }
    if p.items = 0 then d1 else d1.ldAbortDue n

/-- Items of a packet from the front of a landing: what remains after its last item, none where the last item has not been
queued. -/
def packetRest : List LdItem → Option (List LdItem)
  | [] => none
  | i :: t => if i.tag = 0xF then packetRest t else some t

/-- The Foyer takes the packet at the front of a landing; packets that an abort item ended are discarded first (16 R433,
R436). -/
def Dev.ldTake : Nat → Dev → Nat → Dev
  | 0, d, _ => d
  | k + 1, d, n =>
    let l := mget [] d.host.items n
    match packetRest l with
    | none => d
    | some rest =>
      let d1 := ((d.updHost fun h => { h with items := mset [] h.items n rest }).ldShow n).ldAbortDue n
      if (l.find? fun i => i.tag != 0xF) = some ⟨0x9, []⟩ then Dev.ldTake k (d1.ldDropped n) n else d1

/-- DROP: the Foyer discards the rest of the current packet (16 R436). -/
def Dev.ldDrop (d : Dev) (n : Nat) : Dev :=
  if 4 ≤ n then d
  else match packetRest (mget [] d.host.items n) with
    | some rest => (((d.updHost fun h => { h with items := mset [] h.items n rest }).ldShow n).ldDropped n).ldAbortDue n
    | none => (((d.updHost fun h => { h with items := mset [] h.items n [] }).ldShow n).updPacker n fun p =>
        { p with dropping := true }).ldAbortDue n

/-! ## Landings 4 to 7 (16 R437, R438) -/

/-- Words that wait enter a landing while there is room; the end of a record, and a level that rises to THR, set its
source. -/
def Dev.ldFill : Nat → Dev → Nat → Dev
  | 0, d, _ => d
  | k + 1, d, n =>
    match mget [] d.host.ldWait n with
    | [] => d
    | w :: t =>
      if ldCap n ≤ d.ldLevel n then d
      else
        let d1 := (d.updHost fun h => { h with
          ldWait := mset [] h.ldWait n t, words := mset [] h.words n (mget [] h.words n ++ [w]) }).ldShow n
        let thr := d.get (ld FY_LDCTL_THR n)
        Dev.ldFill k (if w.2 || (thr != 0 && d1.ldLevel n == thr) then d1.portSource (48 + n) else d1) n

/-- Bytes as words, the last one padded with zeros. -/
def wordsOf (bs : List Byte) : List W32 := (List.range ((bs.length + 3) / 4)).map fun i => BitVec.ofNat 32 (field bs (4 * i) 4)

/-- The Foyer puts a record into landing n: its length, then its bytes (16 R442). -/
def Dev.ldRecord (d : Dev) (n : Nat) (rec : List Byte) : Dev :=
  let ws := BitVec.ofNat 32 rec.length :: wordsOf rec
  let marked := (List.zip (List.range ws.length) ws).map fun e => (e.2, e.1 + 1 == ws.length)
  Dev.ldFill 1024 (d.updHost fun h => { h with ldWait := mset [] h.ldWait n (mget [] h.ldWait n ++ marked) }) n

/-- What an empty landing reads as (16 R437). -/
def ldEmptyWord : W32 := 0xFFFF0000

/-- A complete read of FY_LDDATA[n], n from 4 to 7: the word, and whether the landing was empty. -/
def Dev.ldPop (d : Dev) (n : Nat) : Dev × W32 × Bool :=
  match mget [] d.host.words n with
  | [] => (d, ldEmptyWord, true)
  | w :: t =>
    (Dev.ldFill 1024 ((d.updHost fun h => { h with words := mset [] h.words n t }).ldShow n) n, w.1, false)

/-! ## The event controller (16 R439, R440) -/

/-- Priority of a source. -/
def Dev.evPri (d : Dev) (n : Nat) : Nat := d.get ⟨FY_EVPRI + 4 * (n / 8), 4 * (n % 8) + 3, 4 * (n % 8)⟩

/-- The source that FY_EVVEC delivers: highest priority, ties to the lower number. -/
def Dev.evNext (d : Dev) : Option Nat := d.hostSources.foldl (fun b n => match b with
  | none => some n
  | some m => if d.evPri m < d.evPri n then some n else some m) none

/-- A read of FY_EVVEC: its value, the source's PEND cleared. -/
def Dev.evRead (d : Dev) : Dev × W32 :=
  match d.evNext with
  | none => (d, 0x80000000)
  | some n => (d.put ⟨FY_EVPEND + 4 * (n / 32), n % 32, n % 32⟩ 0, BitVec.ofNat 32 (n + d.evPri n * 2 ^ 8))

/-- A write of FY_EVPEND[w]: host-routed sources are cleared. -/
def Dev.evPendClear (d : Dev) (w : Nat) (v : W32) : Dev :=
  d.wr (FY_EVPEND + 4 * w) (d.rd (FY_EVPEND + 4 * w) &&& ~~~(v &&& ~~~(d.rd (FY_EVROUTE + 4 * w))))

/-- Sources whose route is fixed (16 R439). -/
def evFixed (w : Nat) : W32 := if w = 0 then 0xFFFF0000 else if w = 1 then 0x000F0000 else 0

/-- A write of FY_EVROUTE[w]. -/
def Dev.evRoute (d : Dev) (w : Nat) (v : W32) : Dev :=
  d.wr (FY_EVROUTE + 4 * w) ((v &&& ~~~evFixed w) ||| (d.rd (FY_EVROUTE + 4 * w) &&& evFixed w))

/-! ## The core domain (16 R425) -/

/-- The Foyer core domain comes back: alcoves and landings are empty. -/
def Dev.coreUp (d : Dev) : Dev :=
  let d1 := d.updHost fun h => { h with
    coreDown := false, alcoves := [], waiting := [], items := [], packers := [], words := [], ldWait := [] }
  let d2 := (List.range 32).foldl (fun d a => (d.put (alcFull a) 0).put (alc FY_ALCCTL_TIMEOUT a) 0) d1
  (List.range 8).foldl (fun d n => d.ldShow n) d2

/-- HOST_RDY asserted: the core domain is up, and the firmware or the boot ROM's responder serves the port (16 R424). -/
def Dev.hostRdy (d : Dev) : Bool := d.host.portUp && !d.host.coreDown && (d.mod.started || d.mod.romHold)

/-! ## Accesses (16 R421, R422) -/

/-- A completed access: the first code and EMPTY stick; READ leaves its bytes on the lanes. -/
def Dev.accessDone (d : Dev) (code : Nat) (empty : Bool) (data : List Byte) : Dev :=
  let d1 := if code ≠ E_OK ∧ d.get FY_HPSTAT_CODE = 0 then d.put FY_HPSTAT_CODE code else d
  let d2 := if empty then d1.put FY_HPSTAT_EMPTY 1 else d1
  d2.updHost fun h => { h with lastData := data, lastStatus := code + 128 * b2n empty }

/-- STAT (16 R422). -/
def Dev.hpStat (d : Dev) : Dev :=
  let s := d.get FY_HPSTAT_CODE + 128 * d.get FY_HPSTAT_EMPTY
  ((d.put FY_HPSTAT_CODE 0).put FY_HPSTAT_EMPTY 0).updHost fun h => { h with lastData := [], lastStatus := s }

/-! ## FMP carriers (16 R442) -/

/-- A record of the Foyer goes out on a session's transport, with the tag of the request's notice. -/
def Dev.sendRecord (d : Dev) (udp : Bool) (channel tag : Nat) (rec : List Byte) : Dev :=
  if udp then { d with eth := { d.eth with last := rec } }
  else if channel < 4 then d.ldRecord (4 + channel) rec
  else
    (d.updHost fun h => { h with waiting := mset [] h.waiting (channel - 16) (mget [] h.waiting (channel - 16) ++ [(tag, rec)]) }).alcNext
      (channel - 16)

/-- Largest record of a transport; over UDP that of IPv4 unless the module has only an IPv6 address. -/
def Dev.maxRecord (d : Dev) (udp : Bool) (channel : Nat) : Nat :=
  if udp then (if field d.eth.net 0 4 = 0 then 1232 else 1400) else if channel < 4 then 16384 else 32768

/-! ## Meanings -/

/-- A host access: served only while the port answers (16 R420). [log 129 DEDUCED] -/
def Dev.access (d : Dev) (ok : Bool) (g : Dev → Dev) : Dev := d.when (ok && d.host.portUp) g

/-- ALCOVE_TAG_WRITE: the host is the sender of alcoves 0 to 15, the Foyer of 16 to 31 (16 R429). -/
def execAlcoveTagWrite (a tag : Nat) (s : State) : Host.Outcome State Fault Refusal :=
  s.upd fun d =>
    if a < 16 then d.access true fun d => let r := d.alcTag a tag; r.1.accessDone r.2 false []
    else d.when (decide (a < 32)) fun d => (d.alcTag a tag).1

/-- ALCOVE_EMPTY: the Foyer is the receiver of alcoves 0 to 15, the host of 16 to 31 (16 R429, R432). -/
def execAlcoveEmpty (a : Nat) (s : State) : Host.Outcome State Fault Refusal :=
  s.upd fun d =>
    if a < 16 then d.alcEmpty a
    else d.access (decide (a < 32)) fun d => (d.alcEmpty a).accessDone (if d.host.coreDown then E_PD else E_OK) false []

/-- ALCOVE_TIMEOUT (16 R431). -/
def execAlcoveTimeout (a : Nat) (s : State) : Host.Outcome State Fault Refusal :=
  s.upd fun d => d.when (decide (a < 32)) fun d => d.alcTimeout a

/-- ALCOVE_TIMEOUT_CLEAR by the sender (16 R431). -/
def execAlcoveTimeoutClear (a : Nat) (s : State) : Host.Outcome State Fault Refusal :=
  s.upd fun d =>
    if a < 16 then d.access true fun d => (d.alcClear a).accessDone (if d.host.coreDown then E_PD else E_OK) false []
    else d.when (decide (a < 32)) fun d => d.alcClear a

/-- LANDING_DATA_WRITE (16 R434, R435). -/
def execLandingDataWrite (n : Nat) (bytes : List Byte) (s : State) : Host.Outcome State Fault Refusal :=
  s.upd fun d => d.access (decide (n < 8)) fun d => let r := d.ldWrite n bytes; r.1.accessDone r.2 false []

/-- LANDING_EOP_WRITE (16 R434, R435). -/
def execLandingEopWrite (n : Nat) (bytes : List Byte) (s : State) : Host.Outcome State Fault Refusal :=
  s.upd fun d => d.access (decide (n < 8)) fun d => let r := d.ldEop n bytes; r.1.accessDone r.2 false []

/-- LANDING_ABORT (16 R435). -/
def execLandingAbort (n : Nat) (s : State) : Host.Outcome State Fault Refusal :=
  s.upd fun d => d.access (decide (n < 8)) fun d =>
    (d.ldAbort n).accessDone (if d.host.coreDown then E_PD else E_OK) false []

/-- LANDING_DROP: the Foyer's instruction (16 R436). -/
def execLandingDrop (n : Nat) (s : State) : Host.Outcome State Fault Refusal :=
  s.upd fun d => d.when (decide (n < 4) && !d.host.coreDown) fun d => d.ldDrop n

/-- LANDING_READ: one complete read of FY_LDDATA[n], n from 4 to 7 (16 R437). -/
def execLandingRead (n : Nat) (s : State) : Host.Outcome State Fault Refusal :=
  s.upd fun d => d.access (decide (4 ≤ n ∧ n < 8)) fun d =>
    if d.host.coreDown then d.accessDone E_PD false (le 4 0)
    else let r := d.ldPop n; r.1.accessDone E_OK r.2.2 (le 4 r.2.1.toNat)

/-- EVENT_VECTOR_READ (16 R439, R440). -/
def execEventVectorRead (s : State) : Host.Outcome State Fault Refusal :=
  s.upd fun d => d.access true fun d => let r := d.evRead; r.1.accessDone E_OK false (le 4 r.2.toNat)

/-- EVENT_PEND_CLEAR: a write of FY_EVPEND[w] (16 R439). -/
def execEventPendClear (w : Nat) (v : W32) (s : State) : Host.Outcome State Fault Refusal :=
  s.upd fun d => d.access (decide (w < 4)) fun d => (d.evPendClear w v).accessDone E_OK false []

/-- EVENT_RAISE: a block of the Foyer raises an event, under the code that its chapter defines (00 R3, R12; 16 R439; 19 R518). -/
def execEventRaise (ev : Ev) (s : State) : Host.Outcome State Fault Refusal := s.upd fun d => d.when ev.regionOk fun d => d.raiseFy ev

/-- HOST_STAT (16 R422). -/
def execHostStat (s : State) : Host.Outcome State Fault Refusal := s.upd fun d => d.access true Dev.hpStat

/-- HOST_UNKNOWN_COMMAND: no lane is driven (16 R421). -/
def execHostUnknownCommand (s : State) : Host.Outcome State Fault Refusal :=
  s.upd fun d => d.access true fun d =>
    let h := d.host
    ((d.accessDone E_CMD false h.lastData).updHost fun x => { x with lastStatus := h.lastStatus }).inc FY_HPSTAT_CMDERR

end Sys2Proof.Machine
end

