-- ==== Sys2Proof/Machine/Undercroft.lean ====
section
/-! DEFINITION. The Undercroft: key slots, derivation, generations, the persistent key store, wrapped export, random numbers
and attestation (chapter 17). An operation answers the machine, a status and the payload of its reply. -/

namespace Sys2Proof.Machine

/-- What an operation answers: the machine, the status and the payload of the reply. -/
abbrev OpRes := Dev × Nat × List Byte

/-- An operation refused with a code. -/
def opFail (d : Dev) (code : Nat) : OpRes := (d, code, [])

/-- Change the Undercroft. -/
def Dev.updUnd (d : Dev) (g : UnderSt → UnderSt) : Dev := { d with und := g d.und }

/-! ## Derivation (17 R462) -/

/-- Bytes xored with one byte. -/
def xorAll (v : Byte) (bs : List Byte) : List Byte := bs.map fun b => b ^^^ v

/-- HMAC-SHA-256. -/
def hmac (key msg : List Byte) : List Byte :=
  let k := if 64 < key.length then sha256 key else key
  let k' := k ++ List.replicate (64 - k.length) (0 : Byte)
  sha256 (xorAll 0x5C k' ++ sha256 (xorAll 0x36 k' ++ msg))

/-- The blocks of HKDF's expansion, from block i. -/
def hkdfBlocks (prk info : List Byte) : Nat → Nat → List Byte → List Byte
  | 0, _, _ => []
  | n + 1, i, prev =>
    let t := hmac prk (prev ++ info ++ le 1 i)
    t ++ hkdfBlocks prk info n (i + 1) t

/-- HKDF-SHA-256 (RFC 5869). -/
def hkdf (ikm salt info : List Byte) (len : Nat) : List Byte := (hkdfBlocks (hmac salt ikm) info ((len + 31) / 32) 1 []).take len

/-- Order of P-256. -/
def p256Order : Nat := 0xFFFFFFFF00000000FFFFFFFFFFFFFFFFBCE6FAADA7179E84F3B9CAC2FC632551

/-- A big-endian number. -/
def unbe (bs : List Byte) : Nat := unle bs.reverse

/-- Bytes of keying material that a type takes (17 R462). -/
def keyLen (y : Nat) : Nat := if y = 1 then 16 else if y = 4 ∨ y = 5 then 48 else 32

/-- Material of a type from keying bytes: a P-256 scalar for types 4 and 5. -/
def material (y : Nat) (okm : List Byte) : List Byte :=
  if y = 4 ∨ y = 5 then beBytes 32 (unbe okm % (p256Order - 1) + 1) else okm

/-- The ASCII bytes "SVX-DERIVE". -/
def deriveWord : List Byte := [0x53, 0x56, 0x58, 0x2D, 0x44, 0x45, 0x52, 0x49, 0x56, 0x45]

/-- derive of R462. -/
def derive (p : KeyAttr) (s y : Nat) (label : List Byte) : List Byte :=
  material y (hkdf p.key (List.replicate 32 0) (deriveWord ++ le 1 s ++ le 1 y ++ le 4 p.gen ++ label) (keyLen y))

/-! ## Slots (17 R458 to R464) -/

/-- Attributes of an EMPTY slot. -/
def emptyKey : KeyAttr := ⟨0, 0, 0, 0xFF, 0, 0, 0, []⟩

/-- A slot. -/
def Dev.slot (d : Dev) (s : Nat) : KeyAttr := mget emptyKey d.und.slots s

/-- Whether a slot is stale: the parent chain is walked, at most 4 links (17 R464). -/
def Dev.staleIn (d : Dev) : Nat → Nat → Bool
  | 0, _ => false
  | k + 1, s =>
    let a := d.slot s
    if a.typ = 0 ∨ a.parent = 0xFF then false
    else (d.slot a.parent).typ == 0 || (d.slot a.parent).gen != a.pgen || Dev.staleIn d k a.parent

/-- Whether a slot is stale. -/
def Dev.stale (d : Dev) (s : Nat) : Bool := d.staleIn 4 s

/-- Derivation links above a slot (17 R463). -/
def Dev.depthIn (d : Dev) : Nat → Nat → Nat
  | 0, _ => 0
  | k + 1, s => if (d.slot s).parent = 0xFF then 0 else Dev.depthIn d k (d.slot s).parent + 1

/-- Derivation links above a slot. -/
def Dev.depth (d : Dev) (s : Nat) : Nat := d.depthIn 5 s

/-- The first pool slot that is EMPTY (17 R458). -/
def Dev.poolFree (d : Dev) : Nat := (((List.range 16).map (48 + ·)).find? fun s => (d.slot s).typ == 0).getD 48

/-- Flags as R459 shows them, with STALE and PENDING. -/
def Dev.keyFlags (d : Dev) (s : Nat) : Nat :=
  (d.slot s).flags % 32 + 32 * b2n (d.stale s) + 64 * b2n (mhas d.und.pend s)

/-- The attribute record (17 R459). -/
def Dev.attrBytes (d : Dev) (s : Nat) : List Byte :=
  let a := d.slot s
  le 1 a.typ ++ le 1 a.usage ++ le 1 (d.keyFlags s) ++ le 1 a.parent ++ le 4 a.gen ++ le 4 a.pgen ++ le 4 a.ctr

/-- A mask of slots, one bit each. -/
def slotMask (l : List Nat) : Nat := l.foldl (fun m s => m + 2 ^ s) 0

/-- Show stale and pending slots, occupancy and contexts (17 R482). -/
def Dev.ucShow (d : Dev) : Dev :=
  let st := slotMask ((List.range 64).filter d.stale)
  let pe := slotMask ((List.range 64).filter fun s => mhas d.und.pend s)
  let d1 := ((d.wr FY_UCSTALE (word32 st 0)).wr (FY_UCSTALE + 4) (word32 st 1)).wr FY_UCPEND (word32 pe 0)
  ((d1.wr (FY_UCPEND + 4) (word32 pe 1)).put FY_UCSTAT_USED
    ((List.range 64).filter fun s => (d.slot s).typ != 0).length).put FY_UCSTAT_CTX d.und.ctxs.length

/-- Write a slot. -/
def Dev.setSlot (d : Dev) (s : Nat) (a : KeyAttr) : Dev := d.updUnd fun u => { u with slots := mset emptyKey u.slots s a }

/-- What keeps a slot's key from use: EMPTY, stale, or unfit for the type and usage asked (17 R460, R464). -/
def Dev.useCode (d : Dev) (s : Nat) (types : List Nat) (usage : Nat) : Nat :=
  if 63 < s then E_RANGE
  else if (d.slot s).typ = 0 then E_KEY_EMPTY
  else if d.stale s then E_KEY_STALE
  else if !types.contains (d.slot s).typ || !bitOf (d.slot s).usage usage then E_KEY_USAGE else E_OK

/-- What keeps the key operations from a slot: range, vendor and pool slots, the reserved slots 4 to 7, LOCK (17 R458,
R470, R480). -/
def Dev.lockCode (d : Dev) (s : Nat) : Nat :=
  if 63 < s then E_RANGE else if s < 8 ∨ 48 ≤ s ∨ bitOf (d.slot s).flags 2 then E_LOCK else E_OK

/-! ## Random numbers (17 R473, R474) -/

/-- TRNG states of FY_UCSTAT. -/
def trngHealthy : Nat := 1
def trngBad : Nat := 2
def trngFailed : Nat := 3

/-- Whether random bytes can be drawn. -/
def Dev.entropy (d : Dev) : Bool := d.get FY_UCSTAT_TRNG == trngHealthy

/-- n bytes drawn from the DRBG. -/
def Dev.draw (d : Dev) (n : Nat) : Dev × List Byte :=
  (d.updUnd fun u => { u with draws := u.draws + 1, reqs := min (u.reqs + 1) 1024 }, (List.range n).map (Config.drbg d.und.draws))

/-! ## The persistent store (17 R468, R469) -/

/-- Whether the lifecycle is DEBUG (17 R475). -/
def Dev.debug (d : Dev) : Bool := d.get FY_UCSTAT_LIFECYCLE == 3

/-- Counter of a record, 0 where it fails its tag. -/
def recCtr (r : Option KeyAttr) : Nat := match r with
  | some a => a.ctr
  | none => 0

/-- Both records of a slot as they were left. -/
def Dev.keyRec (d : Dev) (s : Nat) : KeyRec := mget ⟨some emptyKey, some emptyKey⟩ d.jnl.keys s

/-- A persistent slot is written: the record with the lower counter is overwritten with the higher counter plus 1. In DEBUG
nothing is written (17 R476). -/
def Dev.persist (d : Dev) (s : Nat) (a : KeyAttr) : Dev × KeyAttr :=
  if d.debug then (d, { a with ctr := 0 })
  else
    let r := d.keyRec s
    let a' := { a with ctr := max (recCtr r.a) (recCtr r.b) + 1 }
    let low := r.a.isNone || (r.b.isSome && decide (recCtr r.a ≤ recCtr r.b))
    let r' : KeyRec := if low then { r with a := some a' } else { r with b := some a' }
    ({ d with jnl := { d.jnl with keys := mput d.jnl.keys s r' } }, a')

/-- A slot takes attributes, through its record where it is persistent. -/
def Dev.store (d : Dev) (s : Nat) (a : KeyAttr) (persistent : Bool) : Dev :=
  if persistent then let r := d.persist s a; r.1.setSlot s r.2 else d.setSlot s { a with ctr := 0 }

/-- A pool slot takes the ephemeral private key of a handshake, of 48 bytes (16 R445, 17 R458). -/
def Dev.poolPut (d : Dev) (s : Nat) (okm : List Byte) : Dev :=
  (d.setSlot s { emptyKey with typ := 5, usage := 0x10, gen := (d.slot s).gen, key := material 5 okm }).ucShow

/-- The ephemeral private key of a handshake is erased (16 R445). -/
def Dev.poolErase (d : Dev) (s : Nat) : Dev := (d.setSlot s { emptyKey with gen := (d.slot s).gen }).ucShow

/-- Stale slots are erased: those that were stale before the commit and are not PENDING, in ascending order; a volatile
commit leaves persistent ones (17 R467, R468). -/
def Dev.eraseStale (d : Dev) (before : List Nat) (volatileOnly : Bool) : Dev :=
  before.foldl (fun d s =>
    let a := d.slot s
    let per := bitOf a.flags 0
    if mhas d.und.pend s || (volatileOnly && per) then d
    else (d.store s { emptyKey with gen := a.gen } per).raiseFy (.mk' .fyKeyStaleErased [s])) d

/-- Slots that are stale. -/
def Dev.staleSlots (d : Dev) : List Nat := (List.range 64).filter d.stale

/-- Vendor slot contents (17 R458, R476). -/
def vendorSlots (debug : Bool) : Map KeyAttr :=
  -- "SVETNYX TEST ROOT 1", "identity"
  let test : List Byte := [0x53, 0x56, 0x45, 0x54, 0x4E, 0x59, 0x58, 0x20, 0x54, 0x45, 0x53, 0x54, 0x20, 0x52, 0x4F, 0x4F, 0x54, 0x20, 0x31]
  let ident : List Byte := [0x69, 0x64, 0x65, 0x6E, 0x74, 0x69, 0x74, 0x79]
  let root : KeyAttr := ⟨2, 0x10, 0x14, 0xFF, 0, 0, 0, if debug then sha256 test else (List.range 32).map Config.deviceRoot⟩
  [(0, root), (1, ⟨4, 0x04, 0x14, 0, 0, 0, 0, derive root 1 4 ident⟩), (2, ⟨5, 0x10, 0x14, 0, 0, 0, 0, derive root 2 5 Config.updateLabel⟩),
    (3, ⟨2, 0x20, 0x14, 0xFF, 0, 0, 0, (List.range 32).map Config.transportKey⟩)]

/-- The records of a slot at a start: `bad` tells which copies fail their tag, bit 0 A and bit 1 B (17 R469). -/
def KeyRec.mount (r : KeyRec) (bad : Nat) : KeyRec :=
  ⟨if bitOf bad 0 then none else r.a, if bitOf bad 1 then none else r.b⟩

/-- The record that is used. -/
def KeyRec.best (r : KeyRec) : KeyAttr := match r.a, r.b with
  | some x, some y => if x.ctr < y.ctr then y else x
  | some x, none => x
  | none, some y => y
  | none, none => emptyKey

/-- Records of a slot that fail. -/
def KeyRec.lost (r : KeyRec) : Nat := b2n r.a.isNone + b2n r.b.isNone

/-- KEY_STORE_MOUNT at a Foyer start (17 R469, R475, R476). -/
def Dev.keyMount (d : Dev) (debug : Bool) (bad : List (Nat × Nat)) : Dev :=
  let torn := bad.foldl (fun m e => mput m e.1 ((mget ⟨some emptyKey, some emptyKey⟩ m e.1).mount e.2)) d.jnl.keys
  let d0 := d.updJnl fun j => { j with keys := if debug then j.keys else torn }
  let d1 := ((d0.put FY_UCSTAT_LIFECYCLE (if debug then 3 else 2)).put FY_UCSTAT_TESTROOT (b2n debug)).updUnd fun u =>
    { u with slots := vendorSlots debug, pend := [], ctxs := [] }
  let d2 := if debug then d1.raiseFy (.mk' .fyLifecycleDebug [((Config.serial % 2 ^ 32 : Nat) : Int)])
    else d1.jnl.keys.foldl (fun d e =>
      let d' := d.setSlot e.1 e.2.best
      if e.2.lost = 0 then d' else d'.raiseFy (.mk' .fyKeyStoreRecover [e.1, e.2.lost])) d1
  (d2.put FY_UCSTAT_KSOK (b2n (debug || d1.jnl.keys.all fun e => e.2.lost == 0))).ucShow

/-! ## Key operations (17 R462 to R471, R480) -/

/-- KEY_INFO (17 R459, R460). [log 101 DESIGN CHOICE] -/
def Dev.keyInfo (d : Dev) (p : List Byte) : OpRes :=
  let s := field p 0 1
  if 63 < s then opFail d E_RANGE
  else
    let a := d.slot s
    if a.typ = 0 then opFail d E_KEY_EMPTY
    else if d.stale s then opFail d E_KEY_STALE
    else (d, E_OK, d.attrBytes s ++ (if a.typ = 4 ∨ a.typ = 5 then (List.range 65).map (Config.publicKey a.key) else []))

/-- The pending value takes material. -/
def Dev.prepared (d : Dev) (ses s : Nat) (a : KeyAttr) : OpRes :=
  ((d.updUnd fun u => { u with pend := mput u.pend s ⟨a, ses⟩ }).ucShow, E_OK, [])

/-- GENERATE (17 R462, R474). -/
def Dev.keyGenerate (d : Dev) (ses s : Nat) (a : KeyAttr) : OpRes :=
  if !d.entropy then opFail d E_ENTROPY
  else let r := d.draw (keyLen a.typ); r.1.prepared ses s { a with key := material a.typ r.2 }

/-- DERIVE (17 R462, R463). -/
def Dev.keyDerive (d : Dev) (ses s parent : Nat) (a : KeyAttr) (label : List Byte) : OpRes :=
  let c := d.useCode parent [2, 3] 4
  if c ≠ E_OK then opFail d c
  else if 4 < d.depth parent + 1 ∨ label.length = 0 ∨ 32 < label.length then opFail d E_RANGE
  else d.prepared ses s { a with parent := parent, pgen := (d.slot parent).gen, key := derive (d.slot parent) s a.typ label }

/-- IMPORT (17 R471). -/
def Dev.keyImport (d : Dev) (ses s wrap : Nat) (a : KeyAttr) (blob : List Byte) : OpRes :=
  let c := d.useCode wrap [2] 5
  if c ≠ E_OK then opFail d c
  else match Config.gcmOpen (d.slot wrap).key blob with
    | none => opFail d E_AUTH
    | some m =>
      if field blob 0 1 ≠ 1 then opFail d E_AUTH
      else if field blob 1 1 ≠ a.typ then opFail d E_KEY_USAGE
      else d.prepared ses s { a with usage := field blob 2 1, flags := field blob 3 1 % 16, key := m }

/-- KEY_PREPARE (17 R462, R468, R470). [log 101 DESIGN CHOICE] -/
def Dev.keyPrepare (d : Dev) (ses : Nat) (p : List Byte) : OpRes :=
  let s := field p 0 1
  let y := field p 1 1
  let c := d.lockCode s
  let other := match mget? d.und.pend s with
    | some q => q.session != ses
    | none => false
  let data := (p.drop 8).take (field p 6 2)
  let a : KeyAttr := { emptyKey with typ := y, usage := field p 2 1 % 128, flags := field p 3 1 % 16 }
  if c ≠ E_OK then opFail d c
  else if other then opFail d E_LOCK
  else if y = 0 ∨ 5 < y ∨ p.length ≠ 8 + field p 6 2 then opFail d E_RANGE
  else match field p 4 1 with
    | 0 => d.keyGenerate ses s a
    | 1 => d.keyDerive ses s (field p 5 1) a data
    | 2 => d.keyImport ses s (field p 5 1) a data
    | _ => opFail d E_RANGE

/-- KEY_COMMIT (17 R464, R467, R468, R470). [log 101 DESIGN CHOICE] -/
def Dev.keyCommit (d : Dev) (ses : Nat) (p : List Byte) : OpRes :=
  let s := field p 0 1
  let c := d.lockCode s
  if c ≠ E_OK then opFail d c
  else if d.arc.warned then opFail d E_PD
  else match mget? d.und.pend s with
    | none => opFail d E_SEQ
    | some q =>
      let gen := (d.slot s).gen
      let per := bitOf q.attr.flags 0
      let ctr := max (recCtr (d.keyRec s).a) (recCtr (d.keyRec s).b)
      if q.session ≠ ses ∨ gen = 0xFFFFFFFF ∨ (per ∧ ctr = 0xFFFFFFFF) then opFail d E_SEQ
      else
        let before := d.staleSlots
        let d1 := (d.store s { q.attr with gen := gen + 1 } per).updUnd fun u => { u with pend := mdel u.pend s }
        let d2 := (d1.raiseFy (.mk' .fyKeyCommit [s, ((gen + 1 : Nat) : Int), ses])).eraseStale (before.filter (· ≠ s)) (!per)
        (d2.ucShow, E_OK, le 4 (gen + 1))

/-- KEY_ABORT (17 R470). -/
def Dev.keyAbort (d : Dev) (ses : Nat) (p : List Byte) : OpRes :=
  let s := field p 0 1
  let c := if 63 < s then E_RANGE else if s < 8 ∨ 48 ≤ s then E_LOCK else E_OK
  if c ≠ E_OK then opFail d c
  else match mget? d.und.pend s with
    | none => opFail d E_SEQ
    | some q => if q.session ≠ ses then opFail d E_SEQ
      else ((d.updUnd fun u => { u with pend := mdel u.pend s }).ucShow, E_OK, [])

/-- KEY_INVALIDATE (17 R464, R465, R467). -/
def Dev.keyInvalidate (d : Dev) (p : List Byte) : OpRes :=
  let s := field p 0 1
  let c := d.lockCode s
  let a := d.slot s
  let per := bitOf a.flags 0
  let ctr := max (recCtr (d.keyRec s).a) (recCtr (d.keyRec s).b)
  if c ≠ E_OK then opFail d c
  else if d.arc.warned then opFail d E_PD
  else if a.typ = 0 then opFail d E_KEY_EMPTY
  else if d.stale s then opFail d E_KEY_STALE
  else if a.gen = 0xFFFFFFFF ∨ (per ∧ ctr = 0xFFFFFFFF) then opFail d E_SEQ
  else
    let before := d.staleSlots
    let d1 := d.store s { emptyKey with gen := a.gen + 1 } per
    let made := (d1.staleSlots.filter fun x => !before.contains x).length
    let d2 := (d1.raiseFy (.mk' .fyKeyInvalidate [s, ((a.gen + 1 : Nat) : Int), made])).eraseStale before false
    (d2.ucShow, E_OK, le 4 (a.gen + 1))

/-- KEY_EXPORT (17 R471). [log 101 DESIGN CHOICE] -/
def Dev.keyExport (d : Dev) (p : List Byte) : OpRes :=
  let s := field p 0 1
  let w := field p 1 1
  let a := d.slot s
  if 63 < s ∨ 63 < w then opFail d E_RANGE
  else if a.typ = 0 then opFail d E_KEY_EMPTY
  else if d.stale s then opFail d E_KEY_STALE
  else if !bitOf a.flags 1 then opFail d E_KEY_USAGE
  else if d.useCode w [2] 5 ≠ E_OK then opFail d (d.useCode w [2] 5)
  else if !d.entropy then opFail d E_ENTROPY
  else
    let r := d.draw 12
    let head := [0x01] ++ le 1 a.typ ++ le 1 a.usage ++ le 1 (a.flags % 32) ++ r.2
    (r.1, E_OK, head ++ (List.range (a.key.length + 16)).map (Config.gcm (d.slot w).key r.2 head a.key))

/-- The close of a session discards its pending values (17 R470). -/
def Dev.keyDiscard (d : Dev) (ses : Nat) : Dev :=
  (d.updUnd fun u => { u with pend := u.pend.filter fun e => e.2.session ≠ ses }).ucShow

/-! ## Streaming contexts (17 R466) -/

/-- A block of a streaming context, which its first block opens; `use` is the usage bit asked, `fin` closes it. -/
def Dev.streamBlock (d : Dev) (ctx slot use len : Nat) (fin : Bool) : Dev × Nat :=
  let close (d : Dev) : Dev := (d.updUnd fun u => { u with ctxs := mdel u.ctxs ctx }).ucShow
  match mget? d.und.ctxs ctx with
  | none =>
    let c := d.useCode slot [1, 2, 3] use
    if c ≠ E_OK then (d, c)
    else if 4096 < len then (d, E_RANGE)
    else if 16 ≤ d.und.ctxs.length then (d, E_BUSY)
    else if fin then (d, E_OK) else ((d.updUnd fun u => { u with ctxs := mput u.ctxs ctx slot }).ucShow, E_OK)
  | some s =>
    if (d.slot s).typ = 0 ∨ d.stale s then (close d, E_KEY_STALE)
    else if 4096 < len then (d, E_RANGE)
    else if fin then (close d, E_OK) else (d, E_OK)

/-! ## TRNG (17 R474) -/

/-- A health test fails: 0 repetition, 1 proportion, 2 start-up. -/
def Dev.trngFail (d : Dev) (test : Nat) : Dev :=
  let n := if test = 2 then min (d.und.fails + 1) 3 else d.und.fails
  let d1 := d.updUnd fun u => { u with fails := n }
  let d2 := if test = 0 then d1.inc FY_UCTRNG_RCT else if test = 1 then d1.inc FY_UCTRNG_APT else d1
  let d3 := if d2.get FY_UCSTAT_TRNG = trngFailed then d2 else d2.put FY_UCSTAT_TRNG (if n = 3 then trngFailed else trngBad)
  d3.raiseFy (.mk' .fyTrngFail [test, n])

/-- The start-up test passes. -/
def Dev.trngOk (d : Dev) : Dev :=
  if d.get FY_UCSTAT_TRNG = trngFailed then d
  else (d.put FY_UCSTAT_TRNG trngHealthy).updUnd fun u => { u with fails := 0, reqs := 0 }

/-! ## The attestation statement (17 R477 to R479) -/

/-- Big-endian bytes that follow a CBOR head, in the shortest form. -/
def cborHead (major n : Nat) : List Byte :=
  if n < 24 then le 1 (major * 32 + n)
  else if n < 2 ^ 8 then le 1 (major * 32 + 24) ++ beBytes 1 n
  else if n < 2 ^ 16 then le 1 (major * 32 + 25) ++ beBytes 2 n
  else if n < 2 ^ 32 then le 1 (major * 32 + 26) ++ beBytes 4 n
  else le 1 (major * 32 + 27) ++ beBytes 8 n

/-- An unsigned integer. -/
def cborUint (n : Nat) : List Byte := cborHead 0 n

/-- A byte string. -/
def cborBytes (bs : List Byte) : List Byte := cborHead 2 bs.length ++ bs

/-- A text string. -/
def cborText (bs : List Byte) : List Byte := cborHead 3 bs.length ++ bs

/-- A boolean. -/
def cborBool (b : Bool) : List Byte := if b then [0xF5] else [0xF4]

/-- An array of encoded items. -/
def cborArray (l : List (List Byte)) : List Byte := cborHead 4 l.length ++ l.flatten

/-- The payload map (17 R478). -/
def Dev.attestPayload (d : Dev) (nonce : List Byte) : List Byte :=
  let vals : List (List Byte) := [
    cborUint (Config.serial % 2 ^ 64), cborText [0x53, 0x58, 0x2D, 0x4A, 0x31, 0x36], cborText [0x30, 0x41],
    cborUint (d.get FY_UCSTAT_LIFECYCLE), cborBool d.debug, cborUint (d.get FY_UCSTAT_TESTROOT), cborBytes nonce,
    cborUint d.nowNs, cborBool (d.bit FY_TBSTAT_TRUST), cborUint (d.get FY_TBSTAT_SOURCE),
    cborArray ((List.range 8).map fun i => cborBytes (le 32 (mget 0 d.mod.meas i))),
    cborUint (d.rd FY_PWRCYC).toNat,
    cborArray ([FY_SPAREBUD0, FY_SPAREBUD1, FY_SPAREBUD2, FY_SPAREBUD3].map fun k => cborUint (d.rd k).toNat),
    cborUint d.mst, cborUint d.opsec, cborArray ((Config.certificates (d.get FY_UCSTAT_LIFECYCLE)).map cborBytes)]
  cborHead 5 16 ++ (List.zip (List.range 16) vals).flatMap fun e => cborUint (e.1 + 1) ++ e.2

/-- The COSE_Sign1 statement (17 R477). -/
def Dev.statement (d : Dev) (nonce : List Byte) : List Byte :=
  let pay := cborBytes (d.attestPayload nonce)
  let prot : List Byte := [0x43, 0xA1, 0x01, 0x26]
  let tbs : List Byte := [0x84, 0x6A, 0x53, 0x69, 0x67, 0x6E, 0x61, 0x74, 0x75, 0x72, 0x65, 0x31] ++ prot ++ [0x40] ++ pay
  [0xD2, 0x84] ++ prot ++ [0xA0] ++ pay ++ cborBytes ((List.range 64).map (Config.sign (d.slot 1).key tbs))

/-- ATTEST (17 R479). -/
def Dev.attest (d : Dev) (ses : Nat) (p : List Byte) : OpRes :=
  let n := field p 0 1
  let sec := d.time.raw / rawPerSec
  let k := if d.und.attSecond = sec then d.und.attests else 0
  if n < 16 ∨ 64 < n ∨ p.length ≠ 1 + n then opFail d E_RANGE
  else if 4 ≤ k then opFail d E_BUSY
  else ((d.updUnd fun u => { u with attSecond := sec, attests := k + 1 }).raiseFy (.mk' .fyAttest [ses, n]), E_OK,
    d.statement (p.drop 1))

/-! ## Meanings -/

/-- STREAM_BLOCK; `ue` is an uncorrectable word that the Undercroft meets, which fails the operation with E_ECC (03 R70; 17 R466). -/
def execStreamBlock (ctx slot use len : Nat) (fin : Bool) (ue : Option (Nat × Nat)) (s : State) : Host.Outcome State Fault Refusal :=
  s.upd fun d =>
    let r := match ue with
      | some p => (d.uncorrected .fy p.1 p.2 (Mem.fy.agentOf 4), E_ECC)
      | none => d.streamBlock ctx slot use len fin
    r.1.updUnd fun u => { u with lastStatus := r.2 }

/-- CONTEXT_IDLE_TIMEOUT (17 R466). -/
def execContextIdleTimeout (ctx : Nat) (s : State) : Host.Outcome State Fault Refusal :=
  s.upd fun d => (d.updUnd fun u => { u with ctxs := mdel u.ctxs ctx }).ucShow

/-- TRNG_HEALTH_FAIL (17 R474). -/
def execTrngHealthFail (test : Nat) (s : State) : Host.Outcome State Fault Refusal :=
  s.upd fun d => d.when (decide (test < 3)) fun d => d.trngFail test

/-- TRNG_STARTUP_DONE (17 R474). -/
def execTrngStartupDone (s : State) : Host.Outcome State Fault Refusal := s.upd Dev.trngOk

/-- DRBG_RESEED (17 R473). -/
def execDrbgReseed (s : State) : Host.Outcome State Fault Refusal :=
  s.upd fun d => d.when d.entropy fun d => d.updUnd fun u => { u with reqs := 0 }

end Sys2Proof.Machine
end

