-- ==== Sys2Proof/Machine/Arcade.lean ====
section
/-! DEFINITION. The Arcade: records, the event landing, the buffer and its flushes, the event partition, reading and
clearing (chapter 19). -/

namespace Sys2Proof.Machine

/-- Change the Arcade. -/
def Dev.updArc (d : Dev) (g : ArcSt → ArcSt) : Dev := { d with arc := g d.arc }

/-! ## The record (19 R513) -/

/-- The counts of R513: one byte for each region code, and the total. -/
def countBytes (l : List Int) : List Byte :=
  ((List.range 8).flatMap fun i => le 1 (min (l.getD i 0).toNat 0xFF)) ++ le 2 (min (l.getD 8 0).toNat 0xFFFF)

/-- Bytes 0 to 29. [log 18 DESIGN CHOICE] -/
def Record.body (r : Record) : List Byte :=
  le 4 r.seq ++ le 5 r.opsec ++ le 4 r.cycles ++ r.ev.head r.counts r.held ++ le 1 r.epoch ++
    (if r.counts then countBytes r.ev.payload else padTo 10 (r.ev.packed.take 10))

/-- The 32 bytes of a record. -/
def Record.bytes (r : Record) : List Byte := r.body ++ le 2 (crc16 r.body)

/-! ## Formation (19 R516, R518 to R520) -/

/-- Capacity of the event partition in records (19 R522). -/
def ringCap : Nat := 131072

/-- Every retained record, oldest first. -/
def Dev.records (d : Dev) : List Record := d.arc.ring ++ d.arc.buffer

/-- Show the oldest retained sequence and the occupancies (19 R527). -/
def Dev.arcShow (d : Dev) : Dev :=
  (d.wr FY_ARCOLD (match d.records.head? with
    | some r => BitVec.ofNat 32 r.seq
    | none => d.rd FY_ARCNEXT)).arcStat

/-- The record epoch rises by 1 and wraps (19 R516). -/
def Dev.nextEpoch (d : Dev) : Dev :=
  let e := (d.get FY_ARCEPOCH_EPOCH + 1) % 65536
  (d.put FY_ARCEPOCH_EPOCH e).updJnl fun j => { j with epoch := e }

/-- One record is formed and enters the buffer; a buffer of 512 records or a record of severity 2 or 3 starts a flush (19
R518, R520). -/
def Dev.formRecord (d : Dev) (e : LandEntry) : Dev :=
  let q := (d.rd FY_ARCNEXT).toNat
  let r : Record := ⟨q, d.opsec, (d.rd FY_PWRCYC).toNat, d.get FY_ARCEPOCH_EPOCH, e.ev, e.counts, e.held, false⟩
  let d1 := (d.updArc fun a => { a with buffer := a.buffer ++ [r] }).wr FY_ARCNEXT (BitVec.ofNat 32 (q + 1))
  let d2 := if q + 1 = 2 ^ 32 then d1.nextEpoch.raiseFy (.mk' .fyArcRing [2]) else d1
  (if 512 ≤ d2.arc.buffer.length ∨ 2 ≤ e.ev.severity then d2.put FY_ARCSTAT_FLUSHING 1 else d2).arcShow

/-- The record of a suppression period (19 R513, R519). [log 98 DESIGN CHOICE] -/
def Dev.overflowEntry (d : Dev) : LandEntry :=
  let n (r : Nat) : Int := ((mget (0 : Nat) d.arc.period r : Nat) : Int)
  let l := (List.range 8).map n
  ⟨.mk' .fyArcOverflow (l ++ [l.foldl (· + ·) 0]), true, false⟩

/-- The suppression period ends, and its counts restart. -/
def Dev.suppEnds (d : Dev) : Dev :=
  ((d.pend [120]).updArc fun a => { a with period := [] }).put FY_ARCSTAT_SUPPRESSING 0

/-- A landing entry that has become free goes to the record of the suppression period (19 R519). [log 98 DESIGN CHOICE] -/
def Dev.freeEntry (d : Dev) : Dev :=
  if d.bit FY_ARCSTAT_SUPPRESSING && decide (d.arc.landing.length < arcCap) && !d.arc.warned then
    (d.suppEnds.updArc fun a => { a with landing := a.landing ++ [d.overflowEntry] }).arcStat
  else d

/-- The front entry of the landing becomes a record while the buffer has room (19 R518). -/
def Dev.formFront (d : Dev) : Dev :=
  match d.arc.landing with
  | [] => d
  | e :: t => if d.arc.buffer.length < arcCap then ((d.updArc fun a => { a with landing := t }).formRecord e).freeEntry else d

/-! ## Flushing (19 R520 to R522) -/

/-- Events of the ring's overwriting when `n` more records have been overwritten. -/
def ringEvents (before n : Nat) : List Nat :=
  (if before = 0 ∧ 0 < n then [0] else []) ++ List.replicate ((before + n) / 16384 - before / 16384) 1

/-- The first n buffered records are written to the partition; the oldest are overwritten when it is full (19 R520, R522). -/
def Dev.writeRing (d : Dev) (n : Nat) : Dev :=
  let all := d.arc.ring ++ d.arc.buffer.take n
  let lost := all.length - ringCap
  let evs := ringEvents d.arc.overwritten lost
  let d1 := d.updArc fun a => { a with
    ring := all.drop lost, buffer := a.buffer.drop n, overwritten := a.overwritten + lost }
  (evs.foldl (fun (d : Dev) c => d.raiseFy (.mk' .fyArcRing [c])) d1).arcShow

/-- Records from the front up to the one with a sequence. -/
def upToSeq (q : Nat) : List Record → Nat
  | [] => 0
  | r :: t => if r.seq = q then 1 else upToSeq q t + 1

/-- The fifth clear record is in the partition: the cleared range becomes unreadable and its space is free (19 R525). [log 99 DESIGN CHOICE] -/
def Dev.clearDone (d : Dev) : Dev :=
  match d.arc.clearing with
  | none => d
  | some c =>
    if d.arc.ring.any fun r => r.seq == c.upto then
      let d1 := (d.updArc fun a => { a with ring := a.ring.drop (upToSeq c.last a.ring), clearing := none }).inc FY_ARCEPOCH_CLEARS
      (d1.updJnl fun j => { j with clears := d1.get FY_ARCEPOCH_CLEARS }).arcShow
    else d

/-- A flush ends with the buffer empty (19 R520). -/
def Dev.flushDone (d : Dev) : Dev :=
  ((d.writeRing d.arc.buffer.length).clearDone.put FY_ARCSTAT_FLUSHING 0).updArc fun a => { a with lastFlush := d.time.raw }

/-- Every landing entry is formed, whatever room the buffer has: the flush of R60 empties both (19 R521). -/
def Dev.formAll : Nat → Dev → Dev
  | 0, d => d
  | k + 1, d => match d.arc.landing with
    | [] => d
    | e :: t => Dev.formAll k ((d.updArc fun a => { a with landing := t }).formRecord e)

/-- The power-warning flush: the landing, the counts since the edge as one OVERFLOW record, and EV_FY_PWRWARN_FLUSH, all
into the partition (02 R60, 19 R521). [log 100 DEDUCED] -/
def Dev.arcPowerFlush (d : Dev) : Dev :=
  let d1 := Dev.formAll arcCap d
  let d2 := if d1.bit FY_ARCSTAT_SUPPRESSING then d1.suppEnds.formRecord d1.overflowEntry else d1
  ((d2.pend (Ev.mk' .fyPwrwarnFlush []).sources).formRecord ⟨.mk' .fyPwrwarnFlush [], false, false⟩).flushDone

/-- A loss of power during a flush: the records written stand, the one in writing may be torn, and landing and buffer are
lost (19 R522). -/
def Dev.arcPowerLost (d : Dev) (written : Nat) (torn : Bool) : Dev :=
  let n := if d.bit FY_ARCSTAT_FLUSHING then written else 0
  let part := if torn && d.bit FY_ARCSTAT_FLUSHING then
      ((d.arc.buffer.drop n).take 1).map fun r => { r with torn := true } else []
  d.updArc fun a => { ArcSt.empty with ring := (a.ring ++ a.buffer.take n ++ part).drop ((a.ring ++ a.buffer.take n ++ part).length - ringCap) }

/-! ## Mounting (19 R522, R525) -/

/-- The records of the last clear in a partition, from its EV_FY_ARC_CLEARED on, none where a start has reported it. -/
def lastClear : List Record → Option (List Record)
  | [] => none
  | r :: t => match lastClear t with
    | some l => some l
    | none => if r.ev.id = EvId.fyArcCleared ∧ t.all (fun x => decide (x.ev.id ≠ EvId.fyArcClearIncomplete)) then some (r :: t) else none

/-- Clear records found after the EV_FY_ARC_CLEARED, itself counted. -/
def clearCount (l : List Record) : Nat := (l.filter fun r => decide (r.ev.id = EvId.fyArcCleared ∨ r.ev.id = EvId.fyArcClearedHash)).length

/-- The clear that the partition shows: completed where its five records are there, reported where fewer are. [log 99 DESIGN CHOICE] -/
def Dev.mountClear (d : Dev) : Dev :=
  match lastClear d.arc.ring with
  | none => d
  | some l =>
    let r := l.headD ⟨0, 0, 0, 0, .mk' .fyArcCleared [], false, false, false⟩
    let first := (r.ev.payload.getD 1 0).toNat
    let count := (r.ev.payload.getD 0 0).toNat
    if 5 ≤ clearCount l then
      let upto := ((l.getD 4 r).seq)
      if d.arc.ring.any fun x => x.seq == first then
        (d.updArc fun a => { a with clearing := some ⟨first, (first + count - 1) % 2 ^ 32, upto⟩ }).clearDone
      else d
    else d.raiseFy (.mk' .fyArcClearIncomplete [first, clearCount l])

/-- The Foyer mounts the partition at its start (19 R516, R522, R525). [log 100 DEDUCED] -/
def Dev.arcMount (d : Dev) : Dev :=
  let torn := (d.arc.ring.filter (·.torn)).length
  let good := d.arc.ring.filter fun r => !r.torn
  let last := good.getLast?
  let d1 := ((d.updArc fun a => { a with ring := good }).put FY_ARCSTAT_TORN (min torn 0xFF)).put FY_ARCEPOCH_EPOCH d.jnl.epoch
  let d2 := (d1.put FY_ARCEPOCH_CLEARS d.jnl.clears).wr FY_ARCNEXT (match last with
    | some r => BitVec.ofNat 32 (r.seq + 1)
    | none => 0)
  let d3 := if torn = 0 then d2 else d2.raiseFy (.mk' .fyArcTorn [torn])
  let d4 := match last with
    | some r => if r.ev.id = EvId.fyPwrwarnFlush then d3 else d3.raiseFy (.mk' .fyArcUnclean [r.seq])
    | none => d3
  d4.mountClear.arcShow

/-! ## Reading (19 R523, 05 R138) -/

/-- How far a sequence lies behind another, modulo 2^32. -/
def seqFrom (base q : Nat) : Nat := (q + 2 ^ 32 - base % 2 ^ 32) % 2 ^ 32

/-- Whether a session of a role sees a record: suite sessions see the records tagged with their suite (05 R132, R138). -/
def Record.visible (r : Record) (role suite : Nat) : Bool := role == 1 || role == 2 || r.ev.suite == some suite

/-- ARCADE_READ (19 R523). -/
def Dev.arcadeRead (d : Dev) (role suite : Nat) (p : List Byte) : OpRes :=
  let first := field p 0 4
  let n := field p 4 2
  if p.length ≠ 8 ∨ n = 0 ∨ 512 < n then opFail d E_RANGE
  else
    let old := (d.rd FY_ARCOLD).toNat
    let start := if seqFrom old first < 2 ^ 31 then seqFrom old first else 0
    let seen := (d.records.filter fun r => decide (start ≤ seqFrom old r.seq)).filter fun r => r.visible role suite
    let out := seen.take n
    let next := if seen.length ≤ n then (d.rd FY_ARCNEXT).toNat else (out.getLast?.map fun r => (r.seq + 1) % 2 ^ 32).getD 0
    (d, E_OK, le 2 (d.get FY_ARCEPOCH_EPOCH) ++ le 2 out.length ++ le 4 next ++ le 4 old ++ out.flatMap Record.bytes)

/-! ## Clearing (19 R523 to R525) -/

/-- A nonce is drawn for a session, in place of an earlier one. -/
def Dev.arcadeNonce (d : Dev) (ses : Nat) : OpRes :=
  if !d.entropy then opFail d E_ENTROPY
  else
    let r := d.draw 16
    (r.1.updArc fun a => { a with nonces := (a.nonces.filter fun x => x.1 ≠ ses) ++ [(ses, r.2, d.time.raw)] }, E_OK, r.2)

/-- Whether a session has a nonce that is neither spent nor 60 s old. -/
def Dev.nonceOk (d : Dev) (ses : Nat) : Bool :=
  d.arc.nonces.any fun x => x.1 == ses && decide (d.time.raw < x.2.2 + 60 * rawPerSec)

/-- The five records of a clear (19 R525). -/
def clearEntries (count first epoch : Nat) (hash : List Byte) : List LandEntry :=
  let ev (i : EvId) (p : List Int) : LandEntry := ⟨.mk' i p, false, false⟩
  ev .fyArcCleared [count, first, epoch] :: (List.range 4).map fun (k : Nat) =>
    ev .fyArcClearedHash (((k : Nat) : Int) :: ((hash.drop (8 * k)).take 8).map fun b => (b.toNat : Int))

/-- ARCADE_CLEAR action 1: `sigOk` is the check of the signature under the operator audit key. [log 99 DESIGN CHOICE] -/
def Dev.arcadeClear (d : Dev) (ses : Nat) (p : List Byte) (sigOk : Bool) : OpRes :=
  let first := field p 4 4
  let last := field p 8 4
  let old := (d.rd FY_ARCOLD).toNat
  let span := seqFrom first last
  let have_ := seqFrom old (d.rd FY_ARCNEXT).toNat
  if p.length ≠ 76 then opFail d E_RANGE
  else if d.mod.cfg.auditKey.isNone then opFail d E_AUTH
  else if !d.nonceOk ses then opFail d E_SEQ
  else if !sigOk then opFail d E_AUTH
  else if first ≠ old ∨ have_ ≤ span ∨ d.arc.clearing.isSome then opFail d E_RANGE
  else
    let d1 := ((d.updArc fun a => { a with nonces := a.nonces.filter fun x => x.1 ≠ ses }).writeRing d.arc.buffer.length).nextEpoch
    let hash := sha256 ((d1.arc.ring.take (upToSeq last d1.arc.ring)).flatMap Record.bytes)
    let epoch := d1.get FY_ARCEPOCH_EPOCH
    let d2 := (clearEntries (span + 1) first epoch hash).foldl (fun (d : Dev) e => (d.pend e.ev.sources).formRecord e) d1
    let upto := seqFrom 1 (d2.rd FY_ARCNEXT).toNat
    ((d2.updArc fun a => { a with clearing := some ⟨first, last, upto⟩ }).put FY_ARCSTAT_FLUSHING 1, E_OK, le 2 epoch)

/-! ## Meanings -/

/-- ARCADE_RECORD_FORM (19 R518). -/
def execArcadeRecordForm (s : State) : Host.Outcome State Fault Refusal :=
  s.upd fun d => d.when d.mod.started Dev.formFront

/-- ARCADE_FLUSH_TIMER (19 R520). -/
def execArcadeFlushTimer (s : State) : Host.Outcome State Fault Refusal :=
  s.upd fun d => d.when (!d.arc.buffer.isEmpty) fun d => d.put FY_ARCSTAT_FLUSHING 1

/-- ARCADE_FLUSH_DONE (19 R520, R522, R525). -/
def execArcadeFlushDone (s : State) : Host.Outcome State Fault Refusal :=
  s.upd fun d => d.when (d.bit FY_ARCSTAT_FLUSHING) Dev.flushDone

end Sys2Proof.Machine
end

