-- ==== Sys2Proof/Machine/Image.lean ====
section
/-! DEFINITION. The configuration image and the KZL program image as bytes: sections, records, the configuration that they
make, and the registers that they load (20 R537 to R547; 09 R230 to R232; 10 R267, R270 to R272). -/

namespace Sys2Proof.Machine

/-! ## Header, section table and records (20 R537, R538) -/

/-- One record of a section. -/
abbrev Rec := List Byte

/-- The sections of R538: id, record size, fewest and most records, whether it is required, whether a change needs a
restart. -/
def secTable : List (Nat × Nat × Nat × Nat × Bool × Bool) := [
  (0x01, 64, 1, 1, true, true), (0x02, 12, 0, 8192, false, true), (0x03, 12, 0, 1024, false, false),
  (0x10, 20, 1, 65536, true, false), (0x11, 32, 1, 256, true, false), (0x20, 16, 20480, 20480, false, true),
  (0x21, 16, 1, 65536, false, true), (0x22, 16, 0, 4096, false, true), (0x23, 16, 0, 16384, false, false),
  (0x30, 32, 0, 256, false, false), (0x31, 4, 0, 255, false, false), (0x32, 8, 0, 4096, false, false),
  (0x33, 8, 0, 1024, false, false), (0x34, 5848, 0, 4, false, false), (0x35, 384, 0, 1, false, false),
  (0x40, 16, 0, 256, false, false), (0x41, 2052, 0, 8, false, false), (0x42, 8, 0, 260, false, false),
  (0x43, 8, 0, 4096, false, true), (0x50, 16, 0, 8, false, true), (0x51, 16, 0, 8, false, true),
  (0x52, 32, 0, 20480, false, true), (0x53, 8, 0, 65536, false, true), (0x54, 12, 0, 20481, false, false),
  (0x60, 96, 0, 512, false, true), (0x61, 12, 0, 65536, false, true), (0x62, 8, 0, 768, false, true),
  (0x63, 16, 0, 16386, false, true), (0x70, 48, 1, 1, true, false), (0x80, 80, 1, 262, true, true),
  (0x81, 176, 1, 1, true, true)]

/-- Row of a section id. -/
def secRow (id : Nat) : Option (Nat × Nat × Nat × Nat × Bool × Bool) := secTable.find? (·.1 == id)

/-- Record size of a section. -/
def secSize (id : Nat) : Nat := match secRow id with
  | some r => r.2.1
  | none => 1

/-- Whether a section is marked restart. -/
def secRestart (id : Nat) : Bool := match secRow id with
  | some r => r.2.2.2.2.2
  | none => true

/-- Entry of the section table: id, record size, offset, length, version, and the two reserved bytes. -/
def secEntry (bs : List Byte) (i : Nat) : Nat × Nat × Nat × Nat × Nat × Nat :=
  let o := 64 + 16 * i
  (field bs o 2, field bs (o + 2) 2, field bs (o + 4) 4, field bs (o + 8) 4, field bs (o + 12) 2, field bs (o + 14) 2)

/-- The section table. [log 94 DESIGN CHOICE] -/
def secEntries (bs : List Byte) : List (Nat × Nat × Nat × Nat × Nat × Nat) :=
  (List.range (field bs 6 2)).map (secEntry bs)

/-- Bytes cut into records of n bytes. -/
def cutRecords (n : Nat) (bs : List Byte) : List Rec := (List.range (bs.length / n)).map fun i => (bs.drop (n * i)).take n

/-- The sections of an image with their records. -/
def imgSections (bs : List Byte) : List (Nat × List Rec) :=
  (secEntries bs).map fun e => (e.1, cutRecords (max 1 e.2.1) ((bs.drop e.2.2.1).take e.2.2.2.1))

/-- Records of a section, none where it is absent. -/
def recsOf (s : List (Nat × List Rec)) (id : Nat) : List Rec := match s.find? (·.1 == id) with
  | some e => e.2
  | none => []

/-- Records with their index. -/
def numbered {α : Type} (l : List α) : List (Nat × α) := List.zip (List.range l.length) l

/-- A byte, a halfword and a word of a record; halfwords and words as signed numbers; a bit. -/
def Rec.b (r : Rec) (o : Nat) : Nat := field r o 1
def Rec.h (r : Rec) (o : Nat) : Nat := field r o 2
def Rec.w (r : Rec) (o : Nat) : Nat := field r o 4
def Rec.sh (r : Rec) (o : Nat) : Int := signed 16 (field r o 2)
def Rec.sw (r : Rec) (o : Nat) : Int := signed 32 (field r o 4)
def Rec.bit (r : Rec) (o n : Nat) : Bool := bitOf (field r o 1) n

/-- A number when its presence flag is set. -/
def whenSet (c : Bool) (n : Nat) : Option Nat := if c then some n else none

/-! ## The graph and its injection points (09 R230 to R232; 20 R542) -/

/-- Node record, with the LP_PARAMS record of its light point (09 R230, 20 R542). -/
def nodeOf (r : Rec) (lp : Option Rec) : Node :=
  let n : Node := { Node.zero with
    first := r.h 0, count := r.b 2, used := r.bit 3 0
    level := whenSet (r.bit 3 1) (r.h 4), base := whenSet (r.bit 3 2) (r.h 6), gate := whenSet (r.bit 3 3) (r.h 8)
    min := r.h 10, max := r.h 12, kind := r.b 14 }
  match lp with
  | none => n
  | some p => { n with min := p.h 2, max := p.h 4, pw := p.h 6, ept := whenSet (p.bit 11 0) (p.h 8), curve := p.b 10 % 16 }

/-- Edge record (09 R231). -/
def edgeOf (r : Rec) : Edge :=
  ⟨r.h 0, r.h 2, r.h 4, r.h 6, r.b 8, r.bit 9 0, r.bit 9 1, whenSet (r.bit 9 2) (r.h 10)⟩

/-- Injection-point record (09 R232). -/
def injOf (r : Rec) : Injection :=
  { node := r.h 0, trigger := r.h 2, aux := whenSet (r.bit 7 2) (r.h 4), cls := r.b 6 % 4, mask := r.b 6 / 16
    noMatch := r.bit 7 0, noradio := r.bit 7 1
    dirs := (List.range 4).map fun i => whenSet (r.bit 7 (3 + i)) (r.h (8 + 2 * i)) }

/-! ## Schedules (10 R267, R270 to R272; 20 R542) -/

/-- Schedule record (10 R270). -/
def schedOf (r : Rec) : SchedRec :=
  { output := r.h 0, firing := whenSet (r.bit 6 1) (r.h 2), photo := whenSet (r.bit 6 2) (r.h 4)
    week := (List.range 7).map fun i => r.b (8 + i), dark := r.sw 16, light := r.sw 20, delay := r.h 24, window := r.h 26
    untrusted := BitVec.ofNat 32 (r.w 28) }

/-- Switching entry (10 R270). -/
def switchOf (r : Rec) : SwitchEntry :=
  ⟨r.b 0, r.b 1, if r.b 0 = 0 then ((r.h 2 : Nat) : Int) else r.sh 2, BitVec.ofNat 32 (r.w 4)⟩

/-- Calendar exception (10 R271). -/
def excOf (r : Rec) : SchedException := ⟨r.b 0, r.b 1, r.b 2, r.bit 3 0, r.h 4, r.h 6⟩

/-- Transition of a daylight rule (10 R267). -/
def transOf (r : Rec) (o : Nat) : TransitionRule := ⟨r.b o, r.b (o + 1), r.b (o + 2), r.h (o + 3)⟩

/-- Pairs of a u64 instant and an s16 value; entries of zeros are unused (10 R267). -/
def timePairs (r : Rec) (o n : Nat) : List (Nat × Int) :=
  ((List.range n).map fun i => (field r (o + 10 * i) 8, r.sh (o + 10 * i + 8))).filter fun e => e.1 ≠ 0 || e.2 ≠ 0

/-- TIMEZONE record (20 R542). -/
def zoneOf (r : Rec) : TimeZone :=
  { taiutc := r.sh 0, leap := timePairs r 2 4, std := r.sh 42, mode := r.b 44, delta := ((r.b 45 : Nat) : Int)
    start := transOf r 46, stop := transOf r 51, list := timePairs r 64 32 }

/-- Entries of an ANCHORS record (10 R272). -/
def anchorOf (r : Rec) : List (Nat × Nat) := (List.range 1461).map fun i => (r.h (4 + 4 * i), r.h (6 + 4 * i))

/-! ## Field records (20 R541, R543 to R547) -/

/-- POINTS record (20 R541). -/
def pointOf (r : Rec) : PointCfg :=
  ⟨r.b 2, r.b 3, BitVec.ofNat 16 (r.h 4), r.h 6, BitVec.ofNat 32 (r.w 8), BitVec.ofNat 32 (r.w 12), r.b 16⟩

/-- CHANNELS record (20 R543). -/
def chanOf (r : Rec) : ChanBind := ⟨r.h 2, r.h 4, r.bit 1 1, whenSet (r.bit 1 2) (r.h 8), r.h 10⟩

/-- Index of the cell that a MATRIX_CELLS record binds (20 R543, 11 R307). -/
def cellIx (r : Rec) : Nat := r.b 0 * 1024 + r.b 1 * 64 + r.b 2

/-- NODES record (20 R544). -/
def nodeCfgOf (r : Rec) : NodeCfg :=
  { eui := field r 0 8, addr := r.h 8, chain := r.b 10, member := r.b 11, slot := r.h 12, sleepy := decide (r.b 18 = 1)
    tcheck := 250000000 * 2 ^ r.b 19, report := r.h 20
    relays := ((List.range 3).map fun i => r.h (22 + 2 * i)).filter (· ≠ 0xFFFF)
    group := whenSet (decide (r.h 28 ≠ 0xFFFF)) (r.h 28), home := whenSet (decide (r.b 30 ≠ 0xFF)) (r.b 30)
    altChain := r.b 14, altChannel := r.b 15, altSeg := r.h 16 }

/-- STATIONS record (20 R545). -/
def stationOf (r : Rec) : StationCfg := ⟨r.h 4, r.h 6, r.b 8, r.b 9, r.h 10, field r 12 8, (r.drop 20).take 64⟩

/-- STATION_POINTS record (20 R545). -/
def stationPtOf (r : Rec) : StationPoint := ⟨r.h 0, decide (r.b 2 = 1), r.b 3, r.b 4, r.b 5, r.h 6⟩

/-- DALI record (20 R545). -/
def daliOf (r : Rec) : DaliBind := ⟨r.b 0, r.b 1, r.b 2, r.h 4⟩

/-- CLIENT record (20 R547). -/
def clientOf (r : Rec) : KeyClient := ⟨r.b 1, r.b 2, r.bit 3 0, (r.drop 8).take 65⟩

/-! ## The KZL program image (20 R546) -/

/-- Records of the tasks. -/
def kzTasks (kz : List Byte) : List Rec := cutRecords 48 ((kz.drop 32).take (48 * field kz 10 2))

/-- Block records: first word and word count. -/
def kzBlocks (kz : List Byte) : List (Nat × Nat) :=
  (cutRecords 8 ((kz.drop (32 + 48 * field kz 10 2)).take (8 * field kz 8 2))).map fun r => (r.w 0, r.w 4)

/-- Code words. -/
def kzCode (kz : List Byte) : List W32 :=
  (cutRecords 4 ((kz.drop (32 + 48 * field kz 10 2 + 8 * field kz 8 2)).take (4 * field kz 12 4))).map fun r =>
    BitVec.ofNat 32 (r.w 0)

/-- Length that the header of the image states. -/
def kzLength (kz : List Byte) : Nat := 32 + 48 * field kz 10 2 + 8 * field kz 8 2 + 4 * field kz 12 4

/-- Task record (20 R546, 05 R137). -/
def taskOf (r : Rec) : TaskRec := ⟨r.h 8, BitVec.ofNat 256 (unle ((r.drop 16).take 32))⟩

/-! ## Registers that the images load (20 R540, R543 to R546) -/

/-- Bits of a register that hold at least one kind of access, as a mask. -/
def fieldMask (fs : List (Nat × Nat × Acc)) (sel : Acc → Bool) : Nat :=
  fs.foldl (fun m x => if sel x.2.2 then m ||| (2 ^ (x.1 + 1) - 2 ^ x.2.1) else m) 0

/-- Bits of a register that are of access RW or RWL; FY_ALCCTL's TMO of alcoves 16 to 31 comes from the configuration
(16 R456). -/
def rwMask (key : Nat) : Nat :=
  let own := match regRow key with
    | some r => fieldMask r.fields fun a => a == .rw || a == .rwl
    | none => 0
  if FY_ALCCTL + 256 ≤ key ∧ key < FY_ALCCTL + 512 ∧ (key - FY_ALCCTL) % 16 = 0 then own ||| 0x3FF else own

/-- Whether a key lies in an array of n registers. -/
def inRegs (key base n : Nat) : Bool := decide (base ≤ key ∧ key < base + 4 * n)

/-- Bits of a register that a section of R538 loads (20 R540). -/
def sectionMask (key : Nat) : Nat :=
  if inRegs key GL_CHCFG 256 then 0xF1
  else if inRegs key GL_CURVE 4096 || inRegs key GL_CHFS 256 || inRegs key GL_MXFS 4 then 0xFFFFFFFF
  else if inRegs key LG_CHCFG 8 || inRegs key LG_CHPLAN 8 || inRegs key FL_CHROLE 8 then 0xFFFFFFFF
  else if inRegs key LG_BANDLO 8 || inRegs key LG_BANDHI 8 || inRegs key LG_BANDLIM 8 then 0xFFFFFFFF
  else if inRegs key GL_STSTATE 512 then 8
  else if inRegs key FL_TASKCFG 64 || inRegs key FL_TASKBUD 64 || inRegs key FL_TASKEN0 2 || inRegs key FL_SCHEDEN 8 then 0xFFFFFFFF
  else 0

/-- Key of a register record. -/
def regKeyOf (r : Rec) : Nat := r.b 0 * 2 ^ 24 + r.w 4

/-- Set bits of a register in a map of loaded values. -/
def loadBits (m : Map W32) (key mask v : Nat) : Map W32 :=
  let old := (mget (regReset key) m key).toNat
  mput m key (BitVec.ofNat 32 (old - (old &&& mask) + (v &&& mask)))

/-- Set a field in a map of loaded values. -/
def loadFld (m : Map W32) (x : Fld) (v : Nat) : Map W32 := loadBits m x.key (2 ^ (x.hi + 1) - 2 ^ x.lo) (v * 2 ^ x.lo)

/-- REGS_FIXED. [log 93 DESIGN CHOICE] -/
def loadFixed (s : List (Nat × List Rec)) (m : Map W32) : Map W32 :=
  (recsOf s 0x02).foldl (fun m r => loadBits m (regKeyOf r) (rwMask (regKeyOf r) - (rwMask (regKeyOf r) &&& sectionMask (regKeyOf r))) (r.w 8)) m

/-- CHANNELS, CURVES and FAILSAFE (20 R538, R543). -/
def loadDrive (s : List (Nat × List Rec)) (m : Map W32) : Map W32 :=
  let m1 := (recsOf s 0x40).foldl (fun m r =>
    loadFld (loadFld (loadFld m (GL_CHCFG_EN.ix (r.b 0)) (b2n (r.bit 1 0))) (GL_CHCFG_CURVE.ix (r.b 0)) (r.b 6 % 8))
      (GL_CHCFG_BYPASS.ix (r.b 0)) (r.b 6 / 8 % 2)) m
  let m2 := (recsOf s 0x41).foldl (fun m r => (List.range 512).foldl (fun m i =>
    loadBits m (GL_CURVE + 4 * (512 * r.b 0 + i)) 0xFFFFFFFF (r.w (4 + 4 * i))) m) m1
  (recsOf s 0x42).foldl (fun m r =>
    let lv := if r.h 0 < 256 then GL_CHFS_LEVEL.ix (r.h 0) else GL_MXFS_LEVEL.ix (r.h 0 - 256)
    let fd := if r.h 0 < 256 then GL_CHFS_FADE.ix (r.h 0) else GL_MXFS_FADE.ix (r.h 0 - 256)
    loadFld (loadFld m lv (r.h 2)) fd (r.h 4)) m2

/-- RADIO and BANDS (20 R544). -/
def loadRadio (s : List (Nat × List Rec)) (m : Map W32) : Map W32 :=
  let m1 := (recsOf s 0x50).foldl (fun m r =>
    let n := r.b 0
    let a := loadFld (loadFld (loadFld m (LG_CHCFG_EN.ix n) (b2n (r.bit 1 0))) (LG_CHCFG_RXONLY.ix n) (b2n (r.bit 1 1)))
      (LG_CHCFG_BAND.ix n) (r.b 2)
    let b := loadFld (loadFld (loadFld a (LG_CHCFG_RATE.ix n) (r.b 3)) (LG_CHCFG_CHAN.ix n) (r.b 4)) (LG_CHCFG_POWER.ix n) (r.b 5)
    let c := loadFld (loadFld (loadFld b (FL_CHROLE_ROLE.ix n) (r.b 6)) (FL_CHROLE_OFFSET.ix n) (r.b 7)) (FL_CHROLE_PARTNER.ix n) (r.b 8)
    loadFld (loadFld (loadFld c (LG_CHPLAN_SPACING.ix n) (r.b 9)) (LG_CHPLAN_COUNT.ix n) (r.b 10)) (LG_CHPLAN_BASE.ix n) (r.w 12)) m
  (recsOf s 0x51).foldl (fun m r =>
    let n := r.b 0
    let a := loadFld (loadFld m (LG_BANDLO_FREQ.ix n) (r.w 8)) (LG_BANDHI_FREQ.ix n) (r.w 12)
    loadFld (loadFld (loadFld (loadFld a (LG_BANDLIM_VALID.ix n) (b2n (r.bit 1 0))) (LG_BANDLIM_HOP.ix n) (b2n (r.bit 1 1)))
      (LG_BANDLIM_PMAX.ix n) (r.b 2)) (LG_BANDLIM_DUTY.ix n) (r.h 4)) m1

/-- SCHEDULES, STATIONS and the task records (10 R270; 20 R545, R546). -/
def loadEnables (s : List (Nat × List Rec)) (kz : List Byte) (m : Map W32) : Map W32 :=
  let m1 := (numbered (recsOf s 0x30)).foldl (fun m e =>
    loadBits m (FL_SCHEDEN + 4 * (e.1 / 32)) (2 ^ (e.1 % 32)) (if e.2.bit 6 0 then 2 ^ (e.1 % 32) else 0)) m
  let m2 := (recsOf s 0x60).foldl (fun m r => loadFld m (GL_STSTATE_EN.ix (r.h 0)) (b2n (r.bit 2 0))) m1
  (kzTasks kz).foldl (fun m r =>
    let n := r.b 0
    let a := loadFld (loadFld (loadFld m (FL_TASKCFG_KIND.ix n) (r.b 1)) (FL_TASKCFG_LEVEL.ix n) (r.b 2)) (FL_TASKCFG_TREAD.ix n) (r.b 3)
    let b := loadFld (loadFld (loadFld a (FL_TASKCFG_INTERVAL.ix n) (r.b 4)) (FL_TASKCFG_PHASE.ix n) (r.b 5)) (FL_TASKBUD_BUDGET.ix n) (r.h 6)
    loadBits b (FL_TASKEN0 + 4 * (n / 32)) (2 ^ (n % 32)) (if r.bit 10 0 then 2 ^ (n % 32) else 0)) m2

/-- REGS_ONLINE: the whole register takes the record's value (20 R540). [log 93 DESIGN CHOICE] -/
def loadOnline (s : List (Nat × List Rec)) (m : Map W32) : Map W32 :=
  (recsOf s 0x03).foldl (fun m r => loadBits m (regKeyOf r) (rwMask (regKeyOf r)) (r.w 8)) m

/-- Every register that the images load, with its value (20 R540). -/
def imgRegs (s : List (Nat × List Rec)) (kz : List Byte) : Map W32 :=
  loadOnline s (loadEnables s kz (loadRadio s (loadDrive s (loadFixed s []))))

/-- Registers that may change on line, each with the section that loads it; the KZL image counts as section 256. -/
def imgRegsOn (s : List (Nat × List Rec)) (kz : List Byte) : List (Nat × Nat) :=
  ((recsOf s 0x03).map fun r => (regKeyOf r, 0x03)) ++ ((recsOf s 0x40).map fun r => (GL_CHCFG + 4 * r.b 0, 0x40)) ++
    ((recsOf s 0x41).flatMap fun r => (List.range 512).map fun i => (GL_CURVE + 4 * (512 * r.b 0 + i), 0x41)) ++
    ((recsOf s 0x42).map fun r => (if r.h 0 < 256 then GL_CHFS + 4 * r.h 0 else GL_MXFS + 4 * (r.h 0 - 256), 0x42)) ++
    (if recsOf s 0x30 = [] then [] else (List.range 8).map fun i => (FL_SCHEDEN + 4 * i, 0x30)) ++
    ((kzTasks kz).flatMap fun r => [(FL_TASKCFG + 4 * r.b 0, 256), (FL_TASKBUD + 4 * r.b 0, 256)]) ++
    [(FL_TASKEN0, 256), (FL_TASKEN1, 256)]

/-! ## The configuration (20 R538, R546) -/

/-- Records of KEY_POLICY of one kind. -/
def keyRecs (s : List (Nat × List Rec)) (kind : Nat) : List Rec := (recsOf s 0x80).filter fun r => r.b 0 == kind

/-- The configuration that a configuration image and a KZL program image make. [log 132 DESIGN CHOICE] -/
def cfgOfImages (bs kz : List Byte) : Cfg :=
  let s := imgSections bs
  let id := (recsOf s 0x01).headD []
  let pr := (recsOf s 0x70).headD []
  let sl := (keyRecs s 0).headD []
  let lps := recsOf s 0x23
  let pts := (recsOf s 0x10).foldl (fun m r => mput m (r.h 0) (pointOf r)) []
  let has := fun (n c : Nat) => (mget? pts n).any fun p => p.cls == c
  { Cfg.zero with
    version := field bs 12 4, digest := shaNum bs, progDigest := shaNum kz, progVersion := pr.h 0
    alwaysCold := decide (id.b 8 = 1), serial := field id 0 8, lifecycles := id.b 9
    points := pts
    meterPts := (Config.meterPoints bs).filter fun e => has e.2.2 (if e.2.1 < 13 then 0x03 else 0x07)
    statePts := (Config.statePoints bs).filter fun e => has e.2 0x09
    suites := ((recsOf s 0x11).filter fun r => r.bit 1 0).map fun r => r.b 0
    tasks := (kzTasks kz).foldl (fun m r => mput m (r.b 0) (taskOf r)) []
    blocks := kzBlocks kz, code := (numbered (kzCode kz)).filter fun e => e.2 ≠ 0
    retMarkFirst := pr.h 2, retMarkBytes := pr.h 4, retTimFirst := pr.h 6, retTims := pr.h 8, retCntFirst := pr.h 10
    retCnts := pr.h 12
    nodes := (numbered (recsOf s 0x20)).map fun e => (e.1, nodeOf e.2 (lps.find? fun p => p.h 0 == e.1 && decide (e.1 < 16384)))
    edges := (numbered (recsOf s 0x21)).map fun e => (e.1, edgeOf e.2)
    injs := (numbered (recsOf s 0x22)).map fun e => (e.1, injOf e.2)
    scheds := (numbered (recsOf s 0x30)).map fun e => (e.1, schedOf e.2)
    days := (numbered (recsOf s 0x31)).map fun e => (e.1, (e.2.h 0, e.2.b 2))
    switches := (numbered (recsOf s 0x32)).map fun e => (e.1, switchOf e.2)
    excs := (recsOf s 0x33).map excOf
    anchors := (recsOf s 0x34).foldl (fun m r => mput m (r.b 0) (anchorOf r)) []
    tz := match recsOf s 0x35 with | r :: _ => zoneOf r | [] => TimeZone.zero
    chans := (recsOf s 0x40).foldl (fun m r => mput m (r.b 0) (chanOf r)) []
    cells := (recsOf s 0x43).foldl (fun m r => mput m (cellIx r) (r.h 4)) []
    stations := (recsOf s 0x60).foldl (fun m r => mput m (r.h 0) (stationOf r)) []
    stationPts := (recsOf s 0x61).map stationPtOf
    dali := (recsOf s 0x62).map daliOf
    links := ((recsOf s 0x63).filter fun r => r.b 1 == 1).map fun (r : Rec) => (r.b 0, r.h 2, r.h 4)
    peers := ((recsOf s 0x63).filter fun r => r.b 1 == 0).foldl (fun m (r : Rec) => mput m (r.b 0) (field r 8 8)) []
    nodeTab := (recsOf s 0x52).map nodeCfgOf
    localProf := (recsOf s 0x54).foldl (fun m r => mput m (r.h 0) (r.h 2, r.h 4, r.h 6, r.h 8)) []
    nodePts := (recsOf s 0x53).map fun r => (r.h 0, r.b 2, r.h 4)
    clients := (keyRecs s 1).foldl (fun m r => mput m (r.h 4) (clientOf r)) []
    signSlot := sl.b 8, fieldSlots := [sl.b 9, sl.b 10, sl.b 11, sl.b 12]
    updateKey := (keyRecs s 2).head?.map fun r => (r.drop 8).take 65
    auditKey := (keyRecs s 3).head?.map fun r => (r.drop 8).take 65
    revert := decide (Rec.b ((recsOf s 0x81).headD []) 52 = 1)
    gateway :=
      let r : Rec := (recsOf s 0x81).headD []
      !((r.drop 8).take 4 ++ (r.drop 32).take 16).all (· == 0)
    net := (recsOf s 0x81).headD []
    image := bs, program := kz
    regs := imgRegs s kz
    regsOn := imgRegsOn s kz }

/-- The sections of the configuration image (20 R549). [log 132 DESIGN CHOICE] -/
def Cfg.raw (c : Cfg) : List (Nat × List Rec) := imgSections c.image

end Sys2Proof.Machine
end

