-- ==== Sys2Proof/Machine/ImageCheck.lean ====
section
/-! DEFINITION. Acceptance and rejection of images: the rules of R548 with the rejection rules of the other chapters, and
what an on-line change may alter (20 R537 to R549; 06 R160, R172; 07 R187; 08 R208, R212; 09 R233; 10 R278, R283; 11 R306;
13 R335, R336, R341, R342; 14 R360, R363, R384). -/

namespace Sys2Proof.Machine

/-- Why an image is rejected: section id, record index and rule code (20 R548). -/
abbrev ImgErr := Nat × Nat × Nat

/-- Record index for none. -/
def noRec : Nat := 0xFFFFFFFF

/-- A violation where a condition holds. -/
def bad (c : Bool) (sec rec rule : Nat) : List ImgErr := if c then [(sec, rec, rule)] else []

/-- Whether any byte of a range is not 0. -/
def anyByte (r : Rec) (o n : Nat) : Bool := ((r.drop o).take n).any (· != 0)

/-- Whether a list rises strictly. -/
def rises : List Nat → Bool
  | [] => true
  | x :: t => (match t with | [] => true | y :: _ => decide (x < y)) && rises t

/-- Whether numbers never fall: the edge list may hold parallel edges (09 R229). -/
def risesWeakly : List Nat → Bool
  | a :: b :: t => decide (a ≤ b) && risesWeakly (b :: t)
  | _ => true

/-- Whether a list names something twice. -/
def twice : List Nat → Bool
  | [] => false
  | x :: t => t.contains x || twice t

/-! ## Rules 0x01 to 0x04: header, table, sections -/

/-- Rule 0x01 (20 R537). -/
def headerBad (bs : List Byte) : Bool :=
  decide (bs.length < 64) || field bs 0 4 != 0x46435853 || field bs 4 2 != 1 || field bs 6 2 == 0 ||
    decide (64 < field bs 6 2) || field bs 8 4 != bs.length ||
    field bs 20 4 != crc32c (bs.take 20 ++ [0, 0, 0, 0] ++ bs.drop 24)

/-- Rule 0x02: order, overlap, alignment, id, record size, version and whole records (20 R537). -/
def tableBad (bs : List Byte) : List ImgErr :=
  let es := secEntries bs
  let spans := (0, 64 + 16 * es.length) :: es.map fun e => (e.2.2.1, e.2.2.2.1)
  (numbered es).flatMap fun p =>
    let e := p.2
    let before := (es.take p.1).getLast?
    let order := match before with
      | some q => decide (e.1 < q.1)
      | none => false
    let overlap := (numbered spans).any fun q => q.1 != p.1 + 1 && decide (e.2.2.2.1 ≠ 0 ∧ q.2.2 ≠ 0) &&
      decide (e.2.2.1 < q.2.1 + q.2.2) && decide (q.2.1 < e.2.2.1 + e.2.2.2.1)
    bad (order || overlap || e.2.2.1 % 8 != 0 || decide (bs.length < e.2.2.1 + e.2.2.2.1) || (secRow e.1).isNone ||
      e.2.1 != secSize e.1 || e.2.2.2.2.1 != 1 || e.2.2.2.1 % max 1 e.2.1 != 0) e.1 noRec 2

/-- Rule 0x03. -/
def presenceBad (s : List (Nat × List Rec)) : List ImgErr :=
  let has (id : Nat) : Bool := s.any fun e => e.1 == id
  (secTable.flatMap fun r => bad (r.2.2.2.2.1 && !has r.1) r.1 noRec 3) ++
    (s.flatMap fun e => bad (decide (1 < (s.filter fun q => q.1 == e.1).length)) e.1 noRec 3) ++
    bad (has 0x20 && !has 0x21) 0x21 noRec 3 ++ bad (has 0x21 && !has 0x20) 0x20 noRec 3 ++
    bad (has 0x30 && !has 0x35) 0x35 noRec 3

/-- Rule 0x04. -/
def countBad (s : List (Nat × List Rec)) : List ImgErr :=
  s.flatMap fun e => match secRow e.1 with
    | some r => bad (decide (e.2.length < r.2.2.1) || decide (r.2.2.2.1 < e.2.length)) e.1 noRec 4
    | none => []

/-! ## Rule 0x05: reserved bytes and fields -/

/-- Reserved bytes of a section's record: offset and count. -/
def resvBytes (id : Nat) (r : Rec) : List (Nat × Nat) :=
  match id with
  | 0x01 => [(10, 2), (48, 16)]
  | 0x02 | 0x03 => [(1, 3)]
  | 0x10 => [(17, 3)]
  | 0x20 => [(15, 1)]
  | 0x21 => [(12, 4)]
  | 0x23 => [(12, 4)]
  | 0x30 => [(7, 1), (15, 1)]
  | 0x31 => [(3, 1)]
  | 0x34 | 0x41 => [(1, 3)]
  | 0x35 => [(56, 8)]
  | 0x40 => [(7, 1), (12, 4)]
  | 0x42 => [(6, 2)]
  | 0x43 | 0x53 | 0x62 => [(3, 1), (6, 2)]
  | 0x50 => [(11, 1)]
  | 0x51 => [(3, 1), (6, 2)]
  | 0x52 => [(31, 1)]
  | 0x54 => [(10, 2)]
  | 0x60 => [(3, 1), (84, 12)]
  | 0x61 => [(8, 4)]
  | 0x63 => if r.b 1 = 0 then [(2, 6)] else [(6, 10)]
  | 0x70 => [(14, 18)]
  | 0x80 => match r.b 0 with
    | 0 => [(1, 7), (13, 67)]
    | 1 => [(6, 2), (73, 7)]
    | _ => [(1, 7), (73, 7)]
  | 0x81 => [(5, 3), (29, 3), (53, 3)]
  | _ => []

/-- Reserved bits of a section's flag bytes: offset and first reserved bit. -/
def resvBits (id : Nat) (r : Rec) : List (Nat × Nat) :=
  match id with
  | 0x01 => [(9, 2)]
  | 0x11 => [(1, 1)]
  | 0x20 => [(3, 4)]
  | 0x21 => [(9, 3)]
  | 0x22 => [(7, 7)]
  | 0x23 => [(10, 4), (11, 1)]
  | 0x30 => [(6, 3)]
  | 0x33 => [(3, 1)]
  | 0x40 => [(1, 3), (6, 4)]
  | 0x50 | 0x51 => [(1, 2)]
  | 0x60 => [(2, 1)]
  | 0x80 => if r.b 0 = 1 then [(3, 1)] else []
  | _ => []

/-- Rule 0x05 on one record. -/
def reservedBad (id : Nat) (r : Rec) : Bool :=
  ((resvBytes id r).any fun e => anyByte r e.1 e.2) || ((resvBits id r).any fun e => decide (2 ^ e.2 ≤ r.b e.1)) ||
    (id == 0x22 && r.b 6 / 4 % 4 != 0)

/-! ## Rule 0x06: ranges -/

/-- A level. -/
def lvBad (n : Nat) : Bool := decide (4095 < n)

/-- An index that its flag declares absent must be 0. -/
def idle (present : Bool) (v : Nat) : Bool := !present && v != 0

/-- A coded date of R271. -/
def dateBad (c : Nat) : Bool := c / 32 % 16 == 0 || decide (12 < c / 32 % 16) || c % 32 == 0

/-- A daylight transition of R267. [log 94 DESIGN CHOICE] -/
def transBad (t : TransitionRule) : Bool :=
  t.month == 0 || decide (12 < t.month) || t.week == 0 || decide (5 < t.week) || decide (6 < t.weekday) || decide (1439 < t.minute)

/-- Whether the instants of a list rise. -/
def timesRise (l : List (Nat × Int)) : Bool := rises (l.map (·.1))

/-- A permitted source prefix of R547. -/
def prefixBad (r : Rec) (i : Nat) : Bool :=
  let f := r.b (56 + 15 * i)
  let n := r.b (57 + 15 * i)
  match f with
  | 0 => false
  | 4 => decide (32 < n)
  | 6 => decide (104 < n)
  | _ => true

/-- Rule 0x06 on one record, as far as the record alone shows it; i is its index. -/
def rangeBad (version : Nat) (id i : Nat) (r : Rec) : Bool :=
  match id with
  | 0x01 => decide (1 < r.b 8) || r.w 12 != version
  | 0x10 => r.b 2 == 0 || decide (0x0B < r.b 2) || (r.h 4 &&& 0x0700) != r.h 4 || decide (2 < r.b 16)
  | 0x20 => decide (16 < r.b 2) || lvBad (r.h 10) || lvBad (r.h 12) || decide (r.h 12 < r.h 10) || decide (3 < r.b 14) ||
      idle (r.bit 3 1) (r.h 4) || idle (r.bit 3 2) (r.h 6) || idle (r.bit 3 3) (r.h 8) ||
      (decide (16384 ≤ i) && (anyByte r 4 11 || r.b 3 / 2 % 8 != 0))
  | 0x21 => decide (20480 ≤ r.h 0) || decide (20480 ≤ r.h 2) || r.h 4 == 0 || r.h 6 == 0 || idle (r.bit 9 2) (r.h 10)
  | 0x22 => decide (20480 ≤ r.h 0) || idle (r.bit 7 2) (r.h 4) ||
      (List.range 4).any fun k => idle (r.bit 7 (3 + k)) (r.h (8 + 2 * k))
  | 0x23 => decide (16384 ≤ r.h 0) || lvBad (r.h 2) || lvBad (r.h 4) || decide (r.h 4 < r.h 2) || idle (r.bit 11 0) (r.h 8)
  | 0x30 => idle (r.bit 6 1) (r.h 2) || idle (r.bit 6 2) (r.h 4) || decide (r.sw 20 < r.sw 16) || decide (7200 < r.h 26)
  | 0x31 => decide (32 < r.b 2) || decide (4096 < r.h 0 + r.b 2)
  | 0x32 => decide (4 < r.b 0) || decide (3 < r.b 1) || (r.b 0 == 0 && r.b 1 != 0) || (r.b 0 == 0 && decide (43199 < r.h 2)) ||
      (r.b 0 != 0 && (decide (r.sh 2 < -14400) || decide (14400 < r.sh 2)))
  | 0x33 => decide (7 < r.b 2) || dateBad (r.h 4) || dateBad (r.h 6)
  | 0x34 => decide (3 < r.b 0)
  | 0x35 =>
    let z := zoneOf r
    decide (z.taiutc < 0) || decide (255 < z.taiutc) || decide (z.std < -720) || decide (840 < z.std) || decide (2 < z.mode) ||
      decide (120 < z.delta) || transBad z.start || transBad z.stop || !timesRise z.leap || !timesRise z.list
  | 0x40 => idle (r.bit 1 2) (r.h 8)
  | 0x41 => decide (7 < r.b 0)
  | 0x42 => decide (0x103 < r.h 0) || lvBad (r.h 2)
  | 0x43 => decide (3 < r.b 0)
  | 0x50 => decide (7 < r.b 0) || decide (7 < r.b 2) || decide (3 < r.b 3) || decide (24 < r.b 5) || decide (3 < r.b 6) ||
      (decide (7 < r.b 8) && r.b 8 != 0xFF) || decide (15 < r.b 10) || decide (2 ^ 20 ≤ r.w 12)
  | 0x51 => decide (7 < r.b 0) || decide (2 ^ 20 ≤ r.w 8) || decide (2 ^ 20 ≤ r.w 12)
  | 0x52 => decide (0x5000 ≤ r.h 8) || decide (1 < r.b 18) || (decide (0x4000 ≤ r.h 8) != (r.b 18 == 1)) || decide (7 < r.b 10) ||
      decide (15 < r.b 11) || decide (4 < r.b 19) || (decide (7 < r.b 30) && r.b 30 != 0xFF)
  | 0x53 => !(decide (r.b 2 ≤ 3) || (decide (8 ≤ r.b 2) && decide (r.b 2 ≤ 23)))
  | 0x54 => lvBad (r.h 2) || lvBad (r.h 4)
  | 0x60 => decide (512 ≤ r.h 0) || decide (64 < r.b 8) || decide (64 < r.b 9) || r.h 10 == 0
  | 0x61 => decide (512 ≤ r.h 0) || decide (1 < r.b 2) || decide (7 < r.b 4) || !([1, 8, 16, 32].contains (r.b 5))
  | 0x62 => decide (3 < r.b 0) || decide (2 < r.b 1) || decide (63 < r.b 2)
  | 0x63 => decide (1 < r.b 0) || decide (1 < r.b 1) || (r.b 1 == 1 && decide (8191 < r.h 2))
  | 0x70 => r.h 2 % 8 != 0 || decide (8192 < r.h 4) || decide (65536 < r.h 2 + 8 * r.h 4) || decide (1024 < r.h 6 + r.h 8) ||
      decide (1024 < r.h 10 + r.h 12) || (r.h 4 == 0 && r.h 2 != 0) || (r.h 8 == 0 && r.h 6 != 0) || (r.h 12 == 0 && r.h 10 != 0)
  | 0x80 => decide (3 < r.b 0) ||
      (r.b 0 == 0 && (List.range 5).any fun k => decide (64 ≤ r.b (8 + k)) && r.b (8 + k) != 0xFF) ||
      (r.b 0 == 1 && (r.b 1 == 0 || decide (5 < r.b 1) || decide (256 ≤ r.h 4)))
  | 0x81 => decide (32 < r.b 4) || decide (128 < r.b 28) || decide (4094 < r.h 48) || decide (7 < r.b 50) || decide (7 < r.b 51) ||
      decide (1 < r.b 52) || (List.range 8).any (prefixBad r)
  | _ => false

/-- Rule 0x06 over the records of one section: indices that must rise or be unique. -/
def sectionBad (id : Nat) (l : List Rec) : Bool :=
  match id with
  | 0x10 => !rises (l.map fun r => r.h 0)
  | 0x11 | 0x34 | 0x40 | 0x41 | 0x50 | 0x51 => twice (l.map fun r => r.b 0)
  | 0x21 => !risesWeakly (l.map fun r => r.h 0 * 65536 + r.h 2)
  | 0x23 | 0x42 | 0x54 | 0x60 => twice (l.map fun r => r.h 0)
  | 0x43 => twice (l.map cellIx)
  | 0x52 => twice (l.map fun r => r.h 8)
  | 0x63 => twice ((l.filter fun r => r.b 1 == 0).map fun r => r.b 0) ||
      twice ((l.filter fun r => r.b 1 == 1).map fun r => r.b 0 * 65536 + r.h 2) ||
      [0, 1].any fun p => [0, 1].any fun side =>
        decide (4096 < (l.filter fun r => r.b 1 == 1 && r.b 0 == p && r.h 2 / 4096 == side).length)
  | 0x80 => (l.filter fun r => r.b 0 == 0).length != 1 || decide (256 < (l.filter fun r => r.b 0 == 1).length) ||
      decide (1 < (l.filter fun r => r.b 0 == 2).length) || decide (1 < (l.filter fun r => r.b 0 == 3).length) ||
      decide (4 < (l.filter fun r => r.b 0 == 1 && r.bit 3 0).length) || twice ((l.filter fun r => r.b 0 == 1).map fun r => r.h 4)
  | _ => false

/-! ## Rule 0x06: the rejection rules of other chapters -/

/-- A field of a register as the image loads it. -/
def Cfg.reg (c : Cfg) (x : Fld) : Nat := bitsOf (mget (regReset x.key) c.regs x.key).toNat x.hi x.lo

/-- The graph (09 R229 to R233). -/
def graphBad (c : Cfg) : List ImgErr :=
  let edge (i : Nat) : Option Edge := mget? c.edges i
  (c.edges.flatMap fun e =>
    bad (match e.2.rev with
      | some r => match edge r with
        | some q => q.tail != e.2.head || q.head != e.2.tail
        | none => true
      | none => false) 0x21 e.1 6 ++
    bad (e.2.cont && (decide (16384 ≤ e.2.tail) || decide (16384 ≤ e.2.head))) 0x21 e.1 6 ++
    bad (match mget? c.nodes e.2.tail with
      | some n => !(decide (n.first ≤ e.1) && decide (e.1 < n.first + n.count))
      | none => true) 0x21 e.1 6) ++
    (c.nodes.flatMap fun n => bad ((List.range n.2.count).any fun i => match edge (n.2.first + i) with
      | some e => e.tail != n.1
      | none => true) 0x20 n.1 6) ++
    c.injs.flatMap fun i => bad (i.2.dirs.any fun d => match d with
      | some k => match edge k with
        | some e => e.tail != i.2.node
        | none => true
      | none => false) 0x22 i.1 6

/-- The Enfilade registers (09 R233, R248, R263). -/
def enfBad (c : Cfg) : List ImgErr :=
  ((List.range 4).flatMap fun k =>
    bad (decide (10000 < c.reg (FL_ENFPROFA_PA.ix k) + c.reg (FL_ENFPROFA_RA.ix k)) ||
      decide (2500 < c.reg (FL_ENFPROFB_PB.ix k) + c.reg (FL_ENFPROFB_RB.ix k))) 0x03 noRec 6) ++
    bad (decide (23 < c.reg FL_ENFMATCH_AGEHOUR)) 0x03 noRec 6 ++
    bad (c.reg FL_ENFCTL_EN == 1 && 50 % max 1 (c.reg FL_SCANCFG_PERIOD) != 0) 0x03 noRec 6

/-- Schedules (10 R283). -/
def schedBad (c : Cfg) : List ImgErr :=
  let prog (p : Nat) : Bool := p == 0xFF || mhas c.days p
  (c.scheds.flatMap fun e =>
    bad (e.2.week.any fun p => !prog p) 0x30 e.1 6 ++
    bad (e.2.photo.isNone && (e.2.week ++ (c.excs.filter fun x => x.schedule == e.1).map (·.program)).any fun p =>
      (c.programEntries p).any fun w => w.2.isPhoto) 0x30 e.1 6) ++
    ((numbered c.excs).flatMap fun e => bad (!prog e.2.program) 0x33 e.1 6) ++
    c.switches.flatMap fun e => bad (e.2.kind != 0 && !mhas c.anchors e.2.anchor) 0x32 e.1 6

/-- The scan (06 R180). -/
def scanBad (c : Cfg) : List ImgErr :=
  let p := c.reg FL_SCANCFG_PERIOD
  bad (p == 0 || decide (1000 < p) || decide (1000 < c.reg FL_SCANCFG_STARTEXT)) 0x03 noRec 6

/-- Drive channels, matrices and metering (11 R306, R307; 12 R329, R332). [log 94 DESIGN CHOICE] -/
def driveBad (c : Cfg) : List ImgErr :=
  let mode (g : Nat) : Nat := c.reg (GL_GRPCFG_MODE.ix g)
  let mx := (List.range 4).filter fun m => c.reg (GL_MXCFG_EN.ix m) == 1
  let base (m : Nat) : Nat := c.reg (GL_MXCFG_COLBASE.ix m)
  let cols (m : Nat) : Nat := c.reg (GL_MXCFG_COLGRPS.ix m) + 1
  let rb (m : Nat) : Nat := c.reg (GL_MXCFG_ROWBASE.ix m)
  let rows (m : Nat) : Nat := c.reg (GL_MXCFG_ROWS.ix m) + 1
  let owns (m g : Nat) : Bool := decide (base m ≤ g) && decide (g < base m + cols m)
  ((List.range 16).flatMap fun g =>
    bad (decide (c.reg (GL_GRPCFG_BITS.ix g) < 8) || decide (16 < c.reg (GL_GRPCFG_BITS.ix g)) || mode g == 3 ||
      (mode g == 1 && (mx.filter fun m => owns m g).length != 1)) 0x02 noRec 6) ++
    ((List.range 4).flatMap fun m => bad (decide (c.reg (GL_MXTIM_PRE.ix m) < 3)) 0x02 noRec 6) ++
    (mx.flatMap fun m =>
      bad (decide (16 < base m + cols m) || decide (16 < rb m + rows m) ||
        ((List.range (cols m)).any fun i => mode (base m + i) != 1 ||
          c.reg (GL_GRPCFG_BITS.ix (base m + i)) != c.reg (GL_GRPCFG_BITS.ix (base m)) ||
          c.reg (GL_GRPCFG_PRESC.ix (base m + i)) != c.reg (GL_GRPCFG_PRESC.ix (base m)) ||
          c.reg (GL_GRPCFG_DITHER.ix (base m + i)) != c.reg (GL_GRPCFG_DITHER.ix (base m))) ||
        (mx.any fun q => q != m && decide (rb m < rb q + rows q) && decide (rb q < rb m + rows m))) 0x02 noRec 6) ++
    (c.chans.flatMap fun e => bad (mode (e.1 / 16) == 1) 0x40 noRec 6) ++
    (c.cells.flatMap fun e =>
      let m := e.1 / 1024
      bad (decide (rows m ≤ e.1 / 64 % 16) || decide (16 * cols m ≤ e.1 % 64)) 0x43 noRec 6) ++
    ((List.range 2).flatMap fun n => bad (c.reg (GL_MTRCFG_EN.ix n) == 1 && c.reg (GL_MTRCFG_CTPRI.ix n) == 0) 0x02 noRec 6) ++
    (List.range 256).flatMap fun n => bad (decide (8 < c.reg (GL_CHDIAG_NEXP.ix n))) 0x02 noRec 6

/-- Bit rate of a line in units of 500 kbit/s (08 R203). -/
def lineRate (code : Nat) : Nat := match code with
  | 0 => 1
  | 1 => 3
  | 2 => 6
  | 3 => 12
  | _ => 24

/-- Line cycles and stations (08 R206, R208, R212, R227). Times are counted in bit times. -/
def lineBad (c : Cfg) : List ImgErr :=
  ((List.range 16).flatMap fun n =>
    let st := (c.stations.filter fun s => s.1 / 32 == n).map (·.2)
    let k := lineRate (c.reg (GL_RIOCFG_RATE.ix n))
    let tresp2 := 48 + k
    let data2 (s : StationCfg) : Nat := 22 * (20 + s.inputs + s.outputs) + tresp2 + 8
    let most := st.foldl (fun m s => max m s.outputs) 0
    let param2 := 22 * (9 + 12 + most) + tresp2 + 22 * 10 + 8
    let fail2 := 22 * (10 + most) + tresp2 + 22 + 8
    let cyc := c.reg (GL_RIOCFG_LINECYC.ix n)
    bad (decide (4 < c.reg (GL_RIOCFG_RATE.ix n)) || cyc == 0 || decide (40 < cyc) ||
      (st != [] && decide (250 * cyc * k < ((st.map data2).sum + param2 + 2 * fail2)))) 0x02 noRec 6) ++
    c.stations.flatMap fun s => bad (decide (1000 * s.2.watchdog < 750 * c.reg (GL_RIOCFG_LINECYC.ix (s.1 / 32)))) 0x60 noRec 6

/-- Station points lie in their station (20 R545). -/
def stationPtBad (c : Cfg) : List ImgErr :=
  (numbered c.stationPts).flatMap fun e =>
    let p := e.2
    let room := match mget? c.stations p.station with
      | some s => if p.output then s.outputs else s.inputs
      | none => 0
    bad (decide (room < p.byte + (p.width + 7) / 8) || (p.width != 1 && p.bit != 0)) 0x61 e.1 6

/-- Default band entries of the profiles: LOW, HIGH, DUTY, PMAX (13 R341). -/
def euBands : List (Nat × Nat × Nat × Int) :=
  [(868000, 868600, 100, 14), (868700, 869200, 10, 14), (869400, 869650, 1000, 27), (869700, 870000, 100, 14)]

/-- Occupied range of a chain's plan in units of 0.5 kHz: lower and upper edge (13 R342). -/
def Cfg.planRange (c : Cfg) (n : Nat) : Nat × Nat :=
  let base := c.reg (LG_CHPLAN_BASE.ix n)
  let w := 25 * c.reg (LG_CHPLAN_SPACING.ix n)
  let hop := c.reg (LG_BANDLIM_HOP.ix (c.reg (LG_CHCFG_BAND.ix n))) == 1
  let last := if hop then c.reg LG_HOPCFG_NCH - 1 else c.reg (LG_CHPLAN_COUNT.ix n)
  (2 * base - w, 2 * (base + last * w) + w)

/-- Chains that RADIO configures. -/
def Cfg.radioChains (c : Cfg) : List Nat := (recsOf c.raw 0x50).map fun r => r.b 0

/-- Radio bands, plans and powers (13 R335, R336, R339, R342, R358). -/
def radioBad (c : Cfg) : List ImgErr :=
  let prof := c.reg LG_PROFILE_PROFILE
  let lo (b : Nat) : Nat := c.reg (LG_BANDLO_FREQ.ix b)
  let hi (b : Nat) : Nat := c.reg (LG_BANDHI_FREQ.ix b)
  let pmax (b : Nat) : Int := signed 8 (c.reg (LG_BANDLIM_PMAX.ix b))
  let hop (b : Nat) : Bool := c.reg (LG_BANDLIM_HOP.ix b) == 1
  let ch := c.radioChains
  bad (prof == 3 || decide (c.reg LG_TALLYCFG_CEILN < c.reg LG_TALLYCFG_CEILB)) 0x02 noRec 6 ++
    ((List.range 8).flatMap fun b => if c.reg (LG_BANDLIM_VALID.ix b) = 0 then [] else
      bad (match prof with
        | 1 => hop b || !(euBands.any fun e => decide (e.1 ≤ lo b) && decide (hi b ≤ e.2.1) &&
            decide (c.reg (LG_BANDLIM_DUTY.ix b) ≤ e.2.2.1) && decide (pmax b ≤ e.2.2.2))
        | 2 => !hop b || decide (lo b < 902000) || decide (928000 < hi b) || decide (27 < pmax b)
        | _ => false) 0x51 b 6) ++
    bad (prof == 2 && (decide (c.reg LG_HOPCFG_NCH < 50) || decide (400 < c.reg LG_HOPCFG_DWELL))) 0x02 noRec 6 ++
    (ch.flatMap fun n =>
      let b := c.reg (LG_CHCFG_BAND.ix n)
      let r := c.planRange n
      let gain := signed 8 (c.reg (LG_PORTCFG_GAIN.ix (n / 2)))
      let power : Int := ((c.reg (LG_CHCFG_POWER.ix n) : Nat) : Int) - 10
      bad (decide (25 * c.reg (LG_CHPLAN_SPACING.ix n) < leastSpacing (c.reg (LG_CHCFG_RATE.ix n)))) 0x50 noRec 6 ++
      bad (c.reg (LG_BANDLIM_VALID.ix b) == 1 && (decide (r.1 < 2 * lo b) || decide (2 * hi b < r.2))) 0x50 noRec 6 ++
      bad (c.reg (LG_BANDLIM_VALID.ix b) == 1 && decide (min power (pmax b - gain) < -10)) 0x50 noRec 6 ++
      bad (n % 2 == 0 && ch.contains (n + 1) && (let q := c.planRange (n + 1)
        decide (r.1 < q.2 + 2000) && decide (q.1 < r.2 + 2000))) 0x50 noRec 6) ++
    (List.range 4).flatMap fun p =>
      let g := signed 8 (c.reg (LG_PORTCFG_GAIN.ix p))
      bad (decide (g < -20) || decide (20 < g)) 0x02 noRec 6

/-- Beacon slots of a chain, for a beacon that names no group (14 R362, R370): 52 PSDU octets. [log 94 DESIGN CHOICE] -/
def Cfg.beaconSlots (c : Cfg) (n : Nat) : Nat :=
  let slot := 512000000 * 2 ^ c.reg FL_MACCFG_BICODE / 256
  (airtime 8 52 (c.reg (LG_CHCFG_RATE.ix n)) * 1000 + 500000 + slot - 1) / slot

/-- Dedicated slots of an interval (14 R362). -/
def Cfg.dedSlots (c : Cfg) : Nat := 16 * (15 - c.reg FL_MACCFG_MCAST - c.reg FL_MACCFG_CONT)

/-- The mesh (14 R360, R363, R384, R391). -/
def meshBad (c : Cfg) : List ImgErr :=
  let bi := c.reg FL_MACCFG_BICODE
  let mc := c.reg FL_MACCFG_MCAST
  let ct := c.reg FL_MACCFG_CONT
  let ch := c.radioChains
  let role (n : Nat) : Nat := c.reg (FL_CHROLE_ROLE.ix n)
  let serial (p : Nat) : Nat := c.reg ⟨FL_PEERSER + 8 * p, 31, 0⟩ + 2 ^ 32 * c.reg ⟨FL_PEERSER + 8 * p + 4, 31, 0⟩
  let peers := (List.range 8).filter fun p => c.reg (FL_PEERCFG_VALID.ix p) == 1
  let awake := c.nodeTab.filter fun n => !n.sleepy
  bad (decide (4 < bi) || mc == 0 || decide (5 < mc) || ct == 0 || decide (8 < ct) || decide (15 < mc + ct + 2)) 0x02 noRec 6 ++
    bad (decide (1 < (ch.filter fun n => role n == 3).length)) 0x50 noRec 6 ++
    (ch.flatMap fun n => bad (role n == 1 && decide (mc < c.beaconSlots n)) 0x50 noRec 6 ++
      bad (role n == 2 && c.reg (LG_BANDLIM_HOP.ix (c.reg (LG_CHCFG_BAND.ix n))) == 1) 0x50 noRec 6) ++
    bad (twice (awake.map fun n => (n.chain * 16 + n.member) * 65536 + n.slot)) 0x52 noRec 6 ++
    ((numbered c.nodeTab).flatMap fun n => bad (!n.2.sleepy && decide (c.dedSlots ≤ n.2.slot)) 0x52 n.1 6 ++
      bad (decide (n.2.altChain < 8) && ch.contains n.2.altChain && role n.2.altChain != 1) 0x52 n.1 6) ++
    bad (twice (peers.map serial) || peers.any fun p => serial p == Config.serial) 0x02 noRec 6

/-! ## Rules 0x07 to 0x0C -/

/-- Class of a point in the image, 0 where it is unconfigured. -/
def Cfg.clsOf (c : Cfg) (n : Nat) : Nat := match mget? c.points n with
  | some p => p.cls
  | none => 0

/-- A named point must be configured and, where classes are listed, of one of them. -/
def ptBad (c : Cfg) (n : Nat) (cls : List Nat) : Bool :=
  c.clsOf n == 0 || (cls != [] && !cls.contains (c.clsOf n))

/-- An optional point. -/
def optBad (c : Cfg) (n : Option Nat) (cls : List Nat) : Bool := match n with
  | some k => ptBad c k cls
  | none => false

/-- Rule 0x07 (10 R270, R278, R283; 09 R232, R233; 11 R306; 20 R545). -/
def pointsBad (c : Cfg) : List ImgErr :=
  let levels := c.nodes.filterMap fun n => n.2.level
  (c.nodes.flatMap fun n => bad (optBad c n.2.level [5] || optBad c n.2.base [] || optBad c n.2.gate []) 0x20 n.1 7 ++
    bad (optBad c n.2.ept [7]) 0x23 noRec 7) ++
    (c.injs.flatMap fun i => bad (ptBad c i.2.trigger [0x0A, 1, 2, 0x0B, 6] || optBad c i.2.aux [9]) 0x22 i.1 7) ++
    (c.scheds.flatMap fun s => bad (ptBad c s.2.output [5, 2, 4, 8, 9, 0x0B] || optBad c s.2.firing [9] || optBad c s.2.photo [3, 1] ||
      (c.scheds.any fun q => q.1 != s.1 && q.2.output == s.2.output) || levels.contains s.2.output) 0x30 s.1 7) ++
    (c.chans.flatMap fun e => bad (ptBad c e.2.level [5] || (e.2.fadePt && ptBad c e.2.fade []) || optBad c e.2.ept [7]) 0x40 noRec 7) ++
    (c.cells.flatMap fun e => bad (ptBad c e.2 [5]) 0x43 noRec 7) ++
    ((numbered c.nodePts).flatMap fun e => bad (ptBad c e.2.2.2 []) 0x53 e.1 7) ++
    ((numbered c.stationPts).flatMap fun e => bad (ptBad c e.2.point []) 0x61 e.1 7) ++
    ((numbered c.dali).flatMap fun e => bad (ptBad c e.2.point (if e.2.kind = 0 then [5] else [])) 0x62 e.1 7) ++
    (numbered c.links).flatMap fun e => bad (ptBad c e.2.2.2 []) 0x63 noRec 7

/-- Rule 0x08. -/
def suitesBad (c : Cfg) : List ImgErr :=
  ((numbered c.points).flatMap fun e => bad (!c.suites.contains e.2.2.suite) 0x10 e.1 8) ++
    (c.clients.flatMap fun e => bad (!c.suites.contains e.2.suite) 0x80 noRec 8) ++
    c.tasks.flatMap fun t => bad ((List.range 256).any fun s => t.2.mask.getLsbD s && !c.suites.contains s) 0x70 t.1 8

/-- Registers that a REGS_ONLINE record may name (20 R540). -/
def onlineNames : List (Nat × Nat) :=
  [(FL_SCANCFG, 1), (FL_TASKEN0, 2), (FL_ENFCFG, 1), (FL_ENFREACH, 1), (FL_ENFMATCH, 1), (FL_ENFAIR, 1), (FL_ENFAIR2, 1),
    (FL_ENFVER, 1), (FL_ENFCLASS, 1), (FL_ENFPROFA, 4), (FL_ENFPROFB, 4), (FL_ENFPEAK, 1), (FL_SCHEDCFG, 1), (FL_SCHEDEN, 8)]

/-- Rule 0x09 (20 R540). [log 93 DESIGN CHOICE] -/
def registersBad (s : List (Nat × List Rec)) : List ImgErr :=
  ((numbered (recsOf s 0x02)).flatMap fun e =>
    let k := regKeyOf e.2
    let m := rwMask k
    bad (!([1, 3, 5, 6, 7].contains (e.2.b 0)) || decide (2 ^ 24 ≤ e.2.w 4) || (regRow k).isNone || m == 0 ||
      (e.2.b 0 == 5 && k != NW_STAIRCFG && k != NW_REPAIRCFG) ||
      (e.2.w 8 &&& (m - (m &&& sectionMask k))) != e.2.w 8) 0x02 e.1 9) ++
    (numbered (recsOf s 0x03)).flatMap fun e =>
      bad (!onlineNames.any fun r => inRegs (regKeyOf e.2) r.1 r.2 && e.2.w 4 % 4 == 0) 0x03 e.1 9

/-- Rule 0x0C: retentive data (06 R172) and awake nodes of a MESH chain (14 R363). -/
def capacityBad (c : Cfg) : List ImgErr :=
  let ret := (c.points.filter fun e => bitOf e.2.template.toNat 9).length
  bad (decide (32704 < c.retMarkBytes + 8 * (c.retTims + c.retCnts + ret))) 0x70 noRec 12 ++
    (List.range 8).flatMap fun n => bad (c.reg (FL_CHROLE_ROLE.ix n) == 1 &&
      decide (16 * c.dedSlots < (c.nodeTab.filter fun x => !x.sleepy && x.chain == n).length)) 0x52 noRec 12

/-! ## The KZL image (06 R160, 07 R187, 20 R546) -/

/-- Whether R187 refuses a block. -/
def kzBlockBad (code : List W32) (blocks : Nat) (b : Nat × Nat) : Bool :=
  if code.length < b.1 + b.2 ∨ b.2 = 0 then true
  else match kzStarts (fun k => code.getD k 0) b.2 b.1 b.2 with
    | none => true
    | some l =>
      let insBad (a : Nat) : Bool :=
        let p := kzParts (code.getD a 0)
        let target := (((a + 1 : Nat) : Int) + signed 21 p.2.2)
        !kzLegal p.1 p.2.1 p.2.2 || (decide (0x58 ≤ p.1 ∧ p.1 ≤ 0x5C) && !(decide (0 ≤ target) && l.contains target.toNat)) ||
          (decide (0x60 ≤ p.1 ∧ p.1 ≤ 0x61) && decide (blocks ≤ p.2.2))
      l.any insBad || match l.getLast? with
        | some a => (kzParts (code.getD a 0)).1 != 0x62 && (kzParts (code.getD a 0)).1 != 0x58
        | none => true

/-- Rule 0x0B, and the checks of R160 and R187 as rule 0x06. [log 95 DESIGN CHOICE] -/
def kzlBad (c : Cfg) (kz : List Byte) : List ImgErr :=
  let pr := (recsOf c.raw 0x70).headD []
  let code := kzCode kz
  let tasks := kzTasks kz
  let nb := field kz 8 2
  bad (decide (kz.length < 32) || field kz 0 4 != 0x5A4B5853 || field kz 4 2 != 1 || field kz 6 2 != pr.h 0 ||
    kzLength kz != kz.length || (sha256 kz).take 16 != (pr.drop 32).take 16) 0x70 noRec 11 ++
    bad (anyByte kz 16 16) 0x70 noRec 5 ++
    bad (decide (2 ^ 20 < kz.length) || decide (4096 < nb)) 0x70 noRec 6 ++
    bad (twice (tasks.map fun r => r.b 0) || [1, 2, 3].any fun k => decide (1 < (tasks.filter fun r => r.b 1 == k).length)) 0x70 noRec 6 ++
    ((numbered tasks).flatMap fun e =>
      let r := e.2
      bad (anyByte r 11 5 || decide (2 ≤ r.b 10)) 0x70 e.1 5 ++
      bad (decide (63 < r.b 0) || decide (3 < r.b 1) || decide (15 < r.b 2) || decide (15 < r.b 3) || r.b 4 == 0 ||
        decide (r.b 4 ≤ r.b 5) || decide (nb ≤ r.h 8)) 0x70 e.1 6) ++
    (numbered (kzBlocks kz)).flatMap fun e => bad (kzBlockBad code nb e.2) 0x70 e.1 6

/-! ## The whole check (20 R548) -/

/-- Rules 0x05 and 0x06 record by record. [log 92 DESIGN CHOICE] -/
def recordsBad (version : Nat) (s : List (Nat × List Rec)) : List ImgErr :=
  s.flatMap fun e => ((numbered e.2).flatMap fun r =>
    bad (reservedBad e.1 r.2) e.1 r.1 5 ++ bad (rangeBad version e.1 r.1 r.2) e.1 r.1 6) ++ bad (sectionBad e.1 e.2) e.1 noRec 6

/-- What a configuration image breaks, in the order of checking: the first that stands is the one reported. `life` is the
module's lifecycle (17 R475). [log 92 DESIGN CHOICE] -/
def configBad (life : Nat) (bs : List Byte) : List ImgErr :=
  if headerBad bs then [(0, noRec, 1)]
  else
    let s := imgSections bs
    let early := bad (anyByte bs 24 40) 0 noRec 5 ++ tableBad bs ++ presenceBad s ++ countBad s
    if early ≠ [] then early
    else
      let c := cfgOfImages bs []
      recordsBad c.version s ++ graphBad c ++ enfBad c ++ schedBad c ++ scanBad c ++ driveBad c ++ lineBad c ++ stationPtBad c ++
        radioBad c ++ meshBad c ++ pointsBad c ++ suitesBad c ++ registersBad s ++
        bad ((c.serial != 0 && c.serial != Config.serial) ||
          !(if life = 3 then bitOf c.lifecycles 1 else bitOf c.lifecycles 0)) 0x01 0 10 ++
        capacityBad c ++ bad (decide (2 ^ 24 < bs.length)) 0 noRec 12

/-- What a configuration image and its KZL image break together. [log 92 DESIGN CHOICE] -/
def imagesBad (life : Nat) (bs kz : List Byte) : List ImgErr :=
  configBad life bs ++ (let c := cfgOfImages bs kz
    kzlBad c kz ++ suitesBad c)

/-- Sections that differ between two configurations; the KZL image counts as section 256. -/
def changedSections (o n : Cfg) : List Nat :=
  ((secTable.map (·.1)).filter fun id =>
    (o.raw.find? fun e => e.1 == id) != n.raw.find? fun e => e.1 == id) ++ (if o.progDigest = n.progDigest then [] else [256])

/-- Whether an on-line change is refused with E_NEEDS_RESTART (20 R549). -/
def needsRestart (o n : Cfg) : Bool := (changedSections o n).any fun id => id != 256 && secRestart id

end Sys2Proof.Machine
end

