-- ==== Sys2Proof/Machine/Newel.lean ====
section
/-! DEFINITION. The Newel cycle: recognition of faults, comparison, commit, switch-over, release of the batch, keepalive
and time strobe (01 R27 to R33; 04 R92 to R122; 13 R351; 15 R406, R407). -/

namespace Sys2Proof.Machine

/-! ## Time (15 R405 to R407) -/

/-- System time of a boundary, extrapolated from a map (15 R407). -/
def TimeMap.at (m : TimeMap) (c : Nat) : Nat :=
  (m.ns * 2 ^ 32 + m.frac + (c - m.c) * (m.len * 2 ^ 32 + m.lenFrac)) / 2 ^ 32

/-- Fraction at that boundary, in units of 2^-32 ns. -/
def TimeMap.fracAt (m : TimeMap) (c : Nat) : Nat :=
  (m.ns * 2 ^ 32 + m.frac + (c - m.c) * (m.len * 2 ^ 32 + m.lenFrac)) % 2 ^ 32

/-- Cycles of synthesis after which TRUSTED clears (15 R407). -/
def trustCycles : Nat := 14400000

/-- The map that the Newel synthesises for a boundary (01 R33, 15 R407). -/
def Dev.synthMap (d : Dev) (m : TimeMap) (c : Nat) : TimeMap :=
  { m with
    c := c, ns := m.at c, frac := m.fracAt c, stepped := false, holdover := true
    trusted := m.trusted && decide (d.nw.sinceMap < trustCycles) }

/-- EV_NW_MAP_ORDER, at most once per 60 s (15 R406). -/
def Dev.mapOrder (d : Dev) : Dev :=
  if rateOk d.nw.mapOrderAt d.nw.cycle (60 * cycPerSec) then
    (d.updNw fun n => { n with mapOrderAt := some n.cycle }).raiseNw (.mk' .nwMapOrder [])
  else d

/-- A TIME_MAP reaches the Newel (15 R406): the map of greater c is kept for the next batch; a map not later than the
last released is discarded. -/
def Dev.mapArrives (d : Dev) (m : TimeMap) : Dev :=
  let d1 := d.updNw fun n => { n with sinceMap := 0, synth := false }
  let lastC := match d.nw.lastMap with
    | some l => some l.c
    | none => none
  if (match lastC with | some c => decide (m.c ≤ c) | none => false) && d.nw.newMap.isNone then d1.mapOrder
  else match d.nw.newMap with
    | some p =>
      if p.holdover then d1.updNw fun n => { n with newMap := some m, lastMap := some m }
      else if p.c < m.c then (d1.updNw fun n => { n with newMap := some m, lastMap := some m }).mapOrder
      else d1.mapOrder
    | none => d1.updNw fun n => { n with newMap := some m, lastMap := some m }

/-! ## The batch (01 R27 to R32) -/

/-- Longest batch: 512 frames or 64 KiB (01 R29). -/
def fitBatch : Nat → Nat → List InFrame → List InFrame × List InFrame
  | _, _, [] => ([], [])
  | n, bytes, f :: t =>
    if n < 512 ∧ bytes + f.bytes ≤ 65536 then
      let r := fitBatch (n + 1) (bytes + f.bytes) t
      (f :: r.1, r.2)
    else ([], f :: t)

/-- Insert a frame behind those of equal key. -/
def frInsert (key : InFrame → Nat) (x : InFrame) : List InFrame → List InFrame
  | [] => [x]
  | y :: t => if key x < key y then x :: y :: t else y :: frInsert key x t

/-- Sort frames by a key, equal keys in receive order. -/
def frSort (key : InFrame → Nat) (l : List InFrame) : List InFrame := l.foldl (fun acc x => frInsert key x acc) []

/-- Frames of one kind. -/
def ofKind (k : Nat) (l : List InFrame) : List InFrame := l.filter fun f => f.kind == k

/-- How long ago a sequence was the one behind the last accepted: a message before it ranks lower (01 R28, R40). -/
def seqRank (lastAcc : Option Nat) (q : Nat) : Nat := (q + 65536 + 32767 - lastAcc.getD 0) % 65536

/-- Arrivals of a cycle in the order of R28. -/
def batchOrder (lastAcc : Option Nat) (l : List InFrame) : List InFrame :=
  frSort (fun f => seqRank lastAcc f.seq) (ofKind 0x03 l) ++ frSort (·.port) (ofKind 0x04 l) ++ frSort (·.port) (ofKind 0x05 l) ++ frSort (·.port) (ofKind 0x06 l)

/-- A CYCLE frame: the Newel cycle, the frames carried forward, and HOLDOVER (01 R27). -/
def cycleFrame (cycle carried : Nat) (holdover : Bool) : InFrame := ⟨0x01, 0, 0, 12, .cycle cycle carried holdover⟩

/-- A TIME_MAP frame carries 32 bytes. -/
def mapFrame (m : TimeMap) : InFrame := ⟨0x02, 0, 0, 32, .timeMap m⟩

/-- Number frames in order (01 R27). -/
def numberFrames (n cyc : Nat) (l : List InFrame) : List Frame :=
  (List.zip (List.range l.length) l).map fun e => mkFrame (n + e.1) cyc e.2

/-- Flights that receive batches: ACTIVE, STANDBY, and SYNCING except before the freeze of a stair transfer (04 R105,
R111). -/
def Dev.receives (d : Dev) (f : Flt) : Bool :=
  d.fst f == fsActive || d.fst f == fsStandby ||
    (d.fst f == fsSyncing && match d.nw.stair with
      | some st => st.flight != f.num || decide (3 ≤ d.get NW_STAIRSTAT_PHASE)
      | none => true)

/-- EV_NW_FRAME_DEFER at the first deferral and once per second while deferral continues (01 R29). -/
def Dev.frameDefer (d : Dev) (carried : Nat) : Dev :=
  if carried = 0 then d.updNw fun n => { n with deferAt := none }
  else if rateOk d.nw.deferAt d.nw.cycle cycPerSec then
    (d.updNw fun n => { n with deferAt := some n.cycle }).raiseNw (.mk' .nwFrameDefer [carried])
  else d

/-- Arrivals held at their sources enter while there is room (01 R30). -/
def letIn : Nat → List InFrame → List InFrame × List InFrame
  | _, [] => ([], [])
  | room, f :: t => if f.bytes ≤ room then
      let r := letIn (room - f.bytes) t
      (f :: r.1, r.2)
    else ([], f :: t)

/-- Release of the batch of a cycle (01 R28, R29). -/
def Dev.releaseBatch (d : Dev) : Dev :=
  let n := d.nw
  let maps := match n.newMap with
    | some m => [mapFrame m]
    | none => []
  let p := fitBatch 1 32 (n.carried ++ maps ++ batchOrder d.cor.down.lastAcc n.ingress)
  let all := cycleFrame n.cycle p.2.length n.synth :: p.1
  let due := ([Flt.a, Flt.b].filter d.receives).map Flt.num
  let q := letIn (ingressCap - framesBytes (p.2.filter fun f => f.kind != 0x02)) n.source
  ((d.updNw fun n => { n with
    batch := numberFrames n.nextFrame n.cycle all, nextFrame := n.nextFrame + all.length, carried := p.2
    ingress := q.1, source := q.2, newMap := none, batchDue := due, acked := []
    sinceMap := n.sinceMap + 1 }).frameDefer p.2.length).coalesced

/-! ## Commit (04 R95 to R104) -/

/-- First commit of a start: SERVICE or DEGRADED (02 R54). -/
def Dev.firstCommit (d : Dev) : Dev :=
  if d.nw.modState ≠ msLoading then d
  else
    let ok (f : Flt) : Bool := d.fst f == fsActive || d.fst f == fsStandby
    if ok .a && ok .b && !d.fieldBudgetOut then d.fieldMod msService else d.fieldMod msDegraded

/-- EV_NW_SWITCHOVER at the first commit of a promoted flight (04 R105 step 4). -/
def Dev.switchDone (d : Dev) (f : Flt) : Dev :=
  match d.nw.promoted, d.nw.recogAt with
  | some code, some b =>
    let lat := min (d.nw.cycle - b) 0xFF
    ((d.put NW_SWSTAT_LAT lat).updNw fun n => { n with promoted := none, recogAt := none }).raiseNw
      (.mk' .nwSwitchover [f.other.num, f.num, code, lat])
  | _, _ => d

/-- Remove a scan's commit set from the flights; a joining flight's waits for its verification (04 R96, R110 step 5). -/
def Dev.dropScan (d : Dev) (s : Nat) : Dev :=
  let keep (n : NewelSt) (f : Flt) : Bool := match n.stair with
    | some st => st.flight == f.num
    | none => false
  d.updNw fun n => { n with
    sigA := if keep n .a then n.sigA else n.sigA.filter fun c => s < c.scan
    sigB := if keep n .b then n.sigB else n.sigB.filter fun c => s < c.scan, early := none }

/-- While the flights are not compared, a scan that both have signalled without fault counts for R114 (18 R498). -/
def Dev.bothSignalled (d : Dev) (f : Flt) (cs : CommitSet) : Dev :=
  if !d.uncompared then d
  else match (d.nw.sig f.other).find? fun c => c.scan == cs.scan with
    | some c => d.updNw fun n => { n with matched := if c.det.isNone && cs.det.isNone then min (n.matched + 1) 16 else 0 }
    | none => d

/-- Requests of a commit set whose chain the same commit set disables; they are returned (13 R357). -/
def CommitSet.returned (cs : CommitSet) (r : TxReq) : Bool :=
  match (cs.regw.filter fun e => e.1 == LG_CHCFG + 4 * r.chain).getLast? with
  | some e => !e.2.getLsbD 0
  | none => false

/-- A fetched commit set is committed to the Gallery, the Loggia and the Corridor (04 R95, R96; 13 R343, R357). -/
def Dev.commitSet (d : Dev) (f : Flt) (cs : CommitSet) : Dev :=
  let d1 := ((d.bothSignalled f cs).dropScan cs.scan).updNw fun n => { n with lastScan := some cs.scan, fetch := none, gate := true }
  let d2 := (cs.reqs.filter cs.returned).foldl (fun (d : Dev) r => d.lgReport r.chain r.id 3 0 0 0)
    ((((d1.updGl fun g => { g with shadow := some cs }).commitRegs cs).commitIo cs).updLg fun x =>
      { x with inbox := x.inbox ++ cs.reqs.filter fun r => !cs.returned r })
  let d3 := cs.msgs.foldl (fun d m => d.sendUp m) d2
  ((d3.updMod fun m => { m with inService := true }).switchDone f).firstCommit

/-- A withheld scan (04 R104). -/
def Dev.withhold (d : Dev) (s : Nat) : Dev := (d.dropScan s).updNw fun n => { n with fetch := none }

/-- The commit set of flight f that is present at this boundary and next in order. -/
def Dev.present (d : Dev) (f : Flt) : Option CommitSet :=
  match (d.nw.sig f).head? with
  | some cs => if cs.signalAt < d.nw.cycle then some cs else none
  | none => none

/-- Show the last digests (04 R123). -/
def Dev.showDig (d : Dev) (f : Flt) (v : W64) : Dev := d.updNw fun n =>
  match f with
  | .a => { n with digA := v }
  | .b => { n with digB := v }

/-- Start the fetch of a commit set, which the next boundary commits; while a joining flight verifies, its digest is
awaited (04 R96, R110 step 5). -/
def Dev.startFetch (d : Dev) (f : Flt) (cs : CommitSet) : Dev :=
  d.updNw fun n => { n with
    fetch := some (f.num, cs), early := none
    verifyQ := match n.stair with
      | some st => if d.get NW_STAIRSTAT_PHASE = 4 ∧ st.first ≤ cs.scan then n.verifyQ ++ [(cs.scan, cs.digest, n.cycle, cs.det)] else n.verifyQ
      | none => n.verifyQ }

/-- Low bits of a digest. -/
def dig24 (v : W64) : Int := (v.toNat % 2 ^ 24 : Nat)

/-- A divergence without a fault recognised at the same boundary (04 R103, R104). -/
def Dev.diverge (d : Dev) (act sb : Flt) (ca cb : CommitSet) : Dev :=
  let strike := d.bit NW_DIVSTAT_STRIKE
  let recent := match d.nw.returnScan with
    | some r => decide (ca.scan ≤ r + 1000)
    | none => false
  let pa := match act with | .a => (ca, cb) | .b => (cb, ca)
  let d1 := ((d.inc NW_DIVSTAT_COUNT).raiseNw (.mk' .nwDiverged
    [(ca.scan % 2 ^ 32 : Nat), dig24 pa.1.digest, dig24 pa.2.digest, ca.msgs.length, ca.reqs.length])).withhold ca.scan
  let d2 := d1.updNw fun n => { n with compared := 0, matched := 0 }
  if strike && recent then d2.failOne act 0x0D
  else (d2.put NW_DIVSTAT_STRIKE 1).failOne sb 0x0D

/-- A comparison that matched; STRIKE clears after 1,000 compared scans without a divergence (04 R103, R114). -/
def Dev.matchedOne (d : Dev) : Dev :=
  let d1 := d.updNw fun n => { n with matched := min (n.matched + 1) 16, compared := min (n.compared + 1) 1000 }
  if d1.nw.compared = 1000 then d1.put NW_DIVSTAT_STRIKE 0 else d1

/-- EV_NW_COMMON_FAULT (04 R102). [log 24 DEDUCED] -/
def Dev.commonFault (d : Dev) (code scan : Nat) : Dev := d.raiseNw (.mk' .nwCommonFault [code, (scan % 2 ^ 32 : Nat)])

/-- Comparison of the two flights at a boundary (04 R96, R102, R103). [log 24 DEDUCED] -/
def Dev.compare (d : Dev) (act sb : Flt) : Dev :=
  match d.present act, d.present sb with
  | some ca, some cb =>
    if ca.scan < cb.scan then d.startFetch act ca
    else if cb.scan < ca.scan then d.updNw fun n => n.updSig sb fun l => l.drop 1
    else
      let d0 := (d.showDig act ca.digest).showDig sb cb.digest
      match ca.det, cb.det with
      | some x, some y =>
        if x = y then
          let d1 := d0.commonFault x ca.scan
          if ca.digest = cb.digest then d1.matchedOne.startFetch act ca else d1.diverge act sb ca cb
        else d0.failAll [(act, x), (sb, y)]
      | some x, none => d0.failOne act x
      | none, some y => (d0.failOne sb y).startFetch act ca
      | none, none => if ca.digest = cb.digest then d0.matchedOne.startFetch act ca else d0.diverge act sb ca cb
  | some ca, none =>
    match d.nw.early with
    | none => d.updNw fun n => { n with early := some n.cycle }
    | some b =>
      if d.nw.cycle ≤ b then d
      else match ca.det with
        | some x => (d.showDig act ca.digest).failAll [(act, x), (sb, 0x0A)]
        | none => ((d.failOne sb 0x0A).showDig act ca.digest).startFetch act ca
  | none, some cb =>
    match d.nw.early with
    | none => d.updNw fun n => { n with early := some n.cycle }
    | some b =>
      if d.nw.cycle ≤ b then d
      else match cb.det with
        | some y => d.failAll [(act, 0x0A), (sb, y)]
        | none => d.failOne act 0x0A
  | none, none => d

/-- The code that a joining flight under verification reports for a scan, if its set is present (04 R102, R110 step 5). -/
def Dev.joiningDet (d : Dev) (s : Nat) : Option (Option Nat) :=
  match d.nw.stair with
  | some st => ((d.nw.sig (Flt.ofNum st.flight)).find? fun c => c.scan == s && decide (c.signalAt < d.nw.cycle)).map CommitSet.det
  | none => none

/-- One flight ACTIVE and none STANDBY: its set is fetched. A fault of kind D that it alone reports is a fault of kind H; one that a
joining flight reports too, by the digest deadline, is common (04 R97, R102). [log 24 DEDUCED] -/
def Dev.fetchAlone (d : Dev) (act : Flt) : Dev :=
  match d.present act with
  | none => d
  | some cs =>
    let d0 := d.showDig act cs.digest
    match cs.det with
    | none => d0.startFetch act cs
    | some x =>
      let joins := d.nw.stair.isSome && d.get NW_STAIRSTAT_PHASE == 4
      if d.joiningDet cs.scan = some (some x) then (d0.commonFault x cs.scan).startFetch act cs
      else if joins ∧ d.joiningDet cs.scan = none then
        match d.nw.early with
        | none => d.updNw fun n => { n with early := some n.cycle }
        | some b => if d.nw.cycle ≤ b then d else d0.failOne act x
      else d0.failOne act x

/-- Flights that R116 keeps from comparison: the active one's set is fetched, and faults of kind D are not judged (04 R116). -/
def Dev.fetchUncompared (d : Dev) (act : Flt) : Dev :=
  match d.present act with
  | some cs => (d.showDig act cs.digest).startFetch act cs
  | none => d

/-- Verification of a joining flight (04 R110 step 5): a match counts, a mismatch fails it with 0x10, a digest that does
not come by its deadline with 0x0A, a fault of kind D that it alone reports with that code. [log 28 DEDUCED] -/
def Dev.verifyJoin (d : Dev) : Dev :=
  match d.nw.stair, d.nw.verifyQ with
  | some st, (s, dig, b, det) :: rest =>
    let f := Flt.ofNum st.flight
    if d.get NW_STAIRSTAT_PHASE ≠ 4 then d.updNw fun n => { n with verifyQ := [] }
    else match (d.nw.sig f).find? fun c => c.scan == s && decide (c.signalAt < d.nw.cycle) with
      | some cs =>
        let d1 := (d.showDig f cs.digest).updNw fun n => (n.updSig f fun l => l.filter fun c => s < c.scan)
        let ok := d1.updNw fun n => { n with verifyQ := rest, stair := some { st with verified := st.verified + 1 } }
        if cs.digest ≠ dig then d1.failOne f 0x10
        else match cs.det with
          | some x => if det.isNone then d1.failOne f x else ok
          | none => ok
      | none => if b < d.nw.cycle then d.failOne f 0x0A else d
  | _, _ => d

/-- Scans of step 5 (04 R123). [log 28 DEDUCED] -/
def Dev.verifyScans (d : Dev) : Nat := max 4 (d.get NW_STAIRCFG_VERIFY)

/-! ## Recognition of faults (04 R98 to R101) -/

/-- Lowest code of a flight's recognised faults. -/
def lowest (l : List Nat) : Option Nat := l.foldl (fun b c => match b with
  | none => some c
  | some x => some (min x c)) none

/-- Kind H faults recognised at this boundary for a flight: reported, ACK_LOST and COMMIT_FETCH. -/
def Dev.recognised (d : Dev) (f : Flt) (fetchOk : Bool) : Option Nat :=
  let n := d.nw
  let st := d.fst f
  if st ≠ fsActive ∧ st ≠ fsStandby ∧ st ≠ fsSyncing then none
  else
    let rep := (n.faults.filter fun e => e.1 == f.num).map (·.2)
    let ack := if n.batchDue.contains f.num && !n.acked.contains f.num then [0x08] else []
    let fet := match n.fetch with
      | some (g, _) => if g = f.num ∧ !fetchOk then [0x09] else []
      | none => []
    lowest (rep ++ ack ++ fet)

/-- Faults of both flights at a boundary (04 R109): each flight fails with its lowest code, then promotion or loss. -/
def Dev.recognise (d : Dev) (fetchOk : Bool) : Dev :=
  let l := [Flt.a, Flt.b].filterMap fun f => (d.recognised f fetchOk).map fun c => (f, c)
  let d0 := d.updNw fun n => { n with faults := [] }
  if l.isEmpty then d0 else d0.failAll l

/-! ## The boundary -/

/-- A flight that is STANDBY while none is ACTIVE is promoted (04 R113). -/
def Dev.promoteLone (d : Dev) : Dev :=
  if d.active.isSome then d
  else if d.fst .a = fsStandby then d.promote .a 0
  else if d.fst .b = fsStandby then d.promote .b 0 else d

/-- The commit-set fetch has met an uncorrectable word: its address is recorded (03 R70). -/
def Dev.fetchMeets (d : Dev) (ue : Option (Nat × Nat)) : Dev := match d.nw.fetch, ue with
  | some (g, _), some p => d.uncorrected (.fl (Flt.ofNum g)) p.1 p.2 5
  | _, _ => d

/-- A Newel cycle boundary: `fetchOk` tells that the fetch in progress came in whole with a good CRC-32C, `lst` is the
Loggia's time at the strobe. What the boundary changes of STATUS is sent at its end (01 R44). [log 134 DESIGN CHOICE] -/
def Dev.newelCycle (d : Dev) (fetchOk : Bool) (ue : Option (Nat × Nat)) (lst : Nat) : Dev :=
  let d0 := (d.fetchMeets ue).updNw fun n => { n with cycle := n.cycle + 1 }
  if d0.nw.stopped then d0
  else
    let d1 := ((d0.dayFalls .a).dayFalls .b).recognise (fetchOk && ue.isNone)
    -- a fetch that a promotion begins at this boundary is committed at the next (04 R105)
    let d2 := if d1.nw.fetch ≠ d0.nw.fetch then d1
      else match d1.nw.fetch with
        | some (g, cs) => (d1.commitSet (Flt.ofNum g) cs).switchOver
        | none => d1
    let d3 := match d2.nw.stair with
      | some st => if d2.get NW_STAIRSTAT_PHASE = 4 ∧ d2.verifyScans ≤ st.verified then d2.stairDone else d2
      | none => d2
    let d4 := d3.verifyJoin.promoteLone
    let d5 := if d4.nw.fetch.isSome then d4
      else match d4.pair, d4.active with
        | some (act, sb), _ => if d4.uncompared then d4.fetchUncompared act else d4.compare act sb
        | none, some act => d4.fetchAlone act
        | none, none => d4
    let d6 := match d5.nw.lastMap with
      | some m => if d5.lg.paused then d5 else d5.lgStrobe (m.at d5.nw.cycle) lst d5.nw.synth
      | none => d5
    let d7 := if d6.nw.modState = msFailsafe then d6.glFailsafe 1 else d6
    d7.releaseBatch.statusNow false

/-! ## Meanings -/

/-- TIME_MAP_SYNTHESIS: no TIME_MAP for 4 Newel cycles (01 R33, 15 R407). -/
def execTimeMapSynthesis (s : State) : Host.Outcome State Fault Refusal :=
  s.upd fun d => match d.nw.lastMap with
    | some m => if 4 ≤ d.nw.sinceMap then
        d.updNw fun n => { n with newMap := some (d.synthMap m (n.cycle + 1)), synth := true }
      else d
    | none => d

/-- TIME_MAP received by the Newel (15 R406). -/
def execTimeMap (q : Nat) (m : TimeMap) (s : State) : Host.Outcome State Fault Refusal :=
  s.upd fun d => d.acceptDown q fun d => d.mapArrives m

/-- Frames that a flight takes into its memory: each must pass its CRC-32C and follow on the last number. `bad` is the place of the
first frame whose check fails in this flight (01 R31). -/
def takeFrames (bad : Option Nat) : Nat → Nat → List Frame → List Frame × Nat × Bool
  | _, n, [] => ([], n, false)
  | i, n, f :: t =>
    if bad = some i ∨ f.number ≠ n then ([], n, true)
    else
      let r := takeFrames bad (i + 1) (n + 1) t
      (f :: r.1, r.2.1, r.2.2)

/-- A flight whose frame memory begins anew takes the batch's first number. -/
def FlightSt.expect (x : FlightSt) (batch : List Frame) : Nat :=
  if x.nextNo = 0 then (batch.head?.map Frame.number).getD 0 else x.nextNo

/-- The released batch reaches a flight's frame memory: the frames before one that fails its check are taken, none from it on, and
the fault is reported (01 R31, R32). -/
def Dev.deliver (d : Dev) (f : Flt) (bad : Option Nat) : Dev :=
  let x := d.fl f
  if !d.nw.batchDue.contains f.num || x.frameBad then d
  else
    let r := takeFrames bad 0 (x.expect d.nw.batch) d.nw.batch
    let d1 := d.updFl f fun x => { x with
      frames := x.frames ++ r.1, nextNo := r.2.1, frameBad := r.2.2
      lastBatch := if r.2.2 then x.lastBatch else d.nw.cycle }
    if r.2.2 then d1.report f 0x07 else d1

/-- BATCH_DELIVERED (01 R31, R32). [log 138 DESIGN CHOICE] -/
def execBatchDelivered (f : Flt) (bad : Option Nat) (s : State) : Host.Outcome State Fault Refusal := s.upd fun d => d.deliver f bad

/-- BATCH_ACK (04 R98). -/
def execBatchAck (f : Flt) (s : State) : Host.Outcome State Fault Refusal :=
  s.upd fun d => d.updNw fun n => { n with acked := if n.acked.contains f.num then n.acked else n.acked ++ [f.num] }

/-- NEWEL_FAULT: the Newel closes the commit gate and resets; frame number and cycle count are kept (04 R121). -/
def execNewelFault (s : State) : Host.Outcome State Fault Refusal :=
  s.upd fun d => d.updNw fun n => { n with stopped := true, gate := false, fetch := none, early := none }

end Sys2Proof.Machine
end

