-- ==== Sys2Proof/Machine/Online.lean ====
section
/-! DEFINITION. On-line change: staging, activation and the switch at a snapshot; microcode staged and activated by the
Newel (05 R144, R145; 06 R177, R178; 07 R198; 18 R497; 20 R549, R550). -/

namespace Sys2Proof.Machine

/-! ## Loaded values (20 R540) -/

/-- The fields of a register that an image loads take their loaded value; every other bit stays. -/
def Dev.loadReg (d : Dev) (key : Nat) (v : W32) : Dev :=
  let m : W32 := BitVec.ofNat 32 (rwMask (if key / 2 ^ 24 = 4 then key - 2 ^ 24 else key))
  d.wr key ((d.rd key &&& ~~~m) ||| (v &&& m))

/-- Value that a configuration gives a register: the loaded one, else the reset value. -/
def Cfg.regVal (c : Cfg) (key : Nat) : W32 := mget (regReset key) c.regs key

/-- A point's entry as the configuration makes it: initial value, SOURCE 0, the template's bits (05 R127, 06 R178). [log 96 DEDUCED] -/
def PointCfg.entry (p : PointCfg) (t : Nat) : Point := ⟨clsRange p.cls p.initial, p.template &&& 0x0700, p.suite, p.cls, t⟩

/-- A status with the bits that come from configuration. -/
def stConfig (s template : BitVec 16) : BitVec 16 := (s &&& ~~~(0x0700 : BitVec 16)) ||| (template &&& 0x0700)

/-! ## The switch in a flight (06 R178) -/

/-- Points whose configuration differs between two images. -/
def changedPoints (o n : Cfg) : List Nat :=
  ((o.points.map (·.1)) ++ (n.points.map (·.1)).filter fun i => !mhas o.points i).filter fun i => mget? o.points i != mget? n.points i

/-- A force on a point that the new configuration removes or whose class it changes is dropped (05 R144). -/
def Dev.dropForce (d : Dev) (f : Flt) (n : Nat) : Dev :=
  match (d.fl f).forceOf n with
  | none => d
  | some (e, fo) => ((d.updFl f fun x => { x with forces := mdel x.forces e }).ptStat f).raiseFl f .flForceDropped
      [n, fo.value.toNat] (some ((d.fl f).pt n).suite)

/-- A point at the switch: kept while its class stays, initial where it is new or its class changes, class 0 where it is
removed (06 R178). -/
def Dev.switchPoint (d : Dev) (f : Flt) (o n : Cfg) (i : Nat) : Dev :=
  match mget? n.points i with
  | none => (d.dropForce f i).updFl f fun x => (x.noteWrite i).putPt i Point.zero
  | some q =>
    let same := match mget? o.points i with
      | some p => p.cls == q.cls
      | none => false
    if same then d.updFl f fun x =>
      let p := x.pt i
      let y := match x.forceOf i with
        | some (e, fo) => { x with forces := mput x.forces e { fo with underStatus := stConfig fo.underStatus q.template } }
        | none => x
      y.putPt i { p with suite := q.suite, status := stConfig p.status q.template }
    else (d.dropForce f i).updFl f fun x =>
      let y := x.noteWrite i
      { y with pts := mset Point.zero y.pts i (q.entry x.mapTime), age := mdel y.age i }

/-- Subscriptions to points that the change removes or moves out of reach are dropped; a last entry of class 0 follows
(05 R145). -/
def Dev.switchSubs (d : Dev) (f : Flt) : Dev :=
  let gone := (d.fl f).subs.filter fun e => readStatus e.2.role e.2.suite ((d.fl f).pt e.2.point) ≠ E_OK
  if gone = [] then d
  else (d.updFl f fun x => { x with
    subs := x.subs.filter fun e => !gone.any fun g => g.1 == e.1
    dropped := x.dropped ++ gone.map fun e => (e.2.session, e.2.point) }).ptStat f

/-- VALID of every timer is cleared (07 R198). -/
def FlightSt.clearValid (x : FlightSt) : FlightSt :=
  { x with lmem := x.lmem.filterMap fun e =>
      if kT 0 0 ≤ e.1 ∧ e.1 < kT 1024 0 ∧ e.1 % 2 = 1 then
        (let v := setBitW e.2 24 false; if v = 0 then none else some (e.1, v))
      else some e }

/-- Locals of tasks that the new image does not hold, or that it holds anew, are zero (06 R178). -/
def FlightSt.switchLocals (x : FlightSt) (o n : Cfg) : FlightSt :=
  let kept (t : Nat) : Bool := mhas o.tasks t && mhas n.tasks t
  { x with lmem := x.lmem.filter fun e => !(decide (kL 0 0 ≤ e.1 ∧ e.1 < kL 64 0) && !kept ((e.1 - kL 0 0) / 256)) }

/-- Registers that a switch loads: those of the sections that differ, and the task enables always (06 R178, 20 R549). [log 97 DESIGN CHOICE] -/
def switchRegs (o n : Cfg) : List Nat :=
  let ch := changedSections o n
  FL_TASKEN0 :: FL_TASKEN1 :: (((o.regsOn ++ n.regsOn).filter fun e => ch.contains e.2).map (·.1))

/-- Sections whose change makes a new profile epoch: REGS_ONLINE and LOCALPROF (09 R262, 14 R390). [log 97 DESIGN CHOICE] -/
def newProfile (o n : Cfg) : Bool := (changedSections o n).any fun id => id == 0x03 || id == 0x54

/-- What the Foyer does at a configuration commit: the key policy's recovery clients and the operator update key are copied into
the journal, and TAIUTC into the backup domain (20 R550; 15 R410; 16 R453; 18 R488). [log 130 DEDUCED] -/
def Dev.configCommit (d : Dev) (c : Cfg) : Dev :=
  let d1 : Dev := { d with jnl := { d.jnl with clients := c.clients.filter fun e => e.2.recovery, updateKey := c.updateKey } }
  d1.put FY_BKSTAT_TAIUTC (c.tz.taiutc % 256).toNat

/-- Bytes that the retained area uses from byte 64 on (06 R172, R180). -/
def Cfg.retUsed (c : Cfg) : Nat :=
  c.retMarkBytes + 8 * c.retTims + 8 * c.retCnts + 8 * (c.points.filter fun (e : Nat × PointCfg) => stRetain e.2.template).length

/-- The switch of a flight to its shadow image (06 R178). The other flight runs the former image until it switches too. -/
def Dev.onlineSwitch (d : Dev) (f : Flt) : Dev :=
  match (d.fl f).shadow with
  | none => d
  | some n =>
    let o := d.cfgOf f
    let d1 :=
      if (d.fl f).own.isSome then d.updFl f fun x => { x with own := none }
      else ((d.updMod fun m => { m with cfg := n }).configCommit n).updFl f.other fun x => { x with own := some (x.own.getD o) }
    let keys := switchRegs o n
    let d2 := keys.foldl (fun d k => if k / 2 ^ 24 = 3 then d.loadReg (f.key k) (n.regVal k) else d) d1
    let d3 := ((changedPoints o n).foldl (fun d i => d.switchPoint f o n i) d2).switchSubs f
    let d4 := d3.updFl f fun x => { (x.switchLocals o n).clearValid with
      shadow := none, stage := [], former := some o, switchDue := false, switched := true, oldVer := o.progVersion, fullDue := true
      online := (keys.filter fun k => k / 2 ^ 24 = 6).map fun k => (k, n.regVal k) }
    let d5 := (((((d4.put (FL_PROGVER_ACTIVE.at f) n.progVersion).put (FL_PROGVER_SHADOW.at f) o.progVersion).put
      (FL_PROGSTAT_STAGED.at f) 0).put (FL_PROGSTAT_PENDING.at f) 0).put (FL_PROGSTAT_REVERTIBLE.at f) 1).inc
      (FL_PROGSTAT_SWITCHES.at f)
    let d6 := if newProfile o n then (d5.put (FL_RETAIN_USED.at f) n.retUsed).updFl f fun x => { x with
        enf := { x.enf with epoch := (x.enf.epoch + 1) % 256 }, mac := { x.mac with profileDue := 3, localDue := true } } else d5.put (FL_RETAIN_USED.at f) n.retUsed
    d6.raiseFl f .flProgSwitch [o.progVersion, n.progVersion, (((d.fl f).scan.getD 0) % 2 ^ 32 : Nat)]

/-! ## Staging and activation (06 R177; 18 R497) -/

/-- Reply with nothing but a status, of the flights. -/
def Dev.replyCode (d : Dev) (f : Flt) (typ : Nat) (h : MsgHdr) (code : Nat) : Dev := d.reply f typ h code []

/-- The images that a flight would run with what it has staged. -/
def Dev.stagedImages (d : Dev) (f : Flt) : List Byte × List Byte :=
  let c := d.cfgOf f
  ((mget? (d.fl f).stage (256 + 0x10)).getD c.image, (mget? (d.fl f).stage (256 + 0x11)).getD c.program)

/-- What the image just staged breaks: the checks that it alone decides (07 R187, 20 R548). -/
def Dev.stageBad (d : Dev) (f : Flt) (comp : Nat) (bs : List Byte) : List ImgErr :=
  if comp = 0x10 then configBad (d.get FY_UCSTAT_LIFECYCLE) bs
  else (kzlBad (cfgOfImages (d.stagedImages f).1 bs) bs).filter fun e => e.2.2 ≠ 11

/-- A block of component 0x10 or 0x11 in a flight's shadow area. -/
def stageIn (f : Flt) (h : MsgHdr) (comp : Nat) (last : Bool) (data : List Byte) (d : Dev) : Dev :=
  let bs := mget [] (d.fl f).stage comp ++ data
  if h.role = 0 ∨ 5 < h.role then d.replyCode f 0x60 h E_ROLE
  else if !last then (d.updFl f fun x => { x with stage := mput x.stage comp bs }).replyCode f 0x60 h E_OK
  else if d.stageBad f comp bs ≠ [] then
    (d.updFl f fun x => { x with stage := mdel x.stage comp }).replyCode f 0x60 h E_CONFIG
  else
    let d1 := d.updFl f fun x => { x with stage := mput (mdel x.stage comp) (256 + comp) bs }
    let p := d1.stagedImages f
    let c := cfgOfImages p.1 p.2
    (((d1.updFl f fun x => { x with shadow := some c }).put (FL_PROGSTAT_STAGED.at f) 1).put (FL_PROGVER_SHADOW.at f)
      c.progVersion).replyCode f 0x60 h E_OK

/-- UPDATE_STAGE of microcode, which the Newel takes (18 R497; 05 R131). [log 97 DESIGN CHOICE] -/
def Dev.updateStage (d : Dev) (h : MsgHdr) (comp : Nat) (last : Bool) (data : List Byte) : Dev :=
  if h.role = 0 ∨ 5 < h.role then d.replyNow 0x60 h E_ROLE []
  else if comp = 2 ∨ comp = 4 ∨ comp = 5 then
    (d.updNw fun n => { n with
      load := mput n.load comp (if n.staged.contains comp then data else mget [] n.load comp ++ data)
      staged := if last then n.staged.filter (· ≠ comp) ++ [comp] else n.staged.filter (· ≠ comp) }).replyNow 0x60 h E_OK []
  else d.replyNow 0x60 h E_RANGE []

/-- ACTIVATE of components 0x10 and 0x11 in a flight; `ok` tells that the image's measurement matches its stage
(06 R177, 20 R549). -/
def activateIn (f : Flt) (h : MsgHdr) (ok : Bool) (d : Dev) : Dev :=
  let code := if h.role = 0 ∨ 5 < h.role then E_ROLE else match (d.fl f).shadow with
    | none => E_SEQ
    | some n =>
      if needsRestart (d.cfgOf f) n then E_NEEDS_RESTART
      else if d.nw.stair.isSome then E_BUSY_SERVICE
      else if !ok then E_SEQ
      else if imagesBad (d.get FY_UCSTAT_LIFECYCLE) n.image n.program ≠ [] then E_CONFIG else E_OK
  let d1 := (d.put (FL_PROGSTAT_RESULT.at f) code).replyCode f 0x61 h code
  if code = E_OK then (d1.put (FL_PROGSTAT_PENDING.at f) 1).updFl f fun x => { x with switchDue := true } else d1

/-- The Newel's internal reset (04 R121). -/
def Dev.nwStop (d : Dev) : Dev := d.updNw fun n => { n with stopped := true, gate := false, fetch := none, early := none }

/-- The Gallery reloads its microcode: lands keep what they last latched, its timed work waits, and a Jalmethen link that a pause
of 20 ms outlasts is lost (18 R497). [log 51 DESIGN CHOICE] -/
def Dev.glPause (d : Dev) : Dev :=
  let lost (p : Nat) (d : Dev) : Dev := if d.get (GL_JMLCFG_LOSTMS.ix p) ≤ 20 then d.jmlLost p else d
  lost 1 (lost 0 (d.updGl fun g => { g with paused := true }))

/-- The Loggia reloads its microcode: queued requests are RETURNED with reason 0, what is on the air is lost, and LOCKED is
0 until the first strobe (18 R497). -/
def Dev.lgPause (d : Dev) : Dev :=
  let d1 := (List.range 8).foldl (fun d n => (d.returnAll n 0).updRc n fun c => { c with tx := none }) d
  ((d1.updLg fun x => { x with paused := true, stepped := false }).put LG_TIMESTAT_LOCKED 0)

/-- ACTIVATE of microcode, which the Newel takes (18 R497; 05 R131). [log 97 DESIGN CHOICE] -/
def Dev.activate (d : Dev) (h : MsgHdr) (comp : Nat) (ok : Bool) : Dev :=
  if h.role = 0 ∨ 5 < h.role then d.replyNow 0x61 h E_ROLE []
  else if !d.nw.staged.contains comp ∨ !ok then d.replyNow 0x61 h E_SEQ []
  else
    let d1 := (d.replyNow 0x61 h E_OK []).updNw fun n => { n with staged := n.staged.filter (· ≠ comp) }
    match comp with
    | 2 => d1.nwStop
    | 4 => d1.glPause
    | 5 => d1.lgPause
    | _ => d1

/-! ## Meanings -/

end Sys2Proof.Machine
end

