-- ==== Sys2Proof/Machine/Messages.lean ====
section
/-! DEFINITION. What the flights do at a snapshot with the messages, register writes and radio records of its frames, and the
commands that bring these to the Newel (01 R27, R40; 05 R139; 06 R153, R156, R574; 14 R365). -/

namespace Sys2Proof.Machine

/-! ## Inputs as a flight applies them -/

/-- An accepted ACK of a node: delivery is confirmed, and a sleepy partner's wake observed (14 R372, R380, R388). -/
def Dev.nodeAck (d : Dev) (f : Flt) (a ts acked us : Nat) : Dev :=
  let d1 := d.observe f a ts us
  match (d1.fl f).mac.queue.find? fun h => h.ctr == acked && h.stage != 0 && h.dst == a with
  | none => d1
  | some h => d1.giveUp f h 0

/-- JOIN_REQ (14 R375). -/
def Dev.joinReq (d : Dev) (f : Flt) (n eui ctr : Nat) (mic : Bool) : Dev :=
  d.joinCheck f n eui ctr mic fun d c => (d.joined f c (d.nodeSt f c.addr)).joinResp f n 0x6 c.addr

/-- Whether this module serves a node: its own, unless its group is still with the adopter, or one of a group that it has adopted (14 R385,
R386; 08 R226). -/
def Dev.serves (d : Dev) (f : Flt) (c : NodeCfg) : Bool :=
  let x := d.fl f
  match c.home, c.group with
  | none, some g => !d.groupAway f g
  | none, none => true
  | some p, g => x.mac.adopted.any fun a => a.peer == p && some a.group == g && (match a.boundary with
    | some b => decide (x.mapTime < b)
    | none => true)

/-- REJOIN_REQ: the node takes a free place on the chain that heard it, or its configured place on its own chain (14 R385, R387). -/
def Dev.rejoinReq (d : Dev) (f : Flt) (n eui ctr : Nat) (mic : Bool) : Dev :=
  d.joinCheck f n eui ctr mic fun d c =>
    let st := d.nodeSt f c.addr
    if !d.serves f c then d
    else if c.chain = n ∧ c.home.isNone then
      (d.joined f c { st with chain := c.chain, slot := c.slot, member := c.member }).joinResp f n 0x8 c.addr
    else match d.freePlace f n with
      | some (q, m) => (d.joined f c { st with chain := n, slot := q, member := m }).joinResp f n 0x8 c.addr
      | none => d

/-- A REPLY to a point message whose count is out of range or disagrees with its length (05 R148). -/
def badCountIn (f : Flt) (h : MsgHdr) (typ : Nat) (d : Dev) : Dev :=
  d.reply f typ h E_RANGE (if typ = 0x10 then [0, 0, 0, 0] else posBody none)

/-- What a flight does with one input; `locked` tells that RWL fields refuse a register write (05 R139; 06 R156, R574). -/
def Dev.applyIn (f : Flt) (locked : Bool) (d : Dev) (m : FlightIn) : Dev :=
  match m with
  | .pointRead h ps => pointReadIn f h ps d
  | .subscribe h s es => subscribeIn f h s es d
  | .unsubscribe h s ps => unsubscribeIn f h s ps d
  | .clearSession h s => clearSubsIn f h (fun x => x.session == s) d
  | .clearAll h => clearSubsIn f h (fun _ => true) d
  | .pointWrite h es => pointWriteIn f h es d
  | .forceSet h es => forceSetIn f h es d
  | .badCount h typ => badCountIn f h typ d
  | .meshUnicast k h dst fl ms data => meshUnicast k h dst fl ms data f d
  | .meshMulticast h fl ms data => meshMulticast h fl ms data f d
  | .meshFwBlock h b data => meshFwBlock h b data f d
  | .meshFwControl h i => meshFwControl h i f d
  | .updateStage h c last data => stageIn f h c last data d
  | .activate h _ ok => activateIn f h ok d
  | .regWrite h r o vs => regWriteIn f locked h r o vs d
  | .regRead h r n o => regReadIn f h r n o d
  | .fieldWrite k v => d.flWrite f locked k v
  | .taskEnable n v => if n < 2 then d.taskEnWrite f n v else d
  | .scheduleEnable n v => if n < 8 then d.schedEnWrite f n v else d
  | .retainFull => d.retainFull f
  | .enfEnable => d.enfEnable f
  | .enfDisable forced => d.enfDisable f forced
  | .turnReset => d.updEnf f fun e => { e with turnReset := true }
  | .chainEn n on => d.chainWritten f (n % 8) on
  | .report id outcome start air => d.macReport f id outcome start air
  | .chainStatus n flags sum budget => d.macStatusRec f (n % 8) flags sum budget
  | .nodeData n a ctr mic ts data => d.macAccept f (n % 8) a ctr mic true fun d => d.meshUp f 0 (n % 8) a ts 0 data
  | .nodeAck n a ctr mic ts acked us => d.macAccept f (n % 8) a ctr mic false fun d => d.nodeAck f a ts acked us
  | .joinReq again n eui ctr mic => if again then d.rejoinReq f (n % 8) eui ctr mic else d.joinReq f (n % 8) eui ctr mic
  | .nodeStatus n a ctr mic ts p => d.macAccept f (n % 8) a ctr mic true fun d => d.nodeStatus f (n % 8) a ts p
  | .coordRx ts serial groups boundary mic =>
    if (List.range 8).all fun n => d.role f n != 3 then d
    else if mic then d.coordRx f ts serial groups boundary else d.inc (FL_MACCNT_REPLAY.at f)

/-- The input that a frame carries. -/
def Frame.input (fr : Frame) : Option FlightIn :=
  match fr.frame.body with
  | .input m => some m
  | .corridor bs => parseMsg bs
  | _ => none

/-- The frames up to and including those of the scan's grid cycle (06 R155). -/
def FlightSt.taken (x : FlightSt) : List Frame := x.frames.filter fun fr => decide (fr.cycle ≤ x.grid)

/-! ### Receptions read from their PSDU (14 R364 to R366) -/

/-- Offset of the payload in a PSDU: behind the relays and a train's end (14 R364). -/
def payloadAt (psdu : List Byte) : Nat := 14 + 2 * field psdu 12 1 + 8 * b2n (bitOf (field psdu 0 1) 5)

/-- The payload as it stands, before the MIC, and before the stamp that follows it in BEACON, COORD and TRAIN frames (14 R364). -/
def rawPayload (psdu : List Byte) : List Byte :=
  let o := payloadAt psdu
  let stamp := if field psdu 0 1 % 16 ≤ 1 ∨ bitOf (field psdu 0 1) 5 then 8 else 0
  (psdu.drop o).take (psdu.length - o - 8 - stamp)

/-- What the MAC reads from a PSDU that a chain has received at an instant: a node's frame to this segment and module, or another module's
COORD. Its MIC is verified under the key of its type and the EUI of its source; none where the frame is nothing that the module takes (14
R364 to R367, R372 to R375, R370). [log 135 DESIGN CHOICE] -/
def Dev.readPsdu (d : Dev) (f : Flt) (n ts : Nat) (psdu : List Byte) : Option FlightIn :=
  let typ := field psdu 0 1 % 16
  let src := field psdu 6 2
  let ctr := field psdu 8 4
  let raw := rawPayload psdu
  let gen (k : Nat) : Nat := mget 0 (d.fl f).mac.keys k
  let ours := decide (psdu.length ≥ payloadAt psdu + 8) && field psdu 2 2 == d.get (FL_MACCFG_SEGID.at f) &&
    decide (0xFFF0 ≤ field psdu 4 2 ∧ field psdu 4 2 ≤ 0xFFF7)
  let eui := ((d.cfgOf f).nodeCfg src).elim 0 (·.eui)
  let mic (e : Nat) : Bool := Config.micOk 2 (gen 2) e psdu
  let clear := (List.range raw.length).map (Config.micClear 2 (gen 2) eui psdu)
  match typ with
  | 0x1 =>
    let serial := field raw 18 8
    some (.coordRx ts serial ((List.range (field raw 27 1)).map fun i => field raw (38 + 2 * i) 2) (field raw 30 8)
      (Config.micOk 3 (gen 3) serial psdu))
  | 0x2 => if ours then some (.nodeData n src ctr (mic eui) ts clear) else none
  | 0x3 => if ours then some (.nodeAck n src ctr (mic eui) ts (field raw 0 4) (field raw 4 4)) else none
  | 0x5 => if ours && src == 0xFFFE then some (.joinReq false n (field raw 0 8) ctr (mic (field raw 0 8))) else none
  | 0x7 => if ours then some (.joinReq true n (field raw 0 8) ctr (mic (field raw 0 8))) else none
  | 0x9 => if ours then some (.nodeStatus n src ctr (mic eui) ts clear) else none
  | _ => none

/-- A RECEIVE record: a frame of type 0xF is counted as malformed, a chain OFF takes nothing, and COORD frames are taken by the COORD chain
(13 R353; 14 R360, R365). -/
def Dev.receive (d : Dev) (f : Flt) (n ts : Nat) (psdu : List Byte) : Dev :=
  let typ := field psdu 0 1 % 16
  if d.role f n = 0 then d
  else if typ = 0xF then d.updMac f fun m => { m with malformed := m.malformed + 1 }
  else if typ = 0x1 ∧ d.role f n ≠ 3 then d
  else match d.readPsdu f n ts psdu with
    | some m => Dev.applyIn f true d m
    | none => d

/-- The load of a frame: its body, or the radio input that it carries (05 R139 step 1, 14 R365). -/
def Dev.loadFrame (f : Flt) (d : Dev) (fr : Frame) : Dev :=
  match fr.input, fr.frame.body with
  | some m, _ => if m.radio then Dev.applyIn f true d m else d
  | none, .receive n ts _ _ _ _ _ psdu => d.receive f (n % 8) ts psdu
  | none, b => d.applyFrame f b

/-- Step 1 of R139: the last TIME_MAP gives the scan its time, and the loads follow in frame-number order (05 R128, R139). [log 47 DEDUCED] -/
def Dev.loads (d : Dev) (f : Flt) (take : List Frame) : Dev :=
  let d1 := d.updFl f fun x => { x with frames := x.frames.filter fun fr => decide (x.grid < fr.cycle) }
  let d2 := take.foldl (fun d fr => match fr.frame.body with
    | .timeMap m => d.updFl f fun x => { x with map := some m, mapTime := m.ns }
    | _ => d) d1
  take.foldl (Dev.loadFrame f) d2

/-- Inputs of some frames that a test selects, applied in frame-number order. -/
def Dev.applyIns (d : Dev) (f : Flt) (locked : Bool) (sel : Frame → FlightIn → Bool) (l : List Frame) : Dev :=
  (l.filterMap fun fr => match fr.input with
    | some m => if sel fr m then some m else none
    | none => none).foldl (Dev.applyIn f locked) d

/-! ## Corridor messages at the Newel -/

/-- REG_READ of a flight's registers waits for the snapshot of a flight that will consume it; the Newel answers all others, and with
E_PD where the named flight will not (04 R576, 16 R450). -/
def Dev.regRead (d : Dev) (h : MsgHdr) (region count offset : Nat) : Dev :=
  let m : FlightIn := .regRead h region count offset
  if region = 3 ∨ region = 4 then
    if d.takesReads (Flt.ofNum (region - 3)) then d.ingress m.frame
    else (d.ingress (corFrame ⟨h.seq, 0x40, 0, 0, 0, h.suite, h.role, h.origin, m.payload⟩)).replyNow 0x40 h E_PD (regBody 0xFFFF [])
  else (d.ingress (corFrame ⟨h.seq, 0x40, 0, 0, 0, h.suite, h.role, h.origin, m.payload⟩)).regReadNow h region count offset

/-- The message of an input as it came. -/
def FlightIn.down (m : FlightIn) : DownMsg :=
  let h := m.hdr
  ⟨h.seq, m.typ, 0, 0, 0, h.suite, h.role, h.origin, m.payload⟩

/-! ## Meanings -/

/-- POINT_READ operation 0 (05 R139, R148). -/
def execPointRead (h : MsgHdr) (points : List Nat) (s : State) : Host.Outcome State Fault Refusal :=
  s.upd fun d => d.toFlights (.pointRead h points)

/-- POINT_READ operation 1 (05 R145). -/
def execSubscribe (h : MsgHdr) (session : Nat) (entries : List (Nat × Nat × Nat)) (s : State) :
    Host.Outcome State Fault Refusal :=
  s.upd fun d => d.toFlights (.subscribe h session entries)

/-- POINT_READ operation 2 (05 R145). -/
def execUnsubscribe (h : MsgHdr) (session : Nat) (points : List Nat) (s : State) : Host.Outcome State Fault Refusal :=
  s.upd fun d => d.toFlights (.unsubscribe h session points)

/-- POINT_READ operation 3 (05 R147). -/
def execClearSession (h : MsgHdr) (session : Nat) (s : State) : Host.Outcome State Fault Refusal :=
  s.upd fun d => d.toFlights (.clearSession h session)

/-- POINT_READ operation 4 (05 R147). -/
def execClearAll (h : MsgHdr) (s : State) : Host.Outcome State Fault Refusal :=
  s.upd fun d => d.toFlights (.clearAll h)

/-- POINT_WRITE (05 R140). -/
def execPointWrite (h : MsgHdr) (entries : List (Nat × W32)) (s : State) : Host.Outcome State Fault Refusal :=
  s.upd fun d => d.toFlights (.pointWrite h entries)

/-- FORCE_SET (05 R142). -/
def execForceSet (h : MsgHdr) (entries : List (Nat × Nat × W32)) (s : State) : Host.Outcome State Fault Refusal :=
  s.upd fun d => d.toFlights (.forceSet h entries)

/-- REG_READ of the Corridor (16 R450, 04 R576). -/
def execRegRead (h : MsgHdr) (region count offset : Nat) (s : State) : Host.Outcome State Fault Refusal :=
  s.upd fun d => d.acceptDown h.seq fun d => d.regRead h region count offset

/-- REG_WRITE of the Corridor: the Newel's own registers at once, all others at the snapshot (16 R450, 06 R156). -/
def execRegWrite (h : MsgHdr) (region offset : Nat) (values : List W32) (s : State) : Host.Outcome State Fault Refusal :=
  s.upd fun d =>
    let m : FlightIn := .regWrite h region offset values
    if region = 5 then d.toNewel m.down fun d => d.nwRegWrite h offset values else d.toFlights m

/-- UPDATE_STAGE: programs and configuration to the flights' shadow areas, microcode to the Newel (18 R497, 06 R177). -/
def execUpdateStage (h : MsgHdr) (comp : Nat) (last : Bool) (data : List Byte) (s : State) : Host.Outcome State Fault Refusal :=
  s.upd fun d =>
    let m : FlightIn := .updateStage h comp last data
    if comp = 0x10 ∨ comp = 0x11 then d.toFlights m else d.toNewel m.down fun d => d.updateStage h comp last data

/-- ACTIVATE (06 R177, 18 R497). -/
def execActivate (h : MsgHdr) (comp : Nat) (ok : Bool) (s : State) : Host.Outcome State Fault Refusal :=
  s.upd fun d =>
    let m : FlightIn := .activate h comp ok
    if comp = 0x10 ∨ comp = 0x11 then d.toFlights m else d.toNewel m.down fun d => d.activate h comp ok

/-- MESH_DOWN_UNICAST (14 R377, R388). -/
def execMeshDownUnicast (h : MsgHdr) (dst flags ms : Nat) (data : List Byte) (s : State) : Host.Outcome State Fault Refusal :=
  s.upd fun d => d.toFlights (.meshUnicast 0x2 h dst flags ms data)

/-- MESH_DOWN_MULTICAST (14 R388). -/
def execMeshDownMulticast (h : MsgHdr) (flags ms : Nat) (data : List Byte) (s : State) : Host.Outcome State Fault Refusal :=
  s.upd fun d => d.toFlights (.meshMulticast h flags ms data)

/-- MESH_DOWN_FWBLOCK (14 R389). -/
def execMeshDownFwblock (h : MsgHdr) (block : Nat) (data : List Byte) (s : State) : Host.Outcome State Fault Refusal :=
  s.upd fun d => d.toFlights (.meshFwBlock h block data)

/-- MESH_DOWN_FW_CONTROL (14 R389). -/
def execMeshDownFwControl (h : MsgHdr) (interval : Nat) (s : State) : Host.Outcome State Fault Refusal :=
  s.upd fun d => d.toFlights (.meshFwControl h interval)

/-- MESH_DOWN_COMMAND (14 R388). -/
def execMeshDownCommand (h : MsgHdr) (dst flags ms : Nat) (data : List Byte) (s : State) : Host.Outcome State Fault Refusal :=
  s.upd fun d => d.toFlights (.meshUnicast 0xE h dst flags ms data)

/-- TASK_ENABLE: a write of FL_TASKEN0 or FL_TASKEN1, which both flights apply at a snapshot (06 R167). -/
def execTaskEnable (n : Nat) (v : W32) (s : State) : Host.Outcome State Fault Refusal := s.upd fun d => d.arrive (.taskEnable n v)

/-- RETAIN_FULL: FL_RETAIN.FULL written 1 (06 R176). -/
def execRetainFull (s : State) : Host.Outcome State Fault Refusal := s.upd fun d => d.arrive .retainFull

/-- SCHEDULE_ENABLE: a write of FL_SCHEDEN[n] (10 R282). -/
def execScheduleEnable (n : Nat) (v : W32) (s : State) : Host.Outcome State Fault Refusal :=
  s.upd fun d => d.arrive (.scheduleEnable n v)

/-- ENF_ENABLE: FL_ENFCTL.EN written 1 (09 R262). -/
def execEnfEnable (s : State) : Host.Outcome State Fault Refusal := s.upd fun d => d.arrive .enfEnable

/-- ENF_DISABLE: EN written 0 (09 R262). -/
def execEnfDisable (s : State) : Host.Outcome State Fault Refusal := s.upd fun d => d.arrive (.enfDisable false)

/-- ENF_FORCED_DISABLE: EN written 0 with FDIS (09 R262). -/
def execEnfForcedDisable (s : State) : Host.Outcome State Fault Refusal := s.upd fun d => d.arrive (.enfDisable true)

/-- TURN_RESET: the configuration's turn counters load at the next tick (09 R263). -/
def execTurnReset (s : State) : Host.Outcome State Fault Refusal := s.upd fun d => d.arrive .turnReset

/-- LOGGIA_REPORT (14 R377). -/
def execLoggiaReport (id outcome start air : Nat) (s : State) : Host.Outcome State Fault Refusal :=
  s.upd fun d => d.arrive (.report id outcome start air)

/-- LOGGIA_STATUS_RECORD (14 R382, 09 R260). -/
def execLoggiaStatusRecord (n flags sum budget : Nat) (s : State) : Host.Outcome State Fault Refusal :=
  s.upd fun d => d.arrive (.chainStatus n flags sum budget)

/-- NODE_DATA: passed on in MESH_UP (14 R368, R388). -/
def execNodeData (n a ctr : Nat) (mic : Bool) (ts : Nat) (data : List Byte) (s : State) : Host.Outcome State Fault Refusal :=
  s.upd fun d => d.arrive (.nodeData n a ctr mic ts data)

/-- NODE_ACK (14 R372, R380, R388). -/
def execNodeAck (n a ctr : Nat) (mic : Bool) (ts acked us : Nat) (s : State) : Host.Outcome State Fault Refusal :=
  s.upd fun d => d.arrive (.nodeAck n a ctr mic ts acked us)

/-- JOIN_REQ (14 R375). -/
def execJoinReq (n eui ctr : Nat) (mic : Bool) (s : State) : Host.Outcome State Fault Refusal :=
  s.upd fun d => d.arrive (.joinReq false n eui ctr mic)

/-- REJOIN_REQ (14 R385, R387). -/
def execRejoinReq (n eui ctr : Nat) (mic : Bool) (s : State) : Host.Outcome State Fault Refusal :=
  s.upd fun d => d.arrive (.joinReq true n eui ctr mic)

/-- NODE_STATUS (14 R373). -/
def execNodeStatus (n a ctr : Nat) (mic : Bool) (ts : Nat) (p : List Byte) (s : State) : Host.Outcome State Fault Refusal :=
  s.upd fun d => d.arrive (.nodeStatus n a ctr mic ts p)

/-- COORD_RX: a coordination beacon with its MIC checked (14 R384, R386). -/
def execCoordRx (ts serial : Nat) (groups : List Nat) (boundary : Nat) (mic : Bool) (s : State) : Host.Outcome State Fault Refusal :=
  s.upd fun d => d.arrive (.coordRx ts serial groups boundary mic)

/-- CHAIN_ENABLE, which the flights learn as they learn of every register write (13 R356, 14 R387). -/
def execChainEnable (n : Nat) (s : State) : Host.Outcome State Fault Refusal :=
  s.upd fun d => (d.chainEnable (n % 8)).arrive (.chainEn (n % 8) true)

/-- CHAIN_DISABLE (13 R356, 14 R387). -/
def execChainDisable (n : Nat) (s : State) : Host.Outcome State Fault Refusal :=
  s.upd fun d => (d.chainDisable (n % 8)).arrive (.chainEn (n % 8) false)

/-- CHAIN_FORCED_DISABLE at LST now (13 R356, 14 R387). -/
def execChainForcedDisable (n now : Nat) (s : State) : Host.Outcome State Fault Refusal :=
  s.upd fun d => (d.chainForced (n % 8) now).arrive (.chainEn (n % 8) false)

/-! ### What the flights reckon by the time of their scans -/

/-- BEACON_INTERVAL (14 R371, R384). -/
def execBeaconInterval (s : State) : Host.Outcome State Fault Refusal := s.upd fun d => d.eachAtRest fun f d => d.beacons f

/-- LEAN_HOLD_EXPIRY of a chain (09 R260). -/
def execLeanHoldExpiry (n : Nat) (s : State) : Host.Outcome State Fault Refusal :=
  s.upd fun d => d.eachAtRest fun f d => d.leanExpiry f n

/-- NODE_LOST (14 R376). -/
def execNodeLost (a : Nat) (s : State) : Host.Outcome State Fault Refusal :=
  s.upd fun d => d.eachAtRest fun f d => d.nodeLost f a

/-- The deadline of a frame to a sleepy partner has passed by the scan's time; one that the Loggia has is dropped by its REPORT (14 R382). -/
def Dev.sleepyDeadline (d : Dev) (f : Flt) (a seq : Nat) : Dev :=
  match (d.fl f).mac.queue.find? fun h => h.dst == a && h.seq == some seq && isSleepy a && h.stage != 1 &&
    decide (h.deadline < (d.fl f).mapTime) with
  | some h => d.sleepyDrop f h
  | none => d

/-- SLEEPY_DEADLINE (14 R382). -/
def execSleepyDeadline (a seq : Nat) (s : State) : Host.Outcome State Fault Refusal :=
  s.upd fun d => d.eachAtRest fun f d => d.sleepyDeadline f a seq

/-- PEER_COORD_MISS (14 R384, R385). -/
def execPeerCoordMiss (p : Nat) (s : State) : Host.Outcome State Fault Refusal :=
  s.upd fun d => d.eachAtRest fun f d => d.coordMiss f (p % 8)

/-- HANDBACK_BOUNDARY (14 R386). -/
def execHandbackBoundary (s : State) : Host.Outcome State Fault Refusal := s.upd fun d => d.eachAtRest fun f d => d.boundaryComes f

end Sys2Proof.Machine
end

