-- ==== Sys2Proof/Machine/Scan.lean ====
section
/-! DEFINITION. The scan of a flight: the input snapshot, the levels of task runs with their barriers, the output image,
notifications and the commit set (chapter 06; 05 R139, R144, R146; 04 R92, R110, R117). -/

namespace Sys2Proof.Machine

/-! ## Levels (06 R161) -/

/-- Scan period in Newel cycles (06 R154). -/
def Dev.scanPeriod (d : Dev) (f : Flt) : Nat := 4 * d.get (FL_SCANCFG_PERIOD.at f)

/-- Tasks that run in phase 2 or in a level of phase 4 of the present scan (06 R160). -/
def Dev.levelTasks (d : Dev) (f : Flt) (l : LevelId) : List Nat :=
  let x := d.fl f
  let s := x.scan.getD 0
  match l with
  | .startup => if s = 0 then (d.taskOf f (if x.warm then 2 else 1)).toList else []
  | .cyclic n => (List.range 64).filter fun t =>
      let iv := d.get ((FL_TASKCFG_INTERVAL.ix t).at f)
      mhas (d.cfgOf f).tasks t && d.taskEn f t && d.taskKind f t == 0 && d.get ((FL_TASKCFG_LEVEL.ix t).at f) == n &&
        iv != 0 && s % iv == d.get ((FL_TASKCFG_PHASE.ix t).at f)
  | .idle | .error => []

/-- Whether a level has anything to run. -/
def Dev.levelDue (d : Dev) (f : Flt) (l : LevelId) : Bool :=
  match l with
  | .error => !(d.fl f).calls.isEmpty && (d.taskOf f 3).isSome
  | _ => !(d.levelTasks f l).isEmpty

/-- The levels of a scan in order (06 R153, R161). [log 54 DEDUCED] -/
def scanLevels : List LevelId := [.startup, .error] ++ (List.range 16).map .cyclic

/-- A level opens: write buffers are empty and every Tread takes its first run. -/
def Dev.openLevel (d : Dev) (f : Flt) (l : LevelId) : Dev :=
  let d1 := d.updFl f fun x => { x with
    level := l, todo := d.levelTasks f l, wrbuf := []
    treads := x.treads.map fun e => (e.1, { e.2 with run := 0 }) }
  (List.range 16).foldl (fun d t => d.nextRun f t) d1

/-- The first of some levels that has anything to run opens; answers none where there is none. -/
def Dev.openNext (d : Dev) (f : Flt) (ls : List LevelId) : Option Dev := (ls.find? (d.levelDue f)).map (d.openLevel f)

/-- The levels after a level. -/
def levelsAfter (l : LevelId) : List LevelId :=
  match l with
  | .idle => []
  | .startup => scanLevels.drop 1
  | .error => scanLevels.drop 2
  | .cyclic n => scanLevels.drop (n + 3)

/-! ## The input snapshot (05 R139, 06 R153 to R159) -/

/-- Whether a flight can take the snapshot of its next scan (06 R154, R155). -/
def Dev.scanReady (d : Dev) (f : Flt) : Bool :=
  let x := d.fl f
  (d.consumes f || (d.fst f == fsSyncing && d.nw.stair.isNone)) && x.bootCycle.isSome && !x.inScan && decide (x.nextGrid ≤ x.lastBatch)

/-- A scan begins: its number and grid cycle, and everything that is counted per scan (06 R154, R157, R159). -/
def Dev.scanBegins (d : Dev) (f : Flt) : Dev :=
  let d1 := d.updFl f fun x => { x with
    scan := some (match x.scan with | some s => s + 1 | none => 0)
    prevGrid := if x.scan.isSome then x.grid else x.nextGrid
    grid := x.nextGrid
    iOver := [], det := none, viol := [], faulted := [], qimg := [], wrbuf := [], raised := [], waited := 0, switched := false }
  let d2 := (List.range 64).foldl (fun d t => d.put ((FL_TASKSTAT_RAN.ix t).at f) 0) d1
  d2.wr (f.key FL_SCANGRID) (BitVec.ofNat 32 (d2.fl f).grid)

/-- What scan 0 alone does in phase 1: the configured points take their change time, START_FALLBACK is called and a cold
start reports the cleared forces (05 R128, R144; 06 R171; 02 R572). [log 96 DEDUCED] -/
def Dev.scanZero (d : Dev) (f : Flt) : Dev :=
  if (d.fl f).scan ≠ some 0 then d
  else
    let d1 := d.updFl f fun x => { x with pts := x.pts.map fun e => (e.1, { e.2 with ctime := x.mapTime }) }
    let d2 := if (d1.fl f).fallback then d1.call1 f 0x31 1 0 else d1
    match (d2.fl f).forcesOff with
    | some n => (d2.updFl f fun x => { x with forcesOff := none }).raiseFl f .flForcesCleared [n]
    | none => d2

/-- The calls that this scan serves: at most 16, oldest first; with no enabled ERROR task every queued call is discarded.
A QUEUE_OVERFLOW call follows where the queue has room again (06 R168, R170). -/
def Dev.serveCalls (d : Dev) (f : Flt) : Dev :=
  match d.taskOf f 3 with
  | none =>
    let d1 := (d.fl f).errq.foldl (fun d _ => d.unserved f) d
    (d1.updFl f fun x => { x with errq := [], calls := [] }).put (FL_ERRQ_DEPTH.at f) 0
  | some _ =>
    let d1 := d.updFl f fun x => { x with calls := x.errq.take 16, errq := x.errq.drop 16 }
    let lost := d1.get (FL_ERRQ_LOST.at f)
    let d2 :=
      if lost > 0 ∧ (d1.fl f).errq.length < 256 then
        let o : ErrCall := ⟨0x21, lost, 0, ((d1.fl f).scan.getD 0) % 2 ^ 32, 64⟩
        ((d1.updFl f fun x => { x with errq := x.errq ++ [o] }).put (FL_ERRQ_LOST.at f) 0).raiseFl f .flErrqOverflow [lost]
      else d1
    d2.put (FL_ERRQ_DEPTH.at f) (d2.fl f).errq.length

/-- The first scan makes a flight ACTIVE or STANDBY: flight A, or flight B where A was not SYNCING at BOOT_DONE, is
ACTIVE (04 R117). -/
def Dev.scanState (d : Dev) (f : Flt) : Dev :=
  if d.fst f ≠ fsSyncing ∨ d.nw.stair.isSome then d
  else if f = .b ∧ d.nw.bothSyncing then d.setFl f fsStandby
  else d.setFl f fsActive

/-- Pages that points lie on: entry n at byte 16 n from logical bank 1 on (05 R126). -/
def pointPage (n : Nat) : Nat := 64 + n / 256

/-- Pages of the fixed placements that the flight's writes have made dirty: those that it noted, and those of the points written in
the scan with the entries of their forces (04 R573; 05 R126, R142). -/
def FlightSt.dirtyPages (x : FlightSt) : List Nat :=
  x.written.foldl (fun l n =>
    let l1 := insIx (pointPage n) l
    (x.forces.filter fun (e : Nat × Force) => e.2.point == n).foldl (fun l e => insIx (forcePage e.1) l) l1) x.pages

/-- Largest number of dirty pages at which a freeze begins (04 R111, R123). -/
def Dev.freezePages (d : Dev) : Nat := if d.get NW_STAIRCFG_FREEZEPG = 0 then 64 else d.get NW_STAIRCFG_FREEZEPG

/-- A round of a stair transfer ends at a scan boundary of the active flight: `dirty` counts the dirty pages of the placements that
the flight firmware chooses. With few enough pages the freeze begins once no tick is in progress; with the last round used up and
more pages than that the transfer is abandoned (04 R110 steps 3 and 4, R111, R112, R573). [log 126 DESIGN CHOICE] -/
def Dev.stairRound (d : Dev) (f : Flt) (dirty : Nat) : Dev :=
  if d.active ≠ some f ∨ d.nw.stair.isNone ∨ d.get NW_STAIRSTAT_PHASE ≠ 2 then d
  else
    let pages := min 1920 ((d.fl f).dirtyPages.length + dirty)
    let d1 := d.put NW_STAIRSTAT_DIRTY pages
    let round := d.get NW_STAIRSTAT_ROUND
    let next (r : Nat) : Dev := (d1.put NW_STAIRSTAT_ROUND r).updFl f fun x => { x with pages := [] }
    if pages ≤ d.freezePages then
      if (d.fl f).enf.due.isNone then d1.put NW_STAIRSTAT_PHASE 3 else next (min (round + 1) (max 1 (d.get NW_STAIRCFG_ROUNDS)))
    else if d.get NW_STAIRCFG_ROUNDS ≤ round then d1.stairAbandon E_BUSY_SERVICE
    else next (round + 1)

/-- The program that the scan runs has changed with this snapshot: the error task is called (06 R178). -/
def Dev.switchCall (d : Dev) (f : Flt) : Dev :=
  if (d.fl f).switched then d.call1 f 0x30 (d.cfgOf f).progVersion (d.fl f).oldVer else d

/-- Register messages of a start up to the batch of BOOT_DONE: scan 0 applies them as part of initialisation (06 R574). -/
def FlightSt.initial (x : FlightSt) (fr : Frame) (m : FlightIn) : Bool :=
  x.scan == some 0 && (m.typ == 0x40 || m.typ == 0x41) && decide (fr.cycle ≤ x.bootCycle.getD 0)

/-- Phase 1 of a scan (05 R139; 06 R153, R178, R574; 10 R278, R280): the loads, the schedules, the messages in Corridor sequence order, STALE,
the register writes, and the switch that the scan before accepted, with which the schedules catch up by the new image. `wait` and `dur` describe the Enfilade tick that the snapshot may meet. [log 137 DESIGN CHOICE] -/
def Dev.snapshot (d : Dev) (f : Flt) (wait dur : Nat) : Dev :=
  let due := (d.fl f).switchDue
  let d0 := d.scanBegins f
  let x := d0.fl f
  let take := x.taken
  let d1 := (d0.applyIns f false x.initial take).loads f take
  let alarms (now : Bool) (d : Dev) : Dev := if now then d.schedules f else d
  let d2 := (alarms (!due) (d1.enfApply f wait dur)).applyIns f true (fun _ m => !m.radio && !m.isReg && m.typ != 0x40) take
  let d3 := (d2.staleEval f).applyIns f d2.mod.committed (fun fr m => (m.isReg || m.typ == 0x40) && !x.initial fr m) take
  let d4 := if due then alarms true (d3.onlineSwitch f) else d3
  let d5 := ((((d4.enfLatch f).latchAuto f).scanZero f).switchCall f).serveCalls f
  let full := d5.bit (FL_RETAIN_FULL.at f) || (d5.fl f).scan == some 0 || (d5.fl f).switched
  (d5.enfStart f).updFl f fun x => { x with inScan := true, fullDue := full, fullAgain := false }

/-- The scan's first level opens; with nothing to run the scan stands at the end of phase 4. -/
def Dev.scanOpens (d : Dev) (f : Flt) (ls : List LevelId) : Dev := (d.openNext f ls).getD (d.openLevel f (.cyclic 15))

/-- SCAN: the input snapshot and the opening of the first level. -/
def Dev.scanStart (d : Dev) (f : Flt) (wait dur dirty : Nat) : Dev :=
  ((((d.snapshot f wait dur).scanState f).stairRound f dirty)).scanOpens f scanLevels

/-! ## The barrier (06 R163) -/

/-- Entries in ascending task number, each task's in write order. -/
def mergeOrder (l : List WrEntry) : List WrEntry := (List.range 64).flatMap fun t => l.filter fun e => e.task == t

/-- One buffered write reaches memory; a memory word that refuses it keeps what it has (06 R163, R164; 03 R69). -/
def Dev.mergeOne (d : Dev) (f : Flt) (e : WrEntry) : Dev :=
  let p := d.writeLogic f e.addr e.mask e.data (e.tread + 2)
  if p.2 = 0 then p.1
  else p.1.updFl f fun x =>
    let n := e.addr % 2 ^ 24
    match e.addr / 2 ^ 24 with
    | 2 => { x with qimg := mput x.qimg n ((mget (x.under n) x.qimg n &&& ~~~p.2) ||| (e.data &&& p.2)) }
    | 4 => x.load n (clsRange (x.pt n).cls ((x.under n &&& ~~~p.2) ||| (e.data &&& p.2))) qGood 2
    | _ => { x with lmem := mset 0 x.lmem e.addr ((x.lw e.addr &&& ~~~p.2) ||| (e.data &&& p.2)) }

/-- The calls raised in the level enter the queue in ascending task number (06 R168). -/
def Dev.queueRaised (d : Dev) (f : Flt) : Dev :=
  let l := (d.fl f).raised
  let sorted := (List.range 65).flatMap fun t => l.filter fun c => c.task == t
  sorted.foldl (fun d c => d.enqueue f c) (d.updFl f fun x => { x with raised := [] })

/-- The barrier that ends a level. -/
def Dev.barrier (d : Dev) (f : Flt) : Dev :=
  ((mergeOrder (d.fl f).wrbuf).foldl (fun d e => d.mergeOne f e) (d.updFl f fun x => { x with wrbuf := [] })).queueRaised f

/-! ## Phases 5 and 6 -/

/-- Q values become point values (06 R153, R164). -/
def Dev.outputs (d : Dev) (f : Flt) : Dev :=
  (d.fl f).qimg.foldl (fun d e => d.updFl f fun x => x.load e.1 (clsRange (x.pt e.1).cls e.2) qGood 2) d

/-- Whether a subscription is due at the end of a scan (05 R146). -/
def Sub.due (b : Sub) (p : Point) (scan : Nat) : Bool :=
  !b.sent || b.carried || (decide (b.lastScan + b.minInterval ≤ scan) &&
    (clsDiffers p.cls p.value b.lastValue b.deadband || stQual p.status != stQual b.lastStatus ||
      stStale p.status != stStale b.lastStatus))

/-- A POINT_NOTIFY message (05 R148). -/
def notifyMsg (session : Nat) (es : List (List Byte)) : UpMsg :=
  ⟨0x12, 0, 0, 0, 0, le 1 session ++ le 1 es.length ++ [0, 0] ++ es.flatten, none⟩

/-- Chunks of at most 51 entries. -/
def chunks51 (es : List (List Byte)) : List (List (List Byte)) :=
  (List.range ((es.length + 50) / 51)).map fun i => (es.drop (51 * i)).take 51

/-- Insertion of a due subscription by ascending point index. -/
def subIns (e : Nat × Sub) : List (Nat × Sub) → List (Nat × Sub)
  | [] => [e]
  | y :: t => if e.2.point < y.2.point then e :: y :: t else y :: subIns e t

/-- Notifications of one session at the end of a scan: the last entries of dropped subscriptions, then the due ones, in 4
messages of 51 entries at most; what is left stays due (05 R145, R146). -/
def Dev.notifySession (d : Dev) (f : Flt) (ses : Nat) : Dev :=
  let x := d.fl f
  let scan := x.scan.getD 0
  let gone := (x.dropped.filter fun e => e.1 == ses).map (·.2)
  let due := (x.subs.filter fun e => e.2.session == ses && e.2.due (x.pt e.2.point) scan).foldl (fun l e => subIns e l) []
  let now := due.take (204 - gone.length)
  let left := due.drop (204 - gone.length)
  let late := gone.length + due.length - 204
  let es := (gone.take 204).map (fun n => readEntry n E_OK Point.zero) ++
    now.map fun e => readEntry e.2.point E_OK (x.pt e.2.point)
  let mark (m : Map Sub) (e : Nat × Sub) : Map Sub :=
    let p := x.pt e.2.point
    mput m e.1 { e.2 with lastValue := p.value, lastStatus := p.status, lastScan := scan, sent := true, carried := false }
  let d1 := d.updFl f fun x => { x with
    subs := left.foldl (fun m e => mput m e.1 { e.2 with carried := true }) (now.foldl mark x.subs), msgs := x.msgs ++ (chunks51 es).map (notifyMsg ses)
    dropped := (x.dropped.filter fun e => e.1 != ses) ++ (gone.drop 204).map fun n => (ses, n) }
  let last := mget 0 x.lagAt ses
  if late > 0 ∧ (last = 0 ∨ last - 1 + 60 * cycPerSec ≤ x.grid) then
    (d1.updFl f fun x => { x with lagAt := mput x.lagAt ses (x.grid + 1) }).raiseFl f .flNotifyLag [ses, late]
  else d1

/-- Notifications of every session (05 R146). -/
def Dev.notify (d : Dev) (f : Flt) : Dev :=
  (List.range 256).foldl (fun d ses =>
    if ((d.fl f).subs.any fun e => e.2.session == ses) || ((d.fl f).dropped.any fun e => e.1 == ses) then d.notifySession f ses
    else d) d

/-- The scan is classified by the latest batch held at signalling (06 R158, R159). -/
def Dev.classify (d : Dev) (f : Flt) : Dev :=
  let x := d.fl f
  let p := d.scanPeriod f
  let ext := (if x.scan = some 0 then 4 * d.get (FL_SCANCFG_STARTEXT.at f) else 0) + x.waited
  let next (k : Nat) (d : Dev) : Dev := d.updFl f fun x => { x with nextGrid := x.grid + k * p }
  if x.lastBatch < x.grid + p + ext then next 1 d
  else if 2 * x.lastBatch < 2 * (x.grid + ext) + 3 * p then
    let d1 := next 1 (d.inc (FL_SCANCNT_LATE.at f))
    if rateOk x.lateAt x.grid (60 * cycPerSec) then
      (d1.updFl f fun x => { x with lateAt := some x.grid }).raiseTimed f .flScanLate
        [((x.scan.getD 0) % 2 ^ 32 : Nat), d1.get (FL_SCANTIME_LAST.at f)]
    else d1
  else
    let n : Nat := x.lastBatch - x.grid
    let s : Nat := (x.scan.getD 0) % 2 ^ 32
    ((next 2 ((d.updFl f fun x => x.detFault 0x0B).inc (FL_SCANCNT_OVERRUN.at f))).raiseFl f .flScanOverrun [s, n]).enqueue f
      ⟨0x20, s, n, s, 64⟩

/-- The duration of the scan from its grid to its signal, in 10 us (06 R180). -/
def Dev.scanTime (d : Dev) (f : Flt) (time : Nat) : Dev :=
  let t := min time 0xFFFF
  let d1 := d.put (FL_SCANTIME_LAST.at f) t
  d1.put (FL_SCANTIME_MAX.at f) (max t (d1.get (FL_SCANTIME_MAX.at f)))

/-- The flight firmware writes the entries of the points that a scan wrote, and of their forces, as whole words (03 R66, R69; 05 R126, R142).
[log 147 DESIGN CHOICE] [log 147 DESIGN CHOICE] -/
def Dev.firmwareWrites (d : Dev) (f : Flt) : Dev :=
  let x := d.fl f
  let m := Mem.fl f
  let pts := x.written.flatMap fun n => [(1 + n / 16384, 2 * (n % 16384)), (1 + n / 16384, 2 * (n % 16384) + 1)]
  let fos := (x.forces.filter fun (e : Nat × Force) => x.written.contains e.2.point).flatMap fun e => [(5, 2 * e.1), (5, 2 * e.1 + 1)]
  (pts ++ fos).foldl (fun d p => (d.writeWord m (d.phys m p.1) p.2 true 0 (d.memData f p.1 p.2)).1) d

/-- The commit set is written and signalled; what it defers leads the next one (04 R92). -/
def Dev.signal (d : Dev) (f : Flt) : Dev :=
  let x := d.fl f
  let p := d.formSet f x.online
  let s := x.scan.getD 0
  -- a scan that the Newel has committed from the other flight is committed no second time (04 R95)
  let late := !d.nw.uncommitted p.1.scan && d.fst f != fsSyncing
  let d1 := (if late then d else d.updNw fun n => n.updSig f fun l => l ++ [p.1]).updFl f fun x => { x with
    msgs := p.2.1, reqs := p.2.2, regw := [], links := [], online := [], written := [], qimg := []
    pages := if d.nw.stair.isSome then x.dirtyPages else []
    inScan := false, level := .idle }
  let d2 := (d1.wr (f.key FL_SCANLO) (BitVec.ofNat 32 s)).wr (f.key FL_SCANHI) (BitVec.ofNat 32 (s / 2 ^ 32))
  if x.fullDue && !x.fullAgain then d2.put (FL_RETAIN_FULL.at f) 0 else d2

/-- Phases 5 and 6 (06 R153): `time` is the scan's duration in 10 us. -/
def Dev.scanEnds (d : Dev) (f : Flt) (time : Nat) : Dev :=
  let d1 := ((((d.outputs f).formPoints f 0).formPoints f 1).macFlush f).notify f
  ((((d1.mirror f).firmwareWrites f).scanTime f time).classify f).signal f

/-- LEVEL_BARRIER: every Tread has finished its tasks of the level. The next level opens; after the last, phases 5 and 6
follow. [log 54 DEDUCED] -/
def Dev.levelBarrier (d : Dev) (f : Flt) (time : Nat) : Dev :=
  let x := d.fl f
  if !x.inScan || d.frozen f || x.treads.any fun t => t.2.running then d
  else
    let d1 := d.barrier f
    (d1.openNext f (levelsAfter x.level)).getD (d1.scanEnds f time)

/-! ## Meanings -/

/-- SCAN (06 R153 to R155). -/
def execScan (f : Flt) (wait dur dirty : Nat) (s : State) : Host.Outcome State Fault Refusal :=
  s.upd fun d => d.when (d.scanReady f && !d.frozen f) fun d => d.scanStart f wait dur dirty

/-- ONLINE_SWITCH: the snapshot of the scan after the one that accepted a change, in a flight with no tick and no transfer to attend
to: the frames of R139, then the switch (06 R178). -/
def execOnlineSwitch (f : Flt) (s : State) : Host.Outcome State Fault Refusal :=
  s.upd fun d => d.when ((d.fl f).switchDue && d.scanReady f && !d.frozen f && (d.fl f).enf.due.isNone) fun d => d.scanStart f 0 0 0

/-- LEVEL_BARRIER (06 R161, R163). -/
def execLevelBarrier (f : Flt) (time : Nat) (s : State) : Host.Outcome State Fault Refusal :=
  s.upd fun d => d.levelBarrier f time

end Sys2Proof.Machine
end

