-- ==== Sys2Proof/Machine/HostRegs.lean ====
section
/-! DEFINITION. The host registers as they read, with and without the actions of a read (16 R423, R425; 02 R63; 15 R413,
R418; 17 R482; 18 R511). -/

namespace Sys2Proof.Machine

/-- The key of a host register by its address in the register window. -/
def fyKey (a : Nat) : Nat := 2 ^ 24 + a

/-- FY_UPDCONF: seconds until a campaign in trial confirms itself, and HELD outside SERVICE (18 R501, R511). -/
def Dev.updConf (d : Dev) : W32 :=
  if d.get FY_UPDSTAT_PHASE ≠ 2 then 0xFFFF
  else match d.upd.service with
    | some t => BitVec.ofNat 32 (600 - (d.time.raw - t) / rawPerSec)
    | none => BitVec.ofNat 32 (600 + 2 ^ 16)

/-- Registers of the Undercroft that show the selected slot (17 R482). -/
def Dev.ucSeen (d : Dev) (k : Nat) : Option W32 :=
  let s := d.get FY_UCSEL_SLOT
  let p := d.attrBytes s
  let w (i : Nat) : Option W32 := some (BitVec.ofNat 32 (field p (4 * i) 4))
  if k = FY_UCATTR then w 0 else if k = FY_UCGEN then w 1 else if k = FY_UCPGEN then w 2
  else if k = FY_UCCTR then w 3 else none

/-- Registers of the time base and the RTC that are formed at the read (15 R413, R418). -/
def Dev.timeSeen (d : Dev) (k : Nat) : Option W32 :=
  let x := d.rtcSeen false
  if k = FY_TBRAWLO then some (word32 d.time.raw 0)
  else if k = FY_TIMELO then some (word32 d.nowNs 0)
  else if k = FY_OPSECLO then some (word32 d.opsec 0)
  else if k = FY_RTCSUB then some (BitVec.ofNat 32 x.sub)
  else if k = FY_RTCCNTLO then some (word32 x.cnt 0)
  else if k = FY_RTCCNTHI then some (word32 x.cnt 1)
  else if k = FY_RTCCAL0 then some x.cal0
  else if k = FY_RTCCAL1 then some x.cal1 else none

/-- Registers formed at the read. [log 121 DESIGN CHOICE] -/
def Dev.fyLive (d : Dev) (k : Nat) : Option W32 :=
  match regIx k FY_MEASDATA 8, d.timeSeen k, d.ucSeen k with
  | some i, _, _ => some (word32 (mget 0 d.mod.meas (d.get FY_MEASSEL_SEL)) i)
  | _, some v, _ => some v
  | _, _, some v => some v
  | _, _, _ =>
    if k = FY_UPDCONF then some d.updConf
    else if k = FY_EVVEC then some (match d.evNext with
      | none => 0x80000000
      | some n => BitVec.ofNat 32 (n + d.evPri n * 2 ^ 8))
    else match (List.range 32).find? fun n => k = FY_LATCH + 4 * n with
      | some n => some (BitVec.ofNat 32 (d.get (Mem.fy.latch n)))
      | none => (([4, 5, 6, 7].find? fun n => k = FY_LDDATA + 16 * n)).map fun n => match mget [] d.host.words n with
        | [] => ldEmptyWord
        | w :: _ => w.1

/-- A host register as a read without actions returns it. [log 128 DEDUCED] -/
def Dev.fyPeek (d : Dev) (k : Nat) : W32 :=
  match d.fyLive k with
  | some v => v
  | none => match regRow k with
    | some r => BitVec.ofNat 32 (readFields (d.rd k).toNat r.fields)
    | none => 0

/-- Whether a register needs the core domain: alcoves, landings and the Corridor message ports (16 R425). -/
def needsCore (k : Nat) : Bool :=
  (decide (FY_ALCPTR ≤ k) && decide (k < FY_ALCPTR + 512)) || (decide (FY_LDDATA ≤ k) && decide (k < FY_LDDATA + 128)) ||
    (decide (FY_CRPADDR ≤ k) && decide (k < FY_CRPADDR + 4096))

/-- What a read of a register by a master does beside returning the value: clear and acquire, and copy what is read in parts; a landing
gives up its word to the host port alone (00 R8; 03 R82; 15 R413, R418; 16 R437, R440). Answers the word and whether an empty landing was
met. -/
def Dev.readAs (d : Dev) (master k : Nat) : Dev × W32 × Bool :=
  let v := d.fyPeek k
  if k = FY_EVVEC then let r := d.evRead; (r.1, r.2, false)
  else if k = FY_TBRAWLO then (d.rawLatch, v, false)
  else if k = FY_TIMELO then (d.timeLatch, v, false)
  else if k = FY_OPSECLO then (d.opsecLatch, v, false)
  else if k = FY_RTCSUB then
    let d1 := d.setShadow false d.rtcCopy
    (d1, d1.fyPeek k, false)
  else if k = FY_RTCCAL1 then (d.setShadow false Shadow.zero, v, false)
  else match (List.range 32).find? fun n => k = FY_LATCH + 4 * n with
    | some n => let r := d.latchRead .fy n master; (r.1, BitVec.ofNat 32 r.2, false)
    | none => match [4, 5, 6, 7].find? fun n => k = FY_LDDATA + 16 * n && master == hostMaster with
      | some n => d.ldPop n
      | none => (d, v, false)

/-- A read of the host port (16 R423). -/
def Dev.fyRead (d : Dev) (k : Nat) : Dev × W32 × Bool := d.readAs hostMaster k

end Sys2Proof.Machine
end

