-- ==== Sys2Proof/Machine/Fmp.lean ====
section
/-! DEFINITION. The Foyer message protocol: records, the handshake, sessions, requests and their replies, operations that the
Foyer performs or forwards, and the Corridor proxy (16 R426, R442 to R453, R456). -/

namespace Sys2Proof.Machine

/-- Change the FMP state. -/
def Dev.updFmp (d : Dev) (g : FmpSt → FmpSt) : Dev := { d with fmp := g d.fmp }

/-! ## Records (16 R443) -/

/-- The 16 bytes that lead a record. -/
def recHead (kind ses seq len : Nat) : List Byte := [1] ++ le 1 kind ++ le 1 ses ++ [0] ++ le 8 seq ++ le 2 len ++ [0, 0]

/-- A handshake record. -/
def shakeRec (kind ses : Nat) (body : List Byte) : List Byte := recHead kind ses 0 body.length ++ body

/-- A DATA record: ciphertext and tag come from the session's keys. -/
def dataRec (key ses seq : Nat) (plain : List Byte) : List Byte :=
  recHead 0x10 ses seq plain.length ++ (List.range (plain.length + 16)).map (Config.fmpCipher key seq plain)

/-- A record discarded (16 R442, R446). [log 103 DESIGN CHOICE] -/
def Dev.fmpBad (d : Dev) : Dev := d.inc FY_FMPSTAT_BAD

/-- Show open sessions, pending handshakes and the bound session. -/
def Dev.fmpShow (d : Dev) : Dev :=
  ((d.put FY_FMPSTAT_OPEN d.fmp.sessions.length).put FY_FMPSTAT_HSPEND d.fmp.shakes.length).put FY_HPSESS_OPEN
    (b2n (mhas d.fmp.sessions (d.get FY_HPSESS_SESSION)))

/-! ## Sessions -/

/-- Change an open session. -/
def Dev.updSes (d : Dev) (ses : Nat) (g : Session → Session) : Dev :=
  match mget? d.fmp.sessions ses with
  | none => d
  | some x => d.updFmp fun m => { m with sessions := mput m.sessions ses (g x) }

/-- Roles that a suite bounds (05 R131). -/
def suiteRole (r : Nat) : Bool := r == 3 || r == 4

/-- A session closes: causes 0 CLOSE, 1 idle, 2 core domain, 3 sequence (16 R447, R457; 05 R147; 17 R470; 18 R489). -/
def Dev.sesClose (d : Dev) (cause ses : Nat) : Dev :=
  if !mhas d.fmp.sessions ses then d
  else
    let d1 := (d.updFmp fun m => { m with sessions := mdel m.sessions ses }).keyDiscard ses
    let d2 := (d1.updArc fun a => { a with nonces := a.nonces.filter fun x => x.1 ≠ ses })
    let d3 : Dev := { d2 with upd := { d2.upd with loads := d2.upd.loads.filter fun l => l.2.1 ≠ ses } }
    let d4 := if d3.cor.hostUp then d3.request 0x10 ([3] ++ le 1 ses ++ [0, 0]) else d3
    (d4.raiseFy (.mk' .fySessClose [ses, cause])).fmpShow

/-- Every session closes as the core domain goes down (16 R425). [log 31 DESIGN CHOICE] -/
def Dev.sesCloseAll (d : Dev) (cause : Nat) : Dev :=
  let d1 := d.fmp.sessions.foldl (fun (d : Dev) e => d.sesClose cause e.1) d
  (d1.fmp.shakes.foldl (fun (d : Dev) e => d.poolErase e.2.pool) d1).updFmp fun m => { m with shakes := [] }

/-- A message goes out in one DATA record of the session. [log 106 DESIGN CHOICE] -/
def Dev.sesSend (d : Dev) (ses tag : Nat) (plain : List Byte) : Dev :=
  match mget? d.fmp.sessions ses with
  | none => d
  | some x =>
    let d1 := (d.updSes ses fun x => { x with txSeq := x.txSeq + 1 }).sendRecord x.udp x.channel tag (dataRec x.key ses x.txSeq plain)
    if 2 ^ 63 ≤ x.txSeq then d1.sesClose 3 ses else d1

/-- Pieces of a payload, at least one, with whether more follow. -/
def pieces (n : Nat) : Nat → List Byte → List (Bool × List Byte)
  | 0, p => [(false, p)]
  | k + 1, p => if p.length ≤ n then [(false, p)] else (true, p.take n) :: pieces n k (p.drop n)

/-- A message of a session, in as many records as it needs (16 R448). -/
def Dev.sesMessage (d : Dev) (ses op id status tag : Nat) (payload : List Byte) : Dev :=
  match mget? d.fmp.sessions ses with
  | none => d
  | some x =>
    let room := d.maxRecord x.udp x.channel - 40
    (pieces room (payload.length / (room + 1) + 1) payload).foldl (fun (d : Dev) c =>
      d.sesSend ses tag (le 1 op ++ le 1 (b2n c.1) ++ le 2 id ++ le 1 status ++ [0, 0, 0] ++ c.2)) d

/-- An unsolicited message. -/
def Dev.sesNotice (d : Dev) (ses op : Nat) (payload : List Byte) : Dev :=
  d.sesMessage ses op 0 0 (Config.unsolicitedTag (mget Session.zero d.fmp.sessions ses).txSeq) payload

/-- The reply to a request: the last 16 are kept, but for E_BUSY, which performed nothing (16 R448). [log 103 DESIGN CHOICE] -/
def Dev.fmpReply (d : Dev) (ses : Nat) (r : FmpReq) (status : Nat) (payload : List Byte) : Dev :=
  let d1 := d.updSes ses fun x => { x with
    busy := x.busy.filter fun b => b.id ≠ r.id
    replies := if status = E_BUSY then x.replies else (⟨r.id, r.op, status, payload⟩ :: x.replies).take 16 }
  d1.sesMessage ses (r.op + 0x80) r.id status r.tag payload

/-! ## The handshake (16 R444, R445) -/

/-- The clients that a handshake may name: the key policy's, or the recovery table's while the boot ROM serves (16 R453). [log 130 DEDUCED] -/
def Dev.clientTable (d : Dev) : Map KeyClient := if d.mod.romHold then d.jnl.clients else d.mod.cfg.clients

/-- Whether a transport is served: landing channels and alcove channels by the firmware, landing channel 0 by the boot ROM
(16 R425, R453). -/
def Dev.carrierUp (d : Dev) (udp : Bool) (channel : Nat) : Bool :=
  !d.host.coreDown && (udp || (if d.mod.romHold then channel == 0 else decide (channel < 4 ∨ (16 ≤ channel ∧ channel < 32))))

/-- The packet that carried a record leaves its landing. -/
def Dev.carrierTake (d : Dev) (udp : Bool) (channel : Nat) : Dev := if !udp && decide (channel < 4) then Dev.ldTake 512 d channel else d

/-- REFUSE (16 R444). -/
def Dev.refuse (d : Dev) (udp : Bool) (channel tag ses code : Nat) : Dev := d.sendRecord udp channel tag (shakeRec 4 ses (le 1 code))

/-- A handshake fails with E_AUTH at a step: counted, and 5 failures of an entry within 60 s lock it out. [log 127 DESIGN CHOICE] -/
def Dev.authFail (d : Dev) (entry step : Nat) : Dev :=
  let now := d.time.raw
  let l := (d.fmp.fails.filter fun f => decide (now < f.2 + 60 * rawPerSec)) ++ [(entry, now)]
  let lock := decide (5 ≤ (l.filter fun f => f.1 == entry).length)
  let d1 := d.updFmp fun m => { m with
    fails := if lock then l.filter fun f => f.1 ≠ entry else l
    locked := if lock ∧ entry ∉ m.locked then m.locked ++ [entry] else m.locked }
  d1.raiseFy (.mk' .fySessAuthFail [entry, step, ((b2n (decide (entry ∈ d1.fmp.locked)) : Nat) : Int)])

/-- The lowest free id above the last one issued, cycling through 1 to 255 (16 R447). -/
def Dev.nextSession (d : Dev) : Nat :=
  (((List.range 255).map fun i => (d.fmp.lastId + i) % 255 + 1).find? fun i =>
    !mhas d.fmp.sessions i && !mhas d.fmp.shakes i).getD 1

/-- HELLO: 101 bytes. The module's nonce and ephemeral private key are drawn, and the key is held in a pool slot until the handshake ends
(16 R444, R445). [log 127 DESIGN CHOICE] -/
def Dev.hello (d : Dev) (udp : Bool) (channel tag : Nat) (body : List Byte) : Dev :=
  let entry := field body 2 2
  if body.length ≠ 101 ∨ field body 0 1 ≠ 1 ∨ field body 36 1 ≠ 4 then d.fmpBad
  else if 32 ≤ d.fmp.sessions.length ∨ 8 ≤ d.fmp.shakes.length then d.refuse udp channel tag 0 E_NO_SESSION
  else if !mhas d.clientTable entry ∨ entry ∈ d.fmp.locked then (d.authFail entry 1).refuse udp channel tag 0 E_AUTH
  else if !d.entropy then d.refuse udp channel tag 0 E_ENTROPY
  else
    let k := d.fmp.keys
    let sid := d.nextSession
    let r := d.draw 80
    let pool := d.poolFree
    let d1 := (r.1.poolPut pool (r.2.drop 32)).updFmp fun m => { m with
      keys := k + 1, lastId := sid, shakes := mput m.shakes sid ⟨entry, sid, udp, channel, tag, k, pool⟩ }
    (d1.sendRecord udp channel tag (shakeRec 2 sid ([0] ++ le 1 sid ++ [0, 0] ++ (List.range 161).map (Config.helloReply k)))).fmpShow

/-- A pending handshake fails. -/
def Dev.shakeFail (d : Dev) (h : Handshake) (step : Nat) : Dev :=
  let d1 := (d.poolErase h.pool).updFmp fun m => { m with shakes := mdel m.shakes h.session }
  ((d1.authFail h.client step).refuse h.udp h.channel h.tag h.session E_AUTH).fmpShow

/-- FINISH of a pending handshake; `sigOk` is the check of the client's signature. -/
def Dev.finish (d : Dev) (udp : Bool) (channel tag sid : Nat) (sigOk : Bool) : Dev :=
  match mget? d.fmp.shakes sid with
  | none => d.fmpBad
  | some h =>
    if h.udp ≠ udp ∨ (!udp ∧ h.channel ≠ channel) then d.fmpBad
    else match mget? d.clientTable h.client with
      | none => d.shakeFail { h with tag := tag } 4
      | some c =>
        if !sigOk then d.shakeFail { h with tag := tag } 4
        else if 32 ≤ d.fmp.sessions.length then
          (((d.poolErase h.pool).updFmp fun m => { m with shakes := mdel m.shakes sid }).refuse udp channel tag sid E_NO_SESSION).fmpShow
        else
          let suite := if suiteRole c.role then c.suite else 0
          let x : Session := { Session.zero with
            client := h.client, role := c.role, suite := suite, udp := udp, channel := h.channel, txSeq := 1, key := h.key }
          let d1 := ((d.poolErase h.pool).updFmp fun m => { m with shakes := mdel m.shakes sid, sessions := mput m.sessions sid x }).raiseFy
            (.mk' .fySessOpen [sid, c.role, suite, ((b2n udp : Nat) : Int)])
          (d1.sesMessage sid 0xF0 0 0 tag (le 1 c.role ++ le 1 suite ++ [0, 0])).fmpShow

/-! ## Requests (16 R448, R449) -/

/-- Roles to which an operation is open (05 R132; 16 R449; 17 R480; 18 R509; 19 R523); none for an unknown operation. -/
def opRoles (op : Nat) : Option (List Nat) :=
  if op ∈ [0x01, 0x02, 0x03, 0x50] then some [1, 2, 3, 4, 5]
  else if op ∈ [0x10, 0x58] then some [1, 2, 3, 4]
  else if op = 0x11 then some [1, 3]
  else if op ∈ [0x20, 0x22, 0x51] then some [1, 2]
  else if op ∈ [0x13, 0x21, 0x30, 0x31, 0x40, 0x52, 0x53, 0x54, 0x55, 0x56, 0x59, 0x70] then some [1]
  else if op = 0x62 then some [1, 2, 5]
  else if op ∈ [0x60, 0x61, 0x63, 0x64, 0x65, 0x66, 0x67, 0x68] then some [1, 5]
  else none

/-- A request taken up or turned away. -/
def Dev.fmpRequest (d : Dev) (ses : Nat) (r : FmpReq) : Dev :=
  match opRoles r.op with
  | none => d.fmpReply ses r E_CMD []
  | some _ => d.updSes ses fun x => { x with busy := x.busy ++ [r] }

/-- Largest joined message. -/
def messageMax : Nat := 65536

/-- A message of a session in one record (16 R448). -/
def Dev.fmpMessage (d : Dev) (ses : Nat) (x : Session) (tag : Nat) (msg : List Byte) : Dev :=
  let op := field msg 0 1
  let flags := field msg 1 1
  let id := field msg 2 2
  let p := msg.drop 4
  let r : FmpReq := ⟨id, op, flags, p, tag, false⟩
  if msg.length < 4 ∨ id = 0 then d
  else match x.replies.find? fun q => q.id == id with
    | some q => if bitOf flags 0 then d else d.sesMessage ses (q.op + 0x80) id q.status tag q.payload
    | none =>
      if x.busy.any fun b => b.id == id then d
      else
        let had := x.joining.find? fun j => j.1 == id
        let whole := (had.map (·.2)).getD [] ++ p
        let drop (d : Dev) : Dev := d.updSes ses fun x => { x with joining := x.joining.filter fun j => j.1 ≠ id }
        if had = none ∧ 4 ≤ x.busy.length + x.joining.length then
          if bitOf flags 0 then d else d.fmpReply ses r E_BUSY []
        else if messageMax < whole.length then (drop d).fmpReply ses r E_RANGE []
        else if bitOf flags 0 then (drop d).updSes ses fun x => { x with joining := x.joining ++ [(id, whole)] }
        else (drop d).fmpRequest ses { r with payload := whole }

/-- A DATA record: `ok` tells that its tag is valid, `msg` is its plaintext (16 R446 to R448). [log 105 DESIGN CHOICE] -/
def Dev.dataRecord (d : Dev) (udp : Bool) (channel ses seq : Nat) (ok : Bool) (msg : List Byte) (tag : Nat) : Dev :=
  match mget? d.fmp.sessions ses with
  | none => d.fmpBad
  | some x =>
    if x.udp ≠ udp ∨ (!udp ∧ x.channel ≠ channel) ∨ !ok ∨ seq ≤ x.rxSeq ∨ d.maxRecord udp channel < msg.length + 32 then d.fmpBad
    else
      let d1 := (d.updSes ses fun x => { x with rxSeq := seq }).fmpMessage ses x tag msg
      if 2 ^ 63 ≤ seq then d1.sesClose 3 ses else d1

/-! ## Operations -/

/-- A refusal of a suite session, reported at most once per second (05 R132, R150). [log 103 DESIGN CHOICE] -/
def Dev.suiteDenied (d : Dev) (ses : Nat) (x : Session) (op : Nat) : Dev :=
  if suiteRole x.role && rateOk x.deniedAt d.time.raw rawPerSec then
    (d.updSes ses fun x => { x with deniedAt := some d.time.raw }).raiseFy (.mk' .fySuiteDenied [ses, x.role, x.suite, op])
  else d

/-- Whether the boot ROM's responder answers a request: status, keepalive, close, LREG_READ of the identity registers and the
update of component 0x01 (16 R453). [log 104 DESIGN CHOICE] -/
def romServes (r : FmpReq) : Bool :=
  r.op == 0x01 || r.op == 0x02 || r.op == 0x03 ||
    (r.op == 0x22 && decide (field r.payload 0 4 + 4 * field r.payload 4 1 ≤ 0x100)) ||
    (decide (0x60 ≤ r.op ∧ r.op ≤ 0x68) && (r.op == 0x64 || r.op == 0x65 || r.op == 0x66 || r.op == 0x60 || field r.payload 0 1 == 0x01))

/-- One operation of a session on the request in progress under an id: refused by role, performed otherwise. [log 42 DESIGN CHOICE; 104 DESIGN CHOICE; 105 DESIGN CHOICE] -/
def Dev.op (d : Dev) (ses id op : Nat) (g : Session → FmpReq → Dev → Dev) : Dev :=
  match mget? d.fmp.sessions ses with
  | none => d
  | some x => match x.busy.find? fun b => b.id == id && b.op == op && !b.sent with
    | none => d
    | some r =>
      if d.host.coreDown then d
      else if d.mod.romHold && !romServes r then d.fmpReply ses r E_CMD []
      else if !((opRoles op).getD []).contains x.role then (d.suiteDenied ses x op).fmpReply ses r E_ROLE []
      else g x r d

/-- An operation that the Foyer performs alone: the reply carries what it answers. -/
def Dev.opLocal (d : Dev) (ses id op : Nat) (g : Session → FmpReq → Dev → OpRes) : Dev :=
  d.op ses id op fun x r d => let q := g x r d; q.1.fmpReply ses r q.2.1 q.2.2

/-- The request is marked as forwarded. -/
def Dev.fmpSent (d : Dev) (ses id : Nat) : Dev :=
  d.updSes ses fun x => { x with busy := x.busy.map fun b => if b.id = id then { b with sent := true } else b }

/-- An operation that the Foyer forwards across the Corridor (16 R449; 01 R42; 02 R55); `held` marks those that HOLD refuses. [log 103 DESIGN CHOICE] -/
def Dev.opForward (d : Dev) (ses id op typ : Nat) (held : Bool) : Dev :=
  d.op ses id op fun x r d =>
    if held && d.mst == msHold then d.fmpReply ses r E_LOCK []
    else if !d.cor.hostUp then d.fmpReply ses r E_PD []
    else (d.fmpSent ses id).sendReq { CrReq.zero with
      typ := typ, session := ses, reqId := id, suite := x.suite, role := x.role, origin := b2n x.udp, payload := r.payload }

/-- STATUS: FY_MODSTATE, FY_NWSTAT and FY_TBSTAT (16 R449). -/
def Dev.fmpStatus (d : Dev) : OpRes :=
  (d, E_OK, [FY_MODSTATE, FY_NWSTAT, FY_TBSTAT].flatMap fun k => le 4 (d.fyPeek k).toNat)

/-- Words read from a register on, each by the management core pair (00 R8; 01 R15). -/
def Dev.lregWords : Nat → Dev → Nat → Dev × List Byte
  | 0, d, _ => (d, [])
  | n + 1, d, k =>
    let r := d.readAs 0 k
    let s := Dev.lregWords n r.1 (k + 4)
    (s.1, le 4 r.2.1.toNat ++ s.2)

/-- LREG_READ (16 R449). [log 128 DEDUCED] -/
def Dev.lregRead (d : Dev) (p : List Byte) : OpRes :=
  let a := field p 0 4
  let n := field p 4 1
  if p.length ≠ 8 ∨ n = 0 ∨ 64 < n ∨ a % 4 ≠ 0 ∨ 0xFFFC < a + 4 * (n - 1) then opFail d E_RANGE
  else let r := d.lregWords n (fyKey a); (r.1, E_OK, r.2)

/-- TIME_STEP and TIME_SET (15 R403, 16 R451). -/
def Dev.fmpTime (d : Dev) (role : Nat) (force : Bool) (target : Int) : OpRes :=
  let r := d.timeCommand role force target
  if r.2 = E_OK then (r.1, E_OK, le 2 (r.1.get FY_TBSTAT_EPOCH) ++ [0, 0]) else opFail r.1 r.2

/-! ## The end of a forwarded request (01 R41, 16 R456) -/

/-- The proxy's request ends. -/
def Dev.proxyDone (d : Dev) (typ status : Nat) (payload : List Byte) : Dev :=
  let ix := field payload 0 2
  let d1 := if typ = 0x40 ∧ 4 < payload.length then
      (List.range (min 64 ((payload.length - 4) / 4))).foldl (fun (d : Dev) i =>
        d.wr (FY_CRPDATA + 4 * i) (BitVec.ofNat 32 (field payload (4 + 4 * i) 4))) d
    else d
  (((d1.put FY_CRPCTL_BUSY 0).put FY_CRPCTL_DONE 1).put FY_CRPCTL_RESULT status).put FY_CRPCTL_IDX
    (if payload.length < 2 ∨ ix = 0xFFFF then 0 else ix)

/-- A request of a session or of the proxy is answered, or has failed. -/
def Dev.requestEnds (d : Dev) (q : CrReq) (status : Nat) (payload : List Byte) : Dev :=
  if q.session = 0 then d
  else if q.reqId = 0 then d.proxyDone q.typ status payload
  else match mget? d.fmp.sessions q.session with
    | none => d
    | some x => match x.busy.find? fun b => b.id == q.reqId with
      | none => d
      | some r =>
        let d1 := if status = E_SUITE then d.suiteDenied q.session x r.op else d
        d1.fmpReply q.session r status payload

/-! ## The proxy (16 R426, R456) -/

/-- What the bound session allows: performed, E_ROLE or E_NO_SESSION. [log 129 DEDUCED] -/
def Dev.boundRole (d : Dev) (roles : List Nat) : Nat :=
  match mget? d.fmp.sessions (d.get FY_HPSESS_SESSION) with
  | none => E_NO_SESSION
  | some x => if roles.contains x.role then E_OK else E_ROLE

/-- READ or WRITE written to FY_CRPCTL. Answers the status of the access. [log 103 DESIGN CHOICE] -/
def Dev.proxy (d : Dev) (typ : Nat) : Dev × Nat :=
  let c := d.boundRole (if typ = 0x40 then [1, 2] else [1])
  let ses := d.get FY_HPSESS_SESSION
  if c ≠ E_OK then (d, c)
  else if d.bit FY_CRPCTL_BUSY then (d, E_BUSY)
  else if !d.cor.hostUp then (d.proxyDone typ E_PD [], E_OK)
  else
    let n := if d.get FY_CRPCTL_COUNT = 0 then 64 else d.get FY_CRPCTL_COUNT
    let data := if typ = 0x40 then [] else (List.range n).flatMap fun i => le 4 (d.rd (FY_CRPDATA + 4 * i)).toNat
    let x := mget Session.zero d.fmp.sessions ses
    ((d.put FY_CRPCTL_BUSY 1).sendReq { CrReq.zero with
      typ := typ, session := ses, suite := x.suite, role := x.role, origin := b2n x.udp
      payload := le 1 (d.get FY_CRPADDR_REGION) ++ le 1 n ++ [0, 0] ++ le 4 (d.get FY_CRPADDR_OFFSET) ++ data }, E_OK)

/-- A write of FY_CRPCTL: COUNT and DONE first, then READ or WRITE. -/
def Dev.crpWrite (d : Dev) (v : W32) : Dev × Nat :=
  if d.host.coreDown then (d, E_PD)
  else
    let d1 := (d.swWrite d.mod.committed FY_CRPCTL v).1
    if v.getLsbD 0 then d1.proxy 0x40 else if v.getLsbD 1 then d1.proxy 0x41 else (d1, E_OK)

/-- A write of FY_HPSESS (16 R456). -/
def Dev.hpsessWrite (d : Dev) (v : W32) : Dev × Nat :=
  let n := bitsOf v.toNat 7 0
  let ok := match mget? d.fmp.sessions n with
    | some x => !x.udp
    | none => false
  if n = 0 ∨ ok = true then ((d.put FY_HPSESS_SESSION n).fmpShow, E_OK) else ((d.put FY_HPSESS_SESSION 0).fmpShow, E_NO_SESSION)

/-! ## Meanings -/

/-- HPSESS_BIND (16 R426, R456). -/
def execHpsessBind (v : W32) (s : State) : Host.Outcome State Fault Refusal :=
  s.upd fun d => d.access true fun d => let r := d.hpsessWrite v; r.1.accessDone r.2 false []

/-- PROXY_READ: a write of FY_CRPCTL with READ (16 R456). -/
def execProxyRead (v : W32) (s : State) : Host.Outcome State Fault Refusal :=
  s.upd fun d => d.access true fun d => let r := d.crpWrite (v ||| 1); r.1.accessDone r.2 false []

/-- PROXY_WRITE: a write of FY_CRPCTL with WRITE and without READ (16 R456). -/
def execProxyWrite (v : W32) (s : State) : Host.Outcome State Fault Refusal :=
  s.upd fun d => d.access true fun d => let r := d.crpWrite ((v ||| 2) &&& 0xFFFFFFFE); r.1.accessDone r.2 false []

/-- HELLO (16 R444). -/
def execHello (udp : Bool) (channel tag : Nat) (body : List Byte) (s : State) : Host.Outcome State Fault Refusal :=
  s.upd fun d => d.when (d.carrierUp udp channel) fun d => (d.carrierTake udp channel).hello udp channel tag body

/-- FINISH (16 R444, R445). -/
def execFinish (udp : Bool) (channel tag session : Nat) (sigOk : Bool) (s : State) : Host.Outcome State Fault Refusal :=
  s.upd fun d => d.when (d.carrierUp udp channel) fun d => (d.carrierTake udp channel).finish udp channel tag session sigOk

/-- HANDSHAKE_TIMEOUT (16 R444). -/
def execHandshakeTimeout (session : Nat) (s : State) : Host.Outcome State Fault Refusal :=
  s.upd fun d => match mget? d.fmp.shakes session with
    | some h => d.shakeFail h 3
    | none => d

/-- LOCKOUT_EXPIRY (16 R444). -/
def execLockoutExpiry (entry : Nat) (s : State) : Host.Outcome State Fault Refusal :=
  s.upd fun d => d.updFmp fun m => { m with locked := m.locked.filter (· ≠ entry) }

/-- FMP_DATA_RECORD (16 R446 to R448). -/
def execFmpDataRecord (udp : Bool) (channel session seq : Nat) (ok : Bool) (msg : List Byte) (tag : Nat) (s : State) :
    Host.Outcome State Fault Refusal :=
  s.upd fun d => d.when (d.carrierUp udp channel) fun d =>
    (d.carrierTake udp channel).dataRecord udp channel session seq ok msg tag

/-- SESSION_IDLE_TIMEOUT (16 R447). -/
def execSessionIdleTimeout (session : Nat) (s : State) : Host.Outcome State Fault Refusal := s.upd fun d => d.sesClose 1 session

/-- FMP_STATUS (16 R449). -/
def execFmpStatus (session id : Nat) (s : State) : Host.Outcome State Fault Refusal :=
  s.upd fun d => d.opLocal session id 0x01 fun _ _ d => d.fmpStatus

/-- KEEPALIVE (16 R449). -/
def execKeepalive (session id : Nat) (s : State) : Host.Outcome State Fault Refusal :=
  s.upd fun d => d.opLocal session id 0x02 fun _ _ d => (d, E_OK, [])

/-- CLOSE: replied, then closed (16 R449). -/
def execClose (session id : Nat) (s : State) : Host.Outcome State Fault Refusal :=
  s.upd fun d => d.op session id 0x03 fun _ r d => (d.fmpReply session r E_OK []).sesClose 0 session

/-- FMP_POINT_READ (16 R449). -/
def execFmpPointRead (session id : Nat) (s : State) : Host.Outcome State Fault Refusal :=
  s.upd fun d => d.opForward session id 0x10 0x10 false

/-- FMP_POINT_WRITE (16 R449, 02 R55). -/
def execFmpPointWrite (session id : Nat) (s : State) : Host.Outcome State Fault Refusal :=
  s.upd fun d => d.opForward session id 0x11 0x11 true

/-- FMP_FORCE_SET (16 R449, 02 R55). -/
def execFmpForceSet (session id : Nat) (s : State) : Host.Outcome State Fault Refusal :=
  s.upd fun d => d.opForward session id 0x13 0x13 true

/-- FMP_REG_READ (16 R449). -/
def execFmpRegRead (session id : Nat) (s : State) : Host.Outcome State Fault Refusal :=
  s.upd fun d => d.opForward session id 0x20 0x40 false

/-- FMP_REG_WRITE (16 R449). -/
def execFmpRegWrite (session id : Nat) (s : State) : Host.Outcome State Fault Refusal :=
  s.upd fun d => d.opForward session id 0x21 0x41 false

/-- LREG_READ (16 R449). -/
def execLregRead (session id : Nat) (s : State) : Host.Outcome State Fault Refusal :=
  s.upd fun d => d.opLocal session id 0x22 fun _ r d => d.lregRead r.payload

/-- TIME_STEP (15 R403, 16 R451). -/
def execTimeStep (now session id : Nat) (s : State) : Host.Outcome State Fault Refusal :=
  s.upd fun d => (d.clock now).opLocal session id 0x30 fun x r d =>
    if r.payload.length ≠ 8 then opFail d E_RANGE
    else d.fmpTime x.role (bitOf r.flags 1) (d.timeNow + signed 64 (field r.payload 0 8) * 4294967296)

/-- TIME_SET (15 R403, 16 R451). -/
def execTimeSet (now session id : Nat) (s : State) : Host.Outcome State Fault Refusal :=
  s.upd fun d => (d.clock now).opLocal session id 0x31 fun x r d =>
    if r.payload.length ≠ 12 then opFail d E_RANGE
    else d.fmpTime x.role (bitOf r.flags 1) ((field r.payload 0 8 : Int) * 4294967296 + (field r.payload 8 4 : Nat))

/-- FMP_MESH_DOWN (16 R449, 02 R55). -/
def execFmpMeshDown (session id : Nat) (s : State) : Host.Outcome State Fault Refusal :=
  s.upd fun d => d.opForward session id 0x40 0x50 true

/-- ATTEST (17 R479). -/
def execAttest (session id : Nat) (s : State) : Host.Outcome State Fault Refusal :=
  s.upd fun d => d.opLocal session id 0x50 fun _ r d => d.attest session r.payload

/-- KEY_INFO (17 R459, R480). -/
def execKeyInfo (session id : Nat) (s : State) : Host.Outcome State Fault Refusal :=
  s.upd fun d => d.opLocal session id 0x51 fun _ r d => d.keyInfo r.payload

/-- KEY_PREPARE (17 R468, R470, R480). -/
def execKeyPrepare (session id : Nat) (s : State) : Host.Outcome State Fault Refusal :=
  s.upd fun d => d.opLocal session id 0x52 fun _ r d => d.keyPrepare session r.payload

/-- KEY_COMMIT (17 R468, R470, R480). -/
def execKeyCommit (session id : Nat) (s : State) : Host.Outcome State Fault Refusal :=
  s.upd fun d => d.opLocal session id 0x53 fun _ r d => d.keyCommit session r.payload

/-- KEY_ABORT (17 R470, R480). -/
def execKeyAbort (session id : Nat) (s : State) : Host.Outcome State Fault Refusal :=
  s.upd fun d => d.opLocal session id 0x54 fun _ r d => d.keyAbort session r.payload

/-- KEY_INVALIDATE (17 R464, R480). -/
def execKeyInvalidate (session id : Nat) (s : State) : Host.Outcome State Fault Refusal :=
  s.upd fun d => d.opLocal session id 0x55 fun _ r d => d.keyInvalidate r.payload

/-- KEY_EXPORT (17 R471, R480). -/
def execKeyExport (session id : Nat) (s : State) : Host.Outcome State Fault Refusal :=
  s.upd fun d => d.opLocal session id 0x56 fun _ r d => d.keyExport r.payload

/-- ARCADE_READ (19 R523). -/
def execArcadeRead (session id : Nat) (s : State) : Host.Outcome State Fault Refusal :=
  s.upd fun d => d.opLocal session id 0x58 fun x r d => d.arcadeRead x.role x.suite r.payload

/-- ARCADE_CLEAR_NONCE: ARCADE_CLEAR action 0 (19 R523). -/
def execArcadeClearNonce (session id : Nat) (s : State) : Host.Outcome State Fault Refusal :=
  s.upd fun d => d.opLocal session id 0x59 fun _ r d =>
    if field r.payload 0 1 ≠ 0 ∨ r.payload = [] then opFail d E_RANGE else d.arcadeNonce session

/-- ARCADE_CLEAR: action 1 (19 R523 to R525). -/
def execArcadeClear (session id : Nat) (sigOk : Bool) (s : State) : Host.Outcome State Fault Refusal :=
  s.upd fun d => d.opLocal session id 0x59 fun _ r d =>
    if field r.payload 0 1 ≠ 1 then opFail d E_RANGE else d.arcadeClear session r.payload sigOk

/-- POINT_NOTIFY reaches the Foyer and goes to its session (05 R146, 16 R449). -/
def execPointNotify (seq session : Nat) (entries : List Byte) (s : State) : Host.Outcome State Fault Refusal :=
  s.upd fun d => d.acceptUp seq fun d =>
    d.sesNotice session 0xF2 (le 1 session ++ le 1 (entries.length / 20) ++ [0, 0] ++ entries)

/-- MESH_UP reaches the Foyer and goes to the operator sessions (14 R388, 16 R449). -/
def execMeshUp (seq : Nat) (payload : List Byte) (s : State) : Host.Outcome State Fault Refusal :=
  s.upd fun d => d.acceptUp seq fun d =>
    (d.fmp.sessions.filter fun e => e.2.role == 1).foldl (fun (d : Dev) e => d.sesNotice e.1 0xF4 payload) d

end Sys2Proof.Machine
end

