-- ==== Sys2Proof/Machine/Ethernet.lean ====
section
/-! DEFINITION. The Ethernet ports: links, gateway probes, the active port and the frames that are answered (16 R454, R455). -/

namespace Sys2Proof.Machine

/-- Change the Ethernet state. -/
def Dev.updEth (d : Dev) (g : EthSt → EthSt) : Dev := { d with eth := g d.eth }

/-- LINK of a port. -/
def ethLink (p : Nat) : Fld := if p = 0 then FY_ETHSTAT_LINK0 else FY_ETHSTAT_LINK1

/-- GW of a port. -/
def ethGw (p : Nat) : Fld := if p = 0 then FY_ETHSTAT_GW0 else FY_ETHSTAT_GW1

/-- The active port. -/
def Dev.ethActive (d : Dev) : Nat := d.get FY_ETHSTAT_ACTIVE

/-- The network setting names a gateway (20 R547). -/
def Dev.ethGateway (d : Dev) : Bool := field d.eth.net 8 4 != 0 || field d.eth.net 32 16 != 0

/-- The active port moves: causes 0 link, 1 probe, 2 revert. -/
def Dev.ethSwitch (d : Dev) (cause : Nat) : Dev :=
  let p := 1 - d.ethActive
  (((d.put FY_ETHSTAT_ACTIVE p).inc FY_ETHSTAT_SWITCHES).updEth fun e => { e with probes := 0, announce := 3, downLong := false }).raiseFy
    (.mk' .fyEthSwitch [p, cause])

/-- The port that is active at a Foyer start. -/
def Dev.ethStart (d : Dev) : Dev :=
  (d.put FY_ETHSTAT_ACTIVE (if d.bit FY_ETHSTAT_LINK0 then 0 else if d.bit FY_ETHSTAT_LINK1 then 1 else 0)).updEth fun e =>
    { e with probes := 0, announce := 0, downLong := false, net := d.mod.cfg.net }

/-- A link goes up or down. -/
def Dev.ethLinkChange (d : Dev) (p : Nat) (up : Bool) : Dev :=
  if d.bit (ethLink p) = up then d
  else
    let d1 := (d.put (ethLink p) (b2n up)).raiseFy (.mk' .fyEthLink [p, ((b2n up : Nat) : Int)])
    if p = d1.ethActive then d1.updEth fun e => { e with downLong := false }
    else if up ∧ d1.eth.downLong then d1.ethSwitch 0 else d1

/-- The active link has been down for 500 ms. -/
def Dev.ethDown (d : Dev) : Dev :=
  if d.bit (ethLink d.ethActive) then d
  else if d.bit (ethLink (1 - d.ethActive)) then d.ethSwitch 0 else d.updEth fun e => { e with downLong := true }

/-- A probe of a port's gateway is answered or not; a further announcement after a switch goes out each second. -/
def Dev.ethProbe (d : Dev) (p : Nat) (answered : Bool) : Dev :=
  let d0 := d.updEth fun e => { e with announce := e.announce - 1 }
  if !d0.ethGateway then d0
  else if answered then (d0.put (ethGw p) 1).updEth fun e => { e with probes := if p = d.ethActive then 0 else e.probes }
  else if p ≠ d0.ethActive then d0.put (ethGw p) 0
  else
    let n := min (d0.eth.probes + 1) 3
    let d1 := d0.updEth fun e => { e with probes := n }
    if n < 3 then d1
    else
      let d2 := d1.put (ethGw p) 0
      if d2.bit (ethLink (1 - p)) then d2.ethSwitch 1 else d2

/-- Port 0 has been healthy for 60 s. -/
def Dev.ethRevert (d : Dev) : Dev :=
  if field d.eth.net 52 1 = 1 ∧ d.ethActive = 1 ∧ d.bit FY_ETHSTAT_LINK0 then d.ethSwitch 2 else d

/-- The bits of an address, most significant first. -/
def addrBits (bs : List Byte) : List Bool := bs.flatMap bitsMsb

/-- Whether the network setting permits a source: no prefix permits any (16 R454, 20 R547). -/
def sourceOk (net : List Byte) (family : Nat) (src : List Byte) : Bool :=
  let ps := ((List.range 8).map fun i => (net.drop (56 + 15 * i)).take 15).filter fun p => field p 0 1 != 0
  ps.isEmpty || ps.any fun p => field p 0 1 == family && (addrBits (p.drop 2)).take (field p 1 1) == (addrBits src).take (field p 1 1)

/-- Kinds of frame: 0 ARP, 1 neighbour solicitation, 2 echo, 3 UDP 48211, 4 PTP, 5 any other. -/
def Dev.ethAccepts (d : Dev) (p kind vid family : Nat) (src : List Byte) (addressed fragment : Bool) : Bool :=
  if !addressed || fragment || d.host.coreDown then false
  else if d.mod.romHold then kind == 3 && vid == 0 && family == 6
  else decide (p = d.ethActive) && decide (vid = field d.eth.net 48 2) &&
    (kind == 0 || kind == 1 || kind == 2 || (kind == 3 && sourceOk d.eth.net family src) || (kind == 4 && d.bit FY_PTPCFG_EN))

/-- A frame arrives. -/
def Dev.ethFrame (d : Dev) (p kind vid family : Nat) (src : List Byte) (addressed fragment : Bool) : Dev :=
  let sec := d.time.raw / rawPerSec
  let n := if d.eth.second = sec then d.eth.datagrams else 0
  if !d.ethAccepts p kind vid family src addressed fragment then d.inc FY_ETHSTAT_DISCARDED
  else if kind < 3 then d.updEth fun e => { e with answered := e.answered + 1 }
  else if 4000 ≤ n then (d.inc FY_ETHSTAT_DISCARDED).updEth fun e => { e with second := sec, datagrams := n }
  else d.updEth fun e => { e with second := sec, datagrams := n + 1 }

/-! ## Meanings -/

/-- ETH_LINK_CHANGE (16 R455). -/
def execEthLinkChange (port : Nat) (up : Bool) (s : State) : Host.Outcome State Fault Refusal :=
  s.upd fun d => d.when (decide (port < 2)) fun d => d.ethLinkChange port up

/-- GATEWAY_PROBE (16 R455). -/
def execGatewayProbe (port : Nat) (answered : Bool) (s : State) : Host.Outcome State Fault Refusal :=
  s.upd fun d => d.when (decide (port < 2) && d.mod.started) fun d => d.ethProbe port answered

/-- ETH_REVERT (16 R455). -/
def execEthRevert (s : State) : Host.Outcome State Fault Refusal := s.upd Dev.ethRevert

/-- ETH_FRAME_RX; `ue` is an uncorrectable word that the MAC meets, which drops the frame (03 R70; 16 R454, R455). -/
def execEthFrameRx (now port kind vid family : Nat) (src : List Byte) (addressed fragment : Bool) (ue : Option (Nat × Nat)) (s : State) :
    Host.Outcome State Fault Refusal :=
  s.upd fun d => match ue with
    | some p => (d.clock now).uncorrected .fy p.1 p.2 (Mem.fy.agentOf (2 + port % 2))
    | none => (d.clock now).ethFrame port kind vid family src addressed fragment

/-- ACTIVE_LINK_DOWN_TIMEOUT (16 R455). -/
def execActiveLinkDownTimeout (s : State) : Host.Outcome State Fault Refusal := s.upd fun d => d.when d.mod.started Dev.ethDown

end Sys2Proof.Machine
end

