-- ==== Sys2Proof/Machine/Slots.lean ====
section
/-! DEFINITION. The boot flash slots and their states, trials, the marks of a revert, and the journal's archive (18 R484 to R486,
R492, R493, R500, R501, R503; 20 R530 to R536). -/

namespace Sys2Proof.Machine

/-! ## Components and slots (18 R484, R485, R493) -/

/-- Component ids by index. -/
def compIds : List Nat := [0x01, 0x02, 0x03, 0x04, 0x05, 0x10, 0x11, 0x20, 0x21]

/-- Id of a component index. -/
def compOf (i : Nat) : Nat := compIds.getD i 0

/-- Index of a component id. -/
def compIx (c : Nat) : Option Nat := (List.range 9).find? fun i => compOf i == c

/-- Slot states, coded as in FY_UPDSLOT. -/
def ssEmpty : Nat := 0
def ssReceiving : Nat := 1
def ssReceived : Nat := 2
def ssVerified : Nat := 3
def ssTrial : Nat := 4
def ssActive : Nat := 5
def ssOld : Nat := 6
def ssReverted : Nat := 7
def ssInvalid : Nat := 8

/-- States, running slot, trial counter and floor of a component. -/
def Dev.slotWord (d : Dev) (i : Nat) : Nat := mget 5 d.jnl.words i

/-- One journal record of a component's states; the host registers show it once the firmware has read the journal. -/
def Dev.setSlotWord (d : Dev) (i v : Nat) : Dev :=
  let d1 := d.updJnl fun j => { j with words := mset 5 j.words i v }
  if d.mod.started then d1.wr (FY_UPDSLOT + 4 * i) (BitVec.ofNat 32 v) else d1

/-- State of a slot. [log 10 DESIGN CHOICE] -/
def Dev.slotState (d : Dev) (i s : Nat) : Nat := bitsOf (d.slotWord i) (4 * s + 3) (4 * s)

/-- A slot changes state. -/
def Dev.setSlotState (d : Dev) (i s v : Nat) : Dev := d.setSlotWord i (putBits (d.slotWord i) (4 * s + 3) (4 * s) v)

/-- Slot that runs. -/
def Dev.slotRun (d : Dev) (i : Nat) : Nat := bitsOf (d.slotWord i) 8 8

/-- The running slot changes. -/
def Dev.setSlotRun (d : Dev) (i s : Nat) : Dev := d.setSlotWord i (putBits (d.slotWord i) 8 8 s)

/-- Trial counter. -/
def Dev.trials (d : Dev) (i : Nat) : Nat := bitsOf (d.slotWord i) 10 9

/-- The trial counter changes. -/
def Dev.setTrials (d : Dev) (i n : Nat) : Dev := d.setSlotWord i (putBits (d.slotWord i) 10 9 n)

/-- Security version floor. -/
def Dev.floor (d : Dev) (i : Nat) : Nat := bitsOf (d.slotWord i) 31 16

/-- The slot of a component in a state. -/
def Dev.slotOf (d : Dev) (i st : Nat) : Option Nat := [0, 1].find? fun s => d.slotState i s == st

/-- The slot of a component that is ACTIVE. -/
def Dev.activeSlot (d : Dev) (i : Nat) : Nat := (d.slotOf i ssActive).getD (d.slotRun i)

/-- Contents of a slot. [log 10 DESIGN CHOICE] -/
def Dev.slotInfo (d : Dev) (i s : Nat) : SlotInfo := mget SlotInfo.zero d.jnl.slots (2 * i + s)

/-- Change the contents of a slot. -/
def Dev.setSlotInfo (d : Dev) (i s : Nat) (x : SlotInfo) : Dev := d.updJnl fun j => { j with slots := mset SlotInfo.zero j.slots (2 * i + s) x }

/-- Every FY_UPDSLOT register takes the journal's value as the firmware starts. -/
def Dev.slotShow (d : Dev) : Dev :=
  (List.range 9).foldl (fun (d : Dev) i => d.wr (FY_UPDSLOT + 4 * i) (BitVec.ofNat 32 (d.slotWord i))) d

/-! ## The layout descriptor (20 R531) -/

/-- A copy of the layout descriptor for a device of a size. -/
def layoutCopy (size : Nat) : List Byte :=
  let b := [0x53, 0x58, 0x42, 0x46] ++ le 2 1 ++ [0, 0] ++ le 8 size ++ List.replicate 44 0
  b ++ le 4 (crc32c b)

/-- Whether a copy is valid: its CRC passes and bytes 0 to 7 match. -/
def layoutOk (b : List Byte) : Bool :=
  b.length == 64 && b.take 8 == [0x53, 0x58, 0x42, 0x46, 1, 0, 0, 0] && crc32c (b.take 60) == field b 60 4

/-- Whether a copy of the boot flash is valid. -/
def Dev.laidOut (d : Dev) : Bool := d.jnl.layout.any layoutOk

/-- Both copies are written: by the boot ROM's responder with the size it has read, by the firmware from the valid copy. -/
def Dev.putLayout (d : Dev) (b : List Byte) : Dev := d.updJnl fun j => { j with layout := [b, b] }

/-- The firmware rewrites an invalid copy from the other as it starts. -/
def Dev.layoutRepair (d : Dev) : Dev := match d.jnl.layout.find? layoutOk with
  | some b => if d.jnl.layout.all layoutOk then d else d.putLayout b
  | none => d

/-- With no valid copy, the boot ROM treats every slot as EMPTY; a journal record says so. [log 148 DESIGN CHOICE] -/
def Dev.slotsEmpty (d : Dev) : Dev :=
  (List.range 9).foldl (fun (d : Dev) i => (d.setSlotState i 0 ssEmpty).setSlotState i 1 ssEmpty) d

/-! ## The header (18 R486) -/

def SlotInfo.version (x : SlotInfo) : Nat := field x.header 16 4
def SlotInfo.secver (x : SlotInfo) : Nat := field x.header 20 2
def SlotInfo.epoch (x : SlotInfo) : Nat := field x.header 22 2
def SlotInfo.digestEpoch (x : SlotInfo) : Nat := field x.header 24 2
def SlotInfo.stateEpoch (x : SlotInfo) : Nat := field x.header 26 2
def SlotInfo.length (x : SlotInfo) : Nat := field x.header 88 8
def SlotInfo.digest (x : SlotInfo) : Nat := field x.header 96 32

/-- Peer ranges: component, lowest and highest interface epoch. -/
def SlotInfo.peers (x : SlotInfo) : List (Nat × Nat × Nat) :=
  ((List.range 7).map fun n => (field x.header (32 + 8 * n) 1, field x.header (34 + 8 * n) 2, field x.header (36 + 8 * n) 2)).filter
    fun e => e.1 ≠ 0

/-- Whether a slot that the update manager has filled fails the check of R491. -/
def SlotInfo.bad (x : SlotInfo) : Bool := x.header != [] && shaNum x.plain != x.digest

/-! ## Trials and reverts (18 R492, R500, R503) -/

/-- Campaign phases of FY_UPDSTAT. -/
def phIdle : Nat := 0
def phStep : Nat := 1
def phTrial : Nat := 2
def phRevert : Nat := 3
def phRestart : Nat := 4

/-- Change the campaign. -/
def Dev.updCamp (d : Dev) (g : Campaign → Campaign) : Dev := d.updJnl fun j => { j with camp := j.camp.map g }

/-- Whether the campaign reverts. -/
def Dev.reverting (d : Dev) : Bool := match d.jnl.camp with
  | some c => c.revert.isSome
  | none => false

/-- Components of a step of R497; the configuration image and the KZL programs share the last step. -/
def stepComps (i : Nat) : List Nat := if i = 5 then [5, 6] else [i]

/-- Whether a step has been taken: its TRIAL slot runs, or a flight runs it. -/
def Dev.stepTaken (d : Dev) (i : Nat) : Bool :=
  (stepComps i).any fun k => match d.slotOf k ssTrial with
    | some t => d.slotRun k == t || (i == 2 && (d.nw.fwA == t || d.nw.fwB == t))
    | none => false

/-- A campaign begins to revert: the steps taken are undone in reverse order (18 R503). Causes: 0 command, 1 trial limit, 2 load
check, 3 step failed, 4 schema, 5 Corridor. [log 115 DESIGN CHOICE] -/
def Dev.revertMark (d : Dev) (cause : Nat) : Dev :=
  if d.jnl.camp.isNone || d.reverting then d
  else
    let undo := ((List.range 6).filter d.stepTaken).reverse
    ((d.updCamp fun c => { c with revert := some cause, todo := undo, busy := false, waits := 0, tag := c.tag + 1 }).put FY_UPDSTAT_PHASE
      phRevert).raiseFy (.mk' .fyUpdRevert [cause])

/-- Field power is lost, or the Corridor for too long, while a live step runs: what remains goes by the restart path (18 R504,
R508). On that path todo holds 0 for the Foyer's own restart and 6 for the field's. [log 115 DESIGN CHOICE] -/
def Dev.campRestart (d : Dev) : Dev :=
  d.updCamp fun c =>
    if c.todo = [] ∨ c.restart then c
    else { c with restart := true, stage := 0, waits := 0, tag := c.tag + 1, busy := c.busy && c.todo.head? == some 0
                  todo := if c.revert.isSome then c.todo else (c.todo.filter (· == 0)) ++ [6] }

/-- The campaign as the firmware finds it at its start: a step other than the Foyer's own begins again, and one of which no slot is
in TRIAL is not in trial (18 R504). [log 117 DESIGN CHOICE] -/
def Dev.campBoot (d : Dev) : Dev :=
  if (List.range 9).any fun i => (d.slotOf i ssTrial).isSome then
    d.updCamp fun c => { c with busy := c.busy && c.todo.head? == some 0, stage := 0, waits := 0, tag := c.tag + 1 }
  else d.updJnl fun j => { j with camp := none }

/-- The end of a revert: one journal record marks every TRIAL slot REVERTED and drops the settings of the trial. [log 110 DESIGN CHOICE] -/
def Dev.revertEnds (d : Dev) : Dev :=
  let one (d : Dev) (i : Nat) : Dev := match d.slotOf i ssTrial with
    | some s => ((d.setSlotState i s ssReverted).setTrials i 0).setSlotRun i (d.activeSlot i)
    | none => d
  ((((List.range 9).foldl one d).updJnl fun j => { j with camp := none, settings := j.settings.filter fun x => !x.trial }).put
    FY_UPDSTAT_PHASE phIdle).put FY_UPDSTAT_SCHEMAERR 0

/-- EV_FY_UPD_LOAD_FAIL: a load check fails (18 R492). -/
def Dev.loadFail (d : Dev) (i s : Nat) : Dev := d.raiseFy (.mk' .fyUpdLoadFail [compOf i, s])

/-- The stage that loads a component chooses its slot: the TRIAL slot, counted, while its counter is below 3 and its check
passes; otherwise the ACTIVE slot, and the campaign reverts (18 R492, R500). `bad` tells that the check of R491 fails. -/
def Dev.trialStart (d : Dev) (i : Nat) (bad : Bool) : Dev :=
  let act := d.activeSlot i
  match d.slotOf i ssTrial with
  | none => (if bad then d.loadFail i act else d).setSlotRun i act
  | some t =>
    if d.reverting then d.setSlotRun i act
    else if 3 ≤ d.trials i then (d.setSlotRun i act).revertMark 1
    else
      let d1 := d.setTrials i (d.trials i + 1)
      if bad then ((d1.loadFail i t).setSlotRun i act).revertMark 2 else d1.setSlotRun i t

/-- The slot from which a component is loaded next. [log 40 DESIGN CHOICE] -/
def Dev.loadSlot (d : Dev) (i : Nat) : Nat :=
  if d.reverting then d.activeSlot i else (d.slotOf i ssTrial).getD (d.activeSlot i)

/-! ## The archive (20 R534, R536) -/

/-- The archive copy that a restoration uses: of those whose tag passes, the one with the higher sequence; none under the
test root. -/
def Dev.bestArchive (d : Dev) : Option Archive :=
  let l := (([d.jnl.archA, d.jnl.archB].filterMap id).filter fun a => a.ok && !d.debug)
  l.foldl (fun b a => match b with
    | none => some a
    | some x => if x.seq < a.seq then some a else some x) none

/-- The archived partitions as a copy holds them. -/
def Dev.archiveNow (d : Dev) (seq : Nat) : Archive :=
  let j := d.jnl
  { seq := seq, opsecAt := d.opsec, ok := true, slots := j.slots, words := j.words, camp := j.camp, clients := j.clients
    updateKey := j.updateKey, quarA := j.quarA, quarB := j.quarB, settings := j.settings, snap := j.snap, turns := j.turns
    nbr := j.nbr, txctr := j.txctr, opsec := j.opsec, pwrcyc := j.pwrcyc, time := j.time }

/-- JOURNAL_ARCHIVE: the copy with the older sequence is written; none under the test root. -/
def Dev.archive (d : Dev) : Dev :=
  let sq (a : Option Archive) : Nat := match a with
    | some x => x.seq + 1
    | none => 0
  if d.debug then d
  else
    let n := max (sq d.jnl.archA) (sq d.jnl.archB)
    if sq d.jnl.archA ≤ sq d.jnl.archB then d.updJnl fun j => { j with archA := some (d.archiveNow n) }
    else d.updJnl fun j => { j with archB := some (d.archiveNow n) }

/-- Bitmaps of the slots; headers and blocks stand in boot flash. -/
def JournalSt.bitmaps (j : JournalSt) (m : Map SlotInfo) : Map SlotInfo :=
  j.slots.map fun e => (e.1, { e.2 with bitmap := (mget SlotInfo.zero m e.1).bitmap })

/-- A partition takes an archive's contents. Partitions are numbered in the order of R534. -/
def JournalSt.restore (j : JournalSt) (p : Nat) (a : Archive) : JournalSt :=
  match p with
  | 2 => { j with slots := j.bitmaps a.slots, words := a.words, camp := a.camp }
  | 3 => { j with clients := a.clients, updateKey := a.updateKey, quarA := a.quarA, quarB := a.quarB }
  | 4 => { j with settings := a.settings }
  | 5 => { j with snap := a.snap, turns := a.turns, nbr := a.nbr, txctr := a.txctr, opsec := a.opsec, pwrcyc := a.pwrcyc, time := a.time }
  | _ => j

/-- An unmountable archived partition at a Foyer start: restored, or formatted empty. [log 34 DESIGN CHOICE] -/
def Dev.mountPartition (d : Dev) (p : Nat) : Dev :=
  if p ∉ [0, 2, 3, 4, 5] then d
  else match d.bestArchive with
    | some a => (d.updJnl fun j => j.restore p a).raiseFy (.mk' .fyJnlRestored [p, a.seq])
    | none => (d.updJnl fun j => j.restore p Archive.zero).raiseFy (.mk' .fyJnlLost [p])

/-! ## Meanings -/

/-- JOURNAL_ARCHIVE (20 R536). [log 119 DESIGN CHOICE] -/
def execJournalArchive (s : State) : Host.Outcome State Fault Refusal := s.upd fun d => d.when (d.mod.started && !d.arc.warned) Dev.archive

/-- FLASH_SCRUB: the hourly check of one slot, `ok` as it comes out (20 R533). [log 119 DESIGN CHOICE] -/
def execFlashScrub (ok : Bool) (s : State) : Host.Outcome State Fault Refusal :=
  s.upd fun d => d.when d.mod.started fun d =>
    let n := d.jnl.scrub % 18
    let i := n / 2
    let st := d.slotState i (n % 2)
    let d1 := d.updJnl fun j => { j with scrub := (n + 1) % 18 }
    if ok = true ∨ st ∉ [ssActive, ssOld, ssVerified] then d1
    else
      let d2 := d1.raiseFy (.mk' .fyFlashDegraded [compOf i, n % 2])
      if st = ssActive then d2 else d2.setSlotState i (n % 2) ssInvalid

end Sys2Proof.Machine
end

