-- ==== Sys2Proof/Machine/Start.lean ====
section
/-! DEFINITION. Supplies, resets, the boot ROM, self-tests, the transfer of the images, measured boot, cold and warm starts and the
power warning (chapter 02; 04 R117 to R120; 05 R144, R147; 06 R172; 17 R472; 20 R540, R550; 21 R559 to R561). -/

namespace Sys2Proof.Machine

/-! ## The Foyer's reset (15 R393, R409; 16 R425; 02 R52) -/

/-- Registers that a Foyer reset keeps: those of the backup domain. -/
def backupReg (k : Nat) : Bool := k == FY_BKSTAT || k == FY_PWRCYC || (decide (FY_BKRAM ≤ k) && decide (k < FY_BKRAM + 128))

/-- A reset of the Foyer: a power-on reset, or a Foyer restart, which leaves the time base counting. The journal, the boot flash,
the event partition and the backup domain stay. [log 31 DESIGN CHOICE; 32 DESIGN CHOICE] -/
def Dev.foyerReset (d : Dev) (por : Bool) : Dev :=
  let pwr := d.get FY_MODSTATE_FIELDPWR
  let warn := d.get FY_MODSTATE_PWRWARN
  let t := d.time
  let d1 : Dev := { d with
    regs := d.regs.filter fun e => decide (e.1 / 2 ^ 24 ≠ 1) || backupReg e.1
    time := if por then { TimeSt.empty with rtcCnt := t.rtcCnt, rtcSub := t.rtcSub, losses := t.losses }
      else { TimeSt.empty with raw := t.raw, opsec0 := t.opsec0, rtcCnt := t.rtcCnt, rtcSub := t.rtcSub, losses := t.losses }
    host := HostSt.empty, eth := EthSt.empty, upd := UpdSt.empty, fmem := FoyMemSt.empty
    fmp := { FmpSt.empty with sessions := d.fmp.sessions, keys := d.fmp.keys, lastId := d.fmp.lastId }
    und := { UnderSt.empty with draws := d.und.draws }
    arc := { ArcSt.empty with ring := d.arc.ring, nonceNo := d.arc.nonceNo }
    cor := { d.cor with
      down := { CrDir.zero with dups := d.cor.down.dups }, up := { d.cor.up with lastAcc := none, spare := false, lost := false, dups := 0 }
      hostUp := false, hbHost := 0, everHost := false, reqs := [], period := none, hostStatus := [], downQ := [], fieldState := 0 }
    mod := { ModSt.empty with
      vhin := d.mod.vhin, por := por, inService := d.mod.inService, gradField := d.mod.gradField, snap := d.jnl.snap, cfg := d.mod.cfg
      blockFaults := d.mod.blockFaults.filter fun e => decide (3 ≤ e.1)
      cfgPresent := d.mod.cfgPresent, committed := d.mod.committed } }
  (d1.put FY_MODSTATE_FIELDPWR pwr).put FY_MODSTATE_PWRWARN warn

/-! ## Field starts (02 R45, R51, R54; 04 R117) -/

/-- HOLD on the field side, with the fail-safe levels where the Gallery holds them; the Foyer follows by the row given, or once STATUS
reaches it (01 R13; 02 R54, R55; 11 R298). -/
def Dev.holdField (d : Dev) (row : Nat) : Dev :=
  let d1 := (d.updNw fun n => { n with modState := msHold, gate := false, fetch := none, early := none }).glFailsafe 0
  if d1.linkUp then d1.setMod msHold row else d1

/-- What a start finds of a retained snapshot (02 R57). -/
def Dev.snapValid (d : Dev) : Bool := match d.mod.snap with
  | some s => s.crcOk && s.cfg == mget 0 d.mod.meas 5 && s.prog == mget 0 d.mod.meas 6 &&
      s.layout == max (d.get FL_RETAIN_LAYOUT) (d.get (FL_RETAIN_LAYOUT.at .b))
  | none => false

/-- The start kind by R56 with its basis and whether warm was requested and cold taken: 0 automatic, 1 policy, 2 command. -/
def Dev.startKind (d : Dev) (valid : Bool) : Bool × Nat × Bool :=
  match d.mod.order with
  | some 1 => (false, 2, false)
  | some 2 => (valid, 2, !valid)
  | _ => if d.mod.cfg.alwaysCold then (false, 1, false) else (valid, 0, false)

/-- FY_START shows a start (02 R59, R63). [log 38 DEDUCED] -/
def Dev.showStart (d : Dev) (warm : Bool) (basis : Nat) (fallback : Bool) : Dev :=
  (((d.put FY_START_KIND (b2n warm)).put FY_START_BASIS basis).put FY_START_FALLBACK (b2n fallback)).put FY_START_FIELDONLY
    (b2n d.mod.fieldOnly)

/-- A flight at a field restart: RESET, and tested (04 R117). -/
def Dev.restartFl (d : Dev) (f : Flt) : Dev :=
  if d.fst f = fsAbsent ∨ d.fst f = fsQuarantined then d
  else ((((d.flReset f).setFl f fsReset).setFl f fsTesting).updNw fun n => (n.setHeld f false).setRetry f none)

/-- The field side restarts as the Foyer has ordered: the commit set, plans and transfers end, and both flights are tested (02 R45;
04 R117). -/
def Dev.fieldRestart (d : Dev) : Dev :=
  let d1 := d.planEnds E_SEQ
  let d2 := (if d1.nw.stair.isSome then d1.stairEnds E_SEQ else d1).updNw fun n => { n with
    modState := msSelftest, gate := false, fetch := none, early := none, sigA := [], sigB := [], matched := 0, compared := 0
    returnScan := none, promoted := none, recogAt := none, load := [], staged := [], verifyQ := [], faults := []
    batchDue := [], acked := [] }
  d2.bothFl fun f d => d.restartFl f

/-- SELFTEST: step 5 of a start, at the scope of its provisional kind, or that of R51 where the Gallery has committed output since field
power-up (02 R45, R49, R51, R54). The field side follows while the Corridor is up. [log 140 DESIGN CHOICE] -/
def Dev.fieldStart (d : Dev) (row : Nat) : Dev :=
  let k := d.startKind (match d.mod.snap with | some s => s.crcOk | none => false)
  let d1 := (d.updMod fun m => { m with
    fieldOnly := m.inService, committed := false, adopt := false, scopeWarm := k.1, startDue := true, preDone := false }).clearReg FY_STRESULT
  let d2 := (d1.setMod msSelftest row).showStart k.1 k.2.1 false
  if d2.linkUp then d2.fieldRestart else d2

/-- An authorised restart of the field side (02 R54). -/
def Dev.restartField (d : Dev) : Dev :=
  if d.bit FY_MODSTATE_FIELDPWR && (d.mst == msHold || d.mst == msService || d.mst == msDegraded || d.mst == msFailsafe) && !d.mod.romHold then
    d.fieldStart 14
  else d

/-! ## Measurement registers (02 R52) -/

/-- A measurement register is written once per Foyer boot. [log 23 DESIGN CHOICE] -/
def Dev.measure (d : Dev) (n v : Nat) : Dev :=
  if n ∈ d.mod.measDone then d
  else d.updMod fun m => { m with meas := mset 0 m.meas n v, measDone := m.measDone ++ [n] }

/-- Register 7: SHA-256 over registers 0 to 6, the lifecycle byte and the start-kind byte. -/
def Dev.measureStart (d : Dev) (warm : Bool) : Dev :=
  d.measure 7 (shaNum (((List.range 7).flatMap fun n => le 32 (mget 0 d.mod.meas n)) ++ le 1 (d.get FY_UCSTAT_LIFECYCLE) ++ le 1 (b2n warm)))

/-! ## The boot ROM and the Foyer firmware (02 R45, R48; 18 R499, R505) -/

/-- Settings that the firmware of a trial finds: an older schema that it can read is migrated into a copy of its own; any other
schema but its own raises EV_FY_UPD_SCHEMA and reverts the campaign (18 R505). [log 39 DESIGN CHOICE] -/
def Dev.settingsCheck (d : Dev) (known oldest slot : Nat) : Dev :=
  match (d.jnl.settings.filter fun x => !x.trial).getLast? with
  | none => d
  | some c =>
    if c.schema = known then d
    else if oldest ≤ c.schema ∧ c.schema < known then
      d.updJnl fun j => { j with settings := (j.settings.filter fun x => !x.trial) ++ [⟨known, 1, slot, true, false⟩] }
    else ((d.raiseFy (.mk' .fyUpdSchema [1, c.schema, known])).put FY_UPDSTAT_SCHEMAERR 1).revertMark 4

/-- Step 3: the ROM starts the firmware, which mounts the journal (02 R45, 18 R500). [log 31 DESIGN CHOICE; 33 DEDUCED] -/
def Dev.firmwareStart (d : Dev) (digest : Nat) (badParts : List Nat) (debug : Bool) (badKeys : List (Nat × Nat)) (trialBad : Bool)
    (known oldest ticks : Nat) : Dev :=
  let trial := (d.slotOf 0 ssTrial).isSome
  let d1 := ((d.trialStart 0 trialBad).measure 0 digest).updMod fun m => { m with started := true }
  let d2 := (d1.updHost fun h => { h with portUp := true, hostRdy := true }).coreUp
  let d3 := badParts.foldl (fun (d : Dev) p => d.mountPartition p) d2
  let d4 := (((d3.layoutRepair.updMod fun m => { m with snap := d3.jnl.snap }).slotShow).keyMount debug badKeys).arcMount
  let d5 := (((d4.rtcTick ticks).timeInit).sesCloseAll 2).ethStart
  let d5 := d5.campBoot
  let d6 := match d5.jnl.camp with
    | some c => d5.put FY_UPDSTAT_PHASE (if c.revert.isSome then phRevert else if c.restart then phRestart
        else if c.todo = [] then phTrial else phStep)
    | none => d5
  if trial && !d6.reverting then d6.settingsCheck known oldest (d6.slotRun 0) else d6

/-- A defect that the Foyer's tests find is repaired by a spare bank or a spare lane; answers none where no spare remains (02 R50; 03 R78;
01 R39). The detail of test 0x06 is the direction, 0 host to field. [log 143 DESIGN CHOICE] -/
def Dev.hostRepair (d : Dev) (e : Nat × Nat) : Option Dev :=
  match e.1 with
  | 0x02 => d.bankRepair .fy e.2
  | 0x06 =>
    let down := e.2 == 0
    if e.2 ≤ 1 ∧ d.get (if down then FY_SPAREBUD0_CRDOWN else FY_SPAREBUD0_CRUP) ≠ 0 then
      let d1 := (d.updCor fun c => if down then { c with down := { c.down with spare := true } } else { c with up := { c.up with spare := true } })
      some ((d1.useSpare 1 (if down then FY_SPAREBUD0_CRDOWN else FY_SPAREBUD0_CRUP)).raiseFy (.mk' .crLaneSpared [e.2]))
    else none
  | _ => none

/-- Defects go through their repair; answers those that no spare repairs (02 R50). -/
def repairs {α : Type} (g : Dev → α → Option Dev) : Dev → List α → Dev × List α
  | d, [] => (d, [])
  | d, e :: t => match g d e with
    | some d1 => repairs g d1 t
    | none => let r := repairs g d t; (r.1, e :: r.2)

/-- The boot ROM reads the flash device: its size from SFDP, and what the copies of the layout descriptor hold, where they have not
kept what was written. Answers the failures of test 0x05 that this makes: no usable device, or no valid copy (20 R529, R531). [log 148 DESIGN CHOICE] -/
def Dev.flashRead (d : Dev) (size : Nat) (copies : List (Nat × List Byte)) : Dev × List (Nat × Nat) :=
  let d1 := (d.updMod fun m => { m with flash := size }).updJnl fun j => { j with
    layout := [0, 1].map fun n => match copies.find? fun e => e.1 == n with
      | some e => e.2
      | none => j.layout.getD n [] }
  if size < 2 ^ 27 then (d1, [(5, 0xFE)]) else if d1.laidOut then (d1, []) else (d1.slotsEmpty, [(5, 0xFF)])

/-- BOOT_ROM_DONE: `found` are the defects of tests 0x01 to 0x06 with their details, to which those of the flash device come. A direction
without a good lane is lost; any other failure leads to HOLD, the firmware measured where only its signature fails (02 R45, R49, R50, R52,
R54; 20 R529, R531). -/
def Dev.bootRomDone (d0 : Dev) (found : List (Nat × Nat)) (digest size : Nat) (copies : List (Nat × List Byte)) (start : Dev → Dev) : Dev :=
  if d0.mst ≠ msBoot ∨ d0.mod.started ∨ d0.mod.romHold ∨ d0.bit FY_MODSTATE_PWRWARN then d0
  else
    let fr := d0.flashRead size copies
    let d := fr.1
    let r := repairs Dev.hostRepair d ((found.filter fun e => decide (1 ≤ e.1 ∧ e.1 ≤ 6 ∧ (e.1 ≠ 5 ∨ fr.2 = []))) ++ fr.2)
    let rom := r.2.filter fun e => e.1 ≠ 6
    let lanes := (r.2.filter fun e => e.1 = 6).foldl (fun (d : Dev) e => (d.testFailed 2 6 e.2).updCor fun c =>
      if e.2 = 0 then { c with down := { c.down with lost := true } } else { c with up := { c.up with lost := true } }) r.1
    if rom = [] then start lanes
    else
      let d1 := rom.foldl (fun (d : Dev) e => d.testFailed 1 e.1 e.2) r.1
      let d2 := if (rom.all fun e => e.1 == 5) && fr.2 == [] then d1.measure 0 digest else d1
      ((d2.updMod fun m => { m with romHold := true }).setMod msHold 2).updHost fun h =>
        { h with portUp := true, hostRdy := true, coreDown := false }

/-! ## Self-tests of the field side (02 R47 to R51; 06 R179; 03 R78) -/

/-- A defect that a spare repairs, by region, test and index; answers none where no good spare remains for it (02 R50; 03 R78; 06 R179; 09
R262; 12 R322, R323). -/
def Dev.fieldRepair (d : Dev) (e : Nat × Nat × Nat) : Option Dev :=
  let i := e.2.2
  if e.1 = 3 ∨ e.1 = 4 then
    let f := Flt.ofNum (e.1 - 3)
    if d.fst f ≠ fsTesting then none
    else match e.2.1 with
    | 0x10 =>
      if i < 16 ∧ d.get (FL_TREADMAP_SPAREFOR.at f) = i then some d
      else if i < 16 ∧ d.get (FL_TREADMAP_SPAREFOR.at f) = 0x1F ∧ d.bit (FL_TREADMAP_SPAREOK.at f) then
        some (((d.put (FL_TREADMAP_SPAREFOR.at f) i).useSpare e.1 (FL_SPAREBUD_TREAD.at f)).raiseFlNow f .flTreadSpared [i])
      else none
    | 0x13 =>
      let cell (n : Nat) : Fld := ⟨f.key FL_ENFCELLMAP, 8 * n + 5, 8 * n⟩
      if (List.range 4).any fun n => d.get (cell n) == i && i != 0x3F then some d
      else match (List.range 4).find? fun n => d.get (cell n) == 0x3F with
      | some n => if i < 64 then
          some (((d.put (cell n) i).useSpare e.1 (FL_SPAREBUD_ENF.at f)).raiseFlNow f .flEnfCellSpared [i]) else none
      | none => none
    | 0x11 | 0x12 => d.bankRepair (.fl f) i
    | _ => none
  else if e.1 = 6 ∧ e.2.1 = 0x14 then
    let g := grp i
    if 256 ≤ i then (if i < 272 then some (d.spareDefect (i - 256)) else none)
    else if d.bit (GL_SPARECELL_PERM.ix g) || d.bit (GL_SPARECELL_DEFECT.ix g) then none
    else some ((d.spareConsume g i).raiseCh .glCellSpared i [i, g])
  else none

/-- The result of a flight's tests: LOADING, or FAILED with code 0x0E (04 R117). -/
def Dev.testedFl (d : Dev) (f : Flt) (ok : Bool) : Dev :=
  if d.fst f ≠ fsTesting then d
  else if ok then d.setFl f fsLoading
  else d.failOne f 0x0E

/-- Load checks and trial counts of the components that a start loads (18 R492, R500); `bad` names those whose check fails. [log 40 DESIGN CHOICE] -/
def Dev.loadStart (d : Dev) (bad : List Nat) : Dev :=
  let fails (i : Nat) (d : Dev) : Bool := bad.contains i || (d.slotInfo i (d.loadSlot i)).bad
  let d1 := (List.range 6).foldl (fun (d : Dev) n => d.trialStart (n + 1) (fails (n + 1) d)) d
  if d1.reverting then (List.range 6).foldl (fun (d : Dev) n => d.setSlotRun (n + 1) (d.activeSlot (n + 1))) d1 else d1

/-- Whether the tests in progress on the field side include one, by region, test and index: those of the start at its scope, or a full
test of a flight in service (02 R49, R51; 04 R115). -/
def Dev.testRuns (d : Dev) (e : Nat × Nat × Nat) : Bool :=
  let fl := e.1 == 3 || e.1 == 4
  let f := Flt.ofNum (e.1 - 3)
  let start := d.nw.modState == msSelftest
  let flight := fl && decide (0x10 ≤ e.2.1 ∧ e.2.1 ≤ 0x13) && d.fst f == fsTesting &&
    !(start && d.mod.scopeWarm && e.2.1 == 0x11 && d.logical (.fl f) e.2.2 == some 0)
  flight || (start && ((e.1 == 5 && e.2.1 == 0x17) ||
    (!d.mod.fieldOnly && ((e.1 == 6 && (e.2.1 == 0x14 || e.2.1 == 0x15)) || (e.1 == 7 && e.2.1 == 0x16)))))

/-- A failure of the field side's tests: FY_STRESULT shows it, or the Newel's event alone tells of it while the Corridor is lost (02 R49,
R63; 01 R13). [log 140 DESIGN CHOICE] -/
def Dev.fieldFailed (d : Dev) (e : Nat × Nat × Nat) : Dev :=
  if d.linkUp && d.nw.modState == msSelftest then d.testFailed e.1 e.2.1 e.2.2
  else d.raiseNw (.mk' .nwSelftestFail [e.1, e.2.1, e.2.2])

/-- Step 5 has ended: LOADING and the transfer of the images, or HOLD (02 R45, R54). [log 40 DESIGN CHOICE] -/
def Dev.startTested (d : Dev) (ok : Nat → Bool) (bad : List Nat) : Dev :=
  let d1 := d.updNw fun n => { n with regionFaults := b2n (!ok 5) * 4 + b2n (!ok 6) * 8 + b2n (!ok 7) * 16 }
  if (d1.fst .a = fsLoading ∨ d1.fst .b = fsLoading) ∧ ok 5 ∧ ok 6 ∧ ok 7 then
    let d2 := d1.updNw fun n => { n with modState := msLoading }
    if !d2.linkUp then d2
    else
      let d3 := (d2.setMod msLoading 6).loadStart bad
      if (List.range 6).any fun n => (bad.contains (n + 1) && d3.slotRun (n + 1) == d2.loadSlot (n + 1)) then d3.holdField 10 else d3
  else d1.holdField 7

/-- FIELD_SELFTEST_DONE: the defects found go through their repair; what remains are failures (02 R45 step 5, R49, R50, R54), at a start,
or of one flight in service (04 R115, R117). [log 26 DESIGN CHOICE] -/
def Dev.selftestDone (d : Dev) (fails spared : List (Nat × Nat × Nat)) (bad : List Nat) : Dev :=
  let r := repairs Dev.fieldRepair d ((spared ++ fails).filter d.testRuns)
  let ok (n : Nat) : Bool := !r.2.any fun e => e.1 == n
  let tested := [Flt.a, Flt.b].filter fun f => d.fst f == fsTesting
  let spare (f : Flt) : Bool := !r.2.any fun e => e.1 == 3 + f.num && e.2.1 == 0x10 && e.2.2 == 16
  let d0 := tested.foldl (fun (d : Dev) f => d.put (FL_TREADMAP_SPAREOK.at f) (b2n (spare f))) r.1
  let d1 := r.2.foldl (fun (d : Dev) e => d.fieldFailed e) d0
  let d2 := d1.bothFl fun f d => d.testedFl f (ok (3 + f.num))
  if d.nw.modState = msSelftest then d2.startTested ok bad
  else
    let d3 := tested.foldl (fun (d : Dev) _ => ((d.sliceRun 0x10 1).sliceRun 0x11 34).sliceRun 0x13 1) d2
    let d4 := if tested.any fun f => d3.fst f == fsLoading then d3.trialStart 2 (bad.contains 2) else d3
    match d4.nw.plan with
    | some r => if r.test && d4.nw.switching.isNone then d4.planEnds (if ok (3 + r.target) then E_OK else E_SEQ) else d4
    | none => d4

/-! ## The transfer of the images (02 R45 step 6; 17 R472; 20 R540, R548) -/

/-- Header of a request that the Foyer itself originates, with its sequence (01 R34). [log 45 DESIGN CHOICE] -/
def foyerHdr (q : Nat) : MsgHdr := ⟨q, 0, 1, 0⟩

/-- A message that the Foyer sends and the field side receives: with the next sequence it is sent now, with an earlier one it is a
resend (01 R34, R39 to R41). [log 35 DESIGN CHOICE] -/
def Dev.bootMsg (d : Dev) (q typ : Nat) (payload : List Byte) (more : Bool) (g : Dev → Dev) : Dev :=
  let d1 := if q = (d.downSlot typ).1 ∧ d.mod.started ∧ d.cor.hostUp then d.request typ payload more else d
  d1.toNewel ⟨q, typ, 2 * b2n more, 0, 0, 0, 1, 0, payload⟩ g

/-- A block of an image is stored; `last` completes it. -/
def Dev.storeBlock (d : Dev) (comp : Nat) (last : Bool) (data : List Byte) : Dev :=
  d.updNw fun n => { n with
    load := mput n.load comp (if n.staged.contains comp then data else mget [] n.load comp ++ data)
    staged := if last then n.staged.filter (· ≠ comp) ++ [comp] else n.staged.filter (· ≠ comp) }

/-- Whether images may be loaded: in a start, or for a flight in LOADING. -/
def Dev.loading (d : Dev) : Bool := d.nw.modState == msLoading || d.fst .a == fsLoading || d.fst .b == fsLoading

/-- The flight firmware has reached a flight: it declares its retained layout and its digest epoch (06 R172, 18 R495). -/
def Dev.firmwareIn (d : Dev) (f : Flt) : Dev :=
  if d.fst f ≠ fsLoading then d
  else
    let e := (d.slotInfo 2 (d.slotRun 2)).digestEpoch
    (d.put (FL_RETAIN_LAYOUT.at f) 1).updNw fun n => match f with
      | .a => { n with epochA := e, fwA := d.slotRun 2 }
      | .b => { n with epochB := e, fwB := d.slotRun 2 }

/-- BOOT_IMAGE_BLOCK: components 0x02 to 0x05 (01 R35, 02 R45). [log 36 DESIGN CHOICE] -/
def Dev.bootImage (d : Dev) (q comp : Nat) (last : Bool) (data : List Byte) : Dev :=
  if !d.loading then d.replyNow 0x01 (foyerHdr q) E_SEQ []
  else if comp < 2 ∨ 5 < comp then d.replyNow 0x01 (foyerHdr q) E_RANGE []
  else
    let d1 := d.storeBlock comp last data
    let d2 := if last then d1.measure (comp - 1) (shaNum (mget [] d1.nw.load comp)) else d1
    (if last ∧ comp = 3 then d2.bothFl fun f d => d.firmwareIn f else d2).replyNow 0x01 (foyerHdr q) E_OK []

/-- Keys of a region's registers that stand off their reset values or that an image loads. -/
def Dev.regKeys (d : Dev) (c : Cfg) (r : Nat) : List Nat :=
  ((d.regs.filter fun e => e.1 / 2 ^ 24 == r).map (·.1)) ++
    ((c.regs.filter fun e => e.1 / 2 ^ 24 == r && !mhas d.regs e.1).map (·.1))

/-- The value that the loaded fields of a register take. -/
def Cfg.loaded (c : Cfg) (k : Nat) : W32 := c.regVal k &&& BitVec.ofNat 32 (rwMask k)

/-- The registers of the Foyer, the Newel, the Gallery and the Loggia take the values of an image (20 R540). [log 37 DEDUCED] -/
def Dev.loadRegs (d : Dev) (c : Cfg) : Dev :=
  let loads (k : Nat) : Bool := rwMask k != 0
  let d1 := (c.regs.filter fun e => e.1 / 2 ^ 24 == 1).foldl (fun (d : Dev) e => d.loadReg e.1 e.2) d
  let d2 := [NW_STAIRCFG, NW_REPAIRCFG].foldl (fun (d : Dev) k => d.loadReg k (c.regVal k)) d1
  let d3 := ((d2.regKeys c 6).filter loads).foldl (fun (d : Dev) k => d.glWrite k (c.loaded k)) d2
  ((d3.regKeys c 7).filter loads).foldl (fun (d : Dev) k => d.lgWrite k (c.loaded k)) d3

/-- The images are complete: checked, and loaded or rejected (20 R548, 02 R54). [log 37 DEDUCED] -/
def Dev.configIn (d : Dev) : Dev :=
  let bs := mget [] d.nw.load 0x10
  let kz := mget [] d.nw.load 0x11
  match imagesBad (d.get FY_UCSTAT_LIFECYCLE) bs kz with
  | e :: _ =>
    (((d.raiseFy (.mk' .fyConfigRejected [e.1, e.2.1, e.2.2])).testFailed 0 0x19 e.2.2).updNw fun n => { n with staged := n.staged.filter fun c =>
      c ≠ 0x10 ∧ c ≠ 0x11 }).holdField 10
  | [] =>
    let c := cfgOfImages bs kz
    (((((d.updMod fun m => { m with cfg := c, cfgPresent := true }).bothFl fun f d => d.updFl f fun x => { x with own := none }).measure 5
      c.digest).measure 6 c.progDigest).updGl fun g => { g with cfgHeld := true }).loadRegs c

/-- CONFIG_BLOCK: component 0x10 or 0x11, or a wrapped field key 0x80 to 0x83 (01 R35, 17 R472). [log 35 DESIGN CHOICE] -/
def Dev.configBlock (d : Dev) (q comp : Nat) (last : Bool) (data : List Byte) : Dev :=
  if d.nw.modState ≠ msLoading then d.replyNow 0x02 (foyerHdr q) E_SEQ []
  else if comp ∉ [0x10, 0x11, 0x80, 0x81, 0x82, 0x83] then d.replyNow 0x02 (foyerHdr q) E_RANGE []
  else
    let d1 := (d.storeBlock comp last data).replyNow 0x02 (foyerHdr q) E_OK []
    if last ∧ (comp = 0x10 ∨ comp = 0x11) ∧ d1.nw.staged.contains 0x10 ∧ d1.nw.staged.contains 0x11 then d1.configIn else d1

/-! ## Measurement reports (02 R53; 04 R117) -/

/-- Digest that a flight must report for a component index: the Foyer's register for that image (02 R53). [log 36 DESIGN CHOICE] -/
def Dev.expected (d : Dev) (i : Nat) : Nat :=
  mget 0 d.mod.meas i

/-- A flight in LOADING: SYNCING when what it reports matches, with the registers that the image loads, or with a stair transfer
where the other flight is ACTIVE; FAILED with code 0x0F otherwise. -/
def Dev.measuredFl (d : Dev) (digests : List (Nat × Nat × Nat)) (f : Flt) : Dev :=
  let own := digests.filter fun e => e.1 == f.num
  let alone := d.active.isNone
  if d.fst f ≠ fsLoading ∨ own = [] then d
  else if (own.any fun e => d.expected e.2.1 != e.2.2) ∨ !(own.any fun e => e.2.1 == 2) ∨
      (alone ∧ !((own.any fun e => e.2.1 == 5) && (own.any fun e => e.2.1 == 6))) then
    ((d.testFailed (3 + f.num) 0x18 0xFF).failOne f 0x0F)
  else if alone then
    (d.mod.cfg.regs.filter fun e => e.1 / 2 ^ 24 == 3).foldl (fun (d : Dev) e => d.loadReg (f.key e.1) e.2) (d.setFl f fsSyncing)
  else (d.setFl f fsSyncing).stairStart f

/-- Registers 1 to 6 from the report after an adoption (02 R54). -/
def Dev.adoptMeasures (d : Dev) (digests : List (Nat × Nat × Nat)) : Dev :=
  if !d.mod.adopt then d
  else (digests.foldl (fun (d : Dev) e => if 1 ≤ e.2.1 ∧ e.2.1 ≤ 6 then d.measure e.2.1 e.2.2 else d)
    (d.updMod fun m => { m with adopt := false })).measureStart (d.bit FY_START_KIND)

/-- Words at consecutive offsets go in one request, at most 64 (16 R450). -/
def regRuns : List (Nat × W32) → List (Nat × List W32)
  | [] => []
  | w :: t => match regRuns t with
    | [] => [(w.1, [w.2])]
    | r :: rs => if w.1 + 4 = r.1 ∧ r.2.length < 64 then (w.1, w.2 :: r.2) :: rs else (w.1, [w.2]) :: r :: rs

/-- REG_WRITE requests of the Foyer for words of a region, by their keys. -/
def Dev.writeBack (d : Dev) (region : Nat) (ws : List (Nat × W32)) : Dev :=
  (regRuns ws).foldl (fun (d : Dev) r => d.request 0x41 (regReq region r.2.length (r.1 % 2 ^ 24) r.2)) d

/-- Words of FL_TURNCNT that differ from the configuration, by a checkpoint of the counters (09 R247, R263). -/
def Cfg.turnWords (c : Cfg) (turns : Map Nat) : List (Nat × W32) :=
  let t (e : Nat) : Nat := mget (c.edge e).turn turns e
  ((turns.map fun e => e.1 / 2).eraseDups).map fun n => (FL_TURNCNT + 4 * n, BitVec.ofNat 32 (t (2 * n) + 65536 * t (2 * n + 1)))

/-- The link master that the key policy names, with its generation (17 R472). -/
def Dev.linkMaster (d : Dev) : Option (Nat × Nat) :=
  let ls := d.mod.cfg.fieldSlots.getD 2 255
  if ls = 255 then none else some (ls, (d.slot ls).gen)

/-- The messages that the Foyer sends before BOOT_DONE: the quarantines of its journal, POINT_READ operation 4, the turn counters of a warm
start, and the counters of nodes and frames, or zeros where the link master has changed (04 R118; 05 R147; 06 R574; 09 R247; 14 R368,
R369; 17 R472). Registers that stand at their reset value 0 need no zero. [log 37 DEDUCED] -/
def Dev.preBoot (d : Dev) : Dev :=
  let c := d.mod.cfg
  let same := d.linkMaster == d.jnl.linkGen
  let quar := b2n d.jnl.quarA * 2 ^ 26 + b2n d.jnl.quarB * 2 ^ 27
  let d1 := if quar = 0 then d else d.writeBack 5 [(NW_QUAR, BitVec.ofNat 32 (quar + 2 ^ 28))]
  let d2 := d1.request 0x10 [4, 0, 0, 0]
  let d3 := if (d.startKind d.snapValid).1 then d2.writeBack 3 (c.turnWords (d.jnl.turns.getD [])) else d2
  let d4 := d3.writeBack 3 (d.jnl.nbr.map fun e => (e.1, if same then e.2 else 0))
  let d5 := match d.jnl.txctr with
    | some t => d4.writeBack 3 [(FL_MACTXCTR, if same then BitVec.ofNat 32 (min (t + 2 ^ 24) 0xFFFFFFFF) else 0)]
    | none => d4
  d5.updMod fun m => { m with preDone := true }

/-- MEASURE_REPORT reaches the Foyer. [log 36 DESIGN CHOICE] -/
def Dev.measureReport (d : Dev) (digests : List (Nat × Nat × Nat)) : Dev :=
  let d1 := (d.adoptMeasures digests).bothFl fun f d => d.measuredFl digests f
  if (d1.awaitsBoot .a || d1.awaitsBoot .b) && !d1.mod.preDone then d1.preBoot else d1

/-! ## Cold and warm starts (02 R56 to R59, R572; 06 R574) -/

/-- Bytes of a snapshot's blocks. -/
def Snapshot.bytes (s : Snapshot) (first n : Nat) : List Byte :=
  (List.range n).flatMap fun i => (mget (List.replicate 512 0) s.blocks (first + i))

/-- Put a byte into the markers. -/
def putMark (m : Map W32) (b : Nat) (v : Byte) : Map W32 :=
  mset 0 m (kM (b / 4)) (BitVec.ofNat 32 (putBits (mget 0 m (kM (b / 4))).toNat (8 * (b % 4) + 7) (8 * (b % 4)) v.toNat))

/-- Put the two words of a timer or counter. -/
def putPair (m : Map W32) (k : Nat → Nat) (bs : List Byte) (o : Nat) : Map W32 :=
  mset 0 (mset 0 m (k 0) (BitVec.ofNat 32 (field bs o 4))) (k 1) (BitVec.ofNat 32 (field bs (o + 4) 4))

/-- Markers, timers and counters of the retained area. -/
def retainedWords (c : Cfg) (bs : List Byte) : Map W32 :=
  let o1 := 64 + c.retMarkBytes
  let o2 := o1 + 8 * c.retTims
  let m1 := (List.range c.retMarkBytes).foldl (fun m i => putMark m (c.retMarkFirst / 8 + i) (bs.getD (64 + i) 0)) []
  let m2 := (List.range c.retTims).foldl (fun m i => putPair m (kT (c.retTimFirst + i)) bs (o1 + 8 * i)) m1
  (List.range c.retCnts).foldl (fun m i => putPair m (kC (c.retCntFirst + i)) bs (o2 + 8 * i)) m2

/-- Retained points take their values and statuses from the area. -/
def retainedPts (c : Cfg) (bs : List Byte) (pts : Map Point) : Map Point :=
  let o := 64 + c.retMarkBytes + 8 * c.retTims + 8 * c.retCnts
  (List.range (field bs 10 2)).foldl (fun m i =>
    let n := field bs (o + 8 * i) 2
    match mget? c.points n with
    | some q => if stRetain q.template then
        mset Point.zero m n { mget Point.zero m n with
          status := stConfig (BitVec.ofNat 16 (field bs (o + 8 * i + 2) 2)) q.template, value := BitVec.ofNat 32 (field bs (o + 8 * i + 4) 4) }
      else m
    | none => m) pts

/-- The force table of a snapshot. -/
def Snapshot.table (s : Snapshot) : Map Force :=
  let bs := s.bytes 64 16
  (List.range 512).filterMap fun e =>
    let b := (bs.drop (16 * e)).take 16
    if field b 2 1 = 1 then some (e, ⟨field b 0 2, BitVec.ofNat 32 (field b 4 4), BitVec.ofNat 32 (field b 8 4),
      BitVec.ofNat 16 (field b 12 2), field b 14 1, field b 15 1⟩) else none

/-- A restored force shows at its point (05 R140, R144). [log 39 DESIGN CHOICE] -/
def forcedPt (m : Map Point) (fo : Force) : Map Point :=
  let p := mget Point.zero m fo.point
  mset Point.zero m fo.point { p with
    value := fo.value, status := stPut (stPut (stPut p.status 2 0 qForced) 6 3 12) 14 12 (stQual fo.underStatus) }

/-- Value and status under a station input before its first DATA record: the substitute, where HOLD keeps what the start gives (08 R213). -/
def PointCfg.substitute (c : PointCfg) (v : W32) (st : BitVec 16) : W32 × BitVec 16 :=
  (if c.rule = 1 then c.subst else if c.rule = 2 then 0 else v, stSet st qSubst 4)

/-- Station inputs of a configuration. -/
def Cfg.stationIns (c : Cfg) : List Nat := (c.stationPts.filter fun e => !e.output).map (·.point)

/-- Points at scan 0 with the station inputs substituted (08 R213). -/
def Cfg.substPts (c : Cfg) (m : Map Point) : Map Point :=
  c.stationIns.foldl (fun m n =>
    let p := mget Point.zero m n
    let s := (mget PointCfg.zero c.points n).substitute p.value p.status
    mset Point.zero m n { p with value := s.1, status := s.2 }) m

/-- Restored forces with the station inputs under them substituted (08 R213). -/
def Cfg.substForces (c : Cfg) (l : Map Force) : Map Force :=
  l.map fun e =>
    if c.stationIns.contains e.2.point then
      let s := (mget PointCfg.zero c.points e.2.point).substitute e.2.under e.2.underStatus
      (e.1, { e.2 with under := s.1, underStatus := s.2 })
    else e

/-- A flight is initialised by BOOT_DONE (02 R58; 05 R144; 06 R154, R171; 08 R213; 09 R262): what it holds of frames and of memory
integrity stays. [log 39 DESIGN CHOICE] -/
def FlightSt.boot (x : FlightSt) (c : Cfg) (snap : Option Snapshot) (fallback : Bool) (count cyc : Nat)
    (keys : Map Nat) : FlightSt :=
  let pts0 := c.points.foldl (fun m e => mset Point.zero m e.1 (e.2.entry 0)) []
  let forces := c.substForces ((match snap with
    | some s => s.table
    | none => []).filter fun (e : Nat × Force) => mhas pts0 e.2.point)
  let pts1 := match snap with
    | some s => c.substPts (retainedPts c (s.bytes 0 64) pts0)
    | none => c.substPts pts0
  let lm := match snap with
    | some s => retainedWords c (s.bytes 0 64)
    | none => []
  { FlightSt.empty with
    frames := x.frames, nextNo := x.nextNo, frameBad := x.frameBad, lastBatch := x.lastBatch, msgs := x.msgs
    ceCount := x.ceCount, evacTo := x.evacTo, memWait := x.memWait, evacTest := x.evacTest, testing := x.testing, retired := x.retired
    pts := forces.foldl (fun m (e : Nat × Force) => forcedPt m e.2) pts1, forces := forces, lmem := lm
    warm := snap.isSome, fallback := fallback, forcesOff := if snap.isSome then none else some count
    bootCycle := some cyc, nextGrid := cyc + 1, fullDue := true
    mac := { MacSt.empty with keys := keys, chEn := (List.range 8).filter fun n => c.reg (LG_CHCFG_EN.ix n) == 1 } }.clearValid

/-- Words that the flight firmware writes whole as it initialises, by logical bank, first word and count: the retained area at a warm start,
the entries of configured points and of restored forces, and the KZL image (02 R58; 03 R64; 05 R126, R142; 06 R152). [log 12 DESIGN CHOICE] -/
def Cfg.bootRanges (c : Cfg) (warm : Bool) (forces : Map Force) : List (Nat × Nat × Nat) :=
  let kzl := (c.program.length + 7) / 8
  (if warm then [(0, 0, 4096)] else []) ++ (c.points.map fun (e : Nat × PointCfg) => (1 + e.1 / 16384, 2 * (e.1 % 16384), 2)) ++
    (forces.map fun (e : Nat × Force) => (5, 2 * e.1, 2)) ++ (List.range 4).map fun k => (20 + k, 0, min bankWords (kzl - bankWords * k))

/-- The valid bits of a flight's memory at its initialisation: cleared, but for the words that firmware writes whole, which carries out a
remap entry that awaits a full write (02 R58; 03 R66, R67, R69, R75). -/
def Dev.bootWords (d : Dev) (f : Flt) (rs : List (Nat × Nat × Nat)) : Dev :=
  let m := Mem.fl f
  let phys := rs.map fun e => (d.phys m e.1, e.2)
  (List.range m.entries).foldl (fun (d : Dev) n =>
    let pb := d.get (m.remapFld FL_REMAP_PBANK FY_REMAP_PBANK n)
    if d.bit (m.remapFld FL_REMAP_VALID FY_REMAP_VALID n) && (d.mem m).inRange pb (d.get (m.remapFld FL_REMAP_WORD FY_REMAP_WORD n)) then
      (d.put (m.remapFld FL_REMAP_UE FY_REMAP_UE n) 0).setWord m m.banks n { wordInfo0 with valid := true }
    else d) (d.updMem m fun y => { y with words := [], ranges := phys })

/-- A flight's registers at BOOT_DONE: program and retained area (06 R174, R180). -/
def Dev.bootRegs (d : Dev) (f : Flt) : Dev :=
  let c := d.mod.cfg
  (((d.put (FL_PROGVER_ACTIVE.at f) c.progVersion).put (FL_RETAIN_USED.at f) c.retUsed).put (FL_RETAIN_FULL.at f) 0).ptStat f

/-- Mesh keys that reach the flights: those that the policy names, fit and delivered, with their generations; what does not fit is
reported (17 R472). [log 35 DESIGN CHOICE] -/
def Dev.fieldKeys (d : Dev) : Dev × Map Nat :=
  (List.range 4).foldl (fun (p : Dev × Map Nat) i =>
    let s := d.mod.cfg.fieldSlots.getD i 255
    if s = 255 then p
    else
      let a := d.slot s
      if a.typ = 1 ∧ bitOf a.flags 3 ∧ !d.stale s then
        if mhas d.nw.load (0x80 + i) then (p.1, mput p.2 i a.gen) else p
      else (p.1.raiseFy (.mk' .fyKeyFieldMissing [i, s]), p.2)) (d, [])

/-- Components that step 6 brings to the field side (02 R45). -/
def bootComps : List Nat := [0x02, 0x03, 0x04, 0x05, 0x10, 0x11]

/-- What the flights, the Gallery and the Newel do with BOOT_DONE, and the Foyer with it (02 R45 step 7, R46, R51, R56 to R59, R572; 17 R472). [log 39 DESIGN CHOICE] -/
def Dev.bootStart (d : Dev) (q : Nat) (k : Bool × Nat × Bool) (count : Nat) : Dev :=
  let kf := d.fieldKeys
  let snap := if k.1 then d.mod.snap else none
  let cyc := d.nw.cycle + 1
  let both := d.awaitsBoot .a
  let init (f : Flt) (d : Dev) : Dev := if !d.awaitsBoot f then d else
    let d1 := d.updFl f fun x => x.boot d.mod.cfg snap k.2.2 count cyc kf.2
    (d1.bootWords f (d.mod.cfg.bootRanges k.1 (d1.fl f).forces)).bootRegs f
  let d1 := kf.1.updJnl fun j => { j with
    linkGen := kf.1.linkMaster
    settings := if k.1 then j.settings else j.settings.map fun x => if x.trial then x else { x with fromCfg := true } }
  let d2 := ((d1.bothFl init).updNw fun n => { n with bothSyncing := both }).updMod fun m => { m with committed := true, order := none }
  let d3 := if d2.mod.scopeWarm && !k.1 then d2.slicesDue [0x10, 0x11, 0x13] else d2
  let d4 := if d3.mod.fieldOnly then d3.slicesDue [0x14, 0x15, 0x16] else d3
  let d5 := (d4.configCommit d4.mod.cfg).measureStart k.1
  (((d5.showStart k.1 k.2.1 k.2.2).replyNow 0x03 (foyerHdr q) E_OK []).startTold).statusNow true

/-- BOOT_DONE, once every image has crossed and a flight awaits it: the Foyer decides the start kind, and the flights initialise (02 R45
step 7, R56 to R59, R572). [log 37 DEDUCED] -/
def Dev.bootDone (d : Dev) (q : Nat) : Dev :=
  if d.mst ≠ msLoading ∨ !(bootComps.all d.nw.staged.contains) ∨ !(d.awaitsBoot .a || d.awaitsBoot .b) ∨ !d.mod.preDone then d
  else
    let k := d.startKind d.snapValid
    let count := match d.mod.snap with
      | some s => if s.crcOk then s.forces else 0
      | none => 0
    d.bootMsg q 0x03 ([BitVec.ofNat 8 (b2n k.1), 0] ++ le 2 count ++ [0, 0, 0, 0]) false fun d =>
      if d.awaitsBoot .a || d.awaitsBoot .b then d.bootStart q k count else d.replyNow 0x03 (foyerHdr q) E_SEQ []

/-! ## Adoption of a field side in service (02 R54) -/

/-- REG_WRITE of FL_RETAIN.FULL (06 R176). -/
def Dev.askFull (d : Dev) : Dev := d.request 0x41 ([3, 1, 0, 0] ++ le 4 (FL_RETAIN % 2 ^ 24) ++ le 4 0x8000)

/-- The Foyer adopts a field side that reports a state of service (02 R54; 05 R147; 06 R176). [log 38 DEDUCED] -/
def Dev.adoptField (d : Dev) (new : Nat) : Dev :=
  let d1 := (d.setMod new 4).updMod fun m => { m with adopt := true, fieldOnly := false }
  let d2 := (d1.showStart (d1.bit FY_START_KIND) 3 false).request 0x10 [4, 0, 0, 0]
  d2.askFull.raiseFy (.mk' .fyStart [(d2.rd FY_START).toNat])

/-! ## Supplies (02 R54; 21 R559, R561) -/

/-- VHIN enters its range: power-on reset of the Foyer. -/
def Dev.vhinValid (d : Dev) : Dev :=
  if d.mod.vhin then d
  else (((d.foyerReset true).updMod fun m => { m with vhin := true }).put FY_MODSTATE_STATE msOff).setMod msBoot 1

/-- VHIN is lost: the Foyer is off, and the field side goes on. -/
def Dev.vhinLost (d : Dev) (written : Nat) (torn : Bool) : Dev :=
  if !d.mod.vhin then d
  else ((((d.setMod msOff 17).arcPowerLost written torn).foyerReset true).updMod fun m => { m with vhin := false }).put FY_MODSTATE_STATE msOff

/-- VFIN becomes valid: field reset, and an automatic start where HOLD stands for VFIN loss. -/
def Dev.vfinValid (d : Dev) : Dev :=
  if d.bit FY_MODSTATE_FIELDPWR then d
  else
    let d1 := (d.put FY_MODSTATE_FIELDPWR 1).bothFl fun f d => d.setFl f fsReset
    if d1.mst = msHold ∧ d1.mod.cfgPresent ∧ d1.mod.holdVfin ∧ d1.mod.started then
      (d1.updMod fun m => { m with order := none }).fieldStart 16
    else d1

/-- VFIN is lost: everything on the field side is gone, and the module enters HOLD. -/
def Dev.vfinLost (d : Dev) : Dev :=
  if !d.bit FY_MODSTATE_FIELDPWR then d
  else
    let d1 : Dev := { d with
      regs := d.regs.filter fun e => decide (e.1 / 2 ^ 24 < 3)
      nw := NewelSt.empty, fa := FlightSt.empty, fb := FlightSt.empty, gl := GallerySt.empty, lg := LoggiaSt.empty
      cor := { d.cor with
        up := { CrDir.zero with dups := d.cor.up.dups }, down := { d.cor.down with lastAcc := none, dups := 0 }
        fieldUp := false, hbField := 0, everField := false
        fieldStatus := [], upQ := [] } }
    let d2 := ((d1.put FY_MODSTATE_FIELDPWR 0).put FY_MODSTATE_FASTATE 0).put FY_MODSTATE_FBSTATE 0
    let d3 := d2.campRestart.updMod fun m => { m with
      inService := false, committed := false, fieldOnly := false, adopt := false, gradField := []
      blockFaults := m.blockFaults.filter fun e => decide (e.1 < 3) }
    if d3.mst = msOff then d3 else ((d3.setMod msHold 15).updMod fun m => { m with holdVfin := true }).statusNow true

/-! ## Power warning (02 R60 to R62) -/

/-- The falling edge of the power-warning land; a further one during a flush is ignored. -/
def Dev.warnFall (d : Dev) : Dev :=
  let d1 := d.put FY_MODSTATE_PWRWARN 1
  if d.mod.flushing || !d.mod.started || d.bit FY_MODSTATE_PWRWARN then d1
  else (d1.updMod fun m => { m with flushing := true }).updArc fun a => { a with warned := true }

/-- The land returns high: normal writes resume once the flush has ended. -/
def Dev.warnRise (d : Dev) : Dev :=
  let d1 := d.put FY_MODSTATE_PWRWARN 0
  if d.mod.flushing then d1 else d1.updArc fun a => { a with warned := false }

/-- The flush ends: the buffered events, the retained snapshot, operating seconds and time are in the journal, and the RTC is
written from trusted time (02 R60; 15 R412, R415; 19 R521). [log 32 DESIGN CHOICE] -/
def Dev.warnDone (d : Dev) : Dev :=
  if !d.mod.flushing then d
  else
    let d1 := if d.bit FY_TBSTAT_TRUST then d.rtcWrite else d
    let d2 := ((d1.opsecCheckpoint).updJnl fun j => { j with snap := d1.mod.snap }).arcPowerFlush
    (d2.updMod fun m => { m with flushing := false }).updArc fun a => { a with warned := d2.bit FY_MODSTATE_PWRWARN }

/-! ## Meanings -/

/-- VHIN_VALID (02 R54, 21 R559). -/
def execVhinValid (s : State) : Host.Outcome State Fault Refusal := s.upd Dev.vhinValid

/-- VHIN_LOST: `written` records of a flush stand, and the next may be torn (02 R54, 19 R522). -/
def execVhinLost (written : Nat) (torn : Bool) (s : State) : Host.Outcome State Fault Refusal := s.upd fun d => d.vhinLost written torn

/-- VFIN_VALID (02 R54, 21 R559). -/
def execVfinValid (s : State) : Host.Outcome State Fault Refusal := s.upd Dev.vfinValid

/-- VFIN_LOST (02 R54, 21 R561). -/
def execVfinLost (s : State) : Host.Outcome State Fault Refusal := s.upd Dev.vfinLost

/-- HOST_RESET (21 R560). -/
def execHostReset (written : Nat) (torn : Bool) (s : State) : Host.Outcome State Fault Refusal :=
  s.upd fun d => d.when d.mod.vhin fun d => (d.arcPowerLost written torn).foyerReset true

/-- CORRIDOR_UP_TIMEOUT (02 R54). [log 4 DESIGN CHOICE] -/
def execCorridorUpTimeout (s : State) : Host.Outcome State Fault Refusal :=
  s.upd fun d => d.when (d.mst == msBoot && d.mod.started && !d.cor.hostUp) fun d => (d.testFailed 2 0x06 0xFF).setMod msHold 5

/-- PWRWARN_FALL (02 R60, R62). -/
def execPwrwarnFall (s : State) : Host.Outcome State Fault Refusal := s.upd fun d => d.when d.mod.vhin Dev.warnFall

/-- PWRWARN_RISE (02 R62). -/
def execPwrwarnRise (s : State) : Host.Outcome State Fault Refusal := s.upd fun d => d.when d.mod.vhin Dev.warnRise

/-- POWER_WARNING_FLUSH_DONE (02 R60, R62). -/
def execPowerWarningFlushDone (now : Nat) (s : State) : Host.Outcome State Fault Refusal := s.upd fun d => (d.clock now).warnDone

/-- BOOT_IMAGE_BLOCK (01 R35, 02 R45). -/
def execBootImageBlock (seq comp : Nat) (last : Bool) (data : List Byte) (s : State) : Host.Outcome State Fault Refusal :=
  s.upd fun d => d.bootMsg seq 0x01 ([BitVec.ofNat 8 comp, BitVec.ofNat 8 (b2n last)] ++ data) (!last) fun d => d.bootImage seq comp last data

/-- CONFIG_BLOCK (01 R35, 02 R45, 17 R472). -/
def execConfigBlock (seq comp : Nat) (last : Bool) (data : List Byte) (s : State) : Host.Outcome State Fault Refusal :=
  s.upd fun d => d.bootMsg seq 0x02 ([BitVec.ofNat 8 comp, BitVec.ofNat 8 (b2n last)] ++ data) (!last) fun d => d.configBlock seq comp last data

/-- BOOT_DONE (02 R572). -/
def execBootDone (seq : Nat) (s : State) : Host.Outcome State Fault Refusal := s.upd fun d => d.bootDone seq

/-- BANK_TEST (03 R79, R80). -/
def execBankTest (m : Mem) (lb : Nat) (force : Bool) (s : State) : Host.Outcome State Fault Refusal :=
  s.upd fun d => ((d.put (m.fld FL_EVAC_LBANK FY_EVAC_LBANK) lb).bankTest m (lb % m.lbanks) force fun d => d.foyerReset false).1

/-- FAILSAFE_RESTART: 5 s after FAILSAFE, with a flight that is not QUARANTINED, at most 3 times in an hour (04 R120). [log 29 DESIGN CHOICE] -/
def execFailsafeRestart (s : State) : Host.Outcome State Fault Refusal :=
  s.upd fun d =>
    let recent := d.mod.restarts.filter fun t => decide (d.time.raw < t + 3600 * rawPerSec)
    let usable := d.fst .a != fsQuarantined || d.fst .b != fsQuarantined
    d.when (d.mst == msFailsafe && usable && decide (recent.length < 3) && d.bit FY_MODSTATE_FIELDPWR) fun d =>
      (d.updMod fun m => { m with restarts := recent ++ [d.time.raw], order := none }).restartField

/-- RESTART: FMP op 0x70, refused outside the states of R54 or without VFIN (16 R449, 02 R54, R56). [log 42 DESIGN CHOICE] -/
def execRestart (session id : Nat) (s : State) : Host.Outcome State Fault Refusal :=
  s.upd fun d => d.op session id 0x70 fun _ r d =>
    let k := field r.payload 0 1
    if r.payload.length = 0 ∨ 2 < k then d.fmpReply session r E_RANGE []
    else if !d.bit FY_MODSTATE_FIELDPWR then d.fmpReply session r E_PD []
    else if d.mst = msHold ∨ d.mst = msService ∨ d.mst = msDegraded ∨ d.mst = msFailsafe then
      ((d.fmpReply session r E_OK []).updMod fun m => { m with order := some k }).restartField
    else d.fmpReply session r E_BUSY_SERVICE []

end Sys2Proof.Machine
end

