-- ==== Sys2Proof/Machine/Corridor.lean ====
section
/-! DEFINITION. The Corridor's link: acknowledgements, spare lanes, heartbeats, loss and restoration, STATUS, and what the module's
levels report of crossings, temperatures and the field reference (01 R23, R25, R35 to R44; 03 R91; 04 R124; 21 R569). -/

namespace Sys2Proof.Machine

/-! ## Acknowledgement and lanes (01 R39) -/

/-- The messages behind an acknowledged one; an acknowledgement of none that waits leaves the queue. -/
def ackFrom {α : Type} (sq : α → Nat) (q : Nat) (l : List α) : List α :=
  if l.any fun m => sq m == q then (l.dropWhile fun m => sq m != q).drop 1 else l

/-- LINK_ACK: the message and those before it are done. -/
def Dev.linkAck (d : Dev) (down : Bool) (q : Nat) : Dev :=
  if down then d.updCor fun c => { c with downQ := ackFrom DownMsg.seq q c.downQ, down := { c.down with fails := 0 } }
  else d.updCor fun c => { c with upQ := ackFrom Prod.fst q c.upQ, up := { c.up with fails := 0 } }

/-- One direction. -/
def CorrSt.dir (c : CorrSt) (down : Bool) : CrDir := if down then c.down else c.up

/-- Change one direction. -/
def Dev.updDir (d : Dev) (down : Bool) (g : CrDir → CrDir) : Dev :=
  d.updCor fun c => if down then { c with down := g c.down } else { c with up := g c.up }

/-- Three failed sends: the direction goes to its spare lane, or is lost where the spare is consumed (01 R39, 03 R87). [log 19 DESIGN CHOICE] -/
def Dev.laneFails (d : Dev) (down : Bool) : Dev :=
  let bud := if down then FY_SPAREBUD0_CRDOWN else FY_SPAREBUD0_CRUP
  if (d.cor.dir down).spare || d.get bud == 0 then d.updDir down fun c => { c with fails := 0, lost := true }
  else
    let d1 := (d.updDir down fun c => { c with fails := 0, spare := true }).useSpare 1 bud
    if down then d1.raiseFy (.mk' .crLaneSpared [0]) else d1.raiseNw (.mk' .crLaneSpared [1])

/-- CORRIDOR_NAK: the sender resends from its first unacknowledged message; a CRC error counts as a failed send. -/
def Dev.corNak (d : Dev) (down crc : Bool) : Dev :=
  let c := d.cor.dir down
  let waits := if down then d.cor.downQ != [] else d.cor.upQ != []
  if !crc || !waits || c.lost then d
  else if c.fails + 1 < 3 then d.updDir down fun c => { c with fails := c.fails + 1 } else d.laneFails down

/-! ## STATUS (01 R44) -/

/-- The module state follows what the field side reports, by the rows of R54. -/
def Dev.followField (d : Dev) (new : Nat) : Dev :=
  let m := d.mst
  if m = msBoot then (if d.mod.started && !d.mod.romHold && msServes new then d.adoptField new else d)
  else if m = msSelftest then
    if new = msLoading then d.setMod msLoading 6 else if new = msHold then d.setMod msHold 7 else d
  else if m = msLoading then
    if new = msService ∧ !d.hostBudgetOut then d.setMod msService 8
    else if new = msService then d.setMod msDegraded 9
    else if new = msDegraded then d.setMod msDegraded 9
    else if new = msFailsafe then (d.setMod msDegraded 9).setMod msFailsafe 13
    else if new = msHold then d.setMod msHold 10 else d
  else if m = msService then
    if new = msDegraded then d.setMod msDegraded 11 else if new = msFailsafe then d.setMod msFailsafe 13 else d
  else if m = msDegraded then
    if new = msService ∧ !d.hostBudgetOut then d.setMod msService 12 else if new = msFailsafe then d.setMod msFailsafe 13 else d
  else d

/-- The field-to-host STATUS at the Foyer: the mirror of R124, the budgets of R91, flight states and scan period. -/
def Dev.statusIn (d : Dev) (p : List Byte) : Dev :=
  let w (o : Nat) : W32 := BitVec.ofNat 32 (field p o 4)
  let d1 := (List.range 8).foldl (fun (d : Dev) i => d.wr (FY_NWSTAT + 4 * i) (w (4 + 4 * i))) d
  let d2 := (d1.wr FY_NWSCANLO (w 36)).wr FY_NWSCANHI (w 40)
  let d3 := ((d2.wr FY_SPAREBUD2 (w 44)).wr FY_SPAREBUD3 (w 48)).put FY_SPAREBUD1_GROUP (field p 52 2)
  let d4 := (d3.put FY_MODSTATE_FASTATE (d3.get FY_NWSTAT_FASTATE)).put FY_MODSTATE_FBSTATE (d3.get FY_NWSTAT_FBSTATE)
  let per := field p 54 2
  (d4.updCor fun c => { c with period := if per = 0 then c.period else some per, fieldState := field p 0 1 }).followField (field p 0 1)

/-- The host-to-field STATUS at the Newel: the flags, and a state that the Foyer has reached and the field side has not (01 R44, 11 R298). [log 140 DESIGN CHOICE] -/
def Dev.statusToField (d : Dev) (p : List Byte) : Dev :=
  let m := field p 0 1
  let d1 := d.updNw fun n => { n with hostFlags := field p 1 1 }
  if m = msHold ∧ !msServes d1.nw.modState then (d1.updNw fun n => { n with modState := msHold }).glFailsafe 0
  else if m = msLoading ∧ d1.nw.modState < msLoading then d1.updNw fun n => { n with modState := msLoading }
  else d1

/-! ## Loss and restoration (01 R42, R43) -/

/-- A side declares the Corridor lost. Of what waits on the field side, events and mirrors are kept by R42; every other message that waits
on either side is dropped. [log 43 DESIGN CHOICE] -/
def Dev.corLost (d : Dev) (host : Bool) : Dev :=
  if host then
    if !d.cor.hostUp then d
    else ((d.updCor fun c => { c with hostUp := false, hbHost := 0, downQ := [] }).put FY_MODSTATE_CRUP 0).raiseFy (.mk' .crLost [])
  else if !d.cor.fieldUp then d
  else
    let evs := (d.cor.upQ.filter fun e => e.2.ev.isSome).map (·.2)
    let mirrors := (d.cor.upQ.filter fun e => e.2.typ == tRetainMirror).map (·.2)
    let d1 := d.updCor fun c => { c with fieldUp := false, hbField := 0, upQ := [] }
    (((evs ++ mirrors).foldl (fun (d : Dev) m => d.sendUp m) d1)).raiseNw (.mk' .crLost [])

/-- The counts of events beyond 256, as one message of kind 1, under the event that reports counts per source (01 R42, 19 R517, R528). [log 43 DESIGN CHOICE] -/
def Dev.countsMsg (d : Dev) : UpMsg :=
  let per := (List.range 8).map fun r => ((mget 0 d.nw.keptCounts r : Nat) : Int)
  let e : Ev := ⟨.fyArcOverflow, 1, none, per ++ [per.foldl (· + ·) 0]⟩
  ⟨tEventRecord, 0, 0, 0, 0, [1] ++ e.head true true ++ [0] ++ countBytes e.payload, some e⟩

/-- What the field side sends on restoration: STATUS, the kept events with HELD and the counts, and the latest mirror. -/
def Dev.sendKept (d : Dev) : Dev :=
  let d1 := d.sendStatus false
  let held (m : UpMsg) : UpMsg := match m.ev with
    | some e => { m with body := e.msgBytes true }
    | none => m
  let d2 := d1.nw.kept.foldl (fun (d : Dev) m => d.putUp (held m)) d1
  let d3 := if d2.nw.keptCounts = [] then d2 else d2.putUp d2.countsMsg
  (d3.nw.keptMirror.foldl (fun (d : Dev) m => d.putUp m) d3).updNw fun n => { n with kept := [], keptCounts := [], keptMirror := [] }

/-- The Corridor is up on both sides again: where either had lost it, each raises EV_CR_RESTORED, and the field side sends what it has
kept. A restart that the Foyer ordered meanwhile reaches the field side (01 R43, R44; 02 R54). [log 43 DESIGN CHOICE; 140 DESIGN CHOICE] -/
def Dev.restored (d : Dev) : Dev :=
  let c := d.cor
  let again := (!c.hostUp && c.everHost) || (!c.fieldUp && c.everField)
  let d1 := (d.updCor fun c => { c with
    hostUp := true, fieldUp := true, hbHost := 0, hbField := 0, everHost := true, everField := true
    down := { c.down with lastAcc := none }, up := { c.up with lastAcc := none } }).put FY_MODSTATE_CRUP 1
  let d2 := (if again then d1.raiseFy (.mk' .crRestored []) else d1).sendKept
  let d3 := (if again then d2.raiseNw (.mk' .crRestored []) else d2).statusNow true
  let d4 := if msServes d3.mst then d3.askFull else d3
  if d4.mst = msSelftest ∧ d4.nw.modState ≠ msSelftest then d4.fieldRestart
  else if d4.mst = msBoot ∧ !msServes d4.nw.modState then d4.fieldStart 3 else d4

/-- A HEARTBEAT at a side that holds the Corridor down counts whatever its sequence; with three at each side that is down, the
Corridor is restored (01 R43). At a side that holds it up it is a message like any other. [log 43 DESIGN CHOICE] -/
def Dev.heartbeat (d : Dev) (toHost : Bool) (q mark : Nat) : Dev :=
  let marked (d : Dev) : Dev := { d with time := { d.time with markNo := some mark } }
  if toHost then
    if !d.mod.started || d.mod.romHold || d.cor.up.lost then d
    else if d.cor.hostUp then d.acceptUp q marked
    else
      let d1 := marked (d.updCor fun c => { c with hbHost := c.hbHost + 1, up := { c.up with lastAcc := some (q % 65536) } })
      if 3 ≤ d1.cor.hbHost ∧ (d1.cor.fieldUp ∨ 3 ≤ d1.cor.hbField) then d1.restored else d1
  else if !d.bit FY_MODSTATE_FIELDPWR || d.nw.stopped || d.cor.down.lost then d
  else if d.cor.fieldUp then d.toNewel ⟨q, tHeartbeat, 0, 0, 0, 0, 0, 0, []⟩ id
  else
    let d1 := d.updCor fun c => { c with hbField := c.hbField + 1, down := { c.down with lastAcc := some (q % 65536) } }
    if 3 ≤ d1.cor.hbField ∧ (d1.cor.hostUp ∨ 3 ≤ d1.cor.hbHost) then d1.restored else d1

/-- A side sends HEARTBEAT; the field's carries the number of the last cycle mark (15 R404). -/
def Dev.sendBeat (d : Dev) (host : Bool) : Dev :=
  if host then
    if !d.mod.started || d.mod.romHold then d
    else (if d.cor.hostUp then d else d.updCor fun c => { c with downQ := c.downQ.filter fun m => m.typ != tHeartbeat }).sendDown tHeartbeat []
  else if !d.bit FY_MODSTATE_FIELDPWR || d.nw.stopped then d
  else (if d.cor.fieldUp then d else d.updCor fun c => { c with upQ := c.upQ.filter fun m => m.2.typ != tHeartbeat }).putUp
    ⟨tHeartbeat, 0, 0, 0, 0, le 8 d.nw.cycle, none⟩

/-! ## Crossings, temperatures, the field reference (01 R23, R25; 21 R569) -/

/-- A parity error on a crossing: the transfer is discarded and requested again; a second error on it is a block fault of the
destination, which its region's fault controller holds (01 R23). [log 41 DESIGN CHOICE] -/
def Dev.crossingError (d : Dev) (crossing region : Nat) (again : Bool) : Dev :=
  let seen := mget false d.mod.crossing crossing
  if again && seen then
    let d1 := d.updMod fun m => { m with
      crossing := mset false m.crossing crossing false
      blockFaults := if (region, crossing) ∈ m.blockFaults then m.blockFaults else m.blockFaults ++ [(region, crossing)] }
    if 3 ≤ region ∧ region ≤ 7 then
      (d1.updNw fun n => { n with regionFaults := n.regionFaults ||| 2 ^ (region - 3) }).statusNow false
    else d1
  else d.updMod fun m => { m with crossing := mset false m.crossing crossing true }

/-- Whether a side compares two regions' temperatures: the Foyer those of FY and CR, the Newel those of the field (01 R25). [log 41 DESIGN CHOICE] -/
def gradPair (host : Bool) (r1 r2 : Nat) : Bool :=
  let own (r : Nat) : Bool := if host then r == 1 || r == 2 else decide (3 ≤ r ∧ r ≤ 7)
  own r1 && own r2 && r1 != r2

/-- EV_MOD_GRADIENT of a pair of regions: raised as the condition begins, and at most once per 60 s while it lasts (01 R25). -/
def Dev.gradient (d : Dev) (host : Bool) (r1 r2 kelvin : Nat) : Dev :=
  let e : Ev := ⟨.modGradient, 0, none, [r1, r2, kelvin]⟩
  let k := 8 * min r1 r2 + max r1 r2
  if !gradPair host r1 r2 then d
  else if host then
    if kelvin ≤ 40 then d.updMod fun m => { m with gradHost := mdel m.gradHost k }
    else if rateOk (mget? d.mod.gradHost k) d.time.raw (60 * rawPerSec) then
      (d.updMod fun m => { m with gradHost := mput m.gradHost k d.time.raw }).raiseFy e
    else d
  else if kelvin ≤ 40 then d.updMod fun m => { m with gradField := mdel m.gradField k }
  else if rateOk (mget? d.mod.gradField k) d.nw.cycle (60 * cycPerSec) then
    (d.updMod fun m => { m with gradField := mput m.gradField k d.nw.cycle }).raiseNw e
  else d

/-! ## Meanings -/

/-- LINK_ACK (01 R39). -/
def execLinkAck (down : Bool) (seq : Nat) (s : State) : Host.Outcome State Fault Refusal := s.upd fun d => d.linkAck down seq

/-- CORRIDOR_NAK: `crc` tells that the message failed its CRC, otherwise its sequence was out of order (01 R39, R40). -/
def execCorridorNak (down crc : Bool) (s : State) : Host.Outcome State Fault Refusal := s.upd fun d => d.corNak down crc

/-- CORRIDOR_CRC_ERROR: the receiver discards the message; it ends a run of valid HEARTBEATs. `ue` is an uncorrectable word that the Foyer's
port meets, which drops the transfer likewise (01 R39, R43; 03 R70). -/
def execCorridorCrcError (toHost : Bool) (ue : Option (Nat × Nat)) (s : State) : Host.Outcome State Fault Refusal :=
  s.upd fun d =>
    let d1 := d.updCor fun c => if toHost then { c with hbHost := 0 } else { c with hbField := 0 }
    match ue with
    | some p => if toHost then d1.uncorrected .fy p.1 p.2 (Mem.fy.agentOf 5) else d1
    | none => d1

/-- CORRIDOR_UNKNOWN_TYPE: dropped with an event, by the side that receives it (01 R35, R40). -/
def execCorridorUnknownType (toHost : Bool) (typ seq : Nat) (lengthOk : Bool) (s : State) : Host.Outcome State Fault Refusal :=
  s.upd fun d =>
    let e : Ev := .mk' (if lengthOk then .crUnknownType else .crMalformed) [typ, seq]
    if toHost then d.acceptUp seq fun d => d.raiseFy e else d.acceptDown seq fun d => d.raiseNw e

/-- HEARTBEAT_SEND (01 R42). -/
def execHeartbeatSend (host : Bool) (s : State) : Host.Outcome State Fault Refusal := s.upd fun d => d.sendBeat host

/-- HEARTBEAT (01 R42, R43; 15 R404; 02 R54). -/
def execHeartbeat (toHost : Bool) (seq mark : Nat) (s : State) : Host.Outcome State Fault Refusal :=
  s.upd fun d => d.heartbeat toHost seq mark

/-- CORRIDOR_LOST (01 R42). -/
def execCorridorLost (host : Bool) (s : State) : Host.Outcome State Fault Refusal := s.upd fun d => d.corLost host

/-- STATUS_SEND (01 R44). -/
def execStatusSend (host : Bool) (s : State) : Host.Outcome State Fault Refusal :=
  s.upd fun d => d.when (if host then d.cor.hostUp else d.cor.fieldUp && !d.nw.stopped) fun d => d.sendStatus host

/-- STATUS_TO_FIELD; a STATUS whose payload is not the 8 bytes of R44 counts as malformed (01 R35, R44; 11 R298). [log 109 DESIGN CHOICE] -/
def execStatusToField (seq : Nat) (payload : List Byte) (s : State) : Host.Outcome State Fault Refusal :=
  s.upd fun d =>
    if payload.length = 8 then d.toNewel ⟨seq, tStatus, 0, 0, 0, 0, 0, 0, payload⟩ fun d => d.statusToField payload
    else d.acceptDown seq fun d => d.raiseNw (.mk' .crMalformed [tStatus, seq])

/-- GRADIENT_CHECK (01 R25). -/
def execGradientCheck (host : Bool) (r1 r2 kelvin : Nat) (s : State) : Host.Outcome State Fault Refusal :=
  s.upd fun d => d.gradient host r1 r2 kelvin

/-- CROSSING_PARITY_ERROR (01 R23). -/
def execCrossingParityError (crossing region : Nat) (again : Bool) (s : State) : Host.Outcome State Fault Refusal :=
  s.upd fun d => d.crossingError crossing region again

/-- REFERENCE_FAULT: the field reference departs by more than 1 % for 1 ms (21 R569). -/
def execReferenceFault (s : State) : Host.Outcome State Fault Refusal := s.upd fun d => (d.report .a 0x01).report .b 0x01

end Sys2Proof.Machine
end

