-- ==== Sys2Proof/Machine/Update.lean ====
section
/-! DEFINITION. The update manager: downloads, verification, campaigns and their steps, confirmation, revert and distribution
(chapter 18); with the commands on whose effects a campaign's steps wait. -/

namespace Sys2Proof.Machine

/-! ## Steps of a campaign (18 R497 to R499) -/

/-- Change the update manager. -/
def Dev.updUpd (d : Dev) (g : UpdSt → UpdSt) : Dev := { d with upd := g d.upd }

/-- Steps of a campaign, numbered from 0 in the order of R497. -/
def stepsOf (comps : List Nat) : List Nat := (List.range 6).filter fun i => (stepComps i).any comps.contains

/-- Longest pause of a step in microseconds. -/
def stepPause (i : Nat) : Nat := [2000000, 5000, 750, 20000, 300000, 0].getD i 0

/-- The TRIAL mark of components, one journal record each (18 R493, R497). [log 117 DESIGN CHOICE] -/
def Dev.markTrial (d : Dev) (comps : List Nat) : Dev :=
  comps.foldl (fun (d : Dev) k => match d.slotOf k ssVerified with
    | some s => (d.setSlotState k s ssTrial).setTrials k 0
    | none => d) d

/-- Blocks of an image as UPDATE_STAGE payloads of at most 1,024 bytes, component and mark of the last one included (01 R34, 18 R497). [log 113 DESIGN CHOICE] -/
def stageMsgs (comp : Nat) (bs : List Byte) : List (Nat × List Byte) :=
  (pieces 1022 (bs.length / 1022 + 1) bs).map fun p => (0x60, le 1 comp ++ le 1 (b2n (!p.1)) ++ p.2)

/-- The requests of a step go out; their replies are awaited. [log 45 DESIGN CHOICE] -/
def Dev.campSend (d : Dev) (l : List (Nat × List Byte)) : Dev :=
  let tag := match d.jnl.camp with
    | some c => c.tag + 1
    | none => 0
  let d1 := d.updCamp fun c => { c with tag := tag, waits := l.length, busy := true }
  l.foldl (fun (d : Dev) m => d.sendReq { CrReq.zero with typ := m.1, role := 1, reqId := tag, payload := m.2 }
    (m.1 == 0x60 && field m.2 1 1 == 0)) d1

/-- A step fails: the campaign reverts, or its revert goes on by the restart path (18 R503). -/
def Dev.stepFails (d : Dev) : Dev := if d.reverting then d.campRestart else d.revertMark 3

/-- Slot of the firmware that a flight runs. -/
def Dev.fwOf (d : Dev) : Flt → Nat
  | .a => d.nw.fwA
  | .b => d.nw.fwB

/-- What the last step stages: the TRIAL images, or on a revert those that the active flight ran before (18 R497, R503). -/
def Dev.imageBytes (d : Dev) (k : Nat) : List Byte :=
  if d.reverting then
    let o := match d.active with
      | some f => ((d.fl f).former).getD d.mod.cfg
      | none => d.mod.cfg
    if k = 5 then o.image else o.program
  else (d.slotInfo k (d.loadSlot k)).plain

/-- The last step: staging to the shadow areas, then ACTIVATE. -/
def Dev.imageStep (d : Dev) (ks : List Nat) : Dev :=
  match ks.find? fun k => !d.reverting && (d.slotInfo k (d.loadSlot k)).bad with
  | some k => (d.loadFail k (d.loadSlot k)).revertMark 2
  | none =>
    let msgs := ks.flatMap fun k => stageMsgs (compOf k) (d.imageBytes k)
    (ks.foldl (fun (d : Dev) k => d.setSlotRun k (d.loadSlot k)) d).campSend (msgs ++ [(0x61, le 1 (compOf (ks.headD 5)))])

/-- A step of the live path begins: its TRIAL mark, then its mechanism (18 R497). [log 113 DESIGN CHOICE] -/
def Dev.stepBegin (d : Dev) (c : Campaign) (i : Nat) : Dev :=
  let ks := (stepComps i).filter c.comps.contains
  let was := d.reverting
  let d0 := d.put FY_UPDSTAT_STEP (ks.headD i)
  let d1 := if was then d0 else (d0.markTrial ks).raiseFy (.mk' .fyUpdStep [compOf (ks.headD i), (i + 1 : Nat), stepPause i])
  if i = 0 then (d1.updCamp fun c => { c with busy := true }).foyerReset false
  else if i = 2 then d1.updCamp fun c => { c with busy := true }
  else if i = 5 then d1.imageStep ks
  else
    let d2 := d1.trialStart i (d1.slotInfo i (d1.loadSlot i)).bad
    if d2.reverting && !was then d2
    else d2.campSend (stageMsgs (compOf i) (d2.slotInfo i (d2.slotRun i)).plain ++ [(0x61, le 1 (compOf i))])

/-- Whether a step may begin: the Corridor is up, and the flights stand as R498 needs (18 R508). -/
def Dev.stepReady (d : Dev) (i : Nat) : Bool :=
  i == 0 || (d.cor.hostUp && (i != 2 || d.pair.isSome || (d.reverting && d.active.isSome)))

/-- Whether step 3 has reached its end: both flights run the slot that is to run (18 R498). -/
def Dev.flightsDone (d : Dev) : Bool :=
  let g := d.loadSlot 2
  match d.active with
  | none => false
  | some act =>
    let sb := act.other
    d.fwOf act == g &&
      (if d.fst sb = fsStandby then d.fwOf sb == g
       else d.reverting && !(d.nw.held sb || [fsTesting, fsLoading, fsSyncing].contains (d.fst sb)))

/-- Whether the step in progress has ended. -/
def Dev.stepDone (d : Dev) (c : Campaign) (i : Nat) : Bool :=
  if i = 0 then msServes d.mst
  else if i = 1 then c.waits == 0 && !d.nw.stopped
  else if i = 2 then d.flightsDone
  else if i = 3 then c.waits == 0 && !d.gl.paused
  else if i = 4 then c.waits == 0 && !d.lg.paused
  else c.waits == 0

/-- What step 3 does next (18 R498): the standby is taken out, released and loaded; then the planned switch-over with AFTER 2; then
the other flight follows. A flight that fails while it runs the new firmware ends the step. -/
def Dev.flightStep (d : Dev) : Option Dev :=
  let g := d.loadSlot 2
  match d.active with
  | none => none
  | some act =>
    let sb := act.other
    let out (f : Flt) : Bool := d.fst f == fsFailed || d.fst f == fsQuarantined
    if !d.reverting && out sb && d.fwOf sb == g then some d.stepFails
    else if d.fst sb = fsStandby then
      if d.fwOf sb ≠ g then some ((d.takeOut sb 2).releaseHeld sb)
      else if d.fwOf act ≠ g && d.planOk && d.nw.plan.isNone then some (d.planSwitch 2).1
      else none
    else if d.fst sb = fsReset ∧ d.nw.held sb then some (d.releaseHeld sb)
    else none

/-- The requests of UPD_ACTIVATE that wait for the campaign's steps are answered (18 R509). -/
def Dev.activateReply (d : Dev) (status : Nat) (payload : List Byte) : Dev :=
  d.fmp.sessions.foldl (fun (d : Dev) e =>
    (e.2.busy.filter fun r => r.op == 0x64 && r.sent).foldl (fun (d : Dev) r =>
      (d.put FY_UPDSTAT_RESULT status).fmpReply e.1 r status payload) d) d

/-- Ids of components, led by their count (18 R509). -/
def compList (comps : List Nat) : List Byte := le 1 comps.length ++ comps.map fun i => BitVec.ofNat 8 (compOf i)

/-- A step has ended; after the last, the campaign is in trial (18 R501). -/
def Dev.stepEnd (d : Dev) (c : Campaign) (rest : List Nat) : Dev :=
  let d1 := d.updCamp fun c => { c with todo := rest, busy := false, waits := 0 }
  if rest ≠ [] ∨ c.revert.isSome then d1
  else
    let d2 := (d1.put FY_UPDSTAT_PHASE phTrial).updUpd fun u => { u with
      service := if d1.mst = msService then some d1.time.raw else none }
    d2.activateReply E_OK (compList c.comps)

/-- The shadow areas are released (06 R178, 18 R501). -/
def Dev.releaseShadows (d : Dev) : Dev :=
  d.bothFl fun f d => ((((d.updFl f fun x => { x with former := none, stage := [], shadow := none, switchDue := false }).put
    (FL_PROGSTAT_REVERTIBLE.at f) 0).put (FL_PROGSTAT_STAGED.at f) 0).put (FL_PROGSTAT_PENDING.at f) 0).put (FL_PROGVER_SHADOW.at f) 0

/-- The revert is complete (18 R503). -/
def Dev.revertDone (d : Dev) (c : Campaign) : Dev :=
  (d.releaseShadows.revertEnds).activateReply (Config.updateFailed (c.revert.getD 0)).toNat []

/-- Whether the field side may be restarted now (02 R54). -/
def Dev.canRestart (d : Dev) : Bool := d.bit FY_MODSTATE_FIELDPWR && (d.mst == msHold || msServes d.mst)

/-- An authorised restart with the start kind of R56. [log 116 DESIGN CHOICE] -/
def Dev.restartAuto (d : Dev) : Dev := (d.updMod fun m => { m with order := none }).restartField

/-- The restart path undone: a field restart with the ACTIVE images, then the Foyer's (18 R499, R503). [log 115 DESIGN CHOICE] -/
def Dev.restartUndo (d : Dev) : Option Dev :=
  if (List.range 5).any fun n => d.stepTaken (n + 1) then
    if d.canRestart then some d.restartAuto
    else if d.bit FY_MODSTATE_FIELDPWR then none
    else some ((((List.range 6).foldl (fun (d : Dev) n => d.setSlotRun (n + 1) (d.activeSlot (n + 1))) d)).updNw fun n =>
      { n with fwA := d.activeSlot 2, fwB := d.activeSlot 2 })
  else if d.mst = msSelftest ∨ d.mst = msLoading then none
  else if d.stepTaken 0 then some (d.foyerReset false)
  else some (d.updCamp fun c => { c with todo := [] })

/-- The restart path (18 R499). -/
def Dev.restartStep (d : Dev) (c : Campaign) (i : Nat) (rest : List Nat) : Option Dev :=
  if c.revert.isSome then d.restartUndo
  else if i = 0 then
    if c.busy then some (d.stepEnd c rest) else some (d.stepBegin c 0)
  else if !c.busy then
    some (((d.markTrial (c.comps.filter (· ≠ 0))).put FY_UPDSTAT_PHASE phRestart).updCamp fun c => { c with busy := true, stage := 0 })
  else if c.stage = 0 then
    if d.mst = msSelftest then some (d.updCamp fun c => { c with stage := 1 })
    else if d.canRestart then some (d.restartAuto.updCamp fun c => { c with stage := 1 })
    else none
  else if msServes d.mst then some (d.stepEnd c rest)
  else none

/-- What a campaign does next, none while it waits. [log 113 DESIGN CHOICE] -/
def Dev.campStep (d : Dev) : Option Dev :=
  match d.jnl.camp with
  | none => none
  | some c =>
    if !d.mod.started ∨ d.mod.romHold then none
    else match c.todo with
      | [] => if c.revert.isSome then some (d.revertDone c) else none
      | i :: rest =>
        if c.restart then d.restartStep c i rest
        else if !c.busy then (if d.stepReady i then some (d.stepBegin c i) else none)
        else if d.stepDone c i then some (d.stepEnd c rest)
        else if i = 2 then d.flightStep else none

/-- A campaign goes as far as it can. -/
def Dev.campGo : Nat → Dev → Dev
  | 0, d => d
  | n + 1, d => match d.campStep with
    | some e => Dev.campGo n e
    | none => d

/-- A campaign follows what has happened. [log 113 DESIGN CHOICE] -/
def Dev.campFollow (d : Dev) : Dev := Dev.campGo 24 d

/-- A reply to a request of the campaign's step. -/
def Dev.campReply (d : Dev) (tag status : Nat) : Dev :=
  match d.jnl.camp with
  | none => d
  | some c =>
    if tag = 0 ∨ c.tag ≠ tag ∨ !c.busy then d
    else if status = E_OK then d.updCamp fun c => { c with waits := c.waits - 1 } else d.stepFails

/-- A request of the campaign's step has had no reply: while the Corridor is lost the step waits and then begins again (18 R508). -/
def Dev.campLost (d : Dev) (tag : Nat) : Dev :=
  match d.jnl.camp with
  | none => d
  | some c =>
    if tag = 0 ∨ c.tag ≠ tag ∨ !c.busy then d
    else if d.cor.hostUp then d.stepFails
    else d.updCamp fun c => { c with busy := false, waits := 0, tag := c.tag + 1 }

/-! ## Interface epochs (18 R494) -/

/-- Whether an image's peer ranges admit another component's epoch. -/
def SlotInfo.admits (x : SlotInfo) (j epoch : Nat) : Bool :=
  x.peers.all fun p => p.1 != compOf j || (decide (p.2.1 ≤ epoch) && decide (epoch ≤ p.2.2))

/-- Whether two images of a set are compatible. [log 112 DESIGN CHOICE] -/
def epochsFit (k : Nat) (x : SlotInfo) (j : Nat) (y : SlotInfo) : Bool := x.admits j y.epoch && y.admits k x.epoch

/-- Whether a new image fits the running set, some peers taken from their other slots in state RECEIVING to TRIAL. [log 112 DESIGN CHOICE] -/
def Dev.epochsBegin (d : Dev) (k : Nat) (x : SlotInfo) : Bool :=
  ((List.range 7).filter fun j => j ≠ k).all fun j =>
    let o := 1 - d.slotRun j
    epochsFit k x j (d.slotInfo j (d.slotRun j)) ||
      (decide (1 ≤ d.slotState j o ∧ d.slotState j o ≤ 4) && epochsFit k x j (d.slotInfo j o))

/-- Whether a set, given by its slots, is compatible. -/
def Dev.setFits (d : Dev) (slot : Nat → Nat) : Bool :=
  (List.range 7).all fun j => (List.range 7).all fun k =>
    j == k || epochsFit j (d.slotInfo j (slot j)) k (d.slotInfo k (slot k))

/-- Whether the running set is compatible after each step. -/
def Dev.epochsActivate (d : Dev) (comps : List Nat) : Bool :=
  (stepsOf comps).all fun last => d.setFits fun j =>
    if comps.contains j && decide (min j 5 ≤ last) then (d.slotOf j ssVerified).getD (d.slotRun j) else d.slotRun j

/-! ## Download (18 R489, R490; 20 R532) -/

/-- Largest payload by component index, in bytes. -/
def maxPayload (i : Nat) : Nat := ([8, 1, 16, 2, 2, 16, 4, 4, 1].getD i 0) * 1048576

/-- Blocks of an image. -/
def SlotInfo.nblocks (x : SlotInfo) : Nat := (x.length + 4095) / 4096

/-- Bytes of a header that must be zero (18 R486). -/
def headerZero (h : List Byte) : Bool :=
  let z (a b : Nat) : Bool := ((h.drop a).take (b + 1 - a)).all fun x => x == 0
  z 28 31 && z 193 199 && z 268 319 && z 448 511 && decide (field h 6 1 < 2) &&
    (List.range 7).all fun n => z (33 + 8 * n) (33 + 8 * n) && z (38 + 8 * n) (39 + 8 * n)

/-- "SXUP" and "SX-J16" with two zero bytes. -/
def magicBytes : List Byte := [0x53, 0x58, 0x55, 0x50]
def partName : List Byte := [0x53, 0x58, 0x2D, 0x4A, 0x31, 0x36, 0, 0]

/-- The operator update key in force: the key policy's, or the journal's copy in the boot ROM (18 R488). -/
def Dev.updateKey (d : Dev) : Option (List Byte) := if d.mod.romHold then d.jnl.updateKey else d.mod.cfg.updateKey

/-- The checks of R489 on a header: code and reason of the first failure. `vendor`, `operator` and `unwraps` are the outcomes of the
signature checks and of the key's unwrapping. -/
def Dev.headerCheck (d : Dev) (ses : Nat) (h : List Byte) (vendor operator unwraps : Bool) : Nat × Nat :=
  let x : SlotInfo := { SlotInfo.zero with header := h }
  if h.take 4 ≠ magicBytes ∨ field h 4 1 ≠ 1 ∨ !headerZero h then (E_IMAGE_HEADER, 1)
  else if (h.drop 8).take 8 ≠ partName then (E_IMAGE_HEADER, 2)
  else match compIx (field h 5 1) with
    | none => (E_IMAGE_HEADER, 3)
    | some i =>
      let o := 1 - d.activeSlot i
      let st := d.slotState i o
      let other : Bool := match mget? d.upd.loads i with
        | some l => l.1 != ses
        | none => false
      let inCamp : Bool := match d.jnl.camp with
        | some c => c.comps.contains i
        | none => false
      if d.mod.romHold ∧ i ≠ 0 then (E_IMAGE_HEADER, 3)
      else if !vendor ∨ 1 < field h 7 1 then (E_IMAGE_HEADER, 4)
      else if d.updateKey.isSome ∧ !(field h 6 1 == 1 && operator) then (E_IMAGE_HEADER, 5)
      else if maxPayload i < x.length then (E_IMAGE_HEADER, 6)
      else if !unwraps then (E_IMAGE_HEADER, 7)
      else if !d.epochsBegin i x then (E_IMAGE_HEADER, 8)
      else if x.secver < d.floor i then (E_ROLLBACK, 0)
      else if st = ssTrial ∨ inCamp ∨ st = ssReceived ∨ st = ssVerified then (E_SEQ, 0)
      else if other then (E_LOCK, 0)
      else (E_OK, 0)

/-- UPD_BEGIN (18 R489). [log 111 DESIGN CHOICE] -/
def Dev.updBegin (d : Dev) (ses : Nat) (h : List Byte) (vendor operator unwraps : Bool) : OpRes :=
  if h.length ≠ 512 then opFail d E_RANGE
  else
    let r := d.headerCheck ses h vendor operator unwraps
    let c := field h 5 1
    if r.1 ≠ E_OK then (d.raiseFy (.mk' .fyUpdRefused [c, r.1, r.2]), r.1, [0] ++ le 1 r.2 ++ [0, 0])
    else
      let i := (compIx c).getD 0
      let s := 1 - d.activeSlot i
      let old := d.slotInfo i s
      let resumed := d.slotState i s == ssReceiving && old.header == h
      let x : SlotInfo := if resumed then old else { SlotInfo.zero with header := h }
      let d1 := if resumed then d else (d.setSlotInfo i s x).setSlotState i s ssReceiving
      let d2 := (d1.updUpd fun u => { u with loads := mput u.loads i (ses, s) }).raiseFy
        (.mk' .fyUpdBegin [c, s, x.version, ((b2n resumed : Nat) : Int)])
      (d2, E_OK, le 1 s ++ [0] ++ le 2 x.nblocks)

/-- UPD_BLOCK; `readOk` tells that the block reads back as written. The boot ROM's responder writes the layout descriptor first where no copy
is valid (18 R490, 20 R531, R532). [log 111 DESIGN CHOICE] -/
def Dev.updBlock (d : Dev) (ses : Nat) (p : List Byte) (readOk : Bool) : OpRes :=
  match compIx (field p 0 1) with
  | none => opFail d E_RANGE
  | some i => match mget? d.upd.loads i with
    | none => opFail d E_SEQ
    | some (owner, s) =>
      let x := d.slotInfo i s
      let b := field p 2 2
      let data := p.drop 4
      let size := if b + 1 = x.nblocks then x.length - 4096 * b else 4096
      let j := b / 16
      if owner ≠ ses then opFail d E_LOCK
      else if d.slotState i s ≠ ssReceiving ∧ d.slotState i s ≠ ssReceived then opFail d E_SEQ
      else if x.nblocks ≤ b ∨ data.length ≠ size then opFail d E_RANGE
      else if x.bitmap.contains b then (d, E_OK, [])
      else
      let d := if d.mod.romHold && i == 0 && x.bitmap == [] && !d.laidOut then d.putLayout (layoutCopy d.mod.flash) else d
      if readOk then
        let y := { x with blocks := mput x.blocks b data, bitmap := x.bitmap ++ [b], erased := x.erased.filter (· ≠ j) }
        let d1 := d.setSlotInfo i s y
        (if y.bitmap.length = x.nblocks then d1.setSlotState i s ssReceived else d1, E_OK, [])
      else
        let again := x.erased.contains j
        let y := { x with blocks := x.blocks.filter fun e => e.1 / 16 ≠ j, bitmap := x.bitmap.filter fun e => e / 16 ≠ j
                          erased := x.erased.filter (· ≠ j) ++ [j] }
        let d1 := d.setSlotInfo i s y
        if again then (d1.raiseFy (.mk' .fyFlashFault [compOf i, s, b]), E_IMAGE_PAYLOAD, []) else (d1, E_OK, [])

/-- The slot of a component that is not ACTIVE. -/
def Dev.otherSlot (d : Dev) (i : Nat) : Nat := 1 - d.activeSlot i

/-- The bitmap of a slot as 512 bytes. -/
def SlotInfo.bits (x : SlotInfo) : List Byte :=
  (List.range 512).map fun k => BitVec.ofNat 8 ((List.range 8).foldl (fun n b => if x.bitmap.contains (8 * k + b) then n + 2 ^ b else n) 0)

/-- UPD_STATUS (18 R509). -/
def Dev.updStatus (d : Dev) (p : List Byte) : OpRes :=
  match compIx (field p 0 1) with
  | none => opFail d E_RANGE
  | some i =>
    let o := d.otherSlot i
    let map := if d.slotState i o = ssReceiving ∨ d.slotState i o = ssReceived then (d.slotInfo i o).bits else List.replicate 512 0
    (d, E_OK, le 1 (d.slotState i 0) ++ le 1 (d.slotState i 1) ++ le 1 (d.slotRun i) ++ le 1 (d.trials i) ++
      le 4 (d.slotInfo i 0).version ++ le 4 (d.slotInfo i 1).version ++ le 2 (d.floor i) ++ [0, 0] ++ map)

/-- Components that a campaign would take. -/
def Dev.verified (d : Dev) : List Nat :=
  (List.range (if d.mod.romHold then 1 else 7)).filter fun i => (d.slotOf i ssVerified).isSome

/-- The configuration and program images that the verified slots would make. -/
def Dev.nextImages (d : Dev) : List Byte × List Byte :=
  let pick (i : Nat) (old : List Byte) : List Byte := match d.slotOf i ssVerified with
    | some s => (d.slotInfo i s).plain
    | none => old
  (pick 5 d.mod.cfg.image, pick 6 d.mod.cfg.program)

/-- What a configuration image or a KZL image breaks: the checks that it alone decides (20 R548). -/
def Dev.verifyBad (d : Dev) (i : Nat) (plain : List Byte) : List ImgErr :=
  if i = 5 then configBad (d.get FY_UCSTAT_LIFECYCLE) plain
  else if i = 6 then (kzlBad (cfgOfImages d.nextImages.1 plain) plain).filter fun e => e.2.2 ≠ 11
  else []

/-- UPD_VERIFY: `tagOk` and `plain` are what the decryption finds (18 R491, 20 R548). [log 111 DESIGN CHOICE] -/
def Dev.updVerify (d : Dev) (p : List Byte) (tagOk : Bool) (plain : List Byte) : OpRes :=
  match compIx (field p 0 1) with
  | none => opFail d E_RANGE
  | some i =>
    let o := d.otherSlot i
    let x := d.slotInfo i o
    if d.slotState i o ≠ ssReceived then opFail d E_SEQ
    else if !(tagOk && plain.length == x.length && shaNum plain == x.digest) then
      ((d.setSlotState i o ssInvalid).raiseFy (.mk' .fyUpdVerified [compOf i, o, 0]), E_IMAGE_PAYLOAD, [])
    else match d.verifyBad i plain with
      | e :: _ => (((d.setSlotState i o ssInvalid).raiseFy (.mk' .fyConfigRejected [e.1, e.2.1, e.2.2])).raiseFy
          (.mk' .fyUpdVerified [compOf i, o, 0]), E_CONFIG, [])
      | [] => (((d.setSlotInfo i o { x with plain := plain }).setSlotState i o ssVerified).raiseFy
          (.mk' .fyUpdVerified [compOf i, o, 1]), E_OK, [])

/-- UPD_ABORT (18 R493). [log 114 DESIGN CHOICE] -/
def Dev.updAbort (d : Dev) (p : List Byte) : OpRes :=
  match compIx (field p 0 1) with
  | none => opFail d E_RANGE
  | some i =>
    let o := d.otherSlot i
    let inCamp : Bool := match d.jnl.camp with
      | some c => c.comps.contains i
      | none => false
    if [ssReceiving, ssReceived, ssVerified, ssInvalid].contains (d.slotState i o) && !inCamp then
      let d1 := (d.setSlotInfo i o { d.slotInfo i o with bitmap := [] }).setSlotState i o ssEmpty
      (d1.updUpd fun u => { u with loads := mdel u.loads i }, E_OK, [])
    else opFail d E_SEQ

/-! ## Activation (18 R496) -/

/-- The configuration that the verified images would make. -/
def Dev.nextCfg (d : Dev) : Cfg := cfgOfImages d.nextImages.1 d.nextImages.2

/-- Whether some step cannot run live. -/
def Dev.notLive (d : Dev) (comps : List Nat) : Bool :=
  (comps.contains 2 && (d.slotInfo 2 ((d.slotOf 2 ssVerified).getD 0)).stateEpoch != (d.slotInfo 2 (d.slotRun 2)).stateEpoch) ||
    ((comps.contains 5 || comps.contains 6) && needsRestart d.mod.cfg d.nextCfg)

/-- Why UPD_ACTIVATE is refused, E_OK where it is not. [log 114 DESIGN CHOICE] -/
def Dev.activateCode (d : Dev) (restart force : Bool) : Nat :=
  let comps := d.verified
  if comps = [] ∨ d.jnl.camp.isSome then E_SEQ
  else if !d.epochsActivate comps then E_EPOCH
  else if d.notLive comps && !restart then E_NEEDS_RESTART
  else if (d.mst == msDegraded || d.mst == msFailsafe) && !force then E_BUSY_SERVICE
  else if d.nw.stair.isSome ∨ d.fst .a = fsTesting ∨ d.fst .b = fsTesting then E_BUSY_SERVICE
  else E_OK

/-- The campaign of UPD_ACTIVATE (18 R496, R499). -/
def Dev.formCampaign (d : Dev) (restart force : Bool) : Dev :=
  let comps := d.verified
  let path := force || (restart && d.notLive comps) || d.mst == msHold
  let todo := if !path then stepsOf comps
    else if d.mod.romHold then [0] else (if comps.contains 0 then [0] else []) ++ [6]
  let c : Campaign := { Campaign.zero with comps := comps, todo := todo, restart := path }
  (d.updJnl fun j => { j with camp := some c }).put FY_UPDSTAT_PHASE (if path then phRestart else phStep)

/-- UPD_ACTIVATE: refused, or begun; its reply follows the last step (18 R496, R509). The boot ROM's responder marks component 0x01
and resets the Foyer. -/
def Dev.updActivate (d : Dev) (ses : Nat) (r : FmpReq) : Dev :=
  let restart := bitOf (field r.payload 0 1) 0
  let force := bitOf (field r.payload 0 1) 1
  let code := if r.payload.length ≠ 1 then E_RANGE else if d.arc.warned then E_PD else d.activateCode restart force
  if code ≠ E_OK then (d.put FY_UPDSTAT_RESULT code).fmpReply ses r code []
  else
    let d1 := (d.fmpSent ses r.id).formCampaign restart force
    if d1.mod.romHold then
      ((d1.markTrial [0]).updCamp fun c => { c with busy := true }).foyerReset false
    else d1.campFollow

/-! ## Confirmation and revert (18 R501 to R503) -/

/-- A component's TRIAL slot becomes ACTIVE, its former slot OLD, and its floor rises. -/
def Dev.confirmOne (d : Dev) (i : Nat) : Dev :=
  match d.slotOf i ssTrial with
  | none => d
  | some t =>
    let d1 := match d.slotOf i ssActive with
      | some a => d.setSlotState i a ssOld
      | none => d
    let d2 := ((d1.setSlotState i t ssActive).setTrials i 0).setSlotRun i t
    d2.setSlotWord i (putBits (d2.slotWord i) 31 16 (max (d2.floor i) (d2.slotInfo i t).secver))

/-- Migrated settings become current (18 R505). -/
def settingsConfirm (l : List SettingsCopy) : List SettingsCopy :=
  let t := l.filter fun x => x.trial
  if t = [] then l else t.map fun x => { x with trial := false }

/-- Confirmation; the Foyer restarts where a field component has changed (18 R501, R502; 20 R536). [log 116 DESIGN CHOICE] -/
def Dev.confirm (d : Dev) (auto : Bool) : Dev :=
  match d.jnl.camp with
  | none => d
  | some c =>
    let mask : Nat := (c.comps.filter fun i => (d.slotOf i ssTrial).isSome).foldl (fun n i => n + 2 ^ i) 0
    let d1 := ((c.comps.foldl (fun (d : Dev) i => d.confirmOne i) d).updJnl fun j => { j with
      camp := none, settings := settingsConfirm j.settings }).put FY_UPDSTAT_PHASE phIdle
    let d2 := (d1.releaseShadows.raiseFy (.mk' .fyUpdConfirm [mask, ((b2n auto : Nat) : Int)])).archive
    if c.comps.any fun i => i ≠ 0 then d2.foyerReset false else d2

/-- Why UPD_CONFIRM is refused. -/
def Dev.confirmCode (d : Dev) : Nat :=
  match d.jnl.camp with
  | none => E_SEQ
  | some c => if c.revert.isSome ∨ c.todo ≠ [] then E_SEQ else if d.bit FY_UPDSTAT_SCHEMAERR then E_SETTINGS_SCHEMA else E_OK

/-- UPD_REVERT: before confirmation only (18 R503). -/
def Dev.updRevert (d : Dev) : OpRes :=
  if d.jnl.camp.isNone ∨ d.reverting then opFail d E_SEQ else (d.revertMark 0, E_OK, [])

/-! ## Distribution (18 R506, R507) -/

/-- Targets that a distribution may name. -/
def Dev.distTargets (d : Dev) (i : Nat) : List Nat :=
  if i = 7 then d.mod.cfg.nodeTab.map (·.addr) else d.mod.cfg.stations.map (·.1)

/-- Whether a line's cycle also holds the longest firmware exchange beyond the sum of R208. Times as in R208's check. -/
def Dev.lineHolds (d : Dev) (n : Nat) : Bool :=
  let st := (d.mod.cfg.stations.filter fun s => s.1 / 32 == n).map (·.2)
  let k := lineRate (d.get (GL_RIOCFG_RATE.ix n))
  let tresp2 := 48 + k
  let data2 (s : StationCfg) : Nat := 22 * (20 + s.inputs + s.outputs) + tresp2 + 8
  let most := st.foldl (fun m s => max m s.outputs) 0
  let param2 := 22 * (9 + 12 + most) + tresp2 + 22 * 10 + 8
  let fail2 := 22 * (10 + most) + tresp2 + 22 + 8
  let fw2 := 22 * (9 + 124) + tresp2 + 22 * 10 + 8
  decide ((st.map data2).sum + param2 + 2 * fail2 + fw2 ≤ 250 * d.get (GL_RIOCFG_LINECYC.ix n) * k)

/-- UPD_DISTRIBUTE (18 R506, R507). [log 118 DESIGN CHOICE] -/
def Dev.updDistribute (d : Dev) (p : List Byte) : OpRes :=
  let force := bitOf (field p 1 1) 1
  let count := field p 2 2
  match compIx (field p 0 1) with
  | none => opFail d E_RANGE
  | some i =>
    let slot := match d.slotOf i ssVerified with
      | some s => some s
      | none => d.slotOf i ssActive
    let known := d.distTargets i
    let named := if count = 0 then known else ((List.range count).map fun n => field p (4 + 2 * n) 2).filter known.contains
    let ok := named.filter fun t => i == 7 || force || d.lineHolds (t / 32)
    if i < 7 ∨ p.length ≠ 4 + 2 * count ∨ named = [] then opFail d E_RANGE
    else match slot with
      | none => opFail d E_SEQ
      | some s =>
        if d.upd.dist.isSome ∨ ok = [] then opFail d E_BUSY_SERVICE
        else
          let lines := ((ok.map (· / 32)).eraseDups).filter fun n => i == 8 && force && !d.lineHolds n
          (d.updUpd fun u => { u with
            dist := some (i, s, ok, [], []), forced := lines, fw := if i = 8 then ok.map fun t => (t, (0x10, 0)) else [] },
            E_OK, le 2 ok.length)

/-- The distribution ends: its slot becomes ACTIVE, and the one that was ACTIVE becomes OLD. [log 118 DESIGN CHOICE] -/
def Dev.distEnds (d : Dev) (i s done failed : Nat) : Dev :=
  let d1 := match d.slotOf i ssActive with
    | some a => if a = s then d else d.setSlotState i a ssOld
    | none => d
  (((d1.setSlotState i s ssActive).setSlotRun i s).updUpd fun u => { u with dist := none, forced := [], fw := [] }).raiseFy
    (.mk' .fyUpdDist [compOf i, done, failed])

/-- A target is done, or has failed. -/
def Dev.distTarget (d : Dev) (t : Nat) (ok : Bool) : Dev :=
  match d.upd.dist with
  | none => d
  | some (i, s, due, done, failed) =>
    let due1 := due.filter (· ≠ t)
    let done1 := if ok then done ++ [t] else done
    let failed1 := if ok then failed else failed ++ [t]
    let d1 := d.updUpd fun u => { u with dist := some (i, s, due1, done1, failed1), fw := mdel u.fw t }
    if due1 = [] then d1.distEnds i s done1.length failed1.length else d1

/-- A station's reply to a firmware request (18 R507). [log 118 DESIGN CHOICE] -/
def Dev.fwReply (d : Dev) (id typ status : Nat) : Dev :=
  match d.upd.dist, mget? d.upd.fw id with
  | some (i, s, _, _, _), some (t, o) =>
    let len := (d.slotInfo i s).length
    let next (t o : Nat) : Dev := d.updUpd fun u => { u with fw := mput u.fw id (t, o) }
    if typ ≠ t + 0x80 then d
    else if status ≠ 0 then d.distTarget id false
    else if t = 0x10 then (if o < 3 then next 0x10 (o + 1) else next 0x11 0)
    else if t = 0x11 then (if o + 120 < len then next 0x11 (o + 120) else next 0x12 0)
    else if t = 0x12 then next 0x13 0
    else (if d.ss id = ssRun then d.staLost id 3 else d).distTarget id true
  | _, _ => d

/-- EV_FL_MAC_FW with phase 3: the nodes have been told to switch, those that still miss blocks apart (14 R389, 18 R506). -/
def Dev.noteFirmware (d : Dev) (ev : Ev) : Dev :=
  match d.upd.dist with
  | some (7, s, due, _, _) =>
    if ev.id = .flMacFw ∧ ev.payload.headD 0 = 3 then
      let pend := min due.length ((ev.payload.getD 1 0).toNat)
      d.distEnds 7 s (due.length - pend) pend
    else d
  | _ => d

/-! ## Replies that cross the Corridor (01 R41) -/

/-- A message of the start that is refused, or has no reply, fails its step, and the start is abandoned (02 R48). -/
def Dev.bootLost (d : Dev) (typ : Nat) : Dev := if 1 ≤ typ ∧ typ ≤ 3 ∧ d.mst = msLoading then d.holdField 10 else d

/-- The request that a REPLY answers ends (00 R11; 01 R41). [log 43 DESIGN CHOICE] -/
def Dev.corReply (d : Dev) (answers status : Nat) (payload : List Byte) : Dev :=
  match d.cor.reqs.find? fun r => r.seq == answers with
  | none => d
  | some r =>
    let d1 := d.updCor fun c => { c with reqs := c.reqs.filter fun x => x.seq ≠ answers }
    -- no message carries a status that R11 never returns
    if 0x80 ≤ status then d
    else if r.session = 0 then (if status = E_OK then d1 else d1.bootLost r.typ).campReply r.reqId status
    else d1.requestEnds r status payload

/-- A reply time runs out: the request is sent again with a new sequence up to 3 times, and then reported as failed. [log 44 DESIGN CHOICE] -/
def Dev.replyTimeout (d : Dev) (q : Nat) : Dev :=
  match d.cor.reqs.find? fun r => r.seq == q with
  | none => d
  | some r =>
    let d1 := d.updCor fun c => { c with reqs := c.reqs.filter fun x => x.seq ≠ q }
    if r.tries < 3 ∧ d.cor.hostUp then d1.sendReq { r with tries := r.tries + 1 }
    else if r.session = 0 then (d1.bootLost r.typ).campLost r.reqId
    else d1.requestEnds r (if d.cor.hostUp then (Config.requestFailed r.typ).toNat else E_PD) []

/-! ## Meanings -/

/-- An update operation: its code stands in FY_UPDSTAT.RESULT; while the power-warning land is low new records are refused
(18 R508, R511). [log 114 DESIGN CHOICE] -/
def Dev.opUpdate (d : Dev) (ses id op : Nat) (g : FmpReq → Dev → OpRes) : Dev :=
  d.op ses id op fun _ r d =>
    let q := if d.arc.warned && op != 0x62 then opFail d E_PD else g r d
    ((q.1.put FY_UPDSTAT_RESULT q.2.1).fmpReply ses r q.2.1 q.2.2).campFollow

/-- UPD_BEGIN (18 R489). -/
def execUpdBegin (session id : Nat) (vendorOk operatorOk unwraps : Bool) (s : State) : Host.Outcome State Fault Refusal :=
  s.upd fun d => d.opUpdate session id 0x60 fun r d => d.updBegin session r.payload vendorOk operatorOk unwraps

/-- UPD_BLOCK (18 R490). -/
def execUpdBlock (session id : Nat) (readOk : Bool) (s : State) : Host.Outcome State Fault Refusal :=
  s.upd fun d => d.opUpdate session id 0x61 fun r d => d.updBlock session r.payload readOk

/-- UPD_STATUS (18 R509). -/
def execUpdStatus (session id : Nat) (s : State) : Host.Outcome State Fault Refusal :=
  s.upd fun d => d.opUpdate session id 0x62 fun r d => d.updStatus r.payload

/-- UPD_VERIFY (18 R491). -/
def execUpdVerify (session id : Nat) (tagOk : Bool) (plain : List Byte) (s : State) : Host.Outcome State Fault Refusal :=
  s.upd fun d => d.opUpdate session id 0x63 fun r d => d.updVerify r.payload tagOk plain

/-- UPD_ACTIVATE (18 R496 to R499). -/
def execUpdActivate (session id : Nat) (s : State) : Host.Outcome State Fault Refusal :=
  s.upd fun d => d.op session id 0x64 fun _ r d => d.updActivate session r

/-- UPD_CONFIRM (18 R501). -/
def execUpdConfirm (session id : Nat) (s : State) : Host.Outcome State Fault Refusal :=
  s.upd fun d => d.op session id 0x65 fun _ r d =>
    let code := if d.arc.warned then E_PD else d.confirmCode
    let d1 := (d.put FY_UPDSTAT_RESULT code).fmpReply session r code []
    if code = E_OK then d1.confirm false else d1

/-- UPD_REVERT (18 R503). -/
def execUpdRevert (session id : Nat) (s : State) : Host.Outcome State Fault Refusal :=
  s.upd fun d => d.opUpdate session id 0x66 fun _ d => d.updRevert

/-- UPD_ABORT (18 R493). -/
def execUpdAbort (session id : Nat) (s : State) : Host.Outcome State Fault Refusal :=
  s.upd fun d => d.opUpdate session id 0x67 fun r d => d.updAbort r.payload

/-- UPD_DISTRIBUTE (18 R506, R507). -/
def execUpdDistribute (session id : Nat) (s : State) : Host.Outcome State Fault Refusal :=
  s.upd fun d => d.opUpdate session id 0x68 fun r d => d.updDistribute r.payload

/-- AUTO_CONFIRM: 10 minutes in SERVICE without interruption (18 R501). -/
def execAutoConfirm (s : State) : Host.Outcome State Fault Refusal :=
  s.upd fun d => d.when (d.confirmCode == E_OK && d.mst == msService && d.upd.service.isSome && !d.arc.warned) fun d => d.confirm true

/-- STANDBY_WAIT_TIMEOUT: 60 s without STANDBY before step 3 (18 R508). [log 4 DESIGN CHOICE] -/
def execStandbyWaitTimeout (s : State) : Host.Outcome State Fault Refusal :=
  s.upd fun d => match d.jnl.camp with
    | some c => if !c.restart && c.todo.head? == some 2 && d.pair.isNone && d.mod.started then d.stepFails.campFollow else d
    | none => d

/-- CAMPAIGN_CORRIDOR_TIMEOUT: the Corridor lost for 10 s during a live step (18 R508). -/
def execCampaignCorridorTimeout (s : State) : Host.Outcome State Fault Refusal :=
  s.upd fun d => match d.jnl.camp with
    | some c => if !c.restart && c.todo != [] && !d.cor.hostUp && d.mod.started then ((d.revertMark 5).campRestart).campFollow else d
    | none => d

/-- STATION_FIRMWARE_REPLY: the reply to a firmware request (08 R205, 18 R507). -/
def execStationFirmwareReply (n : Nat) (parity : Bool) (bs : List Byte) (s : State) : Host.Outcome State Fault Refusal :=
  s.upd fun d => d.rioReply (n % 16) (fun t => decide (0x10 ≤ t ∧ t ≤ 0x13)) parity bs fun r p d =>
    (d.fwReply r.id (r.typ + 0x80) (field p 0 1)).fwTurnEnds (r.id / 32)

/-- NEWEL_CYCLE (01 R28, 04 R95 to R122). [log 81 DESIGN CHOICE] -/
def execNewelCycle (fetchOk : Bool) (ue : Option (Nat × Nat)) (lst : Nat) (s : State) : Host.Outcome State Fault Refusal :=
  s.upd fun d => (d.newelCycle fetchOk ue lst).campFollow

/-- NEWEL_RESUME: the Newel runs again after its internal reset, its counts kept across it (04 R121, 18 R497). -/
def execNewelResume (s : State) : Host.Outcome State Fault Refusal :=
  s.upd fun d => d.when d.nw.stopped fun d =>
    ((d.updNw fun n => { n with stopped := false }).raiseNw (.mk' .nwReset [])).campFollow

/-- MICROCODE_RELOAD_DONE of the Gallery, or of the Loggia (18 R497). -/
def execMicrocodeReloadDone (loggia : Bool) (s : State) : Host.Outcome State Fault Refusal :=
  s.upd fun d => (if loggia then d.updLg fun x => { x with paused := false } else d.updGl fun g => { g with paused := false }).campFollow

/-- CORRIDOR_REPLY (01 R41, 16 R456). -/
def execCorridorReply (seq answers status : Nat) (payload : List Byte) (s : State) : Host.Outcome State Fault Refusal :=
  s.upd fun d => d.acceptUp seq fun d => (d.corReply answers status payload).campFollow

/-- REPLY_TIMEOUT (01 R41). -/
def execReplyTimeout (seq : Nat) (s : State) : Host.Outcome State Fault Refusal := s.upd fun d => (d.replyTimeout seq).campFollow

/-- STATUS_TO_HOST; a STATUS whose payload is not the 64 bytes of R44 counts as malformed (01 R35, R44; 02 R54; 03 R91; 04 R124). [log 109 DESIGN CHOICE] -/
def execStatusToHost (seq : Nat) (payload : List Byte) (s : State) : Host.Outcome State Fault Refusal :=
  s.upd fun d => d.acceptUp seq fun d =>
    if payload.length = 64 then (d.statusIn payload).campFollow else d.raiseFy (.mk' .crMalformed [tStatus, seq])

/-- EVENT_RECORD reaches the Foyer: its sources are set and it takes an entry of the event landing (19 R517, R518). -/
def execEventRecord (q : Nat) (ev : Ev) (counts held : Bool) (s : State) : Host.Outcome State Fault Refusal :=
  s.upd fun d => d.when ev.regionOk fun d => d.acceptUp q fun d =>
    (((d.noteQuarantine ev).noteFirmware ev).pend (if counts then [] else ev.sources)).land ⟨ev, counts, held⟩

/-- BOOT_ROM_DONE: `fails` are the defects that the tests of steps 2 to 4 find, `flash` the size of the flash device by SFDP (0 where SFDP
fails or the sectors are not uniform), `copies` the copies of the layout descriptor that read otherwise than written; the others are what the firmware finds as it starts (02 R45, R49,
R52, R54; 17 R469; 18 R492, R500, R505; 20 R529, R531, R536). [log 33 DEDUCED] -/
def execBootRomDone (fails : List (Nat × Nat)) (digest flash : Nat) (copies : List (Nat × List Byte)) (badParts : List Nat) (debug : Bool) (badKeys : List (Nat × Nat))
    (trialBad : Bool) (known oldest ticks : Nat) (s : State) : Host.Outcome State Fault Refusal :=
  s.upd fun d => (d.bootRomDone fails digest flash copies fun d => d.firmwareStart digest badParts debug badKeys trialBad known oldest ticks).campFollow

/-- FIELD_SELFTEST_DONE (02 R45, R49, R54; 04 R117): failed tests and defects that a spare repairs, by region, test and index;
`bad` names components whose load check fails (18 R492). -/
def execFieldSelftestDone (fails spared : List (Nat × Nat × Nat)) (bad : List Nat) (s : State) : Host.Outcome State Fault Refusal :=
  s.upd fun d => (d.selftestDone fails spared bad).campFollow

/-- MEASURE_REPORT: digests by flight and component index (01 R35, 02 R53). -/
def execMeasureReport (seq : Nat) (digests : List (Nat × Nat × Nat)) (s : State) : Host.Outcome State Fault Refusal :=
  s.upd fun d =>
    let d1 := if seq = d.cor.up.txSeq then
        d.putUp ⟨0x70, 0, 0, 0, 0, digests.flatMap fun e => le 1 e.1 ++ le 1 e.2.1 ++ le 32 e.2.2, none⟩ else d
    d1.acceptUp seq fun d => (d.measureReport digests).campFollow

end Sys2Proof.Machine
end

