-- ==== Sys2Proof/Machine/HostAccess.lean ====
section
/-! DEFINITION. Accesses of the host port to the register window and the host window, register writes that have no row of their own,
and the retained snapshot that reaches the Foyer (00 R8, R10; 06 R175, R176; 16 R421 to R437). -/

namespace Sys2Proof.Machine

/-! ## Writes of host registers -/

/-- Number and register of an entry in an array whose registers stand 16 bytes apart. -/
def entry16 (k base n : Nat) : Option (Nat × Nat) :=
  if base ≤ k ∧ k < base + 16 * n then some ((k - base) / 16, (k - base) % 16) else none

/-- A host write to a register of alcove a: the host is the sender of alcoves 0 to 15 and the receiver of 16 to 31 (16 R429, R431,
R456). [log 108 DESIGN CHOICE] -/
def Dev.alcWrite (d : Dev) (a r : Nat) (v : W32) : Dev × Nat :=
  if a < 16 then
    if r = 0 then d.alcField a FY_ALCPTR_PTR v.toNat
    else if r = 4 then d.alcField a FY_ALCLEN_LEN v.toNat
    else if r = 8 then d.alcTag a (v.toNat % 2 ^ 16)
    else
      let d1 := d.put (alc FY_ALCCTL_TMO a) v.toNat
      (if v.getLsbD 17 then d1.alcClear a else d1, E_OK)
  else (if r = 12 ∧ v.getLsbD 16 then d.alcEmpty a else d, E_OK)

/-- A host write to FY_LDCTL[n] (16 R435, R456). [log 108 DESIGN CHOICE] -/
def Dev.ldCtl (d : Dev) (n : Nat) (v : W32) : Dev :=
  if n < 4 then (if v.getLsbD 16 then d.ldAbort n else d) else d.put (ld FY_LDCTL_THR n) v.toNat

/-- A host write to FY_LDSTAT[n] by its access codes. -/
def Dev.ldStatWrite (d : Dev) (n : Nat) (v : W32) : Dev := (d.swWrite d.mod.committed (FY_LDSTAT + 16 * n) v).1

/-- A host write to a register of landing n. -/
def Dev.landWrite (d : Dev) (n r : Nat) (v : W32) : Dev × Nat :=
  if r = 0 then d.ldWrite n (le 4 v.toNat)
  else if r = 4 then d.ldEop n (le 4 v.toNat)
  else if r = 8 then (d.ldCtl n v, E_OK)
  else (d.ldStatWrite n v, E_OK)

/-- A write to FY_EVAC: START evacuates, TEST tests (03 R77, R79). [log 141 DESIGN CHOICE] -/
def Dev.fyEvac (d : Dev) (v : W32) : Dev :=
  let d1 := (d.swWrite d.mod.committed FY_EVAC v).1
  let lb := bitsOf v.toNat 4 0 % Mem.fy.lbanks
  if v.getLsbD 8 then (d1.bankEvac .fy lb).1
  else if v.getLsbD 9 then (d1.bankTest .fy lb (v.getLsbD 10) fun d => d.foyerReset false).1 else d1

/-- A write to FY_PTPCFG (15 R401, R418). -/
def Dev.ptpCfg (d : Dev) (v : W32) : Dev × Nat :=
  let r := d.swWrite d.mod.committed FY_PTPCFG ((v &&& 0xFFFFFFFE) ||| (d.rd FY_PTPCFG &&& 1))
  (if v.getLsbD 0 then r.1.ptpEnable else r.1.ptpDisable, r.2)

/-- A write of a host register through the port, with its status (00 R8, R10; 16 R425). -/
def Dev.fyWrite (d : Dev) (k : Nat) (v : W32) : Dev × Nat :=
  if needsCore k && d.host.coreDown then (d, E_PD)
  else match regIx k FY_EVPEND 4, regIx k FY_EVROUTE 4, regIx k FY_LATCH 32, regIx k FY_BKRAM 32 with
  | some w, _, _, _ => (d.evPendClear w v, E_OK)
  | _, some w, _, _ => (d.evRoute w v, E_OK)
  | _, _, some n, _ => d.latchWrite .fy n hostMaster v.toNat
  | _, _, _, some i => (if 24 ≤ i ∧ i ≤ 30 then d.bkWrite i v else d, E_OK)
  | _, _, _, _ => match entry16 k FY_ALCPTR 32, entry16 k FY_LDDATA 8 with
    | some e, _ => d.alcWrite e.1 e.2 v
    | _, some e => d.landWrite e.1 e.2 v
    | _, _ =>
      if k = FY_HPSESS then d.hpsessWrite v
      else if k = FY_CRPCTL then d.crpWrite v
      else if k = FY_EVAC then (d.fyEvac v, E_OK)
      else if k = FY_ECCTEST ∧ v.getLsbD 29 then d.eccArm .fy (bitsOf v.toNat 5 0) (bitsOf v.toNat 20 6) (bitsOf v.toNat 28 21)
      else if k = FY_PTPCFG then d.ptpCfg v
      else match [0, 1, 2, 3].find? fun n => k = FY_TALCMPHI + 16 * n with
        | some n => (d.talArm n v, E_OK)
        | none => d.swWrite d.mod.committed k v

/-! ## Bursts of the host port (16 R421 to R423, R427, R428) -/

/-- End of the register window, bounds of the host window. -/
def regTop : Nat := 0x10000
def winBase : Nat := 0x100000
def winTop : Nat := 0x200000

/-- Landing whose data port, or end-of-packet port, stands at an address. -/
def ldPortAt (a base : Nat) : Option Nat := (List.range 8).find? fun n => fyKey a == base + 16 * n

/-- The bytes of a WRITE from an address on: the address stays at a data port and advances elsewhere; only whole aligned words of
registers are written; the Foyer half and the reserved ranges are not. -/
def Dev.burstWrite : Nat → Dev → Nat → List Byte → Dev × Nat
  | 0, d, _, _ => (d, E_OK)
  | _ + 1, d, _, [] => (d, E_OK)
  | k + 1, d, a, b :: t =>
    let bs := b :: t
    let next (d : Dev) (code n : Nat) : Dev × Nat :=
      let r := Dev.burstWrite k d (a + n) (bs.drop n)
      (r.1, firstCode code r.2)
    match ldPortAt a FY_LDDATA, ldPortAt a FY_LDEOP with
    | some n, _ => d.ldWrite n bs
    | _, some n => d.ldEop n bs
    | _, _ =>
      if fyKey a = FY_EVVEC then (d, E_OK)
      else if a < regTop then
        let gap := 4 - a % 4
        if bs.length < gap then (d, E_OK)
        else if a % 4 ≠ 0 then next d E_RANGE gap
        else let r := d.fyWrite (fyKey a) (BitVec.ofNat 32 (field bs 0 4)); next r.1 r.2 4
      else if a < winBase then next d E_OK (winBase - a)
      else if a < winBase + foyerHalf then
        let n := winBase + foyerHalf - a
        let r := d.windowPut (bs.length + 1) hostMaster (a - winBase) (bs.take n)
        next r.1 r.2 n
      else if a < winTop then next d E_LOCK (winTop - a)
      else (d, E_OK)

/-- One word of a READ: an empty or incomplete word of a data port is not taken from it. Answers the word, the code and EMPTY. [log 107 DESIGN CHOICE] -/
def Dev.wordRead (d : Dev) (a len : Nat) : Dev × W32 × Nat × Bool :=
  let k := fyKey a
  if needsCore k && d.host.coreDown then (d, 0, E_PD, false)
  else if (ldPortAt a FY_LDDATA).isSome ∧ len < 4 then (d, d.fyPeek k, E_OK, false)
  else let r := d.fyRead k; (r.1, r.2.1, E_OK, r.2.2)

/-- The bytes of a READ from an address on, with the code and EMPTY of its first word, and of all its words. [log 107 DESIGN CHOICE] -/
def Dev.burstRead : Nat → Dev → Nat → Nat → Dev × List Byte × (Nat × Bool) × (Nat × Bool)
  | 0, d, _, _ => (d, [], (E_OK, false), (E_OK, false))
  | k + 1, d, a, len =>
    if len = 0 then (d, [], (E_OK, false), (E_OK, false))
    else if a < regTop then
      let base := a - a % 4
      let n := min len (4 - a % 4)
      let fixed := decide (fyKey base = FY_EVVEC) || (ldPortAt base FY_LDDATA).isSome
      let w := d.wordRead base len
      let r := Dev.burstRead k w.1 (if fixed then base else base + 4) (len - n)
      (r.1, ((le 4 w.2.1.toNat).drop (a % 4)).take n ++ r.2.1, w.2.2, (firstCode w.2.2.1 r.2.2.2.1, w.2.2.2 || r.2.2.2.2))
    else if a < winBase then
      let n := min len (winBase - a)
      let r := Dev.burstRead k d (a + n) (len - n)
      (r.1, List.replicate n 0 ++ r.2.1, (E_OK, false), r.2.2.2)
    else if a < winTop then
      let n := min len (winTop - a)
      let w := d.windowGet (n + 1) (a - winBase) n
      let r := Dev.burstRead k w.1 (a + n) (len - n)
      (r.1, w.2.1 ++ r.2.1, (w.2.2.1, false), (firstCode w.2.2.2 r.2.2.2.1, r.2.2.2.2))
    else (d, List.replicate len 0, (E_OK, false), (E_OK, false))

/-- A READ: its status byte reports the first word, the sticky status all of them (16 R422). -/
def Dev.hostRead (d : Dev) (a len : Nat) : Dev :=
  let r := d.burstRead (len + 4) a len
  (r.1.accessDone r.2.2.2.1 r.2.2.2.2 r.2.1).updHost fun h => { h with lastStatus := r.2.2.1.1 + 128 * b2n r.2.2.1.2 }

/-- A WRITE. -/
def Dev.hostWrite (d : Dev) (a : Nat) (bs : List Byte) : Dev :=
  let r := d.burstWrite (bs.length + 4) a bs
  r.1.accessDone r.2 false []

/-! ## Register writes that have no row of their own -/

/-- A write in a region by the access codes of the register's fields (00 R8); a flight register is written by both flights at the snapshot
that consumes the write (06 R156). -/
def Dev.registerWrite (d : Dev) (role key : Nat) (v : W32) : Dev :=
  match key / 2 ^ 24 with
  | 3 | 4 => d.arrive (.fieldWrite (key % 2 ^ 24 + 3 * 2 ^ 24) v)
  | 5 => (d.nwWrite role key v).1
  | 6 => d.glWrite key v
  | 7 => match regIx key LG_CHCFG 8 with
    | some n => (d.lgWrite key v).arrive (.chainEn n (v.getLsbD 0))
    | none => d.lgWrite key v
  | _ => (d.fyWrite key v).1

/-! ## The retained snapshot at the Foyer (06 R175, R176) -/

/-- Force entries with USED set in a snapshot's blocks (05 R142). -/
def Snapshot.used (s : Snapshot) : Nat := s.table.length

/-- A block of a scan's mirror waits for its seal. [log 109 DESIGN CHOICE] -/
def Dev.mirrorBlock (d : Dev) (p : List Byte) : Dev :=
  let scan := field p 0 8
  d.updMod fun m => { m with
    mirrorScan := some scan
    mirrorBlocks := mput (if m.mirrorScan = some scan then m.mirrorBlocks else []) (field p 9 1) (p.drop 16) }

/-- A seal: the scan's blocks are applied after the seal of the scan before it or with FULL, and discarded otherwise. [log 109 DESIGN CHOICE] -/
def Dev.mirrorSeal (d : Dev) (p : List Byte) : Dev :=
  let scan := field p 0 8
  let full := bitOf (field p 10 1) 0
  let blocks := if d.mod.mirrorScan = some scan then d.mod.mirrorBlocks else []
  let d1 := d.updMod fun m => { m with mirrorScan := none, mirrorBlocks := [] }
  let follows : Bool := match d.mod.snap with
    | some s => s.scan + 1 == scan
    | none => false
  if !full && !follows then d1.askFull
  else
    let old := match d.mod.snap with
      | some s => if full then [] else s.blocks
      | none => []
    let x : Snapshot := { Snapshot.zero with
      scan := scan, layout := field p 20 4, cfg := field p 24 32, prog := field p 56 32
      blocks := blocks.foldl (fun m (e : Nat × List Byte) => mput m e.1 e.2) old }
    d1.updMod fun m => { m with snap := some { x with crcOk := crc32c (x.bytes 0 80) == field p 16 4, forces := x.used } }

/-! ## Meanings -/

/-- HOST_READ (16 R421 to R423, R425, R427, R437, R440; 03 R82; 15 R413, R418). -/
def execHostRead (now addr len : Nat) (s : State) : Host.Outcome State Fault Refusal :=
  s.upd fun d => (d.clock now).access true fun d => d.hostRead (addr % 2 ^ 24) len

/-- HOST_WRITE (16 R421 to R423, R425 to R428). -/
def execHostWrite (addr : Nat) (bytes : List Byte) (s : State) : Host.Outcome State Fault Refusal :=
  s.upd fun d => d.access true fun d => d.hostWrite (addr % 2 ^ 24) bytes

/-- REGISTER_WRITE (00 R8, R10). -/
def execRegisterWrite (role key : Nat) (v : W32) (s : State) : Host.Outcome State Fault Refusal :=
  s.upd fun d => d.registerWrite role key v

/-- RETAIN_MIRROR (06 R175, R176). [log 109 DESIGN CHOICE] -/
def execRetainMirror (seq : Nat) (payload : List Byte) (s : State) : Host.Outcome State Fault Refusal :=
  s.upd fun d => d.acceptUp seq fun d =>
    if field payload 8 1 = 0 ∧ payload.length = 528 then d.mirrorBlock payload
    else if field payload 8 1 = 1 ∧ payload.length = 88 then d.mirrorSeal payload
    else d.raiseFy (.mk' .crMalformed [tRetainMirror, seq])

end Sys2Proof.Machine
end

