-- ==== Sys2Proof/Machine/Kzl.lean ====
section
/-! DEFINITION. The meanings of the Kazcon logic instructions (chapter 07): shared effects, then one meaning per
instruction. A command names the flight, the Tread and the instruction's fields; the Tread must be running. -/

namespace Sys2Proof.Machine

/-! ## Shared effects -/

/-- Whether R137 refuses the read of a bit operand. -/
def Dev.kzRefused (d : Dev) (f : Flt) (t sp addr : Nat) : Bool :=
  (sp == 1 || sp == 2 || sp == 4) && !d.reach f (d.tread f t).task (addr / 32) false

/-- A chain instruction: b, the operand bit or with `neg` its negation, is combined with RLO; b is 0 where the read is refused (07 R188,
R191). -/
def Dev.kzChain (d : Dev) (f : Flt) (t sp addr : Nat) (neg : Bool) (g : Bool → Bool → Bool) : Dev :=
  let p := d.kzBitVal f t sp addr
  let b := !d.kzRefused f t sp addr && Bool.xor p.2.1 neg
  if p.2.2 then p.1.setRlo f t (g (d.tread f t).rlo b) else p.1

/-- A group open: the entry is pushed, RLO stays; 16 entries held is NEST_OVERFLOW (07 R189). -/
def Dev.kzOpen (d : Dev) (f : Flt) (t : Nat) (op : GroupOp) (neg : Bool) : Dev :=
  let r := d.tread f t
  if 16 ≤ r.nest.length then d.progFault f t 0x01 0
  else d.updTread f t fun r => { r with nest := ⟨r.rlo, op, neg⟩ :: r.nest }

/-- Nesting depth at entry to the current block (07 R201). -/
def Tread.entryDepth (r : Tread) : Nat :=
  match r.calls with
  | [] => 0
  | c :: _ => c.depth

/-- The operation of a group on the RLO saved at its open and the inner result (07 R189). -/
def GroupOp.apply (o : GroupOp) (saved inner : Bool) : Bool :=
  match o with
  | .and => saved && inner
  | .or => saved || inner
  | .xor => Bool.xor saved inner

/-- GE: the entry is popped and combined; a pop below the block's entry depth is NEST_UNDERFLOW (07 R189). -/
def Dev.kzClose (d : Dev) (f : Flt) (t : Nat) : Dev :=
  let r := d.tread f t
  if r.nest.length ≤ r.entryDepth then d.progFault f t 0x02 0
  else match r.nest with
    | [] => d.progFault f t 0x02 0
    | e :: rest =>
      d.updTread f t fun r => { r with rlo := e.op.apply e.rlo (if e.neg then !r.rlo else r.rlo), nest := rest }

/-- A writing instruction on space I is program fault WRITE_INPUT (07 R190, R202). -/
def Dev.notInput (d : Dev) (f : Flt) (t sp : Nat) (g : Dev → Dev) : Dev :=
  if sp = 1 then d.progFault f t 0x05 0 else g d

/-- An edge instruction: the edge bit takes RLO and RLO takes the edge (07 R190). -/
def Dev.kzEdge (d : Dev) (f : Flt) (t sp addr : Nat) (g : Bool → Bool → Bool) : Dev :=
  d.notInput f t sp fun d =>
    let p := d.kzBitVal f t sp addr
    let rlo := (d.tread f t).rlo
    if p.2.2 then p.1.kzPutBit f t sp addr rlo fun d => d.setRlo f t (g rlo p.2.1) else p.1

/-- A value loaded as LD loads it: ACC moves to ACC2 (07 R192). -/
def Dev.kzLoad (d : Dev) (f : Flt) (t : Nat) (v : W32) : Dev :=
  d.updTread f t fun r => { r with acc2 := r.acc, acc := v }

/-- A word instruction on its operand. -/
def Dev.kzWith (d : Dev) (f : Flt) (t sp addr : Nat) (k : W32) (g : Dev → W32 → Dev) : Dev :=
  let p := d.kzWordVal f t sp addr k
  if p.2.2 then g p.1 p.2.1 else p.1

/-- An arithmetic instruction (07 R193). -/
def Dev.kzArith (d : Dev) (f : Flt) (t sp addr : Nat) (k : W32) (g : W32 → W32 → W32 × Bool) : Dev :=
  d.kzWith f t sp addr k fun d v => d.setArith f t (g (d.tread f t).acc v)

/-- A word logic instruction or shift: SAT and SATS stay (07 R193). -/
def Dev.kzLogic (d : Dev) (f : Flt) (t sp addr : Nat) (k : W32) (g : W32 → W32 → W32) : Dev :=
  d.kzWith f t sp addr k fun d v => d.setAcc f t (g (d.tread f t).acc v)

/-- A compare: RLO takes the comparison of ACC with the operand (07 R194). -/
def Dev.kzCompare (d : Dev) (f : Flt) (t sp addr : Nat) (k : W32) (g : W32 → W32 → Bool) : Dev :=
  d.kzWith f t sp addr k fun d v => d.setRlo f t (g (d.tread f t).acc v)

/-- A timer entry in fields (07 R196). -/
structure TimerView where
  et : Nat
  stamp : Nat
  valid : Bool
  inp : Bool
  q : Bool
  run : Bool
  kind : Nat
  deriving DecidableEq, Repr

/-- A timer from its two words. -/
def timerOf (w0 w1 : W32) : TimerView :=
  ⟨w0.toNat, bitsOf w1.toNat 23 0, w1.getLsbD 24, w1.getLsbD 25, w1.getLsbD 26, w1.getLsbD 27, bitsOf w1.toNat 29 28⟩

/-- Word 1 of a timer: STAMP and the flag byte. -/
def TimerView.word1 (v : TimerView) : W32 :=
  BitVec.ofNat 32 (v.stamp % 2 ^ 24 + b2n v.valid * 2 ^ 24 + b2n v.inp * 2 ^ 25 + b2n v.q * 2 ^ 26 +
    b2n v.run * 2 ^ 27 + v.kind % 4 * 2 ^ 28)

/-- The start of every timer instruction: the elapsed count and the entry stamped (07 R197, d(t)). -/
def TimerView.begin (v : TimerView) (grid kind : Nat) : TimerView × Nat :=
  let now := grid % 2 ^ 24
  let dt := if v.valid then (now + 2 ^ 24 - v.stamp) % 2 ^ 24 else 0
  let v1 := { v with stamp := now, valid := true }
  (if v.kind ≠ kind then { v1 with et := 0, inp := false, q := false, run := false, kind := kind } else v1, dt)

/-- TON (07 R197). -/
def TimerView.ton (v : TimerView) (rlo : Bool) (dt pt : Nat) : TimerView :=
  if !rlo then { v with et := 0, q := false }
  else
    let et := if v.inp then min (v.et + dt) pt else 0
    { v with et := et, q := decide (pt ≤ et) }

/-- TOF (07 R197). -/
def TimerView.tof (v : TimerView) (rlo : Bool) (dt pt : Nat) : TimerView :=
  if rlo then { v with et := 0, q := true }
  else
    let et := if v.inp then 0 else if v.q then min (v.et + dt) pt else v.et
    { v with et := et, q := v.q && decide (et < pt) }

/-- TP (07 R197). -/
def TimerView.tp (v : TimerView) (rlo : Bool) (dt pt : Nat) : TimerView :=
  let v1 :=
    if v.run then
      let et := min (v.et + dt) pt
      if pt ≤ et then { v with et := et, run := false, q := false } else { v with et := et }
    else if rlo && !v.inp && decide (0 < pt) then { v with run := true, et := 0, q := true }
    else v
  if !v1.run && !rlo then { v1 with et := 0 } else v1

/-- A timer instruction: the entry is read, evaluated with preset ACC and written through the write buffer; RLO takes
Q (07 R197). -/
def Dev.kzTimer (d : Dev) (f : Flt) (t n kind : Nat) (g : TimerView → Bool → Nat → Nat → TimerView) : Dev :=
  let p := d.touchEntry f t (kT n 0) (kT n 1)
  if p.2 then
    let r := d.tread f t
    let b := (timerOf (d.logic f t (kT n 0)) (d.logic f t (kT n 1))).begin (d.fl f).grid kind
    let v := { g b.1 r.rlo b.2 r.acc.toNat with inp := r.rlo }
    p.1.kzPutEntry f t (kT n 0) (kT n 1) (BitVec.ofNat 32 v.et) v.word1 fun d => d.setRlo f t v.q
  else p.1

/-- A counter instruction: CV steps on a rising RLO and holds at its limit with LIM set; the edge bit takes RLO, Q is
evaluated and RLO takes Q (07 R198). `up` selects CTU. -/
def Dev.kzCounter (d : Dev) (f : Flt) (t n : Nat) (up : Bool) : Dev :=
  let p := d.touchEntry f t (kC n 0) (kC n 1)
  if p.2 then
    let r := d.tread f t
    let cv := (d.logic f t (kC n 0)).toInt
    let fl := d.logic f t (kC n 1)
    let edge := fl.getLsbD (if up then 0 else 1)
    let atLimit := decide (cv = if up then 2147483647 else -2147483648)
    let step := r.rlo && !edge
    let cv' := if step && !atLimit then (if up then cv + 1 else cv - 1) else cv
    let q := if up then decide (r.acc.toInt ≤ cv') else decide (cv' ≤ 0)
    let f1 := setBitW fl (if up then 0 else 1) r.rlo
    let f2 := setBitW f1 2 q
    let f3 := if step && atLimit then setBitW f2 3 true else f2
    p.1.kzPutEntry f t (kC n 0) (kC n 1) (BitVec.ofInt 32 cv') f3 fun d => d.setRlo f t q
  else p.1

/-- RB on a timer: ET is 0 and IN, Q, RUN and VALID are cleared (07 R198). -/
def Dev.kzResetTimer (d : Dev) (f : Flt) (t n : Nat) : Dev :=
  let w1 := d.logic f t (kT n 1)
  let v := { timerOf 0 w1 with inp := false, q := false, run := false, valid := false }
  d.kzPutEntry f t (kT n 0) (kT n 1) 0 v.word1 id

/-- RB on a counter: CV is 0 and CU, CD, Q and LIM are cleared (07 R198). -/
def Dev.kzResetCounter (d : Dev) (f : Flt) (t n : Nat) : Dev :=
  d.kzPutEntry f t (kC n 0) (kC n 1) 0 (d.logic f t (kC n 1) &&& ~~~(15 : W32)) id

/-- A jump by a signed 21-bit offset from the word that follows (07 R200). -/
def Dev.kzJump (d : Dev) (f : Flt) (t addr : Nat) (c : Bool) : Dev :=
  if c then d.updTread f t fun r => { r with pc := r.pc + BitVec.ofInt 18 (signed 21 addr) } else d

/-- A call: return address, block and nesting depth are pushed; 8 entries held is CALL_OVERFLOW; a block that the image
does not hold is ILLEGAL (07 R201, R202). -/
def Dev.kzCallBlock (d : Dev) (f : Flt) (t addr : Nat) : Dev :=
  let r := d.tread f t
  if 8 ≤ r.calls.length then d.progFault f t 0x04 0
  else match d.blockFirst f addr with
    | none => d.progFault f t 0x06 0
    | some w => d.updTread f t fun r => { r with
        calls := ⟨r.pc, r.block, r.nest.length⟩ :: r.calls, pc := BitVec.ofNat 18 w, block := addr }

/-- A return: a nesting depth other than the block's entry depth is NEST_UNBALANCED; with an empty call stack the run
is complete (07 R189, R201). -/
def Dev.kzReturn (d : Dev) (f : Flt) (t : Nat) : Dev :=
  let r := d.tread f t
  if r.nest.length ≠ r.entryDepth then d.progFault f t 0x03 0
  else match r.calls with
    | [] => d.endRun f t
    | c :: rest => d.updTread f t fun r => { r with pc := c.ret, block := c.block, calls := rest }

/-- A quality test on a status (07 R199). -/
def qualTest (s : BitVec 16) (n : Nat) : Bool :=
  match n with
  | 5 => stQual s == qGood || (stQual s == qForced && stUnderq s == qGood)
  | 8 => stStale s
  | _ => stQual s == n

/-! ## Meanings -/

/-- NOP: no effect beside the instruction itself (07 R195). -/
def execKzNop (f : Flt) (t : Nat) (s : State) : Host.Outcome State Fault Refusal :=
  s.upd fun d => d.kzStep f t 0x00 0 0 fun d => d

/-- LB: RLO from the operand bit (07 R188). -/
def execKzLb (f : Flt) (t : Nat) (sp addr : Nat) (s : State) : Host.Outcome State Fault Refusal :=
  s.upd fun d => d.kzStep f t 0x01 sp addr fun d => d.kzChain f t sp addr false (fun _ b => b)

/-- LBN: RLO from the operand bit (07 R188). -/
def execKzLbn (f : Flt) (t : Nat) (sp addr : Nat) (s : State) : Host.Outcome State Fault Refusal :=
  s.upd fun d => d.kzStep f t 0x02 sp addr fun d => d.kzChain f t sp addr true (fun _ b => b)

/-- AB: RLO from the operand bit (07 R188). -/
def execKzAb (f : Flt) (t : Nat) (sp addr : Nat) (s : State) : Host.Outcome State Fault Refusal :=
  s.upd fun d => d.kzStep f t 0x03 sp addr fun d => d.kzChain f t sp addr false (fun r b => r && b)

/-- ABN: RLO from the operand bit (07 R188). -/
def execKzAbn (f : Flt) (t : Nat) (sp addr : Nat) (s : State) : Host.Outcome State Fault Refusal :=
  s.upd fun d => d.kzStep f t 0x04 sp addr fun d => d.kzChain f t sp addr true (fun r b => r && b)

/-- OB: RLO from the operand bit (07 R188). -/
def execKzOb (f : Flt) (t : Nat) (sp addr : Nat) (s : State) : Host.Outcome State Fault Refusal :=
  s.upd fun d => d.kzStep f t 0x05 sp addr fun d => d.kzChain f t sp addr false (fun r b => r || b)

/-- OBN: RLO from the operand bit (07 R188). -/
def execKzObn (f : Flt) (t : Nat) (sp addr : Nat) (s : State) : Host.Outcome State Fault Refusal :=
  s.upd fun d => d.kzStep f t 0x06 sp addr fun d => d.kzChain f t sp addr true (fun r b => r || b)

/-- XB: RLO from the operand bit (07 R188). -/
def execKzXb (f : Flt) (t : Nat) (sp addr : Nat) (s : State) : Host.Outcome State Fault Refusal :=
  s.upd fun d => d.kzStep f t 0x07 sp addr fun d => d.kzChain f t sp addr false (fun r b => Bool.xor r b)

/-- XBN: RLO from the operand bit (07 R188). -/
def execKzXbn (f : Flt) (t : Nat) (sp addr : Nat) (s : State) : Host.Outcome State Fault Refusal :=
  s.upd fun d => d.kzStep f t 0x08 sp addr fun d => d.kzChain f t sp addr true (fun r b => Bool.xor r b)

/-- GA: opens a group (07 R189). -/
def execKzGa (f : Flt) (t : Nat) (s : State) : Host.Outcome State Fault Refusal :=
  s.upd fun d => d.kzStep f t 0x0A 0 0 fun d => d.kzOpen f t .and false

/-- GAN: opens a group (07 R189). -/
def execKzGan (f : Flt) (t : Nat) (s : State) : Host.Outcome State Fault Refusal :=
  s.upd fun d => d.kzStep f t 0x0B 0 0 fun d => d.kzOpen f t .and true

/-- GO: opens a group (07 R189). -/
def execKzGo (f : Flt) (t : Nat) (s : State) : Host.Outcome State Fault Refusal :=
  s.upd fun d => d.kzStep f t 0x0C 0 0 fun d => d.kzOpen f t .or false

/-- GON: opens a group (07 R189). -/
def execKzGon (f : Flt) (t : Nat) (s : State) : Host.Outcome State Fault Refusal :=
  s.upd fun d => d.kzStep f t 0x0D 0 0 fun d => d.kzOpen f t .or true

/-- GX: opens a group (07 R189). -/
def execKzGx (f : Flt) (t : Nat) (s : State) : Host.Outcome State Fault Refusal :=
  s.upd fun d => d.kzStep f t 0x0E 0 0 fun d => d.kzOpen f t .xor false

/-- GXN: opens a group (07 R189). -/
def execKzGxn (f : Flt) (t : Nat) (s : State) : Host.Outcome State Fault Refusal :=
  s.upd fun d => d.kzStep f t 0x0F 0 0 fun d => d.kzOpen f t .xor true

/-- GE: closes a group (07 R189). -/
def execKzGe (f : Flt) (t : Nat) (s : State) : Host.Outcome State Fault Refusal :=
  s.upd fun d => d.kzStep f t 0x10 0 0 fun d => d.kzClose f t

/-- NOT: RLO := not RLO (07 R195). -/
def execKzNot (f : Flt) (t : Nat) (s : State) : Host.Outcome State Fault Refusal :=
  s.upd fun d => d.kzStep f t 0x11 0 0 fun d => d.setRlo f t (!(d.tread f t).rlo)

/-- SET: RLO := 1 (07 R195). -/
def execKzSet (f : Flt) (t : Nat) (s : State) : Host.Outcome State Fault Refusal :=
  s.upd fun d => d.kzStep f t 0x12 0 0 fun d => d.setRlo f t true

/-- CLR: RLO := 0 (07 R195). -/
def execKzClr (f : Flt) (t : Nat) (s : State) : Host.Outcome State Fault Refusal :=
  s.upd fun d => d.kzStep f t 0x13 0 0 fun d => d.setRlo f t false

/-- STB: operand := RLO (07 R190). -/
def execKzStb (f : Flt) (t : Nat) (sp addr : Nat) (s : State) : Host.Outcome State Fault Refusal :=
  s.upd fun d => d.kzStep f t 0x14 sp addr fun d => d.notInput f t sp fun d =>
    d.kzPutBit f t sp addr (d.tread f t).rlo id

/-- SB: if RLO is 1 the operand bit is set, or the counter takes ACC (07 R190, R198). -/
def execKzSb (f : Flt) (t : Nat) (sp addr : Nat) (s : State) : Host.Outcome State Fault Refusal :=
  s.upd fun d => d.kzStep f t 0x15 sp addr fun d => d.notInput f t sp fun d =>
    if !(d.tread f t).rlo then d
    else if sp = 6 then d.bufWrite f t (kC addr 0) fullMask (d.tread f t).acc id
    else d.kzPutBit f t sp addr true id

/-- RB: if RLO is 1 the operand bit, timer or counter is reset (07 R190, R198). -/
def execKzRb (f : Flt) (t : Nat) (sp addr : Nat) (s : State) : Host.Outcome State Fault Refusal :=
  s.upd fun d => d.kzStep f t 0x16 sp addr fun d => d.notInput f t sp fun d =>
    if !(d.tread f t).rlo then d
    else if sp = 5 then d.kzResetTimer f t addr
    else if sp = 6 then d.kzResetCounter f t addr
    else d.kzPutBit f t sp addr false id

/-- EDR: rising edge (07 R190). -/
def execKzEdr (f : Flt) (t : Nat) (sp addr : Nat) (s : State) : Host.Outcome State Fault Refusal :=
  s.upd fun d => d.kzStep f t 0x18 sp addr fun d => d.kzEdge f t sp addr fun r e => r && !e

/-- EDF: falling edge (07 R190). -/
def execKzEdf (f : Flt) (t : Nat) (sp addr : Nat) (s : State) : Host.Outcome State Fault Refusal :=
  s.upd fun d => d.kzStep f t 0x19 sp addr fun d => d.kzEdge f t sp addr fun r e => !r && e

/-- QT: RLO from a quality test; 0 outside the task's reach (07 R199). -/
def execKzQt (f : Flt) (t : Nat) (sp addr : Nat) (s : State) : Host.Outcome State Fault Refusal :=
  s.upd fun d => d.kzStep f t 0x1C sp addr fun d => 
    let n := addr / 32
    let p := d.readPt f t sp n fun d => if qualTest (d.ptSt f sp n) (addr % 32) then 1 else 0
    if p.2.2 then p.1.setRlo f t (p.2.1 == 1) else p.1

/-- LD: ACC to ACC2, operand to ACC (07 R192). -/
def execKzLd (f : Flt) (t : Nat) (sp addr : Nat) (k : W32) (s : State) : Host.Outcome State Fault Refusal :=
  s.upd fun d => d.kzStep f t 0x20 sp addr fun d => d.kzWith f t sp addr k fun d v => d.kzLoad f t v

/-- ST: ACC to the operand word (07 R192). -/
def execKzSt (f : Flt) (t : Nat) (sp addr : Nat) (s : State) : Host.Outcome State Fault Refusal :=
  s.upd fun d => d.kzStep f t 0x21 sp addr fun d => d.notInput f t sp fun d =>
    d.kzPutWord f t sp addr (d.tread f t).acc id

/-- LDS: status of a point, or flag byte of a timer or counter (07 R192). -/
def execKzLds (f : Flt) (t : Nat) (sp addr : Nat) (s : State) : Host.Outcome State Fault Refusal :=
  s.upd fun d => d.kzStep f t 0x22 sp addr fun d => 
    let p := match sp with
      | 5 => d.readLogic f t (kT addr 1) fun v => v >>> 24
      | 6 => d.readLogic f t (kC addr 1) fun v => v &&& 0xFF
      | _ => d.readPt f t sp (addr / 32) fun d => (d.ptSt f sp (addr / 32)).setWidth 32
    if p.2.2 then p.1.kzLoad f t p.2.1 else p.1

/-- CLRS: SATS := 0 (07 R193). -/
def execKzClrs (f : Flt) (t : Nat) (s : State) : Host.Outcome State Fault Refusal :=
  s.upd fun d => d.kzStep f t 0x24 0 0 fun d => d.updTread f t fun r => { r with sats := false }

/-- ADD: arithmetic on ACC and the operand (07 R193). -/
def execKzAdd (f : Flt) (t : Nat) (sp addr : Nat) (k : W32) (s : State) : Host.Outcome State Fault Refusal :=
  s.upd fun d => d.kzStep f t 0x28 sp addr fun d => d.kzArith f t sp addr k kzAddF

/-- SUB: arithmetic on ACC and the operand (07 R193). -/
def execKzSub (f : Flt) (t : Nat) (sp addr : Nat) (k : W32) (s : State) : Host.Outcome State Fault Refusal :=
  s.upd fun d => d.kzStep f t 0x29 sp addr fun d => d.kzArith f t sp addr k kzSubF

/-- MUL: arithmetic on ACC and the operand (07 R193). -/
def execKzMul (f : Flt) (t : Nat) (sp addr : Nat) (k : W32) (s : State) : Host.Outcome State Fault Refusal :=
  s.upd fun d => d.kzStep f t 0x2A sp addr fun d => d.kzArith f t sp addr k kzMulF

/-- DIV: arithmetic on ACC and the operand (07 R193). -/
def execKzDiv (f : Flt) (t : Nat) (sp addr : Nat) (k : W32) (s : State) : Host.Outcome State Fault Refusal :=
  s.upd fun d => d.kzStep f t 0x2B sp addr fun d => d.kzArith f t sp addr k kzDivF

/-- MOD: arithmetic on ACC and the operand (07 R193). -/
def execKzMod (f : Flt) (t : Nat) (sp addr : Nat) (k : W32) (s : State) : Host.Outcome State Fault Refusal :=
  s.upd fun d => d.kzStep f t 0x2C sp addr fun d => d.kzArith f t sp addr k kzModF

/-- ADDU: arithmetic on ACC and the operand (07 R193). -/
def execKzAddu (f : Flt) (t : Nat) (sp addr : Nat) (k : W32) (s : State) : Host.Outcome State Fault Refusal :=
  s.upd fun d => d.kzStep f t 0x2D sp addr fun d => d.kzArith f t sp addr k kzAdduF

/-- SUBU: arithmetic on ACC and the operand (07 R193). -/
def execKzSubu (f : Flt) (t : Nat) (sp addr : Nat) (k : W32) (s : State) : Host.Outcome State Fault Refusal :=
  s.upd fun d => d.kzStep f t 0x2E sp addr fun d => d.kzArith f t sp addr k kzSubuF

/-- ADDW: arithmetic on ACC and the operand (07 R193). -/
def execKzAddw (f : Flt) (t : Nat) (sp addr : Nat) (k : W32) (s : State) : Host.Outcome State Fault Refusal :=
  s.upd fun d => d.kzStep f t 0x2F sp addr fun d => d.kzArith f t sp addr k kzAddwF

/-- SUBW: arithmetic on ACC and the operand (07 R193). -/
def execKzSubw (f : Flt) (t : Nat) (sp addr : Nat) (k : W32) (s : State) : Host.Outcome State Fault Refusal :=
  s.upd fun d => d.kzStep f t 0x30 sp addr fun d => d.kzArith f t sp addr k kzSubwF

/-- MIN: arithmetic on ACC and the operand (07 R193). -/
def execKzMin (f : Flt) (t : Nat) (sp addr : Nat) (k : W32) (s : State) : Host.Outcome State Fault Refusal :=
  s.upd fun d => d.kzStep f t 0x31 sp addr fun d => d.kzArith f t sp addr k kzMinF

/-- MAX: arithmetic on ACC and the operand (07 R193). -/
def execKzMax (f : Flt) (t : Nat) (sp addr : Nat) (k : W32) (s : State) : Host.Outcome State Fault Refusal :=
  s.upd fun d => d.kzStep f t 0x32 sp addr fun d => d.kzArith f t sp addr k kzMaxF

/-- NEG: arithmetic on ACC (07 R193). -/
def execKzNeg (f : Flt) (t : Nat) (s : State) : Host.Outcome State Fault Refusal :=
  s.upd fun d => d.kzStep f t 0x33 0 0 fun d => d.setArith f t (kzNegF (d.tread f t).acc)

/-- ABS: arithmetic on ACC (07 R193). -/
def execKzAbs (f : Flt) (t : Nat) (s : State) : Host.Outcome State Fault Refusal :=
  s.upd fun d => d.kzStep f t 0x34 0 0 fun d => d.setArith f t (kzAbsF (d.tread f t).acc)

/-- MULDIV: product in 64 bits divided by ACC2 (07 R193). -/
def execKzMuldiv (f : Flt) (t : Nat) (sp addr : Nat) (k : W32) (s : State) : Host.Outcome State Fault Refusal :=
  s.upd fun d => d.kzStep f t 0x35 sp addr fun d => d.kzArith f t sp addr k fun a v =>
    kzMuldivF a v (d.tread f t).acc2

/-- AND: bitwise on ACC (07 R195). -/
def execKzAnd (f : Flt) (t : Nat) (sp addr : Nat) (k : W32) (s : State) : Host.Outcome State Fault Refusal :=
  s.upd fun d => d.kzStep f t 0x38 sp addr fun d => d.kzLogic f t sp addr k (fun a v => a &&& v)

/-- OR: bitwise on ACC (07 R195). -/
def execKzOr (f : Flt) (t : Nat) (sp addr : Nat) (k : W32) (s : State) : Host.Outcome State Fault Refusal :=
  s.upd fun d => d.kzStep f t 0x39 sp addr fun d => d.kzLogic f t sp addr k (fun a v => a ||| v)

/-- XOR: bitwise on ACC (07 R195). -/
def execKzXor (f : Flt) (t : Nat) (sp addr : Nat) (k : W32) (s : State) : Host.Outcome State Fault Refusal :=
  s.upd fun d => d.kzStep f t 0x3A sp addr fun d => d.kzLogic f t sp addr k (fun a v => a ^^^ v)

/-- INV: ACC := not ACC (07 R195). -/
def execKzInv (f : Flt) (t : Nat) (s : State) : Host.Outcome State Fault Refusal :=
  s.upd fun d => d.kzStep f t 0x3B 0 0 fun d => d.setAcc f t (~~~(d.tread f t).acc)

/-- SHL: shift of ACC by the low 5 bits of the operand (07 R193, R195). -/
def execKzShl (f : Flt) (t : Nat) (sp addr : Nat) (k : W32) (s : State) : Host.Outcome State Fault Refusal :=
  s.upd fun d => d.kzStep f t 0x3C sp addr fun d => d.kzLogic f t sp addr k kzShlF

/-- SHR: shift of ACC by the low 5 bits of the operand (07 R193, R195). -/
def execKzShr (f : Flt) (t : Nat) (sp addr : Nat) (k : W32) (s : State) : Host.Outcome State Fault Refusal :=
  s.upd fun d => d.kzStep f t 0x3D sp addr fun d => d.kzLogic f t sp addr k kzShrF

/-- SAR: shift of ACC by the low 5 bits of the operand (07 R193, R195). -/
def execKzSar (f : Flt) (t : Nat) (sp addr : Nat) (k : W32) (s : State) : Host.Outcome State Fault Refusal :=
  s.upd fun d => d.kzStep f t 0x3E sp addr fun d => d.kzLogic f t sp addr k kzSarF

/-- CEQ: RLO from the comparison of ACC with the operand (07 R194). -/
def execKzCeq (f : Flt) (t : Nat) (sp addr : Nat) (k : W32) (s : State) : Host.Outcome State Fault Refusal :=
  s.upd fun d => d.kzStep f t 0x40 sp addr fun d => d.kzCompare f t sp addr k (fun a v => a == v)

/-- CNE: RLO from the comparison of ACC with the operand (07 R194). -/
def execKzCne (f : Flt) (t : Nat) (sp addr : Nat) (k : W32) (s : State) : Host.Outcome State Fault Refusal :=
  s.upd fun d => d.kzStep f t 0x41 sp addr fun d => d.kzCompare f t sp addr k (fun a v => a != v)

/-- CLT: RLO from the comparison of ACC with the operand (07 R194). -/
def execKzClt (f : Flt) (t : Nat) (sp addr : Nat) (k : W32) (s : State) : Host.Outcome State Fault Refusal :=
  s.upd fun d => d.kzStep f t 0x42 sp addr fun d => d.kzCompare f t sp addr k kzCltF

/-- CLE: RLO from the comparison of ACC with the operand (07 R194). -/
def execKzCle (f : Flt) (t : Nat) (sp addr : Nat) (k : W32) (s : State) : Host.Outcome State Fault Refusal :=
  s.upd fun d => d.kzStep f t 0x43 sp addr fun d => d.kzCompare f t sp addr k (fun a v => !kzCltF v a)

/-- CGT: RLO from the comparison of ACC with the operand (07 R194). -/
def execKzCgt (f : Flt) (t : Nat) (sp addr : Nat) (k : W32) (s : State) : Host.Outcome State Fault Refusal :=
  s.upd fun d => d.kzStep f t 0x44 sp addr fun d => d.kzCompare f t sp addr k (fun a v => kzCltF v a)

/-- CGE: RLO from the comparison of ACC with the operand (07 R194). -/
def execKzCge (f : Flt) (t : Nat) (sp addr : Nat) (k : W32) (s : State) : Host.Outcome State Fault Refusal :=
  s.upd fun d => d.kzStep f t 0x45 sp addr fun d => d.kzCompare f t sp addr k (fun a v => !kzCltF a v)

/-- CLTU: RLO from the comparison of ACC with the operand (07 R194). -/
def execKzCltu (f : Flt) (t : Nat) (sp addr : Nat) (k : W32) (s : State) : Host.Outcome State Fault Refusal :=
  s.upd fun d => d.kzStep f t 0x46 sp addr fun d => d.kzCompare f t sp addr k kzCltuF

/-- CLEU: RLO from the comparison of ACC with the operand (07 R194). -/
def execKzCleu (f : Flt) (t : Nat) (sp addr : Nat) (k : W32) (s : State) : Host.Outcome State Fault Refusal :=
  s.upd fun d => d.kzStep f t 0x47 sp addr fun d => d.kzCompare f t sp addr k (fun a v => !kzCltuF v a)

/-- CGTU: RLO from the comparison of ACC with the operand (07 R194). -/
def execKzCgtu (f : Flt) (t : Nat) (sp addr : Nat) (k : W32) (s : State) : Host.Outcome State Fault Refusal :=
  s.upd fun d => d.kzStep f t 0x48 sp addr fun d => d.kzCompare f t sp addr k (fun a v => kzCltuF v a)

/-- CGEU: RLO from the comparison of ACC with the operand (07 R194). -/
def execKzCgeu (f : Flt) (t : Nat) (sp addr : Nat) (k : W32) (s : State) : Host.Outcome State Fault Refusal :=
  s.upd fun d => d.kzStep f t 0x49 sp addr fun d => d.kzCompare f t sp addr k (fun a v => !kzCltuF a v)

/-- TON: evaluates the timer (07 R197). -/
def execKzTon (f : Flt) (t : Nat) (addr : Nat) (s : State) : Host.Outcome State Fault Refusal :=
  s.upd fun d => d.kzStep f t 0x50 5 addr fun d => d.kzTimer f t addr 1 TimerView.ton

/-- TOF: evaluates the timer (07 R197). -/
def execKzTof (f : Flt) (t : Nat) (addr : Nat) (s : State) : Host.Outcome State Fault Refusal :=
  s.upd fun d => d.kzStep f t 0x51 5 addr fun d => d.kzTimer f t addr 2 TimerView.tof

/-- TP: evaluates the timer (07 R197). -/
def execKzTp (f : Flt) (t : Nat) (addr : Nat) (s : State) : Host.Outcome State Fault Refusal :=
  s.upd fun d => d.kzStep f t 0x52 5 addr fun d => d.kzTimer f t addr 3 TimerView.tp

/-- CTU: evaluates the counter (07 R198). -/
def execKzCtu (f : Flt) (t : Nat) (addr : Nat) (s : State) : Host.Outcome State Fault Refusal :=
  s.upd fun d => d.kzStep f t 0x54 6 addr fun d => d.kzCounter f t addr true

/-- CTD: evaluates the counter (07 R198). -/
def execKzCtd (f : Flt) (t : Nat) (addr : Nat) (s : State) : Host.Outcome State Fault Refusal :=
  s.upd fun d => d.kzStep f t 0x55 6 addr fun d => d.kzCounter f t addr false

/-- JMP: jump (07 R200). -/
def execKzJmp (f : Flt) (t : Nat) (addr : Nat) (s : State) : Host.Outcome State Fault Refusal :=
  s.upd fun d => d.kzStep f t 0x58 0 addr fun d => d.kzJump f t addr true

/-- JT: jump (07 R200). -/
def execKzJt (f : Flt) (t : Nat) (addr : Nat) (s : State) : Host.Outcome State Fault Refusal :=
  s.upd fun d => d.kzStep f t 0x59 0 addr fun d => d.kzJump f t addr ((d.tread f t).rlo)

/-- JF: jump (07 R200). -/
def execKzJf (f : Flt) (t : Nat) (addr : Nat) (s : State) : Host.Outcome State Fault Refusal :=
  s.upd fun d => d.kzStep f t 0x5A 0 addr fun d => d.kzJump f t addr (!(d.tread f t).rlo)

/-- JZ: jump (07 R200). -/
def execKzJz (f : Flt) (t : Nat) (addr : Nat) (s : State) : Host.Outcome State Fault Refusal :=
  s.upd fun d => d.kzStep f t 0x5B 0 addr fun d => d.kzJump f t addr ((d.tread f t).acc == 0)

/-- JNZ: jump (07 R200). -/
def execKzJnz (f : Flt) (t : Nat) (addr : Nat) (s : State) : Host.Outcome State Fault Refusal :=
  s.upd fun d => d.kzStep f t 0x5C 0 addr fun d => d.kzJump f t addr ((d.tread f t).acc != 0)

/-- CALL: call (07 R201). -/
def execKzCall (f : Flt) (t : Nat) (addr : Nat) (s : State) : Host.Outcome State Fault Refusal :=
  s.upd fun d => d.kzStep f t 0x60 0 addr fun d => d.kzCallBlock f t addr

/-- CALLT: call when RLO is 1 (07 R201). -/
def execKzCallt (f : Flt) (t : Nat) (addr : Nat) (s : State) : Host.Outcome State Fault Refusal :=
  s.upd fun d => d.kzStep f t 0x61 0 addr fun d => if (d.tread f t).rlo then d.kzCallBlock f t addr else d

/-- RET: return or end of the run (07 R201). -/
def execKzRet (f : Flt) (t : Nat) (s : State) : Host.Outcome State Fault Refusal :=
  s.upd fun d => d.kzStep f t 0x62 0 0 fun d => d.kzReturn f t

/-- RETT: return when RLO is 1 (07 R201). -/
def execKzRett (f : Flt) (t : Nat) (s : State) : Host.Outcome State Fault Refusal :=
  s.upd fun d => d.kzStep f t 0x63 0 0 fun d => if (d.tread f t).rlo then d.kzReturn f t else d

/-- TRAP: program fault TRAP (07 R202). -/
def execKzTrap (f : Flt) (t : Nat) (addr : Nat) (s : State) : Host.Outcome State Fault Refusal :=
  s.upd fun d => d.kzStep f t 0x70 0 addr fun d => d.progFault f t 0x07 addr

/-- BUDGET_EXCEEDED: a run whose instruction budget is used up stops before its next instruction (06 R166). [log 52 DESIGN CHOICE] -/
def execBudgetExceeded (f : Flt) (t : Nat) (s : State) : Host.Outcome State Fault Refusal :=
  s.upd fun d =>
    let r := d.tread f t
    if r.running && !r.halted && decide (d.taskBudget f r.task ≤ r.instrs) then
      d.stopRun f t 0x12 (d.get ((FL_TASKBUD_BUDGET.ix r.task).at f))
    else d

end Sys2Proof.Machine
end

