-- ==== Sys2Proof/Machine/Dispatch.lean ====
section
/-! DEFINITION. What each command does: one arm per constructor of Instr, each one call of that command's meaning. -/

namespace Sys2Proof.Machine

/-- The effect of a command on everything but the queue. [log 122 DESIGN CHOICE] -/
def exec (i : Instr) (s : State) : Host.Outcome State Fault Refusal :=
  match i with
  | .vhinValid => Sys2Proof.Machine.execVhinValid s
  | .vhinLost written torn => Sys2Proof.Machine.execVhinLost written torn s
  | .vfinValid => Sys2Proof.Machine.execVfinValid s
  | .vfinLost => Sys2Proof.Machine.execVfinLost s
  | .hostReset written torn => Sys2Proof.Machine.execHostReset written torn s
  | .bootRomDone fails digest flash copies badParts debug badKeys trialBad known oldest ticks => Sys2Proof.Machine.execBootRomDone fails digest flash copies badParts debug badKeys trialBad known oldest ticks s
  | .corridorUpTimeout => Sys2Proof.Machine.execCorridorUpTimeout s
  | .fieldSelftestDone fails spared bad => Sys2Proof.Machine.execFieldSelftestDone fails spared bad s
  | .pwrwarnFall => Sys2Proof.Machine.execPwrwarnFall s
  | .pwrwarnRise => Sys2Proof.Machine.execPwrwarnRise s
  | .gradientCheck host r1 r2 kelvin => Sys2Proof.Machine.execGradientCheck host r1 r2 kelvin s
  | .referenceFault => Sys2Proof.Machine.execReferenceFault s
  | .crossingParityError crossing region again => Sys2Proof.Machine.execCrossingParityError crossing region again s
  | .newelCycle fetchOk ue lst => Sys2Proof.Machine.execNewelCycle fetchOk ue lst s
  | .timeMapSynthesis => Sys2Proof.Machine.execTimeMapSynthesis s
  | .inputArrival fr => Sys2Proof.Machine.execInputArrival fr s
  | .batchDelivered f bad => Sys2Proof.Machine.execBatchDelivered f bad s
  | .batchAck f => Sys2Proof.Machine.execBatchAck f s
  | .flightFaultReport f code t at_ => Sys2Proof.Machine.execFlightFaultReport f code t at_ s
  | .corridorUnknownType toHost typ seq lengthOk => Sys2Proof.Machine.execCorridorUnknownType toHost typ seq lengthOk s
  | .linkAck down seq => Sys2Proof.Machine.execLinkAck down seq s
  | .corridorNak down crc => Sys2Proof.Machine.execCorridorNak down crc s
  | .replyTimeout seq => Sys2Proof.Machine.execReplyTimeout seq s
  | .heartbeatSend host => Sys2Proof.Machine.execHeartbeatSend host s
  | .heartbeat toHost seq mark => Sys2Proof.Machine.execHeartbeat toHost seq mark s
  | .corridorLost host => Sys2Proof.Machine.execCorridorLost host s
  | .statusSend host => Sys2Proof.Machine.execStatusSend host s
  | .statusToHost seq payload => Sys2Proof.Machine.execStatusToHost seq payload s
  | .statusToField seq payload => Sys2Proof.Machine.execStatusToField seq payload s
  | .bootImageBlock seq comp last data => Sys2Proof.Machine.execBootImageBlock seq comp last data s
  | .configBlock seq comp last data => Sys2Proof.Machine.execConfigBlock seq comp last data s
  | .measureReport seq digests => Sys2Proof.Machine.execMeasureReport seq digests s
  | .bootDone seq => Sys2Proof.Machine.execBootDone seq s
  | .pointRead h points => Sys2Proof.Machine.execPointRead h points s
  | .subscribe h session entries => Sys2Proof.Machine.execSubscribe h session entries s
  | .unsubscribe h session points => Sys2Proof.Machine.execUnsubscribe h session points s
  | .clearSession h session => Sys2Proof.Machine.execClearSession h session s
  | .clearAll h => Sys2Proof.Machine.execClearAll h s
  | .pointWrite h entries => Sys2Proof.Machine.execPointWrite h entries s
  | .forceSet h entries => Sys2Proof.Machine.execForceSet h entries s
  | .pointNotify seq session entries => Sys2Proof.Machine.execPointNotify seq session entries s
  | .eventRecord seq ev counts held => Sys2Proof.Machine.execEventRecord seq ev counts held s
  | .retainMirror seq payload => Sys2Proof.Machine.execRetainMirror seq payload s
  | .timeMap q m => Sys2Proof.Machine.execTimeMap q m s
  | .regRead h region count offset => Sys2Proof.Machine.execRegRead h region count offset s
  | .regWrite h region offset values => Sys2Proof.Machine.execRegWrite h region offset values s
  | .meshDownUnicast h dst flags ms data => Sys2Proof.Machine.execMeshDownUnicast h dst flags ms data s
  | .meshDownMulticast h flags ms data => Sys2Proof.Machine.execMeshDownMulticast h flags ms data s
  | .meshDownFwblock h block data => Sys2Proof.Machine.execMeshDownFwblock h block data s
  | .meshDownFwControl h interval => Sys2Proof.Machine.execMeshDownFwControl h interval s
  | .meshDownCommand h dst flags ms data => Sys2Proof.Machine.execMeshDownCommand h dst flags ms data s
  | .meshUp seq payload => Sys2Proof.Machine.execMeshUp seq payload s
  | .updateStage h comp last data => Sys2Proof.Machine.execUpdateStage h comp last data s
  | .activate h comp ok => Sys2Proof.Machine.execActivate h comp ok s
  | .onlineSwitch f => Sys2Proof.Machine.execOnlineSwitch f s
  | .scan f wait dur dirty => Sys2Proof.Machine.execScan f wait dur dirty s
  | .levelBarrier f time => Sys2Proof.Machine.execLevelBarrier f time s
  | .budgetExceeded f t => Sys2Proof.Machine.execBudgetExceeded f t s
  | .kzNop f t => Sys2Proof.Machine.execKzNop f t s
  | .kzLb f t sp addr => Sys2Proof.Machine.execKzLb f t sp addr s
  | .kzLbn f t sp addr => Sys2Proof.Machine.execKzLbn f t sp addr s
  | .kzAb f t sp addr => Sys2Proof.Machine.execKzAb f t sp addr s
  | .kzAbn f t sp addr => Sys2Proof.Machine.execKzAbn f t sp addr s
  | .kzOb f t sp addr => Sys2Proof.Machine.execKzOb f t sp addr s
  | .kzObn f t sp addr => Sys2Proof.Machine.execKzObn f t sp addr s
  | .kzXb f t sp addr => Sys2Proof.Machine.execKzXb f t sp addr s
  | .kzXbn f t sp addr => Sys2Proof.Machine.execKzXbn f t sp addr s
  | .kzGa f t => Sys2Proof.Machine.execKzGa f t s
  | .kzGan f t => Sys2Proof.Machine.execKzGan f t s
  | .kzGo f t => Sys2Proof.Machine.execKzGo f t s
  | .kzGon f t => Sys2Proof.Machine.execKzGon f t s
  | .kzGx f t => Sys2Proof.Machine.execKzGx f t s
  | .kzGxn f t => Sys2Proof.Machine.execKzGxn f t s
  | .kzGe f t => Sys2Proof.Machine.execKzGe f t s
  | .kzNot f t => Sys2Proof.Machine.execKzNot f t s
  | .kzSet f t => Sys2Proof.Machine.execKzSet f t s
  | .kzClr f t => Sys2Proof.Machine.execKzClr f t s
  | .kzStb f t sp addr => Sys2Proof.Machine.execKzStb f t sp addr s
  | .kzSb f t sp addr => Sys2Proof.Machine.execKzSb f t sp addr s
  | .kzRb f t sp addr => Sys2Proof.Machine.execKzRb f t sp addr s
  | .kzEdr f t sp addr => Sys2Proof.Machine.execKzEdr f t sp addr s
  | .kzEdf f t sp addr => Sys2Proof.Machine.execKzEdf f t sp addr s
  | .kzQt f t sp addr => Sys2Proof.Machine.execKzQt f t sp addr s
  | .kzLd f t sp addr k => Sys2Proof.Machine.execKzLd f t sp addr k s
  | .kzSt f t sp addr => Sys2Proof.Machine.execKzSt f t sp addr s
  | .kzLds f t sp addr => Sys2Proof.Machine.execKzLds f t sp addr s
  | .kzClrs f t => Sys2Proof.Machine.execKzClrs f t s
  | .kzAdd f t sp addr k => Sys2Proof.Machine.execKzAdd f t sp addr k s
  | .kzSub f t sp addr k => Sys2Proof.Machine.execKzSub f t sp addr k s
  | .kzMul f t sp addr k => Sys2Proof.Machine.execKzMul f t sp addr k s
  | .kzDiv f t sp addr k => Sys2Proof.Machine.execKzDiv f t sp addr k s
  | .kzMod f t sp addr k => Sys2Proof.Machine.execKzMod f t sp addr k s
  | .kzAddu f t sp addr k => Sys2Proof.Machine.execKzAddu f t sp addr k s
  | .kzSubu f t sp addr k => Sys2Proof.Machine.execKzSubu f t sp addr k s
  | .kzAddw f t sp addr k => Sys2Proof.Machine.execKzAddw f t sp addr k s
  | .kzSubw f t sp addr k => Sys2Proof.Machine.execKzSubw f t sp addr k s
  | .kzMin f t sp addr k => Sys2Proof.Machine.execKzMin f t sp addr k s
  | .kzMax f t sp addr k => Sys2Proof.Machine.execKzMax f t sp addr k s
  | .kzNeg f t => Sys2Proof.Machine.execKzNeg f t s
  | .kzAbs f t => Sys2Proof.Machine.execKzAbs f t s
  | .kzMuldiv f t sp addr k => Sys2Proof.Machine.execKzMuldiv f t sp addr k s
  | .kzAnd f t sp addr k => Sys2Proof.Machine.execKzAnd f t sp addr k s
  | .kzOr f t sp addr k => Sys2Proof.Machine.execKzOr f t sp addr k s
  | .kzXor f t sp addr k => Sys2Proof.Machine.execKzXor f t sp addr k s
  | .kzInv f t => Sys2Proof.Machine.execKzInv f t s
  | .kzShl f t sp addr k => Sys2Proof.Machine.execKzShl f t sp addr k s
  | .kzShr f t sp addr k => Sys2Proof.Machine.execKzShr f t sp addr k s
  | .kzSar f t sp addr k => Sys2Proof.Machine.execKzSar f t sp addr k s
  | .kzCeq f t sp addr k => Sys2Proof.Machine.execKzCeq f t sp addr k s
  | .kzCne f t sp addr k => Sys2Proof.Machine.execKzCne f t sp addr k s
  | .kzClt f t sp addr k => Sys2Proof.Machine.execKzClt f t sp addr k s
  | .kzCle f t sp addr k => Sys2Proof.Machine.execKzCle f t sp addr k s
  | .kzCgt f t sp addr k => Sys2Proof.Machine.execKzCgt f t sp addr k s
  | .kzCge f t sp addr k => Sys2Proof.Machine.execKzCge f t sp addr k s
  | .kzCltu f t sp addr k => Sys2Proof.Machine.execKzCltu f t sp addr k s
  | .kzCleu f t sp addr k => Sys2Proof.Machine.execKzCleu f t sp addr k s
  | .kzCgtu f t sp addr k => Sys2Proof.Machine.execKzCgtu f t sp addr k s
  | .kzCgeu f t sp addr k => Sys2Proof.Machine.execKzCgeu f t sp addr k s
  | .kzTon f t addr => Sys2Proof.Machine.execKzTon f t addr s
  | .kzTof f t addr => Sys2Proof.Machine.execKzTof f t addr s
  | .kzTp f t addr => Sys2Proof.Machine.execKzTp f t addr s
  | .kzCtu f t addr => Sys2Proof.Machine.execKzCtu f t addr s
  | .kzCtd f t addr => Sys2Proof.Machine.execKzCtd f t addr s
  | .kzJmp f t addr => Sys2Proof.Machine.execKzJmp f t addr s
  | .kzJt f t addr => Sys2Proof.Machine.execKzJt f t addr s
  | .kzJf f t addr => Sys2Proof.Machine.execKzJf f t addr s
  | .kzJz f t addr => Sys2Proof.Machine.execKzJz f t addr s
  | .kzJnz f t addr => Sys2Proof.Machine.execKzJnz f t addr s
  | .kzCall f t addr => Sys2Proof.Machine.execKzCall f t addr s
  | .kzCallt f t addr => Sys2Proof.Machine.execKzCallt f t addr s
  | .kzRet f t => Sys2Proof.Machine.execKzRet f t s
  | .kzRett f t => Sys2Proof.Machine.execKzRett f t s
  | .kzTrap f t addr => Sys2Proof.Machine.execKzTrap f t addr s
  | .scrubStep m found => Sys2Proof.Machine.execScrubStep m found s
  | .bankEvacuate m lb => Sys2Proof.Machine.execBankEvacuate m lb s
  | .evacuationDone m ue => Sys2Proof.Machine.execEvacuationDone m ue s
  | .bankTest m lb force => Sys2Proof.Machine.execBankTest m lb force s
  | .bankTestDone m pass => Sys2Proof.Machine.execBankTestDone m pass s
  | .ecctestArm m pb w mask => Sys2Proof.Machine.execEcctestArm m pb w mask s
  | .latchAcquire m n master => Sys2Proof.Machine.execLatchAcquire m n master s
  | .latchRelease m n master v => Sys2Proof.Machine.execLatchRelease m n master v s
  | .stairBulkDone ue => Sys2Proof.Machine.execStairBulkDone ue s
  | .stairFreezeDone us => Sys2Proof.Machine.execStairFreezeDone us s
  | .plannedSwitchover role after => Sys2Proof.Machine.execPlannedSwitchover role after s
  | .logicBistRequest role target force => Sys2Proof.Machine.execLogicBistRequest role target force s
  | .quarantineSet role f restore => Sys2Proof.Machine.execQuarantineSet role f restore s
  | .quarantineRelease role f => Sys2Proof.Machine.execQuarantineRelease role f s
  | .repairRetry f => Sys2Proof.Machine.execRepairRetry f s
  | .failsafeRestart => Sys2Proof.Machine.execFailsafeRestart s
  | .newelFault => Sys2Proof.Machine.execNewelFault s
  | .newelResume => Sys2Proof.Machine.execNewelResume s
  | .galleryKeepaliveTimeout => Sys2Proof.Machine.execGalleryKeepaliveTimeout s
  | .taskEnable n v => Sys2Proof.Machine.execTaskEnable n v s
  | .scheduleEnable n v => Sys2Proof.Machine.execScheduleEnable n v s
  | .retainFull => Sys2Proof.Machine.execRetainFull s
  | .registerWrite role key v => Sys2Proof.Machine.execRegisterWrite role key v s
  | .lineCycle n => Sys2Proof.Machine.execLineCycle n s
  | .rioAttemptTimeout id => Sys2Proof.Machine.execRioAttemptTimeout id s
  | .ident n parity bs => Sys2Proof.Machine.execIdent n parity bs s
  | .paramAck n parity bs => Sys2Proof.Machine.execParamAck n parity bs s
  | .rioDataReply n parity bs => Sys2Proof.Machine.execRioDataReply n parity bs s
  | .released n parity bs => Sys2Proof.Machine.execReleased n parity bs s
  | .stationMissing id => Sys2Proof.Machine.execStationMissing id s
  | .rioLineEnable n => Sys2Proof.Machine.execRioLineEnable n s
  | .rioLineDisable n => Sys2Proof.Machine.execRioLineDisable n s
  | .rioLineForcedDisable n => Sys2Proof.Machine.execRioLineForcedDisable n s
  | .rioStationEnable id => Sys2Proof.Machine.execRioStationEnable id s
  | .rioStationDisable id => Sys2Proof.Machine.execRioStationDisable id s
  | .rioStationForcedDisable id => Sys2Proof.Machine.execRioStationForcedDisable id s
  | .daliFrameEnd b => Sys2Proof.Machine.execDaliFrameEnd b s
  | .daliPoll b => Sys2Proof.Machine.execDaliPoll b s
  | .daliBackwardFrame b result value => Sys2Proof.Machine.execDaliBackwardFrame b result value s
  | .daliEventMessage b address value => Sys2Proof.Machine.execDaliEventMessage b address value s
  | .daliSystemFailure b => Sys2Proof.Machine.execDaliSystemFailure b s
  | .daliCollisionTimeout b coll => Sys2Proof.Machine.execDaliCollisionTimeout b coll s
  | .daliBusReturn b => Sys2Proof.Machine.execDaliBusReturn b s
  | .daliRawGo b fr => Sys2Proof.Machine.execDaliRawGo b fr s
  | .daliBusEnable b => Sys2Proof.Machine.execDaliBusEnable b s
  | .daliBusDisable b => Sys2Proof.Machine.execDaliBusDisable b s
  | .daliBusForcedDisable b => Sys2Proof.Machine.execDaliBusForcedDisable b s
  | .jmlHello p bs => Sys2Proof.Machine.execJmlHello p bs s
  | .jmlKeepaliveSend p => Sys2Proof.Machine.execJmlKeepaliveSend p s
  | .jmlKeepalive p bs => Sys2Proof.Machine.execJmlKeepalive p bs s
  | .jmlPoints p bs => Sys2Proof.Machine.execJmlPoints p bs s
  | .reclaim p bs => Sys2Proof.Machine.execReclaim p bs s
  | .release p bs => Sys2Proof.Machine.execRelease p bs s
  | .jmlAckTimeout p => Sys2Proof.Machine.execJmlAckTimeout p s
  | .jmlLinkLoss p => Sys2Proof.Machine.execJmlLinkLoss p s
  | .jmlLinkEnable p => Sys2Proof.Machine.execJmlLinkEnable p s
  | .jmlLinkDisable p => Sys2Proof.Machine.execJmlLinkDisable p s
  | .enfiladeTick f dur => Sys2Proof.Machine.execEnfiladeTick f dur s
  | .enfEnable => Sys2Proof.Machine.execEnfEnable s
  | .enfDisable => Sys2Proof.Machine.execEnfDisable s
  | .enfForcedDisable => Sys2Proof.Machine.execEnfForcedDisable s
  | .turnReset => Sys2Proof.Machine.execTurnReset s
  | .leanHoldExpiry n => Sys2Proof.Machine.execLeanHoldExpiry n s
  | .holdRegisterUpdate bad => Sys2Proof.Machine.execHoldRegisterUpdate bad s
  | .fadeTick => Sys2Proof.Machine.execFadeTick s
  | .pwmPeriodStart g => Sys2Proof.Machine.execPwmPeriodStart g s
  | .rowSlotStart m => Sys2Proof.Machine.execRowSlotStart m s
  | .channelEnable n => Sys2Proof.Machine.execChannelEnable n s
  | .channelDisable n => Sys2Proof.Machine.execChannelDisable n s
  | .channelForcedDisable n cut => Sys2Proof.Machine.execChannelForcedDisable n cut s
  | .matrixEnable m => Sys2Proof.Machine.execMatrixEnable m s
  | .matrixDisable m => Sys2Proof.Machine.execMatrixDisable m s
  | .matrixForcedDisable m cut => Sys2Proof.Machine.execMatrixForcedDisable m cut s
  | .bankSupplyChange g ok highv cut => Sys2Proof.Machine.execBankSupplyChange g ok highv cut s
  | .adcSample n conv => Sys2Proof.Machine.execAdcSample n conv s
  | .shortComparatorTrip n cut => Sys2Proof.Machine.execShortComparatorTrip n cut s
  | .shortRetry n => Sys2Proof.Machine.execShortRetry n s
  | .diagClear n => Sys2Proof.Machine.execDiagClear n s
  | .cellParityError n cut => Sys2Proof.Machine.execCellParityError n cut s
  | .channelTest n force => Sys2Proof.Machine.execChannelTest n force s
  | .channelTestDone n pass => Sys2Proof.Machine.execChannelTestDone n pass s
  | .rotationTest spareOk => Sys2Proof.Machine.execRotationTest spareOk s
  | .adcReferenceCheck a ok => Sys2Proof.Machine.execAdcReferenceCheck a ok s
  | .meterRefresh m phok rev seqWrong vals => Sys2Proof.Machine.execMeterRefresh m phok rev seqWrong vals s
  | .gallerySampleEmit a => Sys2Proof.Machine.execGallerySampleEmit a s
  | .meteringFrameEmit m => Sys2Proof.Machine.execMeteringFrameEmit m s
  | .txRequestArrival now => Sys2Proof.Machine.execTxRequestArrival now s
  | .txStart n now => Sys2Proof.Machine.execTxStart n now s
  | .txEnd n now => Sys2Proof.Machine.execTxEnd n now s
  | .txLateStart n now => Sys2Proof.Machine.execTxLateStart n now s
  | .txDeadline n now => Sys2Proof.Machine.execTxDeadline n now s
  | .frameReception n rx => Sys2Proof.Machine.execFrameReception n rx s
  | .tallyBucket now => Sys2Proof.Machine.execTallyBucket now s
  | .chainEnable n => Sys2Proof.Machine.execChainEnable n s
  | .chainDisable n => Sys2Proof.Machine.execChainDisable n s
  | .chainForcedDisable n now => Sys2Proof.Machine.execChainForcedDisable n now s
  | .chainFault n cause now => Sys2Proof.Machine.execChainFault n cause now s
  | .chainRetry n pass => Sys2Proof.Machine.execChainRetry n pass s
  | .beaconInterval => Sys2Proof.Machine.execBeaconInterval s
  | .loggiaReport id outcome start air => Sys2Proof.Machine.execLoggiaReport id outcome start air s
  | .loggiaStatusRecord n flags sum budget => Sys2Proof.Machine.execLoggiaStatusRecord n flags sum budget s
  | .nodeData n a ctr mic ts data => Sys2Proof.Machine.execNodeData n a ctr mic ts data s
  | .nodeAck n a ctr mic ts acked us => Sys2Proof.Machine.execNodeAck n a ctr mic ts acked us s
  | .joinReq n eui ctr mic => Sys2Proof.Machine.execJoinReq n eui ctr mic s
  | .rejoinReq n eui ctr mic => Sys2Proof.Machine.execRejoinReq n eui ctr mic s
  | .nodeStatus n a ctr mic ts p => Sys2Proof.Machine.execNodeStatus n a ctr mic ts p s
  | .nodeLost a => Sys2Proof.Machine.execNodeLost a s
  | .sleepyDeadline a seq => Sys2Proof.Machine.execSleepyDeadline a seq s
  | .coordRx ts serial groups boundary mic => Sys2Proof.Machine.execCoordRx ts serial groups boundary mic s
  | .peerCoordMiss p => Sys2Proof.Machine.execPeerCoordMiss p s
  | .handbackBoundary => Sys2Proof.Machine.execHandbackBoundary s
  | .announceRx ident domain rank => Sys2Proof.Machine.execAnnounceRx ident domain rank s
  | .syncRx now ident m seq two ovr t1 => Sys2Proof.Machine.execSyncRx now ident m seq two ovr t1 s
  | .followUpRx ident seq t1 => Sys2Proof.Machine.execFollowUpRx ident seq t1 s
  | .delayReqSend now => Sys2Proof.Machine.execDelayReqSend now s
  | .delayRespRx ident t4 => Sys2Proof.Machine.execDelayRespRx ident t4 s
  | .syncTimeout => Sys2Proof.Machine.execSyncTimeout s
  | .ptpEnable => Sys2Proof.Machine.execPtpEnable s
  | .ptpDisable => Sys2Proof.Machine.execPtpDisable s
  | .trustExpiry => Sys2Proof.Machine.execTrustExpiry s
  | .cycleMark now => Sys2Proof.Machine.execCycleMark now s
  | .alarmArm n v => Sys2Proof.Machine.execAlarmArm n v s
  | .alarmFire now n => Sys2Proof.Machine.execAlarmFire now n s
  | .rtcWrite now => Sys2Proof.Machine.execRtcWrite now s
  | .rtcShadowCopy mgmt ticks => Sys2Proof.Machine.execRtcShadowCopy mgmt ticks s
  | .rtcShadowRelease mgmt => Sys2Proof.Machine.execRtcShadowRelease mgmt s
  | .rtcShadowTimeout mgmt => Sys2Proof.Machine.execRtcShadowTimeout mgmt s
  | .rawReadLatch now => Sys2Proof.Machine.execRawReadLatch now s
  | .timeReadLatch now => Sys2Proof.Machine.execTimeReadLatch now s
  | .opsecReadLatch now => Sys2Proof.Machine.execOpsecReadLatch now s
  | .backupDomainLoss => Sys2Proof.Machine.execBackupDomainLoss s
  | .backupSupplySwitch onBat mv => Sys2Proof.Machine.execBackupSupplySwitch onBat mv s
  | .oscillatorStop => Sys2Proof.Machine.execOscillatorStop s
  | .opsecCheckpoint now => Sys2Proof.Machine.execOpsecCheckpoint now s
  | .nbrCheckpoint => Sys2Proof.Machine.execNbrCheckpoint s
  | .txctrCheckpoint => Sys2Proof.Machine.execTxctrCheckpoint s
  | .turnCheckpoint => Sys2Proof.Machine.execTurnCheckpoint s
  | .hostRead now addr len => Sys2Proof.Machine.execHostRead now addr len s
  | .hostWrite addr bytes => Sys2Proof.Machine.execHostWrite addr bytes s
  | .hostStat => Sys2Proof.Machine.execHostStat s
  | .hostUnknownCommand => Sys2Proof.Machine.execHostUnknownCommand s
  | .hpsessBind v => Sys2Proof.Machine.execHpsessBind v s
  | .alcoveTagWrite a tag => Sys2Proof.Machine.execAlcoveTagWrite a tag s
  | .alcoveEmpty a => Sys2Proof.Machine.execAlcoveEmpty a s
  | .alcoveTimeout a => Sys2Proof.Machine.execAlcoveTimeout a s
  | .alcoveTimeoutClear a => Sys2Proof.Machine.execAlcoveTimeoutClear a s
  | .landingDataWrite n bytes => Sys2Proof.Machine.execLandingDataWrite n bytes s
  | .landingEopWrite n bytes => Sys2Proof.Machine.execLandingEopWrite n bytes s
  | .landingAbort n => Sys2Proof.Machine.execLandingAbort n s
  | .landingDrop n => Sys2Proof.Machine.execLandingDrop n s
  | .landingRead n => Sys2Proof.Machine.execLandingRead n s
  | .eventVectorRead => Sys2Proof.Machine.execEventVectorRead s
  | .eventPendClear w v => Sys2Proof.Machine.execEventPendClear w v s
  | .eventRaise ev => Sys2Proof.Machine.execEventRaise ev s
  | .proxyRead v => Sys2Proof.Machine.execProxyRead v s
  | .proxyWrite v => Sys2Proof.Machine.execProxyWrite v s
  | .hello udp channel tag body => Sys2Proof.Machine.execHello udp channel tag body s
  | .finish udp channel tag session sigOk => Sys2Proof.Machine.execFinish udp channel tag session sigOk s
  | .handshakeTimeout session => Sys2Proof.Machine.execHandshakeTimeout session s
  | .lockoutExpiry entry => Sys2Proof.Machine.execLockoutExpiry entry s
  | .fmpDataRecord udp channel session seq ok msg tag => Sys2Proof.Machine.execFmpDataRecord udp channel session seq ok msg tag s
  | .sessionIdleTimeout session => Sys2Proof.Machine.execSessionIdleTimeout session s
  | .fmpStatus session id => Sys2Proof.Machine.execFmpStatus session id s
  | .keepalive session id => Sys2Proof.Machine.execKeepalive session id s
  | .close session id => Sys2Proof.Machine.execClose session id s
  | .fmpPointRead session id => Sys2Proof.Machine.execFmpPointRead session id s
  | .fmpPointWrite session id => Sys2Proof.Machine.execFmpPointWrite session id s
  | .fmpForceSet session id => Sys2Proof.Machine.execFmpForceSet session id s
  | .fmpRegRead session id => Sys2Proof.Machine.execFmpRegRead session id s
  | .fmpRegWrite session id => Sys2Proof.Machine.execFmpRegWrite session id s
  | .lregRead session id => Sys2Proof.Machine.execLregRead session id s
  | .timeStep now session id => Sys2Proof.Machine.execTimeStep now session id s
  | .timeSet now session id => Sys2Proof.Machine.execTimeSet now session id s
  | .fmpMeshDown session id => Sys2Proof.Machine.execFmpMeshDown session id s
  | .attest session id => Sys2Proof.Machine.execAttest session id s
  | .keyInfo session id => Sys2Proof.Machine.execKeyInfo session id s
  | .keyPrepare session id => Sys2Proof.Machine.execKeyPrepare session id s
  | .keyCommit session id => Sys2Proof.Machine.execKeyCommit session id s
  | .keyAbort session id => Sys2Proof.Machine.execKeyAbort session id s
  | .keyInvalidate session id => Sys2Proof.Machine.execKeyInvalidate session id s
  | .keyExport session id => Sys2Proof.Machine.execKeyExport session id s
  | .streamBlock ctx slot use len fin ue => Sys2Proof.Machine.execStreamBlock ctx slot use len fin ue s
  | .contextIdleTimeout ctx => Sys2Proof.Machine.execContextIdleTimeout ctx s
  | .trngHealthFail test => Sys2Proof.Machine.execTrngHealthFail test s
  | .drbgReseed => Sys2Proof.Machine.execDrbgReseed s
  | .arcadeRead session id => Sys2Proof.Machine.execArcadeRead session id s
  | .arcadeClearNonce session id => Sys2Proof.Machine.execArcadeClearNonce session id s
  | .arcadeClear session id sigOk => Sys2Proof.Machine.execArcadeClear session id sigOk s
  | .restart session id => Sys2Proof.Machine.execRestart session id s
  | .updBegin session id vendorOk operatorOk unwraps => Sys2Proof.Machine.execUpdBegin session id vendorOk operatorOk unwraps s
  | .updBlock session id readOk => Sys2Proof.Machine.execUpdBlock session id readOk s
  | .updStatus session id => Sys2Proof.Machine.execUpdStatus session id s
  | .updVerify session id tagOk plain => Sys2Proof.Machine.execUpdVerify session id tagOk plain s
  | .updActivate session id => Sys2Proof.Machine.execUpdActivate session id s
  | .updConfirm session id => Sys2Proof.Machine.execUpdConfirm session id s
  | .updRevert session id => Sys2Proof.Machine.execUpdRevert session id s
  | .updAbort session id => Sys2Proof.Machine.execUpdAbort session id s
  | .updDistribute session id => Sys2Proof.Machine.execUpdDistribute session id s
  | .autoConfirm => Sys2Proof.Machine.execAutoConfirm s
  | .standbyWaitTimeout => Sys2Proof.Machine.execStandbyWaitTimeout s
  | .campaignCorridorTimeout => Sys2Proof.Machine.execCampaignCorridorTimeout s
  | .flashScrub ok => Sys2Proof.Machine.execFlashScrub ok s
  | .journalArchive => Sys2Proof.Machine.execJournalArchive s
  | .arcadeRecordForm => Sys2Proof.Machine.execArcadeRecordForm s
  | .arcadeFlushTimer => Sys2Proof.Machine.execArcadeFlushTimer s
  | .arcadeFlushDone => Sys2Proof.Machine.execArcadeFlushDone s
  | .ethLinkChange port up => Sys2Proof.Machine.execEthLinkChange port up s
  | .gatewayProbe port answered => Sys2Proof.Machine.execGatewayProbe port answered s
  | .ethRevert => Sys2Proof.Machine.execEthRevert s
  | .ethFrameRx now port kind vid family src addressed fragment ue => Sys2Proof.Machine.execEthFrameRx now port kind vid family src addressed fragment ue s
  | .flightSupplyOutOfRange f => Sys2Proof.Machine.execFlightSupplyOutOfRange f s
  | .corridorCrcError toHost ue => Sys2Proof.Machine.execCorridorCrcError toHost ue s
  | .corridorReply seq answers status payload => Sys2Proof.Machine.execCorridorReply seq answers status payload s
  | .stationFirmwareReply n parity bs => Sys2Proof.Machine.execStationFirmwareReply n parity bs s
  | .microcodeReloadDone loggia => Sys2Proof.Machine.execMicrocodeReloadDone loggia s
  | .trngStartupDone => Sys2Proof.Machine.execTrngStartupDone s
  | .powerWarningFlushDone now => Sys2Proof.Machine.execPowerWarningFlushDone now s
  | .activeLinkDownTimeout => Sys2Proof.Machine.execActiveLinkDownTimeout s

end Sys2Proof.Machine
end

