-- ==== Sys2Proof/Machine/Step.lean ====
section
/-! DEFINITION. One step of the block: the command at the front of the queue acts on the rest of the state; with nothing queued the
time base counts. -/

namespace Sys2Proof.Machine

/-- The time base counts once (15 R393); nothing else happens while no command waits. [log 1 DESIGN CHOICE] -/
def State.idles (s : State) : State := { s with dev := { s.dev with time := { s.dev.time with raw := s.dev.time.raw + 1 } } }

/-- One step. [log 1 DESIGN CHOICE; 3 DESIGN CHOICE; 122 DESIGN CHOICE; 123 DESIGN CHOICE] -/
def step (s : State) : Host.Outcome State Fault Refusal :=
  match s.pending with
  | [] => .next s.idles
  | c :: rest => exec c { s with pending := rest }

/-- The state with the command that a word spells put at the front of its queue; the table spells none by bits. [log 3 DESIGN CHOICE] -/
def State.withFetchWord (s : State) (nbits w : Nat) : State :=
  match decodeTableWord nbits w with
  | some c => { s with pending := c :: s.pending }
  | none => s

end Sys2Proof.Machine
end

