-- ==== Sys2Proof/Safety.lean ====
section
/-! DEFINITION. The vocabulary of the claims: what it means that a command answers, what it leaves as it was, and when a Tread executes
a KZL instruction. The block stops on no command, so a safe run is one whose every command answers a next state. -/

namespace Sys2Proof.Machine

/-! ## Answers -/

/-- A command answers a next state, the other waiting commands wait as before, and the module then has a property. -/
def Answers (c : Instr) (s : State) (P : Dev → Prop) : Prop :=
  ∃ t, exec c s = .next t ∧ t.pending = s.pending ∧ P t.dev

/-- A command answers a next state in which the module is exactly `d`. -/
def AnswersDev (c : Instr) (s : State) (d : Dev) : Prop := exec c s = .next { s with dev := d }

/-- A safe run: every one of so many steps answers a next state. -/
def SafeFor : Nat → State → Prop
  | 0, _ => True
  | n + 1, s => ∃ t, step s = .next t ∧ SafeFor n t

/-! ## Frames -/

/-- The parts of the module beside its registers. -/
inductive Part where
  | mod | cor | nw | fa | fb | gl | lg | time | host | fmp | eth | arc | und | upd | jnl | fmem
  deriving DecidableEq, Repr

/-- The part that a flight is. -/
def Flt.part : Flt → Part
  | .a => .fa
  | .b => .fb

/-- The part that keeps a memory's integrity state. -/
def Mem.part : Mem → Part
  | .fl f => f.part
  | .fy => .fmem

/-- A part is as it was. -/
def Part.same (p : Part) (d e : Dev) : Prop :=
  match p with
  | .mod => e.mod = d.mod
  | .cor => e.cor = d.cor
  | .nw => e.nw = d.nw
  | .fa => e.fa = d.fa
  | .fb => e.fb = d.fb
  | .gl => e.gl = d.gl
  | .lg => e.lg = d.lg
  | .time => e.time = d.time
  | .host => e.host = d.host
  | .fmp => e.fmp = d.fmp
  | .eth => e.eth = d.eth
  | .arc => e.arc = d.arc
  | .und => e.und = d.und
  | .upd => e.upd = d.upd
  | .jnl => e.jnl = d.jnl
  | .fmem => e.fmem = d.fmem

/-- Everything is as it was but the parts listed and the registers whose keys `keys` names. -/
def OnlyIn (parts : List Part) (keys : Nat → Bool) (d e : Dev) : Prop :=
  (∀ p, p ∉ parts → p.same d e) ∧ ∀ k, keys k = false → e.rd k = d.rd k

/-- No register. -/
def noKey (_ : Nat) : Bool := false

/-- The registers that an event of the Foyer may write: the pending sources, the landing's counts and the suppressed counts (16 R439,
19 R519, R527). -/
def eventKey (k : Nat) : Bool :=
  (decide (FY_EVPEND ≤ k) && decide (k < FY_EVPEND + 16)) || k == FY_ARCSTAT ||
    (decide (FY_ARCSUPP ≤ k) && decide (k < FY_ARCSUPP + 32))

/-- The registers listed, and those that an event of the Foyer may write. -/
def orEvent (l : List Nat) (k : Nat) : Bool := l.contains k || eventKey k

/-- The largest value of a field. -/
def Fld.top (x : Fld) : Nat := 2 ^ (x.hi + 1 - x.lo) - 1

/-- The registers of a region. -/
def regionKey (r k : Nat) : Bool := k / 2 ^ 24 == r

/-- The registers of some arrays, each by its first key and its number of words. -/
def keysIn (l : List (Nat × Nat)) (k : Nat) : Bool := l.any fun e => decide (e.1 ≤ k) && decide (k < e.1 + 4 * e.2)

/-- Host registers whose read or write does more than their access codes say: event vectors and pending bits, routes, latches, backup
RAM, alarms, alcoves, landings, the message ports, the session binding, and the evacuation, test and PTP control registers. -/
def actsOnAccess : Nat → Bool :=
  keysIn [(FY_EVVEC, 1), (FY_EVPEND, 4), (FY_EVROUTE, 4), (FY_LATCH, 32), (FY_BKRAM, 32), (FY_TALCMPLO, 16), (FY_ALCPTR, 128),
    (FY_LDDATA, 32), (FY_CRPADDR, 1024), (FY_HPSESS, 1), (FY_EVAC, 1), (FY_ECCTEST, 1), (FY_PTPCFG, 1)]

/-- An input frame enters the Newel's ingress at once (01 R30). -/
def Dev.fits (d : Dev) (fr : InFrame) : Prop := d.nw.buffered + fr.bytes ≤ ingressCap ∧ d.nw.source = []

/-- An input of the flights as the cycle's arrival: it enters the ingress buffer, or waits at its source while there is no room (01 R27, R30). -/
def Dev.arrived (d : Dev) (m : FlightIn) : Dev :=
  d.updNw fun n => if n.buffered + m.frame.bytes ≤ ingressCap ∧ n.source = [] then { n with ingress := n.ingress ++ [m.frame] }
    else { n with source := n.source ++ [m.frame] }

/-- A message to the flights at the Newel: accepted in order, it is the cycle's arrival; out of order it changes its direction alone (01 R27,
R40). -/
def Dev.messaged (d : Dev) (m : FlightIn) : Dev :=
  let p := d.cor.down.accept m.hdr.seq
  let e := d.updCor fun c => { c with down := p.1 }
  if p.2 then e.arrived m else e

/-! ## Events -/

/-- An event of the Foyer can take a landing entry at once (19 R518, R521). -/
def Dev.landingFree (d : Dev) : Prop := d.arc.landing.length < arcCap ∧ d.arc.warned = false

/-- The last landing entry is this event. -/
def Dev.landed (d e : Dev) (ev : Ev) : Prop := e.arc.landing = d.arc.landing ++ [⟨ev, false, false⟩]

/-- The field-to-host lane has taken this message in its class's place (01 R34, R37). -/
def Dev.sentUp (d e : Dev) (m : UpMsg) : Prop := e.cor.upQ = (d.putUp m).cor.upQ

/-- The field-to-host lane has taken this event (19 R517). -/
def Dev.sentEvent (d e : Dev) (ev : Ev) : Prop := d.sentUp e (evMsg ev)

/-- The host-to-field lane has taken this message in its class's place (01 R34, R37). -/
def Dev.sentDown (d e : Dev) (typ : Nat) (payload : List Byte) (suite role origin : Nat) (more : Bool) : Prop :=
  e.cor.downQ = (d.sendDown typ payload suite role origin more).cor.downQ

/-! ## FMP -/

/-- Registers that carry records of the Foyer: pending sources, alcoves and landings (16 R429, R433, R439). -/
def carrierKey : Nat → Bool := keysIn [(FY_EVPEND, 4), (FY_ALCPTR, 128), (FY_LDDATA, 32)]

/-- A session is open on a channel of R442 and its one request in progress has not been forwarded; the core domain is up (16 R425, R448). -/
def Dev.asked (d : Dev) (ses : Nat) (x : Session) (r : FmpReq) : Prop :=
  mget? d.fmp.sessions ses = some x ∧ x.busy = [r] ∧ r.sent = false ∧ d.host.coreDown = false ∧ x.channel < 32

/-- The request has its reply, which the session keeps, and is no longer in progress (16 R448). -/
def Dev.answered (e : Dev) (ses : Nat) (r : FmpReq) (status : Nat) (payload : List Byte) : Prop :=
  ∃ y, mget? e.fmp.sessions ses = some y ∧ y.busy = [] ∧ y.replies.head? = some ⟨r.id, r.op, status, payload⟩

/-- A request of a session crosses the Corridor: it is sent with the session's role and suite and stays in progress (16 R449, 01 R41). -/
def Dev.forwarded (d e : Dev) (ses typ : Nat) (x : Session) (r : FmpReq) : Prop :=
  (∃ y, mget? e.fmp.sessions ses = some y ∧ y.busy = [{ r with sent := true }]) ∧
    let m := d.sendReq { CrReq.zero with
      typ := typ, session := ses, reqId := r.id, suite := x.suite, role := x.role, origin := b2n x.udp, payload := r.payload }
    e.cor.reqs = m.cor.reqs ∧ e.cor.downQ = m.cor.downQ

/-! ## KZL -/

/-- A word that needs no correction and no halt: it is not checked, or no error of it is known (03 R66, R68, R70). -/
def Dev.wordClean (d : Dev) (m : Mem) (lb w : Nat) : Prop :=
  let p := d.home m (d.phys m lb) w
  (d.word m p.1 p.2).valid = false ∨ (d.word m p.1 p.2).err = .none

/-- The Foyer's memory has no error, and no test waits for a write to it (03 R66, R69, R81). -/
def Dev.foyerClean (d : Dev) : Prop := d.bit FY_ECCTEST_ARM = false ∧ ∀ lb w, d.wordClean .fy lb w

/-- The words that hold a Tread's instruction and its constant are clean. -/
def Dev.fetchClean (d : Dev) (f : Flt) (t op sp : Nat) : Prop :=
  ∀ p ∈ (d.cfgOf f).fetchPlaces (d.tread f t).pc.toNat (if kzHasConst op sp then 2 else 1), d.wordClean (.fl f) p.1 p.2

/-- PC has passed the instruction and its constant, and the instruction is counted (07 R184). -/
def Dev.kzPast (d : Dev) (f : Flt) (t op sp : Nat) : Dev :=
  d.updTread f t fun r => { r with pc := r.pc + (if kzHasConst op sp then 2 else 1), instrs := r.instrs + 1 }

/-- A Tread comes to an instruction: no freeze holds it, its run goes on with budget left, and its fetch meets no error (03 R70; 04
R111; 06 R166). -/
def Dev.kzRuns (d : Dev) (f : Flt) (t op sp : Nat) : Prop :=
  d.frozen f = false ∧ (d.tread f t).running = true ∧ (d.tread f t).halted = false ∧
    (d.tread f t).instrs < d.taskBudget f (d.tread f t).task ∧ d.fetchClean f t op sp

/-- A Tread executes an instruction: it comes to it, and R187 accepts the encoding and what it names (07 R187). -/
def Dev.kzCan (d : Dev) (f : Flt) (t op sp addr : Nat) : Prop :=
  d.kzRuns f t op sp ∧ kzLegal op sp addr = true ∧ d.kzTarget f t op addr = true

/-- The words a Tread's read of a logic word meets are clean. -/
def Dev.kzClean (d : Dev) (f : Flt) (key : Nat) : Prop :=
  ∀ p ∈ (d.cfgOf f).places key (List.range 4), d.wordClean (.fl f) p.1 p.2

end Sys2Proof.Machine
end

