-- ==== Sys2Proof/WellFormed.lean ====
section
/-! DEFINITION. Well-formed commands: every operand that the spec bounds lies in its range, and a KZL command has fields that R187
accepts. -/

namespace Sys2Proof

open Machine

/-- A Corridor header's fields lie in their ranges (01 R34). -/
def hdrOk (h : MsgHdr) : Bool := decide (h.seq < 65536 ∧ h.suite < 256 ∧ h.role < 256 ∧ h.origin < 256)

/-- A KZL command runs on one of 16 Treads, its encoding is accepted, and it carries a constant only where its word is followed by
one (06 R151, 07 R184 to R187). -/
def kzOk (t : Nat) (i : Instr) : Bool :=
  decide (t < 16) && match kzFields i with
    | some (op, sp, addr, k) => kzLegal op sp addr && (kzHasConst op sp || decide (k = 0))
    | none => false

/-- A number of points or entries, at least one, that fits a Corridor message. -/
def pointsOk (l : List Nat) : Bool := l.all fun n => decide (n < 65536)

/-- Whether a command is well-formed. -/
def WellFormed (i : Instr) : Bool :=
  match i with
  | .vhinValid => true
  | .vhinLost _ _ => true
  | .vfinValid => true
  | .vfinLost => true
  | .hostReset _ _ => true
  | .bootRomDone _ _ _ _ _ _ _ _ _ _ _ => true
  | .corridorUpTimeout => true
  | .fieldSelftestDone _ _ _ => true
  | .pwrwarnFall => true
  | .pwrwarnRise => true
  | .gradientCheck _ r1 r2 _ => decide (r1 < 8) && decide (r2 < 8)
  | .referenceFault => true
  | .crossingParityError _ region _ => decide (region < 8)
  | .newelCycle _ _ _ => true
  | .timeMapSynthesis => true
  | .inputArrival _ => true
  | .batchDelivered _ _ => true
  | .batchAck _ => true
  | .flightFaultReport _ code _ _ => decide (code < 256)
  | .corridorUnknownType _ typ seq _ => decide (typ < 256) && decide (seq < 65536)
  | .linkAck _ seq => decide (seq < 65536)
  | .corridorNak _ _ => true
  | .replyTimeout seq => decide (seq < 65536)
  | .heartbeatSend _ => true
  | .heartbeat _ seq _ => decide (seq < 65536)
  | .corridorLost _ => true
  | .statusSend _ => true
  | .statusToHost seq _ => decide (seq < 65536)
  | .statusToField seq _ => decide (seq < 65536)
  | .bootImageBlock seq comp _ _ => decide (seq < 65536) && decide (comp < 256)
  | .configBlock seq comp _ _ => decide (seq < 65536) && decide (comp < 256)
  | .measureReport seq _ => decide (seq < 65536)
  | .bootDone seq => decide (seq < 65536)
  | .pointRead h points => hdrOk h && pointsOk points
  | .subscribe h session _ => hdrOk h && decide (session < 256)
  | .unsubscribe h session points => hdrOk h && decide (session < 256) && pointsOk points
  | .clearSession h session => hdrOk h && decide (session < 256)
  | .clearAll h => hdrOk h
  | .pointWrite h _ => hdrOk h
  | .forceSet h _ => hdrOk h
  | .pointNotify seq session _ => decide (seq < 65536) && decide (session < 256)
  | .eventRecord seq ev _ _ => decide (seq < 65536) && ev.regionOk
  | .retainMirror seq _ => decide (seq < 65536)
  | .timeMap q _ => decide (q < 65536)
  | .regRead h region count offset => hdrOk h && decide (region < 256) && decide (count < 65) && decide (offset < 16777216)
  | .regWrite h region offset _ => hdrOk h && decide (region < 256) && decide (offset < 16777216)
  | .meshDownUnicast h dst _ _ _ => hdrOk h && decide (dst < 65536)
  | .meshDownMulticast h _ _ _ => hdrOk h
  | .meshDownFwblock h block _ => hdrOk h && decide (block < 4294967296)
  | .meshDownFwControl h _ => hdrOk h
  | .meshDownCommand h dst _ _ _ => hdrOk h && decide (dst < 65536)
  | .meshUp seq _ => decide (seq < 65536)
  | .updateStage h comp _ _ => hdrOk h && decide (comp < 256)
  | .activate h comp _ => hdrOk h && decide (comp < 256)
  | .onlineSwitch _ => true
  | .scan _ _ _ _ => true
  | .levelBarrier _ _ => true
  | .budgetExceeded _ t => decide (t < 16)
  | .kzNop _ t => kzOk t i
  | .kzLb _ t _ _ => kzOk t i
  | .kzLbn _ t _ _ => kzOk t i
  | .kzAb _ t _ _ => kzOk t i
  | .kzAbn _ t _ _ => kzOk t i
  | .kzOb _ t _ _ => kzOk t i
  | .kzObn _ t _ _ => kzOk t i
  | .kzXb _ t _ _ => kzOk t i
  | .kzXbn _ t _ _ => kzOk t i
  | .kzGa _ t => kzOk t i
  | .kzGan _ t => kzOk t i
  | .kzGo _ t => kzOk t i
  | .kzGon _ t => kzOk t i
  | .kzGx _ t => kzOk t i
  | .kzGxn _ t => kzOk t i
  | .kzGe _ t => kzOk t i
  | .kzNot _ t => kzOk t i
  | .kzSet _ t => kzOk t i
  | .kzClr _ t => kzOk t i
  | .kzStb _ t _ _ => kzOk t i
  | .kzSb _ t _ _ => kzOk t i
  | .kzRb _ t _ _ => kzOk t i
  | .kzEdr _ t _ _ => kzOk t i
  | .kzEdf _ t _ _ => kzOk t i
  | .kzQt _ t _ _ => kzOk t i
  | .kzLd _ t _ _ _ => kzOk t i
  | .kzSt _ t _ _ => kzOk t i
  | .kzLds _ t _ _ => kzOk t i
  | .kzClrs _ t => kzOk t i
  | .kzAdd _ t _ _ _ => kzOk t i
  | .kzSub _ t _ _ _ => kzOk t i
  | .kzMul _ t _ _ _ => kzOk t i
  | .kzDiv _ t _ _ _ => kzOk t i
  | .kzMod _ t _ _ _ => kzOk t i
  | .kzAddu _ t _ _ _ => kzOk t i
  | .kzSubu _ t _ _ _ => kzOk t i
  | .kzAddw _ t _ _ _ => kzOk t i
  | .kzSubw _ t _ _ _ => kzOk t i
  | .kzMin _ t _ _ _ => kzOk t i
  | .kzMax _ t _ _ _ => kzOk t i
  | .kzNeg _ t => kzOk t i
  | .kzAbs _ t => kzOk t i
  | .kzMuldiv _ t _ _ _ => kzOk t i
  | .kzAnd _ t _ _ _ => kzOk t i
  | .kzOr _ t _ _ _ => kzOk t i
  | .kzXor _ t _ _ _ => kzOk t i
  | .kzInv _ t => kzOk t i
  | .kzShl _ t _ _ _ => kzOk t i
  | .kzShr _ t _ _ _ => kzOk t i
  | .kzSar _ t _ _ _ => kzOk t i
  | .kzCeq _ t _ _ _ => kzOk t i
  | .kzCne _ t _ _ _ => kzOk t i
  | .kzClt _ t _ _ _ => kzOk t i
  | .kzCle _ t _ _ _ => kzOk t i
  | .kzCgt _ t _ _ _ => kzOk t i
  | .kzCge _ t _ _ _ => kzOk t i
  | .kzCltu _ t _ _ _ => kzOk t i
  | .kzCleu _ t _ _ _ => kzOk t i
  | .kzCgtu _ t _ _ _ => kzOk t i
  | .kzCgeu _ t _ _ _ => kzOk t i
  | .kzTon _ t _ => kzOk t i
  | .kzTof _ t _ => kzOk t i
  | .kzTp _ t _ => kzOk t i
  | .kzCtu _ t _ => kzOk t i
  | .kzCtd _ t _ => kzOk t i
  | .kzJmp _ t _ => kzOk t i
  | .kzJt _ t _ => kzOk t i
  | .kzJf _ t _ => kzOk t i
  | .kzJz _ t _ => kzOk t i
  | .kzJnz _ t _ => kzOk t i
  | .kzCall _ t _ => kzOk t i
  | .kzCallt _ t _ => kzOk t i
  | .kzRet _ t => kzOk t i
  | .kzRett _ t => kzOk t i
  | .kzTrap _ t _ => kzOk t i
  | .scrubStep _ _ => true
  | .bankEvacuate _ lb => decide (lb < 32)
  | .evacuationDone _ _ => true
  | .bankTest _ lb _ => decide (lb < 32)
  | .bankTestDone _ _ => true
  | .ecctestArm _ pb w mask => decide (pb < 64) && decide (w < 32768) && decide (mask < 256)
  | .latchAcquire _ n master => decide (n < 32) && decide (master < 33)
  | .latchRelease _ n master v => decide (n < 32) && decide (master < 33) && decide (v < 4294967296)
  | .stairBulkDone _ => true
  | .stairFreezeDone _ => true
  | .plannedSwitchover role after => decide (role < 256) && decide (after < 4)
  | .logicBistRequest role _ _ => decide (role < 256)
  | .quarantineSet role _ _ => decide (role < 256)
  | .quarantineRelease role _ => decide (role < 256)
  | .repairRetry _ => true
  | .failsafeRestart => true
  | .newelFault => true
  | .newelResume => true
  | .galleryKeepaliveTimeout => true
  | .taskEnable n _ => decide (n < 2)
  | .scheduleEnable n _ => decide (n < 8)
  | .retainFull => true
  | .registerWrite role _ _ => decide (role < 256)
  | .lineCycle n => decide (n < 16)
  | .rioAttemptTimeout id => decide (id < 512)
  | .ident n _ _ => decide (n < 16)
  | .paramAck n _ _ => decide (n < 16)
  | .rioDataReply n _ _ => decide (n < 16)
  | .released n _ _ => decide (n < 16)
  | .stationMissing id => decide (id < 512)
  | .rioLineEnable n => decide (n < 16)
  | .rioLineDisable n => decide (n < 16)
  | .rioLineForcedDisable n => decide (n < 16)
  | .rioStationEnable id => decide (id < 512)
  | .rioStationDisable id => decide (id < 512)
  | .rioStationForcedDisable id => decide (id < 512)
  | .daliFrameEnd b => decide (b < 4)
  | .daliPoll b => decide (b < 4)
  | .daliBackwardFrame b result value => decide (b < 4) && decide (result < 3) && decide (value < 256)
  | .daliEventMessage b _ _ => decide (b < 4)
  | .daliSystemFailure b => decide (b < 4)
  | .daliCollisionTimeout b _ => decide (b < 4)
  | .daliBusReturn b => decide (b < 4)
  | .daliRawGo b _ => decide (b < 4)
  | .daliBusEnable b => decide (b < 4)
  | .daliBusDisable b => decide (b < 4)
  | .daliBusForcedDisable b => decide (b < 4)
  | .jmlHello p _ => decide (p < 2)
  | .jmlKeepaliveSend p => decide (p < 2)
  | .jmlKeepalive p _ => decide (p < 2)
  | .jmlPoints p _ => decide (p < 2)
  | .reclaim p _ => decide (p < 2)
  | .release p _ => decide (p < 2)
  | .jmlAckTimeout p => decide (p < 2)
  | .jmlLinkLoss p => decide (p < 2)
  | .jmlLinkEnable p => decide (p < 2)
  | .jmlLinkDisable p => decide (p < 2)
  | .enfiladeTick _ _ => true
  | .enfEnable => true
  | .enfDisable => true
  | .enfForcedDisable => true
  | .turnReset => true
  | .leanHoldExpiry _ => true
  | .holdRegisterUpdate _ => true
  | .fadeTick => true
  | .pwmPeriodStart g => decide (g < 16)
  | .rowSlotStart m => decide (m < 4)
  | .channelEnable n => decide (n < 256)
  | .channelDisable n => decide (n < 256)
  | .channelForcedDisable n _ => decide (n < 256)
  | .matrixEnable m => decide (m < 4)
  | .matrixDisable m => decide (m < 4)
  | .matrixForcedDisable m _ => decide (m < 4)
  | .bankSupplyChange g _ _ _ => decide (g < 16)
  | .adcSample n _ => decide (n < 256)
  | .shortComparatorTrip n _ => decide (n < 256)
  | .shortRetry n => decide (n < 256)
  | .diagClear n => decide (n < 256)
  | .cellParityError n _ => decide (n < 256)
  | .channelTest n _ => decide (n < 256)
  | .channelTestDone n _ => decide (n < 256)
  | .rotationTest _ => true
  | .adcReferenceCheck a _ => decide (a < 32)
  | .meterRefresh m _ _ _ _ => decide (m < 2)
  | .gallerySampleEmit a => decide (a < 32)
  | .meteringFrameEmit m => decide (m < 2)
  | .txRequestArrival _ => true
  | .txStart n _ => decide (n < 8)
  | .txEnd n _ => decide (n < 8)
  | .txLateStart n _ => decide (n < 8)
  | .txDeadline n _ => decide (n < 8)
  | .frameReception n _ => decide (n < 8)
  | .tallyBucket _ => true
  | .chainEnable n => decide (n < 8)
  | .chainDisable n => decide (n < 8)
  | .chainForcedDisable n _ => decide (n < 8)
  | .chainFault n _ _ => decide (n < 8)
  | .chainRetry n _ => decide (n < 8)
  | .beaconInterval => true
  | .loggiaReport id _ _ _ => decide (id < 65536)
  | .loggiaStatusRecord n _ _ _ => decide (n < 8)
  | .nodeData n a ctr _ _ _ => decide (n < 8) && decide (a < 65536) && decide (ctr < 4294967296)
  | .nodeAck n a ctr _ _ acked _ => decide (n < 8) && decide (a < 65536) && decide (ctr < 4294967296) && decide (acked < 4294967296)
  | .joinReq n eui ctr _ => decide (n < 8) && decide (eui < 18446744073709551616) && decide (ctr < 4294967296)
  | .rejoinReq n eui ctr _ => decide (n < 8) && decide (eui < 18446744073709551616) && decide (ctr < 4294967296)
  | .nodeStatus n a ctr _ _ _ => decide (n < 8) && decide (a < 65536) && decide (ctr < 4294967296)
  | .nodeLost a => decide (a < 65536)
  | .sleepyDeadline a seq => decide (a < 65536) && decide (seq < 65536)
  | .coordRx _ _ _ _ _ => true
  | .peerCoordMiss _ => true
  | .handbackBoundary => true
  | .announceRx _ _ _ => true
  | .syncRx _ _ m seq _ _ _ => decide (m < 2) && decide (seq < 65536)
  | .followUpRx _ seq _ => decide (seq < 65536)
  | .delayReqSend _ => true
  | .delayRespRx _ _ => true
  | .syncTimeout => true
  | .ptpEnable => true
  | .ptpDisable => true
  | .trustExpiry => true
  | .cycleMark _ => true
  | .alarmArm n _ => decide (n < 4)
  | .alarmFire _ n => decide (n < 4)
  | .rtcWrite _ => true
  | .rtcShadowCopy _ _ => true
  | .rtcShadowRelease _ => true
  | .rtcShadowTimeout _ => true
  | .rawReadLatch _ => true
  | .timeReadLatch _ => true
  | .opsecReadLatch _ => true
  | .backupDomainLoss => true
  | .backupSupplySwitch _ mv => decide (mv < 65536)
  | .oscillatorStop => true
  | .opsecCheckpoint _ => true
  | .nbrCheckpoint => true
  | .txctrCheckpoint => true
  | .turnCheckpoint => true
  | .hostRead _ addr _ => decide (addr < 16777216)
  | .hostWrite addr _ => decide (addr < 16777216)
  | .hostStat => true
  | .hostUnknownCommand => true
  | .hpsessBind _ => true
  | .alcoveTagWrite a tag => decide (a < 32) && decide (tag < 65536)
  | .alcoveEmpty a => decide (a < 32)
  | .alcoveTimeout a => decide (a < 32)
  | .alcoveTimeoutClear a => decide (a < 32)
  | .landingDataWrite n _ => decide (n < 8)
  | .landingEopWrite n _ => decide (n < 8)
  | .landingAbort n => decide (n < 8)
  | .landingDrop n => decide (n < 8)
  | .landingRead n => decide (n < 8)
  | .eventVectorRead => true
  | .eventPendClear w _ => decide (w < 4)
  | .eventRaise ev => ev.regionOk
  | .proxyRead _ => true
  | .proxyWrite _ => true
  | .hello _ channel tag _ => decide (channel < 32) && decide (tag < 65536)
  | .finish _ channel tag session _ => decide (channel < 32) && decide (tag < 65536) && decide (session < 256)
  | .handshakeTimeout session => decide (session < 256)
  | .lockoutExpiry entry => decide (entry < 65536)
  | .fmpDataRecord _ channel session seq _ _ tag => decide (channel < 32) && decide (session < 256) && decide (seq < 18446744073709551616) && decide (tag < 65536)
  | .sessionIdleTimeout session => decide (session < 256)
  | .fmpStatus session id => decide (session < 256) && decide (id < 65536)
  | .keepalive session id => decide (session < 256) && decide (id < 65536)
  | .close session id => decide (session < 256) && decide (id < 65536)
  | .fmpPointRead session id => decide (session < 256) && decide (id < 65536)
  | .fmpPointWrite session id => decide (session < 256) && decide (id < 65536)
  | .fmpForceSet session id => decide (session < 256) && decide (id < 65536)
  | .fmpRegRead session id => decide (session < 256) && decide (id < 65536)
  | .fmpRegWrite session id => decide (session < 256) && decide (id < 65536)
  | .lregRead session id => decide (session < 256) && decide (id < 65536)
  | .timeStep _ session id => decide (session < 256) && decide (id < 65536)
  | .timeSet _ session id => decide (session < 256) && decide (id < 65536)
  | .fmpMeshDown session id => decide (session < 256) && decide (id < 65536)
  | .attest session id => decide (session < 256) && decide (id < 65536)
  | .keyInfo session id => decide (session < 256) && decide (id < 65536)
  | .keyPrepare session id => decide (session < 256) && decide (id < 65536)
  | .keyCommit session id => decide (session < 256) && decide (id < 65536)
  | .keyAbort session id => decide (session < 256) && decide (id < 65536)
  | .keyInvalidate session id => decide (session < 256) && decide (id < 65536)
  | .keyExport session id => decide (session < 256) && decide (id < 65536)
  | .streamBlock ctx slot _ _ _ _ => decide (ctx < 32) && decide (slot < 64)
  | .contextIdleTimeout ctx => decide (ctx < 32)
  | .trngHealthFail _ => true
  | .drbgReseed => true
  | .arcadeRead session id => decide (session < 256) && decide (id < 65536)
  | .arcadeClearNonce session id => decide (session < 256) && decide (id < 65536)
  | .arcadeClear session id _ => decide (session < 256) && decide (id < 65536)
  | .restart session id => decide (session < 256) && decide (id < 65536)
  | .updBegin session id _ _ _ => decide (session < 256) && decide (id < 65536)
  | .updBlock session id _ => decide (session < 256) && decide (id < 65536)
  | .updStatus session id => decide (session < 256) && decide (id < 65536)
  | .updVerify session id _ _ => decide (session < 256) && decide (id < 65536)
  | .updActivate session id => decide (session < 256) && decide (id < 65536)
  | .updConfirm session id => decide (session < 256) && decide (id < 65536)
  | .updRevert session id => decide (session < 256) && decide (id < 65536)
  | .updAbort session id => decide (session < 256) && decide (id < 65536)
  | .updDistribute session id => decide (session < 256) && decide (id < 65536)
  | .autoConfirm => true
  | .standbyWaitTimeout => true
  | .campaignCorridorTimeout => true
  | .flashScrub _ => true
  | .journalArchive => true
  | .arcadeRecordForm => true
  | .arcadeFlushTimer => true
  | .arcadeFlushDone => true
  | .ethLinkChange port _ => decide (port < 2)
  | .gatewayProbe port _ => decide (port < 2)
  | .ethRevert => true
  | .ethFrameRx _ port _ vid _ _ _ _ _ => decide (port < 2) && decide (vid < 4096)
  | .flightSupplyOutOfRange _ => true
  | .corridorCrcError _ _ => true
  | .corridorReply seq answers status _ => decide (seq < 65536) && decide (answers < 65536) && decide (status < 256)
  | .stationFirmwareReply n _ _ => decide (n < 16)
  | .microcodeReloadDone _ => true
  | .trngStartupDone => true
  | .powerWarningFlushDone _ => true
  | .activeLinkDownTimeout => true

end Sys2Proof
end

