-- ==== Sys2Proof/Certificates/Slice0/Obligations.lean ====
section
/-! DEFINITION. The statements for the provers. -/

open Sys2Proof Sys2Proof.Machine

/-! ## Kazcon logic instructions (chapter 07) -/

/-- The word operand of each space, where the word holds no error and the Tread has not buffered a write to it: K the constant, I, Q
and P the point's value within the task's reach and 0 outside it, M 32 markers, T the ET, C the CV, L a local word and A2 the second
accumulator. A forced point reads its forced value by I, Q and P, whatever the Tread has buffered. A read within reach of a word without error
leaves the module as it was. -/
def Obligations.KzlWordOperandBySpace : Prop :=
  ∀ (d : Dev) (f : Flt) (t addr : Nat) (k : W32),
    let x := d.fl f
    let n := addr / 32
    let unbuffered (key : Nat) : Prop := ∀ e ∈ x.wrbuf, ¬(e.tread = t ∧ e.addr = key)
    d.kzWordVal f t 0 addr k = (d, k, true) ∧
    d.kzWordVal f t 8 addr k = (d, (d.tread f t).acc2, true) ∧
    (d.kzClean f (kM n) → unbuffered (kM n) → d.kzWordVal f t 3 addr k = (d, mget 0 x.lmem (kM n), true)) ∧
    (d.kzClean f (kT addr 0) → unbuffered (kT addr 0) → d.kzWordVal f t 5 addr k = (d, mget 0 x.lmem (kT addr 0), true)) ∧
    (d.kzClean f (kC addr 0) → unbuffered (kC addr 0) → d.kzWordVal f t 6 addr k = (d, mget 0 x.lmem (kC addr 0), true)) ∧
    (let key := kL (d.tread f t).task n
     d.kzClean f key → unbuffered key → d.kzWordVal f t 7 addr k = (d, mget 0 x.lmem key, true)) ∧
    (d.reach f (d.tread f t).task n false = true → x.forceOf n = none →
      (d.kzClean f (kP n) → d.kzWordVal f t 1 addr k = (d, (mget (x.pt n) x.iOver n).value, true)) ∧
      (unbuffered (kQ n) →
        d.kzWordVal f t 2 addr k = (d, mget (mget (x.pt n) x.iOver n).value x.qimg n, true)) ∧
      (d.kzClean f (kP n) → unbuffered (kP n) → d.kzWordVal f t 4 addr k = (d, (x.pt n).value, true))) ∧
    (d.reach f (d.tread f t).task n false = true → d.kzClean f (kP n) → ∀ i fo, x.forceOf n = some (i, fo) → ∀ sp ∈ [1, 2, 4],
      d.kzWordVal f t sp addr k = (d, fo.value, true)) ∧
    (d.reach f (d.tread f t).task n false = false → ∀ sp ∈ [1, 2, 4],
      d.kzWordVal f t sp addr k = (d.violate f t sp n, 0, true))

/-- LB, LBN, AB, ABN, OB, OBN, XB and XBN answer a next state in which RLO is the operand bit, negated in the N forms, loaded or
combined by and, or, xor with the RLO before; a bit of a point outside the task's reach counts as 0 in both forms. PC has passed the
instruction, and nothing else of the module differs from what the operand read left. A read that halts the Tread leaves RLO as it was. -/
def Obligations.KzlChainInstructionsSetRlo : Prop :=
  ∀ (s : State) (f : Flt) (t sp addr : Nat),
    let rlo := (s.dev.tread f t).rlo
    let rd (op : Nat) : Dev × Bool × Bool := (s.dev.kzPast f t op sp).kzBitVal f t sp addr
    let refused : Bool := [1, 2, 4].contains sp && !s.dev.reach f (s.dev.tread f t).task (addr / 32) false
    let sets (op : Nat) (c : Instr) (neg : Bool) (v : Bool → Bool) : Prop :=
      s.dev.kzCan f t op sp addr → AnswersDev c s
        (if (rd op).2.2 then (rd op).1.updTread f t fun r => { r with rlo := v (!refused && (rd op).2.1 != neg) } else (rd op).1)
    sets 0x01 (.kzLb f t sp addr) false (fun b => b) ∧ sets 0x02 (.kzLbn f t sp addr) true (fun b => b) ∧
    sets 0x03 (.kzAb f t sp addr) false (fun b => rlo && b) ∧ sets 0x04 (.kzAbn f t sp addr) true (fun b => rlo && b) ∧
    sets 0x05 (.kzOb f t sp addr) false (fun b => rlo || b) ∧ sets 0x06 (.kzObn f t sp addr) true (fun b => rlo || b) ∧
    sets 0x07 (.kzXb f t sp addr) false (fun b => rlo != b) ∧ sets 0x08 (.kzXbn f t sp addr) true (fun b => rlo != b)

/-- GA, GAN, GO, GON, GX and GXN push RLO, the operation and the negation and leave RLO; GE pops the entry and RLO becomes the saved RLO
combined with the inner result. An open with 16 entries held is program fault 0x01 (NEST_OVERFLOW), a close at the
block's entry depth 0x02 (NEST_UNDERFLOW), and a RET, or the end of a run, at a depth other than the entry depth 0x03 (NEST_UNBALANCED). -/
def Obligations.KzlGroupsNest : Prop :=
  ∀ (s : State) (f : Flt) (t : Nat),
    let r := s.dev.tread f t
    let past (op : Nat) : Dev := s.dev.kzPast f t op 0
    let opens (op : Nat) (c : Instr) (g : GroupOp) (neg : Bool) : Prop :=
      s.dev.kzCan f t op 0 0 →
        (r.nest.length < 16 → AnswersDev c s ((past op).updTread f t fun r => { r with nest := ⟨r.rlo, g, neg⟩ :: r.nest })) ∧
        (16 ≤ r.nest.length → AnswersDev c s ((past op).progFault f t 0x01 0))
    (opens 0x0A (.kzGa f t) .and false ∧ opens 0x0B (.kzGan f t) .and true ∧ opens 0x0C (.kzGo f t) .or false ∧
      opens 0x0D (.kzGon f t) .or true ∧ opens 0x0E (.kzGx f t) .xor false ∧ opens 0x0F (.kzGxn f t) .xor true) ∧
    (s.dev.kzCan f t 0x10 0 0 →
      (∀ e rest, r.nest = e :: rest → r.entryDepth < r.nest.length → Answers (.kzGe f t) s fun u =>
        let inner := if e.neg then !r.rlo else r.rlo
        (u.tread f t).nest = rest ∧
        (u.tread f t).rlo = (match e.op with | .and => e.rlo && inner | .or => e.rlo || inner | .xor => e.rlo != inner) ∧
        (u.tread f t).acc = r.acc ∧ (u.tread f t).acc2 = r.acc2 ∧ (u.tread f t).calls = r.calls ∧
        (∀ v, v ≠ t → u.tread f v = s.dev.tread f v) ∧ OnlyIn [f.part] noKey s.dev u) ∧
      (r.nest.length ≤ r.entryDepth → AnswersDev (.kzGe f t) s ((past 0x10).progFault f t 0x02 0))) ∧
    (s.dev.kzCan f t 0x62 0 0 → r.nest.length ≠ r.entryDepth → AnswersDev (.kzRet f t) s ((past 0x62).progFault f t 0x03 0)) ∧
    (s.dev.kzCan f t 0x63 0 0 → r.rlo = true → r.nest.length ≠ r.entryDepth → AnswersDev (.kzRett f t) s ((past 0x63).progFault f t 0x03 0))

/-- NOP only advances PC; NOT, SET and CLR write RLO; CLRS clears SATS; a taken jump adds its signed 21-bit offset to the address of the
word that follows, JT and JF by RLO and JZ and JNZ by ACC. Every one leaves everything else as it was. A jump whose target the image does not
hold as an instruction of the block is program fault 0x06, taken or not, and a Tread whose task has used its instruction budget executes none
of the jumps. -/
def Obligations.KzlPlainAndJumpInstructions : Prop :=
  ∀ (s : State) (f : Flt) (t addr : Nat),
    let r := s.dev.tread f t
    let does (op a : Nat) (c : Instr) (g : Tread → Tread) : Prop :=
      s.dev.kzCan f t op 0 a → AnswersDev c s (s.dev.updTread f t fun r => g { r with pc := r.pc + 1, instrs := r.instrs + 1 })
    let jumps (b : Bool) (q : Tread) : Tread :=
      if b then { q with pc := q.pc + BitVec.ofInt 18 (if addr < 2 ^ 20 then (addr : Int) else (addr : Int) - 2 ^ 21) } else q
    does 0x00 0 (.kzNop f t) id ∧ does 0x11 0 (.kzNot f t) (fun q => { q with rlo := !r.rlo }) ∧
    does 0x12 0 (.kzSet f t) (fun q => { q with rlo := true }) ∧ does 0x13 0 (.kzClr f t) (fun q => { q with rlo := false }) ∧
    does 0x24 0 (.kzClrs f t) (fun q => { q with sats := false }) ∧
    does 0x58 addr (.kzJmp f t addr) (jumps true) ∧ does 0x59 addr (.kzJt f t addr) (jumps r.rlo) ∧
    does 0x5A addr (.kzJf f t addr) (jumps !r.rlo) ∧ does 0x5B addr (.kzJz f t addr) (jumps (decide (r.acc = 0))) ∧
    does 0x5C addr (.kzJnz f t addr) (jumps (decide (r.acc ≠ 0))) ∧
    (∀ op c, (op, c) ∈ [(0x58, Instr.kzJmp f t addr), (0x59, .kzJt f t addr), (0x5A, .kzJf f t addr), (0x5B, .kzJz f t addr),
        (0x5C, .kzJnz f t addr)] → s.dev.kzRuns f t op 0 → s.dev.kzTarget f t op addr = false →
      AnswersDev c s ((s.dev.kzPast f t op 0).progFault f t 0x06 0)) ∧
    (s.dev.taskBudget f r.task ≤ r.instrs → ∀ c ∈ [Instr.kzJmp f t addr, .kzJt f t addr, .kzJf f t addr, .kzJz f t addr, .kzJnz f t addr],
      AnswersDev c s s.dev)

/-- On marker m, with room in the write buffer, no earlier buffered write of the Tread to its word and no error in the word: STB makes
the marker read RLO in its own task and leaves RLO; SB and RB with RLO 1 make it read 1 and 0; with RLO 0 they change nothing but the
Tread; EDR and EDF make it read RLO and load the edge. Every other marker reads as before, the marker memory itself is unchanged until
the barrier, and nothing outside the flight changes. -/
def Obligations.KzlOutputsReachTheWriteBuffer : Prop :=
  ∀ (s : State) (f : Flt) (t m : Nat),
    let r := s.dev.tread f t
    let old (k : Nat) : Bool := (s.dev.logic f t (kM (k / 32))).getLsbD (k % 32)
    let writes (op : Nat) (c : Instr) (v rlo' : Bool) : Prop :=
      s.dev.kzCan f t op 3 m → s.dev.kzClean f (kM (m / 32)) → (s.dev.fl f).bufUsed t < 4096 →
      (∀ e ∈ (s.dev.fl f).wrbuf, ¬(e.tread = t ∧ e.addr = kM (m / 32))) →
      Answers c s fun u =>
        (u.logic f t (kM (m / 32))).getLsbD (m % 32) = v ∧
        (∀ k, k ≠ m → (u.logic f t (kM (k / 32))).getLsbD (k % 32) = old k) ∧
        (u.tread f t).rlo = rlo' ∧ (u.tread f t).acc = r.acc ∧ (u.fl f).lmem = (s.dev.fl f).lmem ∧
        OnlyIn [f.part] noKey s.dev u
    let idles (op : Nat) (c : Instr) : Prop := s.dev.kzCan f t op 3 m → AnswersDev c s (s.dev.kzPast f t op 3)
    writes 0x14 (.kzStb f t 3 m) r.rlo r.rlo ∧
    (r.rlo = true → writes 0x15 (.kzSb f t 3 m) true true ∧ writes 0x16 (.kzRb f t 3 m) false true) ∧
    (r.rlo = false → idles 0x15 (.kzSb f t 3 m) ∧ idles 0x16 (.kzRb f t 3 m)) ∧
    writes 0x18 (.kzEdr f t 3 m) r.rlo (r.rlo && !old m) ∧ writes 0x19 (.kzEdf f t 3 m) r.rlo (!r.rlo && old m)

/-- STB, SB, RB, EDR, EDF and ST by space: a write to I is program fault WRITE_INPUT; Q and P write the point's value brought into its
class range through the write buffer, or are refused by reach; L is written at once; M goes through the write buffer; SB of a counter
buffers CV, RB of a timer or counter buffers the cleared entry. SB and RB with RLO 0 do nothing. LD and LDS read their operand, then ACC moves to
ACC2 and the operand to ACC; RLO, SAT and SATS stay. QT loads RLO with its test of a point within reach, and 0 outside the task's reach. -/
def Obligations.KzlLoadsTestsAndWritesByForm : Prop :=
  (∀ (s : State) (f : Flt) (t sp addr : Nat),
     let r := s.dev.tread f t
     let at' (op : Nat) : Dev := s.dev.kzPast f t op sp
     let form (op : Nat) (c : Instr) (g : Dev → Dev) : Prop :=
       s.dev.kzCan f t op sp addr → AnswersDev c s (if sp = 1 then (at' op).progFault f t 0x05 0 else g (at' op))
     let edge (v : Bool → Bool) (d : Dev) : Dev :=
       let p := d.kzBitVal f t sp addr
       if p.2.2 then p.1.kzPutBit f t sp addr r.rlo fun d => d.updTread f t fun r => { r with rlo := v p.2.1 } else p.1
     form 0x14 (.kzStb f t sp addr) (fun d => d.kzPutBit f t sp addr r.rlo id) ∧
     form 0x15 (.kzSb f t sp addr) (fun d => if r.rlo = false then d
       else if sp = 6 then d.bufWrite f t (kC addr 0) fullMask r.acc id else d.kzPutBit f t sp addr true id) ∧
     form 0x16 (.kzRb f t sp addr) (fun d => if r.rlo = false then d
       else if sp = 5 then d.kzResetTimer f t addr else if sp = 6 then d.kzResetCounter f t addr
       else d.kzPutBit f t sp addr false id) ∧
     form 0x18 (.kzEdr f t sp addr) (edge fun e => r.rlo && !e) ∧ form 0x19 (.kzEdf f t sp addr) (edge fun e => !r.rlo && e) ∧
     form 0x21 (.kzSt f t sp addr) (fun d => d.kzPutWord f t sp addr r.acc id)) ∧
  (∀ (s : State) (f : Flt) (t sp addr : Nat) (k : W32),
     let r := s.dev.tread f t
     let ld := (s.dev.kzPast f t 0x20 sp).kzWordVal f t sp addr k
     let dq := s.dev.kzPast f t 0x1C sp
     (s.dev.kzCan f t 0x20 sp addr → AnswersDev (.kzLd f t sp addr k) s
       (if ld.2.2 then ld.1.updTread f t fun q => { q with acc2 := q.acc, acc := ld.2.1 } else ld.1)) ∧
     (s.dev.kzCan f t 0x22 5 addr → s.dev.kzClean f (kT addr 1) → AnswersDev (.kzLds f t 5 addr) s
       ((s.dev.kzPast f t 0x22 5).updTread f t fun q => { q with acc2 := r.acc, acc := s.dev.logic f t (kT addr 1) >>> 24 })) ∧
     (s.dev.kzCan f t 0x22 6 addr → s.dev.kzClean f (kC addr 1) → AnswersDev (.kzLds f t 6 addr) s
       ((s.dev.kzPast f t 0x22 6).updTread f t fun q => { q with acc2 := r.acc, acc := s.dev.logic f t (kC addr 1) &&& 0xFF })) ∧
     (∀ sp ∈ [1, 2, 4], s.dev.kzCan f t 0x22 sp addr → s.dev.kzClean f (kP (addr / 32)) →
       (s.dev.reach f r.task (addr / 32) false = true → AnswersDev (.kzLds f t sp addr) s
         ((s.dev.kzPast f t 0x22 sp).updTread f t fun q =>
           { q with acc2 := r.acc, acc := (s.dev.ptSt f sp (addr / 32)).setWidth 32 })) ∧
       (s.dev.reach f r.task (addr / 32) false = false → AnswersDev (.kzLds f t sp addr) s
         (((s.dev.kzPast f t 0x22 sp).violate f t sp (addr / 32)).updTread f t fun q => { q with acc2 := r.acc, acc := 0 }))) ∧
     (s.dev.kzCan f t 0x1C sp addr → s.dev.kzClean f (kP (addr / 32)) → s.dev.reach f r.task (addr / 32) false = true →
       AnswersDev (.kzQt f t sp addr) s (dq.updTread f t fun q =>
         { q with rlo := qualTest (s.dev.ptSt f sp (addr / 32)) (addr % 32) })) ∧
     (s.dev.kzCan f t 0x1C sp addr → s.dev.reach f r.task (addr / 32) false = false →
       AnswersDev (.kzQt f t sp addr) s ((dq.violate f t sp (addr / 32)).updTread f t fun q => { q with rlo := false })))

/-- The signed arithmetic instructions, stated over the integers: ACC becomes the exact result clamped to the s32 range and SAT tells
whether it was clamped; division truncates toward zero; DIV, MULDIV and MOD by zero set SAT and load the limit by the sign, or 0. ADDU and SUBU
clamp at 0xFFFF_FFFF and 0 and set SAT where they clamp; ADDW and SUBW wrap, MIN and MAX compare signed, and these four clear SAT. SATS keeps any
earlier saturation. AND, OR, XOR, INV and the shifts by the operand's low five bits leave SAT and SATS. RLO and ACC2 stay, and only the Tread
differs from what the operand read left. -/
def Obligations.KzlArithmeticLogicAndShifts : Prop :=
  (∀ (s : State) (f : Flt) (t sp addr : Nat) (k : W32),
     let r := s.dev.tread f t
     let a := r.acc.toInt
     let lo : Int := -2147483648
     let hi : Int := 2147483647
     let clamp (x : Int) : Int := if x > hi then hi else if x < lo then lo else x
     let out (x : Int) : Bool := decide (x > hi) || decide (x < lo)
     let rd (op : Nat) : Dev × W32 × Bool := (s.dev.kzPast f t op sp).kzWordVal f t sp addr k
     let gives (c : Instr) (d : Dev) (x : Int) (sat : Bool) : Prop := Answers c s fun u =>
       (u.tread f t).acc.toInt = x ∧ (u.tread f t).sat = sat ∧ (u.tread f t).sats = ((d.tread f t).sats || sat) ∧
       u = d.updTread f t fun q => { q with acc := (u.tread f t).acc, sat := (u.tread f t).sat, sats := (u.tread f t).sats }
     let does (op : Nat) (c : Instr) (x : Int → Int) (sat : Int → Bool) : Prop :=
       s.dev.kzCan f t op sp addr → (rd op).2.2 = true →
         gives c (rd op).1 (x (rd op).2.1.toInt) (sat (rd op).2.1.toInt)
     does 0x28 (.kzAdd f t sp addr k) (fun v => clamp (a + v)) (fun v => out (a + v)) ∧
     does 0x29 (.kzSub f t sp addr k) (fun v => clamp (a - v)) (fun v => out (a - v)) ∧
     does 0x2A (.kzMul f t sp addr k) (fun v => clamp (a * v)) (fun v => out (a * v)) ∧
     does 0x2B (.kzDiv f t sp addr k) (fun v => if v = 0 then (if 0 ≤ a then hi else lo) else clamp (a.tdiv v))
       (fun v => v == 0 || out (a.tdiv v)) ∧
     does 0x2C (.kzMod f t sp addr k) (fun v => if v = 0 then 0 else a.tmod v) (fun v => v == 0) ∧
     does 0x35 (.kzMuldiv f t sp addr k)
       (fun v => if r.acc2.toInt = 0 then (if 0 ≤ a * v then hi else lo) else clamp ((a * v).tdiv r.acc2.toInt))
       (fun v => r.acc2.toInt == 0 || out ((a * v).tdiv r.acc2.toInt)) ∧
     (s.dev.kzCan f t 0x33 0 0 → gives (.kzNeg f t) (s.dev.kzPast f t 0x33 0) (clamp (0 - a)) (out (0 - a))) ∧
     (s.dev.kzCan f t 0x34 0 0 → gives (.kzAbs f t) (s.dev.kzPast f t 0x34 0) (clamp a.natAbs) (out a.natAbs))) ∧
  (∀ (s : State) (f : Flt) (t sp addr : Nat) (k : W32),
     let r := s.dev.tread f t
     let a := r.acc
     let rd (op : Nat) : Dev × W32 × Bool := (s.dev.kzPast f t op sp).kzWordVal f t sp addr k
     let arith (op : Nat) (c : Instr) (x : W32 → Nat) (sat : W32 → Bool) : Prop :=
       s.dev.kzCan f t op sp addr → (rd op).2.2 = true → Answers c s fun u =>
         (u.tread f t).acc.toNat = x (rd op).2.1 ∧ (u.tread f t).sat = sat (rd op).2.1 ∧
         u = (rd op).1.updTread f t fun q => { q with
           acc := (u.tread f t).acc, sat := sat (rd op).2.1, sats := q.sats || sat (rd op).2.1 }
     let logic (op : Nat) (c : Instr) (x : W32 → W32) : Prop :=
       s.dev.kzCan f t op sp addr → (rd op).2.2 = true →
         AnswersDev c s ((rd op).1.updTread f t fun q => { q with acc := x (rd op).2.1 })
     arith 0x2D (.kzAddu f t sp addr k) (fun v => min (a.toNat + v.toNat) 0xFFFFFFFF) (fun v => decide (a.toNat + v.toNat > 0xFFFFFFFF)) ∧
     arith 0x2E (.kzSubu f t sp addr k) (fun v => a.toNat - v.toNat) (fun v => decide (a.toNat < v.toNat)) ∧
     arith 0x2F (.kzAddw f t sp addr k) (fun v => (a.toNat + v.toNat) % 2 ^ 32) (fun _ => false) ∧
     arith 0x30 (.kzSubw f t sp addr k) (fun v => (a.toNat + 2 ^ 32 - v.toNat) % 2 ^ 32) (fun _ => false) ∧
     arith 0x31 (.kzMin f t sp addr k) (fun v => (if a.toInt ≤ v.toInt then a else v).toNat) (fun _ => false) ∧
     arith 0x32 (.kzMax f t sp addr k) (fun v => (if a.toInt ≤ v.toInt then v else a).toNat) (fun _ => false) ∧
     logic 0x38 (.kzAnd f t sp addr k) (fun v => a &&& v) ∧ logic 0x39 (.kzOr f t sp addr k) (fun v => a ||| v) ∧
     logic 0x3A (.kzXor f t sp addr k) (fun v => a ^^^ v) ∧
     logic 0x3C (.kzShl f t sp addr k) (fun v => a <<< (v.toNat % 32)) ∧
     logic 0x3D (.kzShr f t sp addr k) (fun v => a >>> (v.toNat % 32)) ∧
     logic 0x3E (.kzSar f t sp addr k) (fun v => a.sshiftRight (v.toNat % 32)) ∧
     (s.dev.kzCan f t 0x3B 0 0 →
       AnswersDev (.kzInv f t) s ((s.dev.kzPast f t 0x3B 0).updTread f t fun q => { q with acc := ~~~a })))

/-- CEQ, CNE, CLT, CLE, CGT and CGE compare ACC with the operand as signed numbers, CLTU, CLEU, CGTU and CGEU as unsigned numbers, and
load RLO; everything else is as the operand read left it. -/
def Obligations.KzlComparesLoadRlo : Prop :=
  ∀ (s : State) (f : Flt) (t sp addr : Nat) (k : W32),
    let a := (s.dev.tread f t).acc
    let rd (op : Nat) : Dev × W32 × Bool := (s.dev.kzPast f t op sp).kzWordVal f t sp addr k
    let does (op : Nat) (c : Instr) (b : W32 → Prop) : Prop :=
      s.dev.kzCan f t op sp addr → (rd op).2.2 = true → Answers c s fun u =>
        ((u.tread f t).rlo = true ↔ b (rd op).2.1) ∧
        (u.tread f t).acc = a ∧ (u.tread f t).acc2 = (s.dev.tread f t).acc2 ∧
        u = (rd op).1.updTread f t fun q => { q with rlo := (u.tread f t).rlo }
    does 0x40 (.kzCeq f t sp addr k) (fun v => a = v) ∧ does 0x41 (.kzCne f t sp addr k) (fun v => a ≠ v) ∧
    does 0x42 (.kzClt f t sp addr k) (fun v => a.toInt < v.toInt) ∧ does 0x43 (.kzCle f t sp addr k) (fun v => a.toInt ≤ v.toInt) ∧
    does 0x44 (.kzCgt f t sp addr k) (fun v => v.toInt < a.toInt) ∧ does 0x45 (.kzCge f t sp addr k) (fun v => v.toInt ≤ a.toInt) ∧
    does 0x46 (.kzCltu f t sp addr k) (fun v => a.toNat < v.toNat) ∧ does 0x47 (.kzCleu f t sp addr k) (fun v => a.toNat ≤ v.toNat) ∧
    does 0x48 (.kzCgtu f t sp addr k) (fun v => v.toNat < a.toNat) ∧ does 0x49 (.kzCgeu f t sp addr k) (fun v => v.toNat ≤ a.toNat)

/-- With room for two write-buffer entries, no earlier buffered write of the Tread to the entry and no error in its words. A TON, TOF or TP
of its own KIND with VALID set advances by the elapsed grid cycles as R197 says, the entry is stamped and IN takes RLO; a CTU or CTD
steps CV on a rising RLO, holding at its limit. RLO becomes Q, and the entry is read back so in the same task. -/
def Obligations.KzlTimersAndCountersStep : Prop :=
  ∀ (s : State) (f : Flt) (t n : Nat),
    let r := s.dev.tread f t
    let et := (s.dev.logic f t (kT n 0)).toNat
    let w := s.dev.logic f t (kT n 1)
    let inp := w.getLsbD 25
    let q := w.getLsbD 26
    let run := w.getLsbD 27
    let pt := r.acc.toNat
    let dt := ((s.dev.fl f).grid % 2 ^ 24 + 2 ^ 24 - w.toNat % 2 ^ 24) % 2 ^ 24
    let free (a b : Nat) : Prop := (s.dev.fl f).bufUsed t + 1 < 4096 ∧
      (∀ e ∈ (s.dev.fl f).wrbuf, ¬(e.tread = t ∧ (e.addr = a ∨ e.addr = b))) ∧ s.dev.kzClean f a ∧ s.dev.kzClean f b
    let timer (op kind : Nat) (c : Instr) (et' : Nat) (q' run' : Bool) : Prop :=
      s.dev.kzCan f t op 5 n → free (kT n 0) (kT n 1) → w.getLsbD 24 = true → w.toNat / 2 ^ 28 % 4 = kind →
      Answers c s fun u =>
        let w' := u.logic f t (kT n 1)
        (u.logic f t (kT n 0)).toNat = et' ∧ w'.toNat % 2 ^ 24 = (s.dev.fl f).grid % 2 ^ 24 ∧ w'.getLsbD 24 = true ∧
        w'.getLsbD 25 = r.rlo ∧ w'.getLsbD 26 = q' ∧ w'.getLsbD 27 = run' ∧ w'.toNat / 2 ^ 28 % 4 = kind ∧
        (u.tread f t).rlo = q' ∧ (u.tread f t).acc = r.acc ∧ OnlyIn [f.part] noKey s.dev u
    let cv := (s.dev.logic f t (kC n 0)).toInt
    let cw := s.dev.logic f t (kC n 1)
    let counter (op edge : Nat) (c : Instr) (cv' : Int) (q' lim : Bool) : Prop :=
      s.dev.kzCan f t op 6 n → free (kC n 0) (kC n 1) → Answers c s fun u =>
        let w' := u.logic f t (kC n 1)
        (u.logic f t (kC n 0)).toInt = cv' ∧ w'.getLsbD edge = r.rlo ∧ w'.getLsbD (1 - edge) = cw.getLsbD (1 - edge) ∧
        w'.getLsbD 2 = q' ∧ w'.getLsbD 3 = (cw.getLsbD 3 || lim) ∧ (u.tread f t).rlo = q' ∧ OnlyIn [f.part] noKey s.dev u
    let tonEt := if r.rlo then (if inp then min (et + dt) pt else 0) else 0
    let tofEt := if r.rlo then 0 else if inp then 0 else if q then min (et + dt) pt else et
    let tpStart := !run && r.rlo && !inp && decide (0 < pt)
    let tpGoes := (run && decide (et + dt < pt)) || tpStart
    let up := r.rlo && !cw.getLsbD 0
    let down := r.rlo && !cw.getLsbD 1
    let cvUp := if up = true ∧ cv ≠ 2147483647 then cv + 1 else cv
    let cvDown := if down = true ∧ cv ≠ -2147483648 then cv - 1 else cv
    timer 0x50 1 (.kzTon f t n) tonEt (r.rlo && decide (pt ≤ tonEt)) run ∧
    timer 0x51 2 (.kzTof f t n) tofEt (r.rlo || (q && decide (tofEt < pt))) run ∧
    timer 0x52 3 (.kzTp f t n)
      (if tpGoes = false ∧ r.rlo = false then 0 else if run then min (et + dt) pt else if tpStart then 0 else et)
      (if run then q && tpGoes else if tpStart then true else q) tpGoes ∧
    counter 0x54 0 (.kzCtu f t n) cvUp (decide (r.acc.toInt ≤ cvUp)) (up && decide (cv = 2147483647)) ∧
    counter 0x55 1 (.kzCtd f t n) cvDown (decide (cvDown ≤ 0)) (down && decide (cv = -2147483648))

/-- A CALL of a block that the image holds pushes the return address, the block and the nesting depth and enters the block; CALLT does so
when RLO is 1. RET at the entry depth pops the entry and goes on at the return address, with an empty call stack it ends the run; RETT
does so when RLO is 1. RLO, the accumulators and SAT pass through. A ninth entry is program fault 0x04, a return at another depth 0x03, and a
CALL or CALLT of a block that the image does not hold 0x06, whatever RLO. -/
def Obligations.KzlCallsAndReturns : Prop :=
  ∀ (s : State) (f : Flt) (t b : Nat),
    let r := s.dev.tread f t
    let past (op : Nat) : Dev := s.dev.kzPast f t op 0
    let calls (op : Nat) (c : Instr) : Prop :=
      (r.calls.length < 8 → ∀ w, s.dev.blockFirst f b = some w → AnswersDev c s ((past op).updTread f t fun q => { q with
        calls := ⟨r.pc + 1, r.block, r.nest.length⟩ :: r.calls, pc := BitVec.ofNat 18 w, block := b })) ∧
      (8 ≤ r.calls.length → AnswersDev c s ((past op).progFault f t 0x04 0))
    let returns (op : Nat) (c : Instr) : Prop :=
      (∀ e rest, r.calls = e :: rest → r.nest.length = e.depth →
        AnswersDev c s ((past op).updTread f t fun q => { q with pc := e.ret, block := e.block, calls := rest })) ∧
      (r.calls = [] → r.nest = [] → AnswersDev c s ((past op).endRun f t)) ∧
      (r.nest.length ≠ (match r.calls with | [] => 0 | e :: _ => e.depth) → AnswersDev c s ((past op).progFault f t 0x03 0))
    (s.dev.kzCan f t 0x60 0 b → calls 0x60 (.kzCall f t b)) ∧
    (s.dev.kzCan f t 0x61 0 b → (r.rlo = true → calls 0x61 (.kzCallt f t b)) ∧
      (r.rlo = false → AnswersDev (.kzCallt f t b) s (past 0x61))) ∧
    (s.dev.blockFirst f b = none →
      (s.dev.kzRuns f t 0x60 0 → AnswersDev (.kzCall f t b) s ((past 0x60).progFault f t 0x06 0)) ∧
      (s.dev.kzRuns f t 0x61 0 → AnswersDev (.kzCallt f t b) s ((past 0x61).progFault f t 0x06 0))) ∧
    (s.dev.kzCan f t 0x62 0 0 → returns 0x62 (.kzRet f t)) ∧
    (s.dev.kzCan f t 0x63 0 0 → (r.rlo = true → returns 0x63 (.kzRett f t)) ∧
      (r.rlo = false → AnswersDev (.kzRett f t) s (past 0x63)))

/-- For a task that is not the ERROR task: TRAP sets DETFAULT with code 0x0C or a lower one and raises the call PROGRAM_FAULT with fault
code 7, the trap code and the block; BUDGET_EXCEEDED raises the call BUDGET with the budget. Both discard the run's buffered writes and
show the call's code in FL_TASKSTAT.FAULT. -/
def Obligations.KzlStopsRaiseErrorCalls : Prop :=
  ∀ (s : State) (f : Flt) (t code : Nat),
    let r := s.dev.tread f t
    let scan := ((s.dev.fl f).scan.getD 0) % 2 ^ 32
    let stops (c : Instr) (call b : Nat) (det : Option Nat) : Prop := Answers c s fun u =>
      (u.fl f).raised = (s.dev.fl f).raised ++ [⟨call, r.task, b, scan, r.task⟩] ∧ (u.fl f).det = det ∧
      (∀ e ∈ (u.fl f).wrbuf, ¬(e.tread = t ∧ e.task = r.task ∧ e.run = r.run)) ∧
      (∀ e ∈ (s.dev.fl f).wrbuf, ¬(e.tread = t ∧ e.task = r.task ∧ e.run = r.run) → e ∈ (u.fl f).wrbuf)
    r.task < 64 → s.dev.taskKind f r.task ≠ 3 →
    (s.dev.kzCan f t 0x70 0 code → stops (.kzTrap f t code) 0x11 (7 + code % 256 * 256 + r.block % 65536 * 65536)
      (some (match (s.dev.fl f).det with | some x => min x 0x0C | none => 0x0C))) ∧
    (r.running = true → r.halted = false → s.dev.taskBudget f r.task ≤ r.instrs →
      stops (.budgetExceeded f t) 0x12 (s.dev.get ((FL_TASKBUD_BUDGET.ix r.task).at f)) (s.dev.fl f).det)

/-- Every well-formed KZL command has a word, and a second word exactly where it is a word instruction of space K; decoding that word on
the command's flight and Tread, with the second word or any word following, gives the command itself, with every operand. And where a Tread
reads an instruction from a word and the word that follows it, that instruction encodes to the very word, followed by the very constant where it
has one. No two accepted words spell one instruction. Words written from the tables decode as they stand: LB of marker 5 is opcode 0x01 in
[31:25] and space 3 in [24:21]; ADD of a constant is opcode 0x28 with the constant in the second word; QT 5 of point 2 in space P is opcode
0x1C, space 4, address 69; JMP by -1 carries 0x1F_FFFF; TRAP 9 carries its code; a reserved opcode and a space that the opcode does not accept
decode to nothing. -/
def Obligations.KzlDecodingAndEncodingAgree : Prop :=
  (∀ (i : Instr) (op sp addr : Nat) (k : W32), kzFields i = some (op, sp, addr, k) → WellFormed i = true →
     ∃ (f : Flt) (t : Nat) (w : W32) (c : Option W32), t < 16 ∧ kzlEncode i = some (w, c) ∧
       (c.isSome = true ↔ kzHasConst op sp = true) ∧
       (∀ next, kzlDecode f t w (c.getD next) = some i) ∧ w.toNat = op * 2 ^ 25 + sp * 2 ^ 21 + addr) ∧
  (∀ (f : Flt) (t : Nat) (w next : W32) (i : Instr), kzlDecode f t w next = some i →
     ∃ c, kzlEncode i = some (w, c) ∧ (c = none ∨ c = some next)) ∧
  kzlDecode .a 0 0x02600005 0 = some (.kzLb .a 0 3 5) ∧ kzlDecode .b 3 0x50000000 0xFFFFFFFF = some (.kzAdd .b 3 0 0 0xFFFFFFFF) ∧
  kzlDecode .a 1 0x38800045 0 = some (.kzQt .a 1 4 69) ∧ kzlDecode .a 15 0xB01FFFFF 7 = some (.kzJmp .a 15 0x1FFFFF) ∧
  kzlDecode .b 2 0xE0000009 0 = some (.kzTrap .b 2 9) ∧ kzlDecode .a 0 0x12000000 0 = none ∧
  kzlDecode .a 0 0x28000000 0 = none

/-- If no Tread of either flight holds more than 16 nesting entries or 8 call entries, the same holds after every KZL command. -/
def Obligations.KzlStacksStayWithinTheirDepth : Prop :=
  let inv (d : Dev) : Prop := ∀ f t, (d.tread f t).nest.length ≤ 16 ∧ (d.tread f t).calls.length ≤ 8
  ∀ (s : State) (i : Instr), (kzFields i).isSome = true → inv s.dev → Answers i s inv


/-! ## Supplies, starts and the queue (chapters 02 and 21) -/

/-- With command c at the front, a step is exec of c on the state with the rest of the queue. With nothing queued, which is the model's
choice (assumption 1), the time base counts once and nothing else changes. -/
def Obligations.StepRunsTheFrontCommand : Prop :=
  (∀ (c : Instr) (rest : List Instr) (s : State),
    step { s with pending := c :: rest } = exec c { s with pending := rest }) ∧
  ∀ s : State, s.pending = [] → ∃ t, step s = .next t ∧ t.pending = [] ∧ t.dev.time.raw = s.dev.time.raw + 1 ∧
    OnlyIn [.time] noKey s.dev t.dev ∧ t.dev.time = { s.dev.time with raw := t.dev.time.raw }

/-- Whatever the command and the state, exec answers a next state, never a fault or a refusal, and the queue is as it was. That no
command ends a run is the model's choice (assumption 2). -/
def Obligations.EveryCommandAnswersAndKeepsTheQueue : Prop :=
  ∀ (c : Instr) (s : State), ∃ t, exec c s = .next t ∧ t.pending = s.pending

/-- From every state, as many steps as commands wait are safe; the first of two waiting commands runs on the state as it is and the second
on what the first answers; and n steps leave a queue of n commands empty. -/
def Obligations.QueuedCommandsRunInOrder : Prop :=
  (∀ s : State, SafeFor s.pending.length s) ∧
  (∀ s : State, ∃ t : State, Sys2Proof.core.run s.pending.length s = .next t ∧ t.pending = []) ∧
  ∀ (a b : Instr) (s : State), ∃ u v, exec a { s with pending := [b] } = .next u ∧ exec b { u with pending := [] } = .next v ∧
    Sys2Proof.core.run 2 { s with pending := [a, b] } = .next v

/-- Right after reset the part number reads SX-J16, the build 0A, the module state BOOT, both flights ABSENT and no flight active, the
scan period is 40 cycles, and queues, landings and buffers are empty; nothing waits. -/
def Obligations.ResetLeavesTheSpecifiedRegisters : Prop :=
  let d := State.reset.dev
  State.reset.pending = [] ∧ d.rd FY_PARTNO0 = 0x4A2D5853 ∧ d.rd FY_PARTNO1 = 0x3631 ∧ d.mst = msBoot ∧
  d.fst .a = fsAbsent ∧ d.fst .b = fsAbsent ∧ d.active = none ∧ d.get (FL_SCANCFG_PERIOD.at .a) = 40 ∧
  d.get (FL_SCANCFG_PERIOD.at .b) = 40 ∧ d.arc.landing = [] ∧ d.arc.buffer = [] ∧ d.fmp.sessions = [] ∧ d.cor.downQ = [] ∧
  d.cor.upQ = [] ∧ d.hostIrq = false

/-- VHIN valid takes OFF to BOOT with EV_MOD_STATE as the only landing entry; VHIN lost leads to OFF; HRST restarts the Foyer into BOOT;
in all three the field side, its registers and the journal stay. VFIN valid shows FIELDPWR, puts both flights into RESET, and where
HOLD stands for VFIN loss with a configuration starts the field side, at once where the Corridor is up on both sides; VFIN lost clears it, empties the field side and leads to HOLD. -/
def Obligations.SupplyEdgesMoveTheModuleState : Prop :=
  let hostSide (d e : Dev) : Prop :=
    OnlyIn [.mod, .cor, .time, .host, .fmp, .eth, .arc, .und, .upd, .fmem] (fun k => k / 2 ^ 24 == 1) d e
  ∀ s : State,
    (s.dev.mod.vhin = false → Answers .vhinValid s fun u =>
      u.mst = msBoot ∧ u.mod.vhin = true ∧ u.mod.por = true ∧ u.mod.started = false ∧
      u.arc.landing = [⟨.mk' .modState [0, 1, 1], false, false⟩] ∧ hostSide s.dev u) ∧
    (s.dev.mod.vhin = true → ∀ written torn, Answers (.vhinLost written torn) s fun u =>
      u.mst = msOff ∧ u.mod.vhin = false ∧ u.mod.started = false ∧ hostSide s.dev u) ∧
    (s.dev.mod.vhin = true → ∀ written torn, Answers (.hostReset written torn) s fun u =>
      u.mst = msBoot ∧ u.mod.vhin = true ∧ u.mod.started = false ∧ u.arc.landing = [] ∧ hostSide s.dev u) ∧
    (s.dev.bit FY_MODSTATE_FIELDPWR = false → s.dev.mst ≠ msHold → Answers .vfinValid s fun u =>
      u.bit FY_MODSTATE_FIELDPWR = true ∧ u.fst .a = fsReset ∧ u.fst .b = fsReset ∧ u.mst = s.dev.mst ∧
      OnlyIn [.cor, .nw] (fun k => k == FY_MODSTATE || k == NW_STAT) s.dev u) ∧
    (s.dev.bit FY_MODSTATE_FIELDPWR = false → s.dev.mst = msHold → s.dev.mod.cfgPresent = true → s.dev.mod.holdVfin = true →
      s.dev.mod.started = true → Answers .vfinValid s fun u => u.mst = msSelftest ∧
        u.nw.modState = (if s.dev.linkUp then msSelftest else s.dev.nw.modState)) ∧
    (s.dev.bit FY_MODSTATE_FIELDPWR = true → s.dev.mst ≠ msOff → Answers .vfinLost s fun u =>
      u.mst = msHold ∧ u.bit FY_MODSTATE_FIELDPWR = false ∧ u.fa = FlightSt.empty ∧ u.fb = FlightSt.empty ∧
      u.gl = GallerySt.empty ∧ u.lg = LoggiaSt.empty ∧ u.mod.inService = false ∧ u.mod.holdVfin = true)

/-- With the Foyer running and no flush in progress, the falling edge starts the flush and later events are only counted; the rising edge
lets writes resume unless a flush still goes on; at the end of the flush the journal holds the retained snapshot and the flush is over. -/
def Obligations.PowerWarningOpensAndClosesTheFlush : Prop :=
  ∀ s : State,
    (s.dev.mod.vhin = true → s.dev.mod.started = true → s.dev.mod.flushing = false → s.dev.bit FY_MODSTATE_PWRWARN = false →
      Answers .pwrwarnFall s fun u => u.bit FY_MODSTATE_PWRWARN = true ∧ u.mod.flushing = true ∧ u.arc.warned = true ∧
        u.mst = s.dev.mst ∧ OnlyIn [.mod, .arc] (fun k => k == FY_MODSTATE) s.dev u) ∧
    (s.dev.mod.vhin = true → s.dev.mod.flushing = true → Answers .pwrwarnFall s fun u =>
      u.bit FY_MODSTATE_PWRWARN = true ∧ OnlyIn [] (fun k => k == FY_MODSTATE) s.dev u) ∧
    (s.dev.mod.vhin = true → Answers .pwrwarnRise s fun u => u.bit FY_MODSTATE_PWRWARN = false ∧
      u.arc.warned = (s.dev.mod.flushing && s.dev.arc.warned) ∧ u.mst = s.dev.mst ∧
      OnlyIn [.arc] (fun k => k == FY_MODSTATE) s.dev u) ∧
    (s.dev.mod.flushing = true → ∀ now, Answers (.powerWarningFlushDone now) s fun u =>
      u.mod.flushing = false ∧ u.jnl.snap = s.dev.mod.snap ∧ u.mod.snap = s.dev.mod.snap ∧
      u.fa = s.dev.fa ∧ u.fb = s.dev.fb ∧ u.nw = s.dev.nw)

/-- With no campaign and a flash device of 128 MiB or more with a valid layout copy: BOOT_ROM_DONE without defects starts the firmware, which
mends the other copy; a bank that a spare replaces starts it too, as does a lane, whose direction takes the spare or is lost; with a first
failure of another test, and none recorded before, FY_STRESULT keeps it in region 1, the module is in HOLD and the boot ROM serves, the
firmware measured only where its signature fails. A smaller device, or no valid copy, fails test 0x05, the latter with every slot EMPTY; the
details 0xFE and 0xFF are the model's choice (assumption 148). CORRIDOR_UP_TIMEOUT while the Corridor is down leads to HOLD with test 0x06
of region 2. FAILSAFE_RESTART starts the field side when no restart lies in the last hour. -/
def Obligations.FailedTestsAndTimeoutsHoldTheModule : Prop :=
  ∀ s : State,
    let d := s.dev
    (∀ dg flash copies dbg bk tb kn od tk,
      let boots (l : List (Nat × Nat)) : Instr := .bootRomDone l dg flash copies [] dbg bk tb kn od tk
      let read (n : Nat) : List Byte := ((copies.find? fun e => e.1 == n).map (·.2)).getD (d.jnl.layout.getD n [])
      let laidOut : Bool := layoutOk (read 0) || layoutOk (read 1)
      let held (u : Dev) (t x : Nat) : Prop :=
        u.mst = msHold ∧ u.mod.romHold = true ∧ u.mod.started = false ∧ u.host.hostRdy = true ∧ u.get FY_STRESULT_TEST = t ∧
        u.get FY_STRESULT_REGION = 1 ∧ u.get FY_STRESULT_DETAIL = x ∧ u.get FY_STRESULT_COUNT = min (d.get FY_STRESULT_COUNT + 1) 255 ∧
        u.nw = d.nw ∧ u.fa = d.fa ∧ u.fb = d.fb
      let runs (u : Dev) : Prop := u.mst = msBoot ∧ u.mod.started = true ∧ u.mod.romHold = false ∧ u.jnl.layout.all layoutOk = true
      d.mst = msBoot → d.mod.started = false → d.mod.romHold = false → d.bit FY_MODSTATE_PWRWARN = false → d.jnl.camp = none →
      (2 ^ 27 ≤ flash → laidOut = true →
        Answers (boots []) s runs ∧
        (∀ pb lb sp, d.logical .fy pb = some lb → d.spareBank .fy = some sp → Answers (boots [(2, pb)]) s fun u =>
          runs u ∧ u.phys .fy lb = sp) ∧
        (d.get FY_SPAREBUD0_CRDOWN ≠ 0 → Answers (boots [(6, 0)]) s fun u => runs u ∧ u.cor.down.spare = true) ∧
        (d.get FY_SPAREBUD0_CRUP = 0 → d.get FY_STRESULT_TEST = 0 → Answers (boots [(6, 1)]) s fun u =>
          runs u ∧ u.cor.up.lost = true ∧ u.get FY_STRESULT_REGION = 2 ∧ u.get FY_STRESULT_TEST = 6) ∧
        (∀ t ∈ [1, 3, 4, 5], ∀ x < 256, d.get FY_STRESULT_TEST = 0 → Answers (boots [(t, x)]) s fun u =>
          held u t x ∧ u.mod.meas = (if t = 5 ∧ 0 ∉ d.mod.measDone then mset 0 d.mod.meas 0 dg else d.mod.meas))) ∧
      (flash < 2 ^ 27 → d.get FY_STRESULT_TEST = 0 → Answers (boots []) s fun u =>
        held u 5 0xFE ∧ u.mod.meas = d.mod.meas ∧ u.mod.flash = flash) ∧
      (2 ^ 27 ≤ flash → laidOut = false → d.get FY_STRESULT_TEST = 0 → Answers (boots []) s fun u =>
        held u 5 0xFF ∧ u.mod.meas = d.mod.meas ∧ ∀ i < 9, ∀ n < 2, u.slotState i n = ssEmpty)) ∧
    (d.mst = msBoot → d.mod.started = true → d.cor.hostUp = false → d.get FY_STRESULT_TEST = 0 →
      Answers .corridorUpTimeout s fun u => u.mst = msHold ∧ u.get FY_STRESULT_REGION = 2 ∧ u.get FY_STRESULT_TEST = 6 ∧
        OnlyIn [.mod, .arc, .upd] (orEvent [FY_MODSTATE, FY_STRESULT]) d u) ∧
    (d.mst = msFailsafe → d.mod.restarts = [] → d.fst .a ≠ fsQuarantined → d.bit FY_MODSTATE_FIELDPWR = true →
      d.mod.romHold = false → Answers .failsafeRestart s fun u =>
        u.mst = msSelftest ∧ u.nw.modState = (if d.linkUp then msSelftest else d.nw.modState) ∧ u.mod.restarts = [d.time.raw])

/-- With no campaign and no slot on trial: FIELD_SELFTEST_DONE without defects takes a tested flight to LOADING, and with the Corridor up the
module too; a failing clock of region 5 leads to HOLD. An accepted BOOT_IMAGE_BLOCK is appended to its component's image and answered E_OK, its
last block measures the image, and a key block is stored alike. A MEASURE_REPORT that differs from the Foyer's registers fails its flight with
test 0x18 and code 0x0F; one that agrees takes it to SYNCING. BOOT_DONE, once every image has crossed, decides the start kind and initialises
every flight that awaits it at the next boundary. -/
def Obligations.AFieldStartLoadsAndInitialisesTheFlights : Prop :=
  ∀ s : State,
    let d := s.dev
    let noUpdate : Prop := d.jnl.camp = none ∧ ∀ i < 9, d.slotOf i ssTrial = none ∧ (d.slotInfo i (d.activeSlot i)).bad = false
    let takes (q : Nat) : Prop := d.cor.down.lost = false ∧ (d.cor.down.accept q).2 = true
    (d.nw.modState = msSelftest → d.fst .a = fsTesting → d.mst = msSelftest → noUpdate →
      (Answers (.fieldSelftestDone [] [] []) s fun u =>
        u.mst = (if d.linkUp then msLoading else msSelftest) ∧ u.nw.modState = msLoading ∧ u.fst .a = fsLoading) ∧
      (∀ x < 256, Answers (.fieldSelftestDone [(5, 0x17, x)] [] []) s fun u =>
        u.mst = (if d.linkUp then msHold else msSelftest) ∧ u.nw.modState = msHold ∧
        (d.linkUp = true → d.get FY_STRESULT_TEST = 0 →
          u.get FY_STRESULT_REGION = 5 ∧ u.get FY_STRESULT_TEST = 0x17 ∧ u.get FY_STRESULT_DETAIL = x))) ∧
    (∀ q comp last data, takes q → d.nw.modState = msLoading → d.cor.fieldUp = true →
      let bytes := if d.nw.staged.contains comp then data else mget [] d.nw.load comp ++ data
      (comp ∈ [2, 4, 5] → Answers (.bootImageBlock q comp last data) s fun u =>
        mget [] u.nw.load comp = bytes ∧ u.nw.staged.contains comp = last ∧ d.sentUp u ⟨0x01, q, E_OK, 0, 1, [], none⟩ ∧
        u.mod.meas = (if last ∧ comp - 1 ∉ d.mod.measDone then mset 0 d.mod.meas (comp - 1) (shaNum bytes) else d.mod.meas) ∧
        u.fa = d.fa ∧ u.fb = d.fb) ∧
      (comp ∈ [0x10, 0x11, 0x80, 0x81, 0x82, 0x83] → (last = true → 0x80 ≤ comp) → Answers (.configBlock q comp last data) s fun u =>
        mget [] u.nw.load comp = bytes ∧ u.nw.staged.contains comp = last ∧ d.sentUp u ⟨0x02, q, E_OK, 0, 1, [], none⟩ ∧
        u.mod = d.mod ∧ u.fa = d.fa ∧ u.fb = d.fb)) ∧
    (∀ q v, (d.cor.up.accept q).2 = true → d.mod.adopt = false → d.fst .a = fsLoading → d.active = none → d.jnl.camp = none →
      (d.expected 2 ≠ v → d.bit NW_REPAIRCFG_QEN = false → d.nw.modState ≠ msLoading → d.get FY_STRESULT_TEST = 0 →
        Answers (.measureReport q [(0, 2, v)]) s fun u => u.fst .a = fsFailed ∧ u.get NW_FAULTA_CODE = 0x0F ∧
          u.get FY_STRESULT_REGION = 3 ∧ u.get FY_STRESULT_TEST = 0x18) ∧
      (d.nw.stair = none → d.fa.bootCycle = none →
        Answers (.measureReport q ([2, 5, 6].map fun i => (0, i, d.expected i))) s fun u => u.fst .a = fsSyncing ∧ u.mod.preDone = true)) ∧
    (∀ q, takes q → d.mst = msLoading → d.mod.preDone = true → (∀ c ∈ [2, 3, 4, 5, 0x10, 0x11], d.nw.staged.contains c = true) →
      d.awaitsBoot .a = true → d.awaitsBoot .b = true → d.cor.fieldUp = true →
      let k := d.startKind d.snapValid
      Answers (.bootDone q) s fun u =>
        u.fa.bootCycle = some (d.nw.cycle + 1) ∧ u.fb.bootCycle = some (d.nw.cycle + 1) ∧ u.fa.nextGrid = d.nw.cycle + 2 ∧
        u.fa.scan = none ∧ u.fa.pts = u.fb.pts ∧ u.fa.lmem = u.fb.lmem ∧ u.fa.warm = k.1 ∧ u.fb.warm = k.1 ∧
        u.mod.committed = true ∧ u.mod.order = none ∧ u.nw.bothSyncing = true ∧ u.mst = msLoading ∧
        u.bit FY_START_KIND = k.1 ∧ u.get FY_START_BASIS = k.2.1 ∧ d.sentUp u ⟨0x03, q, E_OK, 0, 1, [], none⟩)

/-! ## The Newel and the flights (chapters 01 and 04) -/

/-- While the Newel runs and no campaign is in progress, NEWEL_CYCLE counts the cycle and releases a batch whose first frame is the CYCLE
frame of that cycle, which tells how many frames are carried forward and whether the time is extrapolated; its frames are numbered
consecutively from the next frame number, all with that cycle and a good CRC-32C; at most 512 frames and 65,536 bytes are released. -/
def Obligations.EachNewelCycleReleasesANumberedBatch : Prop :=
  ∀ (s : State) (ok : Bool) (ue : Option (Nat × Nat)) (lst : Nat), s.dev.nw.stopped = false → s.dev.jnl.camp = none →
    Answers (.newelCycle ok ue lst) s fun u =>
      u.nw.cycle = s.dev.nw.cycle + 1 ∧
      u.nw.batch.head? = some (mkFrame s.dev.nw.nextFrame (s.dev.nw.cycle + 1)
        ⟨0x01, 0, 0, 12, .cycle (s.dev.nw.cycle + 1) u.nw.carried.length s.dev.nw.synth⟩) ∧
      (∀ i fr, u.nw.batch[i]? = some fr →
        fr.number = s.dev.nw.nextFrame + i ∧ fr.cycle = s.dev.nw.cycle + 1 ∧ fr.crc = crc32c fr.head) ∧
      u.nw.nextFrame = s.dev.nw.nextFrame + u.nw.batch.length ∧ u.nw.batch.length ≤ 512 ∧
      framesBytes (u.nw.batch.map (·.frame)) ≤ 65536 ∧ u.nw.newMap = none ∧ u.nw.acked = []

/-- Flight A ACTIVE and B STANDBY with equal digest epochs, one commit set of the same scan present from each, no fault recognised, no
fetch, transfer or campaign in progress, quarantine disabled: with equal digests the active flight's set is fetched and one more
comparison counts; with different digests and no strike the scan is withheld from both, B is FAILED with code 0x0D, the strike is set and
the divergence is counted. A set whose fetch ended well is committed: its scan is the last one. -/
def Obligations.MatchingDigestsCommitAndDifferingOnesFailTheStandby : Prop :=
  ∀ (s : State) (lst : Nat) (ca cb : CommitSet),
    let d := s.dev
    let n := d.nw
    n.stopped = false → d.jnl.camp = none → d.fst .a = fsActive → d.fst .b = fsStandby → n.epochA = n.epochB →
    n.faults = [] → n.stair = none → n.switching = none → n.modState = msService → d.bit NW_REPAIRCFG_QEN = false →
    (∀ f ∈ n.batchDue, f ∈ n.acked) → n.sigA = [ca] → n.sigB = [cb] → ca.scan = cb.scan → ca.det = none → cb.det = none →
    ca.signalAt ≤ n.cycle → cb.signalAt ≤ n.cycle → n.fetch = none →
    (ca.digest = cb.digest → Answers (.newelCycle true none lst) s fun u =>
      u.nw.fetch = some (0, ca) ∧ u.nw.matched = min (n.matched + 1) 16 ∧ u.fst .a = fsActive ∧ u.fst .b = fsStandby ∧
      u.nw.digA = ca.digest ∧ u.nw.digB = cb.digest ∧ u.nw.lastScan = n.lastScan ∧ u.fa = d.fa ∧ u.fb = d.fb) ∧
    (ca.digest ≠ cb.digest → d.bit NW_DIVSTAT_STRIKE = false → Answers (.newelCycle true none lst) s fun u =>
      u.nw.fetch = none ∧ u.nw.sigA = [] ∧ u.nw.sigB = [] ∧ u.fst .a = fsActive ∧ u.fst .b = fsFailed ∧
      u.get ⟨NW_FAULTB, NW_FAULTA_CODE.hi, NW_FAULTA_CODE.lo⟩ = 0x0D ∧ u.bit NW_DIVSTAT_STRIKE = true ∧ u.nw.matched = 0 ∧
      u.get NW_DIVSTAT_COUNT = min (d.get NW_DIVSTAT_COUNT + 1) (2 ^ (NW_DIVSTAT_COUNT.hi + 1 - NW_DIVSTAT_COUNT.lo) - 1))

/-- Flight A ACTIVE and B STANDBY, the batch due to A and not acknowledged by it, no other fault, no transfer, plan, fetch or campaign in
progress, quarantine disabled: at the boundary A is FAILED with code 0x08, B is ACTIVE, one failover counts, and B's oldest signalled set
of a scan not yet committed is fetched, to be committed at the next boundary. -/
def Obligations.AnUnacknowledgedBatchPromotesTheStandby : Prop :=
  ∀ (s : State) (lst : Nat) (cb : CommitSet),
    let d := s.dev
    let n := d.nw
    n.stopped = false → d.jnl.camp = none → d.fst .a = fsActive → d.fst .b = fsStandby → n.faults = [] → n.stair = none →
    n.plan = none → n.switching = none → n.modState = msService → d.bit NW_REPAIRCFG_QEN = false → 0 ∈ n.batchDue → 0 ∉ n.acked →
    (1 ∈ n.batchDue → 1 ∈ n.acked) → n.sigB = [cb] → cb.signalAt ≤ n.cycle → n.uncommitted cb.scan = true → n.fetch = none →
    Answers (.newelCycle true none lst) s fun u =>
      u.fst .a = fsFailed ∧ u.fst .b = fsActive ∧ u.get NW_FAULTA_CODE = 0x08 ∧ u.active = some .b ∧
      u.get NW_SWCNT_FAILOVER = min (d.get NW_SWCNT_FAILOVER + 1) (2 ^ (NW_SWCNT_FAILOVER.hi + 1 - NW_SWCNT_FAILOVER.lo) - 1) ∧
      u.get NW_SWSTAT_CAUSE = 0x08 ∧ u.get NW_SWSTAT_FROM = 0 ∧ u.nw.modState = msDegraded ∧
      u.nw.fetch = some (1, cb) ∧ u.nw.lastScan = n.lastScan

/-- An arrival that fits joins the ingress; with the buffer full a sample block replaces the unreleased one of its port, and anything else
waits at its source. The frames of a delivered batch that follow on join a flight's frames, up to the first that fails its check, which the
flight reports; an acknowledgement is noted; a reported fault, a supply fault and a reference fault wait for the boundary, the word that the
flight met is recorded, a halted Tread stops and a tick in progress is abandoned; a TIME_MAP later than any before is released with the next
batch; after four cycles without one the Newel synthesises it. -/
def Obligations.ArrivalsAcknowledgementsAndReportsWaitForTheBoundary : Prop :=
  ∀ (s : State) (f : Flt),
    let n := s.dev.nw
    let x := s.dev.fl f
    let faulted (l : List (Nat × Nat)) (d : Dev) : Dev := d.updNw fun n => { n with faults := n.faults ++ l }
    (∀ fr, s.dev.fits fr → AnswersDev (.inputArrival fr) s (s.dev.updNw fun n => { n with ingress := n.ingress ++ [fr] })) ∧
    (∀ fr, (fr.kind ≠ 0x04 ∨ ∀ g ∈ n.carried ++ n.ingress, g.kind = 0x04 → g.port ≠ fr.port) → 262144 < n.buffered + fr.bytes →
      AnswersDev (.inputArrival fr) s (s.dev.updNw fun n => { n with source := n.source ++ [fr] })) ∧
    (∀ fr, fr.kind = 0x04 → (∃ g ∈ n.carried ++ n.ingress, g.kind = 0x04 ∧ g.port = fr.port) → 262144 < n.buffered + fr.bytes →
      let put (l : List InFrame) : List InFrame := l.map fun g => if g.kind = 0x04 ∧ g.port = fr.port then fr else g
      Answers (.inputArrival fr) s fun u => u.nw.ingress = put n.ingress ∧ u.nw.carried = put n.carried ∧ u.nw.source = n.source ∧
        (u.nw.coalesced = n.coalesced + 1 ∨ u.nw.coalesced = 0) ∧ OnlyIn [.nw, .cor] noKey s.dev u) ∧
    (∀ fr gr, n.batch = [fr, gr] → gr.number = fr.number + 1 → n.batchDue.contains f.num = true →
      (x.nextNo = 0 ∨ x.nextNo = fr.number) → x.frameBad = false →
      (Answers (.batchDelivered f none) s fun u => (u.fl f).frames = x.frames ++ [fr, gr] ∧
        (u.fl f).nextNo = gr.number + 1 ∧ (u.fl f).lastBatch = n.cycle ∧ u.nw = n ∧ OnlyIn [f.part] noKey s.dev u) ∧
      (∀ b < 2, Answers (.batchDelivered f (some b)) s fun u => (u.fl f).frames = x.frames ++ [fr].take b ∧ (u.fl f).frameBad = true ∧
        (u.fl f).lastBatch = x.lastBatch ∧ u.nw.faults = n.faults ++ [(f.num, 0x07)] ∧ OnlyIn [f.part, .nw] noKey s.dev u)) ∧
    (f.num ∉ n.acked → AnswersDev (.batchAck f) s (s.dev.updNw fun n => { n with acked := n.acked ++ [f.num] })) ∧
    (∀ code t p, code < 3 ∨ 6 < code → AnswersDev (.flightFaultReport f code t p) s (faulted [(f.num, code)] s.dev)) ∧
    (∀ t, AnswersDev (.flightFaultReport f 3 t none) s (faulted [(f.num, 3)] s.dev) ∧
      AnswersDev (.flightFaultReport f 6 t none) s (faulted [(f.num, 6)] s.dev) ∧
      (Answers (.flightFaultReport f 4 t none) s fun u => (u.tread f t).halted = true ∧ (u.tread f t).running = false ∧
        u.nw.faults = n.faults ++ [(f.num, 4)] ∧ OnlyIn [f.part, .nw] noKey s.dev u) ∧
      AnswersDev (.flightFaultReport f 5 t none) s (faulted [(f.num, 5)]
        (s.dev.updFl f fun y => { y with enf := { y.enf with due := none } }))) ∧
    (∀ code t pb w, 3 ≤ code → code ≤ 6 → pb < 64 → w < 32768 → Answers (.flightFaultReport f code t (some (pb, w))) s fun u =>
      u.get (FL_ERRADDR_PBANK.at f) = pb ∧ u.get (FL_ERRADDR_WORD.at f) = w ∧ u.bit (FL_ERRADDR_UE.at f) = true ∧
      u.get (FL_ERRADDR_AGENT.at f) = code - 3 ∧ u.nw.faults = n.faults ++ [(f.num, code)]) ∧
    AnswersDev (.flightSupplyOutOfRange f) s (faulted [(f.num, 0x01)] s.dev) ∧
    AnswersDev .referenceFault s (faulted [(0, 0x01), (1, 0x01)] s.dev) ∧
    (∀ q m, (s.dev.cor.down.accept q).2 = true → n.newMap = none → (∀ l, n.lastMap = some l → l.c < m.c) →
      Answers (.timeMap q m) s fun u => u.nw.newMap = some m ∧ u.nw.lastMap = some m ∧ u.nw.sinceMap = 0 ∧
        OnlyIn [.nw, .cor] noKey s.dev u) ∧
    (∀ m, n.lastMap = some m → 4 ≤ n.sinceMap → Answers .timeMapSynthesis s fun u =>
      (∃ x, u.nw.newMap = some x ∧ x.c = n.cycle + 1 ∧ x.holdover = true ∧ x.stepped = false ∧ x.len = m.len ∧
        x.ns * 2 ^ 32 + x.frac = m.ns * 2 ^ 32 + m.frac + (n.cycle + 1 - m.c) * (m.len * 2 ^ 32 + m.lenFrac)) ∧
      u.nw.synth = true ∧ OnlyIn [.nw] noKey s.dev u)

/-- PLAN by the operator with 16 matches is accepted and waits, and is refused with E_BUSY_SERVICE otherwise; TEST takes a standby flight
to TESTING; a quarantine of a flight in RESET shows its reason, and a release returns it to RESET; a repair that is due tests the flight;
the end of the bulk copy begins round 1, the end of the freeze begins the verification, with the joining flight holding the active
flight's points and memory. A faulted Newel closes its gate and counts on when it resumes. -/
def Obligations.RequestsToTheNewelChangeTheFlightStates : Prop :=
  ∀ (s : State) (f : Flt),
    let d := s.dev
    (∀ after, after < 3 → d.bit NW_SWCTL_BUSY = false → d.pair.isSome = true → d.nw.matched = 16 → d.nw.stair = none →
      Answers (.plannedSwitchover 1 after) s fun u => u.nw.switching = some ⟨false, d.get NW_SWCTL_TARGET, after⟩ ∧
        u.bit NW_SWCTL_BUSY = true ∧ u.fst .a = d.fst .a ∧ u.fst .b = d.fst .b ∧ OnlyIn [.nw] (fun k => k == NW_SWCTL) d u) ∧
    (∀ after, d.nw.matched < 16 → Answers (.plannedSwitchover 1 after) s fun u =>
      u.nw.switching = d.nw.switching ∧ u.get NW_SWCTL_RESULT = E_BUSY_SERVICE ∧ u.bit NW_SWCTL_DONE = true ∧
      u.bit NW_SWCTL_BUSY = d.bit NW_SWCTL_BUSY) ∧
    (∀ role after, role ≠ 1 → AnswersDev (.plannedSwitchover role after) s d) ∧
    (∀ force, d.bit NW_SWCTL_BUSY = false → d.fst f = fsStandby → d.fst f.other = fsActive → d.nw.modState = msService →
      Answers (.logicBistRequest 1 f force) s fun u => u.fst f = fsTesting ∧ u.fst f.other = fsActive ∧
        u.bit NW_SWCTL_BUSY = true ∧ u.get (nwFault f NW_FAULTA_CODE) = 0x12) ∧
    (∀ restore, d.fst f = fsReset → d.nw.stair = none → d.nw.switching = none → d.nw.modState = msDegraded → d.pair = none →
      Answers (.quarantineSet 1 f restore) s fun u => u.fst f = fsQuarantined ∧ u.bit (nwQuar f) = true ∧
        u.get (nwReason f) = (if restore then 5 else 4) ∧ u.fst f.other = d.fst f.other) ∧
    (d.fst f = fsQuarantined → Answers (.quarantineRelease 1 f) s fun u => u.fst f = fsReset ∧ u.bit (nwQuar f) = false ∧
      u.get (nwReason f) = 0 ∧ u.fst f.other = d.fst f.other ∧ u.fa = d.fa ∧ u.fb = d.fb) ∧
    (d.fst f = fsFailed ∨ (d.fst f = fsReset ∧ d.nw.held f = false) → 0 < d.get NW_REPAIRCFG_RETRY → d.nw.retry f = some 0 → d.get NW_REPAIRCFG_RETRY * 400 ≤ d.nw.cycle →
      Answers (.repairRetry f) s fun u => u.fst f = fsTesting ∧ u.nw.retry f = none ∧ (u.fl f).pts = [] ∧
        u.fl f.other = d.fl f.other) ∧
    (∀ st, d.nw.stair = some st → d.active.isSome = true → d.get NW_STAIRSTAT_PHASE = 1 → Answers (.stairBulkDone []) s fun u =>
      u.get NW_STAIRSTAT_PHASE = 2 ∧ u.get NW_STAIRSTAT_ROUND = 1 ∧ OnlyIn [] (fun k => k == NW_STAIRSTAT) d u) ∧
    (∀ st us, d.nw.stair = some st → Flt.ofNum st.flight = f → d.active = some f.other → d.get NW_STAIRSTAT_PHASE = 3 →
      Answers (.stairFreezeDone us) s fun u => u.get NW_STAIRSTAT_PHASE = 4 ∧ (u.fl f).pts = (d.fl f.other).pts ∧
        (u.fl f).lmem = (d.fl f.other).lmem ∧ (u.fl f).frames = (d.fl f).frames ∧ (u.fl f.other).pts = (d.fl f.other).pts) ∧
    (Answers .newelFault s fun u => u.nw.stopped = true ∧ u.nw.gate = false ∧ u.nw.fetch = none ∧ u.nw.cycle = d.nw.cycle ∧
      u.nw.nextFrame = d.nw.nextFrame ∧ OnlyIn [.nw] noKey d u) ∧
    (d.nw.stopped = true → d.jnl.camp = none → Answers .newelResume s fun u => u.nw.stopped = false ∧
      u.nw.cycle = d.nw.cycle ∧ u.nw.nextFrame = d.nw.nextFrame ∧ OnlyIn [.nw, .cor] noKey d u)

/-! ## The Corridor (chapters 01, 04, 06, 16 and 19) -/

/-- An acknowledgement drops the message and those before it and clears the count of failed sends; a CRC error with a message waiting
counts, and the third moves the direction to its spare lane and takes it from the budget, or loses the direction; a damaged message ends the receiver's run of
heartbeats, and a word that the Foyer's port meets uncorrectable is recorded; an unknown type in order is an event; a reply frees its request,
and the proxy shows its status, but for a status that R11 never returns; a timeout resends up to three times under a new sequence. -/
def Obligations.CorridorLinkAcknowledgesResendsAndDrops : Prop :=
  ∀ s : State,
    let d := s.dev
    let c := d.cor
    (∀ pre m post, c.downQ = pre ++ m :: post → (∀ x ∈ pre, x.seq ≠ m.seq) → Answers (.linkAck true m.seq) s fun u =>
      u.cor.downQ = post ∧ u.cor.down.fails = 0 ∧ u.cor.up = c.up ∧ u.cor.upQ = c.upQ ∧ OnlyIn [.cor] noKey d u) ∧
    (∀ pre m post, c.upQ = pre ++ m :: post → (∀ x ∈ pre, x.1 ≠ m.1) → Answers (.linkAck false m.1) s fun u =>
      u.cor.upQ = post ∧ u.cor.up.fails = 0 ∧ u.cor.downQ = c.downQ ∧ OnlyIn [.cor] noKey d u) ∧
    (c.downQ ≠ [] → c.down.lost = false → c.down.fails < 2 → Answers (.corridorNak true true) s fun u =>
      u.cor.down.fails = c.down.fails + 1 ∧ u.cor.down.spare = c.down.spare ∧ OnlyIn [.cor] noKey d u) ∧
    (c.downQ ≠ [] → c.down.lost = false → 2 ≤ c.down.fails → c.down.spare = false → d.bit FY_SPAREBUD0_CRDOWN = true →
      Answers (.corridorNak true true) s fun u => u.cor.down.spare = true ∧ u.cor.down.fails = 0 ∧ u.cor.down.lost = false ∧
        u.bit FY_SPAREBUD0_CRDOWN = false ∧ u.mst = (if d.mst = msService then msDegraded else d.mst) ∧
        OnlyIn [.cor, .arc, .upd] (orEvent [FY_SPAREBUD0, FY_MODSTATE]) d u) ∧
    (c.downQ ≠ [] → c.down.lost = false → 2 ≤ c.down.fails → c.down.spare = true ∨ d.bit FY_SPAREBUD0_CRDOWN = false →
      Answers (.corridorNak true true) s fun u => u.cor.down.lost = true ∧ u.cor.down.fails = 0 ∧ OnlyIn [.cor] noKey d u) ∧
    (∀ down, AnswersDev (.corridorNak down false) s d) ∧
    AnswersDev (.corridorCrcError true none) s { d with cor := { c with hbHost := 0 } } ∧
    (∀ ue, AnswersDev (.corridorCrcError false ue) s { d with cor := { c with hbField := 0 } }) ∧
    (∀ pb w, pb < 64 → w < 32768 → Answers (.corridorCrcError true (some (pb, w))) s fun u => u.cor = { c with hbHost := 0 } ∧
      u.get FY_ERRADDR_PBANK = pb ∧ u.get FY_ERRADDR_WORD = w ∧ u.bit FY_ERRADDR_UE = true ∧
      OnlyIn [.cor] (fun k => k == FY_UECNT || k == FY_ERRADDR) d u) ∧
    (∀ typ q, (c.up.accept q).2 = true → d.landingFree → Answers (.corridorUnknownType true typ q true) s fun u =>
      d.landed u (.mk' .crUnknownType [typ, q]) ∧ u.cor.up.lastAcc = some (q % 65536) ∧ OnlyIn [.cor, .arc] (orEvent []) d u) ∧
    (∀ typ q, (c.down.accept q).2 = true → c.fieldUp = true → Answers (.corridorUnknownType false typ q false) s fun u =>
      d.sentEvent u (.mk' .crMalformed [typ, q]) ∧ OnlyIn [.cor] noKey d u) ∧
    (∀ q st p r, (c.up.accept q).2 = true → c.reqs = [r] → r.session ≠ 0 → r.reqId = 0 → r.typ = 0x41 → d.jnl.camp = none →
      st < 0x80 → Answers (.corridorReply q r.seq st p) s fun u => u.cor.reqs = [] ∧ u.bit FY_CRPCTL_BUSY = false ∧
        u.bit FY_CRPCTL_DONE = true ∧ u.get FY_CRPCTL_RESULT = st ∧ OnlyIn [.cor] (fun k => k == FY_CRPCTL) d u) ∧
    (∀ q a st p, 0x80 ≤ st → d.jnl.camp = none → Answers (.corridorReply q a st p) s fun u =>
      u.cor.reqs = c.reqs ∧ OnlyIn [.cor] noKey d u) ∧
    (∀ r, c.reqs = [r] → r.tries < 3 → c.hostUp = true → d.jnl.camp = none → Answers (.replyTimeout r.seq) s fun u =>
      u.cor.reqs = [{ r with tries := r.tries + 1, seq := (d.downSlot r.typ).1 }] ∧
      d.sentDown u r.typ r.payload r.suite r.role r.origin false ∧ OnlyIn [.cor] noKey d u)

/-- A running side sends a heartbeat in its class's place; while it holds the Corridor down one alone waits. Heartbeats at a side that holds
the Corridor down count; the third, with three at the other side, brings it up on both, sets CRUP and tells of it. A loss at the Foyer clears
CRUP and what waits; at the Newel it ends sending, and what it raises is kept. STATUS of each side carries the fields of its table; one of
another length is an event. The Newel follows a HOLD or LOADING of the Foyer outside service; the Foyer mirrors the field's words and follows it
into FAILSAFE. -/
def Obligations.CorridorLossRestorationAndStatus : Prop :=
  ∀ s : State,
    let d := s.dev
    let c := d.cor
    (d.mod.started = true → d.mod.romHold = false → Answers (.heartbeatSend true) s fun u =>
      (c.hostUp = true → d.sentDown u 0x7F [] 0 0 0 false) ∧ (c.hostUp = false → (u.cor.downQ.filter fun m => m.typ == 0x7F).length = 1) ∧
      u.cor.down.txSeq = (c.down.txSeq + 1) % 65536 ∧ OnlyIn [.cor] noKey d u) ∧
    (d.bit FY_MODSTATE_FIELDPWR = true → d.nw.stopped = false → Answers (.heartbeatSend false) s fun u =>
      (c.fieldUp = true → d.sentUp u ⟨0x7F, 0, 0, 0, 0, le 8 d.nw.cycle, none⟩) ∧
      (c.fieldUp = false → (u.cor.upQ.filter fun m => m.2.typ == 0x7F).length = 1) ∧
      u.cor.up.txSeq = (c.up.txSeq + 1) % 65536 ∧ OnlyIn [.cor] noKey d u) ∧
    (∀ q mark, d.mod.started = true → d.mod.romHold = false → c.up.lost = false → c.hostUp = false →
      (c.hbHost < 2 → Answers (.heartbeat true q mark) s fun u => u.cor.hbHost = c.hbHost + 1 ∧ u.cor.hostUp = false ∧
        u.time.markNo = some mark ∧ OnlyIn [.cor, .time] noKey d u) ∧
      (2 ≤ c.hbHost → 3 ≤ c.hbField → d.mst ≠ msBoot → Answers (.heartbeat true q mark) s fun u =>
        u.cor.hostUp = true ∧ u.cor.fieldUp = true ∧ u.bit FY_MODSTATE_CRUP = true ∧ u.mst = d.mst ∧
        (c.everHost = true → ∃ m ∈ u.cor.upQ, m.2 = evMsg (.mk' .crRestored [])))) ∧
    (c.hostUp = true → Answers (.corridorLost true) s fun u => u.cor.hostUp = false ∧ u.cor.downQ = [] ∧
      u.bit FY_MODSTATE_CRUP = false ∧ u.mst = d.mst ∧ OnlyIn [.cor, .arc] (orEvent [FY_MODSTATE]) d u) ∧
    (c.fieldUp = true → Answers (.corridorLost false) s fun u => u.cor.fieldUp = false ∧ u.cor.upQ = [] ∧
      (c.upQ = [] → d.nw.kept.length < 256 → u.nw.kept = d.nw.kept ++ [evMsg (.mk' .crLost [])]) ∧
      u.nw.cycle = d.nw.cycle ∧ OnlyIn [.cor, .nw] noKey d u) ∧
    (c.hostUp = true → Answers (.statusSend true) s fun u => ∃ p, d.sentDown u 0x7E p 0 0 0 false ∧ p.length = 8 ∧
      field p 0 1 = d.mst ∧ bitOf (field p 1 1) 0 = d.bit FY_TBSTAT_TRUST ∧ bitOf (field p 1 1) 1 = d.mod.committed ∧ OnlyIn [.cor] noKey d u) ∧
    (c.fieldUp = true → d.nw.stopped = false → Answers (.statusSend false) s fun u =>
      (∃ p, d.sentUp u ⟨0x7E, 0, 0, 0, 0, p, none⟩ ∧ p.length = 64 ∧ field p 0 1 = d.nw.modState % 256 ∧
        field p 4 4 = (d.rd NW_STAT).toNat ∧ field p 36 8 = (d.nw.lastScan.getD 0) % 2 ^ 64 ∧
        field p 44 4 = (d.rd FL_SPAREBUD).toNat ∧ field p 52 2 = d.spareGroup) ∧ OnlyIn [.cor] noKey d u) ∧
    (∀ q p, (c.down.accept q).2 = true → p.length = 8 →
      (field p 0 1 = msHold → msServes d.nw.modState = false → Answers (.statusToField q p) s fun u =>
        u.nw.modState = msHold ∧ u.nw.hostFlags = field p 1 1 ∧ u.fa = d.fa ∧ u.fb = d.fb) ∧
      (field p 0 1 = msService → Answers (.statusToField q p) s fun u =>
        u.nw.modState = d.nw.modState ∧ u.nw.hostFlags = field p 1 1 ∧ OnlyIn [.cor, .nw] noKey d u)) ∧
    (∀ q p, (c.down.accept q).2 = true → p.length ≠ 8 → c.fieldUp = true → Answers (.statusToField q p) s fun u =>
      d.sentEvent u (.mk' .crMalformed [0x7E, q]) ∧ OnlyIn [.cor] noKey d u) ∧
    (∀ q p, (c.up.accept q).2 = true → p.length = 64 → d.jnl.camp = none → d.mst = msService → field p 0 1 = msFailsafe →
      Answers (.statusToHost q p) s fun u => u.mst = msFailsafe ∧ (u.rd FY_NWSTAT).toNat = field p 4 4 ∧
        (u.rd FY_NWSCANLO).toNat = field p 36 4 ∧ (u.rd FY_NWSCANHI).toNat = field p 40 4 ∧ u.fa = d.fa ∧ u.fb = d.fb ∧ u.nw = d.nw) ∧
    (∀ q p, (c.up.accept q).2 = true → p.length ≠ 64 → d.landingFree → Answers (.statusToHost q p) s fun u =>
      d.landed u (.mk' .crMalformed [0x7E, q]) ∧ OnlyIn [.cor, .arc] (orEvent []) d u)

/-- A gradient above 40 K between two regions of one side is an event of that side and marks its time, at most one in 60 s while it lasts;
one of 40 K or less ends the condition, and regions of two sides are not compared. A second parity error of a crossing is a block fault of its
region, which is kept with the crossing. An accepted event record under a code of its chapter takes a landing entry with its flags; a block of
the mirror is kept for its scan; a full seal makes the retained snapshot of that scan; a notice and mesh data are sent on to the session. -/
def Obligations.FieldMessagesReachTheFoyer : Prop :=
  ∀ s : State,
    let d := s.dev
    let accepts (q : Nat) : Prop := (d.cor.up.accept q).2 = true
    (∀ r1 r2 k, gradPair true r1 r2 = true → 40 < k →
      (mget? d.mod.gradHost (8 * min r1 r2 + max r1 r2) = none → d.landingFree → Answers (.gradientCheck true r1 r2 k) s fun u =>
        d.landed u ⟨.modGradient, 0, none, [r1, r2, k]⟩ ∧
        u.mod = { d.mod with gradHost := mput d.mod.gradHost (8 * min r1 r2 + max r1 r2) d.time.raw } ∧ OnlyIn [.mod, .arc] (orEvent []) d u) ∧
      (∀ t, mget? d.mod.gradHost (8 * min r1 r2 + max r1 r2) = some t → d.time.raw < t + 60 * rawPerSec →
        AnswersDev (.gradientCheck true r1 r2 k) s d)) ∧
    (∀ r1 r2 k, gradPair false r1 r2 = true → 40 < k → mget? d.mod.gradField (8 * min r1 r2 + max r1 r2) = none → d.cor.fieldUp = true →
      Answers (.gradientCheck false r1 r2 k) s fun u => d.sentEvent u ⟨.modGradient, 0, none, [r1, r2, k]⟩ ∧
        u.mod = { d.mod with gradField := mput d.mod.gradField (8 * min r1 r2 + max r1 r2) d.nw.cycle } ∧ OnlyIn [.mod, .cor] noKey d u) ∧
    (∀ r1 r2 k, k ≤ 40 →
      AnswersDev (.gradientCheck true r1 r2 k) s (if gradPair true r1 r2 then
        d.updMod fun m => { m with gradHost := mdel m.gradHost (8 * min r1 r2 + max r1 r2) } else d) ∧
      AnswersDev (.gradientCheck false r1 r2 k) s (if gradPair false r1 r2 then
        d.updMod fun m => { m with gradField := mdel m.gradField (8 * min r1 r2 + max r1 r2) } else d)) ∧
    (∀ host r1 r2 k, gradPair host r1 r2 = false → AnswersDev (.gradientCheck host r1 r2 k) s d) ∧
    (∀ x region, mget false d.mod.crossing x = true → Answers (.crossingParityError x region true) s fun u =>
      u.nw.regionFaults = (if 3 ≤ region ∧ region ≤ 7 then d.nw.regionFaults ||| 2 ^ (region - 3) else d.nw.regionFaults) ∧
      (region, x) ∈ u.mod.blockFaults ∧ (∀ e ∈ u.mod.blockFaults, e ∈ d.mod.blockFaults ∨ e = (region, x)) ∧
      mget false u.mod.crossing x = false ∧ OnlyIn [.mod, .nw, .cor] noKey d u) ∧
    (∀ x region again, again = false ∨ mget false d.mod.crossing x = false → Answers (.crossingParityError x region again) s fun u =>
      mget false u.mod.crossing x = true ∧ u.mod.blockFaults = d.mod.blockFaults ∧ OnlyIn [.mod] noKey d u) ∧
    (∀ q ev counts held, ev.regionOk = true → accepts q → d.landingFree → d.upd.dist = none → Answers (.eventRecord q ev counts held) s fun u =>
      u.arc.landing = d.arc.landing ++ [⟨ev, counts, held⟩] ∧ u.cor.up.lastAcc = some (q % 65536) ∧ u.mst = d.mst ∧ u.mod = d.mod ∧
      u.fmp = d.fmp ∧ u.nw = d.nw) ∧
    (∀ q p, accepts q → p.length = 528 → field p 8 1 = 0 → d.mod.mirrorScan = some (field p 0 8) →
      Answers (.retainMirror q p) s fun u => mget [] u.mod.mirrorBlocks (field p 9 1) = p.drop 16 ∧
        (∀ b, b ≠ field p 9 1 → mget [] u.mod.mirrorBlocks b = mget [] d.mod.mirrorBlocks b) ∧ u.mod.snap = d.mod.snap ∧
        OnlyIn [.mod, .cor] noKey d u) ∧
    (∀ q p, accepts q → p.length = 88 → field p 8 1 = 1 → bitOf (field p 10 1) 0 = true → Answers (.retainMirror q p) s fun u =>
      (∃ x, u.mod.snap = some x ∧ x.scan = field p 0 8 ∧ x.layout = field p 20 4 ∧ x.cfg = field p 24 32 ∧ x.prog = field p 56 32) ∧
      u.mod.mirrorScan = none ∧ u.mod.mirrorBlocks = [] ∧ OnlyIn [.mod, .cor] noKey d u) ∧
    (∀ q ses entries x, accepts q → mget? d.fmp.sessions ses = some x → x.txSeq + entries.length + 70000 < 2 ^ 63 →
      Answers (.pointNotify q ses entries) s fun u => ∃ y, mget? u.fmp.sessions ses = some y ∧ x.txSeq < y.txSeq ∧
        y.replies = x.replies ∧ y.busy = x.busy) ∧
    (∀ q ses entries, accepts q → mget? d.fmp.sessions ses = none → Answers (.pointNotify q ses entries) s fun u =>
      OnlyIn [.cor] noKey d u) ∧
    (∀ q p ses x, accepts q → d.fmp.sessions = [(ses, x)] → x.role = 1 → x.txSeq + p.length + 70000 < 2 ^ 63 →
      Answers (.meshUp q p) s fun u => ∃ y, mget? u.fmp.sessions ses = some y ∧ x.txSeq < y.txSeq ∧ y.replies = x.replies)

/-! ## Points and field registers (chapters 05, 06 and 16) -/

/-- POINT_WRITE answers with the message as a frame of the cycle, where it is accepted in order. What a flight does with it at a snapshot, for
one entry by the operator or by a suite role on a point of its suite: on a writable point without a force the value is loaded with QUAL GOOD,
STALE clear and the source of the message's origin, and the reply is E_OK; on a forced point only the value under the force changes; on an
absent or not writable point, or with a value outside the class, no point and no force changes and the reply names the first entry. Every
other point stays in each case. A role that may not write is answered E_ROLE. -/
def Obligations.PointWritesLoadOrAreRefusedWhole : Prop :=
  (∀ (s : State) (h : MsgHdr) (es : List (Nat × W32)), AnswersDev (.pointWrite h es) s (s.dev.messaged (.pointWrite h es))) ∧
  ∀ (d : Dev) (f : Flt) (h : MsgHdr) (n : Nat) (v : W32),
    let x := d.fl f
    let p := x.pt n
    let u := Dev.applyIn f true d (.pointWrite h [(n, v)])
    let y := u.fl f
    let answered (code : Nat) (body : List Byte) : Prop := y.msgs = x.msgs ++ [⟨0x11, h.seq, code, h.suite, h.role, body, none⟩]
    (h.role = 1 ∨ (h.role = 3 ∧ p.suite = h.suite) →
      (p.cls ≠ 0 → stExtwr p.status = true → clsAccepts p.cls v = true →
        (x.forceOf n = none → (y.pt n).value = v ∧ stQual (y.pt n).status = 0 ∧ stStale (y.pt n).status = false ∧
          stSource (y.pt n).status = (if h.origin = 1 then 11 else 10) ∧ (y.pt n).cls = p.cls ∧ y.forces = x.forces ∧
          (∀ m, m ≠ n → y.pt m = x.pt m) ∧ answered E_OK [255, 255, 0, 0]) ∧
        (∀ e fo, x.forceOf n = some (e, fo) → (y.pt n).value = p.value ∧ (mget Force.zero y.forces e).under = v ∧
          (mget Force.zero y.forces e).value = fo.value ∧ (∀ m, m ≠ n → y.pt m = x.pt m) ∧ answered E_OK [255, 255, 0, 0])) ∧
      (∀ code, writeStatus h.role h.suite p v = code → code ≠ E_OK → y.pts = x.pts ∧ y.forces = x.forces ∧ answered code [0, 0, 0, 0])) ∧
    (roleWrites h.role = false → y.pts = x.pts ∧ y.forces = x.forces ∧ answered E_ROLE [255, 255, 0, 0]) ∧
    (p.cls = 0 → writeStatus 1 h.suite p v = E_NO_POINT ∧ writeStatus 3 h.suite p v = E_SUITE) ∧
    (p.cls ≠ 0 → p.suite ≠ h.suite → writeStatus 3 h.suite p v = E_SUITE) ∧
    (p.cls ≠ 0 → stExtwr p.status = false → writeStatus 1 h.suite p v = E_NOT_WRITABLE) ∧
    (p.cls ≠ 0 → stExtwr p.status = true → clsAccepts p.cls v = false → writeStatus 1 h.suite p v = E_RANGE)

/-- FORCE_SET answers with the message as a frame of the cycle, where it is accepted in order. What a flight does with it at a snapshot, for one
entry by the operator: on an unforced point, with a free entry, it shows the forced value with QUAL FORCED, keeps value and status under the
force, and raises EV_FL_FORCE; releasing a force gives the point that value and status, with the change time of the scan, and frees the entry;
an action other than set and release is refused with E_RANGE, which is the model's choice (assumption 145); any other role is answered E_ROLE
and changes no point. -/
def Obligations.ForcesHoldAPointAndReleaseIt : Prop :=
  (∀ (s : State) (h : MsgHdr) (es : List (Nat × Nat × W32)), AnswersDev (.forceSet h es) s (s.dev.messaged (.forceSet h es))) ∧
  ∀ (d : Dev) (f : Flt) (h : MsgHdr) (n : Nat) (v : W32),
    let x := d.fl f
    let p := x.pt n
    let does (es : List (Nat × Nat × W32)) : FlightSt := (Dev.applyIn f true d (.forceSet h es)).fl f
    let answered (es : List (Nat × Nat × W32)) (code : Nat) (body : List Byte) : Prop :=
      (does es).msgs = x.msgs ++ [⟨0x13, h.seq, code, h.suite, h.role, body, none⟩]
    (h.role = 1 → p.cls ≠ 0 → clsAccepts p.cls v = true → x.forceOf n = none → x.forces.length < 512 →
      let y := does [(n, 1, v)]
      (y.pt n).value = v ∧ stQual (y.pt n).status = 4 ∧ stUnderq (y.pt n).status = stQual p.status ∧
        (∃ e, mget? x.forces e = none ∧ y.forceOf n = some (e, ⟨n, v, p.value, p.status, 1, h.suite⟩)) ∧
        (∀ m, m ≠ n → y.pt m = x.pt m) ∧ evMsg ⟨.flForce, f.region, some p.suite, [n, 1, v.toNat, 1, h.suite]⟩ ∈ y.msgs) ∧
    (∀ e fo, h.role = 1 → p.cls ≠ 0 → x.forces = [(e, fo)] → fo.point = n →
      let y := does [(n, 0, v)]
      (y.pt n).value = fo.under ∧ (y.pt n).status = fo.underStatus ∧ (y.pt n).ctime = x.mapTime ∧ y.forceOf n = none ∧
        y.forces = [] ∧ ∀ m, m ≠ n → y.pt m = x.pt m) ∧
    (∀ act, 1 < act → h.role = 1 → p.cls ≠ 0 →
      (does [(n, act, v)]).pts = x.pts ∧ (does [(n, act, v)]).forces = x.forces ∧ answered [(n, act, v)] E_RANGE [0, 0, 0, 0]) ∧
    (∀ es, h.role ≠ 1 → (does es).pts = x.pts ∧ (does es).forces = x.forces ∧ answered es E_ROLE [255, 255, 0, 0])

/-- POINT_READ in each of its operations answers with the message as a frame of the cycle, where it is accepted in order. What a flight does
with it at a snapshot: a read of one point by a reading role is answered E_OK with that point's own status, its sixteen bytes where it may be
read and zeros otherwise, and changes no point; SUBSCRIBE of a readable point takes an entry for the session; UNSUBSCRIBE, CLEAR_SESSION and
CLEAR_ALL remove exactly the entries they name. A role that may not read is answered E_ROLE, and a request whose length disagrees with its
count, or that carries entries in operations 3 and 4, E_RANGE. -/
def Obligations.PointReadsAndSubscriptions : Prop :=
  (∀ (s : State) (h : MsgHdr) (ses : Nat) (ps : List Nat) (es : List (Nat × Nat × Nat)),
    AnswersDev (.pointRead h ps) s (s.dev.messaged (.pointRead h ps)) ∧
    AnswersDev (.subscribe h ses es) s (s.dev.messaged (.subscribe h ses es)) ∧
    AnswersDev (.unsubscribe h ses ps) s (s.dev.messaged (.unsubscribe h ses ps)) ∧
    AnswersDev (.clearSession h ses) s (s.dev.messaged (.clearSession h ses)) ∧
    AnswersDev (.clearAll h) s (s.dev.messaged (.clearAll h))) ∧
  ∀ (d : Dev) (f : Flt) (h : MsgHdr) (n ses : Nat),
    let x := d.fl f
    let st := readStatus h.role h.suite (x.pt n)
    let does (m : FlightIn) : Dev := Dev.applyIn f true d m
    let after (m : FlightIn) : FlightSt := (does m).fl f
    let answered (m : FlightIn) (code : Nat) (body : List Byte) : Prop :=
      (after m).msgs = x.msgs ++ [⟨0x10, h.seq, code, h.suite, h.role, body, none⟩]
    (roleReads h.role = true →
      ((after (.pointRead h [n])).pts = x.pts ∧ (after (.pointRead h [n])).subs = x.subs ∧
        answered (.pointRead h [n]) E_OK
          ([1, 0, 0, 0] ++ (le 2 n ++ le 1 st ++ [0] ++ (if st = 0 then (x.pt n).bytes else List.replicate 16 0)))) ∧
      (∀ iv db, st = 0 → x.subs = [] →
        (∃ e y, (after (.subscribe h ses [(n, iv, db)])).subs = [(e, y)] ∧ y.point = n ∧ y.session = ses ∧ y.role = h.role ∧
          y.suite = h.suite ∧ y.minInterval = iv ∧ y.deadband = BitVec.ofNat 32 db ∧ y.sent = false) ∧
        (after (.subscribe h ses [(n, iv, db)])).pts = x.pts ∧ (does (.subscribe h ses [(n, iv, db)])).get (FL_PTSTAT_SUBS.at f) = 1) ∧
      (∀ iv db, st ≠ 0 → (after (.subscribe h ses [(n, iv, db)])).subs = x.subs ∧ (after (.subscribe h ses [(n, iv, db)])).pts = x.pts) ∧
      (∀ ps, ps.length ≤ 51 → (after (.unsubscribe h ses ps)).pts = x.pts ∧
        ∀ e, e ∈ (after (.unsubscribe h ses ps)).subs ↔ e ∈ x.subs ∧ ¬(e.2.session = ses ∧ e.2.point ∈ ps)) ∧
      ((after (.clearSession h ses)).pts = x.pts ∧ ∀ e, e ∈ (after (.clearSession h ses)).subs ↔ e ∈ x.subs ∧ e.2.session ≠ ses) ∧
      ((after (.clearAll h)).pts = x.pts ∧ (after (.clearAll h)).subs = [])) ∧
    (roleReads h.role = false → ∀ ps, (after (.pointRead h ps)).pts = x.pts ∧ answered (.pointRead h ps) E_ROLE [0, 0, 0, 0]) ∧
    (∀ p, p.length ≠ 4 + 8 * field p 2 2 ∨ (3 ≤ field p 0 1 ∧ field p 2 2 ≠ 0) →
      answered (parsePoint h p) E_RANGE [0, 0, 0, 0] ∧ (after (parsePoint h p)).pts = x.pts ∧ (after (parsePoint h p)).subs = x.subs)

/-- An accepted REG_READ of a visible Newel, Gallery or Loggia register is answered at once with its value, and one that fails its check with
the code; one of a flight becomes a frame where that flight will consume it and is answered E_PD otherwise, and at the snapshot the named flight
alone answers it. A REG_WRITE of another region than the Newel's becomes a frame; at the snapshot a Gallery or Loggia write changes no register
of them but joins the register writes of the flight's scan, and one that fails its check changes no register; one of the Newel's registers that
fails its check is answered with the code. -/
def Obligations.FieldRegisterMessages : Prop :=
  (∀ (s : State) (h : MsgHdr) (o : Nat),
    let d := s.dev
    let accepted : Prop := (d.cor.down.accept h.seq).2 = true ∧ d.cor.fieldUp = true
    let told (u : Dev) (typ code : Nat) (body : List Byte) : Prop :=
      d.sentUp u ⟨typ, h.seq, code, h.suite, h.role, body, none⟩ ∧ OnlyIn [.cor, .nw] noKey d u
    (∀ region, accepted → region ≠ 3 → region ≠ 4 → d.regCheck h.role region 1 o = (E_OK, 0xFFFF) →
      Answers (.regRead h region 1 o) s fun u =>
        told u 0x40 E_OK ([255, 255, 0, 0] ++ le 4 (d.fieldRead (region * 2 ^ 24 + o)).toNat)) ∧
    (∀ region count, accepted → region ≠ 3 → region ≠ 4 → (d.regCheck h.role region count o).1 ≠ E_OK →
      Answers (.regRead h region count o) s fun u => ∃ b, told u 0x40 (d.regCheck h.role region count o).1 b) ∧
    (∀ (f : Flt) count, d.takesReads f = true →
      AnswersDev (.regRead h (3 + f.num) count o) s (d.messaged (.regRead h (3 + f.num) count o))) ∧
    (∀ (f : Flt) count, accepted → d.takesReads f = false → Answers (.regRead h (3 + f.num) count o) s fun u =>
      told u 0x40 E_PD [255, 255, 0, 0]) ∧
    (∀ region vs, region ≠ 5 → AnswersDev (.regWrite h region o vs) s (d.messaged (.regWrite h region o vs))) ∧
    (∀ vs, accepted → (d.regCheck h.role 5 vs.length o).1 ≠ E_OK → Answers (.regWrite h 5 o vs) s fun u =>
      ∃ b, told u 0x41 (d.regCheck h.role 5 vs.length o).1 b)) ∧
  ∀ (d : Dev) (f : Flt) (h : MsgHdr) (o region : Nat) (locked : Bool),
    let does (vs : List W32) : Dev := Dev.applyIn f locked d (.regWrite h region o vs)
    (∀ v, region = 6 ∨ (region = 7 ∧ (regIx (region * 2 ^ 24 + o) LG_CHCFG 8) = none) → d.regCheck h.role region 1 o = (E_OK, 0xFFFF) →
      ((does [v]).fl f).regw = (d.fl f).regw ++ [(region * 2 ^ 24 + o, v)] ∧ OnlyIn [f.part] noKey d (does [v])) ∧
    (∀ vs, (d.regCheck h.role region vs.length o).1 ≠ E_OK → ((does vs).fl f).regw = (d.fl f).regw ∧ OnlyIn [f.part] noKey d (does vs)) ∧
    (∀ count, region ≠ 3 + f.num → Dev.applyIn f locked d (.regRead h region count o) = d) ∧
    (region = 3 + f.num → d.cor.fieldUp = true → d.regCheck h.role region 1 o = (E_OK, 0xFFFF) →
      d.sentUp (Dev.applyIn f locked d (.regRead h region 1 o))
        ⟨0x40, h.seq, E_OK, h.suite, h.role, [255, 255, 0, 0] ++ le 4 (d.fieldRead (region * 2 ^ 24 + o)).toNat, none⟩)

/-! ## Scans, enables and on-line change (chapters 06, 10, 18 and 20) -/

/-- TASK_ENABLE, SCHEDULE_ENABLE and RETAIN_FULL answer with the write as a frame of the cycle. What a flight does with it at a snapshot:
TASK_ENABLE puts the word into FL_TASKEN0 or FL_TASKEN1 and raises EV_FL_TASK_ENABLE for each bit that changes; RETAIN_FULL sets
FL_RETAIN.FULL; SCHEDULE_ENABLE puts the word into FL_SCHEDEN, and a catch-up is due of exactly the schedules that it newly enables or that
were due and stay enabled. Nothing outside the flight and no other register changes, and a number outside the array changes nothing. -/
def Obligations.EnablesWrittenAtASnapshot : Prop :=
  (∀ (s : State) (n : Nat) (v : W32),
    AnswersDev (.taskEnable n v) s (s.dev.arrived (.taskEnable n v)) ∧
    AnswersDev (.scheduleEnable n v) s (s.dev.arrived (.scheduleEnable n v)) ∧
    AnswersDev .retainFull s (s.dev.arrived .retainFull)) ∧
  ∀ (d : Dev) (f : Flt) (locked : Bool) (n : Nat) (v : W32),
    (∀ x : Fld, x = (if n = 0 then FL_TASKEN0_EN else FL_TASKEN1_EN) → n < 2 →
      let u := Dev.applyIn f locked d (.taskEnable n v)
      u.get (x.at f) = v.toNat ∧
        (u.fl f).msgs = (d.fl f).msgs ++ ((List.range 32).filter fun b => bitOf (d.get (x.at f)) b != v.getLsbD b).map (fun b =>
          evMsg ⟨.flTaskEnable, f.region, none, [((32 * n + b : Nat) : Int), ((b2n (v.getLsbD b) : Nat) : Int)]⟩) ∧
        (u.fl f).pts = (d.fl f).pts ∧ OnlyIn [f.part] (fun k => k == (x.at f).key) d u) ∧
    (∀ x : Fld, x = FL_SCHEDEN_EN.ix n → n < 8 →
      let u := Dev.applyIn f locked d (.scheduleEnable n v)
      u.get (x.at f) = v.toNat ∧
        (∀ i, i < 32 → (32 * n + i ∈ (u.fl f).sch.enDue ↔ v.getLsbD i = true ∧
          (bitOf (d.get (x.at f)) i = false ∨ 32 * n + i ∈ (d.fl f).sch.enDue))) ∧
        (∀ j, j / 32 ≠ n → (j ∈ (u.fl f).sch.enDue ↔ j ∈ (d.fl f).sch.enDue)) ∧
        (u.fl f).pts = (d.fl f).pts ∧ OnlyIn [f.part] (fun k => k == (x.at f).key) d u) ∧
    (let u := Dev.applyIn f locked d .retainFull
     u.bit (FL_RETAIN_FULL.at f) = true ∧ (u.fl f).fullAgain = ((d.fl f).inScan && (d.fl f).fullDue) ∧
       (u.fl f).mirror = (d.fl f).mirror ∧ OnlyIn [f.part] (fun k => k == f.key FL_RETAIN) d u) ∧
    (2 ≤ n → Dev.applyIn f locked d (.taskEnable n v) = d) ∧ (8 ≤ n → Dev.applyIn f locked d (.scheduleEnable n v) = d)

/-- When the batch of a flight's next grid is present, SCAN begins the next scan at that grid, consumes every frame up to it and shows the
grid; every point message among them has its reply in the messages of the scan's commit set. When no Tread runs, LEVEL_BARRIER opens the first later level that has anything to run, write buffers empty, or ends the scan: one
more commit set is signalled, of a scan that the Newel has not committed, and FL_SCANTIME and the scan's number are shown. A single buffered
write of a marker word, timer or counter whose memory words hold no error reaches the word under its mask. A barrier of a flight that is not in a scan, or frozen, or whose Tread runs, changes nothing. -/
def Obligations.ScansTakeTheirSnapshotAndTheirBarriers : Prop :=
  ∀ (s : State) (f : Flt),
    let d := s.dev
    let x := d.fl f
    (∀ wait dur dirty, d.scanReady f = true → d.frozen f = false → d.nw.stair = none → x.switchDue = false →
      Answers (.scan f wait dur dirty) s fun u =>
        (u.fl f).scan = some (match x.scan with | some k => k + 1 | none => 0) ∧ (u.fl f).grid = x.nextGrid ∧
        (u.fl f).inScan = true ∧ (u.fl f).frames = x.frames.filter (fun fr => decide (x.nextGrid < fr.cycle)) ∧
        u.rd (f.key FL_SCANGRID) = BitVec.ofNat 32 x.nextGrid ∧ u.fl f.other = d.fl f.other ∧
        (∀ fr ∈ x.frames, ∀ m, fr.cycle ≤ x.nextGrid → fr.input = some m → m.typ ∈ [0x10, 0x11, 0x13] →
          ∃ r ∈ (u.fl f).msgs, r.typ = m.typ ∧ r.answers = m.hdr.seq)) ∧
    (x.inScan = false ∨ d.frozen f = true ∨ (∃ e, e ∈ x.treads ∧ e.2.running = true) →
      ∀ time, AnswersDev (.levelBarrier f time) s d) ∧
    (∀ time, x.inScan = true → d.frozen f = false → (∀ e, e ∈ x.treads → e.2.running = false) →
      Answers (.levelBarrier f time) s fun u =>
        (∀ l, (levelsAfter x.level).find? ((d.barrier f).levelDue f) = some l →
          (u.fl f).level = l ∧ (u.fl f).wrbuf = [] ∧ (u.fl f).inScan = true ∧ (u.fl f).scan = x.scan) ∧
        ((levelsAfter x.level).find? ((d.barrier f).levelDue f) = none →
          (u.fl f).level = .idle ∧ (u.fl f).inScan = false ∧ (d.fst f = fsSyncing ∨ d.nw.uncommitted (x.scan.getD 0) = true → (u.nw.sig f).length = (d.nw.sig f).length + 1) ∧
          u.get (FL_SCANTIME_LAST.at f) = min time 0xFFFF ∧ u.rd (f.key FL_SCANLO) = BitVec.ofNat 32 (x.scan.getD 0)) ∧
        (∀ e : WrEntry, x.wrbuf = [e] → e.task < 64 → e.addr / 2 ^ 24 ∈ [3, 5, 6] → d.kzClean f e.addr →
          d.bit (FL_ECCTEST_ARM.at f) = false → (u.fl f).lw e.addr = (x.lw e.addr &&& ~~~e.mask) ||| (e.data &&& e.mask)) ∧
        u.fl f.other = d.fl f.other)

/-- UPDATE_STAGE and ACTIVATE of a program or configuration answer with the message as a frame of the cycle. What a flight does with them at a
snapshot, in a role of R131: it keeps the blocks until the last, and an image without violation becomes the shadow; ACTIVATE of a shadow that
needs no restart and breaks no rule, outside a stair transfer, makes the switch due; without a shadow it is answered E_SEQ. Accepted microcode is
staged in the Newel, and its ACTIVATE stops the Newel or pauses the Gallery or the Loggia until MICROCODE_RELOAD_DONE. ONLINE_SWITCH, the
snapshot of the next scan, runs the shadow in the flight, keeps the former image, and leaves the other flight on its own. -/
def Obligations.StagingActivationAndTheSwitch : Prop :=
  (∀ (s : State) (f : Flt) (h : MsgHdr) (comp : Nat),
    let d := s.dev
    let x := d.fl f
    (comp = 0x10 ∨ comp = 0x11 → ∀ last data ok,
      AnswersDev (.updateStage h comp last data) s (d.messaged (.updateStage h comp last data)) ∧
      AnswersDev (.activate h comp ok) s (d.messaged (.activate h comp ok))) ∧
    (comp = 2 ∨ comp = 4 ∨ comp = 5 → (d.cor.down.accept h.seq).2 = true → 1 ≤ h.role → h.role ≤ 5 →
      (∀ last data, Answers (.updateStage h comp last data) s fun u => (comp ∈ u.nw.staged ↔ last = true) ∧
        mget [] u.nw.load comp = (if d.nw.staged.contains comp then data else mget [] d.nw.load comp ++ data) ∧ u.fa = d.fa ∧ u.fb = d.fb ∧
        (d.cor.fieldUp = true → d.sentUp u ⟨0x60, h.seq, E_OK, h.suite, h.role, [], none⟩)) ∧
      (comp ∈ d.nw.staged → Answers (.activate h comp true) s fun u => comp ∉ u.nw.staged ∧
        u.nw.stopped = (d.nw.stopped || comp == 2) ∧ (comp = 4 → u.gl.paused = true) ∧ (comp = 5 → u.lg.paused = true))) ∧
    (∀ loggia, d.jnl.camp = none → AnswersDev (.microcodeReloadDone loggia) s
      (if loggia then d.updLg fun y => { y with paused := false } else d.updGl fun y => { y with paused := false })) ∧
    (∀ c, x.switchDue = true → x.shadow = some c → x.own = none → d.scanReady f = true → d.frozen f = false → x.enf.due = none →
      (∀ fr ∈ x.frames, x.nextGrid < fr.cycle) → Answers (.onlineSwitch f) s fun u =>
        u.cfgOf f = c ∧ u.cfgOf f.other = d.cfgOf f.other ∧ (u.fl f).former = some (d.cfgOf f) ∧ (u.fl f).shadow = none ∧
        (u.fl f).switchDue = false ∧ (u.fl f).switched = true ∧ u.get (FL_PROGVER_ACTIVE.at f) = c.progVersion % 65536 ∧
        u.bit (FL_PROGSTAT_PENDING.at f) = false ∧ (u.fl f).inScan = true ∧ (u.fl f.other).pts = (d.fl f.other).pts)) ∧
  ∀ (d : Dev) (f : Flt) (h : MsgHdr) (comp : Nat),
    let x := d.fl f
    let stages (last : Bool) (data : List Byte) : Dev := Dev.applyIn f true d (.updateStage h comp last data)
    let acts (ok : Bool) : Dev := Dev.applyIn f true d (.activate h comp ok)
    let answered (u : Dev) (typ code : Nat) : Prop := (u.fl f).msgs = x.msgs ++ [⟨typ, h.seq, code, h.suite, h.role, [], none⟩]
    (1 ≤ h.role → h.role ≤ 5 →
      (∀ data, mget [] ((stages false data).fl f).stage comp = mget [] x.stage comp ++ data ∧ ((stages false data).fl f).shadow = x.shadow ∧
        answered (stages false data) 0x60 E_OK ∧ OnlyIn [f.part] noKey d (stages false data)) ∧
      (∀ data, d.stageBad f comp (mget [] x.stage comp ++ data) = [] →
        ((stages true data).fl f).shadow.isSome = true ∧ (stages true data).bit (FL_PROGSTAT_STAGED.at f) = true ∧
        (stages true data).cfgOf f = d.cfgOf f ∧ answered (stages true data) 0x60 E_OK) ∧
      (∀ data, d.stageBad f comp (mget [] x.stage comp ++ data) ≠ [] →
        ((stages true data).fl f).shadow = x.shadow ∧ answered (stages true data) 0x60 E_CONFIG) ∧
      (∀ c, x.shadow = some c → needsRestart (d.cfgOf f) c = false → d.nw.stair = none →
        imagesBad (d.get FY_UCSTAT_LIFECYCLE) c.image c.program = [] →
          ((acts true).fl f).switchDue = true ∧ (acts true).bit (FL_PROGSTAT_PENDING.at f) = true ∧
          (acts true).get (FL_PROGSTAT_RESULT.at f) = E_OK ∧ ((acts true).fl f).shadow = some c ∧ answered (acts true) 0x61 E_OK) ∧
      (∀ ok, x.shadow = none → ((acts ok).fl f).switchDue = x.switchDue ∧ (acts ok).get (FL_PROGSTAT_RESULT.at f) = E_SEQ ∧
        answered (acts ok) 0x61 E_SEQ)) ∧
    (h.role = 0 ∨ 5 < h.role → ∀ last data ok, answered (stages last data) 0x60 E_ROLE ∧ answered (acts ok) 0x61 E_ROLE ∧
      ((stages last data).fl f).stage = x.stage ∧ ((acts ok).fl f).switchDue = x.switchDue)

/-! ## Protected memory (chapter 03) -/

/-- With the scrubber enabled and the memory up, SCRUB_STEP changes the scrubber's position, which passes on word by word, bank by bank and into
the next pass; an invalid word is skipped, and one in order keeps its state but for the mark of an earlier correction. A correctable word not
corrected in the pass before is counted, recorded and in order again; one corrected in the pass before takes a free remap entry, carried out at
once; an uncorrectable one is counted, recorded and takes a free remap entry that awaits a full write. ECCTEST_ARM records its target, and arms
only a spare or vacated bank or a flight in TESTING. -/
def Obligations.ScrubbingCorrectsRecordsAndGoesOn : Prop :=
  ∀ (s : State) (m : Mem),
    let d := s.dev
    let fld := fun (a b : Fld) => m.fld a b
    let pb := d.get (fld FL_SCRUBPOS_PBANK FY_SCRUBPOS_PBANK)
    let w := d.get (fld FL_SCRUBPOS_WORD FY_SCRUBPOS_WORD)
    let pass := d.get (fld FL_SCRUBPOS_PASSES FY_SCRUBPOS_PASSES)
    let i := d.word m pb w
    let moved (u : Dev) : Prop :=
      (w + 1 < 32768 → u.get (fld FL_SCRUBPOS_WORD FY_SCRUBPOS_WORD) = w + 1 ∧ u.get (fld FL_SCRUBPOS_PBANK FY_SCRUBPOS_PBANK) = pb) ∧
      (w + 1 = 32768 → pb + 1 < m.banks →
        u.get (fld FL_SCRUBPOS_WORD FY_SCRUBPOS_WORD) = 0 ∧ u.get (fld FL_SCRUBPOS_PBANK FY_SCRUBPOS_PBANK) = pb + 1) ∧
      (w + 1 = 32768 → m.banks ≤ pb + 1 → u.get (fld FL_SCRUBPOS_WORD FY_SCRUBPOS_WORD) = 0 ∧
        u.get (fld FL_SCRUBPOS_PBANK FY_SCRUBPOS_PBANK) = 0 ∧
        u.get (fld FL_SCRUBPOS_PASSES FY_SCRUBPOS_PASSES) = (pass + 1) % 256 ∧ (u.mem m).ceCount = [] ∧ (u.mem m).ceDone = [])
    let posOnly (u : Dev) : Prop := OnlyIn [m.part] (fun k => k == (fld FL_SCRUBPOS_WORD FY_SCRUBPOS_WORD).key) d u
    let recorded (u : Dev) (cnt : Fld) (ue : Nat) : Prop :=
      u.get cnt = min (d.get cnt + 1) 0xFFFFFFFF ∧ u.get (fld FL_ERRADDR_PBANK FY_ERRADDR_PBANK) = pb ∧
      u.get (fld FL_ERRADDR_WORD FY_ERRADDR_WORD) = w ∧ u.get (fld FL_ERRADDR_UE FY_ERRADDR_UE) = ue ∧
      u.get (fld FL_ERRADDR_AGENT FY_ERRADDR_AGENT) = m.scrubber
    (d.memUp m = true → d.bit (fld FL_SCRUBCFG_EN FY_SCRUBCFG_EN) = true → pb < m.banks → i.err = .none →
      (∀ found, i.valid = false → Answers (.scrubStep m found) s fun u =>
        moved u ∧ (u.mem m).words = (d.mem m).words ∧ posOnly u) ∧
      (i.valid = true → Answers (.scrubStep m .none) s fun u =>
        moved u ∧ u.word m pb w = (if i.corrected then { i with corrected := false, pass := 0 } else i) ∧ posOnly u) ∧
      (i.valid = true → d.get (fld FL_SCRUBCFG_CETHR FY_SCRUBCFG_CETHR) = 0 →
        (i.corrected = false → Answers (.scrubStep m .correctable) s fun u => moved u ∧
          u.word m pb w = { i with err := .none, check := 0, corrected := true, pass := pass } ∧
          recorded u (fld FL_CECNT_COUNT FY_CECNT_COUNT) 0) ∧
        (∀ n, i.corrected = true → d.remapOf m pb w = none → d.remapFree m = some n → Answers (.scrubStep m .correctable) s fun u =>
          u.remapOf m pb w = some n ∧ u.bit (m.remapFld FL_REMAP_UE FY_REMAP_UE n) = false ∧ (u.word m m.banks n).valid = true ∧
          recorded u (fld FL_CECNT_COUNT FY_CECNT_COUNT) 0)) ∧
      (∀ n, i.valid = true → d.remapOf m pb w = none → d.remapFree m = some n → Answers (.scrubStep m .uncorrectable) s fun u =>
        (u.word m pb w).err = .uncorrectable ∧ u.remapOf m pb w = some n ∧
        u.bit (m.remapFld FL_REMAP_UE FY_REMAP_UE n) = true ∧ recorded u (fld FL_UECNT_COUNT FY_UECNT_COUNT) 1)) ∧
    (∀ b v mask, b < 64 → v < 32768 → mask < 256 → Answers (.ecctestArm m b v mask) s fun u =>
      u.get (fld FL_ECCTEST_PBANK FY_ECCTEST_PBANK) = b ∧ u.get (fld FL_ECCTEST_WORD FY_ECCTEST_WORD) = v ∧
      u.get (fld FL_ECCTEST_MASK FY_ECCTEST_MASK) = mask ∧
      u.bit (fld FL_ECCTEST_ARM FY_ECCTEST_ARM) = (d.eccOpen m b || d.bit (fld FL_ECCTEST_ARM FY_ECCTEST_ARM)) ∧
      OnlyIn [] (fun k => k == (fld FL_ECCTEST_ARM FY_ECCTEST_ARM).key) d u)

/-- With a free spare and no operation in progress BANK_EVACUATE and BANK_TEST begin the copy of the logical bank to the first spare, of whose
words nothing is known any more; otherwise they are refused E_BUSY_SERVICE and nothing begins, but for a forced test, which takes a standby
flight to TESTING. EVACUATION_DONE puts the logical bank on the spare and frees the former bank's remap
entries; the former bank is retired, or is under test after BANK_TEST. BANK_TEST_DONE makes a bank that passes a spare and retires one that fails. -/
def Obligations.EvacuationsMoveALogicalBank : Prop :=
  ∀ (s : State) (m : Mem) (lb : Nat),
    let d := s.dev
    let evac := m.fld FL_EVAC_BUSY FY_EVAC_BUSY
    lb < m.lbanks →
    (∀ sp, d.spareBank m = some sp → d.evacIdle m = true →
      let begun (test : Bool) (u : Dev) : Prop :=
        u.mem m = { d.mem m with
          evacTo := some (lb, sp), evacTest := test, words := (d.mem m).words.filter fun e => e.1 / 32768 ≠ sp
          ranges := (d.mem m).ranges.filter fun e => e.1 ≠ sp } ∧ u.bit evac = true ∧ OnlyIn [m.part] (fun k => k == evac.key) d u
      Answers (.bankEvacuate m lb) s (begun false) ∧ ∀ force, Answers (.bankTest m lb force) s (begun true)) ∧
    (∀ f, m = .fl f → d.spareBank m = none → d.evacIdle m = true → d.fst f = fsStandby → Answers (.bankTest m lb true) s fun u =>
      u.fst f = fsTesting ∧ u.fst f.other = d.fst f.other) ∧
    (d.spareBank m = none ∨ d.evacIdle m = false →
      (Answers (.bankEvacuate m lb) s fun u => u.get (m.fld FL_EVAC_RESULT FY_EVAC_RESULT) = E_BUSY_SERVICE ∧
        u.bit (m.fld FL_EVAC_DONE FY_EVAC_DONE) = true ∧ u.mem m = d.mem m ∧ OnlyIn [] (fun k => k == evac.key) d u) ∧
      (Answers (.bankTest m lb false) s fun u => u.get (m.fld FL_EVAC_RESULT FY_EVAC_RESULT) = E_BUSY_SERVICE ∧
        u.bit (m.fld FL_EVAC_DONE FY_EVAC_DONE) = true ∧ u.mem m = d.mem m ∧ OnlyIn [] (fun k => k == evac.key) d u)) ∧
    (∀ new ue, (d.mem m).evacTo = some (lb, new) → new < 64 → (d.mem m).memWait = [] → (d.mem m).evacWait = [] →
      d.get (m.fld FL_SCRUBCFG_CETHR FY_SCRUBCFG_CETHR) = 0 → new ≠ d.phys m lb →
      Answers (.evacuationDone m ue) s fun u =>
        u.phys m lb = new ∧ (u.mem m).evacTo = none ∧
        (∀ n, n < m.entries → d.bit (m.remapFld FL_REMAP_VALID FY_REMAP_VALID n) = true →
          d.get (m.remapFld FL_REMAP_PBANK FY_REMAP_PBANK n) = d.phys m lb →
          d.bit (m.remapFld FL_REMAP_UE FY_REMAP_UE n) = false → ue = [] → (d.mem m).words = [] →
          u.bit (m.remapFld FL_REMAP_VALID FY_REMAP_VALID n) = false) ∧
        ((d.mem m).evacTest = false → (u.mem m).retired = (d.mem m).retired ++ [d.phys m lb] ∧ u.bit evac = false ∧
          u.get (m.fld FL_EVAC_RESULT FY_EVAC_RESULT) = E_OK) ∧
        ((d.mem m).evacTest = true → (u.mem m).testing = some (d.phys m lb) ∧ (u.mem m).retired = (d.mem m).retired)) ∧
    (∀ b, (d.mem m).testing = some b → b < 64 → (d.mem m).evacWait = [] →
      (Answers (.bankTestDone m true) s fun u => (u.mem m).testing = none ∧ u.bit evac = false ∧
        (u.get (m.fld FL_SPAREMAP_SPARE0 FY_SPAREMAP_SPARE0) = b ∨ u.get (m.fld FL_SPAREMAP_SPARE1 FY_SPAREMAP_SPARE1) = b) ∧
        (u.mem m).retired = (d.mem m).retired) ∧
      (Answers (.bankTestDone m false) s fun u => (u.mem m).testing = none ∧ u.bit evac = false ∧
        (u.mem m).retired = (d.mem m).retired ++ [b]))

/-- LATCH_ACQUIRE of a free latch makes the reading master its owner, and of a held one changes nothing. LATCH_RELEASE by the owner frees it,
zero written to a free latch changes nothing, and every other write leaves the owner and raises EV_FL_LATCH_MISUSE or EV_FY_LATCH_MISUSE. -/
def Obligations.LatchesAreOwnedByOneMaster : Prop :=
  ∀ (s : State) (m : Mem) (n master : Nat),
    let d := s.dev
    let x := m.latch n
    n < 32 → master < 63 →
    (d.get x = 0 → Answers (.latchAcquire m n master) s fun u => u.get x = master + 1 ∧ OnlyIn [] (fun k => k == x.key) d u) ∧
    (d.get x ≠ 0 → AnswersDev (.latchAcquire m n master) s d) ∧
    (d.get x = master + 1 → Answers (.latchRelease m n master 0) s fun u => u.get x = 0 ∧ OnlyIn [] (fun k => k == x.key) d u) ∧
    (d.get x = 0 → AnswersDev (.latchRelease m n master 0) s d) ∧
    (∀ v, v ≠ 0 ∨ (d.get x ≠ 0 ∧ d.get x ≠ master + 1) → Answers (.latchRelease m n master v) s fun u => u.get x = d.get x ∧
      (m = .fy → d.landingFree → d.landed u (.mk' .fyLatchMisuse [master, n])) ∧
      (∀ f, m = .fl f → d.cor.fieldUp = true → d.sentEvent u ⟨.flLatchMisuse, f.region, none, [master, n]⟩))

/-! ## Remote I/O, DALI and Jalmethen (chapter 08) -/

/-- LINE_CYCLE of an enabled line, at its place among the cycles, makes an exchange for each station in RUN or APPLY that the commit gives an
image and one turn, the request on the wire, or counts an overrun while a cycle runs. A failed attempt, a reply with bad parity among them,
is retried up to RETRIES, and then the station is LOST with cause 1. The reply frame of R204 that fits the request in progress: a matching IDENT
leads to PARAM, PARAM_ACK to APPLY, a DATA reply from APPLY to RUN, FAILSAFE in a status to LOST with cause 2, RELEASED to OFF, or to SEARCH
where line and station are enabled again. STATION_MISSING, the enables and both kinds of disable act as their rules say. Nothing but the
Gallery, what goes to the Newel and the Corridor, and the line's registers changes. -/
def Obligations.StationsJoinRunAndAreLost : Prop :=
  ∀ (s : State) (id : Nat), id < 512 →
    let d := s.dev
    let n := id / 32
    let l := d.line n
    let only := OnlyIn [.gl, .nw, .cor] (keysIn [(GL_STSTATE, 512), (GL_RIOSTAT, 16), (GL_RIOCFG, 16)]) d
    let en := d.bit (GL_RIOCFG_EN.ix n)
    let sen := d.bit (GL_STSTATE_EN.ix id)
    let due := (d.lineStations n).filter fun i => mhas d.gl.outImg i && (d.ss i == ssRun || d.ss i == ssApply)
    let reply (typ : Nat) (payload : List Byte) : List Byte := rioBytes ⟨0x80 + id % 32, typ, l.seq, payload⟩
    (en = false ∧ l.stopAt = false ∨ d.lineStarts n = false → AnswersDev (.lineCycle n) s d) ∧
    (en = true → d.gl.paused = false → d.lineStarts n = true → l.running = true → Answers (.lineCycle n) s fun u =>
      u.get (GL_RIOSTAT_OVERRUN.ix n) = min (d.get (GL_RIOSTAT_OVERRUN.ix n) + 1) 255 ∧ (u.line n).todo = l.todo ∧ only u) ∧
    (en = true → d.gl.paused = false → d.lineStarts n = true → l.running = false → l.stopAt = false → l.haveOut = true →
      d.upd.forced.contains n = false → (∀ i, i ∈ d.lineStations n → (d.sta i).disableAt = false) → due ≠ [] →
      Answers (.lineCycle n) s fun u =>
        u.get (GL_RIOSTAT_CYCLES.ix n) = (d.get (GL_RIOSTAT_CYCLES.ix n) + 1) % 65536 ∧ (u.line n).running = true ∧
        (u.line n).todo = due.map (fun i => (i, false)) ∧ (u.line n).turn = d.nextTurn n ∧
        (∀ r, u.rioReq n = some r → r.typ = 0x03 ∧ (u.line n).wire = r.frame) ∧ only u) ∧
    (l.running = true → l.seq < 256 →
      (∀ rest, l.todo = (id, false) :: rest →
        (∀ bs, exec (.rioDataReply n false bs) s = exec (.rioAttemptTimeout id) s) ∧
        (l.tries + 1 ≤ d.retries n → Answers (.rioAttemptTimeout id) s fun u => (u.line n).tries = l.tries + 1 ∧ u.ss id = d.ss id ∧
          (u.line n).todo = l.todo ∧ u.get (GL_STSTATE_FAILS.ix id) = min (d.get (GL_STSTATE_FAILS.ix id) + 1) 65535 ∧ only u) ∧
        (d.retries n < l.tries + 1 → Answers (.rioAttemptTimeout id) s fun u => u.ss id = ssLost ∧
          u.get (GL_STSTATE_CAUSE.ix id) = 1 ∧ (u.sta id).fromLost = true ∧ (u.line n).todo = rest ∧ only u) ∧
        (∀ st ins, st < 256 → ins.length = (d.staCfg id).inputs → ins.length < 128 →
          let bs := reply 0x83 (le 1 st ++ ins)
          (d.ss id = ssApply → Answers (.rioDataReply n true bs) s fun u => u.ss id = ssRun ∧ (u.line n).todo = rest ∧ only u) ∧
          (d.ss id = ssRun → bitOf st 0 = false → Answers (.rioDataReply n true bs) s fun u =>
            u.ss id = ssRun ∧ (u.line n).todo = rest ∧ only u) ∧
          (d.ss id = ssRun → bitOf st 0 = true → Answers (.rioDataReply n true bs) s fun u =>
            u.ss id = ssLost ∧ u.get (GL_STSTATE_CAUSE.ix id) = 2 ∧ (u.line n).todo = rest ∧ only u))) ∧
      (∀ rest, l.todo = (id, true) :: rest → d.ss id ≠ ssOff → Answers (.released n true (reply 0x84 [])) s fun u =>
        u.ss id = (if en ∧ sen ∧ mhas d.mod.cfg.stations id then ssSearch else ssOff) ∧ (u.line n).todo = rest ∧ only u) ∧
      (l.todo = [] → l.turn = some id →
        (∀ v p fw i o ser, v < 65536 → p < 65536 → fw < 65536 → i < 256 → o < 256 → ser < 2 ^ 32 → d.ss id = ssSearch ∨ d.ss id = ssLost →
          Answers (.ident n true (reply 0x81 (le 2 v ++ le 2 p ++ le 2 fw ++ le 1 i ++ le 1 o ++ le 4 ser))) s fun u =>
            let c := mget StationCfg.zero d.mod.cfg.stations id
            (u.line n).turn = none ∧ only u ∧ (u.sta id).ident = (fw, ser) ∧
            ((c.vendor = v ∧ c.product = p ∧ c.inputs = i ∧ c.outputs = o) →
              u.ss id = ssParam ∧ (u.sta id).fromLost = (d.ss id == ssLost)) ∧
            (¬(c.vendor = v ∧ c.product = p ∧ c.inputs = i ∧ c.outputs = o) → u.ss id = d.ss id ∧ (u.sta id).mismatch = true)) ∧
        (∀ st, st < 256 → d.ss id = ssParam → Answers (.paramAck n true (reply 0x82 (le 1 st))) s fun u => (u.line n).turn = none ∧ only u ∧
          u.ss id = (if st = 0 then ssApply else if (d.sta id).fromLost then ssLost else ssSearch)))) ∧
    (d.ss id = ssSearch → (d.sta id).missing = false → l.enabledAt + cycPerSec ≤ d.nw.cycle → d.cor.fieldUp = true →
      Answers (.stationMissing id) s fun u => (u.sta id).missing = true ∧ d.sentEvent u (.mk' .glStationMissing [id]) ∧ only u) ∧
    (en = false → Answers (.rioLineEnable n) s fun u => u.bit (GL_RIOCFG_EN.ix n) = true ∧ only u ∧
      ∀ i, i ∈ d.lineStations n → u.ss i = (if d.bit (GL_STSTATE_EN.ix i) ∧ d.ss i = ssOff then ssSearch else d.ss i)) ∧
    (en = true → Answers (.rioLineDisable n) s fun u => u.bit (GL_RIOCFG_EN.ix n) = false ∧ (u.line n).stopAt = true ∧
      (∀ i, i < 512 → u.ss i = d.ss i) ∧ only u) ∧
    (Answers (.rioLineForcedDisable n) s fun u => u.bit (GL_RIOCFG_EN.ix n) = false ∧ (u.line n).running = false ∧
      (u.line n).todo = [] ∧ (u.line n).turn = none ∧ (u.line n).recs = [] ∧ (∀ i, i ∈ d.lineStations n → u.ss i = ssOff) ∧ only u) ∧
    (sen = false → Answers (.rioStationEnable id) s fun u => u.bit (GL_STSTATE_EN.ix id) = true ∧ only u ∧
      u.ss id = (if en ∧ mhas d.mod.cfg.stations id ∧ d.ss id = ssOff then ssSearch else d.ss id)) ∧
    (sen = true → Answers (.rioStationDisable id) s fun u => u.bit (GL_STSTATE_EN.ix id) = false ∧ u.ss id = d.ss id ∧
      (d.ss id ≠ ssOff → (u.sta id).disableAt = true) ∧ only u) ∧
    (Answers (.rioStationForcedDisable id) s fun u => u.bit (GL_STSTATE_EN.ix id) = false ∧ u.ss id = ssOff ∧
      (∀ e, e ∈ (u.line n).todo → e.1 ≠ id) ∧ (u.line n).turn ≠ some id ∧ only u)

/-- On a DALI bus that is up the end of a DAPC frame sends the next pending DAPC; the end of a poll awaits its answer, and a frame to be sent
twice goes out once more; DALI_POLL queries the
next bound gear of an idle bus; a backward frame ends the poll with a record, or the raw frame with its result. A failure or a collision
timeout makes the bus faulted; its return sends every bound gear its arc again. A raw frame joins a queue of eight, or is refused with result
4 or 5. Enabling starts the bus and disabling discards its queues, the frame in transmission completing unless forced. -/
def Obligations.DaliBusesSendPollAndReturn : Prop :=
  ∀ (s : State) (b : Nat), b < 4 →
    let d := s.dev
    let x := d.bus b
    let bus := GL_DALISTAT_BUS.ix b
    let only := OnlyIn [.gl, .nw, .cor] (keysIn [(GL_DALICFG, 4), (GL_DALISTAT, 4), (GL_DALIANS, 4)]) d
    (∀ a, x.sending = some (0, a) → x.awaiting = false → x.again = false → d.get bus = 1 → Answers (.daliFrameEnd b) s fun u => only u ∧
      (∀ a' arc, dapcNext x = some (a', arc) → (u.bus b).sending = some (0, a') ∧ mget? (u.bus b).pending a' = none ∧
        mget? (u.bus b).arcs a' = some arc) ∧
      (x.pending = [] → x.raw = [] → x.resend = false → (u.bus b).sending = none)) ∧
    (∀ a, x.sending = some (1, a) → x.awaiting = false → x.again = false → Answers (.daliFrameEnd b) s fun u =>
      (u.bus b).awaiting = true ∧ (u.bus b).sending = x.sending ∧ only u) ∧
    (∀ k a, x.sending = some (k, a) → x.awaiting = false → x.again = true → Answers (.daliFrameEnd b) s fun u =>
      (u.bus b).again = false ∧ (u.bus b).awaiting = false ∧ (u.bus b).sending = x.sending ∧ only u) ∧
    (x.sending = none → d.get bus = 1 → d.get (GL_DALICFG_POLL.ix b) ≠ 0 → ∀ a,
      (((List.range 64).map fun i => (x.poll + i) % 64).find? fun a => ((d.gear b).map (·.1)).contains a) = some a →
      Answers (.daliPoll b) s fun u => (u.bus b).sending = some (1, a) ∧ (u.bus b).awaiting = false ∧
        (u.bus b).poll = (a + 1) % 64 ∧ only u) ∧
    (∀ k a result value, x.awaiting = true → x.sending = some (k, a) → x.resend = false →
      d.fits ⟨0x05, 16 + b, 0, 6, .dali b [⟨0, a, result, [value, 0, 0]⟩]⟩ → Answers (.daliBackwardFrame b result value) s fun u =>
        u.nw.ingress = d.nw.ingress ++ [⟨0x05, 16 + b, 0, 6, .dali b [⟨0, a, result, [value, 0, 0]⟩]⟩] ∧ only u ∧
        (k = 2 → u.get (GL_DALIANS_DATA.ix b) = value % 256 ∧ u.get (GL_DALIANS_RESULT.ix b) = (result + 1) % 8 ∧
          u.bit (GL_DALIANS_DONE.ix b) = true) ∧
        (x.pending = [] → x.raw = [] → (u.bus b).sending = none)) ∧
    (∀ address value, d.get bus = 1 → d.fits ⟨0x05, 16 + b, 0, 6, .dali b [⟨1, address, 0, value⟩]⟩ →
      Answers (.daliEventMessage b address value) s fun u =>
        u.nw.ingress = d.nw.ingress ++ [⟨0x05, 16 + b, 0, 6, .dali b [⟨1, address, 0, value⟩]⟩] ∧ OnlyIn [.nw] noKey d u) ∧
    (d.get bus = 1 → Answers (.daliSystemFailure b) s fun u => u.get bus = 2 ∧ u.get (GL_DALISTAT_CAUSE.ix b) = 1 ∧
      (d.cor.fieldUp = true → d.sentEvent u (.mk' .glDaliFault [b, 1])) ∧ only u) ∧
    (∀ coll, Answers (.daliCollisionTimeout b coll) s fun u =>
      u.get (GL_DALISTAT_COLL.ix b) = min (d.get (GL_DALISTAT_COLL.ix b) + coll) 65535 ∧ only u ∧
      (d.get bus = 1 → u.get bus = 2 ∧ u.get (GL_DALISTAT_CAUSE.ix b) = 2) ∧ (d.get bus ≠ 1 → u.get bus = d.get bus)) ∧
    (d.get bus = 2 → Answers (.daliBusReturn b) s fun u => u.get bus = 1 ∧ u.get (GL_DALISTAT_CAUSE.ix b) = 0 ∧ only u ∧
      ∀ a, a ∈ (d.gear b).map (·.1) → (u.bus b).sending = some (0, a) ∨ mhas (u.bus b).pending a = true) ∧
    (∀ fr, (8 ≤ x.raw.length → Answers (.daliRawGo b fr) s fun u => u.get (GL_DALIANS_RESULT.ix b) = 5 ∧
        u.bit (GL_DALIANS_DONE.ix b) = true ∧ u.bus b = x ∧ only u) ∧
      (x.raw.length < 8 → d.get bus ≠ 1 → Answers (.daliRawGo b fr) s fun u => u.get (GL_DALIANS_RESULT.ix b) = 4 ∧
        u.bit (GL_DALIANS_DONE.ix b) = true ∧ u.bus b = x ∧ only u) ∧
      (x.raw.length < 8 → d.get bus = 1 → Answers (.daliRawGo b fr) s fun u =>
        let r := { fr with prio := if fr.prio = 0 ∨ 5 < fr.prio then 5 else fr.prio }
        u.get (GL_DALIANS_RESULT.ix b) = 0 ∧ u.bit (GL_DALIANS_DONE.ix b) = false ∧ only u ∧
        (x.sending ≠ none → (u.bus b).raw = x.raw ++ [r]) ∧
        (x.sending = none → x.pending = [] → x.raw = [] → (u.bus b).sending = some (2, 0) ∧ (u.bus b).sentRaw = some r))) ∧
    (d.bit (GL_DALICFG_EN.ix b) = false → Answers (.daliBusEnable b) s fun u => u.bit (GL_DALICFG_EN.ix b) = true ∧
      u.get bus = 1 ∧ only u) ∧
    (d.bit (GL_DALICFG_EN.ix b) = true →
      (Answers (.daliBusDisable b) s fun u => u.bit (GL_DALICFG_EN.ix b) = false ∧ u.get bus = 0 ∧ (u.bus b).pending = [] ∧
        (u.bus b).raw = [] ∧ (u.bus b).sending = x.sending ∧ only u) ∧
      (Answers (.daliBusForcedDisable b) s fun u => u.bit (GL_DALICFG_EN.ix b) = false ∧ u.get bus = 0 ∧ (u.bus b).pending = [] ∧
        (u.bus b).raw = [] ∧ (u.bus b).sending = none ∧ only u)) ∧
    (Answers (.daliBusForcedDisable b) s fun u => (u.bus b).sending = none ∧ (u.bus b).awaiting = false ∧ only u)

/-- Bytes that are no frame of R223 change nothing, and a frame of a type it does not name is dropped and counted. A HELLO of the configured peer
with the digest of the link section brings an enabled link up, any other leaves MISMATCH; the payload's layout is the model's (log 79). On a
link that is up a frame next in order reaches the Newel and any other does not; an acknowledgement ends the frames up to it; a missing one
resends them three times, and then the link is lost. Enabling sends HELLO and disabling ends the link. -/
def Obligations.JalmethenLinksComeUpCarryAndAreLost : Prop :=
  ∀ (s : State) (p : Nat), p < 2 →
    let d := s.dev
    let l := d.link p
    let up := GL_JMLSTAT_LINK.ix p
    let en := d.bit (GL_JMLCFG_EN.ix p)
    let only := OnlyIn [.gl, .nw, .cor] (keysIn [(GL_JMLCFG, 2), (GL_JMLSTAT, 2)]) d
    let frame (typ flags seq ack : Nat) (payload : List Byte) : List Byte := JmlFrame.bytes ⟨typ, flags, seq, ack, payload⟩
    (∀ bs, jmlParse bs = none → AnswersDev (.jmlHello p bs) s d ∧ AnswersDev (.jmlKeepalive p bs) s d ∧ AnswersDev (.jmlPoints p bs) s d ∧
      AnswersDev (.reclaim p bs) s d ∧ AnswersDev (.release p bs) s d) ∧
    (∀ typ flags seq ack payload, typ < 256 → flags < 256 → seq < 65536 → ack < 65536 → payload.length ≤ 1024 → jmlKnown typ = false →
      Answers (.jmlPoints p (frame typ flags seq ack payload)) s fun u => (u.link p).dropped = l.dropped + 1 ∧ OnlyIn [.gl] noKey d u) ∧
    (∀ seq ack serial dig, seq < 65536 → ack < 65536 → serial < 2 ^ 64 → dig < 2 ^ 256 →
      let hello := frame 1 0 seq ack (le 8 serial ++ le 32 dig)
      (en = true → d.get up ≠ 2 → Answers (.jmlHello p hello) s fun u => (u.link p).peer = serial ∧
        (u.link p).unacked = [] ∧ (u.link p).rxSeq = seq ∧ (u.link p).txSeq = l.txSeq ∧ only u ∧
        u.get up = (if mget? d.mod.cfg.peers p = some serial ∧ dig = linkDigest d.mod.cfg p then 2 else 3)) ∧
      (en = false → AnswersDev (.jmlHello p hello) s d)) ∧
    (d.get up = 2 →
      (Answers (.jmlKeepaliveSend p) s fun u => (u.link p).keepalives = l.keepalives + 1 ∧ (u.link p).unacked = l.unacked ∧
        (u.link p).txSeq = l.txSeq ∧ OnlyIn [.gl] noKey d u) ∧
      (∀ seq ack, seq < 65536 → ack < 65536 →
        (∀ pre q post, l.unacked = pre ++ q :: post → q.1 = ack → (∀ e, e ∈ pre → e.1 ≠ ack) →
          Answers (.jmlKeepalive p (frame 2 0 seq ack [])) s fun u => (u.link p).unacked = post ∧ (u.link p).resends = 0 ∧
            OnlyIn [.gl] noKey d u) ∧
        (∀ (full : Bool) (es : List (Nat × Nat × W32)) (fr : InFrame), es.length ≤ 128 → (∀ e, e ∈ es → e.1 < 65536 ∧ e.2.1 < 65536) →
          fr = ⟨0x05, 20 + p, 0, 8 * es.length, .jml p 3 full es []⟩ → d.fits fr →
          Answers (.jmlPoints p (frame 3 (b2n full) seq ack (es.flatMap fun e => le 2 e.1 ++ le 2 e.2.1 ++ le 4 e.2.2.toNat))) s fun u =>
            OnlyIn [.gl, .nw] noKey d u ∧
            (seq = (l.rxSeq + 1) % 65536 → (u.link p).rxSeq = seq ∧ u.nw.ingress = d.nw.ingress ++ [fr]) ∧
            (seq ≠ (l.rxSeq + 1) % 65536 → (u.link p).rxSeq = l.rxSeq ∧ u.nw = d.nw)) ∧
        (∀ g at', g < 65536 → at' < 2 ^ 64 →
          (∀ fr : InFrame, fr = ⟨0x05, 20 + p, 0, 4, .jml p 0x10 false [] [g, at']⟩ → d.fits fr →
            Answers (.reclaim p (frame 0x10 0 seq ack (le 2 g ++ le 8 at'))) s fun u => OnlyIn [.gl, .nw] noKey d u ∧
              (seq = (l.rxSeq + 1) % 65536 → (u.link p).rxSeq = seq ∧ u.nw.ingress = d.nw.ingress ++ [fr]) ∧
              (seq ≠ (l.rxSeq + 1) % 65536 → (u.link p).rxSeq = l.rxSeq ∧ u.nw = d.nw)) ∧
          (∀ fr : InFrame, fr = ⟨0x05, 20 + p, 0, 4, .jml p 0x11 false [] [g, at']⟩ → d.fits fr →
            Answers (.release p (frame 0x11 0 seq ack (le 2 g ++ le 8 at'))) s fun u => OnlyIn [.gl, .nw] noKey d u ∧
              (seq = (l.rxSeq + 1) % 65536 → (u.link p).rxSeq = seq ∧ u.nw.ingress = d.nw.ingress ++ [fr]) ∧
              (seq ≠ (l.rxSeq + 1) % 65536 → (u.link p).rxSeq = l.rxSeq ∧ u.nw = d.nw)))) ∧
      (l.unacked ≠ [] → l.resends < 3 → Answers (.jmlAckTimeout p) s fun u => (u.link p).resends = l.resends + 1 ∧
        (u.link p).unacked = l.unacked ∧ (u.link p).wire.length = l.unacked.length ∧ u.get up = 2 ∧ only u ∧
        u.get (GL_JMLSTAT_RESENT.ix p) = min (d.get (GL_JMLSTAT_RESENT.ix p) + l.unacked.length) 65535) ∧
      (l.unacked ≠ [] → 3 ≤ l.resends → Answers (.jmlAckTimeout p) s fun u => u.get up = 1 ∧ (u.link p).unacked = [] ∧ only u) ∧
      (Answers (.jmlLinkLoss p) s fun u => u.get up = 1 ∧ (u.link p).unacked = [] ∧ only u ∧
        u.get (GL_JMLSTAT_LOSSES.ix p) = min (d.get (GL_JMLSTAT_LOSSES.ix p) + 1) 255 ∧
        (d.cor.fieldUp = true → d.sentEvent u (.mk' .glJmlLost [p])))) ∧
    (en = false → Answers (.jmlLinkEnable p) s fun u => u.bit (GL_JMLCFG_EN.ix p) = true ∧ u.get up = 1 ∧ (u.link p).unacked = [] ∧
      (u.link p).txSeq = 1 ∧ (u.link p).wire = [frame 1 0 0 0 (le 8 Config.serial ++ le 32 (linkDigest d.mod.cfg p))] ∧ only u) ∧
    (en = true → Answers (.jmlLinkDisable p) s fun u => u.bit (GL_JMLCFG_EN.ix p) = false ∧ u.get up = 0 ∧ only u)

/-! ## The Enfilade engine (chapter 09) -/

/-- ENFILADE_TICK ends the tick in progress: its number and duration are shown, its results wait for the next snapshot, and of the flight only
the engine and its messages change; a lone wavelet that stays on its edge advances by its step for each tick of the multiplicity. With no
tick in progress nothing changes. ENF_ENABLE, its disables and TURN_RESET answer with the write as a frame of the cycle. What a flight does with
them at a snapshot: ENF_ENABLE begins with no latches, ENF_DISABLE lets a tick in progress complete, ENF_FORCED_DISABLE ends it, TURN_RESET waits
for the next tick. LEAN_HOLD_EXPIRY between two scans takes a chain out of lean mode once its hold has passed by the scan's time. -/
def Obligations.EnfiladeTicksAndEnables : Prop :=
  ∀ (s : State) (f : Flt),
    let d := s.dev
    let x := d.fl f
    let e := x.enf
    let enfKeys := fun k => decide (f.key FL_ENFCTL ≤ k) && decide (k ≤ f.key FL_ENFCELLMAP)
    (∀ dur, e.due = none → AnswersDev (.enfiladeTick f dur) s d) ∧
    (∀ dur k m, e.due = some (k, m) → Answers (.enfiladeTick f dur) s fun u =>
      (u.fl f).enf.due = none ∧ (u.fl f).enf.results = some m ∧ (u.fl f).enf.tick = k ∧ (u.fl f).enf.taken = [] ∧
      u.rd (f.key FL_ENFTICKLO) = BitVec.ofNat 32 k ∧ u.bit (FL_ENFSTAT_RUN.at f) = false ∧
      u.get (FL_ENFSTAT_MULT.at f) = m % 256 ∧ u.get (FL_ENFTIME_LAST.at f) = min dur 0xFFFF ∧ (u.fl f).pts = x.pts ∧
      (u.fl f).lmem = x.lmem ∧ (u.fl f).mac = x.mac ∧ OnlyIn [f.part] enfKeys d u) ∧
    (∀ dur k m sl w, e.due = some (k, m) → e.taken = [] → e.waves = [(sl, w)] → w.stopped = false →
      m * d.enfStep f w.cls < (d.cfgOf f).len w.edge - w.pos → min (w.age + m) 0xFFFF ≤ d.maxAge f w.cls → d.wmin f ≤ w.weight →
      Answers (.enfiladeTick f dur) s fun u =>
        (u.fl f).enf.waves = [(sl, { w with pos := w.pos + m * d.enfStep f w.cls, age := min (w.age + m) 0xFFFF })] ∧
        u.get (FL_ENFWAV_ACTIVE.at f) = 1) ∧
    (AnswersDev .enfEnable s (d.arrived .enfEnable) ∧ AnswersDev .enfDisable s (d.arrived (.enfDisable false)) ∧
      AnswersDev .enfForcedDisable s (d.arrived (.enfDisable true)) ∧ AnswersDev .turnReset s (d.arrived .turnReset)) ∧
    (∀ locked,
      let u (m : FlightIn) : Dev := Dev.applyIn f locked d m
      let told (u : Dev) (on forced : Int) : Prop := (u.fl f).msgs = x.msgs ++ [evMsg ⟨.flEnfState, f.region, none, [on, forced]⟩]
      let only := OnlyIn [f.part] (fun k => k == f.key FL_ENFCTL || k == f.key FL_ENFSTAT) d
      (d.enfEn f = false → u (.enfDisable false) = d ∧ u (.enfDisable true) = d ∧ (u .enfEnable).enfEn f = true ∧
        ((u .enfEnable).fl f).enf.fresh = true ∧ ((u .enfEnable).fl f).enf.latches = [] ∧ ((u .enfEnable).fl f).enf.waves = e.waves ∧
        told (u .enfEnable) 1 0 ∧ only (u .enfEnable)) ∧
      (d.enfEn f = true → u .enfEnable = d ∧
        (u (.enfDisable false)).enfEn f = false ∧ ((u (.enfDisable false)).fl f).enf = { e with stopping := true } ∧
        told (u (.enfDisable false)) 0 0 ∧ only (u (.enfDisable false)) ∧
        (u (.enfDisable true)).enfEn f = false ∧
        ((u (.enfDisable true)).fl f).enf = { e with stopping := true, due := none, taken := [], inPts := [] } ∧
        (u (.enfDisable true)).bit (FL_ENFSTAT_RUN.at f) = false ∧ told (u (.enfDisable true)) 0 1 ∧ only (u (.enfDisable true))) ∧
      ((u .turnReset).fl f).enf = { e with turnReset := true } ∧ OnlyIn [f.part] noKey d (u .turnReset)) ∧
    (d.atRest = false → ∀ n, AnswersDev (.leanHoldExpiry n) s d) ∧
    (d.atRest = true → d.consumes f = true → ∀ n t, n < 8 → mget? e.off n = some t → d.get (FL_ENFCTL_LEAN.at f) = 0 → d.leanCh f n = true →
      (t - 1 + d.get (FL_ENFAIR2_LEANHOLD.at f) * 1000000000 ≤ x.mapTime → Answers (.leanHoldExpiry n) s fun u =>
        u.leanCh f n = false ∧ (∀ m, m < 8 → m ≠ n → u.leanCh f m = d.leanCh f m) ∧
        (u.fl f).msgs = x.msgs ++ [evMsg ⟨.flEnfLean, f.region, none, [n, 0]⟩]) ∧
      (x.mapTime < t - 1 + d.get (FL_ENFAIR2_LEANHOLD.at f) * 1000000000 → Answers (.leanHoldExpiry n) s fun u =>
        u.leanCh f n = true ∧ (u.fl f).msgs = x.msgs))

/-! ## Drive channels and matrices (chapter 11) -/

/-- A commit's image becomes the hold registers of the channels it names and no other's, and the source becomes COMMITTED; FADE_TICK moves each
driven channel's fine level by its fade and computes its duty, and leaves the others; at a period start of a group a driven channel without
diagnostics takes the on-time of its duty and counts it, and a channel that waits to be disabled goes low; a keepalive timeout with the
configuration held makes every driven channel fade to its fail-safe level. -/
def Obligations.HoldRegistersFadesAndPeriods : Prop :=
  ∀ (s : State) (n : Nat), n < 256 →
    let d := s.dev
    let c := d.ch n
    let g := grp n
    let on := d.bit (chEn n) && d.direct n
    let runs := (d.bit (chEn n) || c.disableAt) && d.direct n
    (∀ cs e bad, d.gl.paused = false → d.gl.shadow = some cs → cs.online = [] → d.gl.retime = 0 → cs.image = [(n, e)] →
      bad.contains (1, 0) = false → d.direct n = true → Answers (.holdRegisterUpdate bad) s fun u =>
        u.get (chTarget n) = e.level % 4096 ∧ (u.ch n).fade = e.fade ∧ (u.ch n).curve = e.curve ∧
        (u.ch n).start = (c.start || (decide (d.get (chTarget n) ≠ e.level) || d.get GL_DRVSTAT_SOURCE == 1) && d.bit (chEn n)) ∧
        u.get GL_DRVSTAT_SOURCE = 2 ∧ u.get GL_DRVSTAT_COMMITS = (d.get GL_DRVSTAT_COMMITS + 1) % 65536 ∧
        u.get GL_DRVSTAT_PARTERR = min (d.get GL_DRVSTAT_PARTERR + (bad.eraseDups.filter fun p => p == (1, 0) ||
          (p.1 == 2 && cs.mxcurve.any fun c => c.1 == p.2)).length) 255 ∧ u.gl.shadow = none ∧
        (∀ m, m < 256 → m ≠ n → u.get (chTarget m) = d.get (chTarget m) ∧ u.ch m = d.ch m) ∧
        OnlyIn [.gl, .nw, .cor] (fun k => k == GL_CHLVL + 4 * n || k == GL_DRVSTAT) d u) ∧
    (d.gl.paused = false → Answers .fadeTick s fun u =>
      (runs = false → u.ch n = c ∧ u.get (chFine n) = d.get (chFine n) ∧ u.get (GL_CHDUTY_DUTY.ix n) = d.get (GL_CHDUTY_DUTY.ix n)) ∧
      (runs = true → c.enableAt = false →
        let r := if c.start then fadeStep (d.get (chFine n)) ((d.get (chTarget n) * 16 : Nat) : Int) c.fade 0
          else fadeStep c.fs c.ft c.fadeN c.fk
        (c.start = true ∨ d.bit (chFading n) = true →
          u.get (chFine n) = r.1 % 65536 ∧ (u.ch n).fk = r.2.1 ∧ u.bit (chFading n) = !r.2.2 ∧ (u.ch n).start = false) ∧
        (c.start = false → d.bit (chFading n) = false → u.get (chFine n) = d.get (chFine n) ∧ u.ch n = c) ∧
        u.get (GL_CHDUTY_DUTY.ix n) = dutyOf (d.get (GL_GRPCFG_BITS.ix g)) (d.bit (GL_GRPCFG_DITHER.ix g))
          (d.curve c.curve (u.get (chFine n))) % 2 ^ 21) ∧
      OnlyIn [.gl] (keysIn [(GL_CHLVL, 256), (GL_CHDUTY, 256)]) d u) ∧
    (∀ k, d.gl.paused = false → d.get (GL_GRPCFG_MODE.ix g) = 0 → k = (match mget? d.gl.k g with | some k => k + 1 | none => 0) →
      Answers (.pwmPeriodStart g) s fun u => mget? u.gl.k g = some k ∧
        (c.disableAt = true → (u.ch n).land = false ∧ (u.ch n).on = 0 ∧ (u.ch n).disableAt = false ∧ u.bit (GL_CHLVL_OFF.ix n) = true ∧
          u.get (chState n) = dsNodiag) ∧
        (c.disableAt = false → d.bit (chEn n) = true → c.enableAt = false → c.cellFault = false → c.spareIn = 0 → c.clr = false →
          c.tripped = false → c.retry = false → d.get (chState n) = dsNodiag → d.bit (GL_CHDIAG_EN.ix n) = false → d.acc n = 0 →
          d.get GL_DRVSTAT_SOURCE ≠ 0 → d.bit ⟨GL_BANKSTAT, g, g⟩ = true → mget? d.gl.tests g = none →
            let t := ditherOn (d.bit (GL_GRPCFG_DITHER.ix g)) (d.get (GL_CHDUTY_DUTY.ix n)) k * d.presc g
            (u.ch n).on = t ∧ (u.ch n).land = decide (0 < t) ∧ (u.ch n).cum = (c.cum + t) % 2 ^ 64) ∧
        (∀ m, m < 256 → grp m ≠ g → u.ch m = d.ch m)) ∧
    (d.gl.paused = true ∨ d.get (GL_GRPCFG_MODE.ix g) = 1 → AnswersDev (.pwmPeriodStart g) s d) ∧
    (d.gl.cfgHeld = true → d.get GL_DRVSTAT_SOURCE ≠ 1 → Answers .galleryKeepaliveTimeout s fun u =>
      u.get GL_DRVSTAT_SOURCE = 1 ∧ u.get GL_DRVSTAT_CAUSE = 2 ∧ (d.cor.fieldUp = true → d.sentEvent u (.mk' .glDrvFailsafe [2])) ∧
      (on = true → (u.ch n).fadeN = d.get (GL_CHFS_FADE.ix n) ∧ (u.ch n).ft = ((d.get (GL_CHFS_LEVEL.ix n) * 16 : Nat) : Int) ∧
        (u.ch n).fs = ((d.get (chFine n) : Nat) : Int) ∧ u.bit (chFading n) = true ∧ u.bit (GL_CHLVL_FS.ix n) = true) ∧
      (on = false → u.ch n = c)) ∧
    (d.gl.cfgHeld = false ∨ d.get GL_DRVSTAT_SOURCE = 1 → AnswersDev .galleryKeepaliveTimeout s d)

/-- CHANNEL_ENABLE waits for the next fade tick; CHANNEL_DISABLE for the next period start; CHANNEL_FORCED_DISABLE makes the land low at once;
of a matrix column the register alone changes. MATRIX_ENABLE starts every cell from level 0; MATRIX_DISABLE waits for the next row slot,
MATRIX_FORCED_DISABLE makes every cell low at once. ROW_SLOT_START of a matrix whose columns exist takes the next row and its cells' on-times, a
new frame after the last row. BANK_SUPPLY_CHANGE shows the supply, and out of range makes the bank's lands low. -/
def Obligations.ChannelsMatricesAndBanksAreSwitched : Prop :=
  ∀ (s : State) (n m : Nat), n < 256 → m < 4 →
    let d := s.dev
    let c := d.ch n
    let chKeys := fun k => k == GL_CHCFG + 4 * n || k == GL_CHDSTAT + 4 * n
    let mxKeys := fun k => k == GL_MXCFG + 4 * m || k == GL_MXSTAT + 4 * m
    let men := d.bit (GL_MXCFG_EN.ix m)
    let cols := decide (d.mxFirst m + d.mxCols m ≤ 256)
    let slotKeys := keysIn [(GL_MXCFG + 4 * m, 1), (GL_MXSTAT + 4 * m, 1), (GL_CHDSTAT, 256), (GL_CHSENSE, 256), (GL_DIAGSUM, 1)]
    (d.bit (chEn n) = false → d.direct n = true → Answers (.channelEnable n) s fun u =>
      u.bit (chEn n) = true ∧ (u.ch n).enableAt = true ∧ (u.ch n).disableAt = false ∧ (u.ch n).land = c.land ∧
      (d.cor.fieldUp = true → d.sentEvent u (.mk' .glChDisable [n, 1, 0])) ∧ OnlyIn [.gl, .nw, .cor] chKeys d u) ∧
    (d.bit (chEn n) = true → AnswersDev (.channelEnable n) s d) ∧
    (d.direct n = false → (d.bit (chEn n) = false → AnswersDev (.channelEnable n) s (d.put (chEn n) 1)) ∧
      AnswersDev (.channelDisable n) s (d.put (chEn n) 0) ∧ ∀ cut, AnswersDev (.channelForcedDisable n cut) s (d.put (chEn n) 0)) ∧
    (d.bit (chEn n) = true → d.direct n = true →
      (Answers (.channelDisable n) s fun u => u.bit (chEn n) = false ∧ (u.ch n).disableAt = true ∧ (u.ch n).land = c.land ∧
        (u.ch n).on = c.on ∧ OnlyIn [.gl, .nw, .cor] chKeys d u) ∧
      (∀ cut, Answers (.channelForcedDisable n cut) s fun u => u.bit (chEn n) = false ∧ (u.ch n).disableAt = true ∧
        (u.ch n).land = false ∧ (c.land = true → (u.ch n).on = min cut c.on) ∧ u.acc n = 0 ∧ OnlyIn [.gl, .nw, .cor] chKeys d u)) ∧
    (men = false → Answers (.matrixEnable m) s fun u => u.bit (GL_MXCFG_EN.ix m) = true ∧ u.bit (GL_MXSTAT_RUN.ix m) = true ∧
      (∀ i, i ∈ d.mxCells m → (u.cell i).fl = 0 ∧ (u.cell i).start = true ∧ (u.cell i).target = (d.cell i).target) ∧
      (∀ i, i ∉ d.mxCells m → u.cell i = d.cell i) ∧ OnlyIn [.gl, .nw, .cor] mxKeys d u) ∧
    (men = true →
      (Answers (.matrixDisable m) s fun u => u.bit (GL_MXCFG_EN.ix m) = false ∧ mget false u.gl.mxRun m = true ∧
        u.gl.cells = d.gl.cells ∧ OnlyIn [.gl, .nw, .cor] mxKeys d u) ∧
      (∀ cut, cols = true → Answers (.matrixForcedDisable m cut) s fun u => u.bit (GL_MXCFG_EN.ix m) = false ∧
        u.bit (GL_MXSTAT_RUN.ix m) = false ∧ (∀ i, i ∈ d.mxCells m → (u.cell i).on = 0 ∧ (u.cell i).fading = false) ∧
        (∀ i, i < d.mxCols m → (u.ch (d.mxFirst m + i)).land = false) ∧ OnlyIn [.gl, .nw, .cor] slotKeys d u)) ∧
    (d.gl.paused = false → cols = true → mget false d.gl.mxRun m = true → Answers (.rowSlotStart m) s fun u =>
      mget false u.gl.mxRun m = false ∧ u.bit (GL_MXSTAT_RUN.ix m) = false ∧ (∀ i, i ∈ d.mxCells m → (u.cell i).on = 0) ∧
      OnlyIn [.gl] slotKeys d u) ∧
    (d.gl.paused = false → cols = true → mget false d.gl.mxRun m = false → men = true → Answers (.rowSlotStart m) s fun u =>
      let row := d.get (GL_MXSTAT_ROW.ix m)
      let next := if row + 1 ≥ d.mxRows m then 0 else row + 1
      let k := if row + 1 ≥ d.mxRows m then (d.get (GL_MXSTAT_FRAMES.ix m) + 1) % 65536 else d.get (GL_MXSTAT_FRAMES.ix m)
      u.get (GL_MXSTAT_ROW.ix m) = next ∧ u.get (GL_MXSTAT_FRAMES.ix m) = k ∧ OnlyIn [.gl, .nw, .cor] slotKeys d u ∧
      ∀ col, col < d.mxCols m → (u.cell (m * 1024 + next * 64 + col)).on =
        if d.get GL_DRVSTAT_SOURCE = 0 then 0
        else ditherOn (d.bit (GL_GRPCFG_DITHER.ix (d.get (GL_MXCFG_COLBASE.ix m)))) (d.cell (m * 1024 + next * 64 + col)).duty k) ∧
    (∀ g ok hi cut, g < 16 → Answers (.bankSupplyChange g ok hi cut) s fun u => u.bit ⟨GL_BANKSTAT, g, g⟩ = ok ∧
      u.bit ⟨GL_BANKSTAT, 16 + g, 16 + g⟩ = (ok && hi) ∧ OnlyIn [.gl, .nw, .cor] (fun k => k == GL_BANKSTAT) d u ∧
      (ok = true → u.gl = d.gl) ∧ (ok = false → g ∉ u.gl.rows ∧ ∀ i, i < 16 → (u.ch (16 * g + i)).land = false) ∧
      (d.bit ⟨GL_BANKSTAT, g, g⟩ = ok → u.cor = d.cor))

/-! ## Lamp diagnostics and metering (chapter 12) -/

/-- In its slot an on-sample below the open threshold counts, and the third latches OPEN with the counters at 0; one at or above it sets the
open count to 0 and makes UNTESTED OK. A trip of the armed comparator makes a driven land low for the rest of the period and, with diagnostics, counts,
and the third latches SHORT; on a land that is low, or outside the armed time, it changes nothing. SHORT_RETRY and DIAG_CLEAR wait for the next period start. -/
def Obligations.SamplesLatchAndClearLampFaults : Prop :=
  ∀ (s : State) (n : Nat), n < 256 →
    let d := s.dev
    let c := d.ch n
    let g := grp n
    let st := d.get (chState n)
    let slot := d.bit (GL_CHDIAG_EN.ix n) && d.drives n && n % 8 == mget 0 d.gl.k g % 8 && !c.tripped && !c.cutNow &&
      d.get GL_DRVSTAT_SOURCE != 0 && !d.gl.adcBad.contains (n / 8) && decide (400 ≤ d.period g)
    let only := OnlyIn [.gl, .nw, .cor] (fun k => k == GL_CHSENSE + 4 * n || k == GL_CHDSTAT + 4 * n || k == GL_DIAGSUM) d
    (∀ conv, slot = false → AnswersDev (.adcSample n conv) s d) ∧
    (∀ conv, d.gl.paused = false → slot = true → c.land = true → 400 ≤ c.on →
      (sampleOf conv < d.get (GL_CHTHR_OPEN.ix n) * 16 → st ≠ dsOpen → Answers (.adcSample n conv) s fun u =>
        u.get (GL_CHSENSE_ON.ix n) = sampleOf conv % 4096 ∧ (u.ch n).lastOn = some 0 ∧ only u ∧
        (c.cOpen + 1 < 3 → u.get (chState n) = st ∧ (u.ch n).cOpen = c.cOpen + 1) ∧
        (3 ≤ c.cOpen + 1 → u.get (chState n) = dsOpen ∧ (u.ch n).cOpen = 0 ∧ (u.ch n).cShort = 0 ∧ (u.ch n).cOff = 0)) ∧
      (d.get (GL_CHTHR_OPEN.ix n) * 16 ≤ sampleOf conv → st ≠ dsOpen → Answers (.adcSample n conv) s fun u =>
        u.get (GL_CHSENSE_ON.ix n) = sampleOf conv % 4096 ∧ (u.ch n).cOpen = 0 ∧ (u.ch n).everGood = true ∧ only u ∧
        u.get (chState n) = (if st = dsUntested then dsOk else st)) ∧
      (d.get (GL_CHTHR_OPEN.ix n) * 16 ≤ sampleOf conv → st = dsOpen → Answers (.adcSample n conv) s fun u =>
        (c.cGood + 1 < 3 → u.get (chState n) = dsOpen ∧ (u.ch n).cGood = c.cGood + 1) ∧
        (3 ≤ c.cGood + 1 → u.get (chState n) = dsOk ∧ (u.ch n).cGood = 0) ∧ only u)) ∧
    (∀ cut, c.land = true → c.tripped = false → 40 ≤ cut → cut ≤ c.on → Answers (.shortComparatorTrip n cut) s fun u =>
      (u.ch n).land = false ∧ (u.ch n).tripped = true ∧ (u.ch n).on = cut ∧ only u ∧
      (c.retry = true ∨ d.bit (GL_CHDIAG_EN.ix n) = false → (u.ch n).cShort = c.cShort ∧ u.get (chState n) = st) ∧
      (c.retry = false → d.bit (GL_CHDIAG_EN.ix n) = true →
        (c.cShort + 1 < 3 → (u.ch n).cShort = c.cShort + 1 ∧ u.get (chState n) = st) ∧
        (3 ≤ c.cShort + 1 → (u.ch n).cShort = 0 ∧ u.get (chState n) = dsShort ∧ u.acc n = 0))) ∧
    (∀ cut, c.land = false ∨ c.tripped = true ∨ cut < 40 ∨ c.on < cut → AnswersDev (.shortComparatorTrip n cut) s d) ∧
    (st = dsShort → d.get GL_DIAGCFG_SHRETRY ≠ 0 → Answers (.shortRetry n) s fun u => u.ch n = { c with retry := true } ∧
      OnlyIn [.gl] noKey d u) ∧
    (st ≠ dsShort ∨ d.get GL_DIAGCFG_SHRETRY = 0 → AnswersDev (.shortRetry n) s d) ∧
    (Answers (.diagClear n) s fun u => u.ch n = { c with clr := true } ∧ OnlyIn [.gl] noKey d u)

/-- A cell's parity error takes a free spare for good, aborting a test that the spare serves, or leaves the channel low. CHANNEL_TEST takes the free spare, or holds the land low when
forced, or is refused; CHANNEL_TEST_DONE gives the spare back or consumes it; ROTATION_TEST starts the next channel's test or marks a defective
spare; a failed ADC_REFERENCE_CHECK makes eight channels NOADC but for a latched SHORT. METER_REFRESH shows the measured state; the emitted sample and metering
frames enter the Newel with the next block number. -/
def Obligations.SpareCellsTestsAndSampleFrames : Prop :=
  ∀ (s : State) (n : Nat), n < 256 →
    let d := s.dev
    let g := grp n
    (mget? d.gl.tests g = none →
      (d.spareFree g = true → ∀ cut, Answers (.cellParityError n cut) s fun u => (u.ch n).cellFault = true ∧ (u.ch n).spareIn = 1 ∧
        (u.ch n).land = false ∧ u.get (GL_SPARECELL_CHAN.ix g) = n ∧ u.bit (GL_SPARECELL_PERM.ix g) = true ∧ u.spareFree g = false) ∧
      (d.spareFree g = false → ∀ cut, Answers (.cellParityError n cut) s fun u => (u.ch n).cellFault = true ∧ (u.ch n).land = false ∧
        OnlyIn [.gl, .nw, .cor] noKey d u) ∧
      (∀ force, d.bit GL_CHTEST_BUSY = false →
        (d.spareFree g = true → Answers (.channelTest n force) s fun u => mget? u.gl.tests g = some (n, true, false) ∧
          u.get (GL_SPARECELL_CHAN.ix g) = n ∧ u.bit (GL_SPARECELL_BUSY.ix g) = true ∧ u.bit GL_CHTEST_BUSY = true ∧
          OnlyIn [.gl] (fun k => k == GL_CHTEST || k == GL_SPARECELL + 4 * g) d u) ∧
        (d.spareFree g = false → Answers (.channelTest n force) s fun u => OnlyIn [.gl] (fun k => k == GL_CHTEST) d u ∧
          (force = true → mget? u.gl.tests g = some (n, true, true) ∧ u.bit GL_CHTEST_BUSY = true) ∧
          (force = false → u.gl = d.gl ∧ u.bit GL_CHTEST_DONE = true ∧ u.get GL_CHTEST_RESULT = E_BUSY_SERVICE)))) ∧
    (d.bit GL_CHTEST_BUSY = true ∨ mhas d.gl.tests g = true → ∀ force, Answers (.channelTest n force) s fun u =>
      u.bit GL_CHTEST_DONE = true ∧ u.get GL_CHTEST_RESULT = E_BUSY_SERVICE ∧ OnlyIn [] (fun k => k == GL_CHTEST) d u) ∧
    (∀ c reg cut, mget? d.gl.tests g = some (c, reg, false) → d.bit (GL_SPARECELL_PERM.ix g) = false →
      d.bit (GL_SPARECELL_DEFECT.ix g) = false → Answers (.cellParityError n cut) s fun u => mget? u.gl.tests g = none ∧
        (u.ch n).cellFault = true ∧ (u.ch n).spareIn = 2 ∧ u.get (GL_SPARECELL_CHAN.ix g) = n ∧ u.bit (GL_SPARECELL_PERM.ix g) = true) ∧
    (∀ low, mget? d.gl.tests g = some (n, true, low) →
      (Answers (.channelTestDone n true) s fun u => mget? u.gl.tests g = none ∧ u.bit (GL_SPARECELL_BUSY.ix g) = false ∧
        u.bit GL_CHTEST_BUSY = false ∧ u.bit GL_CHTEST_DONE = true ∧ u.get GL_CHTEST_OUTCOME = 0 ∧ u.get GL_CHTEST_RESULT = E_OK) ∧
      (Answers (.channelTestDone n false) s fun u => mget? u.gl.tests g = none ∧ u.bit GL_CHTEST_DONE = true ∧
        (low = true → u.get GL_CHTEST_OUTCOME = 2 ∧ (u.ch n).cellFault = true) ∧
        (low = false → u.get GL_CHTEST_OUTCOME = 1 ∧ u.bit (GL_SPARECELL_PERM.ix g) = true))) ∧
    (d.gl.paused = false →
      (d.get GL_DIAGCFG_ROTATE ≠ 0 → d.rotation = some n → mhas d.gl.tests g = false →
        (Answers (.rotationTest true) s fun u => u.gl.rotNext = (n + 1) % 256 ∧ mget? u.gl.tests g = some (n, false, false) ∧
          OnlyIn [.gl, .nw] (fun k => k == GL_SPARECELL + 4 * g) d u) ∧
        (Answers (.rotationTest false) s fun u => u.gl.rotNext = (n + 1) % 256 ∧ u.bit (GL_SPARECELL_DEFECT.ix g) = true ∧
          u.gl.tests = d.gl.tests)) ∧
      (∀ a, a < 32 → AnswersDev (.adcReferenceCheck a true) s (d.sliceRun 0x15 1) ∧
        (d.gl.adcBad.contains a = true → AnswersDev (.adcReferenceCheck a false) s (d.sliceRun 0x15 1)) ∧
        (d.gl.adcBad.contains a = false → Answers (.adcReferenceCheck a false) s fun u => u.gl.adcBad = d.gl.adcBad ++ [a] ∧
          (∀ i, i < 8 → u.get (chState (8 * a + i)) = if d.get (chState (8 * a + i)) = dsShort then dsShort else dsNoadc) ∧
          (∀ i, i < 256 → i / 8 ≠ a → u.get (chState i) = d.get (chState i)))) ∧
      (∀ m ph rev sq vals, m < 2 → d.bit (GL_MTRCFG_EN.ix m) = true → Answers (.meterRefresh m ph rev sq vals) s fun u =>
        u.get (GL_MTRSTAT_PHOK.ix m) = ph % 8 ∧ u.get (GL_MTRSTAT_REV.ix m) = rev % 8 ∧ u.bit (GL_MTRSTAT_SEQ.ix m) = sq ∧
        mget [] u.gl.meters m = (List.range 17).map (fun i => vals.getD i 0) ++ [((ph % 8 + 8 * (rev % 8) + 64 * b2n sq : Nat) : Int)] ∧
        OnlyIn [.gl, .nw, .cor] (fun k => k == GL_MTRSTAT + 4 * m) d u) ∧
      (∀ m ph rev sq vals, m < 2 → d.bit (GL_MTRCFG_EN.ix m) = false → AnswersDev (.meterRefresh m ph rev sq vals) s d) ∧
      (∀ (a : Nat) (fr : InFrame), a < 32 →
        fr = ⟨0x04, a, 0, 136, .sample a (mget 0 d.gl.blocks a) ((List.range 8).map fun i => d.sampleEntry (8 * a + i))⟩ →
        (d.nw.cycle % 4 = a % 4 → d.fits fr → Answers (.gallerySampleEmit a) s fun u => u.nw.ingress = d.nw.ingress ++ [fr] ∧
          mget 0 u.gl.blocks a = (mget 0 d.gl.blocks a + 1) % 2 ^ 32 ∧ OnlyIn [.gl, .nw] noKey d u) ∧
        (d.nw.cycle % 4 ≠ a % 4 → AnswersDev (.gallerySampleEmit a) s d)) ∧
      (∀ (m : Nat) (fr : InFrame), m < 2 →
        fr = ⟨0x04, 32 + m, 0, 88, .meter (32 + m) (mget 0 d.gl.blocks (32 + m)) (mget [] d.gl.meters m)⟩ →
        (d.nw.cycle % 40 = m → d.fits fr → Answers (.meteringFrameEmit m) s fun u => u.nw.ingress = d.nw.ingress ++ [fr] ∧
          mget 0 u.gl.blocks (32 + m) = (mget 0 d.gl.blocks (32 + m) + 1) % 2 ^ 32 ∧
          u.get (GL_MTRSTAT_BLOCKS.ix m) = (d.get (GL_MTRSTAT_BLOCKS.ix m) + 1) % 65536 ∧
          OnlyIn [.gl, .nw] (fun k => k == GL_MTRSTAT + 4 * m) d u) ∧
        (d.nw.cycle % 40 ≠ m → AnswersDev (.meteringFrameEmit m) s d)))

/-! ## Radio chains and the mesh (chapters 13 and 14) -/

/-- A request that no check refuses joins its chain's queue, and one that is refused is reported with its reason. A free chain starts a ready
request that the tally admits, or its port partner does where that goes first, and does not start one that the tally does not admit. The end of a
transmission is counted and frees the chain; late and expired requests leave the queue; a good frame on the receive channel and rate is counted
and passed to the Newel, a bad one only counted; a bucket boundary begins a bucket at 0. Disables, faults and retries move the chain as R356 says,
a frame in transmission completing only under a plain disable, and the flights have each enable as a frame of the cycle. -/
def Obligations.RadioChainsSendWithinTheTally : Prop :=
  ∀ (s : State) (n now : Nat), n < 8 →
    let d := s.dev
    let c := d.rc n
    let air := fun r : TxReq => airtime r.preamble r.len r.rate
    let only := OnlyIn [.lg, .nw, .cor] (regionKey 7) d
    let en := d.bit (LG_CHCFG_EN.ix n)
    (∀ r t, d.lg.inbox = r :: t → r.chain = n → d.lg.paused = false → c.offAtEnd = false →
      (d.refusal r now = none → (r.strict = false ∨ r.start = 0 ∨ now ≤ r.start) → Answers (.txRequestArrival now) s fun u =>
        u.lg.inbox = t ∧ (u.rc n).queue = c.queue ++ [r] ∧ only u) ∧
      (∀ k, d.refusal r now = some k → d.fits ⟨0x06, n, 0, 24, .report n r.id 5 k 0 0⟩ → Answers (.txRequestArrival now) s fun u =>
        u.lg.inbox = t ∧ (u.rc n).queue = c.queue ∧ u.nw.ingress = d.nw.ingress ++ [⟨0x06, n, 0, 24, .report n r.id 5 k 0 0⟩] ∧ only u)) ∧
    (∀ r, d.lg.paused = false → c.queue = [r] → d.chainFree n now = true → reqReady r now = true → now ≤ r.deadline →
      (r.strict = false ∨ r.start = 0 ∨ now ≤ r.start + 100000) →
      (d.strictBlocks n now r = false → d.admits n r (air r) = true →
        (d.partnerFirst n now r = false → Answers (.txStart n now) s fun u =>
          (u.rc n).tx = some r ∧ (u.rc n).queue = [] ∧ (u.rc n).txAir = air r ∧ u.lgs n = lsTx ∧
          (u.rc n).txStart = (if r.start = 0 then now else max r.start now) ∧ (u.rc n).txPsdu = r.sent (u.rc n).txStart ∧ only u) ∧
        (∀ q, d.partnerFirst n now r = true → d.txBest (partner n) now = some q → Answers (.txStart n now) s fun u =>
          (u.rc (partner n)).tx = some q ∧ (u.rc n).queue = c.queue ∧ (u.rc n).tx = c.tx ∧ only u)) ∧
      (d.admits n r (air r) = false → AnswersDev (.txStart n now) s d)) ∧
    (d.chainFree n now = false → AnswersDev (.txStart n now) s d) ∧
    (∀ r, c.tx = some r → c.offAtEnd = false → Answers (.txEnd n now) s fun u => (u.rc n).tx = none ∧ (u.rc n).lastEnd = some now ∧
      u.lgs n = lsIdle ∧ u.get (LG_CHCNT_TX.ix n) = (d.get (LG_CHCNT_TX.ix n) + 1) % 4096 ∧ (u.rc n).queue = c.queue ∧
      (d.hop (d.band n) = false → mget [] u.lg.duty (d.band n) =
        addHead (d.initDuty (d.band n)) (c.txAir - c.txCounted) (mget [] d.lg.duty (d.band n)))) ∧
    (c.tx = none → AnswersDev (.txEnd n now) s d) ∧
    (Answers (.txLateStart n now) s fun u => only u ∧
      (u.rc n).queue = c.queue.filter fun r => !(r.strict && r.start != 0 && decide (r.start + 100000 < now))) ∧
    (Answers (.txDeadline n now) s fun u => (u.rc n).queue = c.queue.filter (fun r => !decide (r.deadline < now)) ∧ only u) ∧
    (∀ rx : RxFrame, d.lg.paused = false → d.lgs n = lsIdle → rx.cut = false → d.blanked n rx.ts = false →
      (d.hop (d.band n) = true ∨ rx.channel = d.get (LG_CHCFG_CHAN.ix n)) → rx.rate = d.get (LG_CHCFG_RATE.ix n) → rx.modeSwitch = false → 5 ≤ rx.len → rx.len ≤ 1000 →
      (rx.fcsOk = false → Answers (.frameReception n rx) s fun u =>
        u.get (LG_CHCNT_BADFCS.ix n) = min (d.get (LG_CHCNT_BADFCS.ix n) + 1) 255 ∧ OnlyIn [] (fun k => k == LG_CHCNT + 4 * n) d u) ∧
      (∀ fr, rx.fcsOk = true → d.rxHeld n + 20 + rx.psdu.length ≤ 65536 → fr = ⟨0x06, n, 0, 20 + rx.psdu.length,
          .receive n rx.ts rx.rate rx.channel rx.rssi (b2n rx.fcs32 + 2 * b2n rx.whiten + 4 * b2n (!d.bit LG_TIMESTAT_LOCKED)) rx.len rx.psdu⟩ →
        d.fits fr → Answers (.frameReception n rx) s fun u => u.nw.ingress = d.nw.ingress ++ [fr] ∧
          u.get (LG_CHCNT_RX.ix n) = (d.get (LG_CHCNT_RX.ix n) + 1) % 4096 ∧ OnlyIn [.nw] (fun k => k == LG_CHCNT + 4 * n) d u)) ∧
    (∀ rx, d.lgs n ≠ lsIdle → AnswersDev (.frameReception n rx) s d) ∧
    (Answers (.tallyBucket now) s fun u => u.lg.secs = (d.lg.secs + 1) % 2 ^ 32 ∧ only u ∧
      ∀ b, b < 8 → d.bit (LG_BANDLIM_VALID.ix b) = true → d.hop b = false →
        (mget [] u.lg.duty b).head? = some 0 ∧ (mget [] u.lg.duty b).length ≤ 3601) ∧
    (en = false → (Answers (.chainEnable n) s fun u => u.bit (LG_CHCFG_EN.ix n) = true ∧
        u.lgs n = (if c.tx.isSome then lsTx else lsIdle) ∧ (u.rc n).queue = c.queue ∧ (u.rc n).offAtEnd = false) ∧
      AnswersDev (.chainDisable n) s (d.arrived (.chainEn n false))) ∧
    (en = true → AnswersDev (.chainEnable n) s (d.arrived (.chainEn n true)) ∧
      (c.tx ≠ none → Answers (.chainDisable n) s fun u => u.bit (LG_CHCFG_EN.ix n) = false ∧ (u.rc n).tx = c.tx ∧
        (u.rc n).offAtEnd = true ∧ (u.rc n).queue = c.queue ∧ u.lgs n = lsTx) ∧
      (c.tx = none → Answers (.chainDisable n) s fun u => u.bit (LG_CHCFG_EN.ix n) = false ∧ (u.rc n).queue = [] ∧ u.lgs n = lsOff)) ∧
    (en = true ∨ c.offAtEnd = true → Answers (.chainForcedDisable n now) s fun u => u.bit (LG_CHCFG_EN.ix n) = false ∧
      (u.rc n).tx = none ∧ (u.rc n).queue = [] ∧ u.lgs n = lsOff) ∧
    (∀ cause, d.lgs n ≠ lsOff → d.lgs n ≠ lsFault → Answers (.chainFault n cause now) s fun u => u.lgs n = lsFault ∧
      (u.rc n).tx = none ∧ (u.rc n).queue = []) ∧
    (d.lgs n = lsFault → Answers (.chainRetry n true) s fun u => u.lgs n = (if en then lsIdle else lsOff) ∧ (u.rc n).queue = c.queue) ∧
    (AnswersDev (.chainRetry n false) s (d.sliceRun 0x16 1))

/-- The rows of nodes and of MESH_DOWN answer with the frame of the cycle, a MESH_DOWN message out of order with its direction alone. What a
flight does with them at a snapshot: on a chain that takes the node's frames an authentic frame with a counter above its entry becomes the entry
and takes effect: DATA and STATUS go into MESH_UP, the node is joined. A counter equal or below, or a failed MIC, is counted and takes no effect.
A join of a known node with PERMIT succeeds; an unknown one is refused. MESH_DOWN by the operator queues its frame and answers E_OK, by another
role E_ROLE, to an unknown node E_NO_ROUTE. NODE_LOST between two scans marks a node lost whose frames have been missing for as long as R376
says. -/
def Obligations.NodesJoinSendAndAreLost : Prop :=
  (∀ (s : State) (n a ctr ts eui : Nat) (mic : Bool) (data : List Byte) (h : MsgHdr) (k ms : Nat),
    let d := s.dev
    AnswersDev (.nodeData n a ctr mic ts data) s (d.arrived (.nodeData n a ctr mic ts data)) ∧
    AnswersDev (.nodeStatus n a ctr mic ts data) s (d.arrived (.nodeStatus n a ctr mic ts data)) ∧
    AnswersDev (.nodeAck n a ctr mic ts k ms) s (d.arrived (.nodeAck n a ctr mic ts k ms)) ∧
    AnswersDev (.joinReq n eui ctr mic) s (d.arrived (.joinReq false n eui ctr mic)) ∧
    AnswersDev (.rejoinReq n eui ctr mic) s (d.arrived (.joinReq true n eui ctr mic)) ∧
    AnswersDev (.meshDownUnicast h a k ms data) s (d.messaged (.meshUnicast 0x2 h a k ms data)) ∧
    AnswersDev (.meshDownCommand h a k ms data) s (d.messaged (.meshUnicast 0xE h a k ms data)) ∧
    AnswersDev (.meshDownMulticast h k ms data) s (d.messaged (.meshMulticast h k ms data)) ∧
    AnswersDev (.meshDownFwblock h k data) s (d.messaged (.meshFwBlock h k data)) ∧
    AnswersDev (.meshDownFwControl h k) s (d.messaged (.meshFwControl h k))) ∧
  (∀ (d : Dev) (f : Flt) (locked : Bool) (n a ctr ts : Nat), n < 8 →
    let x := d.fl f
    let key := nbrKey f a
    let e := (d.rd key).toNat
    let up (kind chain : Nat) (time seq : Nat) (b : List Byte) : UpMsg :=
      ⟨0x51, 0, 0, 0, 0, le 1 kind ++ le 1 chain ++ le 2 a ++ le 8 time ++ le 2 b.length ++ le 2 seq ++ b, none⟩
    (∀ c, d.chainTakes f n (isSleepy a) = true → isNodeAddr a = true → (d.cfgOf f).nodeCfg a = some c → ctr < 2 ^ 32 →
      (e < ctr →
        (∀ data, let u := Dev.applyIn f locked d (.nodeData n a ctr true ts data)
          (u.rd key).toNat = ctr ∧ (u.nodeSt f a).joined = true ∧ (u.nodeSt f a).lost = false ∧
          (u.fl f).mac.acks = x.mac.acks ++ (if d.role f n = 1 then [(n, a, ctr)] else []) ∧
          (u.fl f).msgs.getLast? = some (up 0 n ts 0 data) ∧ (u.fl f).pts = x.pts ∧
          OnlyIn [f.part] (fun k => k == key || k == f.key FL_MACSTAT) d u) ∧
        (∀ p, let u := Dev.applyIn f locked d (.nodeStatus n a ctr true ts p)
          (u.rd key).toNat = ctr ∧ (u.nodeSt f a).joined = true ∧ (u.nodeSt f a).missing = field p 14 2 ∧
          (u.fl f).msgs.getLast? = some (up 1 n ts 0 p)) ∧
        (∀ acked us h, (x.mac.queue.find? fun h => h.ctr == acked && h.stage != 0 && h.dst == a) = some h →
          let u := Dev.applyIn f locked d (.nodeAck n a ctr true ts acked us)
          (u.rd key).toNat = ctr ∧ h ∉ (u.fl f).mac.queue ∧
            (∀ q, h.seq = some q → (u.fl f).msgs.getLast? = some (up 2 (u.nodeSt f a).chain x.mapTime q [0])))) ∧
      (ctr = e → ∀ data, let u := Dev.applyIn f locked d (.nodeData n a ctr true ts data)
        u.rd key = d.rd key ∧ (u.fl f).msgs = x.msgs ∧ u.get (FL_MACCNT_DUP.at f) = min (d.get (FL_MACCNT_DUP.at f) + 1) 65535) ∧
      (∀ data, let u := Dev.applyIn f locked d (.nodeData n a ctr false ts data)
        u.rd key = d.rd key ∧ (u.fl f).msgs = x.msgs ∧ (u.fl f).mac = x.mac ∧
        u.get (FL_MACCNT_REPLAY.at f) = min (d.get (FL_MACCNT_REPLAY.at f) + 1) 65535)) ∧
    (d.chainTakes f n (isSleepy a) = false → ∀ mic data, Dev.applyIn f locked d (.nodeData n a ctr mic ts data) = d) ∧
    (∀ eui c, d.role f n = 1 ∨ d.role f n = 2 → (d.cfgOf f).nodeTab.find? (fun q => q.eui == eui) = some c → c.addr = a →
      d.chainTakes f n c.sleepy = true → isNodeAddr a = true → d.bit (FL_JOINCTL_PERMIT.at f) = true → e < ctr → ctr < 2 ^ 32 →
      (let u := Dev.applyIn f locked d (.joinReq false n eui ctr true)
       (u.rd key).toNat = ctr ∧ (u.nodeSt f a).joined = true ∧ (u.nodeSt f a).lost = false ∧
        u.get (FL_JOINCTL_JOINS.at f) = (d.get (FL_JOINCTL_JOINS.at f) + 1) % 65536) ∧
      (c.chain = n → c.home = none → d.serves f c = true →
        let u := Dev.applyIn f locked d (.joinReq true n eui ctr true)
        (u.rd key).toNat = ctr ∧ (u.nodeSt f a).joined = true ∧ (u.nodeSt f a).chain = n ∧ (u.nodeSt f a).slot = c.slot ∧
          (u.nodeSt f a).member = c.member)) ∧
    (∀ eui mic, d.role f n = 1 ∨ d.role f n = 2 → (d.cfgOf f).nodeTab.find? (fun q => q.eui == eui) = none →
      let u := Dev.applyIn f locked d (.joinReq false n eui ctr mic)
      (u.fl f).msgs = x.msgs ++ [evMsg ⟨.flMacJoinRefused, f.region, none, [((eui % 2 ^ 32 : Nat) : Int), 1]⟩] ∧
        (u.fl f).mac = x.mac ∧ OnlyIn [f.part] noKey d u) ∧
    (∀ (h : MsgHdr) (k flags ms : Nat) (data : List Byte),
      let answered (u : Dev) (code : Nat) : Prop := (u.fl f).msgs.getLast? = some ⟨0x50, h.seq, code, h.suite, h.role, [], none⟩
      let one := Dev.applyIn f locked d (.meshUnicast k h a flags ms data)
      let all := Dev.applyIn f locked d (.meshMulticast h flags ms data)
      let block := Dev.applyIn f locked d (.meshFwBlock h k data)
      let control := Dev.applyIn f locked d (.meshFwControl h k)
      (h.role = 1 → (d.cfgOf f).nodeCfg a ≠ none → (d.nodeSt f a).lost = false → d.reachable f a = true →
        (isSleepy a = true ∨ d.fitsSlot f (d.nodeSt f a).chain data.length (bitOf flags 1) = true) →
        answered one E_OK ∧ OnlyIn [f.part] noKey d one ∧
          ∃ q, (one.fl f).mac.queue = x.mac.queue ++ [q] ∧ q.dst = a ∧ q.kind = k ∧ q.data = data ∧ q.seq = some h.seq ∧
            q.deadline = d.downDeadline f a ms ∧ q.stage = 0) ∧
      (h.role ≠ 1 → answered one E_ROLE ∧ answered all E_ROLE ∧ answered block E_ROLE ∧ answered control E_ROLE ∧
        (one.fl f).mac = x.mac ∧ (all.fl f).mac = x.mac ∧ (block.fl f).mac = x.mac ∧ (control.fl f).mac = x.mac) ∧
      (h.role = 1 → (d.cfgOf f).nodeCfg a = none → answered one E_NO_ROUTE ∧ (one.fl f).mac = x.mac) ∧
      (h.role = 1 → answered all E_OK ∧ ∀ ch, ch < 8 → d.role f ch = 1 →
        ∃ q, q ∈ (all.fl f).mac.queue ∧ q.dst = 0xFFFF ∧ q.via = ch ∧ q.kind = 0x2 ∧ q.data = data) ∧
      (h.role = 1 → data.length ≤ 512 → d.get (FL_FWDIST_PHASE.at f) = 0 → block.get (FL_FWDIST_PHASE.at f) = 1 ∧
        block.get (FL_FWDIST_ROUND.at f) = 0 ∧ (block.fl f).mac.fwBlocks = [k] ∧ answered block E_OK) ∧
      (h.role = 1 → control.get (FL_FWDIST_PHASE.at f) = 3 ∧ (control.fl f).mac.fwInterval = some k ∧ answered control E_OK))) ∧
  ∀ (s : State) (f : Flt) (a : Nat),
    let d := s.dev
    (d.atRest = false → AnswersDev (.nodeLost a) s d) ∧
    (d.atRest = true → d.consumes f = true →
      (d.lostDue f a = true → Answers (.nodeLost a) s fun u => (u.nodeSt f a).lost = true ∧ (u.nodeSt f a).joined = true ∧
        evMsg ⟨.flMacNodeLost, f.region, d.nodeSuite f a, [a]⟩ ∈ (u.fl f).msgs) ∧
      (d.lostDue f a = false → Answers (.nodeLost a) s fun u => u.fl f = d.fl f))

/-- LOGGIA_REPORT, LOGGIA_STATUS_RECORD and COORD_RX answer with the record as a frame of the cycle; at a snapshot a report that a frame was sent
ends its request, a STATUS record gives airtime, lock, pressure and fault, a write of a chain's enable is noted, and a coordination beacon of a peer
in its place sets the misses to 0 and names its boundary. The rows that flights reckon by the scan's time act between two scans in each flight
that consumes frames: BEACON_INTERVAL forms the STRICT, stamped beacon of each enabled MESH chain not yet formed for the next interval, and none
while time is not locked; an expired frame to a sleepy partner is dropped and counted; a coordination beacon that did not come is counted; groups
whose boundary has come are handed back. -/
def Obligations.TheMacKeepsItsBeaconsPeersAndReports : Prop :=
  (∀ (s : State) (n a b c : Nat) (gs : List Nat) (mic : Bool),
    AnswersDev (.loggiaReport n a b c) s (s.dev.arrived (.report n a b c)) ∧
    AnswersDev (.loggiaStatusRecord n a b c) s (s.dev.arrived (.chainStatus n a b c)) ∧
    AnswersDev (.coordRx n a gs b mic) s (s.dev.arrived (.coordRx n a gs b mic))) ∧
  (∀ (d : Dev) (f : Flt) (locked : Bool) (n : Nat), n < 8 →
    let m := (d.fl f).mac
    (∀ id out st air,
      let u := Dev.applyIn f locked d (.report id out st air)
      (mget? m.reqs id = none → u = d) ∧
      (∀ r, mget? m.reqs id = some r → mget? (u.fl f).mac.reqs id = none ∧
        (out = 0 → (u.fl f).msgs = (d.fl f).msgs ∧
          (r.kind = 4 → (u.fl f).mac.acks = m.acks) ∧
          ∀ h, r.kind ≠ 4 → m.queue.find? (fun h => h.num == r.num) = some h →
            (h.ackreq = false → ∀ q, q ∈ (u.fl f).mac.queue → q.num ≠ h.num) ∧
            (h.ackreq = true → ∃ q, q ∈ (u.fl f).mac.queue ∧ q.num = h.num ∧ q.stage = 2)))) ∧
    (∀ flags sum budget, let u := Dev.applyIn f locked d (.chainStatus n flags sum budget)
      mget? (u.fl f).mac.air n = some (sum, budget) ∧ (u.fl f).mac.locked = bitOf flags 1 ∧
      (n ∈ (u.fl f).mac.press ↔ bitOf flags 0 = true) ∧ (n ∈ (u.fl f).mac.fault ↔ bitOf flags 2 = true)) ∧
    (∀ on, n ∈ ((Dev.applyIn f locked d (.chainEn n on)).fl f).mac.chEn ↔ on = true) ∧
    (∀ ts serial gs b,
      let u := Dev.applyIn f locked d (.coordRx ts serial gs b true)
      let v := Dev.applyIn f locked d (.coordRx ts serial gs b false)
      let o := d.peerOff f n
      let i := (ts + d.bi f / 2 - o) / d.bi f
      ((∀ k, k < 8 → d.role f k ≠ 3) → u = d ∧ v = d) ∧
      (∀ k, k < 8 → d.role f k = 3 →
        (v.fl f).mac = m ∧ v.get (FL_MACCNT_REPLAY.at f) = min (d.get (FL_MACCNT_REPLAY.at f) + 1) 65535 ∧
        (((List.range 8).find? fun p => d.bit ((FL_PEERCFG_VALID.ix p).at f) &&
            (d.rd (f.key FL_PEERSER + 8 * p)).toNat + 2 ^ 32 * (d.rd (f.key FL_PEERSER + 8 * p + 4)).toNat == serial) = some n →
          (∀ g, g ∈ (u.fl f).mac.adopted → g.peer = n → g.group ∈ gs → g.boundary = some b) ∧
          (ts ≤ i * d.bi f + o + 2000000 → i * d.bi f + o ≤ ts + 2000000 → mget 0 m.coordSeen n ≠ i + 1 →
            u.get ((FL_PEERSTAT_MISS.ix n).at f) = 0 ∧ mget 0 (u.fl f).mac.coordSeen n = i + 1))))) ∧
  ∀ (s : State) (f : Flt) (n : Nat), n < 8 →
    let d := s.dev
    let x := d.fl f
    let m := x.mac
    (d.atRest = false → AnswersDev .beaconInterval s d ∧ AnswersDev (.peerCoordMiss n) s d ∧ AnswersDev .handbackBoundary s d ∧
      ∀ a q, AnswersDev (.sleepyDeadline a q) s d) ∧
    (d.atRest = true → d.consumes f = true →
      (d.macTime f = true → d.chainUp f n = true → d.role f n = 1 → d.hasKey f m.gkey = true →
        (d.rd (f.key FL_MACTXCTR)).toNat + 8 < 0xFFFFFFFF → mget 0 m.beaconI n ≠ d.intervalAt f n x.mapTime + 2 →
        d.clearFrom f n ≤ d.slotTx f n (d.intervalAt f n x.mapTime + 1) 0 →
        Answers .beaconInterval s fun u => u.bit (FL_MACSTAT_BEACON.at f) = true ∧
          mget 0 (u.fl f).mac.beaconI n = d.intervalAt f n x.mapTime + 2 ∧
          ∃ r, r ∈ (u.fl f).reqs ∧ r.chain = n ∧ r.strict = true ∧ r.ts = true ∧ r.cls = 0 ∧
            r.start = d.slotTx f n (d.intervalAt f n x.mapTime + 1) 0 ∧ r.deadline = r.start) ∧
      (d.macTime f = false → Answers .beaconInterval s fun u => u.bit (FL_MACSTAT_BEACON.at f) = false ∧ (u.fl f).reqs = x.reqs ∧
        (u.fl f).mac = m) ∧
      (∀ h a q, (m.queue.find? fun h => h.dst == a && h.seq == some q && isSleepy a && h.stage != 1 && decide (h.deadline < x.mapTime)) =
          some h → Answers (.sleepyDeadline a q) s fun u =>
        h ∉ (u.fl f).mac.queue ∧ u.get (FL_MACDROP_SLEEPY.at f) = min (d.get (FL_MACDROP_SLEEPY.at f) + 1) 65535 ∧
        evMsg ⟨.flMacSleepyDrop, f.region, none, [a, q]⟩ ∈ (u.fl f).msgs) ∧
      (∀ i, d.bit ((FL_PEERCFG_VALID.ix n).at f) = true → d.missDue f n = some i → Answers (.peerCoordMiss n) s fun u =>
        u.get ((FL_PEERSTAT_MISS.ix n).at f) = min (d.get ((FL_PEERSTAT_MISS.ix n).at f) + 1) 15 ∧ mget? (u.fl f).mac.present n = none ∧
        mget 0 (u.fl f).mac.coordSeen n = i + 1 ∧
        (2 ≤ d.get ((FL_PEERSTAT_MISS.ix n).at f) → u.get ((FL_PEERSTAT_STATE.ix n).at f) = 2)) ∧
      (d.missDue f n = none → Answers (.peerCoordMiss n) s fun u => u.fl f = x) ∧
      (Answers .handbackBoundary s fun u =>
        ∀ g, g ∈ (u.fl f).mac.adopted ↔ g ∈ m.adopted ∧ ∀ b, g.boundary = some b → x.mapTime < b))

/-! ## Time (chapter 15) -/

/-- Announce messages keep one entry per clock and select the best; Syncs latch the raw count; a Sync with its Follow_Up and a known path delay
gives an offset, which sets PTPOFS, the integral term and the rate; a discarded sample sets nothing. Sixteen narrow samples lock, four wide ones
return to ACQUIRING, the fourth sample may step once; silence and a disable leave LOCKED for HOLDOVER or FREE. Trust expires to source none. A quotient is truncated
toward zero (log 84). -/
def Obligations.TheServoMeasuresAndSteers : Prop :=
  ∀ (s : State) (now ident seq : Nat) (t1 t2 : Int),
    let d := s.dev
    let x := d.time
    let raw := max x.raw now
    let state := OnlyIn [.time, .arc] (orEvent [FY_TBSTAT]) d
    let takes := d.servoTakes ident = true
    (∀ dom rank, (d.bit FY_PTPCFG_EN = true → dom = d.get FY_PTPCFG_DOMAIN → Answers (.announceRx ident dom rank) s fun u => state u ∧
        u.time.masters = x.masters.filter (·.ident != ident) ++ [⟨ident, rank⟩] ∧
        u.time.master = (bestMaster u.time.masters).map (·.ident) ∧
        u.servo = (if d.servo = svFree ∨ d.servo = svHoldover then svAcquiring else d.servo)) ∧
      (d.bit FY_PTPCFG_EN = false ∨ dom ≠ d.get FY_PTPCFG_DOMAIN → AnswersDev (.announceRx ident dom rank) s d)) ∧
    (∀ m two ovr, m < 2 → Answers (.syncRx now ident m seq two ovr t1) s fun u =>
      u.rd (FY_RXTS + 8 * m) = BitVec.ofNat 32 raw ∧ u.rd (FY_RXTS + 8 * m + 4) = BitVec.ofNat 32 (raw / 2 ^ 32) ∧ u.time.raw = raw ∧
      (ovr = true ∨ ¬takes → u.time = { x with raw := raw } ∧ OnlyIn [.time] (keysIn [(FY_RXTS + 8 * m, 2)]) d u) ∧
      (ovr = false → takes → two = true →
        u.time.twoStep = some (seq, d.timeAt raw / 4294967296 - d.get FY_PTPLAT_RXLAT) ∧ u.time.sync = x.sync ∧
          OnlyIn [.time] (keysIn [(FY_RXTS + 8 * m, 2)]) d u) ∧
      (ovr = false → takes → two = false → u.time.sync = some (t1, d.timeAt raw / 4294967296 - d.get FY_PTPLAT_RXLAT))) ∧
    (x.twoStep = some (seq, t2) → takes →
      (x.mpd = none → Answers (.followUpRx ident seq t1) s fun u => u.time.sync = some (t1, t2) ∧ u.time.twoStep = none ∧
        OnlyIn [.time] noKey d u) ∧
      (∀ m, x.mpd = some m →
        let off := t2 - t1 - m
        let integ := clampI (-rmax) rmax (x.integ - Int.tdiv (off * 1099511627776) 256000000000)
        let rate := clampI (-rmax) rmax (integ - Int.tdiv (off * 1099511627776) 16000000000)
        let kept := ((m :: x.mpds).take 16).all fun p => decide (m ≤ 4 * p)
        let new := ((off, m) :: x.samples).take 4
        (kept = false → Answers (.followUpRx ident seq t1) s fun u => OnlyIn [.time] noKey d u ∧ u.time.integ = x.integ ∧
          u.time.samples = x.samples ∧ u.time.good = x.good ∧ u.time.wide = x.wide) ∧
        (kept = true → d.servo = svLocked → (off.natAbs ≤ 10000 ∨ x.wide < 3) → Answers (.followUpRx ident seq t1) s fun u =>
          u.rd FY_PTPOFS = BitVec.ofInt 32 (clampI (-2147483647) 2147483647 off) ∧ u.rd FY_TBRATE = BitVec.ofInt 32 rate ∧
          u.time.integ = integ ∧ u.time.samples = new ∧ OnlyIn [.time] (fun k => k == FY_PTPOFS || k == FY_TBRATE) d u) ∧
        (kept = true → d.servo = svLocked → 10000 < off.natAbs → x.wide = 3 → Answers (.followUpRx ident seq t1) s fun u =>
          u.servo = svAcquiring ∧ u.rd FY_TBRATE = BitVec.ofInt 32 rate ∧
          u.get FY_TBSTAT_SOURCE = (if d.get FY_TBSTAT_SOURCE = 2 then 3 else d.get FY_TBSTAT_SOURCE)) ∧
        (kept = true → d.servo = svAcquiring → off.natAbs ≤ 1000 → x.good = 15 → 4 ≤ x.nSamples →
          Answers (.followUpRx ident seq t1) s fun u => u.servo = svLocked ∧ u.time.lockedEver = true ∧
            u.get FY_TBSTAT_SOURCE = 2 ∧ u.bit FY_TBSTAT_TRUST = true ∧ u.bit FY_BKSTAT_OSF = false ∧ u.bit FY_BKSTAT_BKLOST = false ∧
            u.rd FY_TBRATE = BitVec.ofInt 32 rate ∧ u.time.rtcCnt = u.nowNs / 1000000000 % 2 ^ 48) ∧
        (kept = true → d.servo = svAcquiring → x.nSamples = 3 → x.good < 15 → d.bit FY_TBSTAT_STEPUSED = false →
          (∃ o l, leastMpd new = some (o, l) ∧ d.stepThr < o.natAbs) → Answers (.followUpRx ident seq t1) s fun u =>
            u.servo = svAcquiring ∧ u.bit FY_TBSTAT_STEPUSED = true ∧ u.time.integ = 0 ∧ u.time.stepped = true ∧
            u.get FY_TBSTAT_EPOCH = (d.get FY_TBSTAT_EPOCH + 1) % 65536))) ∧
    (x.twoStep = none ∨ ¬takes → AnswersDev (.followUpRx ident seq t1) s d) ∧
    (∀ a b, x.sync = some (a, b) → Answers (.delayReqSend now) s fun u =>
      let t3 : Int := d.timeAt raw / 4294967296 + d.get FY_PTPLAT_TXLAT
      u.time = { x with raw := raw, dreq := some (a, b, t3) } ∧ u.rd FY_TXTS = BitVec.ofInt 32 t3 ∧
        u.rd (FY_TXTS + 4) = BitVec.ofInt 32 (t3 / 4294967296) ∧ OnlyIn [.time] (keysIn [(FY_TXTS, 2)]) d u) ∧
    (∀ a b t3 t4, x.master = some ident → x.dreq = some (a, b, t3) → Answers (.delayRespRx ident t4) s fun u =>
      let m := Int.tdiv ((b - a) + (t4 - t3)) 2
      u.time = { x with mpd := some m, dreq := none } ∧ (0 ≤ m → u.rd FY_PTPMPD = BitVec.ofInt 32 (min m 0xFFFFFFFF)) ∧
        (m < 0 → u.rd FY_PTPMPD = Config.ptpMpdNeg m) ∧ OnlyIn [.time] (· == FY_PTPMPD) d u) ∧
    (∀ t4, x.master ≠ some ident → AnswersDev (.delayRespRx ident t4) s d) ∧
    (x.master = some ident → (∀ m ∈ x.masters, m.ident = ident) →
      (d.servo = svLocked → Answers .syncTimeout s fun u => u.servo = svHoldover ∧ u.time.master = none ∧ u.time.integ = x.integ ∧
        u.rd FY_TBRATE = BitVec.ofInt 32 (clampI (-rmax) rmax x.integ)) ∧
      (d.servo = svAcquiring → x.lockedEver = false → Answers .syncTimeout s fun u => u.servo = svFree ∧ u.time.master = none ∧ state u) ∧
      (d.servo = svAcquiring → x.lockedEver = true → Answers .syncTimeout s fun u => u.servo = svHoldover ∧
        u.rd FY_TBRATE = BitVec.ofInt 32 (clampI (-rmax) rmax x.integ))) ∧
    (x.master = none → AnswersDev .syncTimeout s d) ∧
    (Answers .ptpEnable s fun u => u.bit FY_PTPCFG_EN = true ∧ OnlyIn [] (· == FY_PTPCFG) d u) ∧
    (Answers .ptpDisable s fun u => u.bit FY_PTPCFG_EN = false ∧ u.servo = svFree ∧ u.time.master = none ∧ u.time.masters = [] ∧
      OnlyIn [.time, .arc, .cor] (orEvent [FY_PTPCFG, FY_TBSTAT]) d u) ∧
    (d.bit FY_TBSTAT_TRUST = true → d.get FY_TBSTAT_SOURCE ≠ 2 → d.landingFree → Answers .trustExpiry s fun u =>
      u.get FY_TBSTAT_SOURCE = 0 ∧ u.bit FY_TBSTAT_TRUST = false ∧ d.landed u (.mk' .fyTimeTrust [0, 0]) ∧
        OnlyIn [.arc, .cor] (orEvent [FY_TBSTAT]) d u) ∧
    (d.bit FY_TBSTAT_TRUST = false ∨ d.get FY_TBSTAT_SOURCE = 2 → AnswersDev .trustExpiry s d)

/-- A mark is numbered and latched, and every fourth one sends a TIME_MAP of its boundary while the Corridor is up. Writing CMPHI arms an alarm,
which fires at once where it is due, as does a due alarm later: FIRED, its source, its LF; a one-shot clears EN and a periodic one advances past the
present. The RTC is written from trusted time only, clears OSF and BKLOST and recomputes word 31. Shadows, read latches, domain loss, supply switch,
oscillator stop and the checkpoints do what chapters 9, 14 and 15 say of them; after the power warning no checkpoint is written. -/
def Obligations.MarksAlarmsAndTheBackupDomain : Prop :=
  ∀ (s : State) (now n : Nat), n < 4 →
    let d := s.dev
    let x := d.time
    let raw := max x.raw now
    let only := OnlyIn [.time, .arc] (orEvent [FY_TALCMPLO + 16 * n, FY_TALCMPHI + 16 * n, FY_TALCTL + 16 * n, FY_TALSTAT + 16 * n]) d
    let ns := unitsNs (d.timeAt raw)
    let sec := min (x.opsec0 + raw / 250000000) (2 ^ 40 - 1)
    let a := mget Alarm.zero x.alarms n
    let per := d.get (tal FY_TALCTL_PERIOD n) * 1000000
    let fired := fun (u : Dev) (cmp ns : Nat) => only u ∧ u.bit (tal FY_TALSTAT_FIRED n) = true ∧ u.bit (tal FY_TALSTAT_LATE n) = false ∧
      mget Alarm.zero u.time.alarms n = ⟨true, cmp⟩ ∧ u.bit ⟨FY_EVPEND + 4, 28 + n, 28 + n⟩ = true ∧
      (d.landingFree → d.landed u ⟨.fyTalarm, 1, none, [n, 0, d.get (tal FY_TALSTAT_SKIPPED n)]⟩) ∧
      (per = 0 → u.bit (tal FY_TALCTL_EN n) = false) ∧
      (per ≠ 0 → u.bit (tal FY_TALCTL_EN n) = true ∧ u.talCmp n = (cmp + ((ns - cmp) / per + 1) * per) % 2 ^ 64)
    (∀ c, x.markNo = some c →
      let l := Dev.cycleLen { d with time := { x with marks := (raw :: x.marks).take 4097 } }
      let t := d.timeAt raw - 610 * 4294967296
      let mp : TimeMap := ⟨c + 1, unitsNs t, unitsFrac t, unitsNs l % 2 ^ 32, unitsFrac l, d.bit FY_TBSTAT_TRUST, false, x.stepped,
        decide (d.servo = svLocked), d.get FY_TBSTAT_SOURCE, d.get FY_TBSTAT_EPOCH⟩
      Answers (.cycleMark now) s fun u => OnlyIn [.time, .cor] noKey d u ∧ u.time.markNo = some (c + 1) ∧
        u.time.marks = (raw :: x.marks).take 4097 ∧
        ((c + 1) % 4 = 0 → d.cor.hostUp = true → msSelftest ≤ d.mst →
          d.sentDown u 0x30 mp.bytes 0 0 0 false ∧ u.time.stepped = false) ∧
        ((c + 1) % 4 ≠ 0 ∨ d.cor.hostUp = false ∨ d.mst < msSelftest → u.cor = d.cor ∧ u.time.stepped = x.stepped)) ∧
    (∀ v : W32,
      let cmp := (d.rd (FY_TALCMPLO + 16 * n)).toNat + v.toNat * 2 ^ 32
      (d.bit (tal FY_TALCTL_EN n) = true → 0 < cmp → cmp ≤ d.nowNs → Answers (.alarmArm n v) s fun u => fired u cmp d.nowNs) ∧
      (d.bit (tal FY_TALCTL_EN n) = false ∨ d.nowNs < cmp → Answers (.alarmArm n v) s fun u => u.rd (FY_TALCMPHI + 16 * n) = v ∧
        mget Alarm.zero u.time.alarms n = ⟨true, 0⟩ ∧ OnlyIn [.time] (· == FY_TALCMPHI + 16 * n) d u)) ∧
    ((a.armed = true → d.bit (tal FY_TALCTL_EN n) = true → a.lf < d.talCmp n → d.talCmp n ≤ ns → Answers (.alarmFire now n) s fun u =>
        fired u (d.talCmp n) ns) ∧
      (a.armed = false ∨ d.bit (tal FY_TALCTL_EN n) = false ∨ d.talCmp n ≤ a.lf ∨ ns < d.talCmp n →
        AnswersDev (.alarmFire now n) s { d with time := { x with raw := raw } })) ∧
    ((d.bit FY_TBSTAT_TRUST = true → Answers (.rtcWrite now) s fun u => u.time.rtcCnt = ns / 1000000000 % 2 ^ 48 ∧
        u.time.rtcSub = ns % 1000000000 * 32768 / 1000000000 ∧ u.bit FY_BKSTAT_OSF = false ∧ u.bit FY_BKSTAT_BKLOST = false ∧
        u.rd (FY_BKRAM + 12) = d.rd FY_TBRATE ∧ u.rd (FY_BKRAM + 124) = BitVec.ofNat 32 (crc32c u.bkBytes) ∧
        (2 ≤ d.get FY_TBSTAT_SOURCE → u.rtcSet = some (ns / 1000000000)) ∧ (d.get FY_TBSTAT_SOURCE = 1 → u.rtcSet = d.rtcSet) ∧
        OnlyIn [.time] (keysIn [(FY_BKRAM, 32), (FY_BKSTAT, 1)]) d u) ∧
      (d.bit FY_TBSTAT_TRUST = false → AnswersDev (.rtcWrite now) s { d with time := { x with raw := raw } })) ∧
    (∀ mgmt ticks,
      let k := x.rtcCnt * 32768 + x.rtcSub + ticks
      (Answers (.rtcShadowCopy mgmt ticks) s fun u => u.time.rtcCnt = k / 32768 % 2 ^ 48 ∧ u.time.rtcSub = k % 32768 ∧
        u.shadow mgmt = ⟨true, k % 32768, k / 32768 % 2 ^ 48, ((k / 32768 % 2 ^ 48 : Nat) : Int) - d.get FY_BKSTAT_TAIUTC⟩ ∧
        u.shadow (!mgmt) = d.shadow (!mgmt) ∧ OnlyIn [.time] noKey d u) ∧
      ∀ c ∈ [Instr.rtcShadowRelease mgmt, .rtcShadowTimeout mgmt], Answers c s fun u => (u.shadow mgmt).held = false ∧
        u.rtcSeen mgmt = d.rtcCopy ∧ u.shadow (!mgmt) = d.shadow (!mgmt) ∧ OnlyIn [.time] noKey d u) ∧
    (Answers (.rawReadLatch now) s fun u => u.rd FY_TBRAWHI = BitVec.ofNat 32 (raw / 2 ^ 32) ∧ u.time = { x with raw := raw } ∧
      OnlyIn [.time] (· == FY_TBRAWHI) d u) ∧
    (Answers (.timeReadLatch now) s fun u => u.rd FY_TIMEHI = BitVec.ofNat 32 (ns / 2 ^ 32) ∧
      u.rd FY_TIMEFRAC = BitVec.ofNat 32 (unitsFrac (d.timeAt raw)) ∧ OnlyIn [.time] (fun k => k == FY_TIMEHI || k == FY_TIMEFRAC) d u) ∧
    ((Answers (.opsecReadLatch now) s fun u => u.rd FY_OPSECHI = BitVec.ofNat 32 (sec / 2 ^ 32) ∧ OnlyIn [.time] (· == FY_OPSECHI) d u) ∧
      (d.arc.warned = false → AnswersDev (.opsecCheckpoint now) s { d with
        time := { x with raw := raw }, jnl := { d.jnl with opsec := sec, time := ns } }) ∧
      (d.arc.warned = true → AnswersDev (.opsecCheckpoint now) s { d with time := { x with raw := raw } })) ∧
    (Answers .backupDomainLoss s fun u => u.bit FY_BKSTAT_OSF = true ∧ u.bit FY_BKSTAT_BKLOST = true ∧ u.bit FY_BKSTAT_RAMOK = false ∧
      OnlyIn [.time] (keysIn [(FY_BKRAM, 32), (FY_BKSTAT, 1)]) d u) ∧
    (∀ onBat mv, mv < 4096 → Answers (.backupSupplySwitch onBat mv) s fun u => u.bit FY_BKSTAT_ONBAT = onBat ∧ u.get FY_BKSTAT_VBAT = mv ∧
      (∀ i, i < 32 → u.rd (FY_BKRAM + 4 * i) = d.rd (FY_BKRAM + 4 * i)) ∧ OnlyIn [] (· == FY_BKSTAT) d u) ∧
    (d.landingFree → Answers .oscillatorStop s fun u => u.bit FY_BKSTAT_OSF = true ∧ d.landed u (.mk' .fyRtcOsf []) ∧
      OnlyIn [.arc] (orEvent [FY_BKSTAT]) d u) ∧
    (∀ f, d.active = some f → d.linkUp = true → d.arc.warned = false →
      (Answers .nbrCheckpoint s fun u => OnlyIn [.jnl] noKey d u ∧
        ∀ i, i < 65536 → mget 0 u.jnl.nbr (FL_NBRCTR + 4 * i) = mget 0 d.regs (f.key (FL_NBRCTR + 4 * i))) ∧
      AnswersDev .txctrCheckpoint s { d with jnl := { d.jnl with txctr := some (d.rd (f.key FL_MACTXCTR)).toNat } } ∧
      AnswersDev .turnCheckpoint s { d with jnl := { d.jnl with turns := some (d.fl f).enf.turns } }) ∧
    (d.active = none ∨ d.linkUp = false ∨ d.arc.warned = true → ∀ c ∈ [Instr.nbrCheckpoint, .txctrCheckpoint, .turnCheckpoint], AnswersDev c s d)


/-! ## The host port (chapter 16) -/

/-- A word read of a register returns its readable fields, 0 at a reserved address, and changes nothing; a word write leaves what the access codes
say. Reads and host-half writes of the window move its bytes, word by word, where no word has an error; a word with an uncorrectable error
reads as zeros with E_ECC. The Foyer half refuses with E_LOCK, a part word with E_RANGE. STAT returns and clears
the sticky status; an unknown command is counted. An event is raised under its own region alone. The vector delivers the
highest-priority pending source and clears it. The proxy sends its request
for a bound session that holds the role. -/
def Obligations.TheHostPortReadsAndWrites : Prop :=
  ∀ (s : State) (now a len n w : Nat) (bs : List Byte) (v : W32),
    let d := s.dev
    let c := d.clock now
    let k := fyKey a
    let h := d.host
    let com := d.mod.committed
    let stored := fun (r : RegRow) (x : Nat) => writeFields com (d.rd k).toNat x r.fields
    let ses := d.get FY_HPSESS_SESSION
    let ask := fun (typ : Nat) (data : List Byte) (x : Session) (u : Dev) =>
      let m := d.sendReq { CrReq.zero with
        typ := typ, session := ses, suite := x.suite, role := x.role, origin := b2n x.udp
        payload := le 1 (d.get FY_CRPADDR_REGION) ++ le 1 (if bitsOf v.toNat 13 8 = 0 then 64 else bitsOf v.toNat 13 8) ++ [0, 0] ++
          le 4 (d.get FY_CRPADDR_OFFSET) ++ data }
      u.bit FY_CRPCTL_BUSY = true ∧ u.cor.reqs = m.cor.reqs ∧ u.cor.downQ = m.cor.downQ
    let clean := fun (n : Nat) => ∀ i, i < n → d.wordClean .fy (windowPlace (a - 0x100000 + i)).1 (windowPlace (a - 0x100000 + i)).2
    let place := windowPlace (a - 0x100000)
    let home := d.home .fy (d.phys .fy place.1) place.2
    h.portUp = true →
    (a < 0x10000 → a % 4 = 0 → c.fyLive k = none → (needsCore k = true → h.coreDown = false) → Answers (.hostRead now a 4) s fun u =>
      (∀ r, regRow k = some r → u.host.lastData = le 4 (readFields (d.rd k).toNat r.fields)) ∧
      (regRow k = none → u.host.lastData = le 4 0) ∧ u.host.lastStatus = 0 ∧ OnlyIn [.host, .time] noKey d u) ∧
    (a < 0x10000 → a % 4 = 0 → needsCore k = true → h.coreDown = true → Answers (.hostRead now a 4) s fun u =>
      u.host.lastData = le 4 0 ∧ u.host.lastStatus = E_PD) ∧
    (Answers (.hostRead now 0x600 4) s fun u => u.host.lastData = le 4 c.time.raw ∧
      u.rd FY_TBRAWHI = BitVec.ofNat 32 (c.time.raw / 2 ^ 32) ∧ OnlyIn [.host, .time] (· == FY_TBRAWHI) d u) ∧
    (0x100000 ≤ a → a + len ≤ 0x200000 → clean len → Answers (.hostRead now a len) s fun u => u.host.lastData.length = len ∧
      (∀ i, i < len → u.host.lastData[i]? = some (mget 0 h.window (a - 0x100000 + i))) ∧ u.host.window = h.window ∧ u.host.lastStatus = 0 ∧
      u.fmem = d.fmem) ∧
    (0x100000 ≤ a → a + 8 ≤ 0x200000 → a % 8 = 0 → (d.word .fy home.1 home.2).valid = true →
      (d.word .fy home.1 home.2).err = .uncorrectable → Answers (.hostRead now a 8) s fun u => u.host.lastData = List.replicate 8 0 ∧
        u.host.lastStatus = E_ECC ∧ u.bit FY_ERRADDR_UE = true ∧ u.host.window = h.window) ∧
    (a < 0x10000 → a % 4 = 0 → bs.length = 4 → actsOnAccess k = false → Answers (.hostWrite a bs) s fun u =>
      (∀ r, regRow k = some r → u.rd k = BitVec.ofNat 32 (stored r (field bs 0 4)).1 ∧
        u.host.lastStatus = (if (stored r (field bs 0 4)).2 then E_LOCK else 0)) ∧
      (regRow k = none → u.host.lastStatus = 0 ∧ OnlyIn [.host] noKey d u) ∧ OnlyIn [.host] (fun x => x == k || x == FY_HPSTAT) d u) ∧
    (a < 0x10000 → a % 4 ≠ 0 → bs.length = 4 - a % 4 → Answers (.hostWrite a bs) s fun u => u.host.lastStatus = E_RANGE ∧
      OnlyIn [.host] (· == FY_HPSTAT) d u) ∧
    (0x100000 ≤ a → a + bs.length ≤ 0x180000 → clean bs.length → d.bit FY_ECCTEST_ARM = false → Answers (.hostWrite a bs) s fun u =>
      u.host.lastStatus = 0 ∧ OnlyIn [.host, .fmem] noKey d u ∧
      ∀ i, mget 0 u.host.window i = (bs[i + 0x100000 - a]?.filter fun _ => decide (a ≤ i + 0x100000)).getD (mget 0 h.window i)) ∧
    (0x180000 ≤ a → a + bs.length ≤ 0x200000 → bs ≠ [] → Answers (.hostWrite a bs) s fun u => u.host.lastStatus = E_LOCK ∧
      u.host.window = h.window) ∧
    (Answers .hostStat s fun u => u.host.lastStatus = d.get FY_HPSTAT_CODE + 128 * d.get FY_HPSTAT_EMPTY ∧ u.get FY_HPSTAT_CODE = 0 ∧
      u.get FY_HPSTAT_EMPTY = 0 ∧ u.get FY_HPSTAT_CMDERR = d.get FY_HPSTAT_CMDERR ∧ OnlyIn [.host] (· == FY_HPSTAT) d u) ∧
    (Answers .hostUnknownCommand s fun u => u.host = h ∧ OnlyIn [] (· == FY_HPSTAT) d u ∧
      u.get FY_HPSTAT_CMDERR = min (d.get FY_HPSTAT_CMDERR + 1) 65535 ∧
      u.get FY_HPSTAT_CODE = (if d.get FY_HPSTAT_CODE = 0 then E_CMD else d.get FY_HPSTAT_CODE)) ∧
    (Answers (.hpsessBind v) s fun u =>
      (∀ x, mget? d.fmp.sessions (bitsOf v.toNat 7 0) = some x → x.udp = false →
        u.get FY_HPSESS_SESSION = bitsOf v.toNat 7 0 ∧ u.bit FY_HPSESS_OPEN = true ∧ u.host.lastStatus = 0) ∧
      (bitsOf v.toNat 7 0 = 0 → u.get FY_HPSESS_SESSION = 0 ∧ u.host.lastStatus = 0) ∧
      (bitsOf v.toNat 7 0 ≠ 0 → (∀ x, mget? d.fmp.sessions (bitsOf v.toNat 7 0) = some x → x.udp = true) →
        u.get FY_HPSESS_SESSION = 0 ∧ u.host.lastStatus = E_NO_SESSION) ∧ u.fmp = d.fmp) ∧
    (n ∈ d.hostSources → (∀ m ∈ d.hostSources, d.evPri m < d.evPri n ∨ (d.evPri m = d.evPri n ∧ n ≤ m)) →
      Answers .eventVectorRead s fun u => u.host.lastData = le 4 (n + d.evPri n * 2 ^ 8) ∧ u.host.lastStatus = 0 ∧
        u.bit ⟨FY_EVPEND + 4 * (n / 32), n % 32, n % 32⟩ = false ∧ OnlyIn [.host] (· == FY_EVPEND + 4 * (n / 32)) d u) ∧
    (d.hostSources = [] → Answers .eventVectorRead s fun u => u.host.lastData = le 4 0x80000000 ∧ OnlyIn [.host] noKey d u) ∧
    (w < 4 → Answers (.eventPendClear w v) s fun u =>
      u.rd (FY_EVPEND + 4 * w) = d.rd (FY_EVPEND + 4 * w) &&& ~~~(v &&& ~~~(d.rd (FY_EVROUTE + 4 * w))) ∧
      OnlyIn [.host] (· == FY_EVPEND + 4 * w) d u) ∧
    (∀ ev : Ev, ev.regionOk = false → AnswersDev (.eventRaise ev) s d) ∧
    (∀ ev : Ev, (∀ m ∈ ev.sources, m < 128) → ev.regionOk = true → Answers (.eventRaise ev) s fun u =>
      (∀ m ∈ ev.sources, u.bit ⟨FY_EVPEND + 4 * (m / 32), m % 32, m % 32⟩ = true) ∧ OnlyIn [.arc] (orEvent []) d u ∧
      (d.landingFree → d.landed u ev ∧ u.arc.period = d.arc.period) ∧
      (¬d.landingFree → u.arc.landing = d.arc.landing ∧ u.bit FY_ARCSTAT_SUPPRESSING = true ∧
        mget 0 u.arc.period ev.region = mget 0 d.arc.period ev.region + 1)) ∧
    (h.coreDown = false →
      (mget? d.fmp.sessions ses = none → ∀ g ∈ [Instr.proxyRead v, .proxyWrite v], Answers g s fun u =>
        u.host.lastStatus = E_NO_SESSION ∧ u.cor = d.cor) ∧
      ∀ x, mget? d.fmp.sessions ses = some x →
        (x.role ≠ 1 → Answers (.proxyWrite v) s fun u => u.host.lastStatus = E_ROLE ∧ u.cor = d.cor) ∧
        (x.role ≠ 1 → x.role ≠ 2 → Answers (.proxyRead v) s fun u => u.host.lastStatus = E_ROLE ∧ u.cor = d.cor) ∧
        (x.role = 1 → d.bit FY_CRPCTL_BUSY = true → ∀ g ∈ [Instr.proxyRead v, .proxyWrite v], Answers g s fun u =>
          u.host.lastStatus = E_BUSY ∧ u.cor = d.cor) ∧
        (x.role = 1 → d.bit FY_CRPCTL_BUSY = false → d.cor.hostUp = false → ∀ g ∈ [Instr.proxyRead v, .proxyWrite v], Answers g s fun u =>
          u.host.lastStatus = 0 ∧ u.get FY_CRPCTL_RESULT = E_PD ∧ u.bit FY_CRPCTL_DONE = true ∧ u.cor = d.cor) ∧
        (x.role = 1 ∨ x.role = 2 → d.bit FY_CRPCTL_BUSY = false → d.cor.hostUp = true → Answers (.proxyRead v) s (ask 0x40 [] x)) ∧
        (x.role = 1 → d.bit FY_CRPCTL_BUSY = false → d.cor.hostUp = true → Answers (.proxyWrite v) s (ask 0x41
          ((List.range (if bitsOf v.toNat 13 8 = 0 then 64 else bitsOf v.toNat 13 8)).flatMap fun i =>
            le 4 (d.rd (FY_CRPDATA + 4 * i)).toNat) x))) ∧
    (∀ role key r, regRow key = some r →
      (key / 2 ^ 24 = 1 ∧ actsOnAccess key = false ∨ role = 1 ∧ key / 2 ^ 24 = 5 ∧ key ∉ [NW_SWCTL, NW_QUAR, NW_REPAIRCFG] ∨
        key / 2 ^ 24 = 7 ∧ keysIn [(LG_CHCFG, 8)] key = false) →
      AnswersDev (.registerWrite role key v) s (d.wr key (BitVec.ofNat 32 (writeFields com (d.rd key).toNat v.toNat r.fields).1))) ∧
    (∀ role key, key / 2 ^ 24 = 3 ∨ key / 2 ^ 24 = 4 →
      AnswersDev (.registerWrite role key v) s (d.arrived (.fieldWrite (key % 2 ^ 24 + 3 * 2 ^ 24) v))) ∧
    (∀ role key, role ≠ 1 → key / 2 ^ 24 = 5 → AnswersDev (.registerWrite role key v) s d)

/-- A TAG write on an empty alcove with a proper buffer sets FULL, starts its timer and, in the serving states, its source; it is refused on a FULL
alcove or a wrong buffer. The receiver empties it, and a waiting reply is then noticed; a timeout sets TIMEOUT and keeps FULL. A byte fills the held
word or queues the full one; without room the packet overflows; EOP queues the last word with its count; ABORT and DROP discard. A landing read pops
a word, or reports EMPTY. -/
def Obligations.AlcovesAndLandingsCarryRecords : Prop :=
  ∀ (s : State) (a n tag : Nat) (b : Byte),
    let d := s.dev
    let h := d.host
    let p := d.packer n
    let items := mget [] h.items n
    let words := mget [] h.words n
    let serves := msServes d.mst = true ∧ d.mod.romHold = false
    let pended := fun (u : Dev) (m : Nat) => u.bit ⟨FY_EVPEND + 4 * (m / 32), m % 32, m % 32⟩ = true
    let ptr := d.get (alc FY_ALCPTR_PTR a)
    let size := d.get (alc FY_ALCLEN_LEN a)
    let good := ptr + size ≤ 0x100000 ∧ (size = 0 ∨ (if a < 16 then ptr + size ≤ 0x80000 else 0x80000 ≤ ptr))
    let full := d.bit (alcFull a) = true
    let st := FY_LDSTAT + 16 * n
    let queued := fun (u : Dev) (i : LdItem) => mget [] u.host.items n = items ++ [i] ∧ u.get (ld FY_LDSTAT_LEVEL n) = items.length + 1
    let alcKeys := fun k => orEvent [FY_ALCTAG + 16 * a, FY_ALCCTL + 16 * a] k
    h.portUp = true → h.coreDown = false →
    (a < 32 → tag < 65536 →
      (full → AnswersDev (.alcoveTagWrite a tag) s (if a < 16 then d.accessDone E_LOCK false [] else d)) ∧
      (¬full → ¬good → AnswersDev (.alcoveTagWrite a tag) s (if a < 16 then d.accessDone E_RANGE false [] else d)) ∧
      (¬full → good → Answers (.alcoveTagWrite a tag) s fun u => u.bit (alcFull a) = true ∧ u.get (alc FY_ALCTAG_TAG a) = tag ∧
        a ∈ u.host.alcoves ∧ (serves → pended u (16 + a)) ∧ (a < 16 → u.host.lastStatus = 0) ∧ OnlyIn [.host] alcKeys d u)) ∧
    (a < 16 → Answers (.alcoveEmpty a) s fun u => u.bit (alcFull a) = false ∧ a ∉ u.host.alcoves ∧
      OnlyIn [.host] (· == FY_ALCCTL + 16 * a) d u) ∧
    (16 ≤ a → a < 32 →
      (mget [] h.waiting (a - 16) = [] → Answers (.alcoveEmpty a) s fun u => u.bit (alcFull a) = false ∧ a ∉ u.host.alcoves ∧
        u.host.lastStatus = 0) ∧
      (∀ t rec rest, mget [] h.waiting (a - 16) = (t, rec) :: rest → t < 65536 → rec.length ≤ 32768 → Answers (.alcoveEmpty a) s fun u =>
        u.bit (alcFull a) = true ∧ u.get (alc FY_ALCTAG_TAG a) = t ∧ u.get (alc FY_ALCPTR_PTR a) = 0x80000 + (a - 16) * 0x8000 ∧
          u.get (alc FY_ALCLEN_LEN a) = rec.length ∧ mget [] u.host.waiting (a - 16) = rest ∧
          (d.bit FY_ECCTEST_ARM = false → (∀ i, i < rec.length → d.wordClean .fy (windowPlace (0x80000 + (a - 16) * 0x8000 + i)).1
            (windowPlace (0x80000 + (a - 16) * 0x8000 + i)).2) → ∀ i, i < rec.length → rec[i]? = some (mget 0 u.host.window (0x80000 + (a - 16) * 0x8000 + i))))) ∧
    (a < 32 →
      (full → a ∈ h.alcoves → d.landingFree → Answers (.alcoveTimeout a) s fun u => u.bit (alc FY_ALCCTL_TIMEOUT a) = true ∧
        u.bit (alcFull a) = true ∧ a ∉ u.host.alcoves ∧ (a < 16 → pended u 6) ∧ d.landed u (.mk' .fyAlcTimeout [a]) ∧
        OnlyIn [.host, .arc] alcKeys d u) ∧
      (¬full ∨ a ∉ h.alcoves → AnswersDev (.alcoveTimeout a) s d) ∧
      (Answers (.alcoveTimeoutClear a) s fun u => u.bit (alc FY_ALCCTL_TIMEOUT a) = false ∧ (u.bit (alcFull a) = true ↔ full) ∧
        OnlyIn [.host] (· == FY_ALCCTL + 16 * a) d u)) ∧
    (n < 4 → p.overflowed = false → p.abortDue = false → p.dropping = false →
      (p.held.length < 8 → Answers (.landingDataWrite n [b]) s fun u => (u.packer n).held = p.held ++ [b] ∧
        mget [] u.host.items n = items ∧ u.host.lastStatus = 0 ∧ OnlyIn [.host] noKey d u) ∧
      (p.held.length = 8 → items.length < 512 → Answers (.landingDataWrite n [b]) s fun u => (u.packer n).held = [b] ∧
        queued u ⟨0xF, p.held⟩ ∧ (u.packer n).items = p.items + 1 ∧ OnlyIn [.host] (· == st) d u) ∧
      (p.held.length = 8 → 512 ≤ items.length → Answers (.landingDataWrite n [b]) s fun u => (u.packer n).overflowed = true ∧
        (u.packer n).abortDue = true ∧ mget [] u.host.items n = items ∧ u.host.lastStatus = E_OVERFLOW ∧
        u.bit (ld FY_LDSTAT_OVF n) = true) ∧
      (p.held ≠ [] → p.held.length ≤ 8 → items.length < 512 → Answers (.landingEopWrite n []) s fun u => (u.packer n).held = [] ∧
        (u.packer n).items = 0 ∧ queued u ⟨p.held.length, p.held⟩ ∧ (serves → pended u (48 + n)) ∧ u.host.lastStatus = 0) ∧
      (p.held = [] → Answers (.landingEopWrite n []) s fun u => mget [] u.host.items n = items ∧ OnlyIn [.host] noKey d u) ∧
      (p.items = 0 → Answers (.landingAbort n) s fun u => (u.packer n).held = [] ∧ mget [] u.host.items n = items ∧
        OnlyIn [.host] noKey d u) ∧
      (0 < p.items → items.length < 512 → Answers (.landingAbort n) s fun u => (u.packer n).held = [] ∧ (u.packer n).items = 0 ∧
        queued u ⟨9, []⟩) ∧
      (∀ rest, packetRest items = some rest → items.length ≤ 512 → Answers (.landingDrop n) s fun u => mget [] u.host.items n = rest ∧
        u.get (ld FY_LDSTAT_DROPS n) = min (d.get (ld FY_LDSTAT_DROPS n) + 1) 65535 ∧
        u.get (ld FY_LDSTAT_LEVEL n) = rest.length ∧ OnlyIn [.host] (· == st) d u) ∧
      (packetRest items = none → Answers (.landingDrop n) s fun u => mget [] u.host.items n = [] ∧ (u.packer n).dropping = true ∧
        OnlyIn [.host] (· == st) d u)) ∧
    (4 ≤ n → n < 8 →
      (∀ w t, words = w :: t → mget [] h.ldWait n = [] → t.length < 2048 → Answers (.landingRead n) s fun u =>
        u.host.lastData = le 4 w.1.toNat ∧ mget [] u.host.words n = t ∧ u.host.lastStatus = 0 ∧
          u.get (ld FY_LDSTAT_LEVEL n) = t.length ∧ OnlyIn [.host] (· == st) d u) ∧
      (words = [] → Answers (.landingRead n) s fun u => u.host.lastData = le 4 0xFFFF0000 ∧ u.host.lastStatus = 128 ∧
        u.bit FY_HPSTAT_EMPTY = true ∧ mget [] u.host.words n = [] ∧ OnlyIn [.host] (· == FY_HPSTAT) d u))


/-! ## The Foyer message protocol (chapter 16) -/

/-- A HELLO of a known, unlocked client gets the next session id and waits for FINISH; a malformed one is counted, an unknown or locked client's
fails. A valid FINISH opens the session with the client's role and its suite; a bad signature and a timeout fail it. Five failures of an entry
within 60 s lock it out until the expiry. A fresh authentic record joins its request to those in progress, a fifth is turned away, a replay is
counted and changes nothing. The idle timeout closes the session, with what it held, and tells the field side. -/
def Obligations.SessionsOpenCarryRequestsAndClose : Prop :=
  ∀ (s : State) (udp : Bool) (ch tag sid : Nat) (body : List Byte),
    let d := s.dev
    let m := d.fmp
    let entry := field body 2 2
    let bad := fun (u : Dev) => u.get FY_FMPSTAT_BAD = min (d.get FY_FMPSTAT_BAD + 1) 65535 ∧ u.fmp = m
    let failed := fun (u : Dev) (e : Nat) =>
      let l := (m.fails.filter fun f => decide (d.time.raw < f.2 + 60 * 250000000)) ++ [(e, d.time.raw)]
      (if 5 ≤ (l.filter fun f => f.1 == e).length then e ∈ u.fmp.locked else u.fmp.fails = l ∧ u.fmp.locked = m.locked) ∧
        u.fmp.sessions = m.sessions
    (d.carrierUp udp ch = true →
      (body.length = 101 → field body 0 1 = 1 → field body 36 1 = 4 → m.sessions.length < 32 → m.shakes.length < 8 →
        (mhas d.clientTable entry = true → entry ∉ m.locked → d.entropy = true → Answers (.hello udp ch tag body) s fun u =>
          mget? u.fmp.shakes d.nextSession = some ⟨entry, d.nextSession, udp, ch, tag, m.keys, d.poolFree⟩ ∧ u.fmp.lastId = d.nextSession ∧
          u.fmp.keys = m.keys + 1 ∧ u.fmp.sessions = m.sessions ∧ u.und.draws = d.und.draws + 1) ∧
        (mhas d.clientTable entry = false ∨ entry ∈ m.locked → Answers (.hello udp ch tag body) s fun u => failed u entry ∧
          u.fmp.shakes = m.shakes) ∧
        (mhas d.clientTable entry = true → entry ∉ m.locked → d.entropy = false → Answers (.hello udp ch tag body) s fun u => u.fmp = m)) ∧
      (body.length ≠ 101 ∨ field body 0 1 ≠ 1 ∨ field body 36 1 ≠ 4 → Answers (.hello udp ch tag body) s bad) ∧
      (body.length = 101 → field body 0 1 = 1 → field body 36 1 = 4 → 32 ≤ m.sessions.length ∨ 8 ≤ m.shakes.length →
        Answers (.hello udp ch tag body) s fun u => u.fmp = m) ∧
      (mget? m.shakes sid = none → ∀ ok, Answers (.finish udp ch tag sid ok) s bad) ∧
      ∀ h c, mget? m.shakes sid = some h → h.session = sid → h.udp = udp → h.channel = ch →
        mget? d.clientTable h.client = some c →
        (m.sessions.length < 32 → d.landingFree → Answers (.finish udp ch tag sid true) s fun u =>
          let suite := if c.role = 3 ∨ c.role = 4 then c.suite else 0
          mget? u.fmp.sessions sid = some { Session.zero with
            client := h.client, role := c.role, suite := suite, udp := udp, channel := ch, txSeq := 2, key := h.key } ∧
          (∀ k, k ≠ sid → mget? u.fmp.sessions k = mget? m.sessions k) ∧ mget? u.fmp.shakes sid = none ∧
          (d.foyerClean → d.landed u (.mk' .fySessOpen [sid, c.role, suite, ((b2n udp : Nat) : Int)]))) ∧
        (Answers (.finish udp ch tag sid false) s fun u => failed u h.client ∧ mget? u.fmp.shakes sid = none)) ∧
    (∀ h, mget? m.shakes sid = some h → h.session = sid → Answers (.handshakeTimeout sid) s fun u => failed u h.client ∧
      mget? u.fmp.shakes sid = none) ∧
    (mget? m.shakes sid = none → AnswersDev (.handshakeTimeout sid) s d) ∧
    (∀ e, AnswersDev (.lockoutExpiry e) s { d with fmp := { m with locked := m.locked.filter (· ≠ e) } }) ∧
    (∀ x seq msg, mget? m.sessions sid = some x → d.carrierUp udp ch = true → x.udp = udp → x.channel = ch →
      msg.length + 32 ≤ d.maxRecord udp ch →
      let id := field msg 2 2
      let op := field msg 0 1
      let others := fun (u : Dev) => ∀ k, k ≠ sid → mget? u.fmp.sessions k = mget? m.sessions k
      (x.rxSeq < seq → seq < 2 ^ 63 → x.txSeq < 2 ^ 62 → 4 ≤ msg.length → id ≠ 0 → field msg 1 1 % 2 = 0 →
        (∀ q ∈ x.replies, q.id ≠ id) → (∀ b ∈ x.busy, b.id ≠ id) → (∀ j ∈ x.joining, j.1 ≠ id) →
        (x.busy.length + x.joining.length < 4 → (opRoles op).isSome = true → Answers (.fmpDataRecord udp ch sid seq true msg tag) s fun u =>
          mget? u.fmp.sessions sid = some { x with
            rxSeq := seq, busy := x.busy ++ [⟨id, op, field msg 1 1, msg.drop 4, tag, false⟩] } ∧ others u) ∧
        (x.busy.length + x.joining.length < 4 → opRoles op = none → Answers (.fmpDataRecord udp ch sid seq true msg tag) s fun u =>
          ∃ y, mget? u.fmp.sessions sid = some y ∧ y.rxSeq = seq ∧ y.busy = x.busy ∧
            y.replies.head? = some ⟨id, op, E_CMD, []⟩ ∧ others u) ∧
        (4 ≤ x.busy.length + x.joining.length → Answers (.fmpDataRecord udp ch sid seq true msg tag) s fun u =>
          ∃ y, mget? u.fmp.sessions sid = some y ∧ y.rxSeq = seq ∧ y.busy = x.busy ∧ y.replies = x.replies ∧ others u)) ∧
      (∀ ok, ok = false ∨ seq ≤ x.rxSeq → Answers (.fmpDataRecord udp ch sid seq ok msg tag) s bad)) ∧
    (∀ x, mget? m.sessions sid = some x → d.landingFree → Answers (.sessionIdleTimeout sid) s fun u => mget? u.fmp.sessions sid = none ∧
      (∀ k, k ≠ sid → mget? u.fmp.sessions k = mget? m.sessions k) ∧ (∀ e ∈ u.und.pend, e.2.session ≠ sid) ∧
      (∀ e ∈ u.arc.nonces, e.1 ≠ sid) ∧ (∀ e ∈ u.upd.loads, e.2.1 ≠ sid) ∧ d.landed u (.mk' .fySessClose [sid, 1]) ∧
      (d.cor.hostUp = true → d.sentDown u 0x10 ([3] ++ le 1 sid ++ [0, 0]) 0 1 0 false)) ∧
    (mhas m.sessions sid = false → AnswersDev (.sessionIdleTimeout sid) s d)

/-- For a session with one request in progress: an operation whose roles do not hold the session's is answered with E_ROLE, in the boot ROM's responder
one it does not serve with E_CMD. KEEPALIVE, STATUS and LREG_READ are answered by the Foyer alone, which acquires a latch that it reads; CLOSE is
answered and closes. TIME_STEP and TIME_SET move system time by a step, raise the epoch and make the operator its source, or are refused while
LOCKED without FORCE. Corridor operations are forwarded with role and suite, answered E_PD without the Corridor and, the acting ones, E_LOCK in
HOLD. RESTART starts the field side. -/
def Obligations.OperationsAnswerByRoleAndPath : Prop :=
  ∀ (s : State) (now ses : Nat) (x : Session) (r : FmpReq) (a b c : Bool) (bytes : List Byte),
    let d := s.dev
    let id := r.id
    let p := r.payload
    let tells := fun (i : Instr) (st : Nat) (pl : List Byte) => Answers i s fun u => u.answered ses r st pl
    let plain := fun (i : Instr) (st : Nat) (pl : List Byte) => Answers i s fun u => u.answered ses r st pl ∧
      (d.foyerClean → OnlyIn [.fmp, .host, .eth, .fmem] carrierKey d u)
    let acts := keysIn [(FY_EVVEC, 1), (FY_TBRAWLO, 1), (FY_TIMELO, 1), (FY_OPSECLO, 1), (FY_RTCSUB, 1), (FY_RTCCAL1, 1), (FY_LATCH, 32)]
    let ops : List (Instr × Nat × List Nat) := [(.fmpStatus ses id, 0x01, [1, 2, 3, 4, 5]), (.keepalive ses id, 0x02, [1, 2, 3, 4, 5]),
      (.close ses id, 0x03, [1, 2, 3, 4, 5]), (.fmpPointRead ses id, 0x10, [1, 2, 3, 4]), (.fmpPointWrite ses id, 0x11, [1, 3]),
      (.fmpForceSet ses id, 0x13, [1]), (.fmpRegRead ses id, 0x20, [1, 2]), (.fmpRegWrite ses id, 0x21, [1]), (.lregRead ses id, 0x22, [1, 2]),
      (.timeStep now ses id, 0x30, [1]), (.timeSet now ses id, 0x31, [1]), (.fmpMeshDown ses id, 0x40, [1]),
      (.attest ses id, 0x50, [1, 2, 3, 4, 5]), (.keyInfo ses id, 0x51, [1, 2]), (.keyPrepare ses id, 0x52, [1]), (.keyCommit ses id, 0x53, [1]),
      (.keyAbort ses id, 0x54, [1]), (.keyInvalidate ses id, 0x55, [1]), (.keyExport ses id, 0x56, [1]), (.arcadeRead ses id, 0x58, [1, 2, 3, 4]),
      (.arcadeClearNonce ses id, 0x59, [1]), (.arcadeClear ses id a, 0x59, [1]), (.updBegin ses id a b c, 0x60, [1, 5]),
      (.updBlock ses id a, 0x61, [1, 5]), (.updStatus ses id, 0x62, [1, 2, 5]), (.updVerify ses id a bytes, 0x63, [1, 5]),
      (.updActivate ses id, 0x64, [1, 5]), (.updConfirm ses id, 0x65, [1, 5]), (.updRevert ses id, 0x66, [1, 5]), (.updAbort ses id, 0x67, [1, 5]),
      (.updDistribute ses id, 0x68, [1, 5]), (.restart ses id, 0x70, [1])]
    let paths : List (Instr × Nat × Nat × Bool) := [(.fmpPointRead ses id, 0x10, 0x10, false), (.fmpPointWrite ses id, 0x11, 0x11, true),
      (.fmpForceSet ses id, 0x13, 0x13, true), (.fmpRegRead ses id, 0x20, 0x40, false), (.fmpRegWrite ses id, 0x21, 0x41, false),
      (.fmpMeshDown ses id, 0x40, 0x50, true)]
    d.asked ses x r → x.txSeq < 2 ^ 61 →
    (d.mod.romHold = true → ∀ e ∈ ops, r.op = e.2.1 → r.op ∉ [1, 2, 3, 0x22] → r.op < 0x60 ∨ 0x68 < r.op → tells e.1 E_CMD []) ∧
    (d.mod.romHold = false → ∀ e ∈ ops, r.op = e.2.1 →
      (x.role ∉ e.2.2 → tells e.1 E_ROLE []) ∧
      (x.role ∈ e.2.2 →
        (r.op = 0x01 → plain (.fmpStatus ses id) E_OK
          (le 4 (d.fyPeek FY_MODSTATE).toNat ++ le 4 (d.fyPeek FY_NWSTAT).toNat ++ le 4 (d.fyPeek FY_TBSTAT).toNat)) ∧
        (r.op = 0x02 → plain (.keepalive ses id) E_OK []) ∧
        (r.op = 0x03 → Answers (.close ses id) s fun u => mget? u.fmp.sessions ses = none ∧
          (∀ k, k ≠ ses → mget? u.fmp.sessions k = mget? d.fmp.sessions k) ∧ (∀ q ∈ u.und.pend, q.2.session ≠ ses)) ∧
        (r.op = 0x22 →
          let ad := field p 0 4
          let n := field p 4 1
          (∀ i, i < 32 → p.length = 8 → n = 1 → fyKey ad = FY_LATCH + 4 * i → Answers (.lregRead ses id) s fun u =>
            u.answered ses r E_OK (le 4 (d.get (Mem.fy.latch i))) ∧
            u.get (Mem.fy.latch i) = (if d.get (Mem.fy.latch i) = 0 then 1 else d.get (Mem.fy.latch i))) ∧
          (p.length = 8 → 1 ≤ n → n ≤ 64 → ad % 4 = 0 → ad + 4 * (n - 1) ≤ 0xFFFC → (∀ i, i < n → acts (fyKey (ad + 4 * i)) = false) →
            plain (.lregRead ses id) E_OK ((List.range n).flatMap fun i => le 4 (d.fyPeek (fyKey (ad + 4 * i))).toNat)) ∧
          (p.length ≠ 8 ∨ n = 0 ∨ 64 < n ∨ ad % 4 ≠ 0 ∨ 0xFFFC < ad + 4 * (n - 1) → plain (.lregRead ses id) E_RANGE [])) ∧
        (∀ q : Instr × Nat × Nat × Bool, q ∈ paths → r.op = q.2.1 →
          (q.2.2.2 = true → d.mst = msHold → plain q.1 E_LOCK []) ∧
          (q.2.2.2 = false ∨ d.mst ≠ msHold → d.cor.hostUp = false → plain q.1 E_PD []) ∧
          (q.2.2.2 = false ∨ d.mst ≠ msHold → d.cor.hostUp = true → Answers q.1 s fun u => d.forwarded u ses q.2.2.1 x r ∧
            OnlyIn [.fmp, .cor] noKey d u)) ∧
        (∀ q : Instr × Nat × Nat × Int, q ∈ [(Instr.timeStep now ses id, 0x30, 8, d.timeAt (max d.time.raw now) +
              signed 64 (field p 0 8) * 4294967296),
            (.timeSet now ses id, 0x31, 12, (field p 0 8 : Int) * 4294967296 + (field p 8 4 : Nat))] → r.op = q.2.1 →
          let base := (d.time.bNs : Int) * 4294967296 + d.time.bFrac + (q.2.2.2 - d.timeAt (max d.time.raw now))
          let epoch := (d.get FY_TBSTAT_EPOCH + 1) % 65536
          (p.length ≠ q.2.2.1 → tells q.1 E_RANGE []) ∧
          (p.length = q.2.2.1 → d.servo = svLocked → bitOf r.flags 1 = false → Answers q.1 s fun u =>
            u.answered ses r E_BUSY_SERVICE [] ∧ u.time = { d.time with raw := max d.time.raw now }) ∧
          (p.length = q.2.2.1 → d.servo ≠ svLocked ∨ bitOf r.flags 1 = true → 0 ≤ base → base < 2 ^ 96 → Answers q.1 s fun u =>
            u.answered ses r E_OK (le 2 epoch ++ [0, 0]) ∧ u.timeNow = q.2.2.2 ∧ u.get FY_TBSTAT_EPOCH = epoch ∧
            u.get FY_TBSTAT_SOURCE = max (d.get FY_TBSTAT_SOURCE) 4 ∧ u.time.stepped = true ∧ u.time.integ = 0 ∧
            u.rd FY_TBRATE = d.rd FY_TBRATE ∧
            (d.bit FY_TBSTAT_TRUST = true ∨ d.get FY_TBSTAT_SOURCE < 4 → u.bit FY_BKSTAT_OSF = false))) ∧
        (r.op = 0x70 →
          let k := field p 0 1
          let may := d.mst = msHold ∨ d.mst = msService ∨ d.mst = msDegraded ∨ d.mst = msFailsafe
          (p = [] ∨ 2 < k → plain (.restart ses id) E_RANGE []) ∧
          (p ≠ [] → k ≤ 2 → d.bit FY_MODSTATE_FIELDPWR = false → plain (.restart ses id) E_PD []) ∧
          (p ≠ [] → k ≤ 2 → d.bit FY_MODSTATE_FIELDPWR = true → ¬may → plain (.restart ses id) E_BUSY_SERVICE []) ∧
          (p ≠ [] → k ≤ 2 → d.bit FY_MODSTATE_FIELDPWR = true → may → Answers (.restart ses id) s fun u => u.answered ses r E_OK [] ∧
            u.mst = msSelftest ∧ u.mod.order = some k ∧ u.mod.committed = false ∧
            (d.linkUp = true → u.nw.modState = msSelftest ∧ u.nw.gate = false)))))


/-! ## The Undercroft (chapter 17) -/

/-- KEY_PREPARE leaves material from the DRBG, a derivation or a wrapped blob in the pending store and the slot as it was; KEY_COMMIT puts it into
use with the next generation and erases the slots that were stale before; KEY_ABORT discards it; KEY_INVALIDATE empties the slot and makes its
children stale; KEY_EXPORT answers a wrapped blob; KEY_INFO the attributes. Locked slots, other sessions' pending values and missing entropy refuse.
Contexts open up to 16 and close on a stale key. Health failures stop the DRBG. ATTEST answers the statement, four times a second. -/
def Obligations.KeysArePreparedCommittedAndGoStale : Prop :=
  ∀ (s : State) (ses : Nat) (x : Session) (r : FmpReq),
    let d := s.dev
    let id := r.id
    let p := r.payload
    let k := field p 0 1
    let old := d.slot k
    let says' := fun (i : Instr) (st : Nat) (pl : List Byte) => Answers i s fun u => u.answered ses r st pl
    let free := 8 ≤ k ∧ k < 48 ∧ bitOf old.flags 2 = false
    let y := field p 1 1
    let data := (p.drop 8).take (field p 6 2)
    let base : KeyAttr := { emptyKey with typ := y, usage := field p 2 1 % 128, flags := field p 3 1 % 16 }
    let ctr := max (recCtr (d.keyRec k).a) (recCtr (d.keyRec k).b)
    let kept := fun (u : Dev) => ∀ n, n ≠ k → d.stale n = false → u.slot n = d.slot n
    let prepares := fun (u : Dev) (a : KeyAttr) => u.answered ses r E_OK [] ∧ mget? u.und.pend k = some ⟨a, ses⟩ ∧ u.und.slots = d.und.slots
    (d.asked ses x r → d.mod.romHold = false → x.txSeq < 2 ^ 61 →
      (r.op = 0x50 → 1 ≤ x.role → x.role ≤ 5 →
        let sec := d.time.raw / 250000000
        let n := if d.und.attSecond = sec then d.und.attests else 0
        (16 ≤ k → k ≤ 64 → p.length = 1 + k → n < 4 → d.landingFree → Answers (.attest ses id) s fun u => u.und.attSecond = sec ∧ u.und.attests = n + 1 ∧
          (x.txSeq + (d.statement (p.drop 1)).length < 2 ^ 62 → u.answered ses r E_OK (d.statement (p.drop 1)) ∧
            (d.statement (p.drop 1)).take 7 = [0xD2, 0x84, 0x43, 0xA1, 0x01, 0x26, 0xA0] ∧
            (d.foyerClean → d.landed u (.mk' .fyAttest [ses, k])))) ∧
        (k < 16 ∨ 64 < k ∨ p.length ≠ 1 + k → says' (.attest ses id) E_RANGE []) ∧
        (16 ≤ k → k ≤ 64 → p.length = 1 + k → 4 ≤ n → Answers (.attest ses id) s fun u => u.und = d.und ∧
          ∃ z, mget? u.fmp.sessions ses = some z ∧ z.busy = [] ∧ z.replies = x.replies)) ∧
      (r.op = 0x51 → x.role = 1 ∨ x.role = 2 →
        (63 < k → says' (.keyInfo ses id) E_RANGE []) ∧ (k ≤ 63 → old.typ = 0 → says' (.keyInfo ses id) E_KEY_EMPTY []) ∧
        (k ≤ 63 → old.typ ≠ 0 → d.stale k = true → says' (.keyInfo ses id) E_KEY_STALE []) ∧
        (k ≤ 63 → old.typ ≠ 0 → d.stale k = false → says' (.keyInfo ses id) E_OK
          (le 1 old.typ ++ le 1 old.usage ++ le 1 (old.flags % 32 + 64 * b2n (mhas d.und.pend k)) ++ le 1 old.parent ++ le 4 old.gen ++
            le 4 old.pgen ++ le 4 old.ctr ++
            (if old.typ = 4 ∨ old.typ = 5 then (List.range 65).map (Config.publicKey old.key) else [])))) ∧
      (r.op = 0x52 → x.role = 1 →
        (k ≤ 63 → ¬free → says' (.keyPrepare ses id) E_LOCK []) ∧
        (free → (∃ q, mget? d.und.pend k = some q ∧ q.session ≠ ses) → says' (.keyPrepare ses id) E_LOCK []) ∧
        (free → (∀ q, mget? d.und.pend k = some q → q.session = ses) → 1 ≤ y → y ≤ 5 → p.length = 8 + field p 6 2 →
          (field p 4 1 = 0 → d.entropy = true → Answers (.keyPrepare ses id) s fun u => u.und.draws = d.und.draws + 1 ∧
            prepares u { base with key := material y ((List.range (keyLen y)).map (Config.drbg d.und.draws)) }) ∧
          (field p 4 1 = 0 → d.entropy = false → says' (.keyPrepare ses id) E_ENTROPY []) ∧
          (field p 4 1 = 1 → d.useCode (field p 5 1) [2, 3] 4 = E_OK → d.depth (field p 5 1) < 4 → data ≠ [] → data.length ≤ 32 →
            Answers (.keyPrepare ses id) s fun u => prepares u { base with
              parent := field p 5 1, pgen := (d.slot (field p 5 1)).gen, key := derive (d.slot (field p 5 1)) k y data }) ∧
          (field p 4 1 = 1 → d.useCode (field p 5 1) [2, 3] 4 = E_OK → 4 ≤ d.depth (field p 5 1) →
            says' (.keyPrepare ses id) E_RANGE []) ∧
          (field p 4 1 = 2 → d.useCode (field p 5 1) [2] 5 = E_OK → field data 0 1 = 1 → field data 1 1 = y →
            Answers (.keyPrepare ses id) s fun u => match Config.gcmOpen (d.slot (field p 5 1)).key data with
              | some m => prepares u { base with usage := field data 2 1, flags := field data 3 1 % 16, key := m }
              | none => u.answered ses r E_AUTH []))) ∧
      (r.op = 0x53 → x.role = 1 → free →
        (d.arc.warned = true → says' (.keyCommit ses id) E_PD []) ∧
        (d.arc.warned = false → (∀ q, mget? d.und.pend k = some q → q.session ≠ ses) → says' (.keyCommit ses id) E_SEQ []) ∧
        (∀ q, d.arc.warned = false → mget? d.und.pend k = some q → q.session = ses → old.gen ≠ 0xFFFFFFFF →
          (bitOf q.attr.flags 0 = false ∨ ctr ≠ 0xFFFFFFFF) → Answers (.keyCommit ses id) s fun u =>
            u.answered ses r E_OK (le 4 (old.gen + 1)) ∧ mget? u.und.pend k = none ∧ kept u ∧
            u.slot k = { q.attr with gen := old.gen + 1, ctr := if bitOf q.attr.flags 0 && !d.debug then ctr + 1 else 0 } ∧
            ∀ n, n < 64 → n ≠ k → d.stale n = true → mhas d.und.pend n = false →
              (bitOf q.attr.flags 0 = true ∨ bitOf (d.slot n).flags 0 = false) → (u.slot n).typ = 0)) ∧
      (r.op = 0x54 → x.role = 1 → 8 ≤ k → k < 48 →
        (∀ q, mget? d.und.pend k = some q → q.session = ses → Answers (.keyAbort ses id) s fun u => u.answered ses r E_OK [] ∧
          mget? u.und.pend k = none ∧ u.und.slots = d.und.slots) ∧
        ((∀ q, mget? d.und.pend k = some q → q.session ≠ ses) → says' (.keyAbort ses id) E_SEQ [])) ∧
      (r.op = 0x55 → x.role = 1 → free → d.arc.warned = false →
        (old.typ = 0 → says' (.keyInvalidate ses id) E_KEY_EMPTY []) ∧
        (old.typ ≠ 0 → d.stale k = true → says' (.keyInvalidate ses id) E_KEY_STALE []) ∧
        (old.typ ≠ 0 → d.stale k = false → old.gen ≠ 0xFFFFFFFF → (bitOf old.flags 0 = false ∨ ctr ≠ 0xFFFFFFFF) →
          Answers (.keyInvalidate ses id) s fun u => u.answered ses r E_OK (le 4 (old.gen + 1)) ∧ kept u ∧ (u.slot k).typ = 0 ∧
            (u.slot k).key = [] ∧ (u.slot k).gen = old.gen + 1 ∧
            ∀ n, n < 64 → n ≠ k → (d.slot n).typ ≠ 0 → (d.slot n).parent = k → d.stale n = false → u.stale n = true)) ∧
      (r.op = 0x56 → x.role = 1 → k ≤ 63 → y ≤ 63 → old.typ ≠ 0 → d.stale k = false →
        (bitOf old.flags 1 = false → says' (.keyExport ses id) E_KEY_USAGE []) ∧
        (bitOf old.flags 1 = true → d.useCode y [2] 5 = E_OK → d.entropy = false → says' (.keyExport ses id) E_ENTROPY []) ∧
        (bitOf old.flags 1 = true → d.useCode y [2] 5 = E_OK → d.entropy = true → old.key.length < 2 ^ 61 →
          let nonce := (List.range 12).map (Config.drbg d.und.draws)
          let head := [1] ++ le 1 old.typ ++ le 1 old.usage ++ le 1 (old.flags % 32) ++ nonce
          Answers (.keyExport ses id) s fun u => u.und.draws = d.und.draws + 1 ∧ u.und.slots = d.und.slots ∧ u.answered ses r E_OK
            (head ++ (List.range (old.key.length + 16)).map (Config.gcm (d.slot y).key nonce head old.key))))) ∧
    (∀ ctx slot use len fin,
      let done := fun (u : Dev) (st : Nat) => u.und.lastStatus = st ∧ u.und.slots = d.und.slots
      (mget? d.und.ctxs ctx = none →
        (d.useCode slot [1, 2, 3] use ≠ E_OK → Answers (.streamBlock ctx slot use len fin none) s fun u =>
          done u (d.useCode slot [1, 2, 3] use) ∧ u.und.ctxs = d.und.ctxs) ∧
        (d.useCode slot [1, 2, 3] use = E_OK → len ≤ 4096 →
          (16 ≤ d.und.ctxs.length → Answers (.streamBlock ctx slot use len fin none) s fun u => done u E_BUSY ∧ u.und.ctxs = d.und.ctxs) ∧
          (d.und.ctxs.length < 16 → Answers (.streamBlock ctx slot use len fin none) s fun u => done u E_OK ∧
            mget? u.und.ctxs ctx = (if fin then none else some slot)))) ∧
      (∀ n, mget? d.und.ctxs ctx = some n →
        ((d.slot n).typ = 0 ∨ d.stale n = true → Answers (.streamBlock ctx slot use len fin none) s fun u => done u E_KEY_STALE ∧
          mget? u.und.ctxs ctx = none) ∧
        ((d.slot n).typ ≠ 0 → d.stale n = false → len ≤ 4096 → Answers (.streamBlock ctx slot use len fin none) s fun u => done u E_OK ∧
          mget? u.und.ctxs ctx = (if fin then none else some n))) ∧
      (∀ w, Answers (.streamBlock ctx slot use len fin (some w)) s fun u => u.und = { d.und with lastStatus := E_ECC } ∧
        u.bit FY_ERRADDR_UE = true ∧ u.get FY_ERRADDR_AGENT = 3 ∧ u.get FY_UECNT_COUNT = min (d.get FY_UECNT_COUNT + 1) 0xFFFFFFFF ∧
        OnlyIn [.und] (fun k => k == FY_UECNT || k == FY_ERRADDR) d u) ∧
      (Answers (.contextIdleTimeout ctx) s fun u => mget? u.und.ctxs ctx = none ∧
        (∀ n, n ≠ ctx → mget? u.und.ctxs n = mget? d.und.ctxs n) ∧ u.und.slots = d.und.slots)) ∧
    (∀ test, d.landingFree →
      let n := if test = 2 then min (d.und.fails + 1) 3 else d.und.fails
      (test < 3 → Answers (.trngHealthFail test) s fun u => u.und.fails = n ∧ u.entropy = false ∧
        u.get FY_UCSTAT_TRNG = (if d.get FY_UCSTAT_TRNG = 3 ∨ n = 3 then 3 else 2) ∧ d.landed u (.mk' .fyTrngFail [test, n]) ∧
        u.get FY_UCTRNG_RCT = (if test = 0 then min (d.get FY_UCTRNG_RCT + 1) 65535 else d.get FY_UCTRNG_RCT) ∧
        u.get FY_UCTRNG_APT = (if test = 1 then min (d.get FY_UCTRNG_APT + 1) 65535 else d.get FY_UCTRNG_APT)) ∧
      (3 ≤ test → AnswersDev (.trngHealthFail test) s d)) ∧
    (d.get FY_UCSTAT_TRNG ≠ 3 → Answers .trngStartupDone s fun u => u.entropy = true ∧ u.und = { d.und with fails := 0, reqs := 0 } ∧
      OnlyIn [.und] (· == FY_UCSTAT) d u) ∧
    (d.get FY_UCSTAT_TRNG = 3 → AnswersDev .trngStartupDone s d) ∧
    (d.entropy = true → AnswersDev .drbgReseed s { d with und := { d.und with reqs := 0 } }) ∧
    (d.entropy = false → AnswersDev .drbgReseed s d)


/-! ## The Arcade, the journal's archive and the Ethernet ports (chapters 19, 20 and 16) -/

/-- The front event of the landing becomes the next record while the buffer has room, and a freed entry takes the record of a suppression period;
a full or urgent buffer and the timer start a flush, whose end moves the buffer into the ring, overwriting its oldest records, and completes a
clear. ARCADE_READ answers the visible records from a sequence on; a clear needs a fresh nonce and the audit key's signature and writes its five
records under the next epoch. The archive writes its older copy; a failed slot check reports the slot and drops an OLD or VERIFIED one. -/
def Obligations.TheArcadeFormsFlushesReadsAndClears : Prop :=
  ∀ (s : State) (ses : Nat) (x : Session) (r : FmpReq) (ok : Bool),
    let d := s.dev
    let a := d.arc
    let id := r.id
    let p := r.payload
    let old := (d.rd FY_ARCOLD).toNat
    let next := (d.rd FY_ARCNEXT).toNat
    let epoch := d.get FY_ARCEPOCH_EPOCH
    let tells := fun (i : Instr) (st : Nat) (pl : List Byte) => Answers i s fun u => u.answered ses r st pl
    let lost := a.ring.length + a.buffer.length - 131072
    (d.asked ses x r → d.mod.romHold = false → x.txSeq < 2 ^ 61 →
      (r.op = 0x58 → 1 ≤ x.role → x.role ≤ 4 →
        let n := field p 4 2
        let start := if seqFrom old (field p 0 4) < 2 ^ 31 then seqFrom old (field p 0 4) else 0
        let seen := (a.ring ++ a.buffer).filter fun q => decide (start ≤ seqFrom old q.seq ∧
          (x.role = 1 ∨ x.role = 2 ∨ q.ev.suite = some x.suite))
        let out := seen.take n
        let goes := if seen.length ≤ n then next else (out.getLast?.map fun q => (q.seq + 1) % 2 ^ 32).getD 0
        let pl := le 2 epoch ++ le 2 out.length ++ le 4 goes ++ le 4 old ++ out.flatMap Record.bytes
        (p.length = 8 → 1 ≤ n → n ≤ 512 → pl.length < 2 ^ 61 → Answers (.arcadeRead ses id) s fun u => u.answered ses r E_OK pl ∧
          (d.foyerClean → u.arc = a)) ∧
        (p.length ≠ 8 ∨ n = 0 ∨ 512 < n → tells (.arcadeRead ses id) E_RANGE [])) ∧
      (r.op = 0x59 → x.role = 1 →
        let nonce := (List.range 16).map (Config.drbg d.und.draws)
        (p ≠ [] → field p 0 1 = 0 → d.entropy = true → Answers (.arcadeClearNonce ses id) s fun u => u.answered ses r E_OK nonce ∧
          (d.foyerClean → u.arc = { a with nonces := (a.nonces.filter fun e => e.1 ≠ ses) ++ [(ses, nonce, d.time.raw)] }) ∧
          u.und.draws = d.und.draws + 1) ∧
        (p ≠ [] → field p 0 1 = 0 → d.entropy = false → tells (.arcadeClearNonce ses id) E_ENTROPY []) ∧
        (p = [] ∨ field p 0 1 ≠ 0 → tells (.arcadeClearNonce ses id) E_RANGE []) ∧
        (field p 0 1 = 1 → p.length = 76 →
          (d.mod.cfg.auditKey = none → tells (.arcadeClear ses id ok) E_AUTH []) ∧
          (d.mod.cfg.auditKey ≠ none →
            ((∀ e ∈ a.nonces, e.1 = ses → e.2.2 + 60 * 250000000 ≤ d.time.raw) → tells (.arcadeClear ses id ok) E_SEQ []) ∧
            (d.nonceOk ses = true → tells (.arcadeClear ses id false) E_AUTH []) ∧
            (d.nonceOk ses = true → field p 4 4 ≠ old → tells (.arcadeClear ses id true) E_RANGE []) ∧
            (d.nonceOk ses = true → field p 4 4 = old → seqFrom old (field p 8 4) < seqFrom old next → a.clearing = none →
              Answers (.arcadeClear ses id true) s fun u => u.answered ses r E_OK (le 2 ((epoch + 1) % 65536)) ∧
                (∃ c, u.arc.clearing = some c ∧ c.first = old ∧ c.last = field p 8 4) ∧ (∀ e ∈ u.arc.nonces, e.1 ≠ ses) ∧
                (next + 5 < 2 ^ 32 → u.get FY_ARCEPOCH_EPOCH = (epoch + 1) % 65536) ∧ u.bit FY_ARCSTAT_FLUSHING = true ∧
                u.arc.ring = (a.ring ++ a.buffer).drop lost ∧ u.arc.buffer.map (·.ev.id) =
                  [.fyArcCleared, .fyArcClearedHash, .fyArcClearedHash, .fyArcClearedHash, .fyArcClearedHash]))))) ∧
    (∀ e t, d.mod.started = true → a.landing = e :: t → a.buffer.length < 1024 → next + 1 < 2 ^ 32 → t.length < 1024 →
      Answers .arcadeRecordForm s fun u =>
        u.arc.buffer = a.buffer ++ [⟨next, d.opsec, (d.rd FY_PWRCYC).toNat, epoch, e.ev, e.counts, e.held, false⟩] ∧
        u.rd FY_ARCNEXT = BitVec.ofNat 32 (next + 1) ∧
        (d.bit FY_ARCSTAT_SUPPRESSING = false → u.arc.landing = t) ∧
        (d.bit FY_ARCSTAT_SUPPRESSING = true → a.warned = false → u.bit FY_ARCSTAT_SUPPRESSING = false ∧ u.arc.period = [] ∧
          ∃ o, u.arc.landing = t ++ [o] ∧ o.counts = true ∧ o.ev.id = .fyArcOverflow) ∧
        (512 ≤ a.buffer.length + 1 ∨ 2 ≤ e.ev.severity → u.bit FY_ARCSTAT_FLUSHING = true)) ∧
    (d.mod.started = false ∨ a.landing = [] ∨ 1024 ≤ a.buffer.length → AnswersDev .arcadeRecordForm s d) ∧
    (a.buffer ≠ [] → Answers .arcadeFlushTimer s fun u => u.bit FY_ARCSTAT_FLUSHING = true ∧ OnlyIn [] (· == FY_ARCSTAT) d u) ∧
    (a.buffer = [] → AnswersDev .arcadeFlushTimer s d) ∧
    (d.bit FY_ARCSTAT_FLUSHING = true →
      (a.clearing = none → Answers .arcadeFlushDone s fun u => u.arc.ring = (a.ring ++ a.buffer).drop lost ∧ u.arc.buffer = [] ∧
        u.arc.overwritten = a.overwritten + lost ∧ u.bit FY_ARCSTAT_FLUSHING = false ∧ u.arc.lastFlush = d.time.raw ∧
        (lost = 0 → u.arc.landing = a.landing)) ∧
      (∀ c, a.clearing = some c → lost = 0 → (∃ q ∈ a.ring ++ a.buffer, q.seq = c.upto) → Answers .arcadeFlushDone s fun u =>
        u.arc.ring = (a.ring ++ a.buffer).drop (upToSeq c.last (a.ring ++ a.buffer)) ∧ u.arc.clearing = none ∧
        u.get FY_ARCEPOCH_CLEARS = min (d.get FY_ARCEPOCH_CLEARS + 1) 65535 ∧ u.jnl.clears = u.get FY_ARCEPOCH_CLEARS)) ∧
    (d.bit FY_ARCSTAT_FLUSHING = false → AnswersDev .arcadeFlushDone s d) ∧
    (d.mod.started = true → a.warned = false → d.debug = false → Answers .journalArchive s fun u => OnlyIn [.jnl] noKey d u ∧
      ∃ z : Archive, z.ok = true ∧ z.words = d.jnl.words ∧ z.slots = d.jnl.slots ∧ z.camp = d.jnl.camp ∧ z.snap = d.jnl.snap ∧
        z.settings = d.jnl.settings ∧ z.opsec = d.jnl.opsec ∧
        (d.jnl.archA = none → u.jnl.archA = some z ∧ u.jnl.archB = d.jnl.archB) ∧
        (∀ A, d.jnl.archA = some A → d.jnl.archB = none → u.jnl.archB = some z ∧ u.jnl.archA = some A ∧ z.seq = A.seq + 1) ∧
        (∀ A B, d.jnl.archA = some A → d.jnl.archB = some B →
          (A.seq ≤ B.seq → u.jnl.archA = some z ∧ u.jnl.archB = some B ∧ z.seq = B.seq + 1) ∧
          (B.seq < A.seq → u.jnl.archB = some z ∧ u.jnl.archA = some A ∧ z.seq = A.seq + 1))) ∧
    (d.mod.started = false ∨ a.warned = true ∨ d.debug = true → AnswersDev .journalArchive s d) ∧
    (d.mod.started = true →
      let n := d.jnl.scrub % 18
      let st := d.slotState (n / 2) (n % 2)
      let moved : Dev := { d with jnl := { d.jnl with scrub := (n + 1) % 18 } }
      AnswersDev (.flashScrub true) s moved ∧ (st ∉ [3, 5, 6] → AnswersDev (.flashScrub false) s moved) ∧
      (st ∈ [3, 5, 6] → d.landingFree → Answers (.flashScrub false) s fun u => u.jnl.scrub = (n + 1) % 18 ∧
        d.landed u (.mk' .fyFlashDegraded [compOf (n / 2), n % 2]) ∧ u.slotState (n / 2) (n % 2) = (if st = 5 then 5 else 8) ∧
        u.slotState (n / 2) (1 - n % 2) = d.slotState (n / 2) (1 - n % 2))) ∧
    (d.mod.started = false → AnswersDev (.flashScrub ok) s d)

/-- A link change is shown and reported; the active link down for 500 ms, or a gateway lost after three unanswered probes, moves the active port to
the other where its link is up, which counts the switch, starts the announcements and is reported; with REVERT 1 port 0 becomes active again. Frames
not addressed to the module, fragments, other ports, tags, kinds and sources are discarded and counted, so are datagrams beyond 4,000 in a second. -/
def Obligations.EthernetPortsSwitchAndFilter : Prop :=
  ∀ (s : State) (now p kind vid family : Nat) (src : List Byte) (up : Bool), p < 2 →
    let d := s.dev
    let e := d.eth
    let act := d.ethActive
    let gateway := field e.net 8 4 ≠ 0 ∨ field e.net 32 16 ≠ 0
    let switched := fun (u : Dev) (dst cause : Nat) => u.ethActive = dst ∧ u.get FY_ETHSTAT_SWITCHES = min (d.get FY_ETHSTAT_SWITCHES + 1) 255 ∧
      u.eth.probes = 0 ∧ u.eth.announce = 3 ∧ u.eth.downLong = false ∧
      u.arc.landing.getLast? = some ⟨.mk' .fyEthSwitch [dst, cause], false, false⟩
    let only := OnlyIn [.eth, .arc] (orEvent [FY_ETHSTAT]) d
    let raw := max d.time.raw now
    let n := if e.second = raw / 250000000 then e.datagrams else 0
    let discarded := fun (u : Dev) => u.get FY_ETHSTAT_DISCARDED = min (d.get FY_ETHSTAT_DISCARDED + 1) 65535 ∧
      u.eth.answered = e.answered ∧ OnlyIn [.time, .eth] (· == FY_ETHSTAT) d u
    (d.bit (ethLink p) = up → AnswersDev (.ethLinkChange p up) s d) ∧
    (d.bit (ethLink p) ≠ up → d.landingFree → (p = act ∨ up = false ∨ e.downLong = false) → Answers (.ethLinkChange p up) s fun u =>
      u.bit (ethLink p) = up ∧ u.ethActive = act ∧ d.landed u (.mk' .fyEthLink [p, ((b2n up : Nat) : Int)]) ∧ only u) ∧
    (d.bit (ethLink p) = false → p ≠ act → e.downLong = true → d.arc.landing.length + 1 < 1024 → d.arc.warned = false → Answers (.ethLinkChange p true) s fun u =>
      u.bit (ethLink p) = true ∧ switched u p 0) ∧
    (d.mod.started = true → d.bit (ethLink act) = false →
      (d.bit (ethLink (1 - act)) = true → d.landingFree → Answers .activeLinkDownTimeout s fun u => switched u (1 - act) 0 ∧ only u) ∧
      (d.bit (ethLink (1 - act)) = false → AnswersDev .activeLinkDownTimeout s { d with eth := { e with downLong := true } })) ∧
    (d.bit (ethLink act) = true → AnswersDev .activeLinkDownTimeout s d) ∧
    (d.mod.started = true → gateway →
      (Answers (.gatewayProbe p true) s fun u => u.bit (ethGw p) = true ∧ (p = act → u.eth.probes = 0) ∧ u.ethActive = act ∧ only u) ∧
      (p = act → e.probes < 2 → Answers (.gatewayProbe p false) s fun u => u.eth.probes = e.probes + 1 ∧ OnlyIn [.eth] noKey d u) ∧
      (p = act → 2 ≤ e.probes → d.bit (ethLink (1 - p)) = true → d.landingFree → Answers (.gatewayProbe p false) s fun u =>
        u.bit (ethGw p) = false ∧ switched u (1 - p) 1) ∧
      (p = act → 2 ≤ e.probes → d.bit (ethLink (1 - p)) = false → Answers (.gatewayProbe p false) s fun u =>
        u.bit (ethGw p) = false ∧ u.ethActive = act)) ∧
    (field e.net 52 1 = 1 → act = 1 → d.bit FY_ETHSTAT_LINK0 = true → d.landingFree → Answers .ethRevert s fun u => switched u 0 2 ∧ only u) ∧
    (field e.net 52 1 ≠ 1 ∨ act = 0 ∨ d.bit FY_ETHSTAT_LINK0 = false → AnswersDev .ethRevert s d) ∧
    (∀ addressed fragment,
      (∀ w, Answers (.ethFrameRx now p kind vid family src addressed fragment (some w)) s fun u => u.bit FY_ERRADDR_UE = true ∧
        u.get FY_ERRADDR_AGENT = 2 ∧ u.eth = e ∧
        OnlyIn [.time] (fun k => k == FY_UECNT || k == FY_ERRADDR) d u) ∧
      (addressed = false ∨ fragment = true ∨ d.host.coreDown = true ∨
          (d.mod.romHold = false ∧ (p ≠ act ∨ vid ≠ field e.net 48 2 ∨ 5 ≤ kind ∨ (kind = 3 ∧ sourceOk e.net family src = false))) →
        Answers (.ethFrameRx now p kind vid family src addressed fragment none) s discarded) ∧
      (addressed = true → fragment = false → d.host.coreDown = false → d.mod.romHold = false → p = act → vid = field e.net 48 2 →
        (kind < 3 → Answers (.ethFrameRx now p kind vid family src addressed fragment none) s fun u => u.eth = { e with answered := e.answered + 1 } ∧
          OnlyIn [.time, .eth] noKey d u) ∧
        (kind = 3 → sourceOk e.net family src = true ∧ n < 4000 → Answers (.ethFrameRx now p kind vid family src addressed fragment none) s fun u =>
          u.eth = { e with second := raw / 250000000, datagrams := n + 1 } ∧ OnlyIn [.time, .eth] noKey d u) ∧
        (kind = 3 → 4000 ≤ n → Answers (.ethFrameRx now p kind vid family src addressed fragment none) s discarded)))


/-! ## Updating firmware, microcode and configuration (chapter 18) -/

/-- For a session with one update request in progress: UPD_BEGIN runs the header's checks in order, and the first that fails is the refusal, which
writes nothing; otherwise the other slot enters RECEIVING, resumed where the header is the same. UPD_BLOCK stores a block once and sets its bit; the
last one makes the slot RECEIVED; a read-back that fails leaves it missing, twice on a fresh sector is E_IMAGE_PAYLOAD. UPD_VERIFY leads to VERIFIED or
INVALID, UPD_ABORT to EMPTY. UPD_ACTIVATE is refused by the table of R496, or forms the campaign, whose Foyer step marks TRIAL and restarts the
Foyer, whose first other step waits for the Corridor, and which in HOLD orders a field restart. Confirmation makes the TRIAL slots ACTIVE and raises
the floors; a revert makes them REVERTED; the timeouts revert. The ROM's responder writes the layout descriptor before the
first block where no copy is valid. A distribution follows each station to its end, and the firmware exchange of the line ends with each reply. -/
def Obligations.ImagesAreDownloadedVerifiedTriedAndConfirmed : Prop :=
  ∀ (s : State) (ses i : Nat) (x : Session) (r : FmpReq) (c : Campaign) (b1 b2 b3 : Bool) (plain : List Byte),
    let d := s.dev
    let id := r.id
    let p := r.payload
    let o := 1 - d.activeSlot i
    let info := d.slotInfo i o
    let keys := fun (k : Nat) => carrierKey k || orEvent (FY_UPDSTAT :: (List.range 9).map (FY_UPDSLOT + 4 * ·)) k
    let tells := fun (n : Instr) (st : Nat) (pl : List Byte) (more : Dev → Prop) => Answers n s fun u => u.answered ses r st pl ∧
      u.get FY_UPDSTAT_RESULT = st ∧ more u
    let lands := fun (u : Dev) (ev : Ev) => d.foyerClean → d.landed u ev
    let refuses := fun (n : Instr) (st : Nat) => tells n st [] fun u => d.foyerClean →
      OnlyIn [.fmp, .host, .eth, .fmem] (fun k => carrierKey k || k == FY_UPDSTAT) d u
    let slot := fun (u : Dev) (k n st : Nat) => u.slotState k n = st ∧ u.slotState k (1 - n) = d.slotState k (1 - n) ∧
      (∀ j, j ≠ k → u.slotWord j = d.slotWord j) ∧ (∀ j, j ≠ 2 * k + n → mget SlotInfo.zero u.jnl.slots j = mget SlotInfo.zero d.jnl.slots j) ∧
      (d.mod.started = true → st ≠ d.slotState k n → u.rd (FY_UPDSLOT + 4 * k) = BitVec.ofNat 32 (u.slotWord k)) ∧
      (d.foyerClean → OnlyIn [.fmp, .host, .eth, .arc, .jnl, .upd, .fmem] keys d u)
    let field1 := compIx (field p 0 1) = some i
    let session := d.asked ses x r ∧ x.txSeq < 2 ^ 61 ∧ d.mod.romHold = false ∧ (x.role = 1 ∨ x.role = 5)
    let taken := (List.range 6).filter d.stepTaken
    let quiet := ∀ e ∈ d.fmp.sessions, ∀ q ∈ e.2.busy, q.op ≠ 0x64
    let reverted := fun (cause : Nat) (u : Dev) => u.jnl.camp = none ∧ u.get FY_UPDSTAT_PHASE = 0 ∧ u.bit FY_UPDSTAT_SCHEMAERR = false ∧
      lands u (.mk' .fyUpdRevert [cause]) ∧ u.jnl.settings = (d.jnl.settings.filter fun e => !e.trial) ∧
      ∀ k, k < 9 → u.floor k = d.floor k ∧ (d.slotOf k 4 = none → u.slotWord k = d.slotWord k) ∧
        ∀ t, d.slotOf k 4 = some t → u.slotState k t = 7 ∧ u.slotState k (1 - t) = d.slotState k (1 - t) ∧ u.trials k = 0 ∧
          u.slotRun k = d.activeSlot k
    let waiting := fun (cause : Nat) (u : Dev) => u.get FY_UPDSTAT_PHASE = 3 ∧ lands u (.mk' .fyUpdRevert [cause]) ∧
      u.jnl.words = d.jnl.words ∧ u.jnl.camp = some { c with
        revert := some cause, todo := taken.reverse, busy := false, waits := 0, tag := c.tag + 1 }
    let confirmed := fun (u : Dev) => u.jnl.camp = none ∧ u.jnl.settings = settingsConfirm d.jnl.settings ∧
      (∀ k, k ∉ c.comps → u.slotWord k = d.slotWord k) ∧ ∀ k ∈ c.comps, ∀ t, d.slotOf k 4 = some t → u.slotState k t = 5 ∧ u.trials k = 0 ∧
        u.slotRun k = t ∧ u.floor k = max (d.floor k) (field (d.slotInfo k t).header 20 2) ∧
        ∀ a, d.slotOf k 5 = some a → u.slotState k a = 6
    (session → d.arc.warned = false → d.jnl.camp = none →
      (r.op = 0x60 → p.length = 512 →
        let k := (compIx (field p 5 1)).getD 0
        let o := 1 - d.activeSlot k
        let old := d.slotInfo k o
        let checks : List (Bool × Nat × Nat) := [
          (p.take 4 == magicBytes && field p 4 1 == 1 && headerZero p, E_IMAGE_HEADER, 1), ((p.drop 8).take 8 == partName, E_IMAGE_HEADER, 2),
          ((compIx (field p 5 1)).isSome, E_IMAGE_HEADER, 3), (b1 && decide (field p 7 1 ≤ 1), E_IMAGE_HEADER, 4),
          (d.mod.cfg.updateKey.isNone || (field p 6 1 == 1 && b2), E_IMAGE_HEADER, 5), (decide (field p 88 8 ≤ maxPayload k), E_IMAGE_HEADER, 6),
          (b3, E_IMAGE_HEADER, 7), (d.epochsBegin k { SlotInfo.zero with header := p }, E_IMAGE_HEADER, 8),
          (decide (d.floor k ≤ field p 20 2), E_ROLLBACK, 0), (decide (d.slotState k o ∉ [2, 3, 4]), E_SEQ, 0),
          (((mget? d.upd.loads k).all fun l => l.1 == ses), E_LOCK, 0)]
        (∀ e, checks.find? (fun e => !e.1) = some e → tells (.updBegin ses id b1 b2 b3) e.2.1 ([0] ++ le 1 e.2.2 ++ [0, 0]) fun u =>
          (d.foyerClean → OnlyIn [.fmp, .host, .eth, .arc, .fmem] keys d u) ∧
            (d.landingFree → lands u (.mk' .fyUpdRefused [field p 5 1, e.2.1, e.2.2]))) ∧
        (checks.find? (fun e => !e.1) = none → tells (.updBegin ses id b1 b2 b3) E_OK (le 1 o ++ [0] ++ le 2 ((field p 88 8 + 4095) / 4096)) fun u =>
          slot u k o 1 ∧ (u.slotInfo k o).header = p ∧ mget? u.upd.loads k = some (ses, o) ∧
          (d.slotState k o = 1 → old.header = p → u.slotInfo k o = old) ∧
          (d.slotState k o ≠ 1 ∨ old.header ≠ p → u.slotInfo k o = { SlotInfo.zero with header := p }))) ∧
      (r.op = 0x60 → p.length ≠ 512 → refuses (.updBegin ses id b1 b2 b3) E_RANGE) ∧
      (field1 → r.op = 0x61 →
        (mget? d.upd.loads i = none → refuses (.updBlock ses id b1) E_SEQ) ∧
        ∀ owner n, mget? d.upd.loads i = some (owner, n) → n < 2 →
          let y := d.slotInfo i n
          let b := field p 2 2
          let data := p.drop 4
          let fits := b < y.nblocks ∧ data.length = (if b + 1 = y.nblocks then y.length - 4096 * b else 4096)
          let open' := d.slotState i n = 1 ∨ d.slotState i n = 2
          (owner ≠ ses → refuses (.updBlock ses id b1) E_LOCK) ∧ (owner = ses → ¬open' → refuses (.updBlock ses id b1) E_SEQ) ∧
          (owner = ses → open' → ¬fits → refuses (.updBlock ses id b1) E_RANGE) ∧
          (owner = ses → open' → fits → b ∈ y.bitmap → refuses (.updBlock ses id b1) E_OK) ∧
          (owner = ses → open' → fits → b ∉ y.bitmap → tells (.updBlock ses id true) E_OK [] fun u =>
            slot u i n (if y.bitmap.length + 1 = y.nblocks then 2 else d.slotState i n) ∧ (u.slotInfo i n).bitmap = y.bitmap ++ [b] ∧
            mget [] (u.slotInfo i n).blocks b = data ∧ ∀ j, j ≠ b → mget [] (u.slotInfo i n).blocks j = mget [] y.blocks j) ∧
          (owner = ses → open' → fits → b ∉ y.bitmap → tells (.updBlock ses id false)
            (if b / 16 ∈ y.erased then E_IMAGE_PAYLOAD else E_OK) [] fun u => slot u i n (d.slotState i n) ∧
              (u.slotInfo i n).bitmap = (y.bitmap.filter fun j => j / 16 ≠ b / 16) ∧ b / 16 ∈ (u.slotInfo i n).erased ∧
              (b / 16 ∈ y.erased → d.landingFree → lands u (.mk' .fyFlashFault [compOf i, n, b])))) ∧
      (field1 → r.op = 0x63 →
        (d.slotState i o ≠ 2 → refuses (.updVerify ses id b1 plain) E_SEQ) ∧
        (d.slotState i o = 2 →
          let good := b1 = true ∧ plain.length = info.length ∧ shaNum plain = info.digest
          (¬good → tells (.updVerify ses id b1 plain) E_IMAGE_PAYLOAD [] fun u => slot u i o 8 ∧
            (d.landingFree → lands u (.mk' .fyUpdVerified [compOf i, o, 0]))) ∧
          (good → d.verifyBad i plain ≠ [] → tells (.updVerify ses id b1 plain) E_CONFIG [] fun u => slot u i o 8) ∧
          (good → d.verifyBad i plain = [] → tells (.updVerify ses id b1 plain) E_OK [] fun u => slot u i o 3 ∧
            u.slotInfo i o = { info with plain := plain } ∧ (d.landingFree → lands u (.mk' .fyUpdVerified [compOf i, o, 1]))))) ∧
      (field1 → r.op = 0x67 →
        (d.slotState i o ∈ [1, 2, 3, 8] → tells (.updAbort ses id) E_OK [] fun u => slot u i o 0 ∧ u.slotInfo i o = { info with bitmap := [] } ∧
          mget? u.upd.loads i = none) ∧
        (d.slotState i o ∉ [1, 2, 3, 8] → refuses (.updAbort ses id) E_SEQ)) ∧
      (r.op = 0x65 → refuses (.updConfirm ses id) E_SEQ) ∧ (r.op = 0x66 → refuses (.updRevert ses id) E_SEQ) ∧
      (r.op = 0x68 → field1 → 7 ≤ i →
        let n := field p 2 2
        let known := if i = 7 then d.mod.cfg.nodeTab.map (·.addr) else d.mod.cfg.stations.map (·.1)
        let named := if n = 0 then known else ((List.range n).map fun j => field p (4 + 2 * j) 2).filter known.contains
        let ok := named.filter fun t => i == 7 || bitOf (field p 1 1) 1 || d.lineHolds (t / 32)
        (p.length ≠ 4 + 2 * n ∨ named = [] → refuses (.updDistribute ses id) E_RANGE) ∧
        (p.length = 4 + 2 * n → named ≠ [] → d.slotOf i 3 = none → d.slotOf i 5 = none → refuses (.updDistribute ses id) E_SEQ) ∧
        (p.length = 4 + 2 * n → named ≠ [] → ∀ t, (d.slotOf i 3 = some t ∨ (d.slotOf i 3 = none ∧ d.slotOf i 5 = some t)) →
          (d.upd.dist ≠ none ∨ ok = [] → refuses (.updDistribute ses id) E_BUSY_SERVICE) ∧
          (d.upd.dist = none → ok ≠ [] → tells (.updDistribute ses id) E_OK (le 2 ok.length) fun u => u.upd.dist = some (i, t, ok, [], []) ∧
            (d.foyerClean → OnlyIn [.fmp, .host, .eth, .upd, .fmem] (fun k => carrierKey k || k == FY_UPDSTAT) d u)))) ∧
      (r.op = 0x64 → p.length = 1 →
        let restart := bitOf (field p 0 1) 0
        let force := bitOf (field p 0 1) 1
        let comps := (List.range 7).filter fun k => (d.slotOf k 3).isSome
        let path := force || (restart && d.notLive comps) || d.mst == msHold
        let checks : List (Bool × Nat) := [(!comps.isEmpty, E_SEQ), (d.epochsActivate comps, E_EPOCH), (restart || !d.notLive comps, E_NEEDS_RESTART),
          (force || !(d.mst == msDegraded || d.mst == msFailsafe), E_BUSY_SERVICE),
          (d.nw.stair.isNone && d.fst .a != fsTesting && d.fst .b != fsTesting, E_BUSY_SERVICE)]
        let sent := fun (u : Dev) => ∃ y, mget? u.fmp.sessions ses = some y ∧ y.busy = [{ r with sent := true }]
        (∀ e, checks.find? (fun e => !e.1) = some e → refuses (.updActivate ses id) e.2) ∧
        (checks.find? (fun e => !e.1) = none → d.mod.started = true →
          (∀ t, d.slotOf 0 3 = some t → Answers (.updActivate ses id) s fun u => sent u ∧ u.slotState 0 t = 4 ∧ u.trials 0 = 0 ∧
            u.slotRun 0 = d.slotRun 0 ∧ u.mod.started = false ∧ u.jnl.camp = some { Campaign.zero with
              comps := comps, todo := (if path then [0, 6] else stepsOf comps), restart := path, busy := true }) ∧
          (0 ∉ comps → path = false → d.cor.hostUp = false → Answers (.updActivate ses id) s fun u => sent u ∧ u.jnl.words = d.jnl.words ∧
            u.get FY_UPDSTAT_PHASE = 1 ∧ u.jnl.camp = some { Campaign.zero with comps := comps, todo := stepsOf comps }) ∧
          (0 ∉ comps → path = true → d.canRestart = true → Answers (.updActivate ses id) s fun u => sent u ∧ u.mst = msSelftest ∧
            u.get FY_UPDSTAT_PHASE = 4 ∧ (∀ k t, k ∈ comps → d.slotOf k 3 = some t → u.slotState k t = 4 ∧ u.trials k = 0) ∧
            u.jnl.camp = some { Campaign.zero with comps := comps, todo := [6], restart := true, busy := true, stage := 1 })))) ∧
    (session → d.arc.warned = true →
      ∀ e ∈ [(Instr.updBegin ses id b1 b2 b3, 0x60), (.updBlock ses id b1, 0x61), (.updVerify ses id b1 plain, 0x63), (.updAbort ses id, 0x67),
        (.updRevert ses id, 0x66), (.updDistribute ses id, 0x68), (.updConfirm ses id, 0x65)], r.op = e.2 → d.jnl.camp = none →
        refuses e.1 E_PD) ∧
    (session → field1 → r.op = 0x62 → d.jnl.camp = none →
      let map := if d.slotState i o = 1 ∨ d.slotState i o = 2 then info.bits else List.replicate 512 0
      tells (.updStatus ses id) E_OK (le 1 (d.slotState i 0) ++ le 1 (d.slotState i 1) ++ le 1 (d.slotRun i) ++ le 1 (d.trials i) ++
        le 4 (field (d.slotInfo i 0).header 16 4) ++ le 4 (field (d.slotInfo i 1).header 16 4) ++ le 2 (d.floor i) ++ [0, 0] ++ map) fun u =>
          d.foyerClean → OnlyIn [.fmp, .host, .eth, .fmem] (fun k => carrierKey k || k == FY_UPDSTAT) d u) ∧
    (d.jnl.camp = some c → c.revert = none →
      (session → d.arc.warned = false → r.op = 0x65 →
        (c.todo ≠ [] → refuses (.updConfirm ses id) E_SEQ) ∧
        (c.todo = [] → d.bit FY_UPDSTAT_SCHEMAERR = true → refuses (.updConfirm ses id) E_SETTINGS_SCHEMA) ∧
        (c.todo = [] → d.bit FY_UPDSTAT_SCHEMAERR = false → c.comps.Nodup → Answers (.updConfirm ses id) s fun u => u.answered ses r E_OK [] ∧
          confirmed u ∧ ((∃ k ∈ c.comps, k ≠ 0) → u.mod.started = false) ∧ (c.comps = [0] → u.mst = d.mst ∧ u.get FY_UPDSTAT_PHASE = 0 ∧
            (d.landingFree → (d.slotOf 0 4).isSome = true → lands u (.mk' .fyUpdConfirm [1, 0]))))) ∧
      (c.todo = [] → d.bit FY_UPDSTAT_SCHEMAERR = false → c.comps.Nodup → d.mst = msService → d.upd.service ≠ none → d.arc.warned = false →
        Answers .autoConfirm s fun u => confirmed u ∧ ((∃ k ∈ c.comps, k ≠ 0) → u.mod.started = false) ∧
          (c.comps = [0] → d.landingFree → (d.slotOf 0 4).isSome = true → d.landed u (.mk' .fyUpdConfirm [1, 1]))) ∧
      (session → d.arc.warned = false → d.landingFree → quiet → r.op = 0x66 →
        (taken = [] → d.mod.started = true → tells (.updRevert ses id) E_OK [] (reverted 0)) ∧
        (taken ≠ [] → 0 ∉ taken → d.cor.hostUp = false → c.restart = false → tells (.updRevert ses id) E_OK [] (waiting 0))) ∧
      (d.mod.started = true → d.mod.romHold = false → d.landingFree → quiet → c.restart = false →
        (c.todo.head? = some 2 → d.pair = none →
          (taken = [] → Answers .standbyWaitTimeout s (reverted 3)) ∧
          (taken ≠ [] → 0 ∉ taken → d.cor.hostUp = false → Answers .standbyWaitTimeout s (waiting 3))) ∧
        (c.todo ≠ [] → d.cor.hostUp = false →
          (taken = [] → Answers .campaignCorridorTimeout s (reverted 5)) ∧
          ((∃ k ∈ taken, k ≠ 0) → d.canRestart = true → Answers .campaignCorridorTimeout s fun u => u.mst = msSelftest ∧
            ∃ z, u.jnl.camp = some z ∧ z.revert = some 5 ∧ z.restart = true ∧ z.todo = taken.reverse)))) ∧
    (d.jnl.camp = none → AnswersDev .autoConfirm s d ∧ AnswersDev .standbyWaitTimeout s d ∧ AnswersDev .campaignCorridorTimeout s d) ∧
    (∀ (n : Nat) (y : SlotInfo), d.asked ses x r → d.mod.romHold = true → (x.role = 1 ∨ x.role = 5) → d.arc.warned = false → d.jnl.camp = none →
      r.op = 0x61 → field p 0 1 = 1 → mget? d.upd.loads 0 = some (ses, n) → n < 2 → d.slotInfo 0 n = y → d.slotState 0 n = 1 → y.bitmap = [] →
      field p 2 2 < y.nblocks → (p.drop 4).length = (if field p 2 2 + 1 = y.nblocks then y.length - 4096 * field p 2 2 else 4096) →
      Answers (.updBlock ses id true) s fun u => (u.slotInfo 0 n).bitmap = [field p 2 2] ∧
        (d.laidOut = true → u.jnl.layout = d.jnl.layout) ∧
        (d.laidOut = false → u.jnl.layout = [layoutCopy d.mod.flash, layoutCopy d.mod.flash])) ∧
    (∀ (k n st sta : Nat) (due done failed : List Nat) (t q : Nat) (rq : RioReq) (z : RioFrame) (parity : Bool) (bs : List Byte), sta < 512 → k < 9 →
      n < 2 → st < 256 → d.upd.dist = some (k, n, due, done, failed) → mget? d.upd.fw sta = some (t, q) → 0x10 ≤ t → t ≤ 0x13 →
      d.rioReq (sta / 32) = some rq → rq.id = sta → rq.typ = t →
      let reply := Instr.stationFirmwareReply (sta / 32) parity bs
      let spent := fun (u : Dev) => (u.line (sta / 32)).fwTurn = none ∧ (u.line (sta / 32)).seq = ((d.line (sta / 32)).seq + 1) % 256
      let goes := fun (a b : Nat) => Answers reply s fun u => mget? u.upd.fw sta = some (a, b) ∧
        u.upd.dist = d.upd.dist ∧ spent u ∧ OnlyIn [.upd, .gl, .nw] noKey d u
      let due1 := due.filter (· ≠ sta)
      let ends := fun (done1 failed1 : List Nat) (u : Dev) => mget? u.upd.fw sta = none ∧ spent u ∧
        (due1 ≠ [] → u.upd.dist = some (k, n, due1, done1, failed1)) ∧
        (due1 = [] → u.upd.dist = none ∧ u.slotState k n = 5 ∧ u.slotRun k = n ∧ ∀ a, d.slotOf k 5 = some a → a ≠ n → u.slotState k a = 6)
      (rioParse parity bs = some z → z.typ = t + 0x80 → z.address = 0x80 + sta % 32 → z.seq = rq.seq → z.payload = le 1 st →
        (st = 0 → (t = 0x10 → q < 3 → goes 0x10 (q + 1)) ∧ (t = 0x10 → 3 ≤ q → goes 0x11 0) ∧
          (t = 0x11 → q + 120 < (d.slotInfo k n).length → goes 0x11 (q + 120)) ∧
          (t = 0x11 → (d.slotInfo k n).length ≤ q + 120 → goes 0x12 0) ∧ (t = 0x12 → goes 0x13 0) ∧
          (t = 0x13 → Answers reply s fun u => ends (done ++ [sta]) failed u ∧ (d.ss sta = ssRun → u.ss sta = ssLost))) ∧
        (st ≠ 0 → Answers reply s fun u => ends done (failed ++ [sta]) u ∧ (due1 = [] → d.landingFree →
          d.landed u (.mk' .fyUpdDist [compOf k, done.length, failed.length + 1])))) ∧
      (rioParse parity bs = none ∨ (rioParse parity bs = some z ∧ z.typ ≠ t + 0x80) → Answers reply s fun u => u.upd = d.upd ∧ spent u ∧
        u.get (GL_STSTATE_FAILS.ix sta) = min (d.get (GL_STSTATE_FAILS.ix sta) + 1) GL_STSTATE_FAILS.top)) ∧
    (∀ n parity bs, d.rioReq (n % 16) = none → AnswersDev (.stationFirmwareReply n parity bs) s d)
end

