-- ==== Sys2Proof/Laws/Maps.lean ====
section
/-! SUPPORT. Laws of sparse maps: what a read after a write answers, and that writes keep the canonical form. -/

namespace Sys2Proof.Machine

variable {α : Type}

theorem mget_mdel_same (d : α) (m : Map α) (k : Nat) : mget d (mdel m k) k = d := by
  induction m with
  | nil => rfl
  | cons e t ih =>
    obtain ⟨a, v⟩ := e
    by_cases h : a = k
    · simpa [mdel, h] using ih
    · simpa [mdel, h, mget] using ih

theorem mget_mdel_other (d : α) (m : Map α) {k j : Nat} (h : j ≠ k) : mget d (mdel m k) j = mget d m j := by
  induction m with
  | nil => rfl
  | cons e t ih =>
    obtain ⟨a, v⟩ := e
    by_cases ha : a = k
    · have : ¬ a = j := fun hj => h (hj ▸ ha)
      simpa [mdel, ha, mget, h.symm] using ih
    · by_cases hj : a = j
      · have : ¬ j = k := h
        simp [mdel, mget, hj, this]
      · simpa [mdel, ha, mget, hj] using ih

/-- A key that no entry has. -/
def Fresh (m : Map α) (k : Nat) : Prop := ∀ e ∈ m, e.1 ≠ k

theorem fresh_mdel (m : Map α) (k : Nat) : Fresh (mdel m k) k := fun e he => by
  simpa [mdel] using (List.mem_filter.mp he).2

theorem mget_mins_same (d : α) (m : Map α) (k : Nat) (v : α) (h : Fresh m k) : mget d (mins m k v) k = v := by
  induction m with
  | nil => simp [mins, mget]
  | cons e t ih =>
    obtain ⟨a, w⟩ := e
    have ha : a ≠ k := h (a, w) (by simp)
    have ht : Fresh t k := fun e he => h e (by simp [he])
    simp only [mins]
    split
    · simp [mget]
    · simp [mget, ha, ih ht]

theorem mget_mins_other (d : α) (m : Map α) {k j : Nat} (v : α) (h : j ≠ k) : mget d (mins m k v) j = mget d m j := by
  induction m with
  | nil => simp [mins, mget, h.symm]
  | cons e t ih =>
    obtain ⟨a, w⟩ := e
    simp only [mins]
    split
    · simp [mget, h.symm]
    · simp [mget, ih]

/-- A read of the index written answers the value written. -/
@[simp] theorem mget_mset_same [DecidableEq α] (d : α) (m : Map α) (k : Nat) (v : α) : mget d (mset d m k v) k = v := by
  unfold mset
  split
  · rw [mget_mdel_same]; simp [*]
  · exact mget_mins_same d _ k v (fresh_mdel m k)

/-- A write leaves every other index alone. -/
theorem mget_mset_other [DecidableEq α] (d : α) (m : Map α) {k j : Nat} (v : α) (h : j ≠ k) :
    mget d (mset d m k v) j = mget d m j := by
  unfold mset
  split
  · exact mget_mdel_other d m h
  · rw [mget_mins_other d _ v h, mget_mdel_other d m h]

@[simp] theorem mget_mput_same (d : α) (m : Map α) (k : Nat) (v : α) : mget d (mput m k v) k = v :=
  mget_mins_same d _ k v (fresh_mdel m k)

theorem mget_mput_other (d : α) (m : Map α) {k j : Nat} (v : α) (h : j ≠ k) :
    mget d (mput m k v) j = mget d m j := by
  unfold mput
  rw [mget_mins_other d _ v h, mget_mdel_other d m h]

@[simp] theorem mget_nil (d : α) (k : Nat) : mget d ([] : Map α) k = d := rfl

/-! ## Canonical form -/

theorem mwf_cons [DecidableEq α] {d : α} {k : Nat} {v : α} {t : Map α} :
    mwf d ((k, v) :: t) = true ↔ v ≠ d ∧ (∀ e ∈ t, k < e.1) ∧ mwf d t = true := by
  simp [mwf, List.all_eq_true, and_assoc]

/-- Removal keeps the canonical form, whatever entries go. -/
theorem mwf_filter [DecidableEq α] {d : α} {m : Map α} (p : Nat × α → Bool) (h : mwf d m = true) :
    mwf d (m.filter p) = true := by
  induction m with
  | nil => rfl
  | cons e t ih =>
    obtain ⟨k, v⟩ := e
    obtain ⟨hv, hk, ht⟩ := mwf_cons.mp h
    by_cases hp : p (k, v) = true
    · simp only [List.filter_cons_of_pos hp]
      exact mwf_cons.mpr ⟨hv, fun e he => hk e (List.mem_filter.mp he).1, ih ht⟩
    · simp only [List.filter_cons_of_neg hp]
      exact ih ht

theorem mem_mins {m : Map α} {k : Nat} {v : α} {e : Nat × α} (h : e ∈ mins m k v) : e = (k, v) ∨ e ∈ m := by
  induction m with
  | nil => simpa [mins] using h
  | cons c t ih =>
    obtain ⟨a, w⟩ := c
    simp only [mins] at h
    split at h
    · simpa using h
    · rcases List.mem_cons.mp h with h | h
      · simp [h]
      · rcases ih h with h | h
        · simp [h]
        · simp [h]

theorem mwf_mins [DecidableEq α] {d : α} {m : Map α} {k : Nat} {v : α} (hv : v ≠ d) (hf : Fresh m k)
    (h : mwf d m = true) : mwf d (mins m k v) = true := by
  induction m with
  | nil => simp [mins, mwf, hv]
  | cons e t ih =>
    obtain ⟨a, w⟩ := e
    obtain ⟨hw, ha, ht⟩ := mwf_cons.mp h
    have hak : a ≠ k := hf (a, w) (by simp)
    simp only [mins]
    split
    · rename_i hlt
      refine mwf_cons.mpr ⟨hv, fun e he => ?_, h⟩
      rcases List.mem_cons.mp he with he | he
      · simpa [he] using hlt
      · exact lt_trans hlt (ha e he)
    · rename_i hlt
      refine mwf_cons.mpr ⟨hw, fun e he => ?_, ih (fun e he => hf e (by simp [he])) ht⟩
      rcases mem_mins he with he | he
      · simp only [he]; omega
      · exact ha e he

/-- A write keeps the canonical form. -/
theorem mwf_mset [DecidableEq α] {d : α} {m : Map α} (k : Nat) (v : α) (h : mwf d m = true) :
    mwf d (mset d m k v) = true := by
  unfold mset
  split
  · exact mwf_filter _ h
  · exact mwf_mins ‹_› (fresh_mdel m k) (mwf_filter _ h)

end Sys2Proof.Machine
end

