-- ==== Sys2Proof/Laws/Answers.lean ====
section
/-! SUPPORT. How a meaning answers: what `State.upd` and `Dev.when` can do, how frames compose, what an operation of the message protocol
does with the request it finds, and that the host window keeps its canonical form. -/

namespace Sys2Proof.Machine

/-! ## Meanings -/

/-- A meaning that is an effect on the module answers the state with that effect. -/
theorem upd_eq_next (s : State) (g : Dev → Dev) : s.upd g = .next { s with dev := g s.dev } := rfl

/-- A command whose meaning is an effect on the module answers it, with whatever the effect establishes. -/
theorem answers_of_upd {c : Instr} {s : State} {g : Dev → Dev} {P : Dev → Prop} (h : exec c s = s.upd g) (hp : P (g s.dev)) :
    Answers c s P := ⟨_, h, rfl, hp⟩

/-- The same for the module that the effect makes. -/
theorem answersDev_of_upd {c : Instr} {s : State} {g : Dev → Dev} {d : Dev} (h : exec c s = s.upd g) (hd : g s.dev = d) :
    AnswersDev c s d := by
  subst hd; exact h

/-- What a command establishes may be weakened. -/
theorem Answers.mono {c : Instr} {s : State} {P Q : Dev → Prop} (h : Answers c s P) (hq : ∀ d, P d → Q d) : Answers c s Q := by
  obtain ⟨t, e, p, hp⟩ := h
  exact ⟨t, e, p, hq _ hp⟩

/-- Properties that a command establishes hold together. -/
theorem Answers.and {c : Instr} {s : State} {P Q : Dev → Prop} (h : Answers c s P) (k : Answers c s Q) :
    Answers c s fun d => P d ∧ Q d := by
  obtain ⟨t, e, p, hp⟩ := h
  obtain ⟨u, e', -, hq⟩ := k
  rw [e] at e'
  cases e'
  exact ⟨t, e, p, hp, hq⟩

/-- Where the event can occur, its effect takes place. -/
theorem when_pos {c : Bool} (g : Dev → Dev) (d : Dev) (h : c = true) : Dev.when c g d = g d := by simp [Dev.when, h]

/-- Where it cannot, nothing happens. -/
theorem when_neg {c : Bool} (g : Dev → Dev) (d : Dev) (h : c = false) : Dev.when c g d = d := by simp [Dev.when, h]

/-! ## Frames -/

/-- A part is as it is. -/
theorem Part.same_refl (p : Part) (d : Dev) : p.same d d := by cases p <;> rfl

/-- A part that two steps leave is left. -/
theorem Part.same_trans {p : Part} {d e f : Dev} (h : p.same d e) (k : p.same e f) : p.same d f := by
  cases p <;> exact Eq.trans k h

/-- Nothing changes where nothing is done. -/
theorem onlyIn_refl (ps : List Part) (ks : Nat → Bool) (d : Dev) : OnlyIn ps ks d d := ⟨fun p _ => p.same_refl d, fun _ _ => rfl⟩

/-- Frames compose. -/
theorem OnlyIn.trans {ps : List Part} {ks : Nat → Bool} {d e f : Dev} (h : OnlyIn ps ks d e) (k : OnlyIn ps ks e f) :
    OnlyIn ps ks d f :=
  ⟨fun p hp => Part.same_trans (h.1 p hp) (k.1 p hp), fun x hx => (k.2 x hx).trans (h.2 x hx)⟩

/-- A frame may be widened. -/
theorem OnlyIn.mono {ps qs : List Part} {ks js : Nat → Bool} {d e : Dev} (h : OnlyIn ps ks d e) (hp : ∀ p ∈ ps, p ∈ qs)
    (hk : ∀ k, js k = false → ks k = false) : OnlyIn qs js d e :=
  ⟨fun p hn => h.1 p fun hm => hn (hp p hm), fun k hj => h.2 k (hk k hj)⟩

/-! ## Operations of the message protocol (16 R446 to R449) -/

/-- An operation acts only on a request that a session holds and that has not been forwarded, and only with the core domain up; then it is
turned away by the ROM responder, refused by role, or performed. -/
theorem op_cases (d : Dev) (ses id op : Nat) (g : Session → FmpReq → Dev → Dev) :
    d.op ses id op g = d ∨ ∃ x r, mget? d.fmp.sessions ses = some x ∧ r ∈ x.busy ∧ r.id = id ∧ r.op = op ∧ r.sent = false ∧
      d.host.coreDown = false ∧
      ((d.mod.romHold = true ∧ romServes r = false ∧ d.op ses id op g = d.fmpReply ses r E_CMD []) ∨
       (x.role ∉ (opRoles op).getD [] ∧ d.op ses id op g = (d.suiteDenied ses x op).fmpReply ses r E_ROLE []) ∨
       (x.role ∈ (opRoles op).getD [] ∧ d.op ses id op g = g x r d)) := by
  unfold Dev.op
  split
  · exact .inl rfl
  · rename_i x hx
    split
    · exact .inl rfl
    · rename_i r hr
      have hm := List.mem_of_find?_eq_some hr
      have hp := List.find?_some hr
      simp only [Bool.and_eq_true, beq_iff_eq, Bool.not_eq_true'] at hp
      split
      · exact .inl rfl
      · rename_i hc
        refine .inr ⟨x, r, hx, hm, hp.1.1, hp.1.2, hp.2, by simpa using hc, ?_⟩
        split
        · rename_i h
          simp only [Bool.and_eq_true, Bool.not_eq_true'] at h
          exact .inl ⟨h.1, h.2, rfl⟩
        · split
          · rename_i h
            exact .inr (.inl ⟨by simpa using h, rfl⟩)
          · rename_i h
            exact .inr (.inr ⟨by simpa using h, rfl⟩)

/-- The one request in progress that `asked` names is the one that its operation takes. -/
theorem op_asked {d : Dev} {ses : Nat} {x : Session} {r : FmpReq} (h : d.asked ses x r) (hr : d.mod.romHold = false)
    (g : Session → FmpReq → Dev → Dev) :
    d.op ses r.id r.op g = if x.role ∈ (opRoles r.op).getD [] then g x r d else (d.suiteDenied ses x r.op).fmpReply ses r E_ROLE [] := by
  obtain ⟨hs, hb, hn, hc, -⟩ := h
  simp [Dev.op, hs, hb, hn, hc, hr]

/-! ## The host window (16 R428) -/

/-- The window after reset has the canonical form. -/
theorem reset_window_wf : Memory.wf State.reset.dev.host.window = true := by decide

/-- Bytes written to the window leave it in its canonical form. -/
theorem windowWrite_wf (d : Dev) (off : Nat) (bs : List Byte) (h : Memory.wf d.host.window = true) :
    Memory.wf (d.windowWrite off bs).host.window = true := by
  have key : ∀ (l : List (Nat × Byte)) (w : Map Byte), mwf 0 w = true →
      mwf 0 (l.foldl (fun w e => mset (0 : Byte) w (off + e.1) e.2) w) = true := by
    intro l
    induction l with
    | nil => exact fun w hw => hw
    | cons e t ih => exact fun w hw => ih _ (mwf_mset _ _ hw)
  exact key _ _ h

/-- After a write the bytes written read as written and every other byte as before. -/
theorem windowWrite_other (d : Dev) (off : Nat) (bs : List Byte) {i : Nat} (h : i < off ∨ off + bs.length ≤ i) :
    mget (0 : Byte) (d.windowWrite off bs).host.window i = mget 0 d.host.window i := by
  have key : ∀ (l : List (Nat × Byte)) (w : Map Byte), (∀ e ∈ l, i ≠ off + e.1) →
      mget 0 (l.foldl (fun w e => mset (0 : Byte) w (off + e.1) e.2) w) i = mget 0 w i := by
    intro l
    induction l with
    | nil => exact fun w _ => rfl
    | cons e t ih =>
      intro w hl
      rw [List.foldl_cons, ih _ fun x hx => hl x (by simp [hx])]
      exact mget_mset_other _ _ _ (hl e (by simp))
  refine key _ _ fun e he => ?_
  have := (List.of_mem_zip he).1
  simp only [List.mem_range] at this
  omega

end Sys2Proof.Machine
end

