-- ==== Sys2Proof/Laws/Regs.lean ====
section
/-! SUPPORT. Laws of registers and fields: a field read after a write, and the frame of the register operations. -/

namespace Sys2Proof.Machine

/-- A field within a 32-bit register. -/
def Fld.ok (x : Fld) : Bool := decide (x.lo ≤ x.hi) && decide (x.hi < 32)

/-- Two fields that share no bit. -/
def Fld.apart (x y : Fld) : Bool := x.key != y.key || decide (x.hi < y.lo) || decide (y.hi < x.lo)

theorem bitsOf_lt (v hi lo : Nat) : bitsOf v hi lo < 2 ^ (hi + 1 - lo) := Nat.mod_lt _ (Nat.two_pow_pos _)

/-- A number as what lies below, in and above a field. -/
theorem bits_split (v hi lo : Nat) (h : lo ≤ hi + 1) :
    v = v % 2 ^ lo + bitsOf v hi lo * 2 ^ lo + v / 2 ^ (hi + 1) * 2 ^ (hi + 1) := by
  have h1 := Nat.div_add_mod v (2 ^ lo)
  have h2 := Nat.div_add_mod (v / 2 ^ lo) (2 ^ (hi + 1 - lo))
  have h3 : v / 2 ^ lo / 2 ^ (hi + 1 - lo) = v / 2 ^ (hi + 1) := by
    rw [Nat.div_div_eq_div_mul, ← Nat.pow_add]; congr 2; omega
  have h4 : 2 ^ (hi + 1) = 2 ^ lo * 2 ^ (hi + 1 - lo) := by rw [← Nat.pow_add]; congr 1; omega
  unfold bitsOf
  rw [h3] at h2
  generalize v / 2 ^ (hi + 1) = c at *
  rw [h4]
  generalize v / 2 ^ lo = w at *
  generalize 2 ^ lo = a at *
  generalize 2 ^ (hi + 1 - lo) = b at *
  rw [← h1]
  conv_lhs => rw [← h2]
  have : (a * w + v % a) % a = v % a := by rw [h1]
  rw [this]
  ring

theorem putBits_eq (v hi lo x : Nat) (h : lo ≤ hi + 1) :
    putBits v hi lo x = v % 2 ^ lo + x % 2 ^ (hi + 1 - lo) * 2 ^ lo + v / 2 ^ (hi + 1) * 2 ^ (hi + 1) := by
  have := bits_split v hi lo h
  unfold putBits
  omega

/-- The field reads back what was put, to its width. -/
theorem bitsOf_putBits_same (v hi lo x : Nat) (h : lo ≤ hi + 1) :
    bitsOf (putBits v hi lo x) hi lo = x % 2 ^ (hi + 1 - lo) := by
  have h4 : 2 ^ (hi + 1) = 2 ^ (hi + 1 - lo) * 2 ^ lo := by rw [← Nat.pow_add]; congr 1; omega
  have hl := Nat.two_pow_pos lo
  have hb : v % 2 ^ lo < 2 ^ lo := Nat.mod_lt _ hl
  rw [putBits_eq v hi lo x h, h4]
  unfold bitsOf
  generalize v / (2 ^ (hi + 1 - lo) * 2 ^ lo) = c
  generalize v % 2 ^ lo = r at *
  have : r + x % 2 ^ (hi + 1 - lo) * 2 ^ lo + c * (2 ^ (hi + 1 - lo) * 2 ^ lo)
      = r + (x % 2 ^ (hi + 1 - lo) + c * 2 ^ (hi + 1 - lo)) * 2 ^ lo := by ring
  rw [this, Nat.add_mul_div_right _ _ hl, Nat.div_eq_of_lt hb, Nat.zero_add, Nat.add_mul_mod_self_right, Nat.mod_mod]

/-- A field above the one put is as before. -/
theorem bitsOf_putBits_above (v hi lo x hi' lo' : Nat) (h : lo ≤ hi + 1) (ha : hi < lo') :
    bitsOf (putBits v hi lo x) hi' lo' = bitsOf v hi' lo' := by
  rw [putBits_eq v hi lo x h]
  unfold bitsOf
  congr 1
  obtain ⟨m, rfl⟩ : ∃ m, lo' = hi + 1 + m := ⟨lo' - (hi + 1), by omega⟩
  rw [Nat.pow_add 2 (hi + 1) m, ← Nat.div_div_eq_div_mul, ← Nat.div_div_eq_div_mul]
  congr 1
  have hl := Nat.two_pow_pos (hi + 1)
  have h4 : 2 ^ (hi + 1) = 2 ^ (hi + 1 - lo) * 2 ^ lo := by rw [← Nat.pow_add]; congr 1; omega
  have hb : v % 2 ^ lo + x % 2 ^ (hi + 1 - lo) * 2 ^ lo < 2 ^ (hi + 1) := by
    have h1 : v % 2 ^ lo < 2 ^ lo := Nat.mod_lt _ (Nat.two_pow_pos _)
    have h2 : x % 2 ^ (hi + 1 - lo) < 2 ^ (hi + 1 - lo) := Nat.mod_lt _ (Nat.two_pow_pos _)
    rw [h4]
    generalize 2 ^ lo = a at *
    generalize 2 ^ (hi + 1 - lo) = b at *
    nlinarith
  rw [Nat.add_mul_div_right _ _ hl, Nat.div_eq_of_lt hb, Nat.zero_add]

/-- A field below the one put is as before. -/
theorem bitsOf_putBits_below (v hi lo x hi' lo' : Nat) (h : lo ≤ hi + 1) (hw : lo' ≤ hi') (ha : hi' < lo) :
    bitsOf (putBits v hi lo x) hi' lo' = bitsOf v hi' lo' := by
  have key : ∀ w, bitsOf w hi' lo' = bitsOf (w % 2 ^ lo) hi' lo' := by
    intro w
    unfold bitsOf
    obtain ⟨m, hm⟩ : ∃ m, lo = hi' + 1 + m := ⟨lo - (hi' + 1), by omega⟩
    have h5 : hi' + 1 + m = lo' + (hi' + 1 - lo' + m) := by omega
    rw [hm, h5, Nat.pow_add, Nat.mod_mul_right_div_self, Nat.pow_add, Nat.mod_mul_right_mod]
  rw [key, key v]
  congr 1
  have h4 : 2 ^ (hi + 1) = 2 ^ (hi + 1 - lo) * 2 ^ lo := by rw [← Nat.pow_add]; congr 1; omega
  rw [putBits_eq v hi lo x h, h4, ← Nat.mul_assoc, Nat.add_mul_mod_self_right, Nat.add_mul_mod_self_right, Nat.mod_mod]

theorem putBits_lt (v hi lo x : Nat) (h : lo ≤ hi) (h32 : hi < 32) (hv : v < 2 ^ 32) : putBits v hi lo x < 2 ^ 32 := by
  rw [putBits_eq v hi lo x (by omega)]
  have h4 : 2 ^ (hi + 1) = 2 ^ (hi + 1 - lo) * 2 ^ lo := by rw [← Nat.pow_add]; congr 1; omega
  have h5 : (2:Nat) ^ 32 = 2 ^ (hi + 1) * 2 ^ (31 - hi) := by rw [← Nat.pow_add]; congr 1; omega
  have h1 : v % 2 ^ lo < 2 ^ lo := Nat.mod_lt _ (Nat.two_pow_pos _)
  have h2 : x % 2 ^ (hi + 1 - lo) < 2 ^ (hi + 1 - lo) := Nat.mod_lt _ (Nat.two_pow_pos _)
  have h3 : v / 2 ^ (hi + 1) < 2 ^ (31 - hi) := by
    apply Nat.div_lt_of_lt_mul; rw [← h5]; exact hv
  have hb : v % 2 ^ lo + x % 2 ^ (hi + 1 - lo) * 2 ^ lo < 2 ^ (hi + 1) := by
    rw [h4]
    generalize 2 ^ lo = a at *
    generalize 2 ^ (hi + 1 - lo) = b at *
    nlinarith
  rw [h5]
  generalize 2 ^ (hi + 1) = a at *
  generalize v / a = c at *
  generalize 2 ^ (31 - hi) = b at *
  nlinarith

/-! ## Registers -/

@[simp] theorem rd_wr_same (d : Dev) (k : Nat) (v : W32) : (d.wr k v).rd k = v := mget_mset_same _ _ _ _

theorem rd_wr_other (d : Dev) {k j : Nat} (v : W32) (h : j ≠ k) : (d.wr k v).rd j = d.rd j := by
  show mget (regReset j) (mset (regReset k) d.regs k v) j = mget (regReset j) d.regs j
  unfold mset
  split
  · exact mget_mdel_other _ _ h
  · rw [mget_mins_other _ _ v h, mget_mdel_other _ _ h]

/-- A field reads back what was put, to its width. -/
theorem get_put_mod (d : Dev) (x : Fld) (v : Nat) (h : x.ok = true) :
    (d.put x v).get x = v % 2 ^ (x.hi + 1 - x.lo) := by
  have hx : x.lo ≤ x.hi ∧ x.hi < 32 := by simpa [Fld.ok] using h
  unfold Dev.get Dev.put
  rw [rd_wr_same, BitVec.toNat_ofNat, Nat.mod_eq_of_lt (putBits_lt _ _ _ _ hx.1 hx.2 (d.rd x.key).isLt)]
  exact bitsOf_putBits_same _ _ _ _ (by omega)

/-- A field reads back a value that fits it. -/
theorem get_put_same (d : Dev) (x : Fld) (v : Nat) (h : x.ok = true) (hv : v < 2 ^ (x.hi + 1 - x.lo)) :
    (d.put x v).get x = v := by rw [get_put_mod d x v h, Nat.mod_eq_of_lt hv]

/-- A put leaves every field alone that shares no bit with its own. -/
theorem get_put_other (d : Dev) (x y : Fld) (v : Nat) (hx : x.ok = true) (hy : y.ok = true) (h : x.apart y = true) :
    (d.put x v).get y = d.get y := by
  have hx : x.lo ≤ x.hi ∧ x.hi < 32 := by simpa [Fld.ok] using hx
  have hy : y.lo ≤ y.hi ∧ y.hi < 32 := by simpa [Fld.ok] using hy
  unfold Dev.get Dev.put
  by_cases hk : y.key = x.key
  · have h' : x.hi < y.lo ∨ y.hi < x.lo := by simpa [Fld.apart, hk] using h
    rw [hk, rd_wr_same, BitVec.toNat_ofNat, Nat.mod_eq_of_lt (putBits_lt _ _ _ _ hx.1 hx.2 (d.rd x.key).isLt)]
    rcases h' with h' | h'
    · exact bitsOf_putBits_above _ _ _ _ _ _ (by omega) h'
    · exact bitsOf_putBits_below _ _ _ _ _ _ (by omega) hy.1 h'
  · rw [rd_wr_other d _ hk]

/-- A put leaves every other register alone. -/
theorem rd_put_other (d : Dev) (x : Fld) (v : Nat) {k : Nat} (h : k ≠ x.key) : (d.put x v).rd k = d.rd k :=
  rd_wr_other d _ h

theorem bit_put_same (d : Dev) (x : Fld) (v : Nat) (h : x.ok = true) (hv : v < 2 ^ (x.hi + 1 - x.lo)) :
    (d.put x v).bit x = decide (v = 1) := by simp [Dev.bit, get_put_same d x v h hv]

theorem bit_put_other (d : Dev) (x y : Fld) (v : Nat) (hx : x.ok = true) (hy : y.ok = true) (h : x.apart y = true) :
    (d.put x v).bit y = d.bit y := by simp [Dev.bit, get_put_other d x y v hx hy h]

/-- A counter field that holds at its largest value. -/
theorem get_inc_same (d : Dev) (x : Fld) (n : Nat) (h : x.ok = true) :
    (d.inc x n).get x = min (d.get x + n) (2 ^ (x.hi + 1 - x.lo) - 1) := by
  unfold Dev.inc
  refine get_put_same d x _ h ?_
  have := Nat.two_pow_pos (x.hi + 1 - x.lo)
  omega

theorem get_dec_same (d : Dev) (x : Fld) (n : Nat) (h : x.ok = true) : (d.dec x n).get x = d.get x - n := by
  unfold Dev.dec
  refine get_put_same d x _ h ?_
  have : d.get x < 2 ^ (x.hi + 1 - x.lo) := bitsOf_lt _ _ _
  omega

theorem get_inc_other (d : Dev) (x y : Fld) (n : Nat) (hx : x.ok = true) (hy : y.ok = true) (h : x.apart y = true) :
    (d.inc x n).get y = d.get y := get_put_other d x y _ hx hy h

end Sys2Proof.Machine
end

