-- ==== Sys2Proof/Laws/State.lean ====
section
/-! SUPPORT. What each update of the module leaves as it was: one lemma per part and per update, so that no later proof unfolds
a record update. -/

namespace Sys2Proof.Machine

/-! ## Dev.wr -/

@[simp] theorem wr_mod (d : Dev) (k : Nat) (v : W32) : (d.wr k v).mod = d.mod := rfl
@[simp] theorem wr_cor (d : Dev) (k : Nat) (v : W32) : (d.wr k v).cor = d.cor := rfl
@[simp] theorem wr_nw (d : Dev) (k : Nat) (v : W32) : (d.wr k v).nw = d.nw := rfl
@[simp] theorem wr_fa (d : Dev) (k : Nat) (v : W32) : (d.wr k v).fa = d.fa := rfl
@[simp] theorem wr_fb (d : Dev) (k : Nat) (v : W32) : (d.wr k v).fb = d.fb := rfl
@[simp] theorem wr_gl (d : Dev) (k : Nat) (v : W32) : (d.wr k v).gl = d.gl := rfl
@[simp] theorem wr_lg (d : Dev) (k : Nat) (v : W32) : (d.wr k v).lg = d.lg := rfl
@[simp] theorem wr_time (d : Dev) (k : Nat) (v : W32) : (d.wr k v).time = d.time := rfl
@[simp] theorem wr_host (d : Dev) (k : Nat) (v : W32) : (d.wr k v).host = d.host := rfl
@[simp] theorem wr_fmp (d : Dev) (k : Nat) (v : W32) : (d.wr k v).fmp = d.fmp := rfl
@[simp] theorem wr_eth (d : Dev) (k : Nat) (v : W32) : (d.wr k v).eth = d.eth := rfl
@[simp] theorem wr_arc (d : Dev) (k : Nat) (v : W32) : (d.wr k v).arc = d.arc := rfl
@[simp] theorem wr_und (d : Dev) (k : Nat) (v : W32) : (d.wr k v).und = d.und := rfl
@[simp] theorem wr_upd (d : Dev) (k : Nat) (v : W32) : (d.wr k v).upd = d.upd := rfl
@[simp] theorem wr_jnl (d : Dev) (k : Nat) (v : W32) : (d.wr k v).jnl = d.jnl := rfl
@[simp] theorem wr_fmem (d : Dev) (k : Nat) (v : W32) : (d.wr k v).fmem = d.fmem := rfl

/-! ## Dev.put -/

@[simp] theorem put_mod (d : Dev) (x : Fld) (v : Nat) : (d.put x v).mod = d.mod := rfl
@[simp] theorem put_cor (d : Dev) (x : Fld) (v : Nat) : (d.put x v).cor = d.cor := rfl
@[simp] theorem put_nw (d : Dev) (x : Fld) (v : Nat) : (d.put x v).nw = d.nw := rfl
@[simp] theorem put_fa (d : Dev) (x : Fld) (v : Nat) : (d.put x v).fa = d.fa := rfl
@[simp] theorem put_fb (d : Dev) (x : Fld) (v : Nat) : (d.put x v).fb = d.fb := rfl
@[simp] theorem put_gl (d : Dev) (x : Fld) (v : Nat) : (d.put x v).gl = d.gl := rfl
@[simp] theorem put_lg (d : Dev) (x : Fld) (v : Nat) : (d.put x v).lg = d.lg := rfl
@[simp] theorem put_time (d : Dev) (x : Fld) (v : Nat) : (d.put x v).time = d.time := rfl
@[simp] theorem put_host (d : Dev) (x : Fld) (v : Nat) : (d.put x v).host = d.host := rfl
@[simp] theorem put_fmp (d : Dev) (x : Fld) (v : Nat) : (d.put x v).fmp = d.fmp := rfl
@[simp] theorem put_eth (d : Dev) (x : Fld) (v : Nat) : (d.put x v).eth = d.eth := rfl
@[simp] theorem put_arc (d : Dev) (x : Fld) (v : Nat) : (d.put x v).arc = d.arc := rfl
@[simp] theorem put_und (d : Dev) (x : Fld) (v : Nat) : (d.put x v).und = d.und := rfl
@[simp] theorem put_upd (d : Dev) (x : Fld) (v : Nat) : (d.put x v).upd = d.upd := rfl
@[simp] theorem put_jnl (d : Dev) (x : Fld) (v : Nat) : (d.put x v).jnl = d.jnl := rfl
@[simp] theorem put_fmem (d : Dev) (x : Fld) (v : Nat) : (d.put x v).fmem = d.fmem := rfl

/-! ## Dev.inc -/

@[simp] theorem inc_mod (d : Dev) (x : Fld) (v : Nat) : (d.inc x v).mod = d.mod := rfl
@[simp] theorem inc_cor (d : Dev) (x : Fld) (v : Nat) : (d.inc x v).cor = d.cor := rfl
@[simp] theorem inc_nw (d : Dev) (x : Fld) (v : Nat) : (d.inc x v).nw = d.nw := rfl
@[simp] theorem inc_fa (d : Dev) (x : Fld) (v : Nat) : (d.inc x v).fa = d.fa := rfl
@[simp] theorem inc_fb (d : Dev) (x : Fld) (v : Nat) : (d.inc x v).fb = d.fb := rfl
@[simp] theorem inc_gl (d : Dev) (x : Fld) (v : Nat) : (d.inc x v).gl = d.gl := rfl
@[simp] theorem inc_lg (d : Dev) (x : Fld) (v : Nat) : (d.inc x v).lg = d.lg := rfl
@[simp] theorem inc_time (d : Dev) (x : Fld) (v : Nat) : (d.inc x v).time = d.time := rfl
@[simp] theorem inc_host (d : Dev) (x : Fld) (v : Nat) : (d.inc x v).host = d.host := rfl
@[simp] theorem inc_fmp (d : Dev) (x : Fld) (v : Nat) : (d.inc x v).fmp = d.fmp := rfl
@[simp] theorem inc_eth (d : Dev) (x : Fld) (v : Nat) : (d.inc x v).eth = d.eth := rfl
@[simp] theorem inc_arc (d : Dev) (x : Fld) (v : Nat) : (d.inc x v).arc = d.arc := rfl
@[simp] theorem inc_und (d : Dev) (x : Fld) (v : Nat) : (d.inc x v).und = d.und := rfl
@[simp] theorem inc_upd (d : Dev) (x : Fld) (v : Nat) : (d.inc x v).upd = d.upd := rfl
@[simp] theorem inc_jnl (d : Dev) (x : Fld) (v : Nat) : (d.inc x v).jnl = d.jnl := rfl
@[simp] theorem inc_fmem (d : Dev) (x : Fld) (v : Nat) : (d.inc x v).fmem = d.fmem := rfl

/-! ## Dev.dec -/

@[simp] theorem dec_mod (d : Dev) (x : Fld) (v : Nat) : (d.dec x v).mod = d.mod := rfl
@[simp] theorem dec_cor (d : Dev) (x : Fld) (v : Nat) : (d.dec x v).cor = d.cor := rfl
@[simp] theorem dec_nw (d : Dev) (x : Fld) (v : Nat) : (d.dec x v).nw = d.nw := rfl
@[simp] theorem dec_fa (d : Dev) (x : Fld) (v : Nat) : (d.dec x v).fa = d.fa := rfl
@[simp] theorem dec_fb (d : Dev) (x : Fld) (v : Nat) : (d.dec x v).fb = d.fb := rfl
@[simp] theorem dec_gl (d : Dev) (x : Fld) (v : Nat) : (d.dec x v).gl = d.gl := rfl
@[simp] theorem dec_lg (d : Dev) (x : Fld) (v : Nat) : (d.dec x v).lg = d.lg := rfl
@[simp] theorem dec_time (d : Dev) (x : Fld) (v : Nat) : (d.dec x v).time = d.time := rfl
@[simp] theorem dec_host (d : Dev) (x : Fld) (v : Nat) : (d.dec x v).host = d.host := rfl
@[simp] theorem dec_fmp (d : Dev) (x : Fld) (v : Nat) : (d.dec x v).fmp = d.fmp := rfl
@[simp] theorem dec_eth (d : Dev) (x : Fld) (v : Nat) : (d.dec x v).eth = d.eth := rfl
@[simp] theorem dec_arc (d : Dev) (x : Fld) (v : Nat) : (d.dec x v).arc = d.arc := rfl
@[simp] theorem dec_und (d : Dev) (x : Fld) (v : Nat) : (d.dec x v).und = d.und := rfl
@[simp] theorem dec_upd (d : Dev) (x : Fld) (v : Nat) : (d.dec x v).upd = d.upd := rfl
@[simp] theorem dec_jnl (d : Dev) (x : Fld) (v : Nat) : (d.dec x v).jnl = d.jnl := rfl
@[simp] theorem dec_fmem (d : Dev) (x : Fld) (v : Nat) : (d.dec x v).fmem = d.fmem := rfl

/-! ## Dev.incWrap -/

@[simp] theorem incWrap_mod (d : Dev) (x : Fld) (v : Nat) : (d.incWrap x v).mod = d.mod := rfl
@[simp] theorem incWrap_cor (d : Dev) (x : Fld) (v : Nat) : (d.incWrap x v).cor = d.cor := rfl
@[simp] theorem incWrap_nw (d : Dev) (x : Fld) (v : Nat) : (d.incWrap x v).nw = d.nw := rfl
@[simp] theorem incWrap_fa (d : Dev) (x : Fld) (v : Nat) : (d.incWrap x v).fa = d.fa := rfl
@[simp] theorem incWrap_fb (d : Dev) (x : Fld) (v : Nat) : (d.incWrap x v).fb = d.fb := rfl
@[simp] theorem incWrap_gl (d : Dev) (x : Fld) (v : Nat) : (d.incWrap x v).gl = d.gl := rfl
@[simp] theorem incWrap_lg (d : Dev) (x : Fld) (v : Nat) : (d.incWrap x v).lg = d.lg := rfl
@[simp] theorem incWrap_time (d : Dev) (x : Fld) (v : Nat) : (d.incWrap x v).time = d.time := rfl
@[simp] theorem incWrap_host (d : Dev) (x : Fld) (v : Nat) : (d.incWrap x v).host = d.host := rfl
@[simp] theorem incWrap_fmp (d : Dev) (x : Fld) (v : Nat) : (d.incWrap x v).fmp = d.fmp := rfl
@[simp] theorem incWrap_eth (d : Dev) (x : Fld) (v : Nat) : (d.incWrap x v).eth = d.eth := rfl
@[simp] theorem incWrap_arc (d : Dev) (x : Fld) (v : Nat) : (d.incWrap x v).arc = d.arc := rfl
@[simp] theorem incWrap_und (d : Dev) (x : Fld) (v : Nat) : (d.incWrap x v).und = d.und := rfl
@[simp] theorem incWrap_upd (d : Dev) (x : Fld) (v : Nat) : (d.incWrap x v).upd = d.upd := rfl
@[simp] theorem incWrap_jnl (d : Dev) (x : Fld) (v : Nat) : (d.incWrap x v).jnl = d.jnl := rfl
@[simp] theorem incWrap_fmem (d : Dev) (x : Fld) (v : Nat) : (d.incWrap x v).fmem = d.fmem := rfl

/-! ## Dev.clearReg -/

@[simp] theorem clearReg_mod (d : Dev) (k : Nat) : (d.clearReg k).mod = d.mod := rfl
@[simp] theorem clearReg_cor (d : Dev) (k : Nat) : (d.clearReg k).cor = d.cor := rfl
@[simp] theorem clearReg_nw (d : Dev) (k : Nat) : (d.clearReg k).nw = d.nw := rfl
@[simp] theorem clearReg_fa (d : Dev) (k : Nat) : (d.clearReg k).fa = d.fa := rfl
@[simp] theorem clearReg_fb (d : Dev) (k : Nat) : (d.clearReg k).fb = d.fb := rfl
@[simp] theorem clearReg_gl (d : Dev) (k : Nat) : (d.clearReg k).gl = d.gl := rfl
@[simp] theorem clearReg_lg (d : Dev) (k : Nat) : (d.clearReg k).lg = d.lg := rfl
@[simp] theorem clearReg_time (d : Dev) (k : Nat) : (d.clearReg k).time = d.time := rfl
@[simp] theorem clearReg_host (d : Dev) (k : Nat) : (d.clearReg k).host = d.host := rfl
@[simp] theorem clearReg_fmp (d : Dev) (k : Nat) : (d.clearReg k).fmp = d.fmp := rfl
@[simp] theorem clearReg_eth (d : Dev) (k : Nat) : (d.clearReg k).eth = d.eth := rfl
@[simp] theorem clearReg_arc (d : Dev) (k : Nat) : (d.clearReg k).arc = d.arc := rfl
@[simp] theorem clearReg_und (d : Dev) (k : Nat) : (d.clearReg k).und = d.und := rfl
@[simp] theorem clearReg_upd (d : Dev) (k : Nat) : (d.clearReg k).upd = d.upd := rfl
@[simp] theorem clearReg_jnl (d : Dev) (k : Nat) : (d.clearReg k).jnl = d.jnl := rfl
@[simp] theorem clearReg_fmem (d : Dev) (k : Nat) : (d.clearReg k).fmem = d.fmem := rfl

/-! ## Dev.clearRegion -/

@[simp] theorem clearRegion_mod (d : Dev) (k : Nat) : (d.clearRegion k).mod = d.mod := rfl
@[simp] theorem clearRegion_cor (d : Dev) (k : Nat) : (d.clearRegion k).cor = d.cor := rfl
@[simp] theorem clearRegion_nw (d : Dev) (k : Nat) : (d.clearRegion k).nw = d.nw := rfl
@[simp] theorem clearRegion_fa (d : Dev) (k : Nat) : (d.clearRegion k).fa = d.fa := rfl
@[simp] theorem clearRegion_fb (d : Dev) (k : Nat) : (d.clearRegion k).fb = d.fb := rfl
@[simp] theorem clearRegion_gl (d : Dev) (k : Nat) : (d.clearRegion k).gl = d.gl := rfl
@[simp] theorem clearRegion_lg (d : Dev) (k : Nat) : (d.clearRegion k).lg = d.lg := rfl
@[simp] theorem clearRegion_time (d : Dev) (k : Nat) : (d.clearRegion k).time = d.time := rfl
@[simp] theorem clearRegion_host (d : Dev) (k : Nat) : (d.clearRegion k).host = d.host := rfl
@[simp] theorem clearRegion_fmp (d : Dev) (k : Nat) : (d.clearRegion k).fmp = d.fmp := rfl
@[simp] theorem clearRegion_eth (d : Dev) (k : Nat) : (d.clearRegion k).eth = d.eth := rfl
@[simp] theorem clearRegion_arc (d : Dev) (k : Nat) : (d.clearRegion k).arc = d.arc := rfl
@[simp] theorem clearRegion_und (d : Dev) (k : Nat) : (d.clearRegion k).und = d.und := rfl
@[simp] theorem clearRegion_upd (d : Dev) (k : Nat) : (d.clearRegion k).upd = d.upd := rfl
@[simp] theorem clearRegion_jnl (d : Dev) (k : Nat) : (d.clearRegion k).jnl = d.jnl := rfl
@[simp] theorem clearRegion_fmem (d : Dev) (k : Nat) : (d.clearRegion k).fmem = d.fmem := rfl

/-! ## Dev.updNw -/

@[simp] theorem updNw_nw (d : Dev) (g : NewelSt → NewelSt) : (d.updNw g).nw = g d.nw := rfl
@[simp] theorem updNw_regs (d : Dev) (g : NewelSt → NewelSt) : (d.updNw g).regs = d.regs := rfl
@[simp] theorem updNw_mod (d : Dev) (g : NewelSt → NewelSt) : (d.updNw g).mod = d.mod := rfl
@[simp] theorem updNw_cor (d : Dev) (g : NewelSt → NewelSt) : (d.updNw g).cor = d.cor := rfl
@[simp] theorem updNw_fa (d : Dev) (g : NewelSt → NewelSt) : (d.updNw g).fa = d.fa := rfl
@[simp] theorem updNw_fb (d : Dev) (g : NewelSt → NewelSt) : (d.updNw g).fb = d.fb := rfl
@[simp] theorem updNw_gl (d : Dev) (g : NewelSt → NewelSt) : (d.updNw g).gl = d.gl := rfl
@[simp] theorem updNw_lg (d : Dev) (g : NewelSt → NewelSt) : (d.updNw g).lg = d.lg := rfl
@[simp] theorem updNw_time (d : Dev) (g : NewelSt → NewelSt) : (d.updNw g).time = d.time := rfl
@[simp] theorem updNw_host (d : Dev) (g : NewelSt → NewelSt) : (d.updNw g).host = d.host := rfl
@[simp] theorem updNw_fmp (d : Dev) (g : NewelSt → NewelSt) : (d.updNw g).fmp = d.fmp := rfl
@[simp] theorem updNw_eth (d : Dev) (g : NewelSt → NewelSt) : (d.updNw g).eth = d.eth := rfl
@[simp] theorem updNw_arc (d : Dev) (g : NewelSt → NewelSt) : (d.updNw g).arc = d.arc := rfl
@[simp] theorem updNw_und (d : Dev) (g : NewelSt → NewelSt) : (d.updNw g).und = d.und := rfl
@[simp] theorem updNw_upd (d : Dev) (g : NewelSt → NewelSt) : (d.updNw g).upd = d.upd := rfl
@[simp] theorem updNw_jnl (d : Dev) (g : NewelSt → NewelSt) : (d.updNw g).jnl = d.jnl := rfl
@[simp] theorem updNw_fmem (d : Dev) (g : NewelSt → NewelSt) : (d.updNw g).fmem = d.fmem := rfl
@[simp] theorem updNw_rd (d : Dev) (g : NewelSt → NewelSt) (k : Nat) : (d.updNw g).rd k = d.rd k := rfl
@[simp] theorem updNw_get (d : Dev) (g : NewelSt → NewelSt) (x : Fld) : (d.updNw g).get x = d.get x := rfl
@[simp] theorem updNw_bit (d : Dev) (g : NewelSt → NewelSt) (x : Fld) : (d.updNw g).bit x = d.bit x := rfl

/-! ## Dev.updMod -/

@[simp] theorem updMod_mod (d : Dev) (g : ModSt → ModSt) : (d.updMod g).mod = g d.mod := rfl
@[simp] theorem updMod_regs (d : Dev) (g : ModSt → ModSt) : (d.updMod g).regs = d.regs := rfl
@[simp] theorem updMod_cor (d : Dev) (g : ModSt → ModSt) : (d.updMod g).cor = d.cor := rfl
@[simp] theorem updMod_nw (d : Dev) (g : ModSt → ModSt) : (d.updMod g).nw = d.nw := rfl
@[simp] theorem updMod_fa (d : Dev) (g : ModSt → ModSt) : (d.updMod g).fa = d.fa := rfl
@[simp] theorem updMod_fb (d : Dev) (g : ModSt → ModSt) : (d.updMod g).fb = d.fb := rfl
@[simp] theorem updMod_gl (d : Dev) (g : ModSt → ModSt) : (d.updMod g).gl = d.gl := rfl
@[simp] theorem updMod_lg (d : Dev) (g : ModSt → ModSt) : (d.updMod g).lg = d.lg := rfl
@[simp] theorem updMod_time (d : Dev) (g : ModSt → ModSt) : (d.updMod g).time = d.time := rfl
@[simp] theorem updMod_host (d : Dev) (g : ModSt → ModSt) : (d.updMod g).host = d.host := rfl
@[simp] theorem updMod_fmp (d : Dev) (g : ModSt → ModSt) : (d.updMod g).fmp = d.fmp := rfl
@[simp] theorem updMod_eth (d : Dev) (g : ModSt → ModSt) : (d.updMod g).eth = d.eth := rfl
@[simp] theorem updMod_arc (d : Dev) (g : ModSt → ModSt) : (d.updMod g).arc = d.arc := rfl
@[simp] theorem updMod_und (d : Dev) (g : ModSt → ModSt) : (d.updMod g).und = d.und := rfl
@[simp] theorem updMod_upd (d : Dev) (g : ModSt → ModSt) : (d.updMod g).upd = d.upd := rfl
@[simp] theorem updMod_jnl (d : Dev) (g : ModSt → ModSt) : (d.updMod g).jnl = d.jnl := rfl
@[simp] theorem updMod_fmem (d : Dev) (g : ModSt → ModSt) : (d.updMod g).fmem = d.fmem := rfl
@[simp] theorem updMod_rd (d : Dev) (g : ModSt → ModSt) (k : Nat) : (d.updMod g).rd k = d.rd k := rfl
@[simp] theorem updMod_get (d : Dev) (g : ModSt → ModSt) (x : Fld) : (d.updMod g).get x = d.get x := rfl
@[simp] theorem updMod_bit (d : Dev) (g : ModSt → ModSt) (x : Fld) : (d.updMod g).bit x = d.bit x := rfl

/-! ## Dev.updCor -/

@[simp] theorem updCor_cor (d : Dev) (g : CorrSt → CorrSt) : (d.updCor g).cor = g d.cor := rfl
@[simp] theorem updCor_regs (d : Dev) (g : CorrSt → CorrSt) : (d.updCor g).regs = d.regs := rfl
@[simp] theorem updCor_mod (d : Dev) (g : CorrSt → CorrSt) : (d.updCor g).mod = d.mod := rfl
@[simp] theorem updCor_nw (d : Dev) (g : CorrSt → CorrSt) : (d.updCor g).nw = d.nw := rfl
@[simp] theorem updCor_fa (d : Dev) (g : CorrSt → CorrSt) : (d.updCor g).fa = d.fa := rfl
@[simp] theorem updCor_fb (d : Dev) (g : CorrSt → CorrSt) : (d.updCor g).fb = d.fb := rfl
@[simp] theorem updCor_gl (d : Dev) (g : CorrSt → CorrSt) : (d.updCor g).gl = d.gl := rfl
@[simp] theorem updCor_lg (d : Dev) (g : CorrSt → CorrSt) : (d.updCor g).lg = d.lg := rfl
@[simp] theorem updCor_time (d : Dev) (g : CorrSt → CorrSt) : (d.updCor g).time = d.time := rfl
@[simp] theorem updCor_host (d : Dev) (g : CorrSt → CorrSt) : (d.updCor g).host = d.host := rfl
@[simp] theorem updCor_fmp (d : Dev) (g : CorrSt → CorrSt) : (d.updCor g).fmp = d.fmp := rfl
@[simp] theorem updCor_eth (d : Dev) (g : CorrSt → CorrSt) : (d.updCor g).eth = d.eth := rfl
@[simp] theorem updCor_arc (d : Dev) (g : CorrSt → CorrSt) : (d.updCor g).arc = d.arc := rfl
@[simp] theorem updCor_und (d : Dev) (g : CorrSt → CorrSt) : (d.updCor g).und = d.und := rfl
@[simp] theorem updCor_upd (d : Dev) (g : CorrSt → CorrSt) : (d.updCor g).upd = d.upd := rfl
@[simp] theorem updCor_jnl (d : Dev) (g : CorrSt → CorrSt) : (d.updCor g).jnl = d.jnl := rfl
@[simp] theorem updCor_fmem (d : Dev) (g : CorrSt → CorrSt) : (d.updCor g).fmem = d.fmem := rfl
@[simp] theorem updCor_rd (d : Dev) (g : CorrSt → CorrSt) (k : Nat) : (d.updCor g).rd k = d.rd k := rfl
@[simp] theorem updCor_get (d : Dev) (g : CorrSt → CorrSt) (x : Fld) : (d.updCor g).get x = d.get x := rfl
@[simp] theorem updCor_bit (d : Dev) (g : CorrSt → CorrSt) (x : Fld) : (d.updCor g).bit x = d.bit x := rfl

/-! ## Dev.updGl -/

@[simp] theorem updGl_gl (d : Dev) (g : GallerySt → GallerySt) : (d.updGl g).gl = g d.gl := rfl
@[simp] theorem updGl_regs (d : Dev) (g : GallerySt → GallerySt) : (d.updGl g).regs = d.regs := rfl
@[simp] theorem updGl_mod (d : Dev) (g : GallerySt → GallerySt) : (d.updGl g).mod = d.mod := rfl
@[simp] theorem updGl_cor (d : Dev) (g : GallerySt → GallerySt) : (d.updGl g).cor = d.cor := rfl
@[simp] theorem updGl_nw (d : Dev) (g : GallerySt → GallerySt) : (d.updGl g).nw = d.nw := rfl
@[simp] theorem updGl_fa (d : Dev) (g : GallerySt → GallerySt) : (d.updGl g).fa = d.fa := rfl
@[simp] theorem updGl_fb (d : Dev) (g : GallerySt → GallerySt) : (d.updGl g).fb = d.fb := rfl
@[simp] theorem updGl_lg (d : Dev) (g : GallerySt → GallerySt) : (d.updGl g).lg = d.lg := rfl
@[simp] theorem updGl_time (d : Dev) (g : GallerySt → GallerySt) : (d.updGl g).time = d.time := rfl
@[simp] theorem updGl_host (d : Dev) (g : GallerySt → GallerySt) : (d.updGl g).host = d.host := rfl
@[simp] theorem updGl_fmp (d : Dev) (g : GallerySt → GallerySt) : (d.updGl g).fmp = d.fmp := rfl
@[simp] theorem updGl_eth (d : Dev) (g : GallerySt → GallerySt) : (d.updGl g).eth = d.eth := rfl
@[simp] theorem updGl_arc (d : Dev) (g : GallerySt → GallerySt) : (d.updGl g).arc = d.arc := rfl
@[simp] theorem updGl_und (d : Dev) (g : GallerySt → GallerySt) : (d.updGl g).und = d.und := rfl
@[simp] theorem updGl_upd (d : Dev) (g : GallerySt → GallerySt) : (d.updGl g).upd = d.upd := rfl
@[simp] theorem updGl_jnl (d : Dev) (g : GallerySt → GallerySt) : (d.updGl g).jnl = d.jnl := rfl
@[simp] theorem updGl_fmem (d : Dev) (g : GallerySt → GallerySt) : (d.updGl g).fmem = d.fmem := rfl
@[simp] theorem updGl_rd (d : Dev) (g : GallerySt → GallerySt) (k : Nat) : (d.updGl g).rd k = d.rd k := rfl
@[simp] theorem updGl_get (d : Dev) (g : GallerySt → GallerySt) (x : Fld) : (d.updGl g).get x = d.get x := rfl
@[simp] theorem updGl_bit (d : Dev) (g : GallerySt → GallerySt) (x : Fld) : (d.updGl g).bit x = d.bit x := rfl

/-! ## Dev.updLg -/

@[simp] theorem updLg_lg (d : Dev) (g : LoggiaSt → LoggiaSt) : (d.updLg g).lg = g d.lg := rfl
@[simp] theorem updLg_regs (d : Dev) (g : LoggiaSt → LoggiaSt) : (d.updLg g).regs = d.regs := rfl
@[simp] theorem updLg_mod (d : Dev) (g : LoggiaSt → LoggiaSt) : (d.updLg g).mod = d.mod := rfl
@[simp] theorem updLg_cor (d : Dev) (g : LoggiaSt → LoggiaSt) : (d.updLg g).cor = d.cor := rfl
@[simp] theorem updLg_nw (d : Dev) (g : LoggiaSt → LoggiaSt) : (d.updLg g).nw = d.nw := rfl
@[simp] theorem updLg_fa (d : Dev) (g : LoggiaSt → LoggiaSt) : (d.updLg g).fa = d.fa := rfl
@[simp] theorem updLg_fb (d : Dev) (g : LoggiaSt → LoggiaSt) : (d.updLg g).fb = d.fb := rfl
@[simp] theorem updLg_gl (d : Dev) (g : LoggiaSt → LoggiaSt) : (d.updLg g).gl = d.gl := rfl
@[simp] theorem updLg_time (d : Dev) (g : LoggiaSt → LoggiaSt) : (d.updLg g).time = d.time := rfl
@[simp] theorem updLg_host (d : Dev) (g : LoggiaSt → LoggiaSt) : (d.updLg g).host = d.host := rfl
@[simp] theorem updLg_fmp (d : Dev) (g : LoggiaSt → LoggiaSt) : (d.updLg g).fmp = d.fmp := rfl
@[simp] theorem updLg_eth (d : Dev) (g : LoggiaSt → LoggiaSt) : (d.updLg g).eth = d.eth := rfl
@[simp] theorem updLg_arc (d : Dev) (g : LoggiaSt → LoggiaSt) : (d.updLg g).arc = d.arc := rfl
@[simp] theorem updLg_und (d : Dev) (g : LoggiaSt → LoggiaSt) : (d.updLg g).und = d.und := rfl
@[simp] theorem updLg_upd (d : Dev) (g : LoggiaSt → LoggiaSt) : (d.updLg g).upd = d.upd := rfl
@[simp] theorem updLg_jnl (d : Dev) (g : LoggiaSt → LoggiaSt) : (d.updLg g).jnl = d.jnl := rfl
@[simp] theorem updLg_fmem (d : Dev) (g : LoggiaSt → LoggiaSt) : (d.updLg g).fmem = d.fmem := rfl
@[simp] theorem updLg_rd (d : Dev) (g : LoggiaSt → LoggiaSt) (k : Nat) : (d.updLg g).rd k = d.rd k := rfl
@[simp] theorem updLg_get (d : Dev) (g : LoggiaSt → LoggiaSt) (x : Fld) : (d.updLg g).get x = d.get x := rfl
@[simp] theorem updLg_bit (d : Dev) (g : LoggiaSt → LoggiaSt) (x : Fld) : (d.updLg g).bit x = d.bit x := rfl

/-! ## Dev.updTime -/

@[simp] theorem updTime_time (d : Dev) (g : TimeSt → TimeSt) : (d.updTime g).time = g d.time := rfl
@[simp] theorem updTime_regs (d : Dev) (g : TimeSt → TimeSt) : (d.updTime g).regs = d.regs := rfl
@[simp] theorem updTime_mod (d : Dev) (g : TimeSt → TimeSt) : (d.updTime g).mod = d.mod := rfl
@[simp] theorem updTime_cor (d : Dev) (g : TimeSt → TimeSt) : (d.updTime g).cor = d.cor := rfl
@[simp] theorem updTime_nw (d : Dev) (g : TimeSt → TimeSt) : (d.updTime g).nw = d.nw := rfl
@[simp] theorem updTime_fa (d : Dev) (g : TimeSt → TimeSt) : (d.updTime g).fa = d.fa := rfl
@[simp] theorem updTime_fb (d : Dev) (g : TimeSt → TimeSt) : (d.updTime g).fb = d.fb := rfl
@[simp] theorem updTime_gl (d : Dev) (g : TimeSt → TimeSt) : (d.updTime g).gl = d.gl := rfl
@[simp] theorem updTime_lg (d : Dev) (g : TimeSt → TimeSt) : (d.updTime g).lg = d.lg := rfl
@[simp] theorem updTime_host (d : Dev) (g : TimeSt → TimeSt) : (d.updTime g).host = d.host := rfl
@[simp] theorem updTime_fmp (d : Dev) (g : TimeSt → TimeSt) : (d.updTime g).fmp = d.fmp := rfl
@[simp] theorem updTime_eth (d : Dev) (g : TimeSt → TimeSt) : (d.updTime g).eth = d.eth := rfl
@[simp] theorem updTime_arc (d : Dev) (g : TimeSt → TimeSt) : (d.updTime g).arc = d.arc := rfl
@[simp] theorem updTime_und (d : Dev) (g : TimeSt → TimeSt) : (d.updTime g).und = d.und := rfl
@[simp] theorem updTime_upd (d : Dev) (g : TimeSt → TimeSt) : (d.updTime g).upd = d.upd := rfl
@[simp] theorem updTime_jnl (d : Dev) (g : TimeSt → TimeSt) : (d.updTime g).jnl = d.jnl := rfl
@[simp] theorem updTime_fmem (d : Dev) (g : TimeSt → TimeSt) : (d.updTime g).fmem = d.fmem := rfl
@[simp] theorem updTime_rd (d : Dev) (g : TimeSt → TimeSt) (k : Nat) : (d.updTime g).rd k = d.rd k := rfl
@[simp] theorem updTime_get (d : Dev) (g : TimeSt → TimeSt) (x : Fld) : (d.updTime g).get x = d.get x := rfl
@[simp] theorem updTime_bit (d : Dev) (g : TimeSt → TimeSt) (x : Fld) : (d.updTime g).bit x = d.bit x := rfl

/-! ## Dev.updHost -/

@[simp] theorem updHost_host (d : Dev) (g : HostSt → HostSt) : (d.updHost g).host = g d.host := rfl
@[simp] theorem updHost_regs (d : Dev) (g : HostSt → HostSt) : (d.updHost g).regs = d.regs := rfl
@[simp] theorem updHost_mod (d : Dev) (g : HostSt → HostSt) : (d.updHost g).mod = d.mod := rfl
@[simp] theorem updHost_cor (d : Dev) (g : HostSt → HostSt) : (d.updHost g).cor = d.cor := rfl
@[simp] theorem updHost_nw (d : Dev) (g : HostSt → HostSt) : (d.updHost g).nw = d.nw := rfl
@[simp] theorem updHost_fa (d : Dev) (g : HostSt → HostSt) : (d.updHost g).fa = d.fa := rfl
@[simp] theorem updHost_fb (d : Dev) (g : HostSt → HostSt) : (d.updHost g).fb = d.fb := rfl
@[simp] theorem updHost_gl (d : Dev) (g : HostSt → HostSt) : (d.updHost g).gl = d.gl := rfl
@[simp] theorem updHost_lg (d : Dev) (g : HostSt → HostSt) : (d.updHost g).lg = d.lg := rfl
@[simp] theorem updHost_time (d : Dev) (g : HostSt → HostSt) : (d.updHost g).time = d.time := rfl
@[simp] theorem updHost_fmp (d : Dev) (g : HostSt → HostSt) : (d.updHost g).fmp = d.fmp := rfl
@[simp] theorem updHost_eth (d : Dev) (g : HostSt → HostSt) : (d.updHost g).eth = d.eth := rfl
@[simp] theorem updHost_arc (d : Dev) (g : HostSt → HostSt) : (d.updHost g).arc = d.arc := rfl
@[simp] theorem updHost_und (d : Dev) (g : HostSt → HostSt) : (d.updHost g).und = d.und := rfl
@[simp] theorem updHost_upd (d : Dev) (g : HostSt → HostSt) : (d.updHost g).upd = d.upd := rfl
@[simp] theorem updHost_jnl (d : Dev) (g : HostSt → HostSt) : (d.updHost g).jnl = d.jnl := rfl
@[simp] theorem updHost_fmem (d : Dev) (g : HostSt → HostSt) : (d.updHost g).fmem = d.fmem := rfl
@[simp] theorem updHost_rd (d : Dev) (g : HostSt → HostSt) (k : Nat) : (d.updHost g).rd k = d.rd k := rfl
@[simp] theorem updHost_get (d : Dev) (g : HostSt → HostSt) (x : Fld) : (d.updHost g).get x = d.get x := rfl
@[simp] theorem updHost_bit (d : Dev) (g : HostSt → HostSt) (x : Fld) : (d.updHost g).bit x = d.bit x := rfl

/-! ## Dev.updFmp -/

@[simp] theorem updFmp_fmp (d : Dev) (g : FmpSt → FmpSt) : (d.updFmp g).fmp = g d.fmp := rfl
@[simp] theorem updFmp_regs (d : Dev) (g : FmpSt → FmpSt) : (d.updFmp g).regs = d.regs := rfl
@[simp] theorem updFmp_mod (d : Dev) (g : FmpSt → FmpSt) : (d.updFmp g).mod = d.mod := rfl
@[simp] theorem updFmp_cor (d : Dev) (g : FmpSt → FmpSt) : (d.updFmp g).cor = d.cor := rfl
@[simp] theorem updFmp_nw (d : Dev) (g : FmpSt → FmpSt) : (d.updFmp g).nw = d.nw := rfl
@[simp] theorem updFmp_fa (d : Dev) (g : FmpSt → FmpSt) : (d.updFmp g).fa = d.fa := rfl
@[simp] theorem updFmp_fb (d : Dev) (g : FmpSt → FmpSt) : (d.updFmp g).fb = d.fb := rfl
@[simp] theorem updFmp_gl (d : Dev) (g : FmpSt → FmpSt) : (d.updFmp g).gl = d.gl := rfl
@[simp] theorem updFmp_lg (d : Dev) (g : FmpSt → FmpSt) : (d.updFmp g).lg = d.lg := rfl
@[simp] theorem updFmp_time (d : Dev) (g : FmpSt → FmpSt) : (d.updFmp g).time = d.time := rfl
@[simp] theorem updFmp_host (d : Dev) (g : FmpSt → FmpSt) : (d.updFmp g).host = d.host := rfl
@[simp] theorem updFmp_eth (d : Dev) (g : FmpSt → FmpSt) : (d.updFmp g).eth = d.eth := rfl
@[simp] theorem updFmp_arc (d : Dev) (g : FmpSt → FmpSt) : (d.updFmp g).arc = d.arc := rfl
@[simp] theorem updFmp_und (d : Dev) (g : FmpSt → FmpSt) : (d.updFmp g).und = d.und := rfl
@[simp] theorem updFmp_upd (d : Dev) (g : FmpSt → FmpSt) : (d.updFmp g).upd = d.upd := rfl
@[simp] theorem updFmp_jnl (d : Dev) (g : FmpSt → FmpSt) : (d.updFmp g).jnl = d.jnl := rfl
@[simp] theorem updFmp_fmem (d : Dev) (g : FmpSt → FmpSt) : (d.updFmp g).fmem = d.fmem := rfl
@[simp] theorem updFmp_rd (d : Dev) (g : FmpSt → FmpSt) (k : Nat) : (d.updFmp g).rd k = d.rd k := rfl
@[simp] theorem updFmp_get (d : Dev) (g : FmpSt → FmpSt) (x : Fld) : (d.updFmp g).get x = d.get x := rfl
@[simp] theorem updFmp_bit (d : Dev) (g : FmpSt → FmpSt) (x : Fld) : (d.updFmp g).bit x = d.bit x := rfl

/-! ## Dev.updEth -/

@[simp] theorem updEth_eth (d : Dev) (g : EthSt → EthSt) : (d.updEth g).eth = g d.eth := rfl
@[simp] theorem updEth_regs (d : Dev) (g : EthSt → EthSt) : (d.updEth g).regs = d.regs := rfl
@[simp] theorem updEth_mod (d : Dev) (g : EthSt → EthSt) : (d.updEth g).mod = d.mod := rfl
@[simp] theorem updEth_cor (d : Dev) (g : EthSt → EthSt) : (d.updEth g).cor = d.cor := rfl
@[simp] theorem updEth_nw (d : Dev) (g : EthSt → EthSt) : (d.updEth g).nw = d.nw := rfl
@[simp] theorem updEth_fa (d : Dev) (g : EthSt → EthSt) : (d.updEth g).fa = d.fa := rfl
@[simp] theorem updEth_fb (d : Dev) (g : EthSt → EthSt) : (d.updEth g).fb = d.fb := rfl
@[simp] theorem updEth_gl (d : Dev) (g : EthSt → EthSt) : (d.updEth g).gl = d.gl := rfl
@[simp] theorem updEth_lg (d : Dev) (g : EthSt → EthSt) : (d.updEth g).lg = d.lg := rfl
@[simp] theorem updEth_time (d : Dev) (g : EthSt → EthSt) : (d.updEth g).time = d.time := rfl
@[simp] theorem updEth_host (d : Dev) (g : EthSt → EthSt) : (d.updEth g).host = d.host := rfl
@[simp] theorem updEth_fmp (d : Dev) (g : EthSt → EthSt) : (d.updEth g).fmp = d.fmp := rfl
@[simp] theorem updEth_arc (d : Dev) (g : EthSt → EthSt) : (d.updEth g).arc = d.arc := rfl
@[simp] theorem updEth_und (d : Dev) (g : EthSt → EthSt) : (d.updEth g).und = d.und := rfl
@[simp] theorem updEth_upd (d : Dev) (g : EthSt → EthSt) : (d.updEth g).upd = d.upd := rfl
@[simp] theorem updEth_jnl (d : Dev) (g : EthSt → EthSt) : (d.updEth g).jnl = d.jnl := rfl
@[simp] theorem updEth_fmem (d : Dev) (g : EthSt → EthSt) : (d.updEth g).fmem = d.fmem := rfl
@[simp] theorem updEth_rd (d : Dev) (g : EthSt → EthSt) (k : Nat) : (d.updEth g).rd k = d.rd k := rfl
@[simp] theorem updEth_get (d : Dev) (g : EthSt → EthSt) (x : Fld) : (d.updEth g).get x = d.get x := rfl
@[simp] theorem updEth_bit (d : Dev) (g : EthSt → EthSt) (x : Fld) : (d.updEth g).bit x = d.bit x := rfl

/-! ## Dev.updArc -/

@[simp] theorem updArc_arc (d : Dev) (g : ArcSt → ArcSt) : (d.updArc g).arc = g d.arc := rfl
@[simp] theorem updArc_regs (d : Dev) (g : ArcSt → ArcSt) : (d.updArc g).regs = d.regs := rfl
@[simp] theorem updArc_mod (d : Dev) (g : ArcSt → ArcSt) : (d.updArc g).mod = d.mod := rfl
@[simp] theorem updArc_cor (d : Dev) (g : ArcSt → ArcSt) : (d.updArc g).cor = d.cor := rfl
@[simp] theorem updArc_nw (d : Dev) (g : ArcSt → ArcSt) : (d.updArc g).nw = d.nw := rfl
@[simp] theorem updArc_fa (d : Dev) (g : ArcSt → ArcSt) : (d.updArc g).fa = d.fa := rfl
@[simp] theorem updArc_fb (d : Dev) (g : ArcSt → ArcSt) : (d.updArc g).fb = d.fb := rfl
@[simp] theorem updArc_gl (d : Dev) (g : ArcSt → ArcSt) : (d.updArc g).gl = d.gl := rfl
@[simp] theorem updArc_lg (d : Dev) (g : ArcSt → ArcSt) : (d.updArc g).lg = d.lg := rfl
@[simp] theorem updArc_time (d : Dev) (g : ArcSt → ArcSt) : (d.updArc g).time = d.time := rfl
@[simp] theorem updArc_host (d : Dev) (g : ArcSt → ArcSt) : (d.updArc g).host = d.host := rfl
@[simp] theorem updArc_fmp (d : Dev) (g : ArcSt → ArcSt) : (d.updArc g).fmp = d.fmp := rfl
@[simp] theorem updArc_eth (d : Dev) (g : ArcSt → ArcSt) : (d.updArc g).eth = d.eth := rfl
@[simp] theorem updArc_und (d : Dev) (g : ArcSt → ArcSt) : (d.updArc g).und = d.und := rfl
@[simp] theorem updArc_upd (d : Dev) (g : ArcSt → ArcSt) : (d.updArc g).upd = d.upd := rfl
@[simp] theorem updArc_jnl (d : Dev) (g : ArcSt → ArcSt) : (d.updArc g).jnl = d.jnl := rfl
@[simp] theorem updArc_fmem (d : Dev) (g : ArcSt → ArcSt) : (d.updArc g).fmem = d.fmem := rfl
@[simp] theorem updArc_rd (d : Dev) (g : ArcSt → ArcSt) (k : Nat) : (d.updArc g).rd k = d.rd k := rfl
@[simp] theorem updArc_get (d : Dev) (g : ArcSt → ArcSt) (x : Fld) : (d.updArc g).get x = d.get x := rfl
@[simp] theorem updArc_bit (d : Dev) (g : ArcSt → ArcSt) (x : Fld) : (d.updArc g).bit x = d.bit x := rfl

/-! ## Dev.updUnd -/

@[simp] theorem updUnd_und (d : Dev) (g : UnderSt → UnderSt) : (d.updUnd g).und = g d.und := rfl
@[simp] theorem updUnd_regs (d : Dev) (g : UnderSt → UnderSt) : (d.updUnd g).regs = d.regs := rfl
@[simp] theorem updUnd_mod (d : Dev) (g : UnderSt → UnderSt) : (d.updUnd g).mod = d.mod := rfl
@[simp] theorem updUnd_cor (d : Dev) (g : UnderSt → UnderSt) : (d.updUnd g).cor = d.cor := rfl
@[simp] theorem updUnd_nw (d : Dev) (g : UnderSt → UnderSt) : (d.updUnd g).nw = d.nw := rfl
@[simp] theorem updUnd_fa (d : Dev) (g : UnderSt → UnderSt) : (d.updUnd g).fa = d.fa := rfl
@[simp] theorem updUnd_fb (d : Dev) (g : UnderSt → UnderSt) : (d.updUnd g).fb = d.fb := rfl
@[simp] theorem updUnd_gl (d : Dev) (g : UnderSt → UnderSt) : (d.updUnd g).gl = d.gl := rfl
@[simp] theorem updUnd_lg (d : Dev) (g : UnderSt → UnderSt) : (d.updUnd g).lg = d.lg := rfl
@[simp] theorem updUnd_time (d : Dev) (g : UnderSt → UnderSt) : (d.updUnd g).time = d.time := rfl
@[simp] theorem updUnd_host (d : Dev) (g : UnderSt → UnderSt) : (d.updUnd g).host = d.host := rfl
@[simp] theorem updUnd_fmp (d : Dev) (g : UnderSt → UnderSt) : (d.updUnd g).fmp = d.fmp := rfl
@[simp] theorem updUnd_eth (d : Dev) (g : UnderSt → UnderSt) : (d.updUnd g).eth = d.eth := rfl
@[simp] theorem updUnd_arc (d : Dev) (g : UnderSt → UnderSt) : (d.updUnd g).arc = d.arc := rfl
@[simp] theorem updUnd_upd (d : Dev) (g : UnderSt → UnderSt) : (d.updUnd g).upd = d.upd := rfl
@[simp] theorem updUnd_jnl (d : Dev) (g : UnderSt → UnderSt) : (d.updUnd g).jnl = d.jnl := rfl
@[simp] theorem updUnd_fmem (d : Dev) (g : UnderSt → UnderSt) : (d.updUnd g).fmem = d.fmem := rfl
@[simp] theorem updUnd_rd (d : Dev) (g : UnderSt → UnderSt) (k : Nat) : (d.updUnd g).rd k = d.rd k := rfl
@[simp] theorem updUnd_get (d : Dev) (g : UnderSt → UnderSt) (x : Fld) : (d.updUnd g).get x = d.get x := rfl
@[simp] theorem updUnd_bit (d : Dev) (g : UnderSt → UnderSt) (x : Fld) : (d.updUnd g).bit x = d.bit x := rfl

/-! ## Dev.updUpd -/

@[simp] theorem updUpd_upd (d : Dev) (g : UpdSt → UpdSt) : (d.updUpd g).upd = g d.upd := rfl
@[simp] theorem updUpd_regs (d : Dev) (g : UpdSt → UpdSt) : (d.updUpd g).regs = d.regs := rfl
@[simp] theorem updUpd_mod (d : Dev) (g : UpdSt → UpdSt) : (d.updUpd g).mod = d.mod := rfl
@[simp] theorem updUpd_cor (d : Dev) (g : UpdSt → UpdSt) : (d.updUpd g).cor = d.cor := rfl
@[simp] theorem updUpd_nw (d : Dev) (g : UpdSt → UpdSt) : (d.updUpd g).nw = d.nw := rfl
@[simp] theorem updUpd_fa (d : Dev) (g : UpdSt → UpdSt) : (d.updUpd g).fa = d.fa := rfl
@[simp] theorem updUpd_fb (d : Dev) (g : UpdSt → UpdSt) : (d.updUpd g).fb = d.fb := rfl
@[simp] theorem updUpd_gl (d : Dev) (g : UpdSt → UpdSt) : (d.updUpd g).gl = d.gl := rfl
@[simp] theorem updUpd_lg (d : Dev) (g : UpdSt → UpdSt) : (d.updUpd g).lg = d.lg := rfl
@[simp] theorem updUpd_time (d : Dev) (g : UpdSt → UpdSt) : (d.updUpd g).time = d.time := rfl
@[simp] theorem updUpd_host (d : Dev) (g : UpdSt → UpdSt) : (d.updUpd g).host = d.host := rfl
@[simp] theorem updUpd_fmp (d : Dev) (g : UpdSt → UpdSt) : (d.updUpd g).fmp = d.fmp := rfl
@[simp] theorem updUpd_eth (d : Dev) (g : UpdSt → UpdSt) : (d.updUpd g).eth = d.eth := rfl
@[simp] theorem updUpd_arc (d : Dev) (g : UpdSt → UpdSt) : (d.updUpd g).arc = d.arc := rfl
@[simp] theorem updUpd_und (d : Dev) (g : UpdSt → UpdSt) : (d.updUpd g).und = d.und := rfl
@[simp] theorem updUpd_jnl (d : Dev) (g : UpdSt → UpdSt) : (d.updUpd g).jnl = d.jnl := rfl
@[simp] theorem updUpd_fmem (d : Dev) (g : UpdSt → UpdSt) : (d.updUpd g).fmem = d.fmem := rfl
@[simp] theorem updUpd_rd (d : Dev) (g : UpdSt → UpdSt) (k : Nat) : (d.updUpd g).rd k = d.rd k := rfl
@[simp] theorem updUpd_get (d : Dev) (g : UpdSt → UpdSt) (x : Fld) : (d.updUpd g).get x = d.get x := rfl
@[simp] theorem updUpd_bit (d : Dev) (g : UpdSt → UpdSt) (x : Fld) : (d.updUpd g).bit x = d.bit x := rfl

/-! ## Dev.updJnl -/

@[simp] theorem updJnl_jnl (d : Dev) (g : JournalSt → JournalSt) : (d.updJnl g).jnl = g d.jnl := rfl
@[simp] theorem updJnl_regs (d : Dev) (g : JournalSt → JournalSt) : (d.updJnl g).regs = d.regs := rfl
@[simp] theorem updJnl_mod (d : Dev) (g : JournalSt → JournalSt) : (d.updJnl g).mod = d.mod := rfl
@[simp] theorem updJnl_cor (d : Dev) (g : JournalSt → JournalSt) : (d.updJnl g).cor = d.cor := rfl
@[simp] theorem updJnl_nw (d : Dev) (g : JournalSt → JournalSt) : (d.updJnl g).nw = d.nw := rfl
@[simp] theorem updJnl_fa (d : Dev) (g : JournalSt → JournalSt) : (d.updJnl g).fa = d.fa := rfl
@[simp] theorem updJnl_fb (d : Dev) (g : JournalSt → JournalSt) : (d.updJnl g).fb = d.fb := rfl
@[simp] theorem updJnl_gl (d : Dev) (g : JournalSt → JournalSt) : (d.updJnl g).gl = d.gl := rfl
@[simp] theorem updJnl_lg (d : Dev) (g : JournalSt → JournalSt) : (d.updJnl g).lg = d.lg := rfl
@[simp] theorem updJnl_time (d : Dev) (g : JournalSt → JournalSt) : (d.updJnl g).time = d.time := rfl
@[simp] theorem updJnl_host (d : Dev) (g : JournalSt → JournalSt) : (d.updJnl g).host = d.host := rfl
@[simp] theorem updJnl_fmp (d : Dev) (g : JournalSt → JournalSt) : (d.updJnl g).fmp = d.fmp := rfl
@[simp] theorem updJnl_eth (d : Dev) (g : JournalSt → JournalSt) : (d.updJnl g).eth = d.eth := rfl
@[simp] theorem updJnl_arc (d : Dev) (g : JournalSt → JournalSt) : (d.updJnl g).arc = d.arc := rfl
@[simp] theorem updJnl_und (d : Dev) (g : JournalSt → JournalSt) : (d.updJnl g).und = d.und := rfl
@[simp] theorem updJnl_upd (d : Dev) (g : JournalSt → JournalSt) : (d.updJnl g).upd = d.upd := rfl
@[simp] theorem updJnl_fmem (d : Dev) (g : JournalSt → JournalSt) : (d.updJnl g).fmem = d.fmem := rfl
@[simp] theorem updJnl_rd (d : Dev) (g : JournalSt → JournalSt) (k : Nat) : (d.updJnl g).rd k = d.rd k := rfl
@[simp] theorem updJnl_get (d : Dev) (g : JournalSt → JournalSt) (x : Fld) : (d.updJnl g).get x = d.get x := rfl
@[simp] theorem updJnl_bit (d : Dev) (g : JournalSt → JournalSt) (x : Fld) : (d.updJnl g).bit x = d.bit x := rfl

/-! ## Dev.updFl -/

@[simp] theorem updFl_regs (d : Dev) (f : Flt) (g : FlightSt → FlightSt) : (d.updFl f g).regs = d.regs := by cases f <;> rfl
@[simp] theorem updFl_mod (d : Dev) (f : Flt) (g : FlightSt → FlightSt) : (d.updFl f g).mod = d.mod := by cases f <;> rfl
@[simp] theorem updFl_cor (d : Dev) (f : Flt) (g : FlightSt → FlightSt) : (d.updFl f g).cor = d.cor := by cases f <;> rfl
@[simp] theorem updFl_nw (d : Dev) (f : Flt) (g : FlightSt → FlightSt) : (d.updFl f g).nw = d.nw := by cases f <;> rfl
@[simp] theorem updFl_gl (d : Dev) (f : Flt) (g : FlightSt → FlightSt) : (d.updFl f g).gl = d.gl := by cases f <;> rfl
@[simp] theorem updFl_lg (d : Dev) (f : Flt) (g : FlightSt → FlightSt) : (d.updFl f g).lg = d.lg := by cases f <;> rfl
@[simp] theorem updFl_time (d : Dev) (f : Flt) (g : FlightSt → FlightSt) : (d.updFl f g).time = d.time := by cases f <;> rfl
@[simp] theorem updFl_host (d : Dev) (f : Flt) (g : FlightSt → FlightSt) : (d.updFl f g).host = d.host := by cases f <;> rfl
@[simp] theorem updFl_fmp (d : Dev) (f : Flt) (g : FlightSt → FlightSt) : (d.updFl f g).fmp = d.fmp := by cases f <;> rfl
@[simp] theorem updFl_eth (d : Dev) (f : Flt) (g : FlightSt → FlightSt) : (d.updFl f g).eth = d.eth := by cases f <;> rfl
@[simp] theorem updFl_arc (d : Dev) (f : Flt) (g : FlightSt → FlightSt) : (d.updFl f g).arc = d.arc := by cases f <;> rfl
@[simp] theorem updFl_und (d : Dev) (f : Flt) (g : FlightSt → FlightSt) : (d.updFl f g).und = d.und := by cases f <;> rfl
@[simp] theorem updFl_upd (d : Dev) (f : Flt) (g : FlightSt → FlightSt) : (d.updFl f g).upd = d.upd := by cases f <;> rfl
@[simp] theorem updFl_jnl (d : Dev) (f : Flt) (g : FlightSt → FlightSt) : (d.updFl f g).jnl = d.jnl := by cases f <;> rfl
@[simp] theorem updFl_fmem (d : Dev) (f : Flt) (g : FlightSt → FlightSt) : (d.updFl f g).fmem = d.fmem := by cases f <;> rfl
@[simp] theorem updFl_rd (d : Dev) (f : Flt) (g : FlightSt → FlightSt) (k : Nat) : (d.updFl f g).rd k = d.rd k := by cases f <;> rfl
@[simp] theorem updFl_get (d : Dev) (f : Flt) (g : FlightSt → FlightSt) (x : Fld) : (d.updFl f g).get x = d.get x := by cases f <;> rfl
@[simp] theorem updFl_bit (d : Dev) (f : Flt) (g : FlightSt → FlightSt) (x : Fld) : (d.updFl f g).bit x = d.bit x := by cases f <;> rfl
@[simp] theorem updFl_fl (d : Dev) (f : Flt) (g : FlightSt → FlightSt) : (d.updFl f g).fl f = g (d.fl f) := by cases f <;> rfl
@[simp] theorem updFl_fl_other (d : Dev) (f : Flt) (g : FlightSt → FlightSt) : (d.updFl f g).fl f.other = d.fl f.other := by cases f <;> rfl
@[simp] theorem updFl_a (d : Dev) (g : FlightSt → FlightSt) : (d.updFl .a g).fb = d.fb := rfl
@[simp] theorem updFl_b (d : Dev) (g : FlightSt → FlightSt) : (d.updFl .b g).fa = d.fa := rfl

/-- What a command that only changes the module answers. -/
theorem upd_next (s : State) (g : Dev → Dev) : s.upd g = .next { s with dev := g s.dev } := rfl

end Sys2Proof.Machine
end

