-- ==== Sys2Proof/Laws/Events.lean ====
section
/-! SUPPORT. What raising an event and sending over the Corridor change, and that they change nothing else. -/

namespace Sys2Proof.Machine

/-! ## Field-to-host messages and events of the field side -/

@[simp] theorem putUp_regs (d : Dev) (m : UpMsg) : (d.putUp m).regs = d.regs := rfl
@[simp] theorem putUp_mod (d : Dev) (m : UpMsg) : (d.putUp m).mod = d.mod := rfl
@[simp] theorem putUp_fa (d : Dev) (m : UpMsg) : (d.putUp m).fa = d.fa := rfl
@[simp] theorem putUp_fb (d : Dev) (m : UpMsg) : (d.putUp m).fb = d.fb := rfl
@[simp] theorem putUp_gl (d : Dev) (m : UpMsg) : (d.putUp m).gl = d.gl := rfl
@[simp] theorem putUp_lg (d : Dev) (m : UpMsg) : (d.putUp m).lg = d.lg := rfl
@[simp] theorem putUp_time (d : Dev) (m : UpMsg) : (d.putUp m).time = d.time := rfl
@[simp] theorem putUp_host (d : Dev) (m : UpMsg) : (d.putUp m).host = d.host := rfl
@[simp] theorem putUp_fmp (d : Dev) (m : UpMsg) : (d.putUp m).fmp = d.fmp := rfl
@[simp] theorem putUp_eth (d : Dev) (m : UpMsg) : (d.putUp m).eth = d.eth := rfl
@[simp] theorem putUp_arc (d : Dev) (m : UpMsg) : (d.putUp m).arc = d.arc := rfl
@[simp] theorem putUp_und (d : Dev) (m : UpMsg) : (d.putUp m).und = d.und := rfl
@[simp] theorem putUp_upd (d : Dev) (m : UpMsg) : (d.putUp m).upd = d.upd := rfl
@[simp] theorem putUp_jnl (d : Dev) (m : UpMsg) : (d.putUp m).jnl = d.jnl := rfl
@[simp] theorem putUp_fmem (d : Dev) (m : UpMsg) : (d.putUp m).fmem = d.fmem := rfl
@[simp] theorem putUp_nw (d : Dev) (m : UpMsg) : (d.putUp m).nw = d.nw := rfl

/-- Everything a field-to-host send can do: the lane takes the message, or while the Corridor is lost the Newel keeps it,
counts it or drops it (01 R34, R42). -/
theorem sendUp_cases (d : Dev) (m : UpMsg) :
    (d.cor.fieldUp = true ∧ d.sendUp m = d.putUp m) ∨
    (d.cor.fieldUp = false ∧ ∃ k c r, d.sendUp m = d.updNw fun n => { n with kept := k, keptCounts := c, keptMirror := r }) := by
  unfold Dev.sendUp
  cases h : d.cor.fieldUp with
  | true => exact .inl ⟨rfl, by simp⟩
  | false =>
    refine .inr ⟨rfl, ?_⟩
    simp only [Bool.false_eq_true, if_false]
    split
    · split
      · exact ⟨_, d.nw.keptCounts, d.nw.keptMirror, rfl⟩
      · exact ⟨d.nw.kept, _, d.nw.keptMirror, rfl⟩
    · split
      · exact ⟨d.nw.kept, d.nw.keptCounts, _, rfl⟩
      · exact ⟨d.nw.kept, d.nw.keptCounts, d.nw.keptMirror, rfl⟩

@[simp] theorem sendUp_regs (d : Dev) (m : UpMsg) : (d.sendUp m).regs = d.regs := by
  rcases sendUp_cases d m with ⟨_, h⟩ | ⟨_, _, _, _, h⟩ <;> rw [h] <;> rfl
@[simp] theorem raiseNw_regs (d : Dev) (e : Ev) : (d.raiseNw e).regs = d.regs := sendUp_regs d _
@[simp] theorem sendUp_mod (d : Dev) (m : UpMsg) : (d.sendUp m).mod = d.mod := by
  rcases sendUp_cases d m with ⟨_, h⟩ | ⟨_, _, _, _, h⟩ <;> rw [h] <;> rfl
@[simp] theorem raiseNw_mod (d : Dev) (e : Ev) : (d.raiseNw e).mod = d.mod := sendUp_mod d _
@[simp] theorem sendUp_fa (d : Dev) (m : UpMsg) : (d.sendUp m).fa = d.fa := by
  rcases sendUp_cases d m with ⟨_, h⟩ | ⟨_, _, _, _, h⟩ <;> rw [h] <;> rfl
@[simp] theorem raiseNw_fa (d : Dev) (e : Ev) : (d.raiseNw e).fa = d.fa := sendUp_fa d _
@[simp] theorem sendUp_fb (d : Dev) (m : UpMsg) : (d.sendUp m).fb = d.fb := by
  rcases sendUp_cases d m with ⟨_, h⟩ | ⟨_, _, _, _, h⟩ <;> rw [h] <;> rfl
@[simp] theorem raiseNw_fb (d : Dev) (e : Ev) : (d.raiseNw e).fb = d.fb := sendUp_fb d _
@[simp] theorem sendUp_gl (d : Dev) (m : UpMsg) : (d.sendUp m).gl = d.gl := by
  rcases sendUp_cases d m with ⟨_, h⟩ | ⟨_, _, _, _, h⟩ <;> rw [h] <;> rfl
@[simp] theorem raiseNw_gl (d : Dev) (e : Ev) : (d.raiseNw e).gl = d.gl := sendUp_gl d _
@[simp] theorem sendUp_lg (d : Dev) (m : UpMsg) : (d.sendUp m).lg = d.lg := by
  rcases sendUp_cases d m with ⟨_, h⟩ | ⟨_, _, _, _, h⟩ <;> rw [h] <;> rfl
@[simp] theorem raiseNw_lg (d : Dev) (e : Ev) : (d.raiseNw e).lg = d.lg := sendUp_lg d _
@[simp] theorem sendUp_time (d : Dev) (m : UpMsg) : (d.sendUp m).time = d.time := by
  rcases sendUp_cases d m with ⟨_, h⟩ | ⟨_, _, _, _, h⟩ <;> rw [h] <;> rfl
@[simp] theorem raiseNw_time (d : Dev) (e : Ev) : (d.raiseNw e).time = d.time := sendUp_time d _
@[simp] theorem sendUp_host (d : Dev) (m : UpMsg) : (d.sendUp m).host = d.host := by
  rcases sendUp_cases d m with ⟨_, h⟩ | ⟨_, _, _, _, h⟩ <;> rw [h] <;> rfl
@[simp] theorem raiseNw_host (d : Dev) (e : Ev) : (d.raiseNw e).host = d.host := sendUp_host d _
@[simp] theorem sendUp_fmp (d : Dev) (m : UpMsg) : (d.sendUp m).fmp = d.fmp := by
  rcases sendUp_cases d m with ⟨_, h⟩ | ⟨_, _, _, _, h⟩ <;> rw [h] <;> rfl
@[simp] theorem raiseNw_fmp (d : Dev) (e : Ev) : (d.raiseNw e).fmp = d.fmp := sendUp_fmp d _
@[simp] theorem sendUp_eth (d : Dev) (m : UpMsg) : (d.sendUp m).eth = d.eth := by
  rcases sendUp_cases d m with ⟨_, h⟩ | ⟨_, _, _, _, h⟩ <;> rw [h] <;> rfl
@[simp] theorem raiseNw_eth (d : Dev) (e : Ev) : (d.raiseNw e).eth = d.eth := sendUp_eth d _
@[simp] theorem sendUp_arc (d : Dev) (m : UpMsg) : (d.sendUp m).arc = d.arc := by
  rcases sendUp_cases d m with ⟨_, h⟩ | ⟨_, _, _, _, h⟩ <;> rw [h] <;> rfl
@[simp] theorem raiseNw_arc (d : Dev) (e : Ev) : (d.raiseNw e).arc = d.arc := sendUp_arc d _
@[simp] theorem sendUp_und (d : Dev) (m : UpMsg) : (d.sendUp m).und = d.und := by
  rcases sendUp_cases d m with ⟨_, h⟩ | ⟨_, _, _, _, h⟩ <;> rw [h] <;> rfl
@[simp] theorem raiseNw_und (d : Dev) (e : Ev) : (d.raiseNw e).und = d.und := sendUp_und d _
@[simp] theorem sendUp_upd (d : Dev) (m : UpMsg) : (d.sendUp m).upd = d.upd := by
  rcases sendUp_cases d m with ⟨_, h⟩ | ⟨_, _, _, _, h⟩ <;> rw [h] <;> rfl
@[simp] theorem raiseNw_upd (d : Dev) (e : Ev) : (d.raiseNw e).upd = d.upd := sendUp_upd d _
@[simp] theorem sendUp_jnl (d : Dev) (m : UpMsg) : (d.sendUp m).jnl = d.jnl := by
  rcases sendUp_cases d m with ⟨_, h⟩ | ⟨_, _, _, _, h⟩ <;> rw [h] <;> rfl
@[simp] theorem raiseNw_jnl (d : Dev) (e : Ev) : (d.raiseNw e).jnl = d.jnl := sendUp_jnl d _
@[simp] theorem sendUp_fmem (d : Dev) (m : UpMsg) : (d.sendUp m).fmem = d.fmem := by
  rcases sendUp_cases d m with ⟨_, h⟩ | ⟨_, _, _, _, h⟩ <;> rw [h] <;> rfl
@[simp] theorem raiseNw_fmem (d : Dev) (e : Ev) : (d.raiseNw e).fmem = d.fmem := sendUp_fmem d _
@[simp] theorem sendUp_rd (d : Dev) (m : UpMsg) (k : Nat) : (d.sendUp m).rd k = d.rd k := by
  rcases sendUp_cases d m with ⟨_, h⟩ | ⟨_, _, _, _, h⟩ <;> rw [h] <;> rfl
@[simp] theorem raiseNw_rd (d : Dev) (e : Ev) (k : Nat) : (d.raiseNw e).rd k = d.rd k := sendUp_rd d _ _
@[simp] theorem sendUp_get (d : Dev) (m : UpMsg) (x : Fld) : (d.sendUp m).get x = d.get x := by
  rcases sendUp_cases d m with ⟨_, h⟩ | ⟨_, _, _, _, h⟩ <;> rw [h] <;> rfl
@[simp] theorem raiseNw_get (d : Dev) (e : Ev) (x : Fld) : (d.raiseNw e).get x = d.get x := sendUp_get d _ _
@[simp] theorem sendUp_bit (d : Dev) (m : UpMsg) (x : Fld) : (d.sendUp m).bit x = d.bit x := by
  rcases sendUp_cases d m with ⟨_, h⟩ | ⟨_, _, _, _, h⟩ <;> rw [h] <;> rfl
@[simp] theorem raiseNw_bit (d : Dev) (e : Ev) (x : Fld) : (d.raiseNw e).bit x = d.bit x := sendUp_bit d _ _

@[simp] theorem sendUp_fl (d : Dev) (m : UpMsg) (f : Flt) : (d.sendUp m).fl f = d.fl f := by cases f <;> simp [Dev.fl]
@[simp] theorem raiseNw_fl (d : Dev) (e : Ev) (f : Flt) : (d.raiseNw e).fl f = d.fl f := sendUp_fl d _ f
@[simp] theorem put_fl (d : Dev) (x : Fld) (v : Nat) (f : Flt) : (d.put x v).fl f = d.fl f := by cases f <;> rfl
@[simp] theorem inc_fl (d : Dev) (x : Fld) (v : Nat) (f : Flt) : (d.inc x v).fl f = d.fl f := by cases f <;> rfl

/-- While the Corridor is up an event of the field side takes its class's place on the lane (01 R34, R37; 19 R517). -/
theorem raiseNw_up (d : Dev) (e : Ev) (h : d.cor.fieldUp = true) : d.raiseNw e = d.putUp (evMsg e) := by
  simp [Dev.raiseNw, Dev.sendUp, h]

/-! ## Events of a flight -/

@[simp] theorem raiseFl_get (d : Dev) (f : Flt) (i : EvId) (p : List Int) (s : Option Nat) (x : Fld) :
    (d.raiseFl f i p s).get x = d.get x := updFl_get d f _ x
@[simp] theorem raiseFl_bit (d : Dev) (f : Flt) (i : EvId) (p : List Int) (s : Option Nat) (x : Fld) :
    (d.raiseFl f i p s).bit x = d.bit x := updFl_bit d f _ x
@[simp] theorem raiseFl_regs (d : Dev) (f : Flt) (i : EvId) (p : List Int) (s : Option Nat) :
    (d.raiseFl f i p s).regs = d.regs := updFl_regs d f _
/-- A flight's event waits for the commit set of its scan (04 R92). -/
@[simp] theorem raiseFl_msgs (d : Dev) (f : Flt) (i : EvId) (p : List Int) (s : Option Nat) :
    ((d.raiseFl f i p s).fl f).msgs = (d.fl f).msgs ++ [evMsg ⟨i, f.region, s, p⟩] := by
  simp [Dev.raiseFl]

/-! ## Events of the Foyer -/

/-- The registers that an event of the Foyer may write: pending sources, the landing's count and the suppressed counts. -/
def evReg (k : Nat) : Bool :=
  (decide (FY_EVPEND ≤ k) && decide (k < FY_EVPEND + 16)) || k == FY_ARCSTAT ||
    (decide (FY_ARCSUPP ≤ k) && decide (k < FY_ARCSUPP + 32))

@[simp] theorem pend_mod (d : Dev) (l : List Nat) : (d.pend l).mod = d.mod := by
  induction l generalizing d with
  | nil => rfl
  | cons n t ih => simpa [Dev.pend] using ih (d.put _ 1)
@[simp] theorem pend_cor (d : Dev) (l : List Nat) : (d.pend l).cor = d.cor := by
  induction l generalizing d with
  | nil => rfl
  | cons n t ih => simpa [Dev.pend] using ih (d.put _ 1)
@[simp] theorem pend_nw (d : Dev) (l : List Nat) : (d.pend l).nw = d.nw := by
  induction l generalizing d with
  | nil => rfl
  | cons n t ih => simpa [Dev.pend] using ih (d.put _ 1)
@[simp] theorem pend_fa (d : Dev) (l : List Nat) : (d.pend l).fa = d.fa := by
  induction l generalizing d with
  | nil => rfl
  | cons n t ih => simpa [Dev.pend] using ih (d.put _ 1)
@[simp] theorem pend_fb (d : Dev) (l : List Nat) : (d.pend l).fb = d.fb := by
  induction l generalizing d with
  | nil => rfl
  | cons n t ih => simpa [Dev.pend] using ih (d.put _ 1)
@[simp] theorem pend_gl (d : Dev) (l : List Nat) : (d.pend l).gl = d.gl := by
  induction l generalizing d with
  | nil => rfl
  | cons n t ih => simpa [Dev.pend] using ih (d.put _ 1)
@[simp] theorem pend_lg (d : Dev) (l : List Nat) : (d.pend l).lg = d.lg := by
  induction l generalizing d with
  | nil => rfl
  | cons n t ih => simpa [Dev.pend] using ih (d.put _ 1)
@[simp] theorem pend_time (d : Dev) (l : List Nat) : (d.pend l).time = d.time := by
  induction l generalizing d with
  | nil => rfl
  | cons n t ih => simpa [Dev.pend] using ih (d.put _ 1)
@[simp] theorem pend_host (d : Dev) (l : List Nat) : (d.pend l).host = d.host := by
  induction l generalizing d with
  | nil => rfl
  | cons n t ih => simpa [Dev.pend] using ih (d.put _ 1)
@[simp] theorem pend_fmp (d : Dev) (l : List Nat) : (d.pend l).fmp = d.fmp := by
  induction l generalizing d with
  | nil => rfl
  | cons n t ih => simpa [Dev.pend] using ih (d.put _ 1)
@[simp] theorem pend_eth (d : Dev) (l : List Nat) : (d.pend l).eth = d.eth := by
  induction l generalizing d with
  | nil => rfl
  | cons n t ih => simpa [Dev.pend] using ih (d.put _ 1)
@[simp] theorem pend_arc (d : Dev) (l : List Nat) : (d.pend l).arc = d.arc := by
  induction l generalizing d with
  | nil => rfl
  | cons n t ih => simpa [Dev.pend] using ih (d.put _ 1)
@[simp] theorem pend_und (d : Dev) (l : List Nat) : (d.pend l).und = d.und := by
  induction l generalizing d with
  | nil => rfl
  | cons n t ih => simpa [Dev.pend] using ih (d.put _ 1)
@[simp] theorem pend_upd (d : Dev) (l : List Nat) : (d.pend l).upd = d.upd := by
  induction l generalizing d with
  | nil => rfl
  | cons n t ih => simpa [Dev.pend] using ih (d.put _ 1)
@[simp] theorem pend_jnl (d : Dev) (l : List Nat) : (d.pend l).jnl = d.jnl := by
  induction l generalizing d with
  | nil => rfl
  | cons n t ih => simpa [Dev.pend] using ih (d.put _ 1)
@[simp] theorem pend_fmem (d : Dev) (l : List Nat) : (d.pend l).fmem = d.fmem := by
  induction l generalizing d with
  | nil => rfl
  | cons n t ih => simpa [Dev.pend] using ih (d.put _ 1)

theorem pend_rd (d : Dev) (l : List Nat) (hl : ∀ n ∈ l, n < 128) {k : Nat} (hk : evReg k = false) : (d.pend l).rd k = d.rd k := by
  induction l generalizing d with
  | nil => rfl
  | cons n t ih =>
    have hn : n < 128 := hl n (by simp)
    have hne : k ≠ FY_EVPEND + 4 * (n / 32) := by
      intro h
      have h1 : (decide (FY_EVPEND ≤ k) && decide (k < FY_EVPEND + 16)) = true := by simp; omega
      simp [evReg, h1] at hk
    have := ih (d.put ⟨FY_EVPEND + 4 * (n / 32), n % 32, n % 32⟩ 1) fun m hm => hl m (by simp [hm])
    rw [rd_put_other _ _ _ hne] at this
    simpa [Dev.pend] using this

theorem evReg_arcstat {k : Nat} (h : evReg k = false) : k ≠ FY_ARCSTAT := by
  rintro rfl; simp [evReg] at h

theorem evReg_arcsupp {k r : Nat} (h : evReg k = false) (hr : r < 8) : k ≠ FY_ARCSUPP + 4 * r := by
  intro e
  have h1 : (decide (FY_ARCSUPP ≤ k) && decide (k < FY_ARCSUPP + 32)) = true := by simp; omega
  simp [evReg, h1] at h

/-- An arrival at the landing writes no register but those of `evReg`. -/
theorem land_rd (d : Dev) (e : LandEntry) (hr : e.ev.region < 8) {k : Nat} (hk : evReg k = false) : (d.land e).rd k = d.rd k := by
  unfold Dev.land
  split
  · simp only [Dev.arcStat]
    rw [rd_put_other _ _ _ (evReg_arcstat hk), rd_put_other _ _ _ (evReg_arcstat hk)]
    rfl
  · rw [rd_put_other _ _ _ (evReg_arcstat hk)]
    unfold Dev.inc
    rw [rd_put_other _ _ _ (evReg_arcsupp hk hr)]
    rfl

/-- An event of the Foyer writes no register but those of `evReg`. -/
theorem raiseFy_rd (d : Dev) (e : Ev) (hs : ∀ n ∈ e.sources, n < 128) (hr : e.region < 8) {k : Nat} (hk : evReg k = false) :
    (d.raiseFy e).rd k = d.rd k := by
  unfold Dev.raiseFy
  rw [land_rd _ _ hr hk, pend_rd _ _ hs hk]

theorem fixedSources_lt (i : EvId) : ∀ n ∈ i.fixedSources, n < 128 := by cases i <;> decide

theorem hi_lt (i : EvId) : i.hi < 8 := by cases i <;> decide

theorem sources_lt (i : EvId) (p : List Int) (h : i ≠ .fyTalarm) : ∀ n ∈ (Ev.mk' i p).sources, n < 128 := by
  intro n hn
  unfold Ev.sources Ev.mk' at hn
  cases i <;> first | exact absurd rfl h | exact fixedSources_lt _ n hn | (simp only at hn; split at hn <;> simp at hn <;> omega)

theorem raiseFy_mk_rd (d : Dev) (i : EvId) (p : List Int) (k : Nat) (h : i ≠ .fyTalarm) (hk : evReg k = false) :
    (d.raiseFy (.mk' i p)).rd k = d.rd k := raiseFy_rd d _ (sources_lt i p h) (hi_lt i) hk

theorem raiseFy_mk_get (d : Dev) (i : EvId) (p : List Int) (x : Fld) (h : i ≠ .fyTalarm) (hk : evReg x.key = false) :
    (d.raiseFy (.mk' i p)).get x = d.get x := by
  simp [Dev.get, raiseFy_mk_rd d i p x.key h hk]

theorem raiseFy_mk_bit (d : Dev) (i : EvId) (p : List Int) (x : Fld) (h : i ≠ .fyTalarm) (hk : evReg x.key = false) :
    (d.raiseFy (.mk' i p)).bit x = d.bit x := by
  simp [Dev.bit, raiseFy_mk_get d i p x h hk]

@[simp] theorem land_mod (d : Dev) (e : LandEntry) : (d.land e).mod = d.mod := by
  unfold Dev.land; split <;> simp [Dev.arcStat]
@[simp] theorem raiseFy_mod (d : Dev) (e : Ev) : (d.raiseFy e).mod = d.mod := by simp [Dev.raiseFy]
@[simp] theorem land_cor (d : Dev) (e : LandEntry) : (d.land e).cor = d.cor := by
  unfold Dev.land; split <;> simp [Dev.arcStat]
@[simp] theorem raiseFy_cor (d : Dev) (e : Ev) : (d.raiseFy e).cor = d.cor := by simp [Dev.raiseFy]
@[simp] theorem land_nw (d : Dev) (e : LandEntry) : (d.land e).nw = d.nw := by
  unfold Dev.land; split <;> simp [Dev.arcStat]
@[simp] theorem raiseFy_nw (d : Dev) (e : Ev) : (d.raiseFy e).nw = d.nw := by simp [Dev.raiseFy]
@[simp] theorem land_fa (d : Dev) (e : LandEntry) : (d.land e).fa = d.fa := by
  unfold Dev.land; split <;> simp [Dev.arcStat]
@[simp] theorem raiseFy_fa (d : Dev) (e : Ev) : (d.raiseFy e).fa = d.fa := by simp [Dev.raiseFy]
@[simp] theorem land_fb (d : Dev) (e : LandEntry) : (d.land e).fb = d.fb := by
  unfold Dev.land; split <;> simp [Dev.arcStat]
@[simp] theorem raiseFy_fb (d : Dev) (e : Ev) : (d.raiseFy e).fb = d.fb := by simp [Dev.raiseFy]
@[simp] theorem land_gl (d : Dev) (e : LandEntry) : (d.land e).gl = d.gl := by
  unfold Dev.land; split <;> simp [Dev.arcStat]
@[simp] theorem raiseFy_gl (d : Dev) (e : Ev) : (d.raiseFy e).gl = d.gl := by simp [Dev.raiseFy]
@[simp] theorem land_lg (d : Dev) (e : LandEntry) : (d.land e).lg = d.lg := by
  unfold Dev.land; split <;> simp [Dev.arcStat]
@[simp] theorem raiseFy_lg (d : Dev) (e : Ev) : (d.raiseFy e).lg = d.lg := by simp [Dev.raiseFy]
@[simp] theorem land_time (d : Dev) (e : LandEntry) : (d.land e).time = d.time := by
  unfold Dev.land; split <;> simp [Dev.arcStat]
@[simp] theorem raiseFy_time (d : Dev) (e : Ev) : (d.raiseFy e).time = d.time := by simp [Dev.raiseFy]
@[simp] theorem land_host (d : Dev) (e : LandEntry) : (d.land e).host = d.host := by
  unfold Dev.land; split <;> simp [Dev.arcStat]
@[simp] theorem raiseFy_host (d : Dev) (e : Ev) : (d.raiseFy e).host = d.host := by simp [Dev.raiseFy]
@[simp] theorem land_fmp (d : Dev) (e : LandEntry) : (d.land e).fmp = d.fmp := by
  unfold Dev.land; split <;> simp [Dev.arcStat]
@[simp] theorem raiseFy_fmp (d : Dev) (e : Ev) : (d.raiseFy e).fmp = d.fmp := by simp [Dev.raiseFy]
@[simp] theorem land_eth (d : Dev) (e : LandEntry) : (d.land e).eth = d.eth := by
  unfold Dev.land; split <;> simp [Dev.arcStat]
@[simp] theorem raiseFy_eth (d : Dev) (e : Ev) : (d.raiseFy e).eth = d.eth := by simp [Dev.raiseFy]
@[simp] theorem land_und (d : Dev) (e : LandEntry) : (d.land e).und = d.und := by
  unfold Dev.land; split <;> simp [Dev.arcStat]
@[simp] theorem raiseFy_und (d : Dev) (e : Ev) : (d.raiseFy e).und = d.und := by simp [Dev.raiseFy]
@[simp] theorem land_upd (d : Dev) (e : LandEntry) : (d.land e).upd = d.upd := by
  unfold Dev.land; split <;> simp [Dev.arcStat]
@[simp] theorem raiseFy_upd (d : Dev) (e : Ev) : (d.raiseFy e).upd = d.upd := by simp [Dev.raiseFy]
@[simp] theorem land_jnl (d : Dev) (e : LandEntry) : (d.land e).jnl = d.jnl := by
  unfold Dev.land; split <;> simp [Dev.arcStat]
@[simp] theorem raiseFy_jnl (d : Dev) (e : Ev) : (d.raiseFy e).jnl = d.jnl := by simp [Dev.raiseFy]
@[simp] theorem land_fmem (d : Dev) (e : LandEntry) : (d.land e).fmem = d.fmem := by
  unfold Dev.land; split <;> simp [Dev.arcStat]
@[simp] theorem raiseFy_fmem (d : Dev) (e : Ev) : (d.raiseFy e).fmem = d.fmem := by simp [Dev.raiseFy]

@[simp] theorem raiseFy_fl (d : Dev) (e : Ev) (f : Flt) : (d.raiseFy e).fl f = d.fl f := by cases f <;> simp [Dev.fl]

/-- While the landing has room and no power warning came, an event of the Foyer is its last entry (19 R518). -/
theorem raiseFy_landing (d : Dev) (e : Ev) (h : d.arc.landing.length < arcCap) (hw : d.arc.warned = false) :
    (d.raiseFy e).arc.landing = d.arc.landing ++ [⟨e, false, false⟩] := by
  simp [Dev.raiseFy, Dev.land, Dev.arcStat, h, hw]

end Sys2Proof.Machine
end

