-- ==== Sys2Proof/Laws/Kzl.lean ====
section
/-! SUPPORT. Laws of the Treads: what one instruction does around its own effect, and what updates of a Tread leave as they were. -/

namespace Sys2Proof.Machine

@[simp] theorem fl_updFl (d : Dev) (f : Flt) (g : FlightSt → FlightSt) : (d.updFl f g).fl f = g (d.fl f) := updFl_fl d f g

theorem updFl_updFl (d : Dev) (f : Flt) (g h : FlightSt → FlightSt) : (d.updFl f g).updFl f h = d.updFl f fun x => h (g x) := by
  cases f <;> rfl

@[simp] theorem tread_updTread (d : Dev) (f : Flt) (t : Nat) (g : Tread → Tread) : (d.updTread f t g).tread f t = g (d.tread f t) := by
  simp [Dev.updTread, Dev.tread, mupd]

theorem tread_updTread_other (d : Dev) (f : Flt) {t u : Nat} (g : Tread → Tread) (h : u ≠ t) :
    (d.updTread f t g).tread f u = d.tread f u := by
  simp [Dev.updTread, Dev.tread, mupd, mget_mset_other _ _ _ h]

@[simp] theorem updTread_get (d : Dev) (f : Flt) (t : Nat) (g : Tread → Tread) (x : Fld) : (d.updTread f t g).get x = d.get x :=
  updFl_get d f _ x
@[simp] theorem updTread_regs (d : Dev) (f : Flt) (t : Nat) (g : Tread → Tread) : (d.updTread f t g).regs = d.regs :=
  updFl_regs d f _
@[simp] theorem updTread_nw (d : Dev) (f : Flt) (t : Nat) (g : Tread → Tread) : (d.updTread f t g).nw = d.nw :=
  updFl_nw d f _
@[simp] theorem updTread_cfgOf (d : Dev) (f : Flt) (t : Nat) (g : Tread → Tread) : (d.updTread f t g).cfgOf f = d.cfgOf f := by
  cases f <;> rfl

/-- A read of a clean word changes nothing. -/
theorem readWord_clean (d : Dev) (m : Mem) (lb w agent : Nat) (h : d.wordClean m lb w) :
    d.readWord m (d.phys m lb) w agent = (d, .none) := by
  unfold Dev.readWord
  rcases h with h | h <;> simp [h]

/-- A Tread's reads of clean words change nothing, and it goes on. -/
theorem touchWords_clean (d : Dev) (f : Flt) (t : Nat) (l : List (Nat × Nat)) (h : ∀ p ∈ l, d.wordClean (.fl f) p.1 p.2) :
    d.touchWords f t l = (d, true) := by
  induction l with
  | nil => rfl
  | cons p l ih =>
    unfold Dev.touchWords
    rw [readWord_clean d (.fl f) p.1 p.2 1 (h p (List.mem_cons_self ..))]
    exact ih fun q hq => h q (List.mem_cons_of_mem _ hq)

/-- A read of a logic word whose memory words are clean changes nothing. -/
theorem touch_clean (d : Dev) (f : Flt) (t key : Nat) (h : d.kzClean f key) : d.touch f t key = (d, true) :=
  touchWords_clean d f t _ h

/-- A read of a timer's or counter's entry whose memory words are clean changes nothing. -/
theorem touchEntry_clean (d : Dev) (f : Flt) (t k0 k1 : Nat) (h0 : d.kzClean f k0) (h1 : d.kzClean f k1) :
    d.touchEntry f t k0 k1 = (d, true) := by
  refine touchWords_clean d f t _ fun p hp => ?_
  rcases List.mem_append.mp (List.mem_eraseDups.mp hp) with h | h
  · exact h0 p h
  · exact h1 p h

/-- One instruction of a Tread that comes to it: PC passes it, it counts, and its effect follows, or it is refused. -/
theorem kzStep_runs (d : Dev) (f : Flt) (t op sp addr : Nat) (g : Dev → Dev) (h : d.kzRuns f t op sp) :
    d.kzStep f t op sp addr g = if kzLegal op sp addr && d.kzTarget f t op addr then g (d.kzPast f t op sp)
      else (d.kzPast f t op sp).progFault f t 0x06 0 := by
  obtain ⟨h1, h2, h3, h4, h5⟩ := h
  have hf : d.fetchKz f t (if kzHasConst op sp then 2 else 1) = (d, true) := touchWords_clean d f t _ h5
  have hn : BitVec.ofNat 18 (if kzHasConst op sp then 2 else 1) = if kzHasConst op sp then 2 else 1 := by
    split <;> rfl
  simp [Dev.kzStep, Dev.kzPast, h1, h2, h3, Nat.not_le.mpr h4, hf, hn]

/-- One instruction of a Tread that can execute it: PC passes it, it counts, and its effect follows. -/
theorem kzStep_can (d : Dev) (f : Flt) (t op sp addr : Nat) (g : Dev → Dev) (h : d.kzCan f t op sp addr) :
    d.kzStep f t op sp addr g = g (d.kzPast f t op sp) := by
  rw [kzStep_runs d f t op sp addr g h.1]; simp [h.2.1, h.2.2]

/-- A Tread that cannot execute does nothing. -/
theorem kzStep_cannot (d : Dev) (f : Flt) (t op sp addr : Nat) (g : Dev → Dev)
    (h : d.frozen f = true ∨ (d.tread f t).running = false ∨ (d.tread f t).halted = true ∨
      d.taskBudget f (d.tread f t).task ≤ (d.tread f t).instrs) :
    d.kzStep f t op sp addr g = d := by
  unfold Dev.kzStep
  rcases h with h | h | h | h <;> simp [h]

@[simp] theorem kzPast_tread (d : Dev) (f : Flt) (t op sp : Nat) :
    (d.kzPast f t op sp).tread f t = { d.tread f t with
      pc := (d.tread f t).pc + (if kzHasConst op sp then 2 else 1), instrs := (d.tread f t).instrs + 1 } :=
  tread_updTread d f t _

end Sys2Proof.Machine
end

