-- ==== Sys2Proof/Tests/Slice0.lean ====
section
/-! SUPPORT. Tests: for the hypotheses of every statement a state that meets them, ill-formed commands that the checks refuse, words and
values of the spec's tables and worked examples, and single steps. -/

namespace Sys2Proof.Tests

open Sys2Proof.Machine

set_option Elab.async false

/-! ## Helpers -/

/-- The module right after reset, changed by a function. -/
def dev (g : Dev → Dev) : Dev := g State.reset.dev

/-- The module after a command, nothing waiting. -/
def after (c : Instr) (d : Dev) : Dev := match exec c { State.reset with dev := d } with
  | .next t => t.dev
  | _ => d

/-- Tread 0 of flight A runs, its other fields as a function makes them. -/
def kz (g : Tread → Tread) : Dev := dev fun d => d.updTread .a 0 fun r => { g r with running := true }

/-- Flight states, the module serving, quarantine disabled. -/
def flights (a b : Nat) : Dev := dev fun d =>
  ((((d.put (nwStateFld .a) a).put (nwStateFld .b) b).put FY_MODSTATE_STATE msService).put NW_REPAIRCFG_QEN 0).updNw fun n => { n with modState := msService, stopped := false }

/-! ## Kazcon logic instructions -/

/-- Tread 0 of flight A runs in an image of one block of eight words. -/
def kzIn (g : Tread → Tread) : Dev := (kz g).updMod fun m => { m with cfg := { m.cfg with blocks := [(0, 8)] } }

/-- A word without a place in bank memory, or with one that shows no error, is clean. -/
theorem kzClean_of (d : Dev) (f : Flt) (key : Nat) (h : ((d.cfgOf f).places key (List.range 4)).all (fun x =>
      let p := d.home (.fl f) (d.phys (.fl f) x.1) x.2
      decide ((d.word (.fl f) p.1 p.2).err = .none)) = true) : d.kzClean f key := by
  intro p hp
  have := List.all_eq_true.mp h p hp
  exact .inr (by simpa using this)

theorem wit_kz_can : ∀ e ∈ [(0x00, 0, 0), (0x01, 3, 5), (0x08, 1, 9), (0x0A, 0, 0), (0x0F, 0, 0), (0x10, 0, 0), (0x14, 3, 5), (0x14, 1, 5),
    (0x15, 6, 2), (0x16, 5, 2), (0x19, 7, 3), (0x1C, 4, 69), (0x20, 0, 0), (0x21, 3, 0), (0x22, 5, 1), (0x22, 6, 1), (0x22, 4, 32), (0x24, 0, 0),
    (0x28, 0, 0), (0x35, 3, 0), (0x33, 0, 0), (0x3B, 0, 0), (0x3E, 8, 0), (0x49, 4, 0), (0x50, 5, 1), (0x52, 5, 511), (0x54, 6, 1), (0x55, 6, 1),
    (0x58, 0, 0x1FFFFF), (0x5C, 0, 1), (0x60, 0, 0), (0x61, 0, 0), (0x62, 0, 0), (0x63, 0, 0), (0x70, 0, 255)],
    (kzIn id).kzCan .a 0 e.1 e.2.1 e.2.2 := by
  unfold Dev.kzCan Dev.kzRuns Dev.fetchClean Dev.wordClean; decide

theorem wit_kz_refused : (kz id).kzRuns .a 0 0x58 0 ∧ (kz id).kzTarget .a 0 0x58 0 = false ∧ (kz id).kzRuns .a 0 0x61 0 ∧
    (kz id).blockFirst .a 1 = none := by
  unfold Dev.kzRuns Dev.fetchClean Dev.wordClean; decide

theorem wit_kz_forced : let d := (kz id).updFl .a fun x => { x with pts := [(2, { Point.zero with cls := 1, status := 0x100 })]
                                                                    forces := [(0, { Force.zero with point := 2, value := 7 })] }
    d.reach .a 0 2 false = true ∧ (d.fa.forceOf 2).map (·.2.value) = some 7 ∧ d.kzClean .a (kP 2) ∧ d.fa.forceOf 3 = none ∧
    d.reach .a 0 3 false = false :=
  ⟨by decide, by decide, kzClean_of _ _ _ (by decide), by decide, by decide⟩

theorem wit_kz_clean : (kz id).kzClean .a (kM 0) ∧ (kz id).kzClean .a (kM 255) ∧ (kz id).kzClean .a (kT 0 1) ∧ (kz id).kzClean .a (kC 1 0) ∧
    (kz id).kzClean .a (kL 0 2) ∧ (kz id).kzClean .a (kP 3) ∧ (kz id).fa.wrbuf = [] ∧ (kz id).fa.bufUsed 0 = 0 :=
  ⟨kzClean_of _ _ _ (by decide), kzClean_of _ _ _ (by decide), kzClean_of _ _ _ (by decide), kzClean_of _ _ _ (by decide),
    kzClean_of _ _ _ (by decide), kzClean_of _ _ _ (by decide), by decide, by decide⟩

theorem wit_kz_reach : let d := (kz id).updFl .a fun x => { x with pts := [(2, { Point.zero with cls := 1, status := 0x100 })] }
    d.reach .a 0 2 false = true ∧ d.reach .a 0 3 false = false := by decide

theorem wit_kz_groups : ((kz fun r => { r with nest := [⟨true, .or, true⟩] }).tread .a 0).nest = [⟨true, .or, true⟩] ∧
    ((kz fun r => { r with nest := [⟨true, .or, true⟩] }).tread .a 0).entryDepth < 1 ∧
    ((kz fun r => { r with nest := List.replicate 16 ⟨true, .or, true⟩, rlo := true }).tread .a 0).nest.length = 16 ∧
    ((kz id).tread .a 0).nest.length ≤ ((kz id).tread .a 0).entryDepth := by decide

theorem wit_kz_timers : let d := fun (w : W32) => (kz id).updFl .a fun x => { x with lmem := mset 0 x.lmem (kT 1 1) w }
    ((d 0x11000000).logic .a 0 (kT 1 1)).getLsbD 24 = true ∧ ((d 0x11000000).logic .a 0 (kT 1 1)).toNat / 2 ^ 28 % 4 = 1 ∧
    ((d 0x21000000).logic .a 0 (kT 1 1)).toNat / 2 ^ 28 % 4 = 2 ∧ ((d 0x31000000).logic .a 0 (kT 1 1)).toNat / 2 ^ 28 % 4 = 3 ∧
    (d 0x31000000).fa.bufUsed 0 + 1 < 4096 := by decide

theorem wit_kz_calls : let d := dev fun d => d.updMod fun m => { m with cfg := { m.cfg with blocks := [(7, 3)] } }
    d.blockFirst .a 0 = some 7 ∧ d.blockFirst .a 1 = none ∧
    ((kz fun r => { r with calls := List.replicate 8 ⟨1, 0, 0⟩ }).tread .a 0).calls.length = 8 ∧
    ((kz fun r => { r with calls := [⟨1, 0, 0⟩] }).tread .a 0).nest.length = 0 := by decide

theorem wit_kz_stops : (kz id).taskKind .a ((kz id).tread .a 0).task ≠ 3 ∧
    (kz fun r => { r with instrs := 2 ^ 26 }).taskBudget .a 0 ≤ ((kz fun r => { r with instrs := 2 ^ 26 }).tread .a 0).instrs := by decide

theorem wit_kz_encoding : kzFields (.kzAdd .b 3 0 0 5) = some (0x28, 0, 0, 5) ∧ WellFormed (.kzAdd .b 3 0 0 5) = true ∧
    kzlDecode .b 3 0x50000000 5 = some (.kzAdd .b 3 0 0 5) := by decide

theorem wit_kz_stacks (f : Flt) (t : Nat) : (State.reset.dev.tread f t).nest.length ≤ 16 ∧ (State.reset.dev.tread f t).calls.length ≤ 8 := by
  cases f <;> exact (by decide : Tread.zero.nest.length ≤ 16 ∧ Tread.zero.calls.length ≤ 8)

theorem test_add_saturates : let u := after (.kzAdd .a 0 0 0 1) (kz fun r => { r with acc := 0x7FFFFFFF })
    (u.tread .a 0).acc = 0x7FFFFFFF ∧ (u.tread .a 0).sat = true ∧ (u.tread .a 0).pc = 2 := by decide

theorem test_jump_back : ((after (.kzJmp .a 0 0x1FFFFF) (kzIn fun r => { r with pc := 5 })).tread .a 0).pc = 5 := by decide

theorem test_group_closes : ((after (.kzGe .a 0) (kz fun r => { r with nest := [⟨true, .and, true⟩], rlo := true })).tread .a 0).rlo = false := by decide

/-! ## Supplies, starts and the queue -/

theorem wit_queue : ({ State.reset with pending := [Instr.pwrwarnFall, .pwrwarnRise] } : State).pending.length = 2 ∧ State.reset.pending = [] := by
  decide

theorem test_front_first : (match step { State.reset with pending := [.pwrwarnFall, .vfinValid] } with
    | .next t => decide (t.pending = [.vfinValid]) && t.dev.bit FY_MODSTATE_PWRWARN
    | _ => false) = true := by decide

theorem wit_supply : let off := dev fun d => d.updMod fun m => { m with vhin := false }
    let hold := dev fun d => (d.put FY_MODSTATE_STATE msHold).updMod fun m => { m with vhin := true, cfgPresent := true, holdVfin := true, started := true }
    let on := dev fun d => (d.put FY_MODSTATE_FIELDPWR 1).put FY_MODSTATE_STATE msService
    off.mod.vhin = false ∧ hold.mod.vhin = true ∧ hold.bit FY_MODSTATE_FIELDPWR = false ∧ hold.mst = msHold ∧ hold.mod.cfgPresent = true ∧
    hold.mod.holdVfin = true ∧ hold.mod.started = true ∧ State.reset.dev.bit FY_MODSTATE_FIELDPWR = false ∧ State.reset.dev.mst ≠ msHold ∧
    on.bit FY_MODSTATE_FIELDPWR = true ∧ on.mst ≠ msOff := by decide

theorem wit_power_warning : let d := dev fun d => d.updMod fun m => { m with vhin := true, started := true }
    let w := d.updMod fun m => { m with flushing := true }
    d.mod.vhin = true ∧ d.mod.started = true ∧ d.mod.flushing = false ∧ d.bit FY_MODSTATE_PWRWARN = false ∧ w.mod.flushing = true := by decide

theorem wit_boot : let d := State.reset.dev
    let up := dev fun d => d.updMod fun m => { m with started := true }
    let fs := dev fun d => ((d.put FY_MODSTATE_STATE msFailsafe).put FY_MODSTATE_FIELDPWR 1)
    d.mst = msBoot ∧ d.mod.started = false ∧ d.mod.romHold = false ∧ d.bit FY_MODSTATE_PWRWARN = false ∧ d.jnl.camp = none ∧
    d.get FY_STRESULT_TEST = 0 ∧ up.mst = msBoot ∧ up.mod.started = true ∧ up.cor.hostUp = false ∧ fs.mst = msFailsafe ∧
    fs.mod.restarts = [] ∧ fs.fst .a ≠ fsQuarantined ∧ fs.bit FY_MODSTATE_FIELDPWR = true ∧ fs.mod.romHold = false := by decide

theorem wit_boot_repairs : let d := State.reset.dev
    d.logical .fy 0 = some 0 ∧ d.spareBank .fy = some 16 ∧ d.get FY_SPAREBUD0_CRDOWN ≠ 0 ∧
    (d.put FY_SPAREBUD0_CRUP 0).get FY_SPAREBUD0_CRUP = 0 ∧ 0 ∉ d.mod.measDone := by decide

/-- R531: both copies are valid after reset, a copy with a flipped bit is not. -/
theorem test_layout_copies : layoutReset = layoutCopy (2 ^ 27) ∧ layoutOk layoutReset = true ∧ layoutOk (0x52 :: layoutReset.drop 1) = false ∧
    layoutOk (layoutReset.take 63 ++ [layoutReset.getD 63 0 ^^^ 1]) = false := by decide +kernel

theorem test_boot_failure_holds :
    (after (.bootRomDone [(1, 9)] 0 (2 ^ 27) [] [] false [] false 0 0 0) State.reset.dev).mst = msHold := by decide +kernel

theorem wit_selftest : let d := dev fun d => ((d.put FY_MODSTATE_STATE msSelftest).put (nwStateFld .a) fsTesting).updNw fun n => { n with
      modState := msSelftest }
    d.nw.modState = msSelftest ∧ d.fst .a = fsTesting ∧ d.mst = msSelftest ∧ d.jnl.camp = none ∧
    (∀ i < 9, d.slotOf i ssTrial = none ∧ (d.slotInfo i (d.activeSlot i)).bad = false) ∧ d.linkUp = false ∧ d.get FY_STRESULT_TEST = 0 ∧
    (d.updCor fun c => { c with hostUp := true, fieldUp := true }).linkUp = true := by decide

theorem wit_images : let d := dev fun d => (d.updNw fun n => { n with modState := msLoading }).updCor fun c => { c with fieldUp := true }
    d.cor.down.lost = false ∧ (d.cor.down.accept d.cor.down.txSeq).2 = true ∧ d.nw.modState = msLoading ∧ d.cor.fieldUp = true := by decide

theorem wit_measured : let d := dev fun d => (d.put (nwStateFld .a) fsLoading).put NW_REPAIRCFG_QEN 0
    (d.cor.up.accept 1).2 = true ∧ 1 ≠ d.cor.up.txSeq ∧ d.mod.adopt = false ∧ d.fst .a = fsLoading ∧ d.active = none ∧
    d.bit NW_REPAIRCFG_QEN = false ∧ d.jnl.camp = none ∧ d.nw.modState ≠ msLoading ∧ d.nw.stair = none ∧ d.fa.bootCycle = none := by decide

theorem wit_measured_differs (d : Dev) : ∃ v, d.expected 2 ≠ v := ⟨d.expected 2 + 1, by omega⟩

theorem wit_boot_done : let d := dev fun d => ((((d.put FY_MODSTATE_STATE msLoading).put (nwStateFld .a) fsSyncing).put (nwStateFld .b)
      fsSyncing).updNw fun n => { n with staged := [2, 3, 4, 5, 0x10, 0x11] }).updMod fun m => { m with preDone := true }
    let e := d.updCor fun c => { c with fieldUp := true }
    e.cor.down.lost = false ∧ (e.cor.down.accept 1).2 = true ∧ e.mst = msLoading ∧ e.mod.preDone = true ∧ e.cor.fieldUp = true ∧
    (∀ c ∈ [2, 3, 4, 5, 0x10, 0x11], e.nw.staged.contains c = true) ∧ e.awaitsBoot .a = true ∧ e.awaitsBoot .b = true := by decide

/-! ## The Newel and the flights -/

theorem wit_boundary : let d := (flights fsActive fsStandby).updNw fun n => { n with
      sigA := [{ CommitSet.zero with digest := 5 }], sigB := [{ CommitSet.zero with digest := 6 }] }
    let n := d.nw
    n.stopped = false ∧ d.jnl.camp = none ∧ d.fst .a = fsActive ∧ d.fst .b = fsStandby ∧ n.epochA = n.epochB ∧ n.faults = [] ∧ n.stair = none ∧
    n.switching = none ∧ n.modState = msService ∧ d.bit NW_REPAIRCFG_QEN = false ∧ (∀ f ∈ n.batchDue, f ∈ n.acked) ∧ n.fetch = none ∧
    d.bit NW_DIVSTAT_STRIKE = false ∧ ∀ c ∈ n.sigA ++ n.sigB, c.det = none ∧ c.scan = 0 ∧ c.signalAt ≤ n.cycle := by decide

theorem wit_unacknowledged : let d := (flights fsActive fsStandby).updNw fun n => { n with
      sigB := [CommitSet.zero], batchDue := [0, 1], acked := [1] }
    d.nw.plan = none ∧ 0 ∈ d.nw.batchDue ∧ 0 ∉ d.nw.acked ∧ (1 ∈ d.nw.batchDue → 1 ∈ d.nw.acked) ∧ d.nw.sigB = [CommitSet.zero] ∧
    CommitSet.zero.signalAt ≤ d.nw.cycle ∧ d.nw.uncommitted CommitSet.zero.scan = true ∧ d.nw.fetch = none := by decide

theorem test_standby_promoted : let u := after (.newelCycle true none 0) ((flights fsActive fsStandby).updNw fun n => { n with
      sigB := [CommitSet.zero], batchDue := [0, 1], acked := [1] })
    u.fst .a = fsFailed ∧ u.fst .b = fsActive := by decide +kernel

theorem wit_arrivals : let fr := mkFrame 7 1 InFrame.zero
    let d := dev fun d => d.updNw fun n => { n with batch := [fr, mkFrame 8 1 InFrame.zero], batchDue := [0, 1] }
    d.nw.source = [] ∧ d.nw.buffered + InFrame.zero.bytes ≤ ingressCap ∧ InFrame.zero.kind ≠ 0x04 ∧
    262144 < d.nw.buffered + { InFrame.zero with kind := 2, length := 262200 }.bytes ∧ d.nw.batchDue.contains Flt.b.num = true ∧
    (mkFrame 8 1 InFrame.zero).number = fr.number + 1 ∧ d.fb.nextNo = 0 ∧ d.fb.frameBad = false ∧ Flt.b.num ∉ d.nw.acked ∧
    (d.cor.down.accept 0).2 = true ∧ d.nw.newMap = none ∧ d.nw.lastMap = none := by decide

theorem wit_sample_replaced : let fr : InFrame := { InFrame.zero with kind := 4, port := 2, length := 262200 }
    let d := dev fun d => d.updNw fun n => { n with carried := [{ InFrame.zero with kind := 4, port := 2 }] }
    fr.kind = 0x04 ∧ (∃ g ∈ d.nw.carried ++ d.nw.ingress, g.kind = 0x04 ∧ g.port = fr.port) ∧ 262144 < d.nw.buffered + fr.bytes :=
  ⟨rfl, ⟨{ InFrame.zero with kind := 4, port := 2 }, by decide, by decide⟩, by decide⟩

theorem wit_map_synthesis : let d := dev fun d => d.updNw fun n => { n with lastMap := some TimeMap.zero, sinceMap := 4 }
    d.nw.lastMap = some TimeMap.zero ∧ 4 ≤ d.nw.sinceMap := by decide

theorem wit_planned : let d := (flights fsActive fsStandby).updNw fun n => { n with matched := 16 }
    d.bit NW_SWCTL_BUSY = false ∧ d.pair.isSome = true ∧ d.nw.matched = 16 ∧ d.nw.stair = none ∧ (flights fsActive fsStandby).nw.matched < 16 ∧
    d.fst .b = fsStandby ∧ d.fst Flt.b.other = fsActive ∧ d.nw.modState = msService := by decide

theorem wit_quarantined : let d := (flights fsActive fsReset).updNw fun n => { n with modState := msDegraded }
    d.fst .b = fsReset ∧ d.nw.stair = none ∧ d.nw.switching = none ∧ d.nw.modState = msDegraded ∧ d.pair = none ∧
    (flights fsActive fsQuarantined).fst .b = fsQuarantined := by decide

theorem wit_repair : let d := ((flights fsActive fsFailed).put NW_REPAIRCFG_RETRY 1).updNw fun n => { n with retryB := some 0, cycle := 400 }
    d.fst .b = fsFailed ∧ 0 < d.get NW_REPAIRCFG_RETRY ∧ d.nw.retry .b = some 0 ∧ d.get NW_REPAIRCFG_RETRY * 400 ≤ d.nw.cycle := by decide

theorem wit_stair : let d := fun (p : Nat) => ((flights fsActive fsSyncing).put NW_STAIRSTAT_PHASE p).updNw fun n => { n with stair := some ⟨1, 0, 0, 0⟩ }
    (d 1).nw.stair = some ⟨1, 0, 0, 0⟩ ∧ (d 1).active = some .a ∧ (d 1).get NW_STAIRSTAT_PHASE = 1 ∧ Flt.ofNum 1 = .b ∧
    (d 3).active = some Flt.b.other ∧ (d 3).get NW_STAIRSTAT_PHASE = 3 := by decide

theorem wit_stopped : (dev fun d => d.updNw fun n => { n with stopped := true }).nw.stopped = true := by decide

/-! ## The Corridor -/

theorem wit_corridor_queues : let m : DownMsg := ⟨7, 0x10, 0, 0, 0, 0, 1, 0, []⟩
    let d := dev fun d => d.updCor fun c => { c with
      downQ := [{ m with seq := 6 }, m], upQ := [(4, ⟨0x40, 0, 0, 0, 1, [], none⟩)], down := { c.down with fails := 2 } }
    d.cor.downQ = [{ m with seq := 6 }] ++ m :: [] ∧ (∀ x ∈ [{ m with seq := 6 }], x.seq ≠ m.seq) ∧
    d.cor.upQ = [] ++ (4, (⟨0x40, 0, 0, 0, 1, [], none⟩ : UpMsg)) :: [] ∧ d.cor.downQ ≠ [] ∧ d.cor.down.lost = false ∧ 2 ≤ d.cor.down.fails ∧
    State.reset.dev.cor.down.fails < 2 ∧ d.cor.down.spare = false ∧ d.bit FY_SPAREBUD0_CRDOWN = true := by decide

theorem wit_corridor_requests : let r : CrReq := { CrReq.zero with seq := 3, typ := 0x41, session := 1, tries := 2 }
    let d := dev fun d => d.updCor fun c => { c with reqs := [r], hostUp := true, fieldUp := true }
    (d.cor.up.accept 0).2 = true ∧ (d.cor.down.accept 0).2 = true ∧ d.cor.reqs = [r] ∧ r.session ≠ 0 ∧ r.reqId = 0 ∧ r.tries < 3 ∧
    d.cor.hostUp = true ∧ d.cor.fieldUp = true ∧ d.jnl.camp = none ∧ d.arc.landing.length < arcCap ∧ d.arc.warned = false := by decide

theorem wit_corridor_up : let d := dev fun d => ((d.put FY_MODSTATE_STATE msHold).updMod fun m => { m with started := true }).updCor fun c => { c with
      hbHost := 2, hbField := 3 }
    let up := dev fun d => (d.put FY_MODSTATE_STATE msService).updCor fun c => { c with hostUp := true, fieldUp := true }
    d.mod.started = true ∧ d.mod.romHold = false ∧ d.cor.up.lost = false ∧ d.cor.hostUp = false ∧ 2 ≤ d.cor.hbHost ∧ 3 ≤ d.cor.hbField ∧
    State.reset.dev.cor.hbHost < 2 ∧ d.mst ≠ msBoot ∧ up.cor.hostUp = true ∧ up.cor.fieldUp = true ∧ up.nw.stopped = false ∧
    up.mst = msService ∧ up.jnl.camp = none := by decide

theorem wit_status_payloads : ([3, 0, 0, 0, 0, 0, 0, 0] : List Byte).length = 8 ∧ field [3, 0, 0, 0, 0, 0, 0, 0] 0 1 = msHold ∧
    ((7 :: List.replicate 63 0 : List Byte)).length = 64 ∧ field (7 :: List.replicate 63 0) 0 1 = msFailsafe := by decide

theorem wit_field_messages : let d := dev fun d => d.updMod fun m => { m with crossing := [(2, true)], mirrorScan := some 5 }
    let seal' : List Byte := List.replicate 8 0 ++ [1, 0, 1] ++ List.replicate 77 0
    let block : List Byte := 5 :: List.replicate 527 0
    let x : Session := { Session.zero with role := 1 }
    gradPair true 1 2 = true ∧ gradPair false 3 7 = true ∧ gradPair true 1 3 = false ∧
    mget? d.mod.gradHost (8 * min 1 2 + max 1 2) = none ∧ mget? d.mod.gradField (8 * min 3 7 + max 3 7) = none ∧
    (Ev.mk' .crLost []).regionOk = true ∧ mget false d.mod.crossing 2 = true ∧ mget false d.mod.crossing 3 = false ∧ (d.cor.up.accept 0).2 = true ∧
    d.upd.dist = none ∧ block.length = 528 ∧ field block 8 1 = 0 ∧ d.mod.mirrorScan = some (field block 0 8) ∧ seal'.length = 88 ∧
    field seal' 8 1 = 1 ∧ bitOf (field seal' 10 1) 0 = true ∧ mget? [(4, x)] 4 = some x ∧ x.txSeq + 70000 < 2 ^ 63 ∧
    mget? d.fmp.sessions 4 = none := by decide +kernel

/-! ## Points and field registers -/

/-- Flight A active, point 2 a writable FLAG of suite 1, point 3 forced. -/
def points : Dev := (flights fsActive fsAbsent).updFl .a fun x => { x with
  pts := [(2, { Point.zero with cls := 1, suite := 1, status := 0x400 }), (3, { Point.zero with cls := 1, suite := 1, status := 0x400 })]
  forces := [(0, ⟨3, 1, 0, 0x400, 1, 0⟩)] }

theorem wit_points : (points.cor.down.accept 0).2 = true ∧ points.consumes .a = true ∧ (points.fa.pt 2).cls ≠ 0 ∧
    stExtwr (points.fa.pt 2).status = true ∧ clsAccepts (points.fa.pt 2).cls 1 = true ∧ clsAccepts (points.fa.pt 2).cls 2 = false ∧
    points.fa.forceOf 2 = none ∧ points.fa.forceOf 3 = some (0, ⟨3, 1, 0, 0x400, 1, 0⟩) ∧ (points.fa.pt 9).cls = 0 ∧
    writeStatus 1 0 (points.fa.pt 9) 1 ≠ E_OK ∧ stExtwr 0 = false ∧ points.fa.forces.length < 512 ∧ roleReads 1 = true ∧ roleReads 5 = false ∧
    readStatus 1 0 (points.fa.pt 2) = 0 ∧ readStatus 1 0 (points.fa.pt 9) ≠ 0 ∧ points.fa.subs = [] := by decide

theorem test_point_write : let u := Dev.applyIn .a true points (.pointWrite ⟨0, 0, 1, 0⟩ [(2, 1)])
    (u.fa.pt 2).value = 1 ∧ stSource (u.fa.pt 2).status = 10 := by decide

theorem test_force : let u := Dev.applyIn .a true points (.forceSet ⟨0, 0, 1, 0⟩ [(2, 1, 1)])
    (u.fa.pt 2).value = 1 ∧ stQual (u.fa.pt 2).status = 4 ∧ u.fa.forces.length = 2 := by decide +kernel

theorem wit_registers : ((flights fsActive fsAbsent).cor.down.accept 0).2 = true ∧
    ((flights fsActive fsAbsent).updCor fun c => { c with fieldUp := true }).cor.fieldUp = true ∧ (flights fsActive fsAbsent).takesReads .a = true ∧
    (flights fsActive fsAbsent).takesReads .b = false ∧ regIx (7 * 2 ^ 24) LG_CHCFG 8 = none := by
  decide +kernel

theorem wit_reg_check_passes : ∀ r ∈ [5, 6, 7], (flights fsActive fsAbsent).regCheck 1 r 1 0 = (E_OK, 0xFFFF) := by decide +kernel

theorem wit_reg_check_fails : ∀ r ∈ [5, 6, 7], ((flights fsActive fsAbsent).regCheck 0 r 1 0).1 ≠ E_OK := by decide +kernel

/-- A POINT_WRITE that the Newel accepts is the cycle's arrival and changes no point before a snapshot (R27, R139). -/
theorem test_point_write_waits : let u := after (.pointWrite ⟨0, 0, 1, 0⟩ [(2, 1)]) points
    u.nw.ingress.length = 1 ∧ u.fa.pts = points.fa.pts := by decide

theorem wit_point_lengths : ([0, 0, 1, 0] : List Byte).length ≠ 4 + 8 * field [0, 0, 1, 0] 2 2 ∧ 3 ≤ field [3, 0, 1, 0] 0 1 ∧
    field [3, 0, 1, 0] 2 2 ≠ 0 := by decide

/-! ## Images -/

/-- A KZL image of one block: LB of point 0's bit 1, then RET. -/
def kzlImage : List Byte := le 4 0x5A4B5853 ++ le 2 1 ++ le 2 1 ++ le 2 1 ++ le 2 1 ++ le 4 2 ++ List.replicate 16 0 ++
  ([0, 0, 15, 0, 1, 0] ++ le 2 1000 ++ le 2 0 ++ [1] ++ List.replicate 5 0 ++ (1 :: List.replicate 31 0)) ++ le 4 0 ++ le 4 2 ++
  le 4 0x02000001 ++ le 4 0xC4000000

/-- The required sections of a configuration: MODULE, POINTS, SUITES, PROGRAM, KEY_POLICY and NETWORK. -/
def sections : List (Nat × List Byte) := [(0x01, List.replicate 8 0 ++ [0, 3, 0, 0] ++ le 4 7 ++ List.replicate 48 0),
  (0x10, le 2 5 ++ [1] ++ List.replicate 17 0), (0x11, [0, 1] ++ List.replicate 30 0),
  (0x70, le 2 1 ++ List.replicate 30 0 ++ (sha256 kzlImage).take 16), (0x80, List.replicate 8 0 ++ [1, 0xFF, 0xFF, 0xFF, 0xFF] ++ List.replicate 67 0),
  (0x81, List.replicate 176 0)]

/-- A configuration image of those sections, with a given CRC. -/
def imageWith (crc : Nat) : List Byte :=
  let off := 64 + 16 * sections.length
  let r := sections.foldl (fun (a : List Byte × List Byte) s =>
    let pad : List Byte := List.replicate ((8 - s.2.length % 8) % 8) 0
    (a.1 ++ le 2 s.1 ++ le 2 s.2.length ++ le 4 (off + a.2.length) ++ le 4 s.2.length ++ le 2 1 ++ [0, 0], a.2 ++ s.2 ++ pad)) ([], [])
  let body := r.1 ++ r.2
  [0x53, 0x58, 0x43, 0x46] ++ le 2 1 ++ le 2 sections.length ++ le 4 (64 + body.length) ++ le 4 7 ++ le 4 0 ++ le 4 crc ++
    List.replicate 40 0 ++ body

/-- A configuration image without violation. -/
def image : List Byte := imageWith (crc32c (imageWith 0))

theorem test_kzl_image_encodes : kzlEncode (.kzLb .a 0 0 1) = some (0x02000001, none) ∧ kzlEncode (.kzRet .a 0) = some (0xC4000000, none) := by decide
set_option maxRecDepth 100000 in
theorem wit_image_fits : imagesBad 2 image kzlImage = [] := by decide +kernel

/-! ## Scans, enables, on-line change and protected memory -/

/-- Flight A active, its next grid's batch present. -/
def ready : Dev := (flights fsActive fsAbsent).updFl .a fun x => { x with bootCycle := some 1, nextGrid := 2, lastBatch := 2 }

/-- R167: TASK_ENABLE at the snapshot writes the register and tells of the bit that changes. -/
theorem test_task_enable : let u := Dev.applyIn .a true ready (.taskEnable 0 4)
    u.get (FL_TASKEN0_EN.at .a) = 4 ∧ u.fa.msgs ≠ [] := by decide +kernel

theorem wit_scan : ready.scanReady .a = true ∧ ready.frozen .a = false ∧ ready.nw.stair = none ∧ ready.fa.switchDue = false := by decide

theorem wit_frames : let fr := mkFrame 0 2 (FlightIn.pointRead ⟨9, 0, 1, 0⟩ [2]).frame
    fr.cycle ≤ ready.fa.nextGrid ∧ fr.input.isSome = true ∧ (fr.input.map FlightIn.typ) = some 0x10 := by decide

theorem wit_barrier : let w : WrEntry := { WrEntry.zero with addr := kL 1 0 }
    let d := ready.updFl .a fun x => { x with inScan := true, level := .cyclic 0, wrbuf := [w] }
    let r := (kz id).updFl .a fun x => { x with inScan := true }
    d.fa.inScan = true ∧ d.frozen .a = false ∧ (∀ e ∈ d.fa.treads, e.2.running = false) ∧ d.fa.wrbuf = [w] ∧ w.task < 64 ∧
    w.addr / 2 ^ 24 ≠ 2 ∧ w.addr / 2 ^ 24 ≠ 4 ∧ ready.fa.inScan = false ∧ (∃ e ∈ r.fa.treads, e.2.running = true) := by decide

theorem wit_levels : let d := (((ready.put ((FL_TASKCFG_LEVEL.ix 0).at .a) 3).put ((FL_TASKCFG_INTERVAL.ix 0).at .a) 1).put (FL_TASKEN0_EN.at .a) 1).updMod fun m =>
      { m with cfg := { m.cfg with tasks := [(0, TaskRec.zero)] } }
    (levelsAfter (.cyclic 0)).find? ((d.barrier .a).levelDue .a) = some (.cyclic 3) ∧
    (levelsAfter (.cyclic 3)).find? ((d.barrier .a).levelDue .a) = none := by decide +kernel

theorem wit_staging : let d := (flights fsActive fsAbsent).updNw fun n => { n with staged := [2, 4, 5] }
    let c : Cfg := Cfg.zero
    let x := d.updFl .a fun x => { x with shadow := some c, switchDue := true }
    (d.cor.down.accept 0).2 = true ∧ d.consumes .a = true ∧ d.fa.shadow = none ∧ 2 ∈ d.nw.staged ∧ 5 ∈ d.nw.staged ∧ d.jnl.camp = none ∧
    x.scanReady .a = false ∧ (ready.updFl .a fun x => { x with shadow := some c, switchDue := true }).scanReady .a = true ∧
    x.fa.enf.due = none ∧ x.fa.frames = [] ∧ x.fa.shadow = some c ∧ needsRestart (x.cfgOf .a) c = false ∧ x.nw.stair = none ∧ x.fa.switchDue = true ∧ x.fa.own = none ∧
    d.stageBad .a 0x10 [] ≠ [] := by decide +kernel

theorem wit_scrub_valid : let d := (flights fsActive fsAbsent).setWord (.fl .a) 0 0 { wordInfo0 with valid := true, corrected := true }
    (d.word (.fl .a) 0 0).valid = true ∧ (d.word (.fl .a) 0 0).err = .none ∧ (d.word (.fl .a) 0 0).corrected = true ∧
    ((flights fsActive fsAbsent).word (.fl .a) 0 0).valid = false := by decide

theorem wit_scrub : let d := flights fsActive fsAbsent
    let m : Mem := .fl .a
    d.memUp m = true ∧ d.bit (m.fld FL_SCRUBCFG_EN FY_SCRUBCFG_EN) = true ∧ (d.word m 0 0).err = .none ∧ (d.word m 0 0).corrected = false ∧
    d.remapOf m 0 0 = none ∧ d.remapFree m = some 0 ∧ (d.put (m.fld FL_SCRUBCFG_CETHR FY_SCRUBCFG_CETHR) 0).get (m.fld FL_SCRUBCFG_CETHR FY_SCRUBCFG_CETHR) = 0 ∧
    32767 + 1 = 32768 ∧ d.memUp .fy = true ∧ d.bit (Mem.fy.fld FL_SCRUBCFG_EN FY_SCRUBCFG_EN) = true := by decide +kernel

theorem wit_evacuation : let d := flights fsActive fsAbsent
    let m : Mem := .fl .a
    let e := d.updMem m fun x => { x with evacTo := some (1, 40), testing := some 3 }
    let b := d.put (m.fld FL_EVAC_BUSY FY_EVAC_BUSY) 1
    1 < m.lbanks ∧ (d.spareBank m).isSome = true ∧ d.evacIdle m = true ∧ b.evacIdle m = false ∧ (e.mem m).evacTo = some (1, 40) ∧
    (e.mem m).memWait = [] ∧ 40 ≠ e.phys m 1 ∧ (e.mem m).testing = some 3 := by decide +kernel

theorem wit_latch : let d := State.reset.dev
    let h := d.put (Mem.fy.latch 31) 5
    d.get (Mem.fy.latch 31) = 0 ∧ h.get (Mem.fy.latch 31) = 4 + 1 ∧ h.get (Mem.fy.latch 31) ≠ 7 + 1 := by decide

theorem test_latch_acquired : (after (.latchAcquire .fy 3 62) State.reset.dev).get (Mem.fy.latch 3) = 63 := by decide +kernel

/-! ## Remote I/O, DALI and Jalmethen -/

/-- Station 33 of line 1 is configured and enabled, in a state, the line enabled, its part as a function makes it. -/
def station (state : Nat) (g : Line → Line) : Dev := dev fun d =>
  ((((d.put (GL_RIOCFG_EN.ix 1) 1).put (GL_STSTATE_EN.ix 33) 1).setSs 33 state).updLine 1 g).updMod fun m =>
    { m with cfg := { m.cfg with stations := [(33, { StationCfg.zero with vendor := 5 })] } }

theorem wit_line_cycle : let r := ((station ssRun fun l => { l with haveOut := true }).updNw fun n => { n with cycle := 3 * (State.reset.dev.get (GL_RIOCFG_LINECYC.ix 1)) + 1 }).updGl fun g => { g with outImg := [(33, [])] }
    let o := station ssRun fun l => { l with running := true }
    r.bit (GL_RIOCFG_EN.ix 1) = true ∧ r.gl.paused = false ∧ (r.line 1).running = false ∧ (r.line 1).stopAt = false ∧ (r.line 1).haveOut = true ∧
    r.upd.forced.contains 1 = false ∧ (∀ i ∈ r.lineStations 1, (r.sta i).disableAt = false) ∧
    ((r.lineStations 1).filter fun i => mhas r.gl.outImg i && (r.ss i == ssRun || r.ss i == ssApply)) = [33] ∧ r.lineStarts 1 = true ∧
    (r.updNw fun n => { n with cycle := n.cycle + 1 }).lineStarts 1 = false ∧ (o.line 1).running = true ∧
    State.reset.dev.bit (GL_RIOCFG_EN.ix 1) = false ∧ (State.reset.dev.line 1).stopAt = false := by decide +kernel

theorem wit_exchange : let r := station ssRun fun l => { l with todo := [(33, false)], tries := 0 }
    let a := station ssApply fun l => { l with todo := [(33, false)], tries := 9 }
    (r.line 1).todo = [(33, false)] ∧ r.ss 33 = ssRun ∧ a.ss 33 = ssApply ∧ a.retries 1 < (a.line 1).tries + 1 ∧
    ((a.put (GL_RIOCFG_RETRIES.ix 1) 2).line 1).tries = 9 ∧ (r.put (GL_RIOCFG_RETRIES.ix 1) 2).retries 1 ≥ (r.line 1).tries + 1 ∧
    ((station ssRun fun l => { l with todo := [(33, true)] }).line 1).todo = [(33, true)] := by decide +kernel

/-- R204: the delimiter, the address with DIR, type, sequence, length, payload and CRC-32C; a damaged frame is none. -/
theorem test_rio_frame : (rioBytes ⟨0x81, 0x83, 7, [0]⟩).take 6 = [0xD5, 0x81, 0x83, 7, 1, 0] ∧ (rioBytes ⟨0x81, 0x83, 7, [0]⟩).length = 10 ∧
    rioParse true (rioBytes ⟨0x81, 0x83, 7, [0]⟩) = some ⟨0x81, 0x83, 7, [0]⟩ ∧ rioParse false (rioBytes ⟨0x81, 0x83, 7, [0]⟩) = none ∧
    rioParse true ((rioBytes ⟨0x81, 0x83, 7, [0]⟩).take 9) = none := by decide +kernel

theorem wit_replies : let r := station ssRun fun l => { l with todo := [(33, false)], running := true, seq := 7 }
    let t := station ssSearch fun l => { l with turn := some 33, running := true }
    (r.line 1).running = true ∧ (r.line 1).seq < 256 ∧ (r.staCfg 33).inputs = ([] : List Byte).length ∧ (r.line 1).todo = [(33, false)] ∧
    (t.line 1).todo = [] ∧ (t.line 1).turn = some 33 ∧ mhas r.mod.cfg.stations 33 = true := by decide +kernel

theorem wit_turn : let r := station ssSearch fun l => { l with turn := some 33 }
    let p := station ssParam fun l => { l with turn := some 33 }
    (r.line 1).turn = some 33 ∧ r.ss 33 = ssSearch ∧ p.ss 33 = ssParam ∧ (mget StationCfg.zero r.mod.cfg.stations 33).vendor = 5 ∧
    (r.sta 33).missing = false := by decide +kernel

theorem wit_station_missing : let d := (station ssSearch fun l => l).updNw fun n => { n with cycle := cycPerSec }
    d.ss 33 = ssSearch ∧ (d.line 1).enabledAt + cycPerSec ≤ d.nw.cycle ∧ d.bit (GL_STSTATE_EN.ix 33) = true ∧
    State.reset.dev.bit (GL_STSTATE_EN.ix 33) = false := by decide +kernel

/-- DALI bus 2 enabled and up, its part as a function makes it; gear 4 is bound. -/
def dali (g : Bus → Bus) : Dev := dev fun d =>
  ((((d.put (GL_DALICFG_EN.ix 2) 1).put (GL_DALISTAT_BUS.ix 2) 1).put (GL_DALICFG_POLL.ix 2) 1).updBus 2 g).updMod fun m =>
    { m with cfg := { m.cfg with dali := [⟨2, 0, 4, 9⟩] } }

theorem wit_dali : let w := dali fun x => { x with sending := some (0, 4) }
    let q := dali fun x => { x with sending := some (1, 4) }
    let a := dali fun x => { x with sending := some (1, 4), awaiting := true }
    (w.bus 2).sending = some (0, 4) ∧ (w.bus 2).awaiting = false ∧ w.get (GL_DALISTAT_BUS.ix 2) = 1 ∧ (w.bus 2).pending = [] ∧ (w.bus 2).raw = [] ∧
    (w.bus 2).resend = false ∧ (q.bus 2).sending = some (1, 4) ∧ (a.bus 2).awaiting = true ∧ a.nw.source = [] ∧
    a.fits ⟨0x05, 18, 0, 6, .dali 2 [⟨0, 4, 0, [7, 0, 0]⟩]⟩ ∧ ((dali fun x => { x with sending := some (0, 4), again := true }).bus 2).again = true ∧ (dali id).get (GL_DALICFG_POLL.ix 2) ≠ 0 ∧ (dali id).bit (GL_DALICFG_EN.ix 2) = true ∧
    State.reset.dev.bit (GL_DALICFG_EN.ix 2) = false := by unfold Dev.fits; decide +kernel

theorem wit_dali_queues : let p := dali fun x => { x with pending := [(4, 100)] }
    let f := (dali id).put (GL_DALISTAT_BUS.ix 2) 2
    dapcNext (p.bus 2) = some (4, 100) ∧ f.get (GL_DALISTAT_BUS.ix 2) = 2 ∧ (p.bus 2).raw.length < 8 ∧
    (((List.range 64).map fun i => (((dali id).bus 2).poll + i) % 64).find? fun a => (((dali id).gear 2).map (·.1)).contains a) = some 4 := by decide +kernel

/-- Link 1 enabled and up, its part as a function makes it. -/
def jml (g : Link → Link) : Dev := dev fun d => (((d.put (GL_JMLCFG_EN.ix 1) 1).put (GL_JMLSTAT_LINK.ix 1) 2).updLink 1 g).updMod fun m =>
  { m with cfg := { m.cfg with peers := [(1, 77)] } }

theorem wit_jalmethen : let u := jml fun l => { l with unacked := [(3, 0, 0, []), (4, 0, 0, [])], resends := 3 }
    (u.link 1).unacked = [(3, 0, 0, [])] ++ (4, 0, 0, []) :: [] ∧ 3 ≤ (u.link 1).resends ∧ u.get (GL_JMLSTAT_LINK.ix 1) = 2 ∧
    (jml fun l => { l with unacked := [(3, 0, 0, [])] }).link 1 ≠ Link.zero ∧ (jml id).bit (GL_JMLCFG_EN.ix 1) = true ∧
    ((jml id).put (GL_JMLSTAT_LINK.ix 1) 1).get (GL_JMLSTAT_LINK.ix 1) ≠ 2 ∧ mget? u.mod.cfg.peers 1 = some 77 := by decide +kernel

theorem wit_jalmethen_frames : let d := jml fun l => { l with rxSeq := 4 }
    jmlParse [] = none ∧ jmlKnown 9 = false ∧ jmlKnown 3 = true ∧ d.fits ⟨0x05, 21, 0, 0, .jml 1 3 true [] []⟩ ∧
    d.fits ⟨0x05, 21, 0, 4, .jml 1 0x10 false [] [1, 2]⟩ ∧ (d.link 1).rxSeq = 4 ∧ State.reset.dev.bit (GL_JMLCFG_EN.ix 1) = false := by
  unfold Dev.fits; decide +kernel

/-- R223: a frame that Jalmethen bytes spell; one flipped bit is no frame. -/
theorem test_jml_frame : jmlParse (JmlFrame.bytes ⟨3, 1, 5, 4, [1, 2]⟩) = some ⟨3, 1, 5, 4, [1, 2]⟩ ∧
    jmlParse ((JmlFrame.bytes ⟨3, 1, 5, 4, [1, 2]⟩).drop 1) = none := by decide +kernel

/-! ## Enfilade, drive channels, lamp diagnostics -/

/-- Flight A active, its Enfilade engine as a function makes it, one edge of 10 m. -/
def enf (g : EnfSt → EnfSt) : Dev := ((((flights fsActive fsAbsent).updFl .a fun x => { x with enf := g x.enf }).put
    ((FL_ENFCLASS_SPEED.ix 0).at .a) 100).put ((FL_ENFCLASS_MAXAGE.ix 0).at .a) 50).updMod fun m =>
      { m with cfg := { m.cfg with edges := [(7, { Edge.zero with length := 100 })] } }

theorem wit_enfilade_tick : let d := enf fun e => { e with due := some (4, 1), waves := [(0, { Wavelet.zero with edge := 7, weight := 65535 })] }
    let w : Wavelet := { Wavelet.zero with edge := 7, weight := 65535 }
    d.fa.enf.due = some (4, 1) ∧ d.fa.enf.taken = [] ∧ d.fa.enf.waves = [(0, w)] ∧ w.stopped = false ∧
    1 * d.enfStep .a w.cls < (d.cfgOf .a).len w.edge - w.pos ∧ min (w.age + 1) 0xFFFF ≤ d.maxAge .a w.cls ∧ d.wmin .a ≤ w.weight ∧
    State.reset.dev.fa.enf.due = none := by decide +kernel

theorem wit_enfilade_enables : (enf id).consumes .a = true ∧ (enf id).atRest = true ∧
    (enf fun e => { e with due := some (1, 1) }).atRest = true ∧ ((enf id).updFl .a fun x => { x with inScan := true }).atRest = false ∧ (enf id).enfEn .a = false ∧ ((enf id).put (FL_ENFCTL_EN.at .a) 1).enfEn .a = true := by
  decide +kernel

theorem wit_lean : let d := (enf fun e => { e with off := [(3, 1)] }).put (FL_ENFSTAT_LEANCH.at .a) 8
    mget? d.fa.enf.off 3 = some 1 ∧ d.get (FL_ENFCTL_LEAN.at .a) = 0 ∧ d.leanCh .a 3 = true ∧
    d.fa.mapTime < 1 - 1 + d.get (FL_ENFAIR2_LEANHOLD.at .a) * 1000000000 ∧
    1 - 1 + (d.put (FL_ENFAIR2_LEANHOLD.at .a) 0).get (FL_ENFAIR2_LEANHOLD.at .a) * 1000000000 ≤ d.fa.mapTime := by decide +kernel

/-- Channel 9 enabled and driven from committed values. -/
def chan (g : Chan → Chan) : Dev := dev fun d => ((((d.put (chEn 9) 1).put GL_DRVSTAT_SOURCE 2).put ⟨GL_BANKSTAT, 0, 0⟩ 1).put
    (GL_GRPCFG_BITS.ix 0) 12).updCh 9 g

theorem wit_hold_registers : let cs : CommitSet := { CommitSet.zero with image := [(9, { ChanEntry.zero with level := 4095 })] }
    let d := (chan id).updGl fun x => { x with shadow := some cs, paused := false }
    d.gl.paused = false ∧ d.gl.shadow = some cs ∧ cs.online = [] ∧ d.gl.retime = 0 ∧ cs.image = [(9, { ChanEntry.zero with level := 4095 })] ∧
    (([] : List (Nat × Nat)).contains (1, 0)) = false ∧ d.direct 9 = true := by decide +kernel

theorem wit_fades : let d := chan fun c => { c with start := true, enableAt := false }
    let m := (chan fun c => { c with enableAt := false }).put (chFading 9) 1
    (d.ch 9).start = true ∧ (d.ch 9).enableAt = false ∧ d.bit (chEn 9) = true ∧ m.bit (chFading 9) = true ∧ (m.ch 9).start = false ∧
    (chan fun c => { c with enableAt := false }).bit (chFading 9) = false ∧ State.reset.dev.bit (chEn 9) = false := by decide +kernel

theorem wit_period : let c : Chan := (chan fun c => { c with enableAt := false }).ch 9
    let d := (chan fun c => { c with enableAt := false }).put (GL_CHDIAG_EN.ix 9) 0
    d.get (GL_GRPCFG_MODE.ix (grp 9)) = 0 ∧ c.disableAt = false ∧ c.cellFault = false ∧ c.spareIn = 0 ∧ c.clr = false ∧ c.tripped = false ∧
    c.retry = false ∧ d.get (chState 9) = dsNodiag ∧ d.bit (GL_CHDIAG_EN.ix 9) = false ∧ d.acc 9 = 0 ∧ d.get GL_DRVSTAT_SOURCE ≠ 0 ∧
    d.bit ⟨GL_BANKSTAT, grp 9, grp 9⟩ = true ∧ mget? d.gl.tests (grp 9) = none ∧ ((chan fun c => { c with disableAt := true }).ch 9).disableAt = true := by
  decide +kernel

theorem wit_keepalive : let d := (chan id).updGl fun x => { x with cfgHeld := true }
    d.gl.cfgHeld = true ∧ d.get GL_DRVSTAT_SOURCE ≠ 1 ∧ State.reset.dev.gl.cfgHeld = false := by decide +kernel

theorem wit_matrix : let d := dev fun d => (d.put (GL_MXCFG_EN.ix 1) 1).updGl fun x => { x with mxRun := [(2, true)] }
    d.bit (GL_MXCFG_EN.ix 1) = true ∧ d.bit (GL_MXCFG_EN.ix 0) = false ∧ d.gl.paused = false ∧ mget false d.gl.mxRun 2 = true ∧
    mget false d.gl.mxRun 1 = false ∧ State.reset.dev.direct 255 = true := by decide +kernel

theorem wit_samples : let d := fun (n : Nat) => ((chan fun c => { c with land := true, on := 400, cOpen := n, cGood := n, cShort := n }).put (GL_CHDIAG_EN.ix 9) 1).updGl fun x => { x with k := [(0, 1)] }
    let x := d 2
    (x.bit (GL_CHDIAG_EN.ix 9) && x.drives 9 && 9 % 8 == mget 0 x.gl.k (grp 9) % 8 && !(x.ch 9).tripped && !(x.ch 9).cutNow &&
      x.get GL_DRVSTAT_SOURCE != 0 && !x.gl.adcBad.contains (9 / 8) && decide (400 ≤ x.period (grp 9))) = true ∧ x.gl.paused = false ∧
    (x.ch 9).land = true ∧ 400 ≤ (x.ch 9).on ∧ sampleOf [0, 0, 0, 0] < ((d 0).put (GL_CHTHR_OPEN.ix 9) 1).get (GL_CHTHR_OPEN.ix 9) * 16 ∧
    x.get (GL_CHTHR_OPEN.ix 9) * 16 ≤ sampleOf [4095, 4095, 4095, 4095] ∧ x.get (chState 9) ≠ dsOpen ∧
    (x.put (chState 9) dsOpen).get (chState 9) = dsOpen ∧ 3 ≤ (x.ch 9).cOpen + 1 ∧ ((d 0).ch 9).cOpen + 1 < 3 ∧ (x.ch 9).retry = false := by
  decide +kernel

theorem wit_short : let d := (chan id).put (chState 9) dsShort
    (d.put GL_DIAGCFG_SHRETRY 1).get GL_DIAGCFG_SHRETRY ≠ 0 ∧ (d.put GL_DIAGCFG_SHRETRY 0).get GL_DIAGCFG_SHRETRY = 0 ∧
    d.get (chState 9) = dsShort ∧ (d.ch 9).land = false := by decide +kernel

theorem wit_spares : let d := chan id
    let b := d.put (GL_SPARECELL_BUSY.ix 0) 1
    let t := fun (low : Bool) => d.updGl fun x => { x with tests := [(0, 9, true, low)] }
    let r := d.put GL_DIAGCFG_ROTATE 1
    mget? d.gl.tests (grp 9) = none ∧ d.spareFree (grp 9) = true ∧ b.spareFree (grp 9) = false ∧ d.bit GL_CHTEST_BUSY = false ∧
    mget? (t true).gl.tests (grp 9) = some (9, true, true) ∧ mget? (t false).gl.tests (grp 9) = some (9, true, false) ∧
    r.get GL_DIAGCFG_ROTATE ≠ 0 ∧ r.rotation = some 9 ∧ mhas r.gl.tests (grp 9) = false ∧ d.gl.paused = false ∧
    (d.put (GL_MTRCFG_EN.ix 1) 1).bit (GL_MTRCFG_EN.ix 1) = true ∧ d.bit (GL_MTRCFG_EN.ix 0) = false ∧ d.fits ⟨0x04, 1, 0, 136, .none⟩ ∧
    (d.put (GL_SPARECELL_PERM.ix 0) 0).bit (GL_SPARECELL_PERM.ix 0) = false ∧ d.bit (GL_SPARECELL_DEFECT.ix 0) = false ∧
    (d.updNw fun n => { n with cycle := 41 }).nw.cycle % 4 = 1 ∧ (d.updNw fun n => { n with cycle := 41 }).nw.cycle % 40 = 1 ∧ d.gl.adcBad = [] := by
  unfold Dev.fits; decide +kernel

/-! ## Radio chains and the mesh -/

/-- Chain 1 enabled and in a state, its part as a function makes it, band 0 with 1 % duty. -/
def chain (st : Nat) (g : RadioChain → RadioChain) : Dev := dev fun d =>
  ((((((d.put (LG_CHCFG_EN.ix 1) 1).setLgs 1 st).put LG_PROFILE_PROFILE 1).put (LG_BANDLIM_DUTY.ix 0) 100).put LG_TALLYCFG_CEILN 80).put
    (LG_CHPLAN_SPACING.ix 1) 8).updRc 1 g

/-- A request of chain 1. -/
def req : TxReq := { TxReq.zero with id := 9, chain := 1, cls := 3, preamble := 8, len := 20, deadline := 90000 }

theorem wit_tx_request : let d := (chain lsIdle id).updLg fun x => { x with inbox := [req] }
    let e := (chain lsOff id).updLg fun x => { x with inbox := [req] }
    d.lg.inbox = [req] ∧ d.lg.paused = false ∧ (d.rc 1).offAtEnd = false ∧ d.refusal req 0 = none ∧ req.strict = false ∧
    e.lg.inbox = [req] ∧ e.refusal req 0 = some 1 ∧ e.nw.source = [] ∧
    framesBytes e.nw.ingress + (⟨0x06, 1, 0, 24, .report 1 9 5 1 0 0⟩ : InFrame).bytes ≤ ingressCap := by decide +kernel

theorem wit_tx_start : let d := (chain lsIdle fun c => { c with queue := [req] }).updLg fun x => { x with duty := [(0, List.replicate 3601 0)] }
    let air := airtime req.preamble req.len req.rate
    let e := d.put (LG_BANDLIM_DUTY.ix 0) 0
    (d.rc 1).queue = [req] ∧ d.chainFree 1 0 = true ∧ reqReady req 0 = true ∧ 0 ≤ req.deadline ∧ d.strictBlocks 1 0 req = false ∧
    d.admits 1 req air = true ∧ (e.rc 1).queue = [req] ∧ e.chainFree 1 0 = true ∧ e.admits 1 req air = false ∧
    (chain lsOff id).chainFree 1 0 = false := by decide +kernel

theorem wit_tx_end : let d := chain lsTx fun c => { c with tx := some req }
    (d.rc 1).tx = some req ∧ (d.rc 1).offAtEnd = false ∧ d.hop (d.band 1) = false ∧ ((chain lsIdle id).rc 1).tx = none ∧
    d.bit (LG_CHCFG_EN.ix 1) = true ∧ State.reset.dev.bit (LG_CHCFG_EN.ix 1) = false ∧ d.lgs 1 ≠ lsOff ∧ d.lgs 1 ≠ lsFault ∧
    (chain lsFault id).lgs 1 = lsFault ∧ d.lgs 1 ≠ lsIdle ∧ (d.put (LG_BANDLIM_VALID.ix 0) 1).bit (LG_BANDLIM_VALID.ix 0) = true ∧
    (d.put (LG_BANDLIM_VALID.ix 0) 1).hop 0 = false := by decide +kernel

theorem wit_tx_order : let d := (chain lsIdle fun c => { c with queue := [req] }).updLg fun x => { x with duty := [(0, List.replicate 3601 0)] }
    let e := ((d.put (LG_CHCFG_EN.ix 0) 1).setLgs 0 lsIdle).put (LG_CHPLAN_SPACING.ix 0) 8 |>.updRc 0 fun c =>
      { c with queue := [{ req with id := 8, chain := 0, cls := 1 }] }
    d.partnerFirst 1 0 req = false ∧ e.partnerFirst 1 0 req = true ∧ (e.txBest (partner 1) 0).isSome = true ∧
    e.strictBlocks 1 0 req = false ∧ e.admits 1 req (airtime req.preamble req.len req.rate) = true := by decide +kernel

theorem wit_reception : let d := chain lsIdle id
    let rx : RxFrame := { RxFrame.zero with len := 30, fcsOk := true, rate := d.get (LG_CHCFG_RATE.ix 1), channel := d.get (LG_CHCFG_CHAN.ix 1) }
    d.lg.paused = false ∧ d.lgs 1 = lsIdle ∧ rx.cut = false ∧ d.blanked 1 rx.ts = false ∧ rx.modeSwitch = false ∧ 5 ≤ rx.len ∧ rx.len ≤ 1000 ∧
    d.rxHeld 1 + 20 + rx.psdu.length ≤ 65536 ∧
    d.fits ⟨0x06, 1, 0, 20, .receive 1 0 rx.rate rx.channel 0 4 30 []⟩ := by
  unfold Dev.fits; decide +kernel

/-- Node 7 of chain 1 configured in an active flight A that routes chain 1 to the MESH, its MAC as a function makes it. -/
def mesh (g : MacSt → MacSt) : Dev := ((((flights fsActive fsAbsent).put ((FL_CHROLE_ROLE.ix 1).at .a) 1).put (LG_CHCFG_EN.ix 1) 1).setLgs 1 lsIdle
    |>.updFl .a fun x => { x with mac := g { x.mac with chEn := [1] } }).updMod fun m =>
      { m with cfg := { m.cfg with nodeTab := [{ NodeCfg.zero with eui := 70, addr := 7, chain := 1 }] } }

theorem wit_node_frames : let h : HeldFrame := { HeldFrame.zero with dst := 7, ctr := 3, stage := 1, kind := 2, seq := some 4 }
    let d := mesh fun m => { m with queue := [h] }
    d.chainTakes .a 1 (isSleepy 7) = true ∧ d.chainTakes .a 2 (isSleepy 7) = false ∧ isNodeAddr 7 = true ∧
    (d.cfgOf .a).nodeCfg 7 = some { NodeCfg.zero with eui := 70, addr := 7, chain := 1 } ∧
    (d.rd (nbrKey .a 7)).toNat < 5 ∧ (d.fa.mac.queue.find? fun h => h.ctr == 3 && h.stage != 0 && h.dst == 7) = some h ∧
    d.role .a 1 = 1 := by decide +kernel

theorem wit_join : let d := (mesh id).put (FL_JOINCTL_PERMIT.at .a) 1
    let c := { NodeCfg.zero with eui := 70, addr := 7, chain := 1 }
    (d.cfgOf .a).nodeTab.find? (fun q => q.eui == 70) = some c ∧ d.bit (FL_JOINCTL_PERMIT.at .a) = true ∧ (d.rd (nbrKey .a 7)).toNat < 1 ∧
    c.home = none ∧ c.chain = 1 ∧ d.serves .a c = true ∧ d.chainTakes .a 1 c.sleepy = true ∧ d.role .a 1 = 1 ∧
    (d.cfgOf .a).nodeTab.find? (fun q => q.eui == 71) = none := by decide +kernel

theorem wit_mesh_down : let d := (mesh fun m => { m with nodes := [(7, { NodeState.zero with joined := true, chain := 1 })] }).put (FL_MACCFG_BICODE.at .a) 4
    (d.nodeSt .a 7).lost = false ∧ (d.cfgOf .a).nodeCfg 7 ≠ none ∧
    d.reachable .a 7 = true ∧ d.fitsSlot .a (d.nodeSt .a 7).chain 4 true = true ∧ (d.cfgOf .a).nodeCfg 8 = none ∧ d.role .a 1 = 1 ∧
    d.get (FL_FWDIST_PHASE.at .a) = 0 := by decide +kernel

/-- The mesh between two scans at an instant by the map. -/
def meshAt (t : Nat) (g : MacSt → MacSt) : Dev := (mesh g).updFl .a fun x => { x with mapTime := t, inScan := false }

theorem wit_node_lost : let d := meshAt (10 ^ 15) fun m => { m with nodes := [(7, { NodeState.zero with joined := true, chain := 1 })] }
    let e := meshAt 0 id
    d.atRest = true ∧ d.consumes .a = true ∧ d.lostDue .a 7 = true ∧ e.lostDue .a 7 = false ∧
    ((mesh id).updFl .a fun x => { x with inScan := true }).atRest = false := by decide +kernel

theorem wit_mac_beacon : let d := meshAt 0 fun m => { m with locked := true, keys := [(0, 1)] }
    d.atRest = true ∧ d.macTime .a = true ∧ d.chainUp .a 1 = true ∧ d.role .a 1 = 1 ∧ d.hasKey .a d.fa.mac.gkey = true ∧
    (d.rd (Flt.a.key FL_MACTXCTR)).toNat + 8 < 0xFFFFFFFF ∧ mget 0 d.fa.mac.beaconI 1 ≠ d.intervalAt .a 1 d.fa.mapTime + 2 ∧
    d.clearFrom .a 1 ≤ d.slotTx .a 1 (d.intervalAt .a 1 d.fa.mapTime + 1) 0 ∧ (mesh id).macTime .a = false := by decide +kernel

theorem wit_mac_reports : let h : HeldFrame := { HeldFrame.zero with num := 2, dst := 0x4001, seq := some 6 }
    let r := { MacReq.zero with num := 2 }
    let d := meshAt 0 fun m => { m with reqs := [(5, r)], queue := [h] }
    let e := meshAt 1 fun m => { m with queue := [h] }
    mget? d.fa.mac.reqs 5 = some r ∧ r.kind ≠ 4 ∧ (d.fa.mac.queue.find? fun h => h.num == r.num) = some h ∧ h.ackreq = false ∧
    mget? d.fa.mac.reqs 4 = none ∧ e.atRest = true ∧ e.consumes .a = true ∧
    (e.fa.mac.queue.find? fun h => h.dst == 0x4001 && h.seq == some 6 && isSleepy 0x4001 && h.stage != 1 &&
      decide (h.deadline < e.fa.mapTime)) = some h := by decide +kernel

theorem wit_peers : let d := ((meshAt 3000000 id).put ((FL_PEERCFG_VALID.ix 1).at .a) 1).put ((FL_PEERSTAT_MISS.ix 1).at .a) 2
    let e := d.put ((FL_CHROLE_ROLE.ix 2).at .a) 3
    d.bit ((FL_PEERCFG_VALID.ix 1).at .a) = true ∧ d.missDue .a 1 = some 0 ∧ 2 ≤ d.get ((FL_PEERSTAT_MISS.ix 1).at .a) ∧
    (meshAt 0 id).missDue .a 1 = none ∧ (∀ k, k < 8 → d.role .a k ≠ 3) ∧ e.role .a 2 = 3 ∧
    ((List.range 8).find? fun p => e.bit ((FL_PEERCFG_VALID.ix p).at .a) &&
      (e.rd (Flt.a.key FL_PEERSER + 8 * p)).toNat + 2 ^ 32 * (e.rd (Flt.a.key FL_PEERSER + 8 * p + 4)).toNat == 0) = some 1 ∧
    (let o := e.peerOff .a 1
     let i := (o + e.bi .a / 2 - o) / e.bi .a
     o ≤ i * e.bi .a + o + 2000000 ∧ i * e.bi .a + o ≤ o + 2000000 ∧ mget 0 e.fa.mac.coordSeen 1 ≠ i + 1) := by decide +kernel

/-! ## Time -/

/-- PTP enabled, a servo state, the time base as a function makes it. -/
def servo (st : Nat) (g : TimeSt → TimeSt) : Dev := dev fun d => { ((d.put FY_PTPCFG_EN 1).put FY_TBSTAT_SERVO st) with time := g d.time }

/-- Master 5 selected. -/
def master5 (x : TimeSt) : TimeSt := { x with master := some 5, masters := [⟨5, []⟩] }

theorem wit_ptp_messages : let d := servo svAcquiring master5
    d.bit FY_PTPCFG_EN = true ∧ d.get FY_PTPCFG_DOMAIN = 0 ∧ d.servoTakes 5 = true ∧ d.servoTakes 6 = false ∧
    State.reset.dev.bit FY_PTPCFG_EN = false ∧ State.reset.dev.time.twoStep = none := by decide +kernel

theorem wit_offset_sample : let off : Int := 200 - 100 - 50
    let d := servo svLocked fun x => { master5 x with twoStep := some (3, 200), mpd := some 50 }
    let bad' := servo svLocked fun x => { master5 x with twoStep := some (3, 200), mpd := some 50, mpds := [10] }
    d.time.twoStep = some (3, 200) ∧ d.servoTakes 5 = true ∧ d.time.mpd = some 50 ∧ d.servo = svLocked ∧ off.natAbs ≤ 10000 ∧
    (((50 : Int) :: d.time.mpds).take 16).all (fun p => decide (50 ≤ 4 * p)) = true ∧
    (((50 : Int) :: bad'.time.mpds).take 16).all (fun p => decide (50 ≤ 4 * p)) = false ∧
    (servo svLocked fun x => { master5 x with twoStep := some (3, 200) }).time.mpd = none := by decide +kernel

theorem wit_servo_transitions : let w := servo svLocked fun x => { master5 x with twoStep := some (3, 200000), mpd := some 50, wide := 3 }
    let l := servo svAcquiring fun x => { master5 x with twoStep := some (3, 200), mpd := some 50, good := 15, nSamples := 4 }
    let p := servo svAcquiring fun x => { master5 x with twoStep := some (3, 10 ^ 15), mpd := some 50, nSamples := 3 }
    (w.servoTakes 5 && l.servoTakes 5 && p.servoTakes 5) = true ∧ 10000 < (200000 - 100 - 50 : Int).natAbs ∧ w.time.wide = 3 ∧
    w.servo = svLocked ∧ l.servo = svAcquiring ∧ (200 - 100 - 50 : Int).natAbs ≤ 1000 ∧ l.time.good = 15 ∧ p.servo = svAcquiring ∧
    p.time.nSamples = 3 ∧ p.time.good < 15 ∧ p.bit FY_TBSTAT_STEPUSED = false ∧
    leastMpd (((10 ^ 15 - 100 - 50, 50) :: p.time.samples).take 4) = some (10 ^ 15 - 100 - 50, 50) ∧
    p.stepThr < (10 ^ 15 - 100 - 50 : Int).natAbs := by decide +kernel

theorem wit_path_delay : let d := servo svLocked fun x => { master5 x with sync := some (100, 200), dreq := some (100, 200, 300) }
    d.time.sync = some (100, 200) ∧ d.time.master = some 5 ∧ d.time.dreq = some (100, 200, 300) ∧ (0 : Int) ≤ ((200 - 100) + (350 - 300)) / 2 ∧
    d.time.master ≠ some 6 := by decide +kernel

theorem wit_sync_timeout : let a := servo svAcquiring fun x => { master5 x with lockedEver := true }
    (servo svLocked master5).servo = svLocked ∧ (servo svLocked master5).time.master = some 5 ∧
    (∀ m ∈ (servo svLocked master5).time.masters, m.ident = 5) ∧ a.servo = svAcquiring ∧ a.time.lockedEver = true ∧
    (servo svAcquiring master5).time.lockedEver = false ∧ State.reset.dev.time.master = none := by decide +kernel

theorem wit_trust_expiry : let d := dev fun d => (d.put FY_TBSTAT_TRUST 1).put FY_TBSTAT_SOURCE 3
    d.bit FY_TBSTAT_TRUST = true ∧ d.get FY_TBSTAT_SOURCE ≠ 2 ∧ d.arc.landing.length < arcCap ∧ d.arc.warned = false ∧
    State.reset.dev.bit FY_TBSTAT_TRUST = false := by decide +kernel

theorem wit_cycle_mark : let d := fun (n : Nat) => dev fun d => ((d.put FY_MODSTATE_STATE msService).updCor fun c => { c with hostUp := true }).updTime fun x => { x with markNo := some n }
    (d 3).time.markNo = some 3 ∧ (3 + 1) % 4 = 0 ∧ (d 3).cor.hostUp = true ∧ msSelftest ≤ (d 3).mst ∧ (4 + 1) % 4 ≠ 0 := by decide +kernel

theorem wit_alarms : let d := dev fun d => ((d.put (tal FY_TALCTL_EN 2) 1).wr (FY_TALCMPLO + 16 * 2) 500).updTime fun x => { x with
      bNs := 1000, alarms := [(2, ⟨true, 0⟩)] }
    d.bit (tal FY_TALCTL_EN 2) = true ∧ 0 < (d.rd (FY_TALCMPLO + 16 * 2)).toNat ∧ (d.rd (FY_TALCMPLO + 16 * 2)).toNat ≤ d.nowNs ∧
    (mget Alarm.zero d.time.alarms 2).armed = true ∧ (mget Alarm.zero d.time.alarms 2).lf < d.talCmp 2 ∧ d.talCmp 2 ≤ unitsNs (d.timeAt 0) ∧
    State.reset.dev.bit (tal FY_TALCTL_EN 2) = false := by decide +kernel

theorem wit_rtc_and_checkpoints : let d := (flights fsActive fsStandby).updCor fun c => { c with hostUp := true, fieldUp := true }
    let t := (d.put FY_TBSTAT_TRUST 1).put FY_TBSTAT_SOURCE 3
    d.active = some .a ∧ d.linkUp = true ∧ t.bit FY_TBSTAT_TRUST = true ∧ 2 ≤ t.get FY_TBSTAT_SOURCE ∧ State.reset.dev.active = none ∧
    t.arc.landing.length < arcCap ∧ t.arc.warned = false := by decide +kernel

/-! ## The host port -/

/-- The host port is up, the core domain too, the port's part as a function makes it. -/
def host (g : HostSt → HostSt) : Dev := dev fun d => (d.put FY_MODSTATE_STATE msService).updHost fun h => g { h with portUp := true, coreDown := false }

theorem wit_host_access : let d := host id
    d.host.portUp = true ∧ d.host.coreDown = false ∧ (d.clock 0).fyLive (fyKey 0) = none ∧ needsCore (fyKey 0) = false ∧ (regRow (fyKey 0)).isSome = true ∧
    needsCore FY_ALCPTR = true ∧ (host fun h => { h with coreDown := true }).host.coreDown = true ∧ actsOnAccess (fyKey 0) = false ∧
    regRow (fyKey 0xFF00) = none ∧ (d.clock 0).fyLive (fyKey 0xFF00) = none := by decide +kernel

theorem wit_session_bind : let d := fun (u : Bool) => (host id).updFmp fun f => { f with sessions := [(3, { Session.zero with udp := u })] }
    mget? (d false).fmp.sessions (bitsOf (3 : W32).toNat 7 0) = some { Session.zero with udp := false } ∧
    mget? (d true).fmp.sessions (bitsOf (3 : W32).toNat 7 0) = some { Session.zero with udp := true } ∧
    bitsOf (0x100 : W32).toNat 7 0 = 0 ∧ bitsOf (3 : W32).toNat 7 0 ≠ 0 := by decide +kernel

theorem wit_vector : let d := ((host id).put ⟨FY_EVPEND, 6, 6⟩ 1).put ⟨FY_EVEN, 6, 6⟩ 1
    d.hostSources = [6] ∧ State.reset.dev.hostSources = [] ∧ (host id).arc.landing.length < arcCap ∧
    (∀ m ∈ (Ev.mk' .fyAlcTimeout [2]).sources, m < 128) ∧ (Ev.mk' .fyAlcTimeout [2]).region < 8 := by decide +kernel

theorem wit_proxy : let d := fun (role : Nat) => (((host id).updFmp fun f => { f with sessions := [(3, { Session.zero with role := role })] }).put
      FY_HPSESS_SESSION 3).updCor fun c => { c with hostUp := true }
    (host id).host.coreDown = false ∧ mget? (host id).fmp.sessions ((host id).get FY_HPSESS_SESSION) = none ∧
    mget? (d 1).fmp.sessions ((d 1).get FY_HPSESS_SESSION) = some { Session.zero with role := 1 } ∧
    mget? (d 3).fmp.sessions ((d 3).get FY_HPSESS_SESSION) = some { Session.zero with role := 3 } ∧ (d 1).bit FY_CRPCTL_BUSY = false ∧
    ((d 1).put FY_CRPCTL_BUSY 1).bit FY_CRPCTL_BUSY = true ∧ (d 1).cor.hostUp = true ∧ (host id).cor.hostUp = false ∧
    FY_MODSTATE / 2 ^ 24 = 1 ∧ actsOnAccess FY_MODSTATE = false ∧ NW_STAIRCFG / 2 ^ 24 = 5 ∧ NW_STAIRCFG ∉ [NW_SWCTL, NW_QUAR, NW_REPAIRCFG] ∧
    LG_PROFILE / 2 ^ 24 = 7 ∧ keysIn [(LG_CHCFG, 8)] LG_PROFILE = false := by decide +kernel

theorem wit_alcoves : let d := host id
    let f := (host fun h => { h with alcoves := [2] }).put (alcFull 2) 1
    let b := d.put (alc FY_ALCPTR_PTR 20) 0x7FFFF |>.put (alc FY_ALCLEN_LEN 20) 16
    d.bit (alcFull 2) = false ∧ f.bit (alcFull 2) = true ∧ d.get (alc FY_ALCLEN_LEN 2) = 0 ∧ d.get (alc FY_ALCPTR_PTR 2) ≤ 0x100000 ∧
    b.get (alc FY_ALCPTR_PTR 20) < 0x80000 ∧ b.get (alc FY_ALCLEN_LEN 20) ≠ 0 ∧ 2 ∈ f.host.alcoves ∧ d.host.alcoves = [] ∧
    f.arc.landing.length < arcCap ∧ f.arc.warned = false ∧ mget [] (host fun h => { h with waiting := [(4, [(9, [1, 2])])] }).host.waiting (20 - 16) =
      (9, [1, 2]) :: [] ∧ mget [] d.host.waiting 4 = [] ∧ msServes d.mst = true ∧ d.mod.romHold = false := by decide +kernel

theorem wit_landings : let pk := fun (k items : Nat) => host fun h => { h with packers := [(1, { Packer.zero with held := List.replicate k 7, items := items })] }
    let q := host fun h => { h with items := [(1, [⟨0xF, [1, 2, 3, 4, 5, 6, 7, 8]⟩, ⟨1, [9]⟩])] }
    let w := host fun h => { h with words := [(5, [(17, true)])] }
    ((pk 3 0).packer 1).overflowed = false ∧ ((pk 3 0).packer 1).abortDue = false ∧ ((pk 3 0).packer 1).dropping = false ∧
    ((pk 3 0).packer 1).held.length < 8 ∧ ((pk 8 2).packer 1).held.length = 8 ∧ 0 < ((pk 8 2).packer 1).items ∧ ((pk 3 0).packer 1).held ≠ [] ∧
    ((pk 0 0).packer 1).held = [] ∧ packetRest (mget [] q.host.items 1) = some [] ∧ packetRest (mget [] (pk 0 0).host.items 1) = none ∧
    mget [] w.host.words 5 = (17, true) :: [] ∧ mget [] w.host.ldWait 5 = [] ∧ mget [] q.host.words 5 = [] ∧
    (host fun h => { h with items := [(1, List.replicate 512 ⟨0xF, []⟩)] }).host.items = [(1, List.replicate 512 ⟨0xF, []⟩)] := by decide +kernel

/-- Physical word 0 of the bank that carries the first bank of the window, with an error of its own. -/
def badWindow (e : WordErr) : Dev := (host id).setWord .fy ((host id).phys .fy 12) 0 { wordInfo0 with valid := true, err := e }

theorem wit_window : let d := host id
    let b := badWindow .uncorrectable
    let home := b.home .fy (b.phys .fy (windowPlace 0).1) (windowPlace 0).2
    (∀ i, i < 8 → d.wordClean .fy (windowPlace i).1 (windowPlace i).2) ∧ d.bit FY_ECCTEST_ARM = false ∧
    (b.word .fy home.1 home.2).valid = true ∧ (b.word .fy home.1 home.2).err = .uncorrectable := by
  unfold Dev.wordClean; decide +kernel

theorem wit_event_region : (Ev.mk' .fyAttest []).regionOk = true ∧ ({ Ev.mk' .fyAttest [] with region := 8 } : Ev).regionOk = false ∧
    FL_SCRUBCFG % 2 ^ 24 + 3 * 2 ^ 24 = FL_SCRUBCFG ∧ FL_SCRUBCFG / 2 ^ 24 = 3 := by decide

/-! ## The Foyer message protocol -/

/-- Client 2 known, the core domain up, random numbers healthy, the protocol's part as a function makes it. -/
def fmp (g : FmpSt → FmpSt) : Dev := dev fun d => ((((d.put FY_MODSTATE_STATE msService).put FY_UCSTAT_TRNG 1).updMod fun m =>
  { m with romHold := false, cfg := { m.cfg with clients := [(2, { KeyClient.zero with role := 1 })] } }).updHost fun h =>
    { h with portUp := true, coreDown := false }).updFmp g

/-- A HELLO of a client. -/
def helloOf (c : Nat) : List Byte := [1, 0] ++ le 2 c ++ List.replicate 32 0 ++ [4] ++ List.replicate 64 0

theorem wit_hello : let d := fmp id
    d.carrierUp true 0 = true ∧ (helloOf 2).length = 101 ∧ field (helloOf 2) 0 1 = 1 ∧ field (helloOf 2) 36 1 = 4 ∧ d.fmp.sessions.length < 32 ∧
    d.fmp.shakes.length < 8 ∧ mhas d.clientTable (field (helloOf 2) 2 2) = true ∧ d.entropy = true ∧ mhas d.clientTable (field (helloOf 3) 2 2) = false ∧
    (field (helloOf 2) 2 2) ∉ d.fmp.locked ∧ (d.put FY_UCSTAT_TRNG 2).entropy = false ∧ mget? d.fmp.shakes 9 = none ∧
    2 ∈ (fmp fun f => { f with locked := [2] }).fmp.locked ∧
    8 ≤ (fmp fun f => { f with shakes := (List.range 8).map fun i => (i + 1, Handshake.zero) }).fmp.shakes.length := by decide +kernel

theorem wit_finish : let h : Handshake := ⟨2, 9, true, 0, 0, 0, 48⟩
    let d := fmp fun f => { f with shakes := [(9, h)] }
    mget? d.fmp.shakes 9 = some h ∧ h.session = 9 ∧ d.carrierUp true 0 = true ∧ mget? d.clientTable h.client = some { KeyClient.zero with role := 1 } ∧
    d.arc.landing.length < arcCap ∧ d.arc.warned = false := by decide +kernel

theorem wit_records : let x : Session := { Session.zero with role := 1, rxSeq := 4, udp := true }
    let d := fmp fun f => { f with sessions := [(9, x)] }
    let msg : List Byte := [0x02, 0, 5, 0]
    let q : FmpReq := ⟨1, 2, 0, [], 0, false⟩
    mget? d.fmp.sessions 9 = some x ∧ msg.length + 32 ≤ d.maxRecord true 0 ∧ x.rxSeq < 5 ∧ 5 < 2 ^ 63 ∧ x.txSeq < 2 ^ 62 ∧ 4 ≤ msg.length ∧
    field msg 2 2 ≠ 0 ∧ field msg 1 1 % 2 = 0 ∧ x.busy.length + x.joining.length < 4 ∧ (opRoles (field msg 0 1)).isSome = true ∧
    x.replies = [] ∧ opRoles (field [0x77, 0, 5, 0] 0 1) = none ∧
    4 ≤ ({ x with busy := [q, { q with id := 2 }, { q with id := 3 }, { q with id := 4 }] } : Session).busy.length ∧
    mhas d.fmp.sessions 8 = false ∧ (d.updCor fun c => { c with hostUp := true }).cor.hostUp = true := by decide +kernel

/-- Session 9 of a role with one request in progress. -/
def asking (role op : Nat) (payload : List Byte) : Dev := fmp fun f => { f with sessions := [(9, { Session.zero with
  role := role, busy := [⟨5, op, 0, payload, 0, false⟩] })] }

theorem wit_asked : let x := fun (role op : Nat) (p : List Byte) => ({ Session.zero with role := role, busy := [⟨5, op, 0, p, 0, false⟩] } : Session)
    (asking 1 0x20 []).asked 9 (x 1 0x20 []) ⟨5, 0x20, 0, [], 0, false⟩ ∧ (asking 3 0x20 []).asked 9 (x 3 0x20 []) ⟨5, 0x20, 0, [], 0, false⟩ ∧
    (x 1 0x20 []).txSeq < 2 ^ 61 ∧ ((asking 1 0x20 []).updMod fun m => { m with romHold := true }).mod.romHold = true ∧
    (asking 1 0x20 []).mod.romHold = false ∧ (asking 1 0x20 []).cor.hostUp = false ∧ 3 ∉ [1, 2] := by
  unfold Dev.asked; decide +kernel

theorem wit_lreg_read : let p : List Byte := [0, 1, 0, 0, 2, 0, 0, 0]
    p.length = 8 ∧ 1 ≤ field p 4 1 ∧ field p 4 1 ≤ 64 ∧ field p 0 4 % 4 = 0 ∧ field p 0 4 + 4 * (field p 4 1 - 1) ≤ 0xFFFC ∧
    (asking 1 0x22 p).mst ≠ msHold ∧ ((asking 1 0x11 []).put FY_MODSTATE_STATE msHold).mst = msHold ∧
    ((asking 1 0x11 []).updCor fun c => { c with hostUp := true }).cor.hostUp = true := by decide +kernel

theorem wit_time_set : let p : List Byte := [0, 0, 0, 0, 1, 0, 0, 0]
    let d := asking 1 0x30 p
    let target := d.timeAt (max d.time.raw 0) + signed 64 (field p 0 8) * 4294967296
    let base := (d.time.bNs : Int) * 4294967296 + d.time.bFrac + (target - d.timeAt (max d.time.raw 0))
    p.length = 8 ∧ d.servo ≠ svLocked ∧ 0 ≤ base ∧ base < 2 ^ 96 ∧ (d.put FY_TBSTAT_SERVO svLocked).servo = svLocked ∧ bitOf 0 1 = false ∧
    d.get FY_TBSTAT_SOURCE < 4 := by decide +kernel

theorem wit_restart : let d := (asking 1 0x70 [2]).put FY_MODSTATE_FIELDPWR 1
    d.bit FY_MODSTATE_FIELDPWR = true ∧ d.mst = msService ∧ (asking 1 0x70 [2]).bit FY_MODSTATE_FIELDPWR = false ∧ field [2] 0 1 ≤ 2 ∧
    (d.put FY_MODSTATE_STATE msSelftest).mst ≠ msHold := by decide +kernel

/-- At reset no word of the Foyer's memory has an error. -/
theorem wit_foyer_clean : (fmp id).foyerClean := ⟨by decide +kernel, fun _ _ => .inr rfl⟩

theorem wit_lreg_latch : let p := le 4 (FY_LATCH % 2 ^ 24 + 8) ++ [1, 0, 0, 0]
    p.length = 8 ∧ field p 4 1 = 1 ∧ fyKey (field p 0 4) = FY_LATCH + 4 * 2 ∧
    (∀ i, i < 2 → keysIn [(FY_EVVEC, 1), (FY_TBRAWLO, 1), (FY_TIMELO, 1), (FY_OPSECLO, 1), (FY_RTCSUB, 1), (FY_RTCCAL1, 1), (FY_LATCH, 32)]
      (fyKey (0x200 + 4 * i)) = false) := by decide +kernel

/-! ## The Undercroft -/

/-- Session 9 of the operator with one key request in progress, random numbers healthy, the Undercroft's part as a function makes it. -/
def crypt (op : Nat) (payload : List Byte) (g : UnderSt → UnderSt) : Dev :=
  (((dev fun d => ((d.put FY_UCSTAT_TRNG 1).updHost fun h => { h with portUp := true, coreDown := false }).updFmp fun f =>
    { f with sessions := [(9, { Session.zero with role := 1, busy := [⟨5, op, 0, payload, 0, false⟩] })] }).updMod fun m => { m with romHold := false })).updUnd g

/-- An AES-type key of a usage and flags, generation 1. -/
def aes (usage flags : Nat) : KeyAttr := { emptyKey with typ := 2, usage := usage, flags := flags, gen := 1, key := List.replicate 32 7 }

theorem wit_key_asked : let x : Session := { Session.zero with role := 1, busy := [⟨5, 0x52, 0, [], 0, false⟩] }
    (crypt 0x52 [] id).asked 9 x ⟨5, 0x52, 0, [], 0, false⟩ ∧ (crypt 0x52 [] id).mod.romHold = false ∧ x.txSeq < 2 ^ 61 := by
  unfold Dev.asked; decide +kernel

theorem wit_attest : let p : List Byte := 16 :: List.replicate 16 3
    let d := crypt 0x50 p id
    field p 0 1 = 16 ∧ p.length = 1 + 16 ∧ d.arc.landing.length < arcCap ∧ d.arc.warned = false ∧
    d.und.attests < 4 ∧ (crypt 0x50 p fun u => { u with attSecond := 0, attests := 4 }).und.attests = 4 ∧ field [5] 0 1 < 16 := by decide +kernel

theorem wit_key_info : let d := crypt 0x51 [9] fun u => { u with slots := [(9, aes 0 0), (10, { aes 0 0 with parent := 9, pgen := 0 })] }
    (d.slot 9).typ ≠ 0 ∧ d.stale 9 = false ∧ (d.slot 11).typ = 0 ∧ (d.slot 10).typ ≠ 0 ∧ d.stale 10 = true ∧ 63 < field [70] 0 1 := by decide +kernel

theorem wit_key_prepare : let p : List Byte := [9, 2, 0, 0, 0, 10, 2, 0, 65, 66]
    let w : List Byte := [9, 2, 0, 0, 2, 10, 2, 0, 1, 2]
    let d := crypt 0x52 p fun u => { u with slots := [(10, aes 0x30 0), (11, aes 0 4)], pend := [(12, ⟨aes 0 0, 8⟩)] }
    let deep := crypt 0x52 p fun u => { u with slots := (10, { aes 0x30 0 with parent := 13, pgen := 1 }) ::
      [(13, { aes 0 0 with parent := 14, pgen := 1 }), (14, { aes 0 0 with parent := 15, pgen := 1 }), (15, { aes 0 0 with parent := 16, pgen := 1 }), (16, aes 0 0)] }
    (8 ≤ field p 0 1 ∧ field p 0 1 < 48) ∧ bitOf (d.slot 9).flags 2 = false ∧ mget? d.und.pend 9 = none ∧ p.length = 8 + field p 6 2 ∧
    field p 4 1 = 0 ∧ d.entropy = true ∧ (d.put FY_UCSTAT_TRNG 2).entropy = false ∧ d.useCode 10 [2, 3] 4 = E_OK ∧ d.depth 10 < 4 ∧
    ((p.drop 8).take (field p 6 2)).length ≤ 32 ∧ d.useCode 10 [2] 5 = E_OK ∧ bitOf (d.slot 11).flags 2 = true ∧
    mget? d.und.pend 12 = some ⟨aes 0 0, 8⟩ ∧ deep.useCode 10 [2, 3] 4 = E_OK ∧ 4 ≤ deep.depth 10 ∧ field w 4 1 = 2 ∧
    field ((w.drop 8).take (field w 6 2)) 0 1 = 1 ∧ field ((w.drop 8).take (field w 6 2)) 1 1 = field w 1 1 := by decide +kernel

theorem wit_key_commit : let d := crypt 0x53 [9] fun u => { u with slots := [(9, aes 0 2), (10, { aes 0x20 0 with parent := 9, pgen := 1 })], pend := [(9, ⟨aes 0 1, 9⟩)] }
    let q : KeyPend := ⟨aes 0 1, 9⟩
    mget? d.und.pend 9 = some q ∧ q.session = 9 ∧ d.arc.warned = false ∧ (d.slot 9).gen ≠ 0xFFFFFFFF ∧
    max (recCtr (d.keyRec 9).a) (recCtr (d.keyRec 9).b) ≠ 0xFFFFFFFF ∧ mget? d.und.pend 11 = none ∧ (d.slot 10).parent = 9 ∧ d.stale 10 = false ∧
    (d.updArc fun a => { a with warned := true }).arc.warned = true ∧ bitOf (d.slot 9).flags 1 = true ∧ bitOf (d.slot 10).flags 1 = false ∧
    d.useCode 10 [2] 5 = E_OK ∧ (d.slot 9).key.length < 2 ^ 61 := by decide +kernel

theorem wit_stream : let d := crypt 0 [] fun u => { u with slots := [(9, aes 1 0)], ctxs := [(1, 9), (2, 11)] }
    mget? d.und.ctxs 3 = none ∧ d.useCode 9 [1, 2, 3] 0 = E_OK ∧ d.useCode 11 [1, 2, 3] 0 ≠ E_OK ∧ mget? d.und.ctxs 1 = some 9 ∧ (d.slot 9).typ ≠ 0 ∧
    d.stale 9 = false ∧ mget? d.und.ctxs 2 = some 11 ∧ (d.slot 11).typ = 0 ∧ 16 ≤ (crypt 0 [] fun u => { u with ctxs := List.replicate 16 (3, 9) }).und.ctxs.length ∧ d.get FY_UCSTAT_TRNG ≠ 3 ∧ (d.put FY_UCSTAT_TRNG 3).get FY_UCSTAT_TRNG = 3 := by
  decide +kernel

/-! ## The Arcade, the journal's archive and the Ethernet ports -/

/-- Session 9 of the operator with one Arcade request in progress, the Arcade's part as a function makes it. -/
def arcade (op : Nat) (payload : List Byte) (g : ArcSt → ArcSt) : Dev :=
  (dev fun d => (((d.put FY_UCSTAT_TRNG 1).updHost fun h => { h with portUp := true, coreDown := false }).updFmp fun f =>
    { f with sessions := [(9, { Session.zero with role := 1, busy := [⟨5, op, 0, payload, 0, false⟩] })] }).updMod fun m =>
      { m with romHold := false, started := true, cfg := { m.cfg with auditKey := some [1] } }).updArc g

/-- A landing entry. -/
def entry' : LandEntry := ⟨.mk' .fyAlcTimeout [2], false, false⟩

/-- A record of a sequence number. -/
def record' (n : Nat) : Record := ⟨n, 0, 0, 0, .mk' .fyAlcTimeout [2], false, false, false⟩

theorem wit_arcade_asked : let x : Session := { Session.zero with role := 1, busy := [⟨5, 0x58, 0, [], 0, false⟩] }
    (arcade 0x58 [] id).asked 9 x ⟨5, 0x58, 0, [], 0, false⟩ ∧ (arcade 0x58 [] id).mod.romHold = false ∧ x.txSeq < 2 ^ 61 := by
  unfold Dev.asked; decide +kernel

theorem wit_arcade_clear : let p : List Byte := [1, 0, 0, 0] ++ List.replicate 72 0
    let d := (arcade 0x59 p fun a => { a with nonces := [(9, [], 0)] }).wr FY_ARCNEXT 8
    p.length = 76 ∧ field p 0 1 = 1 ∧ d.mod.cfg.auditKey ≠ none ∧ d.nonceOk 9 = true ∧ field p 4 4 = (d.rd FY_ARCOLD).toNat ∧
    seqFrom (d.rd FY_ARCOLD).toNat (field p 8 4) < seqFrom (d.rd FY_ARCOLD).toNat (d.rd FY_ARCNEXT).toNat ∧ d.arc.clearing = none ∧
    field p 4 4 ≠ ((d.wr FY_ARCOLD 3).rd FY_ARCOLD).toNat ∧ (arcade 0x59 p id).arc.nonces = [] ∧ d.entropy = true ∧
    (d.put FY_UCSTAT_TRNG 2).entropy = false ∧ (d.updMod fun m => { m with cfg := { m.cfg with auditKey := none } }).mod.cfg.auditKey = none := by
  decide +kernel

theorem wit_record_form : let d := arcade 0 [] fun a => { a with landing := [entry'], buffer := [record' 0] }
    let q := d.put FY_ARCSTAT_FLUSHING 1
    d.mod.started = true ∧ d.arc.landing = entry' :: [] ∧ d.arc.buffer.length < 1024 ∧ (d.rd FY_ARCNEXT).toNat + 1 < 2 ^ 32 ∧ d.arc.buffer ≠ [] ∧
    d.bit FY_ARCSTAT_SUPPRESSING = false ∧ (d.put FY_ARCSTAT_SUPPRESSING 1).bit FY_ARCSTAT_SUPPRESSING = true ∧ d.arc.warned = false ∧
    2 ≤ ({ entry'.ev with id := .fyTrngFail } : Ev).severity ∧ q.bit FY_ARCSTAT_FLUSHING = true ∧ d.arc.clearing = none ∧
    q.arc.ring.length + q.arc.buffer.length - 131072 = 0 ∧ d.bit FY_ARCSTAT_FLUSHING = false ∧ State.reset.dev.mod.started = false := by decide +kernel

theorem wit_flush_clear : let c : ArcClear := { ArcClear.zero with first := 0, last := 0, upto := 0 }
    let d := (arcade 0 [] fun a => { a with buffer := [record' 0], clearing := some c }).put FY_ARCSTAT_FLUSHING 1
    d.bit FY_ARCSTAT_FLUSHING = true ∧ d.arc.clearing = some c ∧ (∃ q ∈ d.arc.ring ++ d.arc.buffer, q.seq = c.upto) := by decide +kernel

theorem wit_archive : let d := arcade 0 [] id
    let A : Archive := { Archive.zero with seq := 1 }
    let e := { d with jnl := { d.jnl with archA := some A, archB := some { A with seq := 2 } } }
    d.debug = false ∧ d.jnl.archA = none ∧ e.jnl.archA = some A ∧ e.jnl.archB = some { A with seq := 2 } ∧ 1 ≤ 2 ∧
    (d.put FY_UCSTAT_LIFECYCLE 3).debug = true ∧ (d.setSlotState 0 0 5).slotState (d.jnl.scrub % 18 / 2) (d.jnl.scrub % 18 % 2) = 5 := by decide +kernel

/-- Both links up or only one, the Ethernet part as a function makes it. -/
def ether (l0 l1 : Nat) (g : EthSt → EthSt) : Dev := { arcade 0 [] id with eth := g State.reset.dev.eth }.put (ethLink 0) l0 |>.put (ethLink 1) l1

/-- A network setting with REVERT 1 and a gateway. -/
def netSet : List Byte := List.replicate 8 0 ++ [10, 0, 0, 1] ++ List.replicate 40 0 ++ [1] ++ List.replicate 123 0

theorem wit_ethernet : let d := ether 0 1 fun e => { e with net := netSet }
    let r := (ether 1 1 fun e => { e with net := netSet, probes := 2 }).put FY_ETHSTAT_ACTIVE 1
    d.bit (ethLink d.ethActive) = false ∧ d.bit (ethLink (1 - d.ethActive)) = true ∧ d.mod.started = true ∧ field netSet 8 4 ≠ 0 ∧
    (ether 0 0 id).bit (ethLink 1) = false ∧ (ether 0 0 fun e => { e with downLong := true }).eth.downLong = true ∧ d.eth.probes < 2 ∧
    2 ≤ r.eth.probes ∧ r.ethActive = 1 ∧ r.bit (ethLink 0) = true ∧ field r.eth.net 52 1 = 1 ∧ r.bit FY_ETHSTAT_LINK0 = true ∧
    d.arc.landing.length + 1 < 1024 ∧ d.host.coreDown = false ∧ d.mod.romHold = false ∧ sourceOk netSet 4 [] = true ∧
    4000 ≤ (if ({ d.eth with datagrams := 4000 } : EthSt).second = d.time.raw / 250000000 then 4000 else 0) := by decide +kernel

/-! ## Updating -/

/-- Session 9 of the operator with one update request in progress, the module serving. -/
def upd (op : Nat) (payload : List Byte) : Dev :=
  ((dev fun d => ((((d.put FY_MODSTATE_STATE msService).put FY_MODSTATE_FIELDPWR 1).updHost fun h => { h with portUp := true, coreDown := false }).updFmp fun f =>
    { f with sessions := [(9, { Session.zero with role := 1, busy := [⟨5, op, 0, payload, 0, false⟩] })] }).updMod fun m =>
      { m with romHold := false, started := true }))

/-- A header of the Foyer firmware of 5,000 bytes. -/
def header : List Byte := magicBytes ++ [1, 1, 0, 0] ++ partName ++ List.replicate 72 0 ++ [0x88, 0x13] ++ List.replicate 422 0

theorem wit_update_asked : let x : Session := { Session.zero with role := 1, busy := [⟨5, 0x60, 0, header, 0, false⟩] }
    let d := upd 0x60 header
    d.asked 9 x ⟨5, 0x60, 0, header, 0, false⟩ ∧ d.mod.romHold = false ∧ x.txSeq < 2 ^ 61 ∧ d.arc.warned = false ∧ d.jnl.camp = none ∧
    (d.updArc fun a => { a with warned := true }).arc.warned = true := by
  unfold Dev.asked; decide +kernel

theorem wit_update_begin : let d := upd 0x60 header
    header.length = 512 ∧ (header.take 4 == magicBytes && field header 4 1 == 1 && headerZero header) = true ∧
    ((header.drop 8).take 8 == partName) = true ∧ compIx (field header 5 1) = some 0 ∧ field header 7 1 ≤ 1 ∧ d.mod.cfg.updateKey.isNone = true ∧
    field header 88 8 ≤ maxPayload 0 ∧ d.epochsBegin 0 { SlotInfo.zero with header := header } = true ∧ d.floor 0 ≤ field header 20 2 ∧
    d.slotState 0 (1 - d.activeSlot 0) ∉ [2, 3, 4] ∧ (mget? d.upd.loads 0).all (fun l => l.1 == 9) = true := by decide +kernel

/-- The Foyer's slot 1 in a state under a header with some blocks, claimed by session 9. -/
def loading (op : Nat) (payload : List Byte) (st : Nat) (bitmap erased : List Nat) : Dev :=
  let d := (upd op payload).setSlotState 0 1 st
  { d with
    jnl := { d.jnl with slots := [(1, { SlotInfo.zero with header := header, bitmap := bitmap, erased := erased })] }
    upd := { d.upd with loads := [(0, (9, 1))] } }

theorem wit_update_block : let p : List Byte := [1, 0, 0, 0] ++ List.replicate 4096 7
    let d := loading 0x61 p 1 [] [0]
    compIx (field p 0 1) = some 0 ∧ mget? d.upd.loads 0 = some (9, 1) ∧ d.slotState 0 1 = 1 ∧ field p 2 2 < (d.slotInfo 0 1).nblocks ∧
    (p.drop 4).length = 4096 ∧ 0 + 1 ≠ (d.slotInfo 0 1).nblocks ∧ 0 ∉ (d.slotInfo 0 1).bitmap ∧ 0 / 16 ∈ (d.slotInfo 0 1).erased ∧
    0 ∈ ((loading 0x61 p 1 [0] []).slotInfo 0 1).bitmap ∧ mget? (upd 0x61 p).upd.loads 0 = none := by decide +kernel

theorem wit_update_verify : let d := loading 0x63 [1] 2 [] []
    let o := 1 - d.activeSlot 0
    d.slotState 0 o = 2 ∧ d.verifyBad 0 [] = [] ∧ d.slotState 0 o ∉ [] ∧ ¬([] : List Byte).length = (d.slotInfo 0 o).length ∧
    (loading 0x67 [1] 3 [] []).slotState 0 1 ∈ [1, 2, 3, 8] ∧ (loading 0x67 [1] 5 [] []).slotState 0 1 ∉ [1, 2, 3, 8] := by decide +kernel

theorem wit_verify_good : let d := ((upd 0x63 [1]).setSlotState 0 1 2)
    let h : List Byte := List.replicate 96 0 ++ ((List.range 32).map fun i => BitVec.ofNat 8 (shaNum [] / 256 ^ i)) ++ List.replicate 384 0
    let e := { d with jnl := { d.jnl with slots := [(1, { SlotInfo.zero with header := h })] } }
    e.slotState 0 (1 - e.activeSlot 0) = 2 ∧ ([] : List Byte).length = (e.slotInfo 0 1).length ∧ shaNum [] = (e.slotInfo 0 1).digest ∧
    e.verifyBad 0 [] = [] := by decide +kernel

theorem wit_distribute : let p : List Byte := [0x20, 0, 1, 0, 7, 0]
    let d := ((upd 0x68 p).setSlotState 7 1 3).updMod fun m => { m with cfg := { m.cfg with nodeTab := [{ NodeCfg.zero with addr := 7 }] } }
    compIx (field p 0 1) = some 7 ∧ p.length = 4 + 2 * field p 2 2 ∧ d.mod.cfg.nodeTab.map (·.addr) = [7] ∧ d.slotOf 7 3 = some 1 ∧ d.upd.dist = none ∧
    (upd 0x68 p).slotOf 7 3 = none ∧ ((upd 0x68 p).setSlotState 7 (1 - (upd 0x68 p).slotRun 7) 0 |>.setSlotState 7 ((upd 0x68 p).slotRun 7) 0).slotOf 7 5 = none ∧
    { d with upd := { d.upd with dist := some (7, 1, [7], [], []) } }.upd.dist ≠ none := by decide +kernel

theorem wit_activate : let d := (upd 0x64 [2]).setSlotState 0 1 3
    let n := (upd 0x64 [0]).setSlotState 1 1 3
    let checks (d : Dev) (restart force : Bool) : Bool := !((List.range 7).filter fun k => (d.slotOf k 3).isSome).isEmpty &&
      d.epochsActivate ((List.range 7).filter fun k => (d.slotOf k 3).isSome) &&
      (restart || !d.notLive ((List.range 7).filter fun k => (d.slotOf k 3).isSome)) && (force || !(d.mst == msDegraded || d.mst == msFailsafe)) &&
      d.nw.stair.isNone && d.fst .a != fsTesting && d.fst .b != fsTesting
    checks d false true = true ∧ d.slotOf 0 3 = some 1 ∧ d.mod.started = true ∧ checks n false false = true ∧ n.slotOf 0 3 = none ∧ n.cor.hostUp = false ∧
    checks n false true = true ∧ n.canRestart = true ∧ (checks (upd 0x64 [0]) false false) = false := by decide +kernel

/-- A campaign of some components with steps still to do. -/
def camp' (comps todo : List Nat) : Campaign := { Campaign.zero with comps := comps, todo := todo }

/-- That campaign in progress for session 9, component k in its slot 1 TRIAL, running where `run` is 1. -/
def trial (op : Nat) (comps todo : List Nat) (k run : Nat) : Dev :=
  let d := ((upd op [1]).setSlotState k 1 4).setSlotRun k run
  { d with
    jnl := { d.jnl with camp := some (camp' comps todo) }
    upd := { d.upd with service := some 0 } }

theorem wit_campaign : let d := trial 0x65 [0] [] 0 1
    let t := trial 0x66 [1] [1] 1 0
    let u := trial 0x66 [1] [] 1 1
    d.jnl.camp = some (camp' [0] []) ∧ (camp' [0] []).revert = none ∧ d.bit FY_UPDSTAT_SCHEMAERR = false ∧ (camp' [0] []).comps.Nodup ∧
    d.mst = msService ∧ d.upd.service ≠ none ∧ (d.slotOf 0 4).isSome = true ∧ (d.put FY_UPDSTAT_SCHEMAERR 1).bit FY_UPDSTAT_SCHEMAERR = true ∧
    (∀ e ∈ t.fmp.sessions, ∀ q ∈ e.2.busy, q.op ≠ 0x64) ∧ (List.range 6).filter t.stepTaken = [] ∧ t.mod.started = true ∧
    (List.range 6).filter u.stepTaken = [1] ∧ u.cor.hostUp = false ∧ u.canRestart = true ∧ (camp' [1] [1]).todo ≠ [] ∧
    d.arc.landing.length < arcCap := by decide +kernel

theorem wit_campaign_timeouts : let t := trial 0 [2] [2] 2 0
    let u := trial 0 [1, 2] [2] 1 1
    (camp' [2] [2]).todo.head? = some 2 ∧ t.pair = none ∧ (List.range 6).filter t.stepTaken = [] ∧ (List.range 6).filter u.stepTaken = [1] ∧
    u.pair = none ∧ (∃ k ∈ (List.range 6).filter u.stepTaken, k ≠ 0) ∧ u.canRestart = true ∧ t.mod.romHold = false := by decide +kernel

theorem wit_station_reply : let d := { loading 0 [] 5 [] [] with upd := { UpdSt.empty with dist := some (8, 1, [33], [], []), fw := [(33, (0x11, 0))] } }
    let f (t q : Nat) : Dev := { d with upd := { d.upd with fw := [(33, (t, q))] } }
    d.upd.dist = some (8, 1, [33], [], []) ∧ mget? d.upd.fw 33 = some (0x11, 0) ∧ (d.slotInfo 8 1).length ≤ 0 + 120 ∧
    mget? (f 0x10 3).upd.fw 33 = some (0x10, 3) ∧ mget? (f 0x13 0).upd.fw 33 = some (0x13, 0) ∧ [33].filter (· ≠ 33) = [] ∧
    ({ d with jnl := { d.jnl with slots := [(17, { SlotInfo.zero with header := header })] } }.slotInfo 8 1).length > 120 := by decide +kernel

theorem wit_layout : let p : List Byte := [1, 0, 0, 0] ++ List.replicate 4096 7
    let d := (loading 0x61 p 1 [] []).updMod fun m => { m with romHold := true }
    d.laidOut = true ∧ (d.updJnl fun j => { j with layout := [] }).laidOut = false ∧ d.mod.romHold = true ∧ (d.slotInfo 0 1).bitmap = [] ∧
    field p 2 2 < (d.slotInfo 0 1).nblocks ∧ (p.drop 4).length = 4096 := by decide +kernel

theorem wit_station_exchange : let d := ({ loading 0 [] 5 [] [] with
        upd := { UpdSt.empty with dist := some (8, 1, [33], [], []), fw := [(33, (0x11, 0))] } } : Dev).updLine 1 fun l =>
      { l with running := true, fwTurn := some 33, seq := 6 }
    (d.rioReq 1).map (fun q => (q.id, q.typ, q.seq)) = some (33, 0x11, 6) ∧ State.reset.dev.rioReq 1 = none ∧
    rioParse true (rioBytes ⟨0x80 + 33 % 32, 0x11 + 0x80, 6, le 1 0⟩) = some ⟨0x81, 0x91, 6, le 1 0⟩ ∧
    rioParse false (rioBytes ⟨0x81, 0x91, 6, le 1 0⟩) = none := by decide +kernel

/-! ## Ill-formed commands -/

/-- A header whose sequence number is out of range. -/
def badHdr : MsgHdr := { MsgHdr.zero with seq := 65536 }

theorem test_bad_headers : hdrOk badHdr = false ∧ hdrOk { MsgHdr.zero with suite := 256 } = false ∧ hdrOk { MsgHdr.zero with role := 256 } = false ∧
    hdrOk { MsgHdr.zero with origin := 256 } = false ∧ hdrOk MsgHdr.zero = true := by decide

/-- R187: a reserved opcode word, an address beyond its space, a constant where the encoding carries none. -/
theorem test_bad_encodings : ∀ i ∈ ([.kzLb .a 0 3 16777216, .kzLb .a 0 8 0, .kzStb .a 0 5 0, .kzAdd .a 0 3 7 1, .kzTon .a 0 2097152] : List Instr),
    WellFormed i = false := by decide

theorem test_ill_formed_1 : ∀ i ∈ ([
    .gradientCheck false 8 0 0, .gradientCheck false 0 8 0, .crossingParityError 0 8 false, .flightFaultReport .a 256 0 none,
    .corridorUnknownType false 256 0 false, .corridorUnknownType false 0 65536 false, .linkAck false 65536, .replyTimeout 65536,
    .heartbeat false 65536 0, .statusToHost 65536 [], .statusToField 65536 [], .bootImageBlock 65536 0 false [], .bootImageBlock 0 256 false [],
    .configBlock 65536 0 false [], .configBlock 0 256 false [], .measureReport 65536 [], .bootDone 65536, .pointRead badHdr [],
    .pointRead MsgHdr.zero [65536], .subscribe badHdr 0 [], .subscribe MsgHdr.zero 256 [], .unsubscribe badHdr 0 [], .unsubscribe MsgHdr.zero 256 [],
    .unsubscribe MsgHdr.zero 0 [65536], .clearSession badHdr 0, .clearSession MsgHdr.zero 256, .clearAll badHdr, .pointWrite badHdr [],
    .forceSet badHdr [], .pointNotify 65536 0 [], .pointNotify 0 256 [], .eventRecord 65536 (.mk' .fyAttest []) false false,
    .eventRecord 0 { Ev.mk' .fyAttest [] with region := 8 } false false, .retainMirror 65536 [], .timeMap 65536 TimeMap.zero, .regRead badHdr 0 0 0,
    .regRead MsgHdr.zero 256 0 0, .regRead MsgHdr.zero 0 65 0, .regRead MsgHdr.zero 0 0 16777216, .regWrite badHdr 0 0 [],
    .regWrite MsgHdr.zero 256 0 [], .regWrite MsgHdr.zero 0 16777216 [], .meshDownUnicast badHdr 0 0 0 [], .meshDownUnicast MsgHdr.zero 65536 0 0 [],
    .meshDownMulticast badHdr 0 0 [], .meshDownFwblock badHdr 0 [], .meshDownFwblock MsgHdr.zero 4294967296 [], .meshDownFwControl badHdr 0,
    .meshDownCommand badHdr 0 0 0 [], .meshDownCommand MsgHdr.zero 65536 0 0 [], .meshUp 65536 [], .updateStage badHdr 0 false [],
    .updateStage MsgHdr.zero 256 false [], .activate badHdr 0 false, .activate MsgHdr.zero 256 false, .budgetExceeded .a 16, .kzNop .a 16,
    .kzLb .a 16 0 0, .kzLbn .a 16 0 0, .kzAb .a 16 0 0] : List Instr), WellFormed i = false := by decide

theorem test_ill_formed_2 : ∀ i ∈ ([
    .kzAbn .a 16 0 0, .kzOb .a 16 0 0, .kzObn .a 16 0 0, .kzXb .a 16 0 0, .kzXbn .a 16 0 0, .kzGa .a 16, .kzGan .a 16, .kzGo .a 16, .kzGon .a 16,
    .kzGx .a 16, .kzGxn .a 16, .kzGe .a 16, .kzNot .a 16, .kzSet .a 16, .kzClr .a 16, .kzStb .a 16 0 0, .kzSb .a 16 0 0, .kzRb .a 16 0 0,
    .kzEdr .a 16 0 0, .kzEdf .a 16 0 0, .kzQt .a 16 0 0, .kzLd .a 16 0 0 0, .kzSt .a 16 0 0, .kzLds .a 16 0 0, .kzClrs .a 16, .kzAdd .a 16 0 0 0,
    .kzSub .a 16 0 0 0, .kzMul .a 16 0 0 0, .kzDiv .a 16 0 0 0, .kzMod .a 16 0 0 0, .kzAddu .a 16 0 0 0, .kzSubu .a 16 0 0 0, .kzAddw .a 16 0 0 0,
    .kzSubw .a 16 0 0 0, .kzMin .a 16 0 0 0, .kzMax .a 16 0 0 0, .kzNeg .a 16, .kzAbs .a 16, .kzMuldiv .a 16 0 0 0, .kzAnd .a 16 0 0 0,
    .kzOr .a 16 0 0 0, .kzXor .a 16 0 0 0, .kzInv .a 16, .kzShl .a 16 0 0 0, .kzShr .a 16 0 0 0, .kzSar .a 16 0 0 0, .kzCeq .a 16 0 0 0,
    .kzCne .a 16 0 0 0, .kzClt .a 16 0 0 0, .kzCle .a 16 0 0 0, .kzCgt .a 16 0 0 0, .kzCge .a 16 0 0 0, .kzCltu .a 16 0 0 0, .kzCleu .a 16 0 0 0,
    .kzCgtu .a 16 0 0 0, .kzCgeu .a 16 0 0 0, .kzTon .a 16 0, .kzTof .a 16 0, .kzTp .a 16 0, .kzCtu .a 16 0] : List Instr), WellFormed i = false := by decide

theorem test_ill_formed_3 : ∀ i ∈ ([
    .kzCtd .a 16 0, .kzJmp .a 16 0, .kzJt .a 16 0, .kzJf .a 16 0, .kzJz .a 16 0, .kzJnz .a 16 0, .kzCall .a 16 0, .kzCallt .a 16 0, .kzRet .a 16,
    .kzRett .a 16, .kzTrap .a 16 0, .bankEvacuate .fy 32, .bankTest .fy 32 false, .ecctestArm .fy 64 0 0, .ecctestArm .fy 0 32768 0,
    .ecctestArm .fy 0 0 256, .latchAcquire .fy 32 0, .latchAcquire .fy 0 33, .latchRelease .fy 32 0 0, .latchRelease .fy 0 33 0,
    .latchRelease .fy 0 0 4294967296, .plannedSwitchover 256 0, .plannedSwitchover 0 4, .logicBistRequest 256 .a false, .quarantineSet 256 .a false,
    .quarantineRelease 256 .a, .taskEnable 2 0, .scheduleEnable 8 0, .registerWrite 256 0 0, .lineCycle 16, .rioAttemptTimeout 512,
    .ident 16 false [], .paramAck 16 false [], .rioDataReply 16 false [], .released 16 false [], .stationMissing 512, .rioLineEnable 16,
    .rioLineDisable 16, .rioLineForcedDisable 16, .rioStationEnable 512, .rioStationDisable 512, .rioStationForcedDisable 512, .daliFrameEnd 4,
    .daliPoll 4, .daliBackwardFrame 4 0 0, .daliBackwardFrame 0 3 0, .daliBackwardFrame 0 0 256, .daliEventMessage 4 0 [], .daliSystemFailure 4,
    .daliCollisionTimeout 4 0, .daliBusReturn 4, .daliRawGo 4 RawFrame.zero, .daliBusEnable 4, .daliBusDisable 4, .daliBusForcedDisable 4,
    .jmlHello 2 [], .jmlKeepaliveSend 2, .jmlKeepalive 2 [], .jmlPoints 2 [], .reclaim 2 []] : List Instr), WellFormed i = false := by decide

theorem test_ill_formed_4 : ∀ i ∈ ([
    .release 2 [], .jmlAckTimeout 2, .jmlLinkLoss 2, .jmlLinkEnable 2, .jmlLinkDisable 2, .pwmPeriodStart 16, .rowSlotStart 4, .channelEnable 256,
    .channelDisable 256, .channelForcedDisable 256 0, .matrixEnable 4, .matrixDisable 4, .matrixForcedDisable 4 0,
    .bankSupplyChange 16 false false 0, .adcSample 256 [], .shortComparatorTrip 256 0, .shortRetry 256, .diagClear 256, .cellParityError 256 0,
    .channelTest 256 false, .channelTestDone 256 false, .adcReferenceCheck 32 false, .meterRefresh 2 0 0 false [], .gallerySampleEmit 32,
    .meteringFrameEmit 2, .txStart 8 0, .txEnd 8 0, .txLateStart 8 0, .txDeadline 8 0, .frameReception 8 RxFrame.zero, .chainEnable 8,
    .chainDisable 8, .chainForcedDisable 8 0, .chainFault 8 0 0, .chainRetry 8 false, .loggiaReport 65536 0 0 0, .loggiaStatusRecord 8 0 0 0,
    .nodeData 8 0 0 false 0 [], .nodeData 0 65536 0 false 0 [], .nodeData 0 0 4294967296 false 0 [], .nodeAck 8 0 0 false 0 0 0,
    .nodeAck 0 65536 0 false 0 0 0, .nodeAck 0 0 4294967296 false 0 0 0, .nodeAck 0 0 0 false 0 4294967296 0, .joinReq 8 0 0 false,
    .joinReq 0 18446744073709551616 0 false, .joinReq 0 0 4294967296 false, .rejoinReq 8 0 0 false, .rejoinReq 0 18446744073709551616 0 false,
    .rejoinReq 0 0 4294967296 false, .nodeStatus 8 0 0 false 0 [], .nodeStatus 0 65536 0 false 0 [], .nodeStatus 0 0 4294967296 false 0 [],
    .nodeLost 65536, .sleepyDeadline 65536 0, .sleepyDeadline 0 65536, .syncRx 0 0 2 0 false false 0, .syncRx 0 0 0 65536 false false 0,
    .followUpRx 0 65536 0, .alarmArm 4 0] : List Instr), WellFormed i = false := by decide

theorem test_ill_formed_5 : ∀ i ∈ ([
    .alarmFire 0 4, .backupSupplySwitch false 65536, .hostRead 0 16777216 0, .hostWrite 16777216 [], .alcoveTagWrite 32 0, .alcoveTagWrite 0 65536,
    .alcoveEmpty 32, .alcoveTimeout 32, .alcoveTimeoutClear 32, .landingDataWrite 8 [], .landingEopWrite 8 [], .landingAbort 8, .landingDrop 8,
    .landingRead 8, .eventPendClear 4 0, .eventRaise { Ev.mk' .fyAttest [] with region := 8 }, .hello false 32 0 [], .hello false 0 65536 [],
    .finish false 32 0 0 false, .finish false 0 65536 0 false, .finish false 0 0 256 false, .handshakeTimeout 256, .lockoutExpiry 65536,
    .fmpDataRecord false 32 0 0 false [] 0, .fmpDataRecord false 0 256 0 false [] 0, .fmpDataRecord false 0 0 18446744073709551616 false [] 0,
    .fmpDataRecord false 0 0 0 false [] 65536, .sessionIdleTimeout 256, .fmpStatus 256 0, .fmpStatus 0 65536, .keepalive 256 0, .keepalive 0 65536,
    .close 256 0, .close 0 65536, .fmpPointRead 256 0, .fmpPointRead 0 65536, .fmpPointWrite 256 0, .fmpPointWrite 0 65536, .fmpForceSet 256 0,
    .fmpForceSet 0 65536, .fmpRegRead 256 0, .fmpRegRead 0 65536, .fmpRegWrite 256 0, .fmpRegWrite 0 65536, .lregRead 256 0, .lregRead 0 65536,
    .timeStep 0 256 0, .timeStep 0 0 65536, .timeSet 0 256 0, .timeSet 0 0 65536, .fmpMeshDown 256 0, .fmpMeshDown 0 65536, .attest 256 0,
    .attest 0 65536, .keyInfo 256 0, .keyInfo 0 65536, .keyPrepare 256 0, .keyPrepare 0 65536, .keyCommit 256 0, .keyCommit 0 65536] : List Instr), WellFormed i = false := by decide

theorem test_ill_formed_6 : ∀ i ∈ ([
    .keyAbort 256 0, .keyAbort 0 65536, .keyInvalidate 256 0, .keyInvalidate 0 65536, .keyExport 256 0, .keyExport 0 65536,
    .streamBlock 32 0 0 0 false none, .streamBlock 0 64 0 0 false none, .contextIdleTimeout 32, .arcadeRead 256 0, .arcadeRead 0 65536,
    .arcadeClearNonce 256 0, .arcadeClearNonce 0 65536, .arcadeClear 256 0 false, .arcadeClear 0 65536 false, .restart 256 0, .restart 0 65536,
    .updBegin 256 0 false false false, .updBegin 0 65536 false false false, .updBlock 256 0 false, .updBlock 0 65536 false, .updStatus 256 0,
    .updStatus 0 65536, .updVerify 256 0 false [], .updVerify 0 65536 false [], .updActivate 256 0, .updActivate 0 65536, .updConfirm 256 0,
    .updConfirm 0 65536, .updRevert 256 0, .updRevert 0 65536, .updAbort 256 0, .updAbort 0 65536, .updDistribute 256 0, .updDistribute 0 65536,
    .ethLinkChange 2 false, .gatewayProbe 2 false, .ethFrameRx 0 2 0 0 0 [] false false none, .ethFrameRx 0 0 0 4096 0 [] false false none,
    .corridorReply 65536 0 0 [], .corridorReply 0 65536 0 [], .corridorReply 0 0 256 [], .stationFirmwareReply 16 false []] : List Instr), WellFormed i = false := by decide

/-! ## The spec's check values and worked examples -/

/-- The ASCII bytes "123456789". -/
def nine : List Byte := [0x31, 0x32, 0x33, 0x34, 0x35, 0x36, 0x37, 0x38, 0x39]

/-- 04 R93 and 19 R518: the check values of CRC-64/ECMA-182 and CRC-16/CCITT-FALSE. -/
theorem test_crc_check_values : crc64 nine = 0x6C40DF5F0B497347 ∧ crc16 nine = 0x29B1 := by decide +kernel

/-- 07 R192: DIV and MOD of −2^31 by −1, and the MULDIV of 2,600 by 4,095 over 3,000. -/
theorem test_division_corners : ((after (.kzDiv .a 0 0 0 0xFFFFFFFF) (kz fun r => { r with acc := 0x80000000 })).tread .a 0).acc = 0x7FFFFFFF ∧
    ((after (.kzMod .a 0 0 0 0xFFFFFFFF) (kz fun r => { r with acc := 0x80000000 })).tread .a 0).acc = 0 ∧
    ((after (.kzMuldiv .a 0 0 0 4095) (kz fun r => { r with acc := 2600, acc2 := 3000 })).tread .a 0).acc = 3549 := by decide +kernel

/-- Worked example of chapter 13: airtimes of requests 501, 502 and 503. -/
theorem test_airtime : airtime 12600 40 1 = 1011540 ∧ airtime 8 120 1 = 10580 ∧ airtime 8 48 1 = 4820 := by decide +kernel

/-- Worked example of chapter 11: ticks 1 and 1,000 of the fade, the duty and its dither split. -/
theorem test_fade : (fadeStep 3200 16000 2000 0).1 = 3206 ∧ (fadeStep 3200 16000 2000 999).1 = 9600 ∧ (fadeStep 3200 16000 2000 1999).1 = 16000 ∧
    dutyOf 12 true 3956 = 3956 ∧ (List.range 16).filter (fun k => ditherOn true 3956 k == 248) = [0, 4, 8, 12] := by decide +kernel

/-- Worked example of chapter 15: system time before and after the rate change. -/
theorem test_rate_change : let d := dev fun d => (d.wr FY_TBRATE (BitVec.ofInt 32 109951163)).updTime fun x => { x with
      raw := 1250000000, bNs := 1800000000000000000, r0 := 1000000000 }
    unitsNs (d.timeAt 1250000000) = 1800000001000100000 ∧ unitsFrac (d.timeAt 1250000000) = 868750 ∧
    unitsNs ((d.setRate (-54975581)).timeAt 1500000000) = 1800000002000050000 ∧ unitsFrac ((d.setRate (-54975581)).timeAt 1500000000) = 2387500 := by
  decide +kernel

/-- Worked example of chapter 3: the steward and Tread 3 reach FL_LATCH 7 together. -/
theorem test_latch_example : let m : Mem := .fl .a
    let d1 := after (.latchAcquire m 7 1) (flights fsActive fsStandby)
    let d2 := after (.latchAcquire m 7 5) d1
    let d3 := after (.latchAcquire m 7 5) (after (.latchRelease m 7 1 0) d2)
    (d1.latchRead m 7 5).2 = 2 ∧ d2.get (m.latch 7) = 2 ∧ d3.get (m.latch 7) = 6 := by decide +kernel

end Sys2Proof.Tests
end

section
/-! How a frame grows by one operation: `OnlyIn` carried through each update of the module, and what a send over the Corridor leaves. -/

namespace Sys2Proof.Machine

/-! ## Frames of the register operations and of the parts -/

theorem OnlyIn.wr {ps : List Part} {ks : Nat → Bool} {d e : Dev} (h : OnlyIn ps ks d e) {k : Nat} (v : W32) (hk : ks k = true) :
    OnlyIn ps ks d (e.wr k v) :=
  ⟨fun p hp => Part.same_trans (h.1 p hp) (by cases p <;> rfl), fun j hj => (rd_wr_other e v fun e => by simp [e, hk] at hj).trans (h.2 j hj)⟩

theorem OnlyIn.put {ps : List Part} {ks : Nat → Bool} {d e : Dev} (h : OnlyIn ps ks d e) {x : Fld} (v : Nat) (hk : ks x.key = true) :
    OnlyIn ps ks d (e.put x v) := h.wr _ hk

theorem OnlyIn.inc {ps : List Part} {ks : Nat → Bool} {d e : Dev} (h : OnlyIn ps ks d e) {x : Fld} (n : Nat) (hk : ks x.key = true) :
    OnlyIn ps ks d (e.inc x n) := h.wr _ hk

/-- A module that differs in one part alone, its registers as they were. -/
theorem onlyIn_part (q : Part) {d e : Dev} (hr : e.regs = d.regs) (hp : ∀ p, p ≠ q → p.same d e) : OnlyIn [q] noKey d e :=
  ⟨fun p h => hp p (by simpa using h), fun k _ => by simp [Dev.rd, hr]⟩

/-- A frame grows by a step that keeps to one of its parts. -/
theorem OnlyIn.step {ps : List Part} {ks : Nat → Bool} {d e f : Dev} {q : Part} (h : OnlyIn ps ks d e) (hq : q ∈ ps)
    (k : OnlyIn [q] noKey e f) : OnlyIn ps ks d f :=
  h.trans (k.mono (by simpa using hq) fun _ _ => rfl)

theorem onlyIn_updCor (d : Dev) (g : CorrSt → CorrSt) : OnlyIn [.cor] noKey d (d.updCor g) :=
  onlyIn_part .cor rfl fun p h => by cases p <;> simp [Part.same] at h ⊢

theorem onlyIn_updHost (d : Dev) (g : HostSt → HostSt) : OnlyIn [.host] noKey d (d.updHost g) :=
  onlyIn_part .host rfl fun p h => by cases p <;> simp [Part.same] at h ⊢

theorem onlyIn_updTime (d : Dev) (g : TimeSt → TimeSt) : OnlyIn [.time] noKey d (d.updTime g) :=
  onlyIn_part .time rfl fun p h => by cases p <;> simp [Part.same] at h ⊢

theorem onlyIn_updUpd (d : Dev) (g : UpdSt → UpdSt) : OnlyIn [.upd] noKey d (d.updUpd g) :=
  onlyIn_part .upd rfl fun p h => by cases p <;> simp [Part.same] at h ⊢

theorem OnlyIn.updCor {ps : List Part} {ks : Nat → Bool} {d e : Dev} (h : OnlyIn ps ks d e) (g : CorrSt → CorrSt) (hp : .cor ∈ ps) :
    OnlyIn ps ks d (e.updCor g) := h.step hp (onlyIn_updCor e g)

theorem OnlyIn.updHost {ps : List Part} {ks : Nat → Bool} {d e : Dev} (h : OnlyIn ps ks d e) (g : HostSt → HostSt) (hp : .host ∈ ps) :
    OnlyIn ps ks d (e.updHost g) := h.step hp (onlyIn_updHost e g)

theorem OnlyIn.updUpd {ps : List Part} {ks : Nat → Bool} {d e : Dev} (h : OnlyIn ps ks d e) (g : UpdSt → UpdSt) (hp : .upd ∈ ps) :
    OnlyIn ps ks d (e.updUpd g) := h.step hp (onlyIn_updUpd e g)

/-! ## Frames of events and messages -/

theorem orEvent_nil (k : Nat) : orEvent [] k = eventKey k := by simp [orEvent]

/-- An event of the Foyer changes the Arcade and the registers of events alone (16 R439, 19 R518). -/
theorem onlyIn_raiseFy (d : Dev) (e : Ev) (hs : ∀ n ∈ e.sources, n < 128) (hr : e.region < 8) :
    OnlyIn [.arc] (orEvent []) d (d.raiseFy e) :=
  ⟨fun p hp => by cases p <;> simp [Part.same] at hp ⊢, fun k hk => raiseFy_rd d e hs hr (by rwa [orEvent_nil] at hk)⟩

theorem OnlyIn.raiseFy {ps : List Part} {l : List Nat} {d e : Dev} (h : OnlyIn ps (orEvent l) d e) {ev : Ev}
    (hs : ∀ n ∈ ev.sources, n < 128) (hr : ev.region < 8) (hp : .arc ∈ ps) : OnlyIn ps (orEvent l) d (e.raiseFy ev) :=
  h.trans ((onlyIn_raiseFy e ev hs hr).mono (by simpa using hp) fun k hk => by
    simp only [orEvent, Bool.or_eq_false_iff] at hk ⊢; exact ⟨rfl, hk.2⟩)

theorem OnlyIn.raiseFy_mk {ps : List Part} {l : List Nat} {d e : Dev} (h : OnlyIn ps (orEvent l) d e) {i : EvId} (p : List Int)
    (hi : i ≠ .fyTalarm) (hp : .arc ∈ ps) : OnlyIn ps (orEvent l) d (e.raiseFy (.mk' i p)) :=
  h.raiseFy (sources_lt i p hi) (hi_lt i) hp

theorem sendDown_eq_updCor (d : Dev) (typ : Nat) (payload : List Byte) (suite role origin : Nat) (more : Bool) :
    d.sendDown typ payload suite role origin more = d.updCor fun _ => (d.sendDown typ payload suite role origin more).cor := rfl

theorem sendReq_eq_updCor (d : Dev) (r : CrReq) (more : Bool) : d.sendReq r more = d.updCor fun _ => (d.sendReq r more).cor := rfl

/-- A host-to-field message leaves everything but the Corridor. -/
theorem OnlyIn.sendDown {ps : List Part} {ks : Nat → Bool} {d e : Dev} (h : OnlyIn ps ks d e) (typ : Nat) (payload : List Byte)
    (suite role origin : Nat) (more : Bool) (hp : .cor ∈ ps) : OnlyIn ps ks d (e.sendDown typ payload suite role origin more) := by
  rw [sendDown_eq_updCor]; exact h.updCor _ hp

theorem OnlyIn.sendReq {ps : List Part} {ks : Nat → Bool} {d e : Dev} (h : OnlyIn ps ks d e) (r : CrReq) (more : Bool) (hp : .cor ∈ ps) :
    OnlyIn ps ks d (e.sendReq r more) := by
  rw [sendReq_eq_updCor]; exact h.updCor _ hp

theorem OnlyIn.putUp {ps : List Part} {ks : Nat → Bool} {d e : Dev} (h : OnlyIn ps ks d e) (m : UpMsg) (hp : .cor ∈ ps) :
    OnlyIn ps ks d (e.putUp m) := h.updCor (fun _ => (e.putUp m).cor) hp

/-- The module state at the Foyer goes out at once where it has changed, or nothing is done (01 R44). -/
theorem statusNow_host_cases (d : Dev) : d.statusNow true = d ∨ d.statusNow true = d.sendStatus true := by
  simp only [Dev.statusNow, if_true]
  split <;> simp

theorem OnlyIn.statusNow_host {ps : List Part} {ks : Nat → Bool} {d e : Dev} (h : OnlyIn ps ks d e) (hp : .cor ∈ ps) :
    OnlyIn ps ks d (e.statusNow true) := by
  rcases statusNow_host_cases e with k | k <;> rw [k]
  · exact h
  · exact (h.sendDown _ _ _ _ _ _ hp).updCor _ hp

@[simp] theorem statusNow_host_regs (d : Dev) : (d.statusNow true).regs = d.regs := by
  rcases statusNow_host_cases d with k | k
  · rw [k]
  · rw [k]; rfl

/-- STATUS leaves the state of the lane that carries it: only the next sequence moves on. -/
theorem statusNow_host_down (d : Dev) :
    ∃ q, (d.statusNow true).cor.down = { d.cor.down with txSeq := q } := by
  rcases statusNow_host_cases d with k | k <;> rw [k]
  · exact ⟨d.cor.down.txSeq, rfl⟩
  · exact ⟨_, rfl⟩

/-- A register value depends on the registers alone. -/
theorem get_of_regs {d e : Dev} (h : e.regs = d.regs) (x : Fld) : e.get x = d.get x := by simp [Dev.get, Dev.rd, h]

/-- A field of a register that is as it was. -/
theorem get_of_rd {d e : Dev} {x : Fld} (h : e.rd x.key = d.rd x.key) : e.get x = d.get x := by rw [Dev.get, h, Dev.get]

theorem bit_of_get {d e : Dev} {x : Fld} (h : e.get x = d.get x) : e.bit x = d.bit x := by simp only [Dev.bit, h]

/-- A one-bit field is 0 or 1. -/
theorem get_of_bit_false {d : Dev} {x : Fld} (hx : x.hi = x.lo) (h : d.bit x = false) : d.get x = 0 := by
  have h1 : d.get x < 2 := by simpa [Dev.get, hx] using bitsOf_lt (d.rd x.key).toNat x.hi x.lo
  have h2 : d.get x ≠ 1 := by simpa [Dev.bit] using h
  omega

theorem get_of_bit_true {d : Dev} {x : Fld} (h : d.bit x = true) : d.get x = 1 := by simpa [Dev.bit] using h

/-- A campaign that is not there does nothing. -/
theorem campFollow_none (d : Dev) (h : d.jnl.camp = none) : d.campFollow = d := by
  simp [Dev.campFollow, Dev.campGo, Dev.campStep, h]

end Sys2Proof.Machine
end

section
/-! The Corridor's link: acknowledgements, failed sends and spare lanes, replies and their timeouts (01 R35 to R41; 03 R87). -/

namespace Sys2Proof.Machine

/-! ## Acknowledgements -/

/-- An acknowledgement of a message leaves what waits behind it (01 R39). -/
theorem ackFrom_append {α : Type} (sq : α → Nat) (pre post : List α) (m : α) (h : ∀ x ∈ pre, sq x ≠ sq m) :
    ackFrom sq (sq m) (pre ++ m :: post) = post := by
  have hd : (pre ++ m :: post).dropWhile (fun x => sq x != sq m) = m :: post := by
    induction pre with
    | nil => simp
    | cons a t ih =>
      have ha : sq a ≠ sq m := h a (by simp)
      simpa [ha] using ih fun x hx => h x (by simp [hx])
  simp [ackFrom, hd]

/-! ## Failed sends -/

/-- A message out of order is no failed send (01 R40). -/
theorem corNak_order (d : Dev) (down : Bool) : d.corNak down false = d := by simp [Dev.corNak]

/-- The first two failed sends of a message that waits are counted (01 R39). -/
theorem corNak_counts (d : Dev) (hq : d.cor.downQ ≠ []) (hl : d.cor.down.lost = false) (hf : d.cor.down.fails < 2) :
    d.corNak true true = d.updDir true fun c => { c with fails := c.fails + 1 } := by
  simp [Dev.corNak, CorrSt.dir, hq, hl, show d.cor.down.fails + 1 < 3 by omega]

/-- The third fails the lane. -/
theorem corNak_third (d : Dev) (hq : d.cor.downQ ≠ []) (hl : d.cor.down.lost = false) (hf : 2 ≤ d.cor.down.fails) :
    d.corNak true true = d.laneFails true := by
  simp [Dev.corNak, CorrSt.dir, hq, hl, show ¬ d.cor.down.fails + 1 < 3 by omega]

/-- A direction whose spare lane is in use or consumed is lost (01 R39). -/
theorem laneFails_lost (d : Dev) (h : d.cor.down.spare = true ∨ d.bit FY_SPAREBUD0_CRDOWN = false) :
    d.laneFails true = d.updDir true fun c => { c with fails := 0, lost := true } := by
  have hc : (d.cor.down.spare || d.get FY_SPAREBUD0_CRDOWN == 0) = true := by
    rcases h with h | h
    · simp [h]
    · simp [get_of_bit_false rfl h]
  simp [Dev.laneFails, CorrSt.dir, hc]

/-- A direction with a spare lane left goes to it: the budget is used up, and the change reported (01 R39, 03 R87). -/
theorem laneFails_spared (d : Dev) (hs : d.cor.down.spare = false) (hb : d.bit FY_SPAREBUD0_CRDOWN = true) :
    d.laneFails true = (((d.updDir true fun c => { c with fails := 0, spare := true }).dec FY_SPAREBUD0_CRDOWN).spareExhausted 1
      FY_SPAREBUD0_CRDOWN).raiseFy (.mk' .crLaneSpared [0]) := by
  have hg := get_of_bit_true hb
  have hu : (d.updDir true fun c => { c with fails := 0, spare := true }).get FY_SPAREBUD0_CRDOWN = 1 := hg
  have hd := get_dec_same (d.updDir true fun c => { c with fails := 0, spare := true }) FY_SPAREBUD0_CRDOWN 1 rfl
  rw [hu] at hd
  simp [Dev.laneFails, CorrSt.dir, hs, hg, Dev.useSpare, hu, hd]

/-! ## A budget that is used up -/

/-- SERVICE gives way to DEGRADED: the state is written and reported, and sent to the field side (02 R54). -/
theorem setMod_degraded (d : Dev) (row : Nat) (h : d.mst = msService) : d.setMod msDegraded row =
    (((d.put FY_MODSTATE_STATE msDegraded).raiseFy (.mk' .modState [d.mst, msDegraded, row])).updUpd fun u =>
      { u with service := none }).statusNow true := by
  simp only [Dev.setMod, h]
  rfl

/-- The event of a budget of the Foyer or of the Corridor that is used up (03 R87). -/
def exhaustedEv (r : Nat) (x : Fld) : Ev := ⟨.modSpareExhausted, 0, none, [r, (x.key % 2 ^ 24 : Nat), x.lo]⟩

theorem spareExhausted_host (d : Dev) {r : Nat} (x : Fld) (hr : r ≤ 2) :
    d.spareExhausted r x = if (d.raiseFy (exhaustedEv r x)).mst = msService then (d.raiseFy (exhaustedEv r x)).setMod msDegraded 11
      else d.raiseFy (exhaustedEv r x) := by
  exact if_pos hr

theorem exhaustedEv_region (r : Nat) (x : Fld) : (exhaustedEv r x).region < 8 := Nat.succ_pos 7

theorem exhaustedEv_sources (r : Nat) (x : Fld) : ∀ n ∈ (exhaustedEv r x).sources, n < 128 := fixedSources_lt .modSpareExhausted

/-- Neither the event of a used-up budget nor the transition that follows writes the register of a field but those of the module state and
of events. -/
theorem onlyIn_spareExhausted (d : Dev) {r : Nat} (x : Fld) (hr : r ≤ 2) :
    OnlyIn [.cor, .arc, .upd] (orEvent [FY_MODSTATE]) d (d.spareExhausted r x) := by
  have h1 : OnlyIn [.cor, .arc, .upd] (orEvent [FY_MODSTATE]) d (d.raiseFy (exhaustedEv r x)) :=
    (onlyIn_refl ..).raiseFy (exhaustedEv_sources r x) (exhaustedEv_region r x) (by decide)
  rw [spareExhausted_host d x hr]
  split
  · rename_i hm
    rw [setMod_degraded _ _ hm]
    exact (((h1.put msDegraded (by decide)).raiseFy_mk _ (by decide) (by decide)).updUpd _ (by decide)).statusNow_host (by decide)
  · exact h1

/-- With a budget used up the Foyer is in DEGRADED where it was in SERVICE (02 R54, 03 R87). -/
theorem spareExhausted_mst (d : Dev) {r : Nat} (x : Fld) (hr : r ≤ 2) :
    (d.spareExhausted r x).mst = if d.mst = msService then msDegraded else d.mst := by
  have h1 : (d.raiseFy (exhaustedEv r x)).mst = d.mst := by
    simp only [Dev.mst, Dev.get]
    rw [raiseFy_rd d _ (exhaustedEv_sources r x) (exhaustedEv_region r x) (by decide)]
  rw [spareExhausted_host d x hr, h1]
  split
  · rename_i hm
    rw [setMod_degraded _ _ (h1.trans hm), Dev.mst, get_of_regs (statusNow_host_regs _), updUpd_get, raiseFy_mk_get _ _ _ _ (by decide) (by decide),
      get_put_same _ _ _ (by decide) (by decide)]
  · exact h1

/-- It leaves the lane that carries the news but for the next sequence. -/
theorem spareExhausted_down (d : Dev) {r : Nat} (x : Fld) (hr : r ≤ 2) :
    ∃ q, (d.spareExhausted r x).cor.down = { d.cor.down with txSeq := q } := by
  rw [spareExhausted_host d x hr]
  split
  · rename_i hm
    rw [setMod_degraded _ _ hm]
    obtain ⟨q, hq⟩ := statusNow_host_down ((((d.raiseFy (exhaustedEv r x)).put FY_MODSTATE_STATE msDegraded).raiseFy
      (.mk' .modState [(d.raiseFy (exhaustedEv r x)).mst, msDegraded, (11 : Nat)])).updUpd fun u => { u with service := none })
    refine ⟨q, hq.trans ?_⟩
    show { (Dev.raiseFy _ _).cor.down with txSeq := q } = _
    simp
  · exact ⟨d.cor.down.txSeq, by simp⟩

/-! ## Replies -/

/-- The end of a request of the proxy that brings no words shows its status alone (16 R456). -/
theorem onlyIn_proxyDone (d : Dev) (typ st : Nat) (p : List Byte) (h : typ ≠ 0x40 ∨ p.length ≤ 4) :
    OnlyIn [] (· == FY_CRPCTL) d (d.proxyDone typ st p) := by
  have hn : ¬(typ = 0x40 ∧ 4 < p.length) := by omega
  unfold Dev.proxyDone
  rw [if_neg hn]
  exact ((((onlyIn_refl _ _ d).put 0 rfl).put 1 rfl).put st rfl).put _ rfl

theorem proxyDone_fields (d : Dev) (typ st : Nat) (p : List Byte) (hs : st < 256) :
    (d.proxyDone typ st p).bit FY_CRPCTL_BUSY = false ∧ (d.proxyDone typ st p).bit FY_CRPCTL_DONE = true ∧
      (d.proxyDone typ st p).get FY_CRPCTL_RESULT = st := by
  unfold Dev.proxyDone
  refine ⟨?_, ?_, ?_⟩
  · rw [bit_put_other _ _ _ _ rfl rfl rfl, bit_put_other _ _ _ _ rfl rfl rfl, bit_put_other _ _ _ _ rfl rfl rfl,
      bit_put_same _ _ _ rfl (by decide)]
    rfl
  · rw [bit_put_other _ _ _ _ rfl rfl rfl, bit_put_other _ _ _ _ rfl rfl rfl, bit_put_same _ _ _ rfl (by decide)]
    rfl
  · rw [get_put_other _ _ _ _ rfl rfl rfl, get_put_same _ _ _ rfl hs]

/-- A REPLY to the one request of the proxy ends it (01 R41). -/
theorem corReply_proxy (d : Dev) (r : CrReq) (st : Nat) (p : List Byte) (hr : d.cor.reqs = [r]) (hs : r.session ≠ 0) (hi : r.reqId = 0)
    (h : st < 0x80) : d.corReply r.seq st p = (d.updCor fun c => { c with reqs := [] }).proxyDone r.typ st p := by
  simp [Dev.corReply, hr, Nat.not_le.mpr h, hs, Dev.requestEnds, hi, Dev.updCor]

/-- A status that R11 never returns frees no request. -/
theorem corReply_unknown (d : Dev) (a st : Nat) (p : List Byte) (h : 0x80 ≤ st) : d.corReply a st p = d := by
  unfold Dev.corReply
  split
  · rfl
  · simp [h]

/-- A reply time that runs out sends the one request again (01 R41). -/
theorem replyTimeout_resends (d : Dev) (r : CrReq) (hr : d.cor.reqs = [r]) (ht : r.tries < 3) (hu : d.cor.hostUp = true) :
    d.replyTimeout r.seq = (d.updCor fun c => { c with reqs := [] }).sendReq { r with tries := r.tries + 1 } := by
  simp [Dev.replyTimeout, hr, ht, hu, Dev.updCor]

/-- An accepted field-to-host message has its effect, its sequence noted (01 R40). -/
theorem acceptUp_accepted (d : Dev) (q : Nat) (g : Dev → Dev) (h : (d.cor.up.accept q).2 = true) :
    d.acceptUp q g = g (d.updCor fun c => { c with up := (d.cor.up.accept q).1 }) := by simp [Dev.acceptUp, h]

theorem acceptDown_accepted (d : Dev) (q : Nat) (g : Dev → Dev) (h : (d.cor.down.accept q).2 = true) :
    d.acceptDown q g = g (d.updCor fun c => { c with down := (d.cor.down.accept q).1 }) := by simp [Dev.acceptDown, h]

/-- The sequence of an accepted message is the last one accepted (01 R40). -/
theorem accept_lastAcc (c : CrDir) (q : Nat) (h : (c.accept q).2 = true) : (c.accept q).1.lastAcc = some (q % 65536) := by
  revert h
  unfold CrDir.accept
  split
  · simp
  · split
    · simp
    · dsimp only
      split
      · simp
      · split <;> simp

/-! ## A word of the Foyer's memory that is uncorrectable -/

/-- An uncorrectable word of the Foyer is recorded (03 R70). -/
theorem uncorrected_fy_ue (d : Dev) (pb w ag : Nat) : (d.uncorrected .fy pb w ag).bit FY_ERRADDR_UE = true := by
  simp only [Dev.uncorrected, Dev.errAddr, Mem.fld]
  rw [bit_put_other _ _ _ _ rfl rfl rfl, bit_put_same _ _ _ rfl (by decide)]
  rfl

/-- The record names the place. -/
theorem uncorrected_fy_place (d : Dev) (pb w ag : Nat) (hp : pb < 64) (hw : w < 32768) :
    (d.uncorrected .fy pb w ag).get FY_ERRADDR_PBANK = pb ∧ (d.uncorrected .fy pb w ag).get FY_ERRADDR_WORD = w := by
  simp only [Dev.uncorrected, Dev.errAddr, Mem.fld]
  constructor
  · rw [get_put_other _ _ _ _ rfl rfl rfl, get_put_other _ _ _ _ rfl rfl rfl, get_put_other _ _ _ _ rfl rfl rfl,
      get_put_same _ _ _ rfl hp]
  · rw [get_put_other _ _ _ _ rfl rfl rfl, get_put_other _ _ _ _ rfl rfl rfl, get_put_same _ _ _ rfl hw]

theorem onlyIn_uncorrected_fy (d : Dev) (pb w ag : Nat) :
    OnlyIn [] (fun k => k == FY_UECNT || k == FY_ERRADDR) d (d.uncorrected .fy pb w ag) :=
  (((((onlyIn_refl _ _ d).inc 1 rfl).put pb rfl).put w rfl).put 1 rfl).put ag rfl

end Sys2Proof.Machine
end

section
/-! O27: acknowledgements, failed sends, damaged and unknown messages, replies and timeouts of the Corridor's link (chapter 01). -/

namespace Sys2Proof.Machine

/-! ## One lemma per command of the link -/

/-- LINK_ACK of a message to the field side (01 R39). -/
theorem linkAck_down_answers (s : State) (pre post : List DownMsg) (m : DownMsg) (hq : s.dev.cor.downQ = pre ++ m :: post)
    (hn : ∀ x ∈ pre, x.seq ≠ m.seq) : Answers (.linkAck true m.seq) s fun u =>
      u.cor.downQ = post ∧ u.cor.down.fails = 0 ∧ u.cor.up = s.dev.cor.up ∧ u.cor.upQ = s.dev.cor.upQ ∧ OnlyIn [.cor] noKey s.dev u :=
  answers_of_upd (g := fun d => d.linkAck true m.seq) rfl
    ⟨(congrArg _ hq).trans (ackFrom_append DownMsg.seq pre post m hn), rfl, rfl, rfl, onlyIn_updCor _ _⟩

/-- LINK_ACK of a message to the Foyer (01 R39). -/
theorem linkAck_up_answers (s : State) (pre post : List (Nat × UpMsg)) (m : Nat × UpMsg) (hq : s.dev.cor.upQ = pre ++ m :: post)
    (hn : ∀ x ∈ pre, x.1 ≠ m.1) : Answers (.linkAck false m.1) s fun u =>
      u.cor.upQ = post ∧ u.cor.up.fails = 0 ∧ u.cor.downQ = s.dev.cor.downQ ∧ OnlyIn [.cor] noKey s.dev u :=
  answers_of_upd (g := fun d => d.linkAck false m.1) rfl
    ⟨(congrArg _ hq).trans (ackFrom_append Prod.fst pre post m hn), rfl, rfl, onlyIn_updCor _ _⟩

/-- The third failed send with a spare lane left (01 R39, 03 R87; 02 R54). -/
theorem corridorNak_spares (s : State) (hq : s.dev.cor.downQ ≠ []) (hl : s.dev.cor.down.lost = false) (hf : 2 ≤ s.dev.cor.down.fails)
    (hs : s.dev.cor.down.spare = false) (hb : s.dev.bit FY_SPAREBUD0_CRDOWN = true) : Answers (.corridorNak true true) s fun u =>
      u.cor.down.spare = true ∧ u.cor.down.fails = 0 ∧ u.cor.down.lost = false ∧ u.bit FY_SPAREBUD0_CRDOWN = false ∧
        u.mst = (if s.dev.mst = msService then msDegraded else s.dev.mst) ∧
        OnlyIn [.cor, .arc, .upd] (orEvent [FY_SPAREBUD0, FY_MODSTATE]) s.dev u := by
  refine answers_of_upd (g := fun d => d.corNak true true) rfl ?_
  rw [corNak_third _ hq hl hf, laneFails_spared _ hs hb]
  generalize hd : (s.dev.updDir true fun c => { c with fails := 0, spare := true }).dec FY_SPAREBUD0_CRDOWN = d1
  have hbud : d1.get FY_SPAREBUD0_CRDOWN = 0 := by
    rw [← hd, get_dec_same _ _ _ rfl]
    show s.dev.get FY_SPAREBUD0_CRDOWN - 1 = 0
    rw [get_of_bit_true hb]
  have hmst : d1.mst = s.dev.mst := by
    rw [← hd]
    exact get_put_other _ FY_SPAREBUD0_CRDOWN FY_MODSTATE_STATE _ rfl rfl rfl
  have hfr := onlyIn_spareExhausted d1 (r := 1) FY_SPAREBUD0_CRDOWN (by decide)
  obtain ⟨q, hdown⟩ := spareExhausted_down d1 (r := 1) FY_SPAREBUD0_CRDOWN (by decide)
  have hdir : d1.cor.down = { s.dev.cor.down with fails := 0, spare := true } := by rw [← hd]; rfl
  have hframe : OnlyIn [.cor, .arc, .upd] (orEvent [FY_SPAREBUD0, FY_MODSTATE]) s.dev d1 := by
    rw [← hd]
    exact ((onlyIn_refl ..).updCor _ (by decide)).put _ (by decide)
  refine ⟨?_, ?_, ?_, ?_, ?_, ?_⟩
  · simp [hdown, hdir]
  · simp [hdown, hdir]
  · simp [hdown, hdir, hl]
  · rw [raiseFy_mk_bit _ _ _ _ (by decide) (by decide), bit_of_get (get_of_rd (hfr.2 _ (by decide)))]
    simp [Dev.bit, hbud]
  · rw [Dev.mst, raiseFy_mk_get _ _ _ _ (by decide) (by decide), ← Dev.mst, spareExhausted_mst _ _ (by decide), hmst]
  · refine (hframe.trans (hfr.mono (fun _ h => h) fun k hk => ?_)).raiseFy_mk _ (by decide) (by decide)
    simp only [orEvent, Bool.or_eq_false_iff, List.contains_cons] at hk ⊢
    exact ⟨hk.1.2, hk.2⟩

/-- A message of an unknown type, in order, at the Foyer (01 R35, R40). -/
theorem corridorUnknownType_host (s : State) (typ q : Nat) (hq : (s.dev.cor.up.accept q).2 = true) (hl : s.dev.landingFree) :
    Answers (.corridorUnknownType true typ q true) s fun u =>
      s.dev.landed u (.mk' .crUnknownType [typ, q]) ∧ u.cor.up.lastAcc = some (q % 65536) ∧ OnlyIn [.cor, .arc] (orEvent []) s.dev u := by
  refine answers_of_upd (g := fun d => d.acceptUp q fun d => d.raiseFy (.mk' .crUnknownType [typ, q])) rfl ?_
  rw [acceptUp_accepted _ _ _ hq]
  refine ⟨raiseFy_landing _ _ hl.1 hl.2, ?_, ?_⟩
  · simpa using accept_lastAcc _ _ hq
  · exact ((onlyIn_refl ..).updCor _ (by decide)).raiseFy_mk _ (by decide) (by decide)

/-- A message of an unknown type, in order, at the Newel while it holds the Corridor up (01 R35, R40, R42). -/
theorem corridorUnknownType_field (s : State) (typ q : Nat) (hq : (s.dev.cor.down.accept q).2 = true) (hu : s.dev.cor.fieldUp = true) :
    Answers (.corridorUnknownType false typ q false) s fun u =>
      s.dev.sentEvent u (.mk' .crMalformed [typ, q]) ∧ OnlyIn [.cor] noKey s.dev u := by
  refine answers_of_upd (g := fun d => d.acceptDown q fun d => d.raiseNw (.mk' .crMalformed [typ, q])) rfl ?_
  rw [acceptDown_accepted _ _ _ hq, raiseNw_up]
  · exact ⟨rfl, ((onlyIn_refl ..).updCor _ (by decide)).putUp _ (by decide)⟩
  · exact hu

/-- A REPLY to the proxy's write (01 R41, 16 R456). -/
theorem corridorReply_proxy (s : State) (q st : Nat) (p : List Byte) (r : CrReq) (hq : (s.dev.cor.up.accept q).2 = true)
    (hr : s.dev.cor.reqs = [r]) (hs : r.session ≠ 0) (hi : r.reqId = 0) (ht : r.typ = 0x41) (hc : s.dev.jnl.camp = none) (h : st < 0x80) :
    Answers (.corridorReply q r.seq st p) s fun u => u.cor.reqs = [] ∧ u.bit FY_CRPCTL_BUSY = false ∧
      u.bit FY_CRPCTL_DONE = true ∧ u.get FY_CRPCTL_RESULT = st ∧ OnlyIn [.cor] (fun k => k == FY_CRPCTL) s.dev u := by
  refine answers_of_upd (g := fun d => d.acceptUp q fun d => (d.corReply r.seq st p).campFollow) rfl ?_
  rw [acceptUp_accepted _ _ _ hq]
  generalize hd : (s.dev.updCor fun c => { c with up := (s.dev.cor.up.accept q).1 }) = d1
  have hreq : d1.cor.reqs = [r] := by rw [← hd]; exact hr
  have hcamp : d1.jnl.camp = none := by rw [← hd]; exact hc
  have hfree : OnlyIn [.cor] (fun k => k == FY_CRPCTL) s.dev (d1.updCor fun c => { c with reqs := [] }) := by
    rw [← hd]
    exact ((onlyIn_refl ..).updCor _ (by decide)).updCor _ (by decide)
  rw [corReply_proxy d1 r st p hreq hs hi h, ht]
  have hf := onlyIn_proxyDone (d1.updCor fun c => { c with reqs := [] }) 0x41 st p (.inl (by decide))
  have hjnl : (Dev.proxyDone _ 0x41 st p).jnl = _ := hf.1 .jnl (by simp)
  have hcor : (Dev.proxyDone _ 0x41 st p).cor = _ := hf.1 .cor (by simp)
  rw [campFollow_none _ (by rw [hjnl]; exact hcamp)]
  obtain ⟨hbusy, hdone, hres⟩ := proxyDone_fields (d1.updCor fun c => { c with reqs := [] }) 0x41 st p (by omega)
  exact ⟨by rw [hcor]; rfl, hbusy, hdone, hres, hfree.trans (hf.mono (by simp) fun _ h => h)⟩

/-- A REPLY with a status that R11 never returns (01 R41). -/
theorem corridorReply_unknown (s : State) (q a st : Nat) (p : List Byte) (h : 0x80 ≤ st) (hc : s.dev.jnl.camp = none) :
    Answers (.corridorReply q a st p) s fun u => u.cor.reqs = s.dev.cor.reqs ∧ OnlyIn [.cor] noKey s.dev u := by
  refine answers_of_upd (g := fun d => d.acceptUp q fun d => (d.corReply a st p).campFollow) rfl ?_
  have hg : (fun d : Dev => (d.corReply a st p).campFollow) = Dev.campFollow := by
    funext d; rw [corReply_unknown d a st p h]
  rw [hg]
  cases hq : (s.dev.cor.up.accept q).2 with
  | true =>
    rw [acceptUp_accepted _ _ _ hq, campFollow_none]
    · exact ⟨rfl, onlyIn_updCor _ _⟩
    · exact hc
  | false =>
    simp only [Dev.acceptUp, hq]
    exact ⟨rfl, onlyIn_updCor _ _⟩

/-- A reply time that runs out while the Corridor is up (01 R41). -/
theorem replyTimeout_answers (s : State) (r : CrReq) (hr : s.dev.cor.reqs = [r]) (ht : r.tries < 3) (hu : s.dev.cor.hostUp = true)
    (hc : s.dev.jnl.camp = none) : Answers (.replyTimeout r.seq) s fun u =>
      u.cor.reqs = [{ r with tries := r.tries + 1, seq := (s.dev.downSlot r.typ).1 }] ∧
      s.dev.sentDown u r.typ r.payload r.suite r.role r.origin false ∧ OnlyIn [.cor] noKey s.dev u := by
  refine answers_of_upd (g := fun d => (d.replyTimeout r.seq).campFollow) rfl ?_
  rw [replyTimeout_resends _ r hr ht hu, campFollow_none]
  · exact ⟨rfl, rfl, ((onlyIn_refl ..).updCor _ (by decide)).sendReq _ _ (by decide)⟩
  · exact hc

/-- Settles O27: each command of the link by its own lemma, the state read off the operation it performs. -/
theorem corridorLinkAcknowledgesResendsAndDrops : Obligations.CorridorLinkAcknowledgesResendsAndDrops := by
  unfold Obligations.CorridorLinkAcknowledgesResendsAndDrops
  intro s
  refine ⟨fun pre m post => linkAck_down_answers s pre post m, fun pre m post => linkAck_up_answers s pre post m, ?_,
    corridorNak_spares s, ?_, ?_, rfl, fun ue => ?_, ?_, corridorUnknownType_host s, corridorUnknownType_field s,
    corridorReply_proxy s, corridorReply_unknown s, replyTimeout_answers s⟩
  case refine_1 =>
    intro hq hl hf
    refine answers_of_upd (g := fun d => d.corNak true true) rfl ?_
    rw [corNak_counts _ hq hl hf]
    exact ⟨rfl, rfl, onlyIn_updCor _ _⟩
  case refine_2 =>
    intro hq hl hf hs
    refine answers_of_upd (g := fun d => d.corNak true true) rfl ?_
    rw [corNak_third _ hq hl hf, laneFails_lost _ hs]
    exact ⟨rfl, rfl, onlyIn_updCor _ _⟩
  case refine_3 =>
    exact fun down => answersDev_of_upd (g := fun d => d.corNak down false) rfl (corNak_order _ down)
  case refine_4 =>
    cases ue <;> rfl
  case refine_5 =>
    intro pb w hp hw
    refine answers_of_upd (g := fun d => (d.updCor fun c => { c with hbHost := 0 }).uncorrected .fy pb w (Mem.fy.agentOf 5)) rfl ?_
    obtain ⟨hbank, hword⟩ := uncorrected_fy_place (s.dev.updCor fun c => { c with hbHost := 0 }) pb w (Mem.fy.agentOf 5) hp hw
    exact ⟨rfl, hbank, hword, uncorrected_fy_ue .., ((onlyIn_refl ..).updCor _ (by decide)).trans
      ((onlyIn_uncorrected_fy _ pb w _).mono (by simp) fun _ h => h)⟩

end Sys2Proof.Machine
end

section
/-! Bytes and bits of register words: what the access codes leave of a write, and words as the lanes carry them (00 R6, R8). -/

namespace Sys2Proof.Machine

/-! ## Words as bytes -/

/-- Four bytes carry a number to 32 bits. -/
theorem le_four_toNat_ofNat (v : Nat) : le 4 (BitVec.ofNat 32 v).toNat = le 4 v := by
  have h8 : ∀ a b : Nat, a % 256 = b % 256 → BitVec.ofNat 8 a = BitVec.ofNat 8 b := fun a b h =>
    BitVec.eq_of_toNat_eq (by simpa using h)
  simp only [le, BitVec.toNat_ofNat, List.cons.injEq, and_true]
  exact ⟨h8 _ _ (by omega), h8 _ _ (by omega), h8 _ _ (by omega), h8 _ _ (by omega)⟩

theorem unle_lt (bs : List Byte) : unle bs < 256 ^ bs.length := by
  induction bs with
  | nil => simp [unle]
  | cons b t ih =>
    have hb : b.toNat < 256 := b.isLt
    simp only [unle, List.length_cons, Nat.pow_succ]
    omega

theorem field_four_lt (bs : List Byte) (o : Nat) : field bs o 4 < 2 ^ 32 := by
  have h := unle_lt ((bs.drop o).take 4)
  have hl : ((bs.drop o).take 4).length ≤ 4 := by simp
  exact lt_of_lt_of_le h (Nat.pow_le_pow_right (by decide) hl)

/-! ## Register writes by access code -/

/-- A field that software may only read refuses no write (00 R8). -/
theorem writeFields_ro (com : Bool) (old new : Nat) (l : List (Nat × Nat × Acc)) (h : ∀ f ∈ l, f.2.2 = .ro) :
    writeFields com old new l = (old, false) := by
  induction l with
  | nil => rfl
  | cons f t ih =>
    obtain ⟨hi, lo, a⟩ := f
    obtain rfl : a = .ro := h _ (List.mem_cons_self ..)
    simpa [writeFields] using ih fun g hg => h g (List.mem_cons_of_mem _ hg)

/-- A software write of a register: its fields by their access codes, E_LOCK where an RWL field refuses (00 R8). -/
theorem swWrite_row (d : Dev) (com : Bool) {k : Nat} {r : RegRow} (v : W32) (h : regRow k = some r) :
    d.swWrite com k v = (d.wr k (BitVec.ofNat 32 (writeFields com (d.rd k).toNat v.toNat r.fields).1),
      if (writeFields com (d.rd k).toNat v.toNat r.fields).2 then E_LOCK else E_OK) := by
  simp [Dev.swWrite, h]

/-- A software write of a reserved address is ignored (00 R10). -/
theorem swWrite_reserved (d : Dev) (com : Bool) {k : Nat} (v : W32) (h : regRow k = none) : d.swWrite com k v = (d, E_OK) := by
  simp [Dev.swWrite, h]

theorem OnlyIn.swWrite {ps : List Part} {ks : Nat → Bool} {d e : Dev} (h : OnlyIn ps ks d e) (com : Bool) {k : Nat} (v : W32)
    (hk : ks k = true) : OnlyIn ps ks d (e.swWrite com k v).1 := by
  cases hr : regRow k with
  | none => rw [swWrite_reserved e com v hr]; exact h
  | some r => rw [swWrite_row e com v hr]; exact h.wr _ hk

/-- A write that keeps no bit is a software write. -/
theorem writeKeep_zero (d : Dev) (k : Nat) (v : W32) : d.writeKeep k v 0 = (d.swWrite d.mod.committed k v).1 := by
  have h : (v &&& ~~~(0 : W32)) ||| (d.rd k &&& 0) = v := by
    rw [show ~~~(0 : W32) = BitVec.allOnes 32 from rfl, BitVec.and_allOnes]
    simp
  rw [Dev.writeKeep, h]

/-! ## Arrays of registers -/

theorem regIx_eq_none {k base n : Nat} (h : ¬(base ≤ k ∧ k < base + 4 * n)) : regIx k base n = none :=
  if_neg fun hc => h ⟨hc.1, hc.2.1⟩

theorem entry16_eq_none {k base n : Nat} (h : ¬(base ≤ k ∧ k < base + 16 * n)) : entry16 k base n = none := if_neg h

/-- A register outside some arrays lies outside each. -/
theorem not_keysIn {l : List (Nat × Nat)} {k : Nat} (h : keysIn l k = false) {b n : Nat} (hm : (b, n) ∈ l) : ¬(b ≤ k ∧ k < b + 4 * n) := by
  have := List.any_eq_false.mp h _ hm
  simpa using this

/-- A register whose write does no more than its access codes say is written by them (00 R8; 16 R425). -/
theorem fyWrite_plain (d : Dev) {k : Nat} (v : W32) (h : actsOnAccess k = false) : d.fyWrite k v = d.swWrite d.mod.committed k v := by
  have hpend := not_keysIn h (b := FY_EVPEND) (n := 4) (by decide)
  have hroute := not_keysIn h (b := FY_EVROUTE) (n := 4) (by decide)
  have hlatch := not_keysIn h (b := FY_LATCH) (n := 32) (by decide)
  have hbk := not_keysIn h (b := FY_BKRAM) (n := 32) (by decide)
  have htal := not_keysIn h (b := FY_TALCMPLO) (n := 16) (by decide)
  have halc := not_keysIn h (b := FY_ALCPTR) (n := 128) (by decide)
  have hld := not_keysIn h (b := FY_LDDATA) (n := 32) (by decide)
  have hcrp := not_keysIn h (b := FY_CRPADDR) (n := 1024) (by decide)
  have hses := not_keysIn h (b := FY_HPSESS) (n := 1) (by decide)
  have hevac := not_keysIn h (b := FY_EVAC) (n := 1) (by decide)
  have hecc := not_keysIn h (b := FY_ECCTEST) (n := 1) (by decide)
  have hptp := not_keysIn h (b := FY_PTPCFG) (n := 1) (by decide)
  have hcore : needsCore k = false := by
    simp only [needsCore, Bool.or_eq_false_iff, Bool.and_eq_false_imp, decide_eq_true_eq, decide_eq_false_iff_not]
    omega
  have hctl : k ≠ FY_CRPCTL := fun e => hcrp (by rw [e]; decide)
  have hfind : ([0, 1, 2, 3].find? fun n => decide (k = FY_TALCMPHI + 16 * n)) = none := by
    rw [List.find?_eq_none]
    intro n hn
    have hlo : FY_TALCMPHI = FY_TALCMPLO + 4 := rfl
    have hn4 : n < 4 := by revert n; decide
    simp only [decide_eq_true_eq, hlo]
    omega
  simp only [Dev.fyWrite, hcore, regIx_eq_none hpend, regIx_eq_none hroute, regIx_eq_none hlatch, regIx_eq_none hbk,
    entry16_eq_none (n := 32) halc, entry16_eq_none (n := 8) hld, show k ≠ FY_HPSESS from fun e => hses (by omega), hctl,
    show k ≠ FY_EVAC from fun e => hevac (by omega), show k ≠ FY_ECCTEST from fun e => hecc (by omega),
    show k ≠ FY_PTPCFG from fun e => hptp (by omega), hfind, if_false, false_and, Bool.false_and, Bool.false_eq_true]

end Sys2Proof.Machine
end

section
/-! Accesses of the host port: what an access leaves behind, and reads and writes of the register window (16 R421 to R427). -/

namespace Sys2Proof.Machine

/-! ## An access and its status -/

/-- A command that is a host access has its effect while the port answers (16 R420). -/
theorem answers_of_access {c : Instr} {s : State} {g : Dev → Dev} {P : Dev → Prop} (h : exec c s = s.upd fun d => d.access true g)
    (hp : s.dev.host.portUp = true) (hP : P (g s.dev)) : Answers c s P :=
  answers_of_upd h (by simpa [Dev.access, Dev.when, hp] using hP)

/-- An access leaves its bytes and its status at the port. -/
theorem accessDone_host (d : Dev) (code : Nat) (empty : Bool) (data : List Byte) :
    (d.accessDone code empty data).host = { d.host with lastData := data, lastStatus := code + 128 * b2n empty } := by
  unfold Dev.accessDone
  cases empty <;> split <;> rfl

/-- Without an error only the port changes. -/
theorem accessDone_ok (d : Dev) (data : List Byte) :
    d.accessDone E_OK false data = d.updHost fun h => { h with lastData := data, lastStatus := 0 } := rfl

theorem OnlyIn.accessDone {ps : List Part} {ks : Nat → Bool} {d e : Dev} (h : OnlyIn ps ks d e) (code : Nat) (empty : Bool)
    (data : List Byte) (hp : .host ∈ ps) (hk : ks FY_HPSTAT = true) : OnlyIn ps ks d (e.accessDone code empty data) := by
  have h1 : OnlyIn ps ks d (if code ≠ E_OK ∧ e.get FY_HPSTAT_CODE = 0 then e.put FY_HPSTAT_CODE code else e) := by
    split
    · exact h.put _ hk
    · exact h
  unfold Dev.accessDone
  cases empty
  · exact h1.updHost _ hp
  · exact (h1.put _ hk).updHost _ hp

/-- An access touches no register but FY_HPSTAT. -/
theorem onlyIn_accessDone (d : Dev) (code : Nat) (empty : Bool) (data : List Byte) :
    OnlyIn [.host] (· == FY_HPSTAT) d (d.accessDone code empty data) := (onlyIn_refl ..).accessDone _ _ _ (by decide) rfl

theorem accessDone_rd (d : Dev) (code : Nat) (empty : Bool) (data : List Byte) {k : Nat} (h : k ≠ FY_HPSTAT) :
    (d.accessDone code empty data).rd k = d.rd k := (onlyIn_accessDone d code empty data).2 k (by simpa using h)

theorem accessDone_get (d : Dev) (code : Nat) (empty : Bool) (data : List Byte) {x : Fld} (h : x.key ≠ FY_HPSTAT) :
    (d.accessDone code empty data).get x = d.get x := get_of_rd (accessDone_rd _ _ _ _ h)

theorem accessDone_bit (d : Dev) (code : Nat) (empty : Bool) (data : List Byte) {x : Fld} (h : x.key ≠ FY_HPSTAT) :
    (d.accessDone code empty data).bit x = d.bit x := bit_of_get (accessDone_get _ _ _ _ h)

theorem accessDone_fmp (d : Dev) (code : Nat) (empty : Bool) (data : List Byte) : (d.accessDone code empty data).fmp = d.fmp :=
  (onlyIn_accessDone d code empty data).1 .fmp (by decide)

theorem accessDone_cor (d : Dev) (code : Nat) (empty : Bool) (data : List Byte) : (d.accessDone code empty data).cor = d.cor :=
  (onlyIn_accessDone d code empty data).1 .cor (by decide)

/-! ## Reads of the register window -/

/-- The registers of time that a read copies are formed at the read (15 R413, R418). -/
theorem timeSeen_isSome (d : Dev) {k : Nat} (h : k ∈ [FY_TBRAWLO, FY_TIMELO, FY_OPSECLO, FY_RTCSUB, FY_RTCCAL1]) :
    (d.timeSeen k).isSome = true := by
  simp only [List.mem_cons, List.not_mem_nil, or_false] at h
  rcases h with rfl | rfl | rfl | rfl | rfl <;> rfl

/-- A register that is not formed at the read is none of time, of the event vector, of the latches and of the landings. -/
theorem fyLive_eq_none {d : Dev} {k : Nat} (h : d.fyLive k = none) : d.timeSeen k = none ∧ k ≠ FY_EVVEC ∧
    ((List.range 32).find? fun n => decide (k = FY_LATCH + 4 * n)) = none ∧
    ([4, 5, 6, 7].find? fun n => decide (k = FY_LDDATA + 16 * n)) = none := by
  unfold Dev.fyLive at h
  split at h
  · cases h
  · cases h
  · cases h
  · rename_i ht _
    split at h
    · cases h
    · split at h
      · cases h
      · rename_i hv
        split at h
        · cases h
        · rename_i hl
          exact ⟨Option.eq_none_iff_forall_ne_some.mpr ht, hv, hl, by simpa only [Option.map_eq_none_iff] using h⟩

/-- A register whose value is the stored one is read without an action (16 R423). -/
theorem fyRead_stored {d : Dev} {k : Nat} (h : d.fyLive k = none) : d.fyRead k = (d, d.fyPeek k, false) := by
  obtain ⟨ht, hv, hl, hld⟩ := fyLive_eq_none h
  have hnot : k ∉ [FY_TBRAWLO, FY_TIMELO, FY_OPSECLO, FY_RTCSUB, FY_RTCCAL1] := fun hk => by
    simpa [ht] using timeSeen_isSome d hk
  simp only [List.mem_cons, List.not_mem_nil, or_false, not_or] at hnot
  obtain ⟨hraw, htime, hop, hsub, hcal⟩ := hnot
  simp [Dev.fyRead, Dev.readAs, hv, hraw, htime, hop, hsub, hcal, hl, hld, hostMaster]

/-- The stored value as software sees it: the readable fields, 0 at a reserved address (00 R8, R10). -/
theorem fyPeek_stored {d : Dev} {k : Nat} (h : d.fyLive k = none) :
    (∀ r, regRow k = some r → d.fyPeek k = BitVec.ofNat 32 (readFields (d.rd k).toNat r.fields)) ∧
      (regRow k = none → d.fyPeek k = 0) := by
  refine ⟨fun r hr => ?_, fun hr => ?_⟩ <;> simp [Dev.fyPeek, h, hr]

/-- A read of one aligned word of the register window answers what the word read leaves and returns. -/
theorem hostRead_register (d : Dev) {a : Nat} (ha : a < 0x10000) (h4 : a % 4 = 0) : d.hostRead a 4 =
    (((d.wordRead a 4).1.accessDone (firstCode (d.wordRead a 4).2.2.1 E_OK) (d.wordRead a 4).2.2.2 (le 4 (d.wordRead a 4).2.1.toNat)).updHost
      fun h => { h with lastStatus := (d.wordRead a 4).2.2.1 + 128 * b2n (d.wordRead a 4).2.2.2 }) := by
  simp [Dev.hostRead, Dev.burstRead, regTop, ha, h4, le]

/-- A word of a register that the core domain does not serve reads 0 with E_PD while it is down (16 R425). -/
theorem wordRead_down (d : Dev) (a len : Nat) (hn : needsCore (fyKey a) = true) (hc : d.host.coreDown = true) :
    d.wordRead a len = (d, 0, E_PD, false) := by simp [Dev.wordRead, hn, hc]

/-- A whole word of a register is read by its key. -/
theorem wordRead_up (d : Dev) (a : Nat) (hc : needsCore (fyKey a) = true → d.host.coreDown = false) :
    d.wordRead a 4 = ((d.fyRead (fyKey a)).1, (d.fyRead (fyKey a)).2.1, E_OK, (d.fyRead (fyKey a)).2.2) := by
  have h : (needsCore (fyKey a) && d.host.coreDown) = false := by
    cases hn : needsCore (fyKey a) with
    | true => simp [hc hn]
    | false => rfl
  simp [Dev.wordRead, h]

/-! ## Writes of the register window -/

/-- No data port stands at an address whose key lies outside the landings. -/
theorem ldPortAt_eq_none {a base : Nat} (h : ∀ n < 8, fyKey a ≠ base + 16 * n) : ldPortAt a base = none := by
  simpa [ldPortAt, List.find?_eq_none] using h

/-- A burst of no bytes writes nothing. -/
theorem burstWrite_nil (k : Nat) (d : Dev) (a : Nat) : Dev.burstWrite k d a [] = (d, E_OK) := by
  cases k <;> rfl

/-- One whole word at a register that is no data port is a write of that register (16 R423). -/
theorem hostWrite_register (d : Dev) {a : Nat} {bs : List Byte} (ha : a < 0x10000) (h4 : a % 4 = 0) (hl : bs.length = 4)
    (hd : ldPortAt a FY_LDDATA = none) (he : ldPortAt a FY_LDEOP = none) (hv : fyKey a ≠ FY_EVVEC) :
    d.hostWrite a bs = (d.fyWrite (fyKey a) (BitVec.ofNat 32 (field bs 0 4))).1.accessDone
      (firstCode (d.fyWrite (fyKey a) (BitVec.ofNat 32 (field bs 0 4))).2 E_OK) false [] := by
  match bs, hl with
  | [b0, b1, b2, b3], _ => simp [Dev.hostWrite, Dev.burstWrite, hd, he, hv, regTop, ha, h4]

/-- A part of a word is refused with E_RANGE (16 R423). -/
theorem hostWrite_part (d : Dev) {a : Nat} {bs : List Byte} (ha : a < 0x10000) (h4 : a % 4 ≠ 0) (hl : bs.length = 4 - a % 4) :
    d.hostWrite a bs = d.accessDone E_RANGE false [] := by
  have hd : ldPortAt a FY_LDDATA = none := ldPortAt_eq_none fun n _ => by simp only [fyKey, FY_LDDATA]; omega
  have he : ldPortAt a FY_LDEOP = none := ldPortAt_eq_none fun n _ => by simp only [fyKey, FY_LDEOP]; omega
  have hv : fyKey a ≠ FY_EVVEC := by simp only [fyKey, FY_EVVEC]; omega
  obtain ⟨b, t, rfl⟩ : ∃ b t, bs = b :: t := List.exists_cons_of_length_pos (by omega)
  have hdrop : (b :: t).drop (4 - a % 4) = [] := List.drop_eq_nil_of_le (by omega)
  have hlen : ¬ (b :: t).length < 4 - a % 4 := by omega
  simp only [Dev.hostWrite, Dev.burstWrite, hd, he, hv, regTop, ha, h4, hdrop, hlen, if_true, if_false, not_false_eq_true, ne_eq]
  rfl

/-- The Foyer half of the window refuses with E_LOCK (16 R428). -/
theorem hostWrite_foyerHalf (d : Dev) {a : Nat} {bs : List Byte} (hlo : 0x180000 ≤ a) (hhi : a + bs.length ≤ 0x200000) (hne : bs ≠ []) :
    d.hostWrite a bs = d.accessDone E_LOCK false [] := by
  have hd : ldPortAt a FY_LDDATA = none := ldPortAt_eq_none fun n _ => by simp only [fyKey, FY_LDDATA]; omega
  have he : ldPortAt a FY_LDEOP = none := ldPortAt_eq_none fun n _ => by simp only [fyKey, FY_LDEOP]; omega
  have hv : fyKey a ≠ FY_EVVEC := by simp only [fyKey, FY_EVVEC]; omega
  obtain ⟨b, t, rfl⟩ := List.exists_cons_of_ne_nil hne
  have hpos : 0 < (b :: t).length := by simp
  have hreg : ¬ a < regTop := by simp only [regTop]; omega
  have hwin : ¬ a < winBase := by simp only [winBase]; omega
  have hhalf : ¬ a < winBase + foyerHalf := by simp only [winBase, foyerHalf]; omega
  have htop : a < winTop := by simp only [winTop]; omega
  have hdrop : (b :: t).drop (winTop - a) = [] := List.drop_eq_nil_of_le (by simp only [winTop]; omega)
  simp only [Dev.hostWrite, Dev.burstWrite, hd, he, hv, hreg, hwin, hhalf, htop, hdrop, if_true, if_false]
  rfl

end Sys2Proof.Machine
end

section
/-! The host window word by word: reads and writes of words without an error, and a word that is uncorrectable (03 R66 to R70; 16 R428). -/

namespace Sys2Proof.Machine

/-! ## Words of memory and what they depend on -/

/-- Where a word stands is read from the registers alone. -/
theorem home_congr {d e : Dev} (h : e.regs = d.regs) (m : Mem) (pb w : Nat) : e.home m pb w = d.home m pb w := by
  have hget : e.get = d.get := funext fun x => get_of_regs h x
  have hbit : e.bit = d.bit := funext fun x => by rw [Dev.bit, hget, Dev.bit]
  unfold Dev.home Dev.remapOf
  rw [hget, hbit]

/-- The state of a word of the Foyer's memory is kept with that memory. -/
theorem word_fy_congr {d e : Dev} (h : e.fmem = d.fmem) (pb w : Nat) : e.word .fy pb w = d.word .fy pb w := by
  simp [Dev.word, Dev.mem, h]

/-- Whether a word of the Foyer is clean is read from the registers and its memory alone. -/
theorem wordClean_fy_congr {d e : Dev} (hr : e.regs = d.regs) (hm : e.fmem = d.fmem) (lb w : Nat) :
    e.wordClean .fy lb w ↔ d.wordClean .fy lb w := by
  simp only [Dev.wordClean, Dev.phys, get_of_regs hr, home_congr hr, word_fy_congr hm]

/-! ## Reads -/

/-- Bytes read one stretch after the other. -/
theorem windowRead_append (d : Dev) (off i j : Nat) : d.windowRead off (i + j) = d.windowRead off i ++ d.windowRead (off + i) j := by
  simp [Dev.windowRead, List.range_add, Function.comp_def, Nat.add_assoc]

/-- A read whose words have no error answers the window's bytes and changes nothing (16 R428). -/
theorem windowGet_clean (d : Dev) (fuel : Nat) : ∀ (off n : Nat), n ≤ fuel →
    (∀ i, i < n → d.wordClean .fy (windowPlace (off + i)).1 (windowPlace (off + i)).2) →
    d.windowGet fuel off n = (d, d.windowRead off n, E_OK, E_OK) := by
  induction fuel with
  | zero => intro off n hn _; obtain rfl : n = 0 := by omega
            rfl
  | succ fuel ih =>
    intro off n hn hc
    by_cases h0 : n = 0
    · subst h0; rfl
    · obtain ⟨i, j, hi, rfl, hmin⟩ : ∃ i j, 0 < i ∧ n = i + j ∧ min n (8 - off % 8) = i :=
        ⟨min n (8 - off % 8), n - min n (8 - off % 8), by omega, by omega, rfl⟩
      have hread := readWord_clean d .fy (windowPlace off).1 (windowPlace off).2 (Mem.fy.agentOf hostMaster) (hc 0 (by omega))
      have hrest := ih (off + i) j (by omega) fun m hm => by rw [Nat.add_assoc]; exact hc (i + m) (by omega)
      simp [Dev.windowGet, hi.ne', hmin, hread, hrest, windowRead_append, firstCode]

/-- A read inside the window is a read of its words. -/
theorem hostRead_window (d : Dev) {a n : Nat} (hlo : 0x100000 ≤ a) (hhi : a + n ≤ 0x200000) (hn : n ≠ 0) : d.hostRead a n =
    (((d.windowGet (n + 1) (a - winBase) n).1.accessDone (firstCode (d.windowGet (n + 1) (a - winBase) n).2.2.2 E_OK) false
      (d.windowGet (n + 1) (a - winBase) n).2.1).updHost fun h => { h with lastStatus := (d.windowGet (n + 1) (a - winBase) n).2.2.1 }) := by
  have hreg : ¬ a < regTop := by simp only [regTop]; omega
  have hwin : ¬ a < winBase := by simp only [winBase]; omega
  have htop : a < winTop := by simp only [winTop]; omega
  have hmin : min n (winTop - a) = n := by simp only [winTop]; omega
  simp [Dev.hostRead, Dev.burstRead, hreg, hwin, htop, hmin, hn, b2n]

/-- A read of no bytes answers none. -/
theorem hostRead_nothing (d : Dev) (a : Nat) : d.hostRead a 0 = d.updHost fun h => { h with lastData := [], lastStatus := 0 } := rfl

/-- A read whose words have no error leaves its bytes at the port. -/
theorem hostRead_clean (d : Dev) {a n : Nat} (hlo : 0x100000 ≤ a) (hhi : a + n ≤ 0x200000)
    (hc : ∀ i, i < n → d.wordClean .fy (windowPlace (a - 0x100000 + i)).1 (windowPlace (a - 0x100000 + i)).2) :
    d.hostRead a n = d.updHost fun h => { h with lastData := d.windowRead (a - 0x100000) n, lastStatus := 0 } := by
  by_cases h0 : n = 0
  · subst h0; exact hostRead_nothing d a
  · rw [hostRead_window d hlo hhi h0, windowGet_clean d (n + 1) (a - winBase) n (by omega) hc]
    rfl

/-- A whole word with an uncorrectable error reads as zeros with E_ECC, and is recorded (03 R68, R70). -/
theorem windowGet_uncorrectable (d : Dev) (off : Nat) (ha : off % 8 = 0)
    (hv : (d.word .fy (d.home .fy (d.phys .fy (windowPlace off).1) (windowPlace off).2).1
      (d.home .fy (d.phys .fy (windowPlace off).1) (windowPlace off).2).2).valid = true)
    (he : (d.word .fy (d.home .fy (d.phys .fy (windowPlace off).1) (windowPlace off).2).1
      (d.home .fy (d.phys .fy (windowPlace off).1) (windowPlace off).2).2).err = .uncorrectable) :
    d.windowGet 9 off 8 = (d.uncorrected .fy (d.phys .fy (windowPlace off).1) (windowPlace off).2 (Mem.fy.agentOf hostMaster),
      List.replicate 8 0, E_ECC, E_ECC) := by
  have hread : d.readWord .fy (d.phys .fy (windowPlace off).1) (windowPlace off).2 (Mem.fy.agentOf hostMaster) =
      (d.uncorrected .fy (d.phys .fy (windowPlace off).1) (windowPlace off).2 (Mem.fy.agentOf hostMaster), .uncorrectable) := by
    simp [Dev.readWord, hv, he]
  simp [Dev.windowGet, hread, ha, firstCode, E_ECC, E_OK]

/-! ## Writes -/

/-- What a write to a word leaves of its integrity state: valid and free of error (03 R66). -/
def WordInfo.written (i : WordInfo) : WordInfo := { i with valid := true, err := .none, check := 0 }

/-- With no test armed a write leaves its word valid and free of error, and nothing else (03 R66, R81). -/
theorem stored_unarmed (d : Dev) (pb w : Nat) (home : Nat × Nat) (data : Nat) (h : d.bit FY_ECCTEST_ARM = false) :
    d.stored .fy pb w home data = d.setWord .fy home.1 home.2 (d.word .fy home.1 home.2).written := by
  have hw : ∀ e : Dev, e.bit FY_ECCTEST_ARM = false → ∀ pb, e.eccWindow .fy pb w data = e := fun e he pb => by
    simp [Dev.eccWindow, Mem.fld, he]
  have hs : (d.setWord .fy home.1 home.2 (d.word .fy home.1 home.2).written).bit FY_ECCTEST_ARM = false := h
  unfold WordInfo.written at hs ⊢
  unfold Dev.stored
  dsimp only
  split
  · split
    · rw [hw _ hs pb]; exact hw _ hs _
    · exact hw _ hs pb
  · exact hw _ hs pb

/-- The state of a word after any word of the Foyer's has been made free of error: as it was, or free of error. -/
theorem word_setWord_err (d : Dev) (pb w pb' w' : Nat) (i : WordInfo) (h : i.err = .none) :
    (d.setWord .fy pb w i).word .fy pb' w' = d.word .fy pb' w' ∨ ((d.setWord .fy pb w i).word .fy pb' w').err = .none := by
  show mget (d.fmem.plain pb' w') (mset (d.fmem.plain pb w) d.fmem.words (wordKey pb w) i) (wordKey pb' w') =
      mget (d.fmem.plain pb' w') d.fmem.words (wordKey pb' w') ∨
    (mget (d.fmem.plain pb' w') (mset (d.fmem.plain pb w) d.fmem.words (wordKey pb w) i) (wordKey pb' w')).err = .none
  unfold mset
  by_cases hk : wordKey pb' w' = wordKey pb w
  · right
    rw [hk]
    split
    · rw [mget_mdel_same]; rfl
    · rw [mget_mins_same _ _ _ _ (fresh_mdel _ _)]; exact h
  · left
    split
    · exact mget_mdel_other _ _ hk
    · rw [mget_mins_other _ _ _ hk, mget_mdel_other _ _ hk]

/-- A write leaves clean words clean. -/
theorem wordClean_setWord (d : Dev) (pb w lb w' : Nat) (i : WordInfo) (h : i.err = .none) (hc : d.wordClean .fy lb w') :
    (d.setWord .fy pb w i).wordClean .fy lb w' := by
  have hword := word_setWord_err d pb w (d.home .fy (d.phys .fy lb) w').1 (d.home .fy (d.phys .fy lb) w').2 i h
  rcases hword with hword | hword
  · exact hc.imp (congrArg WordInfo.valid hword).trans (congrArg WordInfo.err hword).trans
  · exact .inr hword

/-- A byte within the bytes written reads as written. -/
theorem windowWrite_same (d : Dev) (off : Nat) (bs : List Byte) {j : Nat} (h : j < bs.length) :
    mget (0 : Byte) (d.windowWrite off bs).host.window (off + j) = bs[j] := by
  induction bs using List.reverseRecOn with
  | nil => simp at h
  | append_singleton t b ih =>
    have hz : List.zip (List.range (t ++ [b]).length) (t ++ [b]) = List.zip (List.range t.length) t ++ [(t.length, b)] := by
      simp [List.range_succ, List.zip_append]
    simp only [Dev.windowWrite, updHost_host, hz, List.foldl_append, List.foldl_cons, List.foldl_nil] at ih ⊢
    by_cases hj : j = t.length
    · subst hj; simp
    · have hlt : j < t.length := by simp only [List.length_append, List.length_singleton] at h; omega
      rw [mget_mset_other _ _ _ (by omega), ih hlt, List.getElem_append_left hlt]

/-- Bytes laid over a window from an offset on: byte i afterwards. -/
def overlaid (w : Map Byte) (off : Nat) (bs : List Byte) (i : Nat) : Byte :=
  (bs[i - off]?.filter fun _ => decide (off ≤ i)).getD (mget 0 w i)

theorem overlaid_outside (w : Map Byte) {off : Nat} {bs : List Byte} {i : Nat} (h : i < off ∨ off + bs.length ≤ i) :
    overlaid w off bs i = mget 0 w i := by
  rcases h with h | h
  · simp [overlaid, Nat.not_le.mpr h]
  · simp [overlaid, List.getElem?_eq_none (l := bs) (i := i - off) (by omega)]

theorem overlaid_inside (w : Map Byte) (off : Nat) (bs : List Byte) {j : Nat} (h : j < bs.length) : overlaid w off bs (off + j) = bs[j] := by
  simp [overlaid, h, Option.filter]

/-- Bytes written lie over the window as it was. -/
theorem windowWrite_overlaid (d : Dev) (off : Nat) (bs : List Byte) (i : Nat) :
    mget (0 : Byte) (d.windowWrite off bs).host.window i = overlaid d.host.window off bs i := by
  by_cases h : i < off ∨ off + bs.length ≤ i
  · rw [windowWrite_other d off bs h, overlaid_outside _ h]
  · obtain ⟨j, rfl⟩ : ∃ j, i = off + j := ⟨i - off, by omega⟩
    have hj : j < bs.length := by omega
    rw [windowWrite_same d off bs hj, overlaid_inside _ _ _ hj]

/-- Bytes laid over a window in two stretches. -/
theorem overlaid_split (w w' : Map Byte) (off n : Nat) (bs : List Byte) (hw : ∀ i, mget 0 w' i = overlaid w off (bs.take n) i)
    (hn : n ≤ bs.length) (i : Nat) : overlaid w' (off + n) (bs.drop n) i = overlaid w off bs i := by
  have hlen : (bs.take n).length = n := by simp [hn]
  by_cases h1 : i < off
  · rw [overlaid_outside _ (.inl (by omega)), hw, overlaid_outside _ (.inl h1), overlaid_outside _ (.inl h1)]
  by_cases h2 : i < off + n
  · obtain ⟨j, rfl⟩ : ∃ j, i = off + j := ⟨i - off, by omega⟩
    have hj : j < (bs.take n).length := by omega
    rw [overlaid_outside _ (.inl h2), hw, overlaid_inside _ _ _ hj, overlaid_inside _ _ _ (by omega), List.getElem_take]
  by_cases h3 : i < off + bs.length
  · obtain ⟨j, rfl⟩ : ∃ j, i = off + n + j := ⟨i - (off + n), by omega⟩
    have hj : j < (bs.drop n).length := by simp only [List.length_drop]; omega
    have hi : off + n + j = off + (n + j) := by omega
    rw [overlaid_inside _ _ _ hj, List.getElem_drop, hi, overlaid_inside _ _ _ (by omega)]
  · rw [overlaid_outside _ (.inr (by simp only [List.length_drop]; omega)), hw, overlaid_outside _ (.inr (by omega)),
      overlaid_outside _ (.inr (by omega))]

/-- A write to a word that is not checked or has no error is performed where the word stands (03 R69). -/
theorem writeWord_clean (d : Dev) (pb w : Nat) (full : Bool) (master data : Nat)
    (h : (d.word .fy (d.home .fy pb w).1 (d.home .fy pb w).2).valid = false ∨
      (d.word .fy (d.home .fy pb w).1 (d.home .fy pb w).2).err = .none) :
    d.writeWord .fy pb w full master data = (d.stored .fy pb w (d.home .fy pb w) data, true) := by
  unfold Dev.writeWord
  rcases h with h | h <;> simp [h]

/-- A write within one word without an error stores its bytes and leaves the word valid and free of error (03 R66, R69). -/
theorem windowWord_clean (d : Dev) (master off : Nat) (bs : List Byte) (harm : d.bit FY_ECCTEST_ARM = false)
    (hc : d.wordClean .fy (windowPlace off).1 (windowPlace off).2) :
    ∃ pb w i, d.windowWord master off bs = ((d.windowWrite off bs).setWord .fy pb w (WordInfo.written i), E_OK) := by
  have hclean := (wordClean_fy_congr (d := d) (e := d.windowWrite off bs) rfl rfl _ _).mpr hc
  have hphys : (d.windowWrite off bs).phys .fy (windowPlace off).1 = d.phys .fy (windowPlace off).1 := get_of_regs rfl _
  simp only [Dev.wordClean, hphys] at hclean
  let home := (d.windowWrite off bs).home .fy (d.phys .fy (windowPlace off).1) (windowPlace off).2
  refine ⟨home.1, home.2, (d.windowWrite off bs).word .fy home.1 home.2, ?_⟩
  simp only [Dev.windowWord]
  rw [writeWord_clean _ _ _ _ master _ hclean, stored_unarmed (d.windowWrite off bs) _ _ _ _ harm]
  rfl

theorem onlyIn_setWord_fy (d : Dev) (pb w : Nat) (i : WordInfo) : OnlyIn [.fmem] noKey d (d.setWord .fy pb w i) :=
  onlyIn_part .fmem rfl fun p h => by cases p <;> simp [Part.same, Dev.setWord, Dev.updMem] at h ⊢

/-- A write whose words have no error lays its bytes over the window (16 R428). -/
theorem windowPut_clean (master fuel : Nat) : ∀ (d : Dev) (off : Nat) (bs : List Byte), bs.length ≤ fuel →
    d.bit FY_ECCTEST_ARM = false →
    (∀ i, i < bs.length → d.wordClean .fy (windowPlace (off + i)).1 (windowPlace (off + i)).2) →
    (d.windowPut fuel master off bs).2 = E_OK ∧ OnlyIn [.host, .fmem] noKey d (d.windowPut fuel master off bs).1 ∧
      ∀ i, mget 0 (d.windowPut fuel master off bs).1.host.window i = overlaid d.host.window off bs i := by
  induction fuel with
  | zero =>
    intro d off bs hl _ _
    obtain rfl : bs = [] := List.eq_nil_of_length_eq_zero (by omega)
    exact ⟨rfl, onlyIn_refl .., fun i => (overlaid_outside _ (by simp; omega)).symm⟩
  | succ fuel ih =>
    intro d off bs hl harm hc
    by_cases h0 : bs = []
    · subst h0
      exact ⟨rfl, onlyIn_refl .., fun i => (overlaid_outside _ (by simp; omega)).symm⟩
    · have hpos : 0 < bs.length := List.length_pos_iff.mpr h0
      obtain ⟨pb, w, x, hword⟩ := windowWord_clean d master off (bs.take (8 - off % 8)) harm (hc 0 hpos)
      let e := (d.windowWrite off (bs.take (8 - off % 8))).setWord .fy pb w x.written
      have hclean : ∀ lb w', d.wordClean .fy lb w' → e.wordClean .fy lb w' := fun lb w' h =>
        wordClean_setWord (d.windowWrite off (bs.take (8 - off % 8))) pb w lb w' x.written rfl h
      have hstep : d.windowPut (fuel + 1) master off bs =
          ((Dev.windowPut fuel e master (off + (8 - off % 8)) (bs.drop (8 - off % 8))).1,
            firstCode E_OK (Dev.windowPut fuel e master (off + (8 - off % 8)) (bs.drop (8 - off % 8))).2) := by
        simp only [Dev.windowPut, h0, hword, if_false]
        rfl
      obtain ⟨hcode, hframe, hbytes⟩ := ih e (off + (8 - off % 8)) (bs.drop (8 - off % 8)) (by simp; omega) harm fun i hi => by
        simp only [List.length_drop] at hi
        rw [Nat.add_assoc]
        exact hclean _ _ (hc _ (by omega))
      have hde : OnlyIn [.host, .fmem] noKey d e :=
        ((onlyIn_refl ..).updHost _ (by decide)).step (by decide) (onlyIn_setWord_fy _ pb w _)
      rw [hstep]
      refine ⟨by rw [hcode]; rfl, hde.trans hframe, fun i => ?_⟩
      rw [hbytes]
      by_cases hn : 8 - off % 8 ≤ bs.length
      · exact overlaid_split _ _ off _ bs (fun i => windowWrite_overlaid d off _ i) hn i
      · have htake : bs.take (8 - off % 8) = bs := List.take_of_length_le (by omega)
        have hdrop : bs.drop (8 - off % 8) = [] := List.drop_eq_nil_of_le (by omega)
        have hsame : mget 0 e.host.window i = overlaid d.host.window off (bs.take (8 - off % 8)) i := windowWrite_overlaid d off _ i
        rw [hdrop, overlaid_outside _ (by simp; omega), hsame, htake]

/-- What a burst leaves when no bytes follow. -/
theorem burstWrite_end (k a : Nat) (r : Dev × Nat) :
    ((Dev.burstWrite k r.1 a []).1, firstCode r.2 (Dev.burstWrite k r.1 a []).2) = (r.1, firstCode r.2 E_OK) := by rw [burstWrite_nil]

/-- The bytes of a burst that all lie in the host half go to the window, and end it. -/
theorem burstWrite_window (k : Nat) (d : Dev) {a : Nat} {bs : List Byte} (hlo : 0x100000 ≤ a) (hhi : a + bs.length ≤ 0x180000) (hne : bs ≠ []) :
    Dev.burstWrite (k + 1) d a bs = ((d.windowPut (bs.length + 1) hostMaster (a - winBase) bs).1,
      firstCode (d.windowPut (bs.length + 1) hostMaster (a - winBase) bs).2 E_OK) := by
  have hd : ldPortAt a FY_LDDATA = none := ldPortAt_eq_none fun n _ => by simp only [fyKey, FY_LDDATA]; omega
  have he : ldPortAt a FY_LDEOP = none := ldPortAt_eq_none fun n _ => by simp only [fyKey, FY_LDEOP]; omega
  have hv : fyKey a ≠ FY_EVVEC := by simp only [fyKey, FY_EVVEC]; omega
  have hpos : 0 < bs.length := List.length_pos_iff.mpr hne
  have hreg : ¬ a < regTop := by simp only [regTop]; omega
  have hwin : ¬ a < winBase := by simp only [winBase]; omega
  have hhalf : a < winBase + foyerHalf := by simp only [winBase, foyerHalf]; omega
  have hle : bs.length ≤ winBase + foyerHalf - a := by simp only [winBase, foyerHalf]; omega
  obtain ⟨b, t, rfl⟩ := List.exists_cons_of_ne_nil hne
  rw [Dev.burstWrite, hd, he]
  dsimp only
  rw [if_neg hv, if_neg hreg, if_neg hwin, if_pos hhalf]
  rw [List.drop_eq_nil_of_le hle, List.take_of_length_le hle, burstWrite_end]

/-- A write inside the host half is a write of its words. -/
theorem hostWrite_window (d : Dev) {a : Nat} {bs : List Byte} (hlo : 0x100000 ≤ a) (hhi : a + bs.length ≤ 0x180000) (hne : bs ≠ []) :
    d.hostWrite a bs = (d.windowPut (bs.length + 1) hostMaster (a - winBase) bs).1.accessDone
      (firstCode (d.windowPut (bs.length + 1) hostMaster (a - winBase) bs).2 E_OK) false [] := by
  rw [Dev.hostWrite, burstWrite_window (bs.length + 3) d hlo hhi hne]

end Sys2Proof.Machine
end

section
/-! The event controller, the session binding and the Corridor proxy of the host port (16 R426, R439, R440, R456). -/

namespace Sys2Proof.Machine

/-! ## Pending sources -/

/-- The pending bit of a source (16 R439). -/
def pendFld (n : Nat) : Fld := ⟨FY_EVPEND + 4 * (n / 32), n % 32, n % 32⟩

theorem pendFld_ok (n : Nat) : (pendFld n).ok = true := by simp [Fld.ok, pendFld, Nat.mod_lt]

theorem pendFld_apart {m n : Nat} (h : m ≠ n) : (pendFld m).apart (pendFld n) = true := by
  by_cases hk : m / 32 = n / 32
  · have hb : m % 32 < n % 32 ∨ n % 32 < m % 32 := by omega
    simpa [Fld.apart, pendFld, hk] using hb
  · simp [Fld.apart, pendFld, hk]

/-- A source that is set stays set while others are set. -/
theorem pend_keeps (l : List Nat) (m : Nat) : ∀ d : Dev, d.bit (pendFld m) = true → (d.pend l).bit (pendFld m) = true := by
  induction l with
  | nil => exact fun d h => h
  | cons n t ih =>
    intro d h
    refine ih (d.put (pendFld n) 1) ?_
    by_cases hn : n = m
    · subst hn; rw [bit_put_same _ _ _ (pendFld_ok n) (by simp [pendFld])]; rfl
    · rw [bit_put_other _ _ _ _ (pendFld_ok n) (pendFld_ok m) (pendFld_apart hn)]; exact h

/-- Every source of an event is pending (16 R439). -/
theorem pend_sets (l : List Nat) (m : Nat) (h : m ∈ l) : ∀ d : Dev, (d.pend l).bit (pendFld m) = true := by
  induction l with
  | nil => cases h
  | cons n t ih =>
    intro d
    by_cases ht : m ∈ t
    · exact ih ht (d.put (pendFld n) 1)
    · obtain rfl : m = n := by simpa [ht] using h
      refine pend_keeps t m (d.put (pendFld m) 1) ?_
      rw [bit_put_same _ _ _ (pendFld_ok m) (by simp [pendFld])]; rfl

/-- The landing writes no pending bit. -/
theorem land_bit_pend (d : Dev) (e : LandEntry) (hr : e.ev.region < 8) {m : Nat} (hm : m < 128) :
    (d.land e).bit (pendFld m) = d.bit (pendFld m) := by
  have hstat : (pendFld m).key ≠ FY_ARCSTAT := by simp only [pendFld, FY_EVPEND, FY_ARCSTAT]; omega
  have hsupp : (pendFld m).key ≠ FY_ARCSUPP + 4 * e.ev.region := by simp only [pendFld, FY_EVPEND, FY_ARCSUPP]; omega
  suffices hrd : (d.land e).rd (pendFld m).key = d.rd (pendFld m).key from bit_of_get (get_of_rd hrd)
  unfold Dev.land
  split
  · simp only [Dev.arcStat]
    rw [rd_put_other _ _ _ hstat, rd_put_other _ _ _ hstat]
    rfl
  · rw [rd_put_other _ _ _ hstat, Dev.inc, rd_put_other _ _ _ hsupp]
    rfl

/-- An event sets every source it names (16 R439). -/
theorem raiseFy_pends (d : Dev) (ev : Ev) (hs : ∀ m ∈ ev.sources, m < 128) (hr : ev.region < 8) :
    ∀ m ∈ ev.sources, (d.raiseFy ev).bit (pendFld m) = true := fun m hm =>
  (land_bit_pend (d.pend ev.sources) ⟨ev, false, false⟩ hr (hs m hm)).trans (pend_sets ev.sources m hm d)

/-- The region of an event raised under its own code is one of the eight. -/
theorem regionOk_lt {ev : Ev} (h : ev.regionOk = true) : ev.region < 8 := by
  have hi := hi_lt ev.id
  unfold Ev.regionOk at h
  split at h
  · simp only [Bool.or_eq_true, beq_iff_eq] at h; omega
  · simp only [beq_iff_eq] at h; omega

/-- While the landing is full, or after a power warning, an event is counted against its region and not kept (19 R518, R521). -/
theorem raiseFy_suppressed (d : Dev) (ev : Ev) (h : ¬ d.landingFree) : (d.raiseFy ev).arc.landing = d.arc.landing ∧
    (d.raiseFy ev).bit FY_ARCSTAT_SUPPRESSING = true ∧ mget 0 (d.raiseFy ev).arc.period ev.region = mget 0 d.arc.period ev.region + 1 := by
  have hf : ((d.pend ev.sources).arc.landing.length < arcCap && !(d.pend ev.sources).arc.warned) = false := by
    rw [pend_arc]
    by_cases hw : d.arc.warned = true
    · simp [hw]
    · have hl : ¬ d.arc.landing.length < arcCap := fun hl => h ⟨hl, by simpa using hw⟩
      simp [hl]
  unfold Dev.raiseFy Dev.land
  rw [if_neg (by rw [hf]; decide)]
  refine ⟨by simp, ?_, by simp [mupd]⟩
  rw [bit_put_same _ _ _ rfl (by decide)]
  rfl

/-- While the landing has room an event counts against no region. -/
theorem raiseFy_period (d : Dev) (ev : Ev) (h : d.landingFree) : (d.raiseFy ev).arc.period = d.arc.period := by
  simp [Dev.raiseFy, Dev.land, Dev.arcStat, h.1, h.2]

/-! ## The vector -/

/-- A step that keeps the first of the highest priority, from a list that holds no higher one. -/
theorem foldl_keeps_first_max (pri : Nat → Nat) (f : Option Nat → Nat → Option Nat)
    (hf : ∀ m n, f (some m) n = if pri m < pri n then some n else some m) (n : Nat) (l : List Nat) (h : ∀ m ∈ l, ¬ pri n < pri m) :
    l.foldl f (some n) = some n := by
  induction l with
  | nil => rfl
  | cons m t ih =>
    rw [List.foldl_cons, hf, if_neg (h m (by simp))]
    exact ih fun x hx => h x (by simp [hx])

/-- A list of lower priorities leaves none that stands against a higher one. -/
theorem foldl_of_lower (pri : Nat → Nat) (f : Option Nat → Nat → Option Nat) (h0 : ∀ n, f none n = some n)
    (hf : ∀ m n, f (some m) n = if pri m < pri n then some n else some m) (p : Nat) (l : List Nat) (h : ∀ m ∈ l, pri m < p) :
    ∀ b : Option Nat, (∀ m, b = some m → pri m < p) → ∀ m, l.foldl f b = some m → pri m < p := by
  induction l with
  | nil => exact fun b hb => hb
  | cons x t ih =>
    intro b hb
    refine ih (fun m hm => h m (by simp [hm])) (f b x) fun m hm => ?_
    have hx : pri x < p := h x (by simp)
    cases b with
    | none => rw [h0] at hm; cases hm; exact hx
    | some y =>
      rw [hf] at hm
      split at hm
      · cases hm; exact hx
      · cases hm; exact hb _ rfl

/-- Of rising numbers the choice is the first of the highest priority. -/
theorem foldl_first_max (pri : Nat → Nat) (f : Option Nat → Nat → Option Nat) (h0 : ∀ n, f none n = some n)
    (hf : ∀ m n, f (some m) n = if pri m < pri n then some n else some m) {l : List Nat} (hl : l.Pairwise (· < ·)) {n : Nat} (hn : n ∈ l)
    (hmax : ∀ m ∈ l, pri m < pri n ∨ pri m = pri n ∧ n ≤ m) : l.foldl f none = some n := by
  obtain ⟨pre, post, rfl⟩ := List.append_of_mem hn
  have hpre : ∀ m ∈ pre, pri m < pri n := fun m hm => by
    have hlt : m < n := (List.pairwise_append.mp hl).2.2 m hm n (by simp)
    rcases hmax m (by simp [hm]) with h | h
    · exact h
    · omega
  have hlow := foldl_of_lower pri f h0 hf (pri n) pre hpre none (by simp)
  have hstep : f (pre.foldl f none) n = some n := by
    cases hb : pre.foldl f none with
    | none => exact h0 n
    | some m => rw [hf, if_pos (hlow m hb)]
  rw [List.foldl_append, List.foldl_cons, hstep]
  refine foldl_keeps_first_max pri f hf n post fun m hm => ?_
  rcases hmax m (by simp [hm]) with h | h <;> omega

/-- FY_EVVEC delivers the pending source of the highest priority, ties to the lower number (16 R439). -/
theorem evNext_eq_some {d : Dev} {n : Nat} (hn : n ∈ d.hostSources)
    (hmax : ∀ m ∈ d.hostSources, d.evPri m < d.evPri n ∨ d.evPri m = d.evPri n ∧ n ≤ m) : d.evNext = some n :=
  foldl_first_max d.evPri _ (fun _ => rfl) (fun _ _ => rfl) (List.pairwise_lt_range.filter _) hn hmax

theorem evNext_eq_none {d : Dev} (h : d.hostSources = []) : d.evNext = none := by simp [Dev.evNext, h]

/-! ## The bound session -/

/-- The open sessions as the registers show them; the binding itself stays. -/
theorem onlyIn_fmpShow (d : Dev) : OnlyIn [] (fun k => k == FY_FMPSTAT || k == FY_HPSESS) d d.fmpShow :=
  (((onlyIn_refl _ _ d).put _ rfl).put _ rfl).put _ rfl

theorem fmpShow_fmp (d : Dev) : d.fmpShow.fmp = d.fmp := (onlyIn_fmpShow d).1 .fmp (by simp)

theorem fmpShow_session (d : Dev) : d.fmpShow.get FY_HPSESS_SESSION = d.get FY_HPSESS_SESSION := by
  unfold Dev.fmpShow
  rw [get_put_other _ _ _ _ rfl rfl rfl, get_put_other _ _ _ _ rfl rfl rfl, get_put_other _ _ _ _ rfl rfl rfl]

/-- OPEN tells whether the bound session is open (16 R456). -/
theorem fmpShow_open (d : Dev) : d.fmpShow.bit FY_HPSESS_OPEN = mhas d.fmp.sessions (d.get FY_HPSESS_SESSION) := by
  unfold Dev.fmpShow
  cases h : mhas d.fmp.sessions (d.get FY_HPSESS_SESSION) with
  | true => exact bit_put_same _ _ _ rfl (by decide)
  | false => exact bit_put_same _ _ _ rfl (by decide)

theorem mhas_of_mget? {α : Type} {m : Map α} {k : Nat} {x : α} (h : mget? m k = some x) : mhas m k = true := by
  induction m with
  | nil => cases h
  | cons e t ih =>
    obtain ⟨j, v⟩ := e
    by_cases hj : j = k
    · simp [mhas, hj]
    · have ht : mhas t k = true := ih (by simpa [mget?, hj] using h)
      simpa [mhas, hj] using ht

theorem mget_of_mget? {α : Type} (d : α) {m : Map α} {k : Nat} {x : α} (h : mget? m k = some x) : mget d m k = x := by
  induction m with
  | nil => cases h
  | cons e t ih =>
    obtain ⟨j, v⟩ := e
    by_cases hj : j = k
    · simpa [mget, mget?, hj] using h
    · simpa [mget, hj] using ih (by simpa [mget?, hj] using h)

/-- A session of the host port, or none at all, is bound (16 R456). -/
theorem hpsessWrite_binds (d : Dev) (v : W32)
    (h : bitsOf v.toNat 7 0 = 0 ∨ ∃ x, mget? d.fmp.sessions (bitsOf v.toNat 7 0) = some x ∧ x.udp = false) :
    d.hpsessWrite v = ((d.put FY_HPSESS_SESSION (bitsOf v.toNat 7 0)).fmpShow, E_OK) := by
  rcases h with h | ⟨x, hx, hu⟩
  · simp [Dev.hpsessWrite, h]
  · simp [Dev.hpsessWrite, hx, hu]

/-- Any other number binds none, with E_NO_SESSION. -/
theorem hpsessWrite_refuses (d : Dev) (v : W32) (hn : bitsOf v.toNat 7 0 ≠ 0)
    (h : ∀ x, mget? d.fmp.sessions (bitsOf v.toNat 7 0) = some x → x.udp = true) :
    d.hpsessWrite v = ((d.put FY_HPSESS_SESSION 0).fmpShow, E_NO_SESSION) := by
  cases hx : mget? d.fmp.sessions (bitsOf v.toNat 7 0) with
  | none => simp [Dev.hpsessWrite, hn, hx]
  | some x => simp [Dev.hpsessWrite, hn, hx, h x hx]

/-! ## The proxy -/

theorem regRow_crpctl : regRow FY_CRPCTL = some ⟨0x01001004, 0x01001004, 4, 0x00000100,
    [(0, 0, .wo), (1, 1, .wo), (7, 2, .ro), (13, 8, .rw), (16, 16, .ro), (17, 17, .w1c), (31, 24, .ro)]⟩ := by decide +kernel

/-- A write of FY_CRPCTL takes COUNT over, and leaves BUSY (16 R456). -/
theorem swWrite_crpctl (d : Dev) (com : Bool) (v : W32) :
    (d.swWrite com FY_CRPCTL v).1.get FY_CRPCTL_COUNT = bitsOf v.toNat 13 8 ∧
      (d.swWrite com FY_CRPCTL v).1.bit FY_CRPCTL_BUSY = d.bit FY_CRPCTL_BUSY := by
  rw [swWrite_row d com v regRow_crpctl]
  generalize hy : bitsOf (d.rd FY_CRPCTL).toNat 17 17 - (bitsOf (d.rd FY_CRPCTL).toNat 17 17 &&& bitsOf v.toNat 17 17) = y
  have h1 := putBits_lt (d.rd FY_CRPCTL).toNat 17 17 y (by omega) (by omega) (d.rd FY_CRPCTL).isLt
  have h2 := putBits_lt _ 13 8 (bitsOf v.toNat 13 8) (by omega) (by omega) h1
  simp only [writeFields, hy]
  refine ⟨?_, bit_of_get ?_⟩
  · simp only [Dev.get, FY_CRPCTL_COUNT, rd_wr_same, BitVec.toNat_ofNat, Nat.mod_eq_of_lt h2]
    rw [bitsOf_putBits_same _ _ _ _ (by omega), Nat.mod_eq_of_lt (bitsOf_lt _ _ _)]
  · simp only [Dev.get, FY_CRPCTL_BUSY, rd_wr_same, BitVec.toNat_ofNat, Nat.mod_eq_of_lt h2]
    rw [bitsOf_putBits_above _ _ _ _ _ _ (by omega) (by omega), bitsOf_putBits_below _ _ _ _ _ _ (by omega) (by omega) (by omega)]

end Sys2Proof.Machine
end

section
/-! The Corridor proxy's requests, and register writes that have no row of their own (16 R426, R456; 00 R8; 06 R156). -/

namespace Sys2Proof.Machine

/-! ## A request of the proxy -/

/-- A field of a word as bits of the word. -/
theorem bitsOf_toNat (v : W32) (hi lo : Nat) : bitsOf v.toNat hi lo = (v.extractLsb' lo (hi + 1 - lo)).toNat := by
  simp [bitsOf, Nat.shiftRight_eq_div_pow]

/-- FY_CRPCTL written: COUNT taken over, all else but that register as it was. -/
def Dev.crpTaken (d : Dev) (v : W32) (e : Dev) : Prop :=
  OnlyIn [] (· == FY_CRPCTL) d e ∧ e.get FY_CRPCTL_COUNT = bitsOf v.toNat 13 8 ∧ e.bit FY_CRPCTL_BUSY = d.bit FY_CRPCTL_BUSY

/-- A write of FY_CRPCTL that differs from another in READ and WRITE alone takes the same COUNT over. -/
theorem swWrite_crpTaken (d : Dev) (com : Bool) (v w : W32) (h : w.extractLsb' 8 6 = v.extractLsb' 8 6) :
    d.crpTaken v (d.swWrite com FY_CRPCTL w).1 := by
  obtain ⟨hcount, hbusy⟩ := swWrite_crpctl d com w
  exact ⟨(onlyIn_refl ..).swWrite com w rfl, by rw [hcount, bitsOf_toNat, bitsOf_toNat, h], hbusy⟩

/-- READ sends a REG_READ (16 R456). -/
theorem crpWrite_read (d : Dev) (v : W32) (hc : d.host.coreDown = false) : ∃ e, d.crpTaken v e ∧ d.crpWrite (v ||| 1) = e.proxy 0x40 := by
  have hbits : (v ||| 1).extractLsb' 8 6 = v.extractLsb' 8 6 := by
    ext i hi
    interval_cases i <;> simp
  exact ⟨_, swWrite_crpTaken d d.mod.committed v (v ||| 1) hbits, by simp [Dev.crpWrite, hc]⟩

/-- WRITE without READ sends a REG_WRITE (16 R456). -/
theorem crpWrite_write (d : Dev) (v : W32) (hc : d.host.coreDown = false) :
    ∃ e, d.crpTaken v e ∧ d.crpWrite ((v ||| 2) &&& 0xFFFFFFFE) = e.proxy 0x41 := by
  have hbits : ((v ||| 2) &&& 0xFFFFFFFE).extractLsb' 8 6 = v.extractLsb' 8 6 := by
    ext i hi
    interval_cases i <;> simp
  exact ⟨_, swWrite_crpTaken d d.mod.committed v ((v ||| 2) &&& 0xFFFFFFFE) hbits, by simp [Dev.crpWrite, hc]⟩

/-- A read or a write of the proxy is one request of its type on the register as written. -/
theorem proxyRead_answers {s : State} {v : W32} {P : Dev → Prop} (hp : s.dev.host.portUp = true) (hc : s.dev.host.coreDown = false)
    (h : ∀ e, s.dev.crpTaken v e → P ((e.proxy 0x40).1.accessDone (e.proxy 0x40).2 false [])) : Answers (.proxyRead v) s P := by
  obtain ⟨e, he, hw⟩ := crpWrite_read s.dev v hc
  refine answers_of_access (g := fun d => let r := d.crpWrite (v ||| 1); r.1.accessDone r.2 false []) rfl hp ?_
  rw [hw]
  exact h e he

theorem proxyWrite_answers {s : State} {v : W32} {P : Dev → Prop} (hp : s.dev.host.portUp = true) (hc : s.dev.host.coreDown = false)
    (h : ∀ e, s.dev.crpTaken v e → P ((e.proxy 0x41).1.accessDone (e.proxy 0x41).2 false [])) : Answers (.proxyWrite v) s P := by
  obtain ⟨e, he, hw⟩ := crpWrite_write s.dev v hc
  refine answers_of_access (g := fun d => let r := d.crpWrite ((v ||| 2) &&& 0xFFFFFFFE); r.1.accessDone r.2 false []) rfl hp ?_
  rw [hw]
  exact h e he

/-- Both commands of the proxy at once. -/
theorem proxy_answers {s : State} {v : W32} {P : Dev → Prop} (hp : s.dev.host.portUp = true) (hc : s.dev.host.coreDown = false)
    (h : ∀ typ e, s.dev.crpTaken v e → P ((e.proxy typ).1.accessDone (e.proxy typ).2 false [])) :
    ∀ g ∈ [Instr.proxyRead v, .proxyWrite v], Answers g s P := by
  simp only [List.mem_cons, List.not_mem_nil, or_false, forall_eq_or_imp, forall_eq]
  exact ⟨proxyRead_answers hp hc (h 0x40), proxyWrite_answers hp hc (h 0x41)⟩

/-! ## What the bound session allows -/

/-- Roles that a request of the proxy may have (16 R456). -/
def proxyRoles (typ : Nat) : List Nat := if typ = 0x40 then [1, 2] else [1]

theorem crpTaken_session {d e : Dev} {v : W32} (h : d.crpTaken v e) :
    e.fmp = d.fmp ∧ e.get FY_HPSESS_SESSION = d.get FY_HPSESS_SESSION ∧ e.cor = d.cor :=
  ⟨h.1.1 .fmp (by simp), get_of_rd (h.1.2 _ rfl), h.1.1 .cor (by simp)⟩

theorem boundRole_none {d e : Dev} {v : W32} (h : d.crpTaken v e) (hs : mget? d.fmp.sessions (d.get FY_HPSESS_SESSION) = none) (l : List Nat) :
    e.boundRole l = E_NO_SESSION := by
  obtain ⟨hf, hg, -⟩ := crpTaken_session h
  rw [Dev.boundRole, hf, hg, hs]

theorem boundRole_some {d e : Dev} {v : W32} {x : Session} (h : d.crpTaken v e)
    (hs : mget? d.fmp.sessions (d.get FY_HPSESS_SESSION) = some x) (l : List Nat) :
    e.boundRole l = if l.contains x.role then E_OK else E_ROLE := by
  obtain ⟨hf, hg, -⟩ := crpTaken_session h
  rw [Dev.boundRole, hf, hg, hs]

/-- What the session does not allow is refused with its code. -/
theorem proxy_refuses (e : Dev) {typ c : Nat} (h : e.boundRole (proxyRoles typ) = c) (hc : c ≠ E_OK) : e.proxy typ = (e, c) := by
  unfold proxyRoles at h
  simp [Dev.proxy, h, hc]

/-- One request at a time (16 R456). -/
theorem proxy_busy (e : Dev) {typ : Nat} (h : e.boundRole (proxyRoles typ) = E_OK) (hb : e.bit FY_CRPCTL_BUSY = true) :
    e.proxy typ = (e, E_BUSY) := by
  unfold proxyRoles at h
  simp [Dev.proxy, h, hb]

/-- Without the Corridor the request ends at once with E_PD (01 R42). -/
theorem proxy_down (e : Dev) {typ : Nat} (h : e.boundRole (proxyRoles typ) = E_OK) (hb : e.bit FY_CRPCTL_BUSY = false)
    (hu : e.cor.hostUp = false) : e.proxy typ = (e.proxyDone typ E_PD [], E_OK) := by
  unfold proxyRoles at h
  simp [Dev.proxy, h, hb, hu]

/-- The message of the proxy: region, count and offset as its registers name them, in the name of the bound session (16 R450, R456). -/
def Dev.proxyReq (d : Dev) (typ : Nat) (v : W32) (x : Session) (data : List Byte) : CrReq := { CrReq.zero with
  typ := typ, session := d.get FY_HPSESS_SESSION, suite := x.suite, role := x.role, origin := b2n x.udp
  payload := le 1 (d.get FY_CRPADDR_REGION) ++ le 1 (if bitsOf v.toNat 13 8 = 0 then 64 else bitsOf v.toNat 13 8) ++ [0, 0] ++
    le 4 (d.get FY_CRPADDR_OFFSET) ++ data }

/-- The words of a request: none of a read, those of FY_CRPDATA of a write (16 R456). -/
def Dev.proxyData (d : Dev) (typ : Nat) (v : W32) : List Byte :=
  if typ = 0x40 then [] else (List.range (if bitsOf v.toNat 13 8 = 0 then 64 else bitsOf v.toNat 13 8)).flatMap fun i =>
    le 4 (d.rd (FY_CRPDATA + 4 * i)).toNat

/-- What the session allows, with the Corridor up, is sent (16 R456). -/
theorem proxy_sends {d e : Dev} {v : W32} {x : Session} (ht : d.crpTaken v e) {typ : Nat}
    (hs : mget? d.fmp.sessions (d.get FY_HPSESS_SESSION) = some x) (h : e.boundRole (proxyRoles typ) = E_OK)
    (hb : d.bit FY_CRPCTL_BUSY = false) (hu : d.cor.hostUp = true) :
    e.proxy typ = ((e.put FY_CRPCTL_BUSY 1).sendReq (d.proxyReq typ v x (d.proxyData typ v)), E_OK) := by
  obtain ⟨hf, hg, hcor⟩ := crpTaken_session ht
  obtain ⟨hframe, hcount, hbusy⟩ := ht
  have hreg : e.get FY_CRPADDR_REGION = d.get FY_CRPADDR_REGION := get_of_rd (hframe.2 _ rfl)
  have hoff : e.get FY_CRPADDR_OFFSET = d.get FY_CRPADDR_OFFSET := get_of_rd (hframe.2 _ rfl)
  have hdata : ∀ i, e.rd (FY_CRPDATA + 4 * i) = d.rd (FY_CRPDATA + 4 * i) := fun i =>
    hframe.2 _ (by simp only [FY_CRPDATA, FY_CRPCTL, beq_eq_false_iff_ne]; omega)
  have hx : mget Session.zero d.fmp.sessions (d.get FY_HPSESS_SESSION) = x := mget_of_mget? _ hs
  unfold proxyRoles at h
  simp only [Dev.proxy, h, hbusy, hb, hcor, hu, hf, hx, hcount, hreg, hoff, hdata, hg, Dev.proxyReq, Dev.proxyData]
  rfl

/-- What a send leaves on the lane depends on the Corridor alone. -/
theorem sendReq_cor_congr {d e : Dev} (h : e.cor = d.cor) (r : CrReq) : (e.sendReq r).cor = (d.sendReq r).cor := by
  obtain ⟨⟩ := d
  obtain ⟨⟩ := e
  subst h
  rfl

/-- A request that is sent: the proxy is busy, and the request waits for its reply behind what the lane carries. -/
theorem proxy_sent {d e : Dev} {v : W32} {x : Session} (ht : d.crpTaken v e) {typ : Nat}
    (hs : mget? d.fmp.sessions (d.get FY_HPSESS_SESSION) = some x) (h : e.boundRole (proxyRoles typ) = E_OK)
    (hb : d.bit FY_CRPCTL_BUSY = false) (hu : d.cor.hostUp = true) :
    ((e.proxy typ).1.accessDone (e.proxy typ).2 false []).bit FY_CRPCTL_BUSY = true ∧
      ((e.proxy typ).1.accessDone (e.proxy typ).2 false []).cor = (d.sendReq (d.proxyReq typ v x (d.proxyData typ v))).cor := by
  rw [proxy_sends ht hs h hb hu, accessDone_ok, updHost_bit, updHost_cor]
  have hsend := sendReq_eq_updCor (e.put FY_CRPCTL_BUSY 1) (d.proxyReq typ v x (d.proxyData typ v)) false
  have hcor : (e.put FY_CRPCTL_BUSY 1).cor = d.cor := (put_cor ..).trans (crpTaken_session ht).2.2
  refine ⟨?_, sendReq_cor_congr hcor _⟩
  rw [hsend, updCor_bit, bit_put_same _ _ _ rfl (by decide)]
  rfl

/-! ## Register writes that have no row of their own -/

/-- A host register whose write does no more than its access codes say (00 R8). -/
theorem registerWrite_host (d : Dev) (role : Nat) {k : Nat} (v : W32) (hk : k / 2 ^ 24 = 1) (h : actsOnAccess k = false) :
    d.registerWrite role k v = (d.swWrite d.mod.committed k v).1 := by
  simp only [Dev.registerWrite, hk, fyWrite_plain d v h]

/-- A Newel register that starts no operation, written by the operator (04 R123). -/
theorem registerWrite_newel (d : Dev) {k : Nat} (v : W32) (hk : k / 2 ^ 24 = 5) (h : k ∉ [NW_SWCTL, NW_QUAR, NW_REPAIRCFG]) :
    d.registerWrite 1 k v = (d.swWrite d.mod.committed k v).1 := by
  simp only [List.mem_cons, List.not_mem_nil, or_false, not_or] at h
  obtain ⟨hsw, hquar, hrep⟩ := h
  simp only [Dev.registerWrite, hk, Dev.nwWrite, hsw, hquar, hrep, writeKeep_zero, ne_eq, not_true_eq_false, if_false]

/-- A Newel register written in another role stays as it was (04 R123). -/
theorem registerWrite_newel_role (d : Dev) {role k : Nat} (v : W32) (hr : role ≠ 1) (hk : k / 2 ^ 24 = 5) :
    d.registerWrite role k v = d := by
  simp only [Dev.registerWrite, hk, Dev.nwWrite, if_pos hr]

/-- A Loggia register that enables no chain (13 R358). -/
theorem registerWrite_loggia (d : Dev) (role : Nat) {k : Nat} (v : W32) (hk : k / 2 ^ 24 = 7) (h : keysIn [(LG_CHCFG, 8)] k = false) :
    d.registerWrite role k v = (d.swWrite d.mod.committed k v).1 := by
  have hix := regIx_eq_none (not_keysIn h (b := LG_CHCFG) (n := 8) (by decide))
  simp only [Dev.registerWrite, hk, hix, Dev.lgWrite, writeKeep_zero]

/-- No input of the flights is a sample block. -/
theorem frame_kind_ne_sample (m : FlightIn) : m.frame.kind ≠ 0x04 := by
  unfold FlightIn.frame
  split <;> simp

/-- An input of the flights enters the ingress, or waits at its source while there is no room (01 R27, R30). -/
theorem arrive_eq_arrived (d : Dev) (m : FlightIn) : d.arrive m = d.arrived m := by
  unfold Dev.arrive Dev.ingress Dev.arrived
  by_cases h : d.nw.buffered + m.frame.bytes ≤ ingressCap ∧ d.nw.source = []
  · rw [if_pos h]
    simp only [Dev.updNw, if_pos h]
  · rw [if_neg h, if_neg fun hk => frame_kind_ne_sample m hk.1]
    simp only [Dev.updNw, if_neg h]

/-- A flight register is written by both flights at the snapshot that consumes the write (06 R156). -/
theorem registerWrite_flight (d : Dev) (role : Nat) {k : Nat} (v : W32) (hk : k / 2 ^ 24 = 3 ∨ k / 2 ^ 24 = 4) :
    d.registerWrite role k v = d.arrived (.fieldWrite (k % 2 ^ 24 + 3 * 2 ^ 24) v) := by
  rw [← arrive_eq_arrived]
  rcases hk with hk | hk <;> simp only [Dev.registerWrite, hk]

end Sys2Proof.Machine
end

section
/-! O53: reads and writes of the host port, its status, events, the bound session, the proxy, and register writes (chapter 16). -/

namespace Sys2Proof.Machine

/-! ## Reads -/

/-- A READ reads at the time it names while the port answers (16 R420, R421). -/
theorem answers_of_hostRead {s : State} {now a len : Nat} {P : Dev → Prop} (hp : s.dev.host.portUp = true) (ha : a < 2 ^ 24)
    (h : P ((s.dev.clock now).hostRead a len)) : Answers (.hostRead now a len) s P := by
  refine answers_of_upd (g := fun d => (d.clock now).access true fun d => d.hostRead (a % 2 ^ 24) len) rfl ?_
  have hp' : (s.dev.clock now).host.portUp = true := hp
  rw [Nat.mod_eq_of_lt ha]
  simpa [Dev.access, Dev.when, hp'] using h

/-- A WRITE writes while the port answers. -/
theorem answers_of_hostWrite {s : State} {a : Nat} {bs : List Byte} {P : Dev → Prop} (hp : s.dev.host.portUp = true) (ha : a < 2 ^ 24)
    (h : P (s.dev.hostWrite a bs)) : Answers (.hostWrite a bs) s P := by
  refine answers_of_access (g := fun d => d.hostWrite (a % 2 ^ 24) bs) rfl hp ?_
  rw [Nat.mod_eq_of_lt ha]
  exact h

theorem clock_regs (d : Dev) (now : Nat) : (d.clock now).regs = d.regs := rfl

theorem clock_fmem (d : Dev) (now : Nat) : (d.clock now).fmem = d.fmem := rfl

theorem onlyIn_clock (d : Dev) (now : Nat) : OnlyIn [.time] noKey d (d.clock now) := onlyIn_updTime d _

/-- A word of a register that is not formed at the read. -/
theorem hostRead_stored (d : Dev) {a : Nat} (ha : a < 0x10000) (h4 : a % 4 = 0) (hl : d.fyLive (fyKey a) = none)
    (hc : needsCore (fyKey a) = true → d.host.coreDown = false) : d.hostRead a 4 =
      d.updHost fun h => { h with lastData := le 4 (d.fyPeek (fyKey a)).toNat, lastStatus := 0 } := by
  rw [hostRead_register d ha h4, wordRead_up d a hc, fyRead_stored hl]
  rfl

theorem hostRead_stored_answers (s : State) (now a : Nat) (hp : s.dev.host.portUp = true) (ha : a < 0x10000) (h4 : a % 4 = 0)
    (hl : (s.dev.clock now).fyLive (fyKey a) = none) (hc : needsCore (fyKey a) = true → s.dev.host.coreDown = false) :
    Answers (.hostRead now a 4) s fun u =>
      (∀ r, regRow (fyKey a) = some r → u.host.lastData = le 4 (readFields (s.dev.rd (fyKey a)).toNat r.fields)) ∧
      (regRow (fyKey a) = none → u.host.lastData = le 4 0) ∧ u.host.lastStatus = 0 ∧ OnlyIn [.host, .time] noKey s.dev u := by
  refine answers_of_hostRead hp (by omega) ?_
  rw [hostRead_stored _ ha h4 hl hc]
  obtain ⟨hsome, hnone⟩ := fyPeek_stored hl
  refine ⟨fun r hr => ?_, fun hr => ?_, rfl, ((onlyIn_refl ..).step (by decide) (onlyIn_clock _ now)).updHost _ (by decide)⟩
  · rw [hsome r hr]
    exact le_four_toNat_ofNat _
  · rw [hnone hr]
    rfl

/-- A register of the core domain while that is down (16 R425). -/
theorem hostRead_down_answers (s : State) (now a : Nat) (hp : s.dev.host.portUp = true) (ha : a < 0x10000) (h4 : a % 4 = 0)
    (hn : needsCore (fyKey a) = true) (hc : s.dev.host.coreDown = true) :
    Answers (.hostRead now a 4) s fun u => u.host.lastData = le 4 0 ∧ u.host.lastStatus = E_PD := by
  refine answers_of_hostRead hp (by omega) ?_
  rw [hostRead_register _ ha h4, wordRead_down (s.dev.clock now) a 4 hn hc, updHost_host, accessDone_host]
  exact ⟨rfl, rfl⟩

/-- A read of FY_TBRAWLO returns the low word and latches the high one (15 R418). -/
theorem fyRead_rawLow (d : Dev) : d.fyRead FY_TBRAWLO = (d.rawLatch, word32 d.time.raw 0, false) := rfl

theorem hostRead_raw_answers (s : State) (now : Nat) (hp : s.dev.host.portUp = true) :
    Answers (.hostRead now 0x600 4) s fun u => u.host.lastData = le 4 (s.dev.clock now).time.raw ∧
      u.rd FY_TBRAWHI = BitVec.ofNat 32 ((s.dev.clock now).time.raw / 2 ^ 32) ∧ OnlyIn [.host, .time] (· == FY_TBRAWHI) s.dev u := by
  refine answers_of_hostRead hp (by decide) ?_
  have hcore : needsCore (fyKey 0x600) = false := by decide
  rw [hostRead_register _ (by decide) (by decide), wordRead_up _ _ (by simp [hcore]), show fyKey 0x600 = FY_TBRAWLO from rfl, fyRead_rawLow]
  generalize s.dev.clock now = c, onlyIn_clock s.dev now = hclock
  have hword : le 4 (word32 c.time.raw 0).toNat = le 4 c.time.raw := by
    rw [word32, le_four_toNat_ofNat]
    simp
  refine ⟨hword, rd_wr_same c _ _, ?_⟩
  exact (((((onlyIn_refl ..).step (by decide) hclock).wr _ rfl).updHost _ (by decide))).updHost _ (by decide)

/-- The window read where no word has an error (16 R428). -/
theorem hostRead_window_answers (s : State) (now a len : Nat) (hp : s.dev.host.portUp = true) (hlo : 0x100000 ≤ a) (hhi : a + len ≤ 0x200000)
    (hc : ∀ i, i < len → s.dev.wordClean .fy (windowPlace (a - 0x100000 + i)).1 (windowPlace (a - 0x100000 + i)).2) :
    Answers (.hostRead now a len) s fun u => u.host.lastData.length = len ∧
      (∀ i, i < len → u.host.lastData[i]? = some (mget 0 s.dev.host.window (a - 0x100000 + i))) ∧ u.host.window = s.dev.host.window ∧
      u.host.lastStatus = 0 ∧ u.fmem = s.dev.fmem := by
  refine answers_of_hostRead hp (by omega) ?_
  rw [hostRead_clean (s.dev.clock now) hlo hhi fun i hi => (wordClean_fy_congr (clock_regs ..) (clock_fmem ..) _ _).mpr (hc i hi)]
  refine ⟨by simp [Dev.windowRead], fun i hi => ?_, rfl, rfl, rfl⟩
  simp [Dev.windowRead, hi]
  rfl

/-- A word of the window that is uncorrectable (03 R70; 16 R423). -/
theorem hostRead_uncorrectable_answers (s : State) (now a : Nat) (hp : s.dev.host.portUp = true) (hlo : 0x100000 ≤ a)
    (hhi : a + 8 ≤ 0x200000) (h8 : a % 8 = 0) :
    let place := windowPlace (a - 0x100000)
    let home := s.dev.home .fy (s.dev.phys .fy place.1) place.2
    (s.dev.word .fy home.1 home.2).valid = true → (s.dev.word .fy home.1 home.2).err = .uncorrectable →
    Answers (.hostRead now a 8) s fun u => u.host.lastData = List.replicate 8 0 ∧ u.host.lastStatus = E_ECC ∧
      u.bit FY_ERRADDR_UE = true ∧ u.host.window = s.dev.host.window := by
  intro place home hv he
  refine answers_of_hostRead hp (by omega) ?_
  have hoff : (a - winBase) % 8 = 0 := by simp only [winBase]; omega
  have hphys : (s.dev.clock now).phys .fy = s.dev.phys .fy := funext fun _ => get_of_regs (clock_regs ..) _
  rw [hostRead_window (s.dev.clock now) hlo hhi (by decide), windowGet_uncorrectable (s.dev.clock now) _ hoff]
  · obtain ⟨hparts, -⟩ := onlyIn_uncorrected_fy (s.dev.clock now) ((s.dev.clock now).phys .fy (windowPlace (a - winBase)).1)
      (windowPlace (a - winBase)).2 (Mem.fy.agentOf hostMaster)
    have hwin := congrArg HostSt.window (hparts .host (by simp))
    rw [updHost_host, accessDone_host, updHost_bit, accessDone_bit _ _ _ _ (by decide)]
    exact ⟨rfl, rfl, uncorrected_fy_ue .., hwin⟩
  · rw [hphys, home_congr (clock_regs ..), word_fy_congr (clock_fmem ..)]
    exact hv
  · rw [hphys, home_congr (clock_regs ..), word_fy_congr (clock_fmem ..)]
    exact he

end Sys2Proof.Machine
end

section
/-! O53: writes of the host port, its status, the bound session and the event controller (16 R421 to R428, R439, R456). -/

namespace Sys2Proof.Machine

/-! ## Writes of registers -/

theorem regRow_hpstat : regRow FY_HPSTAT = some ⟨0x01000080, 0x01000080, 4, 0, [(6, 0, .ro), (7, 7, .ro), (31, 16, .ro)]⟩ := by decide +kernel

/-- A register that refuses a write is not the status register: its fields are read only (16 R456). -/
theorem ne_hpstat_of_refused {k : Nat} {r : RegRow} (hr : regRow k = some r) {com : Bool} {x y : Nat}
    (h : (writeFields com x y r.fields).2 = true) : k ≠ FY_HPSTAT := by
  rintro rfl
  rw [regRow_hpstat, Option.some.injEq] at hr
  subst hr
  rw [writeFields_ro com x y _ (by decide)] at h
  cases h

/-- A software write and its status: what the access codes say, with E_LOCK where a field refuses (00 R8; 16 R423). -/
theorem swWrite_accessDone (d : Dev) (com : Bool) {k : Nat} {r : RegRow} (v : W32) (hr : regRow k = some r) :
    let u := (d.swWrite com k v).1.accessDone (firstCode (d.swWrite com k v).2 E_OK) false []
    u.rd k = BitVec.ofNat 32 (writeFields com (d.rd k).toNat v.toNat r.fields).1 ∧
      u.host.lastStatus = if (writeFields com (d.rd k).toNat v.toNat r.fields).2 then E_LOCK else 0 := by
  dsimp only
  rw [swWrite_row d com v hr]
  cases hw : (writeFields com (d.rd k).toNat v.toNat r.fields).2 with
  | false => exact ⟨rd_wr_same .., rfl⟩
  | true =>
    rw [accessDone_host, accessDone_rd _ _ _ _ (ne_hpstat_of_refused hr hw), rd_wr_same]
    exact ⟨rfl, rfl⟩

/-- One word written to a register whose write does no more than its access codes say. -/
theorem hostWrite_plain (d : Dev) {a : Nat} {bs : List Byte} (ha : a < 0x10000) (h4 : a % 4 = 0) (hl : bs.length = 4)
    (hk : actsOnAccess (fyKey a) = false) : d.hostWrite a bs =
      (d.swWrite d.mod.committed (fyKey a) (BitVec.ofNat 32 (field bs 0 4))).1.accessDone
        (firstCode (d.swWrite d.mod.committed (fyKey a) (BitVec.ofNat 32 (field bs 0 4))).2 E_OK) false [] := by
  have hvec := not_keysIn hk (b := FY_EVVEC) (n := 1) (by decide)
  have hld := not_keysIn hk (b := FY_LDDATA) (n := 32) (by decide)
  have heop : FY_LDEOP = FY_LDDATA + 4 := rfl
  rw [hostWrite_register d ha h4 hl (ldPortAt_eq_none fun n hn => by omega) (ldPortAt_eq_none fun n hn => by omega) fun e => hvec (by omega),
    fyWrite_plain d _ hk]

theorem hostWrite_register_answers (s : State) (a : Nat) (bs : List Byte) (hp : s.dev.host.portUp = true) (ha : a < 0x10000)
    (h4 : a % 4 = 0) (hl : bs.length = 4) (hk : actsOnAccess (fyKey a) = false) :
    Answers (.hostWrite a bs) s fun u =>
      (∀ r, regRow (fyKey a) = some r →
        u.rd (fyKey a) = BitVec.ofNat 32 (writeFields s.dev.mod.committed (s.dev.rd (fyKey a)).toNat (field bs 0 4) r.fields).1 ∧
        u.host.lastStatus =
          if (writeFields s.dev.mod.committed (s.dev.rd (fyKey a)).toNat (field bs 0 4) r.fields).2 then E_LOCK else 0) ∧
      (regRow (fyKey a) = none → u.host.lastStatus = 0 ∧ OnlyIn [.host] noKey s.dev u) ∧
      OnlyIn [.host] (fun x => x == fyKey a || x == FY_HPSTAT) s.dev u := by
  refine answers_of_hostWrite hp (by omega) ?_
  rw [hostWrite_plain s.dev ha h4 hl hk]
  have hv : (BitVec.ofNat 32 (field bs 0 4)).toNat = field bs 0 4 := by
    rw [BitVec.toNat_ofNat, Nat.mod_eq_of_lt (field_four_lt bs 0)]
  refine ⟨fun r hr => ?_, fun hr => ?_, ?_⟩
  · have h := swWrite_accessDone s.dev s.dev.mod.committed (BitVec.ofNat 32 (field bs 0 4)) hr
    rwa [hv] at h
  · rw [swWrite_reserved s.dev _ _ hr]
    exact ⟨rfl, (onlyIn_refl ..).updHost _ (by decide)⟩
  · exact ((onlyIn_refl ..).swWrite _ _ (by simp)).accessDone _ _ _ (by decide) (by simp)

theorem hostWrite_part_answers (s : State) (a : Nat) (bs : List Byte) (hp : s.dev.host.portUp = true) (ha : a < 0x10000)
    (h4 : a % 4 ≠ 0) (hl : bs.length = 4 - a % 4) :
    Answers (.hostWrite a bs) s fun u => u.host.lastStatus = E_RANGE ∧ OnlyIn [.host] (· == FY_HPSTAT) s.dev u := by
  refine answers_of_hostWrite hp (by omega) ?_
  rw [hostWrite_part s.dev ha h4 hl]
  exact ⟨congrArg HostSt.lastStatus (accessDone_host ..), onlyIn_accessDone ..⟩

/-! ## Writes of the window -/

/-- A write of the host half whose words have no error leaves its bytes over the window's (16 R428). -/
theorem hostWrite_overlaid (d : Dev) {a : Nat} {bs : List Byte} (hlo : 0x100000 ≤ a) (hhi : a + bs.length ≤ 0x180000)
    (hc : ∀ i, i < bs.length → d.wordClean .fy (windowPlace (a - 0x100000 + i)).1 (windowPlace (a - 0x100000 + i)).2)
    (harm : d.bit FY_ECCTEST_ARM = false) :
    (d.hostWrite a bs).host.lastStatus = 0 ∧ OnlyIn [.host, .fmem] noKey d (d.hostWrite a bs) ∧
      ∀ i, mget 0 (d.hostWrite a bs).host.window i = overlaid d.host.window (a - 0x100000) bs i := by
  by_cases hne : bs = []
  · subst hne
    refine ⟨rfl, (onlyIn_refl ..).updHost _ (by decide), fun i => (overlaid_outside _ ?_).symm⟩
    simp only [List.length_nil]
    omega
  · obtain ⟨hcode, hframe, hbytes⟩ := windowPut_clean hostMaster (bs.length + 1) d (a - winBase) bs (by omega) harm hc
    rw [hostWrite_window d hlo hhi hne, hcode, show firstCode E_OK E_OK = E_OK from rfl, accessDone_ok]
    exact ⟨rfl, hframe.updHost _ (by decide), hbytes⟩

theorem hostWrite_window_answers (s : State) (a : Nat) (bs : List Byte) (hp : s.dev.host.portUp = true) (hlo : 0x100000 ≤ a)
    (hhi : a + bs.length ≤ 0x180000)
    (hc : ∀ i, i < bs.length → s.dev.wordClean .fy (windowPlace (a - 0x100000 + i)).1 (windowPlace (a - 0x100000 + i)).2)
    (harm : s.dev.bit FY_ECCTEST_ARM = false) :
    Answers (.hostWrite a bs) s fun u => u.host.lastStatus = 0 ∧ OnlyIn [.host, .fmem] noKey s.dev u ∧
      ∀ i, mget 0 u.host.window i =
        (bs[i + 0x100000 - a]?.filter fun _ => decide (a ≤ i + 0x100000)).getD (mget 0 s.dev.host.window i) := by
  refine answers_of_hostWrite hp (by omega) ?_
  obtain ⟨hst, hframe, hbytes⟩ := hostWrite_overlaid s.dev hlo hhi hc harm
  refine ⟨hst, hframe, fun i => (hbytes i).trans ?_⟩
  have hix : i - (a - 0x100000) = i + 0x100000 - a := by omega
  have hle : (a - 0x100000 ≤ i) = (a ≤ i + 0x100000) := propext (by omega)
  simp only [overlaid, hix, hle]

theorem hostWrite_foyerHalf_answers (s : State) (a : Nat) (bs : List Byte) (hp : s.dev.host.portUp = true) (hlo : 0x180000 ≤ a)
    (hhi : a + bs.length ≤ 0x200000) (hne : bs ≠ []) :
    Answers (.hostWrite a bs) s fun u => u.host.lastStatus = E_LOCK ∧ u.host.window = s.dev.host.window := by
  have hlen : 0 < bs.length := List.length_pos_iff.mpr hne
  refine answers_of_hostWrite hp (by omega) ?_
  rw [hostWrite_foyerHalf s.dev hlo hhi hne, accessDone_host]
  exact ⟨rfl, rfl⟩

/-! ## Status -/

theorem hostStat_answers (s : State) (hp : s.dev.host.portUp = true) :
    Answers .hostStat s fun u => u.host.lastStatus = s.dev.get FY_HPSTAT_CODE + 128 * s.dev.get FY_HPSTAT_EMPTY ∧
      u.get FY_HPSTAT_CODE = 0 ∧ u.get FY_HPSTAT_EMPTY = 0 ∧ u.get FY_HPSTAT_CMDERR = s.dev.get FY_HPSTAT_CMDERR ∧
      OnlyIn [.host] (· == FY_HPSTAT) s.dev u := by
  refine answers_of_access (g := Dev.hpStat) rfl hp ⟨rfl, ?_, ?_, ?_, (((onlyIn_refl ..).put _ rfl).put _ rfl).updHost _ (by decide)⟩
  · exact (get_put_other _ _ _ _ rfl rfl rfl).trans (get_put_same _ _ _ rfl (by decide))
  · exact get_put_same _ _ _ rfl (by decide)
  · exact (get_put_other _ _ _ _ rfl rfl rfl).trans (get_put_other _ _ _ _ rfl rfl rfl)

/-- An error is the sticky code where none stands yet (16 R422). -/
theorem accessDone_code (d : Dev) {code : Nat} (data : List Byte) (hc : code ≠ E_OK) (hlt : code < 128) :
    (d.accessDone code false data).get FY_HPSTAT_CODE = if d.get FY_HPSTAT_CODE = 0 then code else d.get FY_HPSTAT_CODE := by
  by_cases h : d.get FY_HPSTAT_CODE = 0
  · simp only [Dev.accessDone, h, hc, ne_eq, not_false_eq_true, and_self, if_true, Bool.false_eq_true, if_false, updHost_get]
    exact get_put_same _ _ _ rfl hlt
  · simp [Dev.accessDone, h]

/-- An access counts no command error. -/
theorem accessDone_cmderr (d : Dev) (code : Nat) (data : List Byte) :
    (d.accessDone code false data).get FY_HPSTAT_CMDERR = d.get FY_HPSTAT_CMDERR := by
  unfold Dev.accessDone
  split
  · exact get_put_other _ _ _ _ rfl rfl rfl
  · rfl

theorem hostUnknownCommand_answers (s : State) (hp : s.dev.host.portUp = true) :
    Answers .hostUnknownCommand s fun u => u.host = s.dev.host ∧ OnlyIn [] (· == FY_HPSTAT) s.dev u ∧
      u.get FY_HPSTAT_CMDERR = min (s.dev.get FY_HPSTAT_CMDERR + 1) 65535 ∧
      u.get FY_HPSTAT_CODE = (if s.dev.get FY_HPSTAT_CODE = 0 then E_CMD else s.dev.get FY_HPSTAT_CODE) := by
  refine answers_of_access (g := fun d =>
    ((d.accessDone E_CMD false d.host.lastData).updHost fun x => { x with lastStatus := d.host.lastStatus }).inc FY_HPSTAT_CMDERR) rfl hp ?_
  have hframe : OnlyIn [.host] (· == FY_HPSTAT) s.dev (((s.dev.accessDone E_CMD false s.dev.host.lastData).updHost fun x =>
      { x with lastStatus := s.dev.host.lastStatus }).inc FY_HPSTAT_CMDERR) :=
    ((onlyIn_accessDone ..).updHost _ (by decide)).inc 1 rfl
  have hhost : (((s.dev.accessDone E_CMD false s.dev.host.lastData).updHost fun x =>
      { x with lastStatus := s.dev.host.lastStatus }).inc FY_HPSTAT_CMDERR).host = s.dev.host := by
    rw [Dev.inc, put_host, updHost_host, accessDone_host]
  refine ⟨hhost, ⟨fun p _ => ?_, hframe.2⟩, ?_, ?_⟩
  · by_cases hpart : p = .host
    · subst hpart; exact hhost
    · exact hframe.1 p (by simpa using hpart)
  · rw [Dev.inc, get_put_same _ _ _ rfl (by simp only [FY_HPSTAT_CMDERR]; omega), updHost_get, accessDone_cmderr]
    rfl
  · rw [Dev.inc, get_put_other _ _ _ _ rfl rfl rfl, updHost_get, accessDone_code _ _ (by decide) (by decide)]

/-! ## The bound session -/

/-- A binding as the registers show it (16 R456). -/
theorem bound_fields (d : Dev) {n : Nat} (hn : n < 256) (code : Nat) :
    let u := ((d.put FY_HPSESS_SESSION n).fmpShow).accessDone code false []
    u.get FY_HPSESS_SESSION = n ∧ u.bit FY_HPSESS_OPEN = mhas d.fmp.sessions n ∧ u.host.lastStatus = code ∧ u.fmp = d.fmp := by
  have hput : (d.put FY_HPSESS_SESSION n).get FY_HPSESS_SESSION = n := get_put_same _ _ _ rfl hn
  dsimp only
  rw [accessDone_host, accessDone_fmp, accessDone_get _ _ _ _ (by decide), accessDone_bit _ _ _ _ (by decide), fmpShow_session,
    fmpShow_open, fmpShow_fmp, hput]
  exact ⟨rfl, rfl, rfl, rfl⟩

theorem hpsessBind_answers (s : State) (v : W32) (hp : s.dev.host.portUp = true) :
    Answers (.hpsessBind v) s fun u =>
      (∀ x, mget? s.dev.fmp.sessions (bitsOf v.toNat 7 0) = some x → x.udp = false →
        u.get FY_HPSESS_SESSION = bitsOf v.toNat 7 0 ∧ u.bit FY_HPSESS_OPEN = true ∧ u.host.lastStatus = 0) ∧
      (bitsOf v.toNat 7 0 = 0 → u.get FY_HPSESS_SESSION = 0 ∧ u.host.lastStatus = 0) ∧
      (bitsOf v.toNat 7 0 ≠ 0 → (∀ x, mget? s.dev.fmp.sessions (bitsOf v.toNat 7 0) = some x → x.udp = true) →
        u.get FY_HPSESS_SESSION = 0 ∧ u.host.lastStatus = E_NO_SESSION) ∧ u.fmp = s.dev.fmp := by
  refine answers_of_access (g := fun d => let r := d.hpsessWrite v; r.1.accessDone r.2 false []) rfl hp ?_
  have hn : bitsOf v.toNat 7 0 < 256 := bitsOf_lt ..
  by_cases hok : bitsOf v.toNat 7 0 = 0 ∨ ∃ x, mget? s.dev.fmp.sessions (bitsOf v.toNat 7 0) = some x ∧ x.udp = false
  · rw [hpsessWrite_binds _ _ hok]
    obtain ⟨hses, hopen, hst, hfmp⟩ := bound_fields s.dev hn E_OK
    refine ⟨fun x hx _ => ⟨hses, hopen.trans (mhas_of_mget? hx), hst⟩, fun h0 => ⟨hses.trans h0, hst⟩, fun hne hudp => ?_, hfmp⟩
    obtain h0 | ⟨x, hx, hu⟩ := hok
    · exact absurd h0 hne
    · rw [hudp x hx] at hu
      cases hu
  · obtain ⟨hne, hudp⟩ := not_or.mp hok
    have hudp' : ∀ x, mget? s.dev.fmp.sessions (bitsOf v.toNat 7 0) = some x → x.udp = true := fun x hx => by
      cases hu : x.udp with
      | true => rfl
      | false => exact absurd ⟨x, hx, hu⟩ hudp
    rw [hpsessWrite_refuses _ _ hne hudp']
    obtain ⟨hses, -, hst, hfmp⟩ := bound_fields s.dev (n := 0) (by decide) E_NO_SESSION
    exact ⟨fun x hx hu => absurd ⟨x, hx, hu⟩ hudp, fun h0 => absurd h0 hne, fun _ _ => ⟨hses, hst⟩, hfmp⟩

/-! ## The event controller -/

theorem eventVectorRead_answers (s : State) (n : Nat) (hp : s.dev.host.portUp = true) (hn : n ∈ s.dev.hostSources)
    (hmax : ∀ m ∈ s.dev.hostSources, s.dev.evPri m < s.dev.evPri n ∨ (s.dev.evPri m = s.dev.evPri n ∧ n ≤ m)) :
    Answers .eventVectorRead s fun u => u.host.lastData = le 4 (n + s.dev.evPri n * 2 ^ 8) ∧ u.host.lastStatus = 0 ∧
      u.bit ⟨FY_EVPEND + 4 * (n / 32), n % 32, n % 32⟩ = false ∧ OnlyIn [.host] (· == FY_EVPEND + 4 * (n / 32)) s.dev u := by
  refine answers_of_access (g := fun d => let r := d.evRead; r.1.accessDone E_OK false (le 4 r.2.toNat)) rfl hp ?_
  simp only [Dev.evRead, evNext_eq_some hn hmax, accessDone_ok]
  refine ⟨le_four_toNat_ofNat _, rfl, ?_, ((onlyIn_refl ..).put _ (by simp)).updHost _ (by decide)⟩
  rw [updHost_bit]
  exact bit_put_same _ (pendFld n) _ (pendFld_ok n) (by simp [pendFld])

theorem eventVectorRead_none_answers (s : State) (hp : s.dev.host.portUp = true) (h : s.dev.hostSources = []) :
    Answers .eventVectorRead s fun u => u.host.lastData = le 4 0x80000000 ∧ OnlyIn [.host] noKey s.dev u := by
  refine answers_of_access (g := fun d => let r := d.evRead; r.1.accessDone E_OK false (le 4 r.2.toNat)) rfl hp ?_
  simp only [Dev.evRead, evNext_eq_none h, accessDone_ok]
  exact ⟨rfl, onlyIn_updHost ..⟩

theorem eventPendClear_answers (s : State) (w : Nat) (v : W32) (hp : s.dev.host.portUp = true) (hw : w < 4) :
    Answers (.eventPendClear w v) s fun u =>
      u.rd (FY_EVPEND + 4 * w) = s.dev.rd (FY_EVPEND + 4 * w) &&& ~~~(v &&& ~~~(s.dev.rd (FY_EVROUTE + 4 * w))) ∧
      OnlyIn [.host] (· == FY_EVPEND + 4 * w) s.dev u := by
  refine answers_of_upd (g := fun d => d.access (decide (w < 4)) fun d => (d.evPendClear w v).accessDone E_OK false []) rfl ?_
  simp only [Dev.access, hw, hp, decide_true, Bool.and_self, when_pos, accessDone_ok]
  exact ⟨rd_wr_same .., ((onlyIn_refl ..).wr _ (by simp)).updHost _ (by decide)⟩

theorem eventRaise_foreign_answers (s : State) (ev : Ev) (h : ev.regionOk = false) : AnswersDev (.eventRaise ev) s s.dev :=
  answersDev_of_upd (g := fun d => d.when ev.regionOk fun d => d.raiseFy ev) rfl (when_neg _ _ h)

theorem eventRaise_answers (s : State) (ev : Ev) (hs : ∀ m ∈ ev.sources, m < 128) (h : ev.regionOk = true) :
    Answers (.eventRaise ev) s fun u =>
      (∀ m ∈ ev.sources, u.bit ⟨FY_EVPEND + 4 * (m / 32), m % 32, m % 32⟩ = true) ∧ OnlyIn [.arc] (orEvent []) s.dev u ∧
      (s.dev.landingFree → s.dev.landed u ev ∧ u.arc.period = s.dev.arc.period) ∧
      (¬s.dev.landingFree → u.arc.landing = s.dev.arc.landing ∧ u.bit FY_ARCSTAT_SUPPRESSING = true ∧
        mget 0 u.arc.period ev.region = mget 0 s.dev.arc.period ev.region + 1) := by
  refine answers_of_upd (g := fun d => d.when ev.regionOk fun d => d.raiseFy ev) rfl ?_
  rw [when_pos _ _ h]
  exact ⟨raiseFy_pends s.dev ev hs (regionOk_lt h), onlyIn_raiseFy s.dev ev hs (regionOk_lt h),
    fun hf => ⟨raiseFy_landing s.dev ev hf.1 hf.2, raiseFy_period s.dev ev hf⟩, raiseFy_suppressed s.dev ev⟩

end Sys2Proof.Machine
end

section
/-! O53: the proxy, register writes, and the host port as a whole (16 R421 to R428, R439, R440, R456; 00 R8). -/

namespace Sys2Proof.Machine

/-! ## The proxy -/

/-- A request that the session does not allow leaves its code at the port, and the Corridor as it was (16 R456). -/
theorem proxy_refused {d e : Dev} {v : W32} (ht : d.crpTaken v e) {typ c : Nat} (h : e.proxy typ = (e, c)) :
    ((e.proxy typ).1.accessDone (e.proxy typ).2 false []).host.lastStatus = c ∧
      ((e.proxy typ).1.accessDone (e.proxy typ).2 false []).cor = d.cor := by
  rw [h, accessDone_host, accessDone_cor]
  exact ⟨rfl, (crpTaken_session ht).2.2⟩

/-- A session whose role is among those of the request is allowed it. -/
theorem boundRole_ok {d e : Dev} {v : W32} {x : Session} (ht : d.crpTaken v e)
    (hs : mget? d.fmp.sessions (d.get FY_HPSESS_SESSION) = some x) {l : List Nat} (hr : x.role ∈ l) : e.boundRole l = E_OK := by
  rw [boundRole_some ht hs, if_pos (by simpa using hr)]

/-- Another session is not. -/
theorem boundRole_refused {d e : Dev} {v : W32} {x : Session} (ht : d.crpTaken v e)
    (hs : mget? d.fmp.sessions (d.get FY_HPSESS_SESSION) = some x) {l : List Nat} (hr : x.role ∉ l) : e.boundRole l = E_ROLE := by
  rw [boundRole_some ht hs, if_neg (by simpa using hr)]

/-- The operator may do both. -/
theorem mem_proxyRoles_operator (typ : Nat) : 1 ∈ proxyRoles typ := by
  unfold proxyRoles
  split <;> simp

theorem proxy_noSession_answers (s : State) (v : W32) (hp : s.dev.host.portUp = true) (hc : s.dev.host.coreDown = false)
    (hs : mget? s.dev.fmp.sessions (s.dev.get FY_HPSESS_SESSION) = none) :
    ∀ g ∈ [Instr.proxyRead v, .proxyWrite v], Answers g s fun u => u.host.lastStatus = E_NO_SESSION ∧ u.cor = s.dev.cor :=
  proxy_answers hp hc fun typ e ht => proxy_refused ht (proxy_refuses e (boundRole_none ht hs (proxyRoles typ)) (by decide))

theorem proxyWrite_role_answers (s : State) (v : W32) {x : Session} (hp : s.dev.host.portUp = true) (hc : s.dev.host.coreDown = false)
    (hs : mget? s.dev.fmp.sessions (s.dev.get FY_HPSESS_SESSION) = some x) (h1 : x.role ≠ 1) :
    Answers (.proxyWrite v) s fun u => u.host.lastStatus = E_ROLE ∧ u.cor = s.dev.cor :=
  proxyWrite_answers hp hc fun e ht =>
    proxy_refused ht (proxy_refuses e (boundRole_refused ht hs (l := proxyRoles 0x41) (by simpa [proxyRoles] using h1)) (by decide))

theorem proxyRead_role_answers (s : State) (v : W32) {x : Session} (hp : s.dev.host.portUp = true) (hc : s.dev.host.coreDown = false)
    (hs : mget? s.dev.fmp.sessions (s.dev.get FY_HPSESS_SESSION) = some x) (h1 : x.role ≠ 1) (h2 : x.role ≠ 2) :
    Answers (.proxyRead v) s fun u => u.host.lastStatus = E_ROLE ∧ u.cor = s.dev.cor :=
  proxyRead_answers hp hc fun e ht =>
    proxy_refused ht (proxy_refuses e (boundRole_refused ht hs (l := proxyRoles 0x40) (by simp [proxyRoles, h1, h2])) (by decide))

theorem proxy_busy_answers (s : State) (v : W32) {x : Session} (hp : s.dev.host.portUp = true) (hc : s.dev.host.coreDown = false)
    (hs : mget? s.dev.fmp.sessions (s.dev.get FY_HPSESS_SESSION) = some x) (h1 : x.role = 1) (hb : s.dev.bit FY_CRPCTL_BUSY = true) :
    ∀ g ∈ [Instr.proxyRead v, .proxyWrite v], Answers g s fun u => u.host.lastStatus = E_BUSY ∧ u.cor = s.dev.cor :=
  proxy_answers hp hc fun typ e ht =>
    proxy_refused ht (proxy_busy e (boundRole_ok ht hs (h1 ▸ mem_proxyRoles_operator typ)) (ht.2.2.trans hb))

/-- Without the Corridor the request ends at once with E_PD (01 R42). -/
theorem proxy_down_answers (s : State) (v : W32) {x : Session} (hp : s.dev.host.portUp = true) (hc : s.dev.host.coreDown = false)
    (hs : mget? s.dev.fmp.sessions (s.dev.get FY_HPSESS_SESSION) = some x) (h1 : x.role = 1) (hb : s.dev.bit FY_CRPCTL_BUSY = false)
    (hu : s.dev.cor.hostUp = false) : ∀ g ∈ [Instr.proxyRead v, .proxyWrite v], Answers g s fun u =>
      u.host.lastStatus = 0 ∧ u.get FY_CRPCTL_RESULT = E_PD ∧ u.bit FY_CRPCTL_DONE = true ∧ u.cor = s.dev.cor := by
  refine proxy_answers hp hc fun typ e ht => ?_
  have hcor := (crpTaken_session ht).2.2
  have hrole : e.boundRole (proxyRoles typ) = E_OK := boundRole_ok ht hs (h1 ▸ mem_proxyRoles_operator typ)
  rw [proxy_down e hrole (ht.2.2.trans hb) (by rw [hcor]; exact hu), accessDone_ok]
  obtain ⟨-, hdone, hres⟩ := proxyDone_fields e typ E_PD [] (by decide)
  have hkeep : (e.proxyDone typ E_PD []).cor = e.cor := (onlyIn_proxyDone e typ E_PD [] (.inr (by decide))).1 .cor (by simp)
  rw [updHost_get, updHost_bit, updHost_cor, hkeep]
  exact ⟨rfl, hres, hdone, hcor⟩

/-- The Corridor lane carries the request behind what was there, and the proxy is busy. -/
def Dev.proxyAsked (d : Dev) (typ : Nat) (v : W32) (x : Session) (u : Dev) : Prop :=
  u.bit FY_CRPCTL_BUSY = true ∧ u.cor = (d.sendReq (d.proxyReq typ v x (d.proxyData typ v))).cor

theorem proxyRead_sent_answers (s : State) (v : W32) {x : Session} (hp : s.dev.host.portUp = true) (hc : s.dev.host.coreDown = false)
    (hs : mget? s.dev.fmp.sessions (s.dev.get FY_HPSESS_SESSION) = some x) (h12 : x.role = 1 ∨ x.role = 2)
    (hb : s.dev.bit FY_CRPCTL_BUSY = false) (hu : s.dev.cor.hostUp = true) : Answers (.proxyRead v) s (s.dev.proxyAsked 0x40 v x) :=
  proxyRead_answers hp hc fun _ ht =>
    proxy_sent ht hs (boundRole_ok ht hs (by simpa [proxyRoles] using h12)) hb hu

theorem proxyWrite_sent_answers (s : State) (v : W32) {x : Session} (hp : s.dev.host.portUp = true) (hc : s.dev.host.coreDown = false)
    (hs : mget? s.dev.fmp.sessions (s.dev.get FY_HPSESS_SESSION) = some x) (h1 : x.role = 1)
    (hb : s.dev.bit FY_CRPCTL_BUSY = false) (hu : s.dev.cor.hostUp = true) : Answers (.proxyWrite v) s (s.dev.proxyAsked 0x41 v x) :=
  proxyWrite_answers hp hc fun _ ht =>
    proxy_sent ht hs (boundRole_ok ht hs (h1 ▸ mem_proxyRoles_operator 0x41)) hb hu

/-! ## Register writes -/

theorem registerWrite_answersDev {s : State} {role key : Nat} {v : W32} {d : Dev} (h : s.dev.registerWrite role key v = d) :
    AnswersDev (.registerWrite role key v) s d := answersDev_of_upd (g := fun d => d.registerWrite role key v) rfl h

theorem registerWrite_row_answers (s : State) (v : W32) (role key : Nat) (r : RegRow) (hr : regRow key = some r)
    (h : key / 2 ^ 24 = 1 ∧ actsOnAccess key = false ∨ role = 1 ∧ key / 2 ^ 24 = 5 ∧ key ∉ [NW_SWCTL, NW_QUAR, NW_REPAIRCFG] ∨
      key / 2 ^ 24 = 7 ∧ keysIn [(LG_CHCFG, 8)] key = false) :
    AnswersDev (.registerWrite role key v) s
      (s.dev.wr key (BitVec.ofNat 32 (writeFields s.dev.mod.committed (s.dev.rd key).toNat v.toNat r.fields).1)) := by
  have hsw := congrArg Prod.fst (swWrite_row s.dev s.dev.mod.committed v hr)
  refine registerWrite_answersDev (Eq.trans ?_ hsw)
  obtain ⟨hk, hacts⟩ | ⟨rfl, hk, hops⟩ | ⟨hk, hch⟩ := h
  · exact registerWrite_host s.dev role v hk hacts
  · exact registerWrite_newel s.dev v hk hops
  · exact registerWrite_loggia s.dev role v hk hch

/-! ## The host port -/

/-- Settles O53: each access by its own lemma above, reads and writes by address first, then status, session, events, the proxy and register
writes. -/
theorem theHostPortReadsAndWrites : Obligations.TheHostPortReadsAndWrites := by
  unfold Obligations.TheHostPortReadsAndWrites
  intro s now a len n w bs v d c k h com stored ses ask clean place home hp
  refine ⟨hostRead_stored_answers s now a hp, hostRead_down_answers s now a hp, hostRead_raw_answers s now hp,
    hostRead_window_answers s now a len hp, hostRead_uncorrectable_answers s now a hp, hostWrite_register_answers s a bs hp,
    hostWrite_part_answers s a bs hp, hostWrite_window_answers s a bs hp, hostWrite_foyerHalf_answers s a bs hp, hostStat_answers s hp,
    hostUnknownCommand_answers s hp, hpsessBind_answers s v hp, eventVectorRead_answers s n hp, eventVectorRead_none_answers s hp,
    eventPendClear_answers s w v hp, eventRaise_foreign_answers s, eventRaise_answers s, ?proxy, registerWrite_row_answers s v,
    fun role key hk => registerWrite_answersDev (registerWrite_flight s.dev role v hk),
    fun role key hr hk => registerWrite_answersDev (registerWrite_newel_role s.dev v hr hk)⟩
  intro hc
  refine ⟨proxy_noSession_answers s v hp hc, fun x hs => ⟨proxyWrite_role_answers s v hp hc hs, proxyRead_role_answers s v hp hc hs,
    proxy_busy_answers s v hp hc hs, proxy_down_answers s v hp hc hs, fun h12 hb hu => ?_, fun h1 hb hu => ?_⟩⟩
  · exact (proxyRead_sent_answers s v hp hc hs h12 hb hu).mono fun _ ⟨hbusy, hcor⟩ =>
      ⟨hbusy, congrArg CorrSt.reqs hcor, congrArg CorrSt.downQ hcor⟩
  · exact (proxyWrite_sent_answers s v hp hc hs h1 hb hu).mono fun _ ⟨hbusy, hcor⟩ =>
      ⟨hbusy, congrArg CorrSt.reqs hcor, congrArg CorrSt.downQ hcor⟩

end Sys2Proof.Machine
end

section
/-! Frames of a flight, the Newel and the module's own part, and arrivals at the ingress buffer (01 R27, R30, R40). -/

namespace Sys2Proof.Machine

/-! ## Frames -/

theorem onlyIn_updFl (d : Dev) (f : Flt) (g : FlightSt → FlightSt) : OnlyIn [f.part] noKey d (d.updFl f g) :=
  onlyIn_part f.part (updFl_regs d f g) fun p h => by cases f <;> cases p <;> simp [Part.same, Flt.part] at h ⊢

theorem onlyIn_updNw (d : Dev) (g : NewelSt → NewelSt) : OnlyIn [.nw] noKey d (d.updNw g) :=
  onlyIn_part .nw rfl fun p h => by cases p <;> simp [Part.same] at h ⊢

theorem onlyIn_updMod (d : Dev) (g : ModSt → ModSt) : OnlyIn [.mod] noKey d (d.updMod g) :=
  onlyIn_part .mod rfl fun p h => by cases p <;> simp [Part.same] at h ⊢

theorem OnlyIn.updFl {ps : List Part} {ks : Nat → Bool} {d e : Dev} (h : OnlyIn ps ks d e) (f : Flt) (g : FlightSt → FlightSt)
    (hp : f.part ∈ ps) : OnlyIn ps ks d (e.updFl f g) := h.step hp (onlyIn_updFl e f g)

theorem OnlyIn.updNw {ps : List Part} {ks : Nat → Bool} {d e : Dev} (h : OnlyIn ps ks d e) (g : NewelSt → NewelSt) (hp : .nw ∈ ps) :
    OnlyIn ps ks d (e.updNw g) := h.step hp (onlyIn_updNw e g)

theorem OnlyIn.updMod {ps : List Part} {ks : Nat → Bool} {d e : Dev} (h : OnlyIn ps ks d e) (g : ModSt → ModSt) (hp : .mod ∈ ps) :
    OnlyIn ps ks d (e.updMod g) := h.step hp (onlyIn_updMod e g)

/-- A field-to-host message reaches the lane, or is kept or dropped by the Newel (01 R42). -/
theorem OnlyIn.sendUp {ps : List Part} {ks : Nat → Bool} {d e : Dev} (h : OnlyIn ps ks d e) (m : UpMsg) (hc : .cor ∈ ps) (hn : .nw ∈ ps) :
    OnlyIn ps ks d (e.sendUp m) := by
  rcases sendUp_cases e m with ⟨-, k⟩ | ⟨-, a, b, c, k⟩ <;> rw [k]
  · exact h.putUp m hc
  · exact h.updNw _ hn

/-- The field side's STATUS goes out at once where a marked field has changed, or nothing is done (01 R44). -/
theorem statusNow_field_cases (d : Dev) : d.statusNow false = d ∨ d.statusNow false = d.sendStatus false := by
  simp only [Dev.statusNow, Bool.false_eq_true, if_false]
  split <;> simp

theorem OnlyIn.statusNow_field {ps : List Part} {ks : Nat → Bool} {d e : Dev} (h : OnlyIn ps ks d e) (hp : .cor ∈ ps) :
    OnlyIn ps ks d (e.statusNow false) := by
  rcases statusNow_field_cases e with k | k <;> rw [k]
  · exact h
  · exact (h.putUp _ hp).updCor _ hp

/-! ## Arrivals -/

/-- A frame that is no sample block, or that finds none of its port, is stored or waits at its source (01 R30). -/
theorem ingress_stores (d : Dev) (fr : InFrame) (h : ¬(fr.kind = 0x04 ∧ (d.nw.carried ++ d.nw.ingress).any (isSample fr.port) = true)) :
    ∃ i s, d.ingress fr = d.updNw fun n => { n with ingress := i, source := s } := by
  unfold Dev.ingress
  rw [if_neg h]
  split
  · exact ⟨_, d.nw.source, rfl⟩
  · exact ⟨d.nw.ingress, _, rfl⟩

theorem ingress_frame (d : Dev) (m : FlightIn) : d.ingress m.frame = d.arrived m := arrive_eq_arrived d m

/-- A message to the flights, in order, is the cycle's arrival (01 R27, R40). -/
theorem toFlights_eq_messaged (d : Dev) (m : FlightIn) : d.toFlights m = d.messaged m := by
  simp only [Dev.toFlights, Dev.acceptDown, Dev.messaged, ingress_frame]

/-- A command whose message goes to the flights answers with it as a frame of the cycle. -/
theorem answersDev_messaged {c : Instr} {s : State} {m : FlightIn} (h : exec c s = s.upd fun d => d.toFlights m) :
    AnswersDev c s (s.dev.messaged m) := answersDev_of_upd h (toFlights_eq_messaged s.dev m)

/-- A command that writes a flight register answers with the write as a frame of the cycle. -/
theorem answersDev_arrived {c : Instr} {s : State} {m : FlightIn} (h : exec c s = s.upd fun d => d.arrive m) :
    AnswersDev c s (s.dev.arrived m) := answersDev_of_upd h (arrive_eq_arrived s.dev m)

end Sys2Proof.Machine
end

section
/-! The point table of a flight: status fields, entries after a change, forces and subscriptions by entry, replies (chapter 05). -/

namespace Sys2Proof.Machine

/-! ## Status fields (05 R127) -/

/-- Fields put into a number of n bits leave it one of n bits. -/
theorem putBits_lt_pow (v hi lo x n : Nat) (h : lo ≤ hi) (hn : hi < n) (hv : v < 2 ^ n) : putBits v hi lo x < 2 ^ n := by
  have hx : x % 2 ^ (hi + 1 - lo) * 2 ^ lo ≤ 2 ^ (hi + 1) - 2 ^ lo := by
    have h4 : 2 ^ (hi + 1) = 2 ^ (hi + 1 - lo) * 2 ^ lo := by rw [← Nat.pow_add]; congr 1; omega
    have h2 : x % 2 ^ (hi + 1 - lo) + 1 ≤ 2 ^ (hi + 1 - lo) := Nat.mod_lt _ (Nat.two_pow_pos _)
    have h3 := Nat.mul_le_mul_right (2 ^ lo) h2
    rw [← h4, Nat.add_mul, Nat.one_mul] at h3
    omega
  have hq : v / 2 ^ (hi + 1) * 2 ^ (hi + 1) + 2 ^ (hi + 1) ≤ 2 ^ n := by
    have h5 : (2 : Nat) ^ n = 2 ^ (n - (hi + 1)) * 2 ^ (hi + 1) := by rw [← Nat.pow_add]; congr 1; omega
    have h6 : v / 2 ^ (hi + 1) + 1 ≤ 2 ^ (n - (hi + 1)) := Nat.div_lt_of_lt_mul (by rw [Nat.mul_comm, ← h5]; exact hv)
    have h7 := Nat.mul_le_mul_right (2 ^ (hi + 1)) h6
    rw [← h5, Nat.add_mul, Nat.one_mul] at h7
    exact h7
  have hr : v % 2 ^ lo < 2 ^ lo := Nat.mod_lt _ (Nat.two_pow_pos _)
  have hlo : 2 ^ lo ≤ 2 ^ (hi + 1) := Nat.pow_le_pow_right (by decide) (by omega)
  rw [putBits_eq v hi lo x (by omega)]
  omega

theorem toNat_stPut (s : BitVec 16) {h l : Nat} (v : Nat) (hl : l ≤ h) (hh : h < 16) : (stPut s h l v).toNat = putBits s.toNat h l v := by
  rw [stPut, BitVec.toNat_ofNat, Nat.mod_eq_of_lt (putBits_lt_pow _ _ _ _ _ hl hh s.isLt)]

theorem bitOf_eq (v n : Nat) : bitOf v n = decide (bitsOf v n n = 1) := by simp [bitOf, bitsOf]

theorem stQual_put_qual (s : BitVec 16) (v : Nat) : stQual (stPut s 2 0 v) = v % 8 := by
  rw [stQual, toNat_stPut s v (by decide) (by decide), bitsOf_putBits_same _ _ _ _ (by decide)]; rfl

theorem stSource_put_source (s : BitVec 16) (v : Nat) : stSource (stPut s 6 3 v) = v % 16 := by
  rw [stSource, toNat_stPut s v (by decide) (by decide), bitsOf_putBits_same _ _ _ _ (by decide)]; rfl

theorem stUnderq_put_underq (s : BitVec 16) (v : Nat) : stUnderq (stPut s 14 12 v) = v % 8 := by
  rw [stUnderq, toNat_stPut s v (by decide) (by decide), bitsOf_putBits_same _ _ _ _ (by decide)]; rfl

theorem stStale_put_stale (s : BitVec 16) (v : Nat) : stStale (stPut s 7 7 v) = decide (v % 2 = 1) := by
  rw [stStale, bitOf_eq, toNat_stPut s v (by decide) (by decide), bitsOf_putBits_same _ _ _ _ (by decide)]; rfl

/-- QUAL lies below every other field. -/
theorem stQual_put_above (s : BitVec 16) {h l : Nat} (v : Nat) (hl : l ≤ h) (hh : h < 16) (ha : 2 < l) : stQual (stPut s h l v) = stQual s := by
  rw [stQual, toNat_stPut s v hl hh, bitsOf_putBits_below _ _ _ _ _ _ (by omega) (by decide) ha, stQual]

/-- SOURCE lies below STALE and UNDERQ. -/
theorem stSource_put_above (s : BitVec 16) {h l : Nat} (v : Nat) (hl : l ≤ h) (hh : h < 16) (ha : 6 < l) :
    stSource (stPut s h l v) = stSource s := by
  rw [stSource, toNat_stPut s v hl hh, bitsOf_putBits_below _ _ _ _ _ _ (by omega) (by decide) ha, stSource]

theorem stQual_stSet (s : BitVec 16) (q src : Nat) : stQual (stSet s q src) = q % 8 := by
  rw [stSet, stQual_put_above _ _ (by decide) (by decide) (by decide), stQual_put_above _ _ (by decide) (by decide) (by decide), stQual_put_qual]

theorem stSource_stSet (s : BitVec 16) (q src : Nat) : stSource (stSet s q src) = src % 16 := by
  rw [stSet, stSource_put_above _ _ (by decide) (by decide) (by decide), stSource_put_source]

/-! ## Point entries (05 R126, R128) -/

/-- Noting a write concerns the scan's lists of written points and of phase-1 entries (06 R164). -/
theorem noteWrite_eq (x : FlightSt) (n : Nat) : ∃ w i, x.noteWrite n = { x with written := w, iOver := i } := by
  unfold FlightSt.noteWrite
  dsimp only
  split
  · exact ⟨_, _, rfl⟩
  · exact ⟨_, x.iOver, rfl⟩

@[simp] theorem noteWrite_pts (x : FlightSt) (n : Nat) : (x.noteWrite n).pts = x.pts := by obtain ⟨w, i, h⟩ := noteWrite_eq x n; rw [h]
@[simp] theorem noteWrite_forces (x : FlightSt) (n : Nat) : (x.noteWrite n).forces = x.forces := by
  obtain ⟨w, i, h⟩ := noteWrite_eq x n; rw [h]
@[simp] theorem noteWrite_msgs (x : FlightSt) (n : Nat) : (x.noteWrite n).msgs = x.msgs := by obtain ⟨w, i, h⟩ := noteWrite_eq x n; rw [h]

@[simp] theorem putPt_forces (x : FlightSt) (n : Nat) (p : Point) : (x.putPt n p).forces = x.forces := noteWrite_forces x n
@[simp] theorem putPt_msgs (x : FlightSt) (n : Nat) (p : Point) : (x.putPt n p).msgs = x.msgs := noteWrite_msgs x n

/-- A point entry put reads back as put, but for its change time. -/
theorem putPt_pt_same (x : FlightSt) (n : Nat) (p : Point) : ∃ t, (x.putPt n p).pt n = { p with ctime := t } := by
  simp only [FlightSt.putPt, FlightSt.pt, mget_mset_same]
  by_cases h : (x.pt n).value ≠ p.value ∨ stQual (x.pt n).status ≠ stQual p.status ∨ stStale (x.pt n).status ≠ stStale p.status
  · exact ⟨x.mapTime, if_pos h⟩
  · exact ⟨p.ctime, if_neg h⟩

@[simp] theorem putPt_value (x : FlightSt) (n : Nat) (p : Point) : ((x.putPt n p).pt n).value = p.value := by
  obtain ⟨t, h⟩ := putPt_pt_same x n p; rw [h]
@[simp] theorem putPt_status (x : FlightSt) (n : Nat) (p : Point) : ((x.putPt n p).pt n).status = p.status := by
  obtain ⟨t, h⟩ := putPt_pt_same x n p; rw [h]
@[simp] theorem putPt_cls (x : FlightSt) (n : Nat) (p : Point) : ((x.putPt n p).pt n).cls = p.cls := by
  obtain ⟨t, h⟩ := putPt_pt_same x n p; rw [h]

theorem putPt_pt_other (x : FlightSt) {n m : Nat} (p : Point) (h : m ≠ n) : (x.putPt n p).pt m = x.pt m := mget_mset_other _ _ _ h

/-! ## Loads (05 R130, R140) -/

/-- The status that a load leaves: its quality and source, not stale (05 R127, R130). -/
theorem loaded_status (s : BitVec 16) {q src : Nat} (hq : q < 8) (hs : src < 16) : stQual (stPut (stSet s q src) 7 7 0) = q ∧
    stStale (stPut (stSet s q src) 7 7 0) = false ∧ stSource (stPut (stSet s q src) 7 7 0) = src := by
  refine ⟨?_, stStale_put_stale _ _, ?_⟩
  · rw [stQual_put_above _ _ (by decide) (by decide) (by decide), stQual_stSet, Nat.mod_eq_of_lt hq]
  · rw [stSource_put_above _ _ (by decide) (by decide) (by decide), stSource_stSet, Nat.mod_eq_of_lt hs]

/-- A load into a point without a force: its value, QUAL and SOURCE are the load's, STALE clears, and no other point changes. -/
theorem load_unforced (x : FlightSt) {n : Nat} (v : W32) {q src : Nat} (hc : (x.pt n).cls ≠ 0) (hf : x.forceOf n = none) (hq : q < 8)
    (hs : src < 16) : ((x.load n v q src).pt n).value = v ∧ stQual ((x.load n v q src).pt n).status = q ∧
      stStale ((x.load n v q src).pt n).status = false ∧ stSource ((x.load n v q src).pt n).status = src ∧
      ((x.load n v q src).pt n).cls = (x.pt n).cls ∧ (x.load n v q src).forces = x.forces ∧ (x.load n v q src).msgs = x.msgs ∧
      ∀ m, m ≠ n → (x.load n v q src).pt m = x.pt m := by
  obtain ⟨y, hy, hpt, hforces, hmsgs⟩ : ∃ y : FlightSt, x.load n v q src = y.putPt n
      { x.pt n with value := v, status := stPut (stSet (x.pt n).status q src) 7 7 0 } ∧ y.pt = x.pt ∧ y.forces = x.forces ∧ y.msgs = x.msgs := by
    refine ⟨{ x with age := mset 0 x.age n (if x.inScan then 1 else 0) }, ?_, rfl, rfl, rfl⟩
    have hf' : ({ x with age := mset 0 x.age n (if x.inScan then 1 else 0) } : FlightSt).forceOf n = none := hf
    simp only [FlightSt.load, if_neg hc, hf']
  obtain ⟨hqual, hstale, hsource⟩ := loaded_status (x.pt n).status hq hs
  rw [hy, putPt_value, putPt_status, putPt_cls, putPt_forces, putPt_msgs]
  exact ⟨rfl, hqual, hstale, hsource, rfl, hforces, hmsgs, fun m hm => (putPt_pt_other y _ hm).trans (congrFun hpt m)⟩

/-- A load into a forced point changes what is under the force, and of the point only what shows the quality there. -/
theorem load_forced (x : FlightSt) {n : Nat} (v : W32) (q src : Nat) {e : Nat} {fo : Force} (hc : (x.pt n).cls ≠ 0)
    (hf : x.forceOf n = some (e, fo)) : ((x.load n v q src).pt n).value = (x.pt n).value ∧
      (mget Force.zero (x.load n v q src).forces e).under = v ∧ (mget Force.zero (x.load n v q src).forces e).value = fo.value ∧
      (x.load n v q src).msgs = x.msgs ∧ ∀ m, m ≠ n → (x.load n v q src).pt m = x.pt m := by
  obtain ⟨y, hy, hpt, hforces, hmsgs⟩ : ∃ y : FlightSt, x.load n v q src = y.putPt n
      { x.pt n with status := stPut (stPut (x.pt n).status 14 12 q) 7 7 0 } ∧ y.pt = x.pt ∧
      y.forces = mput x.forces e { fo with under := v, underStatus := stPut (stSet fo.underStatus q src) 7 7 0 } ∧ y.msgs = x.msgs := by
    refine ⟨{ x with
      age := mset 0 x.age n (if x.inScan then 1 else 0)
      forces := mput x.forces e { fo with under := v, underStatus := stPut (stSet fo.underStatus q src) 7 7 0 } }, ?_, rfl, rfl, rfl⟩
    have hf' : ({ x with age := mset 0 x.age n (if x.inScan then 1 else 0) } : FlightSt).forceOf n = some (e, fo) := hf
    simp only [FlightSt.load, if_neg hc, hf']
  rw [hy, putPt_value, putPt_forces, putPt_msgs, hforces, mget_mput_same]
  exact ⟨rfl, rfl, rfl, hmsgs, fun m hm => (putPt_pt_other y _ hm).trans (congrFun hpt m)⟩

/-! ## Replies and counts (05 R141, R149) -/

@[simp] theorem countSuite_fl (d : Dev) (f : Flt) (codes : List Nat) : (d.countSuite f codes).fl f = d.fl f := inc_fl _ _ _ f
@[simp] theorem ptStat_fl (d : Dev) (f : Flt) : (d.ptStat f).fl f = d.fl f := by cases f <;> rfl

/-- A REPLY joins the messages of the flight and changes nothing else of it. -/
@[simp] theorem reply_fl (d : Dev) (f : Flt) (typ : Nat) (h : MsgHdr) (st : Nat) (body : List Byte) :
    (d.reply f typ h st body).fl f =
      { d.fl f with msgs := (d.fl f).msgs ++ [⟨typ, h.seq, st, h.suite, h.role, body, none⟩] } := updFl_fl d f _

end Sys2Proof.Machine
end

section
/-! O30: POINT_WRITE as a frame of the cycle, and what a flight does with one entry at its snapshot (05 R129, R132, R135, R136, R140). -/

namespace Sys2Proof.Machine

/-- SOURCE of a point that a message writes: 11 for one of origin 1, else 10 (05 R127). -/
def writeSource (h : MsgHdr) : Nat := if h.origin = 1 then 11 else 10

theorem writeSource_lt (h : MsgHdr) : writeSource h < 16 := by unfold writeSource; split <;> decide

/-- One entry of a writing role that is refused: the reply names it (05 R136). -/
theorem pointWriteIn_refused (f : Flt) (h : MsgHdr) (n : Nat) (v : W32) (d : Dev) {c : Nat} (hr : roleWrites h.role = true)
    (hc : writeStatus h.role h.suite ((d.fl f).pt n) v = c) (hne : c ≠ E_OK) :
    pointWriteIn f h [(n, v)] d = (d.countSuite f [c]).reply f 0x11 h c [0, 0, 0, 0] := by
  have hb : posBody (some (0, c)) = [0, 0, 0, 0] := by simp [posBody, le]
  simp [pointWriteIn, hr, hc, firstFail, hne, hb]

/-- One entry of a writing role that passes its check is loaded (05 R140). -/
theorem pointWriteIn_accepted (f : Flt) (h : MsgHdr) (n : Nat) (v : W32) (d : Dev) (hr : roleWrites h.role = true)
    (hc : writeStatus h.role h.suite ((d.fl f).pt n) v = E_OK) : pointWriteIn f h [(n, v)] d =
      ((d.countSuite f [E_OK]).updFl f fun x => x.load n v qGood (writeSource h)).reply f 0x11 h E_OK [255, 255, 0, 0] := by
  have hb : posBody none = [255, 255, 0, 0] := rfl
  simp [pointWriteIn, hr, hc, firstFail, hb, writeSource]

/-- A role that may not write is refused whole (05 R131, R132). -/
theorem pointWriteIn_role (f : Flt) (h : MsgHdr) (es : List (Nat × W32)) (d : Dev) (hr : roleWrites h.role = false) :
    pointWriteIn f h es d = d.reply f 0x11 h E_ROLE [255, 255, 0, 0] := by
  have hb : posBody none = [255, 255, 0, 0] := rfl
  simp [pointWriteIn, hr, hb]

/-- The operator and a suite role on a point of its suite may write a writable point with a value of its class (05 R129, R132, R135). -/
theorem writeStatus_ok {role suite : Nat} {p : Point} {v : W32} (hr : role = 1 ∨ (role = 3 ∧ p.suite = suite)) (hc : p.cls ≠ 0)
    (hw : stExtwr p.status = true) (ha : clsAccepts p.cls v = true) : writeStatus role suite p v = E_OK := by
  rcases hr with rfl | ⟨rfl, hs⟩
  · simp [writeStatus, roleSuite, hc, hw, ha]
  · simp [writeStatus, roleSuite, hc, hs, hw, ha]

/-- What one accepted entry leaves on a point without a force: the value with QUAL GOOD and the message's source. -/
theorem pointWrite_unforced (d : Dev) (f : Flt) (h : MsgHdr) (n : Nat) (v : W32) (hr : roleWrites h.role = true)
    (hw : writeStatus h.role h.suite ((d.fl f).pt n) v = E_OK) (hc : ((d.fl f).pt n).cls ≠ 0) (hf : (d.fl f).forceOf n = none) :
    let y := (pointWriteIn f h [(n, v)] d).fl f
    (y.pt n).value = v ∧ stQual (y.pt n).status = 0 ∧ stStale (y.pt n).status = false ∧ stSource (y.pt n).status = writeSource h ∧
      (y.pt n).cls = ((d.fl f).pt n).cls ∧ y.forces = (d.fl f).forces ∧ (∀ m, m ≠ n → y.pt m = (d.fl f).pt m) ∧
      y.msgs = (d.fl f).msgs ++ [⟨0x11, h.seq, E_OK, h.suite, h.role, [255, 255, 0, 0], none⟩] := by
  obtain ⟨hval, hqual, hstale, hsrc, hcls, hforces, hmsgs, hother⟩ :=
    load_unforced (d.fl f) v (q := qGood) hc hf (by decide) (writeSource_lt h)
  rw [pointWriteIn_accepted f h n v d hr hw, reply_fl, updFl_fl, countSuite_fl]
  exact ⟨hval, hqual, hstale, hsrc, hcls, hforces, hother, congrArg (· ++ _) hmsgs⟩

/-- What one accepted entry leaves on a forced point: the value under the force alone. -/
theorem pointWrite_forced (d : Dev) (f : Flt) (h : MsgHdr) (n : Nat) (v : W32) {e : Nat} {fo : Force} (hr : roleWrites h.role = true)
    (hw : writeStatus h.role h.suite ((d.fl f).pt n) v = E_OK) (hc : ((d.fl f).pt n).cls ≠ 0) (hf : (d.fl f).forceOf n = some (e, fo)) :
    let y := (pointWriteIn f h [(n, v)] d).fl f
    (y.pt n).value = ((d.fl f).pt n).value ∧ (mget Force.zero y.forces e).under = v ∧ (mget Force.zero y.forces e).value = fo.value ∧
      (∀ m, m ≠ n → y.pt m = (d.fl f).pt m) ∧
      y.msgs = (d.fl f).msgs ++ [⟨0x11, h.seq, E_OK, h.suite, h.role, [255, 255, 0, 0], none⟩] := by
  obtain ⟨hval, hunder, hforce, hmsgs, hother⟩ := load_forced (d.fl f) v qGood (writeSource h) hc hf
  rw [pointWriteIn_accepted f h n v d hr hw, reply_fl, updFl_fl, countSuite_fl]
  exact ⟨hval, hunder, hforce, hother, congrArg (· ++ _) hmsgs⟩

/-- Settles O30: the branches of one entry's check, each by the lemma on what it leaves. -/
theorem pointWritesLoadOrAreRefusedWhole : Obligations.PointWritesLoadOrAreRefusedWhole := by
  unfold Obligations.PointWritesLoadOrAreRefusedWhole
  refine ⟨fun s h es => answersDev_messaged rfl, fun d f h n v => ?_⟩
  refine ⟨fun hr => ?_, fun hr => ?_, fun hc => ?_, fun hc hs => ?_, fun hc hw => ?_, fun hc hw ha => ?_⟩
  · have hwr : roleWrites h.role = true := by rcases hr with hr | ⟨hr, -⟩ <;> simp [roleWrites, hr]
    refine ⟨fun hc hw ha => ⟨fun hf => ?_, fun e fo hf => ?_⟩, fun code hcode hne => ?_⟩
    · exact pointWrite_unforced d f h n v hwr (writeStatus_ok hr hc hw ha) hc hf
    · exact pointWrite_forced d f h n v hwr (writeStatus_ok hr hc hw ha) hc hf
    · show (((pointWriteIn f h [(n, v)] d).fl f).pts = _ ∧ ((pointWriteIn f h [(n, v)] d).fl f).forces = _ ∧
        ((pointWriteIn f h [(n, v)] d).fl f).msgs = _)
      rw [pointWriteIn_refused f h n v d hwr hcode hne, reply_fl, countSuite_fl]
      exact ⟨rfl, rfl, rfl⟩
  · show (((pointWriteIn f h [(n, v)] d).fl f).pts = _ ∧ ((pointWriteIn f h [(n, v)] d).fl f).forces = _ ∧
        ((pointWriteIn f h [(n, v)] d).fl f).msgs = _)
    rw [pointWriteIn_role f h _ d hr, reply_fl]
    exact ⟨rfl, rfl, rfl⟩
  · constructor <;> simp [writeStatus, roleSuite, hc]
  · simp [writeStatus, roleSuite, hs]
  · simp [writeStatus, roleSuite, hc, hw]
  · simp [writeStatus, roleSuite, hc, hw, ha]

end Sys2Proof.Machine
end

section
/-! O31: FORCE_SET as a frame of the cycle, and what a flight does with one entry at its snapshot (05 R135, R136, R140, R142, R143, R150). -/

namespace Sys2Proof.Machine

/-! ## The force table (05 R142) -/

theorem mget?_eq_none_of_fresh {α : Type} {m : Map α} {k : Nat} (h : Fresh m k) : mget? m k = none := by
  induction m with
  | nil => rfl
  | cons e t ih => simp [mget?, h e (by simp), ih fun x hx => h x (by simp [hx])]

theorem mdel_eq_of_fresh {α : Type} {m : Map α} {k : Nat} (h : Fresh m k) : mdel m k = m :=
  List.filter_eq_self.mpr fun e he => by simpa using h e he

/-- A table with fewer entries than it has places has a free one. -/
theorem freeEntry_some {α : Type} {m : Map α} {n : Nat} (h : m.length < n) : ∃ e, freeEntry m n = some e ∧ Fresh m e := by
  cases hf : freeEntry m n with
  | some e =>
    have hn := List.find?_some hf
    refine ⟨e, rfl, fun x hx hxe => ?_⟩
    have : mhas m e = true := List.any_eq_true.mpr ⟨x, hx, by simp [hxe]⟩
    simp [this] at hn
  | none =>
    have hall : ∀ i ∈ List.range n, i ∈ m.map Prod.fst := fun i hi => by
      have hm : mhas m i = true := by simpa using List.find?_eq_none.mp hf i hi
      obtain ⟨e, he, hei⟩ := List.any_eq_true.mp hm
      exact List.mem_map.mpr ⟨e, he, by simpa using hei⟩
    have hle := (List.nodup_range.subperm hall).length_le
    rw [List.length_range, List.length_map] at hle
    omega

/-- A new entry among entries that a test does not select is the one that the test finds. -/
theorem find?_mins {α : Type} (p : Nat × α → Bool) (m : Map α) (k : Nat) (v : α) (hm : ∀ e ∈ m, p e = false) (hv : p (k, v) = true) :
    (mins m k v).find? p = some (k, v) := by
  induction m with
  | nil => simp [mins, hv]
  | cons e t ih =>
    obtain ⟨a, w⟩ := e
    have ha : p (a, w) = false := hm (a, w) (by simp)
    simp only [mins]
    split
    · simp [hv]
    · rw [List.find?_cons_of_neg (by simp [ha]), ih fun x hx => hm x (by simp [hx])]

theorem forceOf_eq_none {x : FlightSt} {n : Nat} : x.forceOf n = none ↔ ∀ e ∈ x.forces, e.2.point ≠ n := by
  simp [FlightSt.forceOf]

/-! ## Setting and releasing a force (05 R140, R142, R143) -/

/-- The status that a forced point shows: QUAL FORCED over the quality that it had. -/
theorem forced_status (s : BitVec 16) : stQual (stPut (stPut (stPut s 2 0 qForced) 6 3 12) 14 12 (stQual s)) = 4 ∧
    stUnderq (stPut (stPut (stPut s 2 0 qForced) 6 3 12) 14 12 (stQual s)) = stQual s := by
  constructor
  · rw [stQual_put_above _ _ (by decide) (by decide) (by decide), stQual_put_above _ _ (by decide) (by decide) (by decide), stQual_put_qual]
    rfl
  · rw [stUnderq_put_underq]
    exact Nat.mod_eq_of_lt (bitsOf_lt s.toNat 2 0)

/-- A force set on an unforced point with a free entry shows its value and keeps what was there. -/
theorem forceSet_unforced (x : FlightSt) (role suite : Nat) {n : Nat} (v : W32) (hf : x.forceOf n = none) (hl : x.forces.length < 512) :
    ((x.forceSet role suite n v).pt n).value = v ∧ stQual ((x.forceSet role suite n v).pt n).status = 4 ∧
      stUnderq ((x.forceSet role suite n v).pt n).status = stQual (x.pt n).status ∧
      (∃ e, mget? x.forces e = none ∧
        (x.forceSet role suite n v).forceOf n = some (e, ⟨n, v, (x.pt n).value, (x.pt n).status, role, suite⟩)) ∧
      ∀ m, m ≠ n → (x.forceSet role suite n v).pt m = x.pt m := by
  obtain ⟨e, he, hfresh⟩ := freeEntry_some hl
  obtain ⟨y, hy, hpt, hforces⟩ : ∃ y : FlightSt, x.forceSet role suite n v = y.putPt n { x.pt n with
      value := v, status := stPut (stPut (stPut (x.pt n).status 2 0 qForced) 6 3 12) 14 12 (stQual (x.pt n).status) } ∧ y.pt = x.pt ∧
      y.forces = mput x.forces e ⟨n, v, (x.pt n).value, (x.pt n).status, role, suite⟩ := by
    refine ⟨{ x with forces := mput x.forces e ⟨n, v, (x.pt n).value, (x.pt n).status, role, suite⟩ }, ?_, rfl, rfl⟩
    simp only [FlightSt.forceSet, hf, he]
  obtain ⟨hqual, hunder⟩ := forced_status (x.pt n).status
  have hfound : (x.forceSet role suite n v).forceOf n = some (e, ⟨n, v, (x.pt n).value, (x.pt n).status, role, suite⟩) := by
    rw [FlightSt.forceOf, hy, putPt_forces, hforces, mput, mdel_eq_of_fresh hfresh]
    refine find?_mins _ _ _ _ (fun g hg => ?_) (by simp)
    simpa using forceOf_eq_none.mp hf g hg
  rw [hy] at hfound ⊢
  rw [putPt_value, putPt_status]
  exact ⟨rfl, hqual, hunder, ⟨e, mget?_eq_none_of_fresh hfresh, hfound⟩, fun m hm => (putPt_pt_other y _ hm).trans (congrFun hpt m)⟩

/-- A force released gives the point what was under it, at the scan's time, and frees its entry. -/
theorem forceRelease_only (x : FlightSt) {n e : Nat} {fo : Force} (hx : x.forces = [(e, fo)]) (hn : fo.point = n) :
    (x.forceRelease n).pt n = { x.pt n with value := fo.under, status := fo.underStatus, ctime := x.mapTime } ∧
      (x.forceRelease n).forces = [] ∧ (x.forceRelease n).forceOf n = none ∧ ∀ m, m ≠ n → (x.forceRelease n).pt m = x.pt m := by
  have hf : x.forceOf n = some (e, fo) := by simp [FlightSt.forceOf, hx, hn]
  have hd : mdel x.forces e = [] := by simp [mdel, hx]
  have hr : x.forceRelease n = { ({ x with forces := mdel x.forces e, pages := insIx (forcePage e) x.pages } : FlightSt).noteWrite n with
      pts := mset Point.zero x.pts n { x.pt n with value := fo.under, status := fo.underStatus, ctime := x.mapTime } } := by
    simp only [FlightSt.forceRelease, hf, noteWrite_pts]
  have hforces : (x.forceRelease n).forces = [] := by rw [hr]; exact (noteWrite_forces _ n).trans hd
  have hnone : (x.forceRelease n).forceOf n = none := by rw [FlightSt.forceOf, hforces]; rfl
  refine ⟨?_, hforces, hnone, fun m hm => ?_⟩ <;> rw [hr]
  · exact mget_mset_same _ _ _ _
  · exact mget_mset_other _ _ _ hm

/-! ## One entry of a FORCE_SET (05 R136, R142) -/

/-- What one entry of a FORCE_SET does to the flight, with its event. -/
def Dev.forceEntry (d : Dev) (f : Flt) (h : MsgHdr) (n act : Nat) (v : W32) : Dev :=
  (d.updFl f fun x => if act = 1 then x.forceSet h.role h.suite n v else x.forceRelease n).raiseFl f .flForce
    [n, act, v.toNat, h.role, h.suite] (some ((d.fl f).pt n).suite)

/-- EV_FL_FORCE of an entry (05 R150). -/
def forceEvent (f : Flt) (h : MsgHdr) (n act : Nat) (v : W32) (suite : Nat) : UpMsg :=
  evMsg ⟨.flForce, f.region, some suite, [n, act, v.toNat, h.role, h.suite]⟩

theorem forceEntry_set (d : Dev) (f : Flt) (h : MsgHdr) (n : Nat) (v : W32) :
    (d.forceEntry f h n 1 v).fl f = { (d.fl f).forceSet h.role h.suite n v with
      msgs := ((d.fl f).forceSet h.role h.suite n v).msgs ++ [forceEvent f h n 1 v ((d.fl f).pt n).suite] } := by
  rw [Dev.forceEntry, Dev.raiseFl, updFl_fl, updFl_fl]; rfl

theorem forceEntry_release (d : Dev) (f : Flt) (h : MsgHdr) (n : Nat) (v : W32) :
    (d.forceEntry f h n 0 v).fl f = { (d.fl f).forceRelease n with
      msgs := ((d.fl f).forceRelease n).msgs ++ [forceEvent f h n 0 v ((d.fl f).pt n).suite] } := by
  rw [Dev.forceEntry, Dev.raiseFl, updFl_fl, updFl_fl]; rfl

theorem forceSetIn_role (f : Flt) (h : MsgHdr) (es : List (Nat × Nat × W32)) (d : Dev) (hr : h.role ≠ 1) :
    forceSetIn f h es d = d.reply f 0x13 h E_ROLE [255, 255, 0, 0] := by
  have hb : posBody none = [255, 255, 0, 0] := rfl
  simp [forceSetIn, hr, hb]

/-- One entry of the operator that its check refuses (05 R136). -/
theorem forceSetIn_refused (f : Flt) (h : MsgHdr) (n act : Nat) (v : W32) (d : Dev) {c : Nat} (hr : h.role = 1)
    (hc : forceStatuses (d.fl f) (512 - (d.fl f).forces.length) ((d.fl f).forces.map (·.2.point)) [(n, act, v)] = [c]) (hne : c ≠ E_OK) :
    forceSetIn f h [(n, act, v)] d = d.reply f 0x13 h c [0, 0, 0, 0] := by
  have hb : posBody (some (0, c)) = [0, 0, 0, 0] := by simp [posBody, le]
  simp [forceSetIn, hr, hc, firstFail, hne, hb]

/-- One entry of the operator that passes its check is applied. -/
theorem forceSetIn_accepted (f : Flt) (h : MsgHdr) (n act : Nat) (v : W32) (d : Dev) (hr : h.role = 1)
    (hc : forceStatuses (d.fl f) (512 - (d.fl f).forces.length) ((d.fl f).forces.map (·.2.point)) [(n, act, v)] = [E_OK]) :
    forceSetIn f h [(n, act, v)] d = ((d.forceEntry f h n act v).ptStat f).reply f 0x13 h E_OK [255, 255, 0, 0] := by
  have hb : posBody none = [255, 255, 0, 0] := rfl
  simp [forceSetIn, hr, hc, firstFail, hb, Dev.forceEntry]

/-- A force on an unforced point is accepted while an entry is free (05 R142). -/
theorem forceStatuses_set {x : FlightSt} {n : Nat} {v : W32} (hc : (x.pt n).cls ≠ 0) (ha : clsAccepts (x.pt n).cls v = true)
    (hf : x.forceOf n = none) (hl : x.forces.length < 512) :
    forceStatuses x (512 - x.forces.length) (x.forces.map (·.2.point)) [(n, 1, v)] = [E_OK] := by
  have hn : n ∉ x.forces.map (·.2.point) := fun h => by
    obtain ⟨e, he, hp⟩ := List.mem_map.mp h
    exact forceOf_eq_none.mp hf e he hp
  have hfree : 512 - x.forces.length ≠ 0 := by omega
  simp only [forceStatuses, hc, ha, hn, hfree]
  rfl

/-- A release is accepted (05 R142). -/
theorem forceStatuses_release {x : FlightSt} {n : Nat} (v : W32) (free : Nat) (forced : List Nat) (hc : (x.pt n).cls ≠ 0) :
    forceStatuses x free forced [(n, 0, v)] = [E_OK] := by
  by_cases h : n ∈ forced <;> simp [forceStatuses, hc, h]

/-- An action other than set and release is out of range. -/
theorem forceStatuses_action {x : FlightSt} {n act : Nat} (v : W32) (free : Nat) (forced : List Nat) (hc : (x.pt n).cls ≠ 0) (ha : 1 < act) :
    forceStatuses x free forced [(n, act, v)] = [E_RANGE] := by
  simp [forceStatuses, hc, ha]

/-- Settles O31: the entry's check, then the force set or released, each by its lemma. -/
theorem forcesHoldAPointAndReleaseIt : Obligations.ForcesHoldAPointAndReleaseIt := by
  unfold Obligations.ForcesHoldAPointAndReleaseIt
  refine ⟨fun s h es => answersDev_messaged rfl, fun d f h n v => ⟨fun hr hc ha hf hl => ?_, fun e fo hr hc hx hn => ?_,
    fun act hact hr hc => ?_, fun es hr => ?_⟩⟩
  · obtain ⟨hval, hqual, hunder, ⟨e, hfree, hforce⟩, hother⟩ := forceSet_unforced (d.fl f) h.role h.suite v hf hl
    simp only [Dev.applyIn]
    rw [forceSetIn_accepted f h n 1 v d hr (forceStatuses_set hc ha hf hl), reply_fl, ptStat_fl, forceEntry_set]
    rw [hr] at hforce hval hqual hunder hother ⊢
    exact ⟨hval, hqual, hunder, ⟨e, hfree, hforce⟩, hother, by simp [forceEvent, hr]⟩
  · obtain ⟨hpt, hforces, hnone, hother⟩ := forceRelease_only (d.fl f) hx hn
    simp only [Dev.applyIn]
    rw [forceSetIn_accepted f h n 0 v d hr (forceStatuses_release v _ _ hc), reply_fl, ptStat_fl, forceEntry_release]
    exact ⟨congrArg Point.value hpt, congrArg Point.status hpt, congrArg Point.ctime hpt, hnone, hforces, hother⟩
  · simp only [Dev.applyIn]
    rw [forceSetIn_refused f h n act v d hr (forceStatuses_action v _ _ hc hact) (by decide), reply_fl]
    exact ⟨rfl, rfl, rfl⟩
  · simp only [Dev.applyIn]
    rw [forceSetIn_role f h es d hr, reply_fl]
    exact ⟨rfl, rfl, rfl⟩

end Sys2Proof.Machine
end

section
/-! O32: POINT_READ and its operations as frames of the cycle, and what a flight does with them at its snapshot (05 R132, R133, R145, R147,
R148). -/

namespace Sys2Proof.Machine

/-! ## Reads (05 R132, R148) -/

/-- A read of one point by a reading role is answered with that point's own entry. -/
theorem pointReadIn_one (f : Flt) (h : MsgHdr) (n : Nat) (d : Dev) (hr : roleReads h.role = true) :
    pointReadIn f h [n] d = (d.countSuite f [readStatus h.role h.suite ((d.fl f).pt n)]).reply f 0x10 h E_OK
      ([1, 0, 0, 0] ++ readEntry n (readStatus h.role h.suite ((d.fl f).pt n)) ((d.fl f).pt n)) := by
  simp [pointReadIn, hr, le]

theorem pointReadIn_role (f : Flt) (h : MsgHdr) (ps : List Nat) (d : Dev) (hr : roleReads h.role = false) :
    pointReadIn f h ps d = d.reply f 0x10 h E_ROLE [0, 0, 0, 0] := by
  simp [pointReadIn, hr]

/-! ## Subscriptions (05 R145, R147) -/

/-- The first subscription of a flight to a readable point takes an entry for its session (05 R145). -/
theorem subscribeAll_first (h : MsgHdr) (ses : Nat) (x : FlightSt) (n iv db : Nat) (hst : readStatus h.role h.suite (x.pt n) = E_OK)
    (hx : x.subs = []) : subscribeAll h ses x [(n, iv, db)] =
      ({ x with subs := [(0, ⟨n, ses, h.role, h.suite, BitVec.ofNat 32 db, iv, 0, 0, 0, false, false⟩)] }, [E_OK]) := by
  have hfree : freeEntry ([] : Map Sub) 4096 = some 0 := by simp [freeEntry, List.find?_range_eq_some, mhas]
  simp [subscribeAll, subscribeOne, hst, hx, hfree, mput, mdel, mins]

/-- A point out of reach takes no subscription (05 R133, R145). -/
theorem subscribeAll_refused (h : MsgHdr) (ses : Nat) (x : FlightSt) (n iv db : Nat) {c : Nat} (hst : readStatus h.role h.suite (x.pt n) = c)
    (hc : c ≠ E_OK) : subscribeAll h ses x [(n, iv, db)] = (x, [c]) := by
  simp [subscribeAll, subscribeOne, hst, hc]

/-- SUBSCRIBE of one point in a reading role: the table with what the admission gives, its occupancy shown. -/
theorem subscribeIn_one (f : Flt) (h : MsgHdr) (ses n iv db : Nat) (d : Dev) {y : FlightSt} {c : Nat} (hr : roleReads h.role = true)
    (hs : subscribeAll h ses (d.fl f) [(n, iv, db)] = (y, [c])) : ∃ body, subscribeIn f h ses [(n, iv, db)] d =
      (((d.updFl f fun _ => y).countSuite f [c]).ptStat f).reply f 0x10 h E_OK body := by
  rw [subscribeIn, if_neg (by simp [hr]), if_neg (by simp), hs]
  exact ⟨_, rfl⟩

/-- Removing subscriptions keeps exactly the entries that the test does not select. -/
theorem dropSubs_fl (d : Dev) (f : Flt) (sel : Sub → Bool) :
    (d.dropSubs f sel).fl f = { d.fl f with subs := (d.fl f).subs.filter fun e => !sel e.2 } := by
  rw [Dev.dropSubs, ptStat_fl, updFl_fl]

theorem unsubscribeIn_reads (f : Flt) (h : MsgHdr) (ses : Nat) (ps : List Nat) (d : Dev) (hr : roleReads h.role = true) (hl : ps.length ≤ 51) :
    ∃ codes body, unsubscribeIn f h ses ps d =
      ((d.dropSubs f fun s => s.session == ses && ps.contains s.point).countSuite f codes).reply f 0x10 h E_OK body := by
  rw [unsubscribeIn, if_neg (by simp [hr]), if_neg (Nat.not_lt.mpr hl)]
  exact ⟨_, _, rfl⟩

theorem clearSubsIn_reads (f : Flt) (h : MsgHdr) (sel : Sub → Bool) (d : Dev) (hr : roleReads h.role = true) :
    clearSubsIn f h sel d = (d.dropSubs f sel).reply f 0x10 h E_OK [0, 0, 0, 0] := by
  simp [clearSubsIn, hr]

/-- SUBS shows the occupancy of the subscription table (05 R149). -/
theorem ptStat_subs (d : Dev) (f : Flt) (h : (d.fl f).subs.length < 8192) : (d.ptStat f).get (FL_PTSTAT_SUBS.at f) = (d.fl f).subs.length :=
  get_put_same _ (FL_PTSTAT_SUBS.at f) _ (by cases f <;> rfl) h

/-! ## Requests of a wrong length (05 R148) -/

theorem parsePoint_badCount (h : MsgHdr) (p : List Byte) (hp : p.length ≠ 4 + 8 * field p 2 2 ∨ (3 ≤ field p 0 1 ∧ field p 2 2 ≠ 0)) :
    parsePoint h p = .badCount h 0x10 := if_pos hp

/-- Settles O32: each operation by the lemma on what it leaves of the flight. -/
theorem pointReadsAndSubscriptions : Obligations.PointReadsAndSubscriptions := by
  unfold Obligations.PointReadsAndSubscriptions
  refine ⟨fun s h ses ps es => ⟨answersDev_messaged rfl, answersDev_messaged rfl, answersDev_messaged rfl, answersDev_messaged rfl,
    answersDev_messaged rfl⟩, fun d f h n ses => ⟨fun hr => ⟨?_, fun iv db hst hx => ?_, fun iv db hst => ?_, fun ps hl => ?_, ?_, ?_⟩,
    fun hr ps => ?_, fun p hp => ?_⟩⟩
  · simp only [Dev.applyIn]
    rw [pointReadIn_one f h n d hr, reply_fl, countSuite_fl]
    exact ⟨rfl, rfl, rfl⟩
  · obtain ⟨body, hsub⟩ := subscribeIn_one f h ses n iv db d hr (subscribeAll_first h ses (d.fl f) n iv db hst hx)
    simp only [Dev.applyIn]
    rw [hsub, reply_fl, ptStat_fl, countSuite_fl, updFl_fl]
    refine ⟨⟨_, _, rfl, rfl, rfl, rfl, rfl, rfl, rfl, rfl⟩, rfl, ?_⟩
    rw [Dev.reply, updFl_get, ptStat_subs] <;> rw [countSuite_fl, updFl_fl] <;> simp
  · obtain ⟨body, hsub⟩ := subscribeIn_one f h ses n iv db d hr (subscribeAll_refused h ses (d.fl f) n iv db rfl hst)
    simp only [Dev.applyIn]
    rw [hsub, reply_fl, ptStat_fl, countSuite_fl, updFl_fl]
    exact ⟨rfl, rfl⟩
  · obtain ⟨codes, body, hun⟩ := unsubscribeIn_reads f h ses ps d hr hl
    simp only [Dev.applyIn]
    rw [hun, reply_fl, countSuite_fl, dropSubs_fl]
    exact ⟨rfl, fun e => by simp [imp_iff_not_or]⟩
  · simp only [Dev.applyIn]
    rw [clearSubsIn_reads f h _ d hr, reply_fl, dropSubs_fl]
    exact ⟨rfl, fun e => by simp⟩
  · simp only [Dev.applyIn]
    rw [clearSubsIn_reads f h _ d hr, reply_fl, dropSubs_fl]
    exact ⟨rfl, by simp⟩
  · simp only [Dev.applyIn]
    rw [pointReadIn_role f h ps d hr, reply_fl]
    exact ⟨rfl, rfl⟩
  · simp only [Dev.applyIn, parsePoint_badCount h p hp, badCountIn]
    rw [reply_fl]
    exact ⟨rfl, rfl, rfl⟩

end Sys2Proof.Machine
end

section
/-! O33: REG_READ and REG_WRITE of the Corridor at the Newel and in a flight (04 R576; 06 R156; 16 R450). -/

namespace Sys2Proof.Machine

/-! ## Replies of the Newel (01 R41; 04 R576) -/

/-- What a message gets on the lane depends on the lane alone. -/
theorem putUp_upQ_congr {d e : Dev} (hq : e.cor.upQ = d.cor.upQ) (hu : e.cor.up = d.cor.up) (m : UpMsg) :
    (e.putUp m).cor.upQ = (d.putUp m).cor.upQ := by
  simp only [Dev.putUp, hq, hu]

/-- A REPLY outside commit sets while the Newel holds the Corridor up takes its place on the lane. -/
theorem replyNow_sentUp {d e : Dev} (hq : e.cor.upQ = d.cor.upQ) (hu : e.cor.up = d.cor.up) (hf : e.cor.fieldUp = true) (typ : Nat)
    (h : MsgHdr) (st : Nat) (body : List Byte) : d.sentUp (e.replyNow typ h st body) ⟨typ, h.seq, st, h.suite, h.role, body, none⟩ := by
  simp only [Dev.sentUp, Dev.replyNow, Dev.sendUp, hf, if_true]
  exact putUp_upQ_congr hq hu _

theorem OnlyIn.replyNow {ps : List Part} {ks : Nat → Bool} {d e : Dev} (h : OnlyIn ps ks d e) (typ : Nat) (hd : MsgHdr) (st : Nat)
    (body : List Byte) (hc : .cor ∈ ps) (hn : .nw ∈ ps) : OnlyIn ps ks d (e.replyNow typ hd st body) := h.sendUp _ hc hn

/-! ## A message that the Newel takes for itself (01 R28, R40) -/

/-- The module as the Newel has accepted a message and keeps its frame: only the direction and the buffer have changed. -/
def Dev.keptFrame (d : Dev) (q : Nat) (i s : List InFrame) : Dev :=
  (d.updCor fun c => { c with down := (d.cor.down.accept q).1 }).updNw fun n => { n with ingress := i, source := s }

/-- The frame of a message that no flight applies is kept like any other. -/
theorem acceptDown_corFrame {d : Dev} {q : Nat} (h : (d.cor.down.accept q).2 = true) (m : DownMsg) (g : Dev → Dev) :
    ∃ i s, d.acceptDown q (fun d => g (d.ingress (corFrame m))) = g (d.keptFrame q i s) := by
  obtain ⟨i, s, hk⟩ := ingress_stores (d.updCor fun c => { c with down := (d.cor.down.accept q).1 }) (corFrame m)
    fun hs => absurd hs.1 (by show (0x03 : Nat) ≠ 0x04; decide)
  exact ⟨i, s, by rw [acceptDown_accepted d q _ h, hk]; rfl⟩

theorem onlyIn_keptFrame (d : Dev) (q : Nat) (i s : List InFrame) : OnlyIn [.cor, .nw] noKey d (d.keptFrame q i s) :=
  ((onlyIn_refl ..).updCor _ (by decide)).updNw _ (by decide)

/-- Neither the check of a request nor the value of a register depends on the direction or the buffer. -/
theorem keptFrame_regCheck (d : Dev) (q : Nat) (i s : List InFrame) (role region count o : Nat) :
    (d.keptFrame q i s).regCheck role region count o = d.regCheck role region count o := rfl

theorem keptFrame_fieldRead (d : Dev) (q : Nat) (i s : List InFrame) (k : Nat) : (d.keptFrame q i s).fieldRead k = d.fieldRead k := rfl

/-- The Newel answers a kept message. -/
theorem keptFrame_told (d : Dev) (q : Nat) (i s : List InFrame) (hu : d.cor.fieldUp = true) (typ : Nat) (h : MsgHdr) (st : Nat)
    (body : List Byte) : d.sentUp ((d.keptFrame q i s).replyNow typ h st body) ⟨typ, h.seq, st, h.suite, h.role, body, none⟩ ∧
      OnlyIn [.cor, .nw] noKey d ((d.keptFrame q i s).replyNow typ h st body) :=
  ⟨replyNow_sentUp (e := d.keptFrame q i s) rfl rfl hu typ h st body, (onlyIn_keptFrame d q i s).replyNow typ h st body (by decide) (by decide)⟩

/-! ## REG_READ (16 R450; 04 R576) -/

theorem regBody_one (v : W32) : regBody 0xFFFF [v] = [255, 255, 0, 0] ++ le 4 v.toNat := by
  simp [regBody, le]

theorem regBody_nil : regBody 0xFFFF [] = [255, 255, 0, 0] := by simp [regBody, le]

/-- A request of one register that passes its check is answered with its value. -/
theorem regReadNow_one (d : Dev) (h : MsgHdr) (region o : Nat) (hc : d.regCheck h.role region 1 o = (E_OK, 0xFFFF)) :
    d.regReadNow h region 1 o = d.replyNow 0x40 h E_OK ([255, 255, 0, 0] ++ le 4 (d.fieldRead (region * 2 ^ 24 + o)).toNat) := by
  simp only [Dev.regReadNow, hc, ne_eq, not_true_eq_false, if_false, List.range_one, List.map_cons, List.map_nil, Nat.mul_zero, Nat.add_zero,
    regBody_one]

/-- A request that fails its check is answered with the code. -/
theorem regReadNow_refused (d : Dev) (h : MsgHdr) (region count o : Nat) (hc : (d.regCheck h.role region count o).1 ≠ E_OK) :
    ∃ b, d.regReadNow h region count o = d.replyNow 0x40 h (d.regCheck h.role region count o).1 b := by
  simp only [Dev.regReadNow, hc, ne_eq, not_false_eq_true, if_true]
  exact ⟨_, rfl⟩

/-- REG_READ of registers that are no flight's: the Newel keeps the frame and answers (16 R450). -/
theorem regRead_newel {d : Dev} {h : MsgHdr} {region : Nat} (count o : Nat) (hq : (d.cor.down.accept h.seq).2 = true) (h3 : region ≠ 3)
    (h4 : region ≠ 4) : ∃ i s, d.acceptDown h.seq (fun d => d.regRead h region count o) = (d.keptFrame h.seq i s).regReadNow h region count o := by
  have hn : ¬(region = 3 ∨ region = 4) := by simp [h3, h4]
  simp only [Dev.regRead, if_neg hn]
  exact acceptDown_corFrame hq _ fun d => d.regReadNow h region count o

theorem region_of_flight (f : Flt) : 3 + f.num = 3 ∨ 3 + f.num = 4 := by cases f <;> decide

theorem ofNum_region (f : Flt) : Flt.ofNum (3 + f.num - 3) = f := by cases f <;> rfl

/-- REG_READ of a flight: its frame where the flight will consume it, else the Newel answers E_PD (04 R576). -/
theorem regRead_flight (d : Dev) (f : Flt) (h : MsgHdr) (count o : Nat) : d.regRead h (3 + f.num) count o =
    if d.takesReads f then d.arrived (.regRead h (3 + f.num) count o)
    else (d.ingress (corFrame ⟨h.seq, 0x40, 0, 0, 0, h.suite, h.role, h.origin, (FlightIn.regRead h (3 + f.num) count o).payload⟩)).replyNow
      0x40 h E_PD [255, 255, 0, 0] := by
  simp only [Dev.regRead, if_pos (region_of_flight f), ofNum_region, ingress_frame, regBody_nil]

theorem regRead_taken {d : Dev} {f : Flt} (h : MsgHdr) (count o : Nat) (ht : d.takesReads f = true) :
    d.acceptDown h.seq (fun d => d.regRead h (3 + f.num) count o) = d.messaged (.regRead h (3 + f.num) count o) := by
  have ht' : (d.updCor fun c => { c with down := (d.cor.down.accept h.seq).1 }).takesReads f = true := ht
  have hs : (FlightIn.regRead h (3 + f.num) count o).hdr.seq = h.seq := rfl
  simp only [Dev.acceptDown, Dev.messaged, regRead_flight, ht', if_true, hs]

theorem regRead_untaken {d : Dev} {f : Flt} {h : MsgHdr} (count o : Nat) (hq : (d.cor.down.accept h.seq).2 = true)
    (ht : d.takesReads f = false) : ∃ i s, d.acceptDown h.seq (fun d => d.regRead h (3 + f.num) count o) =
      (d.keptFrame h.seq i s).replyNow 0x40 h E_PD [255, 255, 0, 0] := by
  have ht' : (d.updCor fun c => { c with down := (d.cor.down.accept h.seq).1 }).takesReads f = false := ht
  obtain ⟨i, s, hk⟩ := acceptDown_corFrame hq
    ⟨h.seq, 0x40, 0, 0, 0, h.suite, h.role, h.origin, (FlightIn.regRead h (3 + f.num) count o).payload⟩ fun d => d.replyNow 0x40 h E_PD [255, 255, 0, 0]
  refine ⟨i, s, ?_⟩
  rw [← hk, acceptDown_accepted _ _ _ hq, acceptDown_accepted _ _ _ hq, regRead_flight, ht']
  simp only [Bool.false_eq_true, if_false]

/-! ## REG_WRITE in a flight (16 R450; 06 R156; 04 R575) -/

theorem OnlyIn.updMac {ps : List Part} {ks : Nat → Bool} {d e : Dev} (h : OnlyIn ps ks d e) (f : Flt) (g : MacSt → MacSt)
    (hp : f.part ∈ ps) : OnlyIn ps ks d (e.updMac f g) := h.updFl f _ hp

theorem OnlyIn.raiseFl {ps : List Part} {ks : Nat → Bool} {d e : Dev} (h : OnlyIn ps ks d e) (f : Flt) (i : EvId) (p : List Int)
    (suite : Option Nat) (hp : f.part ∈ ps) : OnlyIn ps ks d (e.raiseFl f i p suite) := h.updFl f _ hp

theorem OnlyIn.reply {ps : List Part} {ks : Nat → Bool} {d e : Dev} (h : OnlyIn ps ks d e) (f : Flt) (typ : Nat) (hd : MsgHdr) (st : Nat)
    (body : List Byte) (hp : f.part ∈ ps) : OnlyIn ps ks d (e.reply f typ hd st body) := h.updFl f _ hp

/-- A chain that leaves the enabled state or returns to it concerns the MAC and the messages of the flight (14 R387). -/
theorem takeover_keeps (d : Dev) (f : Flt) (n : Nat) :
    ((d.takeover f n).fl f).regw = (d.fl f).regw ∧ OnlyIn [f.part] noKey d (d.takeover f n) := by
  unfold Dev.takeover
  dsimp only
  split
  · exact ⟨rfl, onlyIn_refl ..⟩
  · exact ⟨by simp [Dev.raiseFl, Dev.updMac], ((onlyIn_refl ..).updMac f _ (by simp)).raiseFl f _ _ _ (by simp)⟩

theorem takeoverEnds_keeps (d : Dev) (f : Flt) (n : Nat) :
    ((d.takeoverEnds f n).fl f).regw = (d.fl f).regw ∧ OnlyIn [f.part] noKey d (d.takeoverEnds f n) :=
  ⟨by simp [Dev.takeoverEnds, Dev.updMac], (onlyIn_refl ..).updMac f _ (by simp)⟩

theorem chainChange_keeps (d : Dev) (f : Flt) (n : Nat) (g : MacSt → MacSt) :
    ((d.chainChange f n g).fl f).regw = (d.fl f).regw ∧ OnlyIn [f.part] noKey d (d.chainChange f n g) := by
  have hmac : ((d.updMac f g).fl f).regw = (d.fl f).regw := by simp [Dev.updMac]
  have hframe : OnlyIn [f.part] noKey d (d.updMac f g) := (onlyIn_refl ..).updMac f g (by simp)
  unfold Dev.chainChange
  dsimp only
  split
  · exact ⟨(takeover_keeps _ f n).1.trans hmac, hframe.trans (takeover_keeps _ f n).2⟩
  · split
    · exact ⟨(takeoverEnds_keeps _ f n).1.trans hmac, hframe.trans (takeoverEnds_keeps _ f n).2⟩
    · exact ⟨hmac, hframe⟩

/-- A request that fails its check changes no register. -/
theorem regWriteIn_refused (f : Flt) (locked : Bool) (h : MsgHdr) (region o : Nat) (vs : List W32) (d : Dev)
    (hc : (d.regCheck h.role region vs.length o).1 ≠ E_OK) :
    ∃ b, regWriteIn f locked h region o vs d = d.reply f 0x41 h (d.regCheck h.role region vs.length o).1 b := by
  simp only [regWriteIn, hc, ne_eq, not_false_eq_true, if_true]
  exact ⟨_, rfl⟩

/-- A write of a chain's enable, noted in the flight (14 R387). -/
def Dev.chainNoted (f : Flt) (d : Dev) (w : Nat × W32) : Dev :=
  match regIx w.1 LG_CHCFG 8 with
  | some n => d.chainWritten f n (w.2.getLsbD 0)
  | none => d

/-- What a write of Gallery or Loggia registers does in the flight beside its reply: it joins the writes of the scan, and what concerns a
chain's enable is noted. -/
def Dev.fieldWriteNoted (d : Dev) (f : Flt) (ws : List (Nat × W32)) : Dev :=
  ws.foldl (Dev.chainNoted f) (d.updFl f fun x => { x with regw := x.regw ++ ws })

theorem chainNoted_keeps (d : Dev) (f : Flt) (w : Nat × W32) :
    ((Dev.chainNoted f d w).fl f).regw = (d.fl f).regw ∧ OnlyIn [f.part] noKey d (Dev.chainNoted f d w) := by
  unfold Dev.chainNoted
  split
  · exact chainChange_keeps ..
  · exact ⟨rfl, onlyIn_refl ..⟩

theorem fieldWriteNoted_one_keeps (d : Dev) (f : Flt) (w : Nat × W32) :
    ((d.fieldWriteNoted f [w]).fl f).regw = (d.fl f).regw ++ [w] ∧ OnlyIn [f.part] noKey d (d.fieldWriteNoted f [w]) := by
  obtain ⟨hregw, hframe⟩ := chainNoted_keeps (d.updFl f fun x => { x with regw := x.regw ++ [w] }) f w
  exact ⟨hregw.trans (by simp), (onlyIn_updFl ..).trans hframe⟩

/-- A request for the Gallery or the Loggia that passes its check. -/
theorem regWriteIn_accepted (f : Flt) (locked : Bool) (h : MsgHdr) {region : Nat} (o : Nat) (vs : List W32) (d : Dev) (hr : 5 ≤ region)
    (hc : d.regCheck h.role region vs.length o = (E_OK, 0xFFFF)) : ∃ st b, regWriteIn f locked h region o vs d =
      (d.fieldWriteNoted f (regWords region o vs)).reply f 0x41 h st b := by
  unfold regWriteIn
  rw [hc]
  refine ⟨_, _, (if_neg fun hn => hn rfl).trans (congrArg (fun e : Dev => e.reply f 0x41 h _ _)
    ((if_neg (Nat.not_lt.mpr hr)).trans (List.foldl_ext _ _ _ fun e w _ => ?_)))⟩
  unfold Dev.chainNoted
  cases regIx w.1 LG_CHCFG 8 <;> rfl

theorem regWords_one (region o : Nat) (v : W32) : regWords region o [v] = [(region * 2 ^ 24 + o, v)] := by simp [regWords]

/-! ## The obligation -/

theorem exec_regRead (h : MsgHdr) (region count o : Nat) (s : State) : exec (.regRead h region count o) s =
    s.upd fun d => d.acceptDown h.seq fun d => d.regRead h region count o := rfl

theorem exec_regWrite (h : MsgHdr) (region o : Nat) (vs : List W32) (s : State) : exec (.regWrite h region o vs) s =
    s.upd fun d => if region = 5 then d.toNewel (FlightIn.regWrite h region o vs).down fun d => d.nwRegWrite h o vs
      else d.toFlights (.regWrite h region o vs) := rfl

/-- REG_READ and REG_WRITE at the Newel. -/
theorem regMessages_answer (s : State) (h : MsgHdr) (o : Nat) :
    let d := s.dev
    let accepted : Prop := (d.cor.down.accept h.seq).2 = true ∧ d.cor.fieldUp = true
    let told (u : Dev) (typ code : Nat) (body : List Byte) : Prop :=
      d.sentUp u ⟨typ, h.seq, code, h.suite, h.role, body, none⟩ ∧ OnlyIn [.cor, .nw] noKey d u
    (∀ region, accepted → region ≠ 3 → region ≠ 4 → d.regCheck h.role region 1 o = (E_OK, 0xFFFF) →
      Answers (.regRead h region 1 o) s fun u =>
        told u 0x40 E_OK ([255, 255, 0, 0] ++ le 4 (d.fieldRead (region * 2 ^ 24 + o)).toNat)) ∧
    (∀ region count, accepted → region ≠ 3 → region ≠ 4 → (d.regCheck h.role region count o).1 ≠ E_OK →
      Answers (.regRead h region count o) s fun u => ∃ b, told u 0x40 (d.regCheck h.role region count o).1 b) ∧
    (∀ (f : Flt) count, d.takesReads f = true →
      AnswersDev (.regRead h (3 + f.num) count o) s (d.messaged (.regRead h (3 + f.num) count o))) ∧
    (∀ (f : Flt) count, accepted → d.takesReads f = false → Answers (.regRead h (3 + f.num) count o) s fun u =>
      told u 0x40 E_PD [255, 255, 0, 0]) ∧
    (∀ region vs, region ≠ 5 → AnswersDev (.regWrite h region o vs) s (d.messaged (.regWrite h region o vs))) ∧
    (∀ vs, accepted → (d.regCheck h.role 5 vs.length o).1 ≠ E_OK → Answers (.regWrite h 5 o vs) s fun u =>
      ∃ b, told u 0x41 (d.regCheck h.role 5 vs.length o).1 b) := by
  refine ⟨fun region ha h3 h4 hc => ?_, fun region count ha h3 h4 hc => ?_, fun f count ht => 
    answersDev_of_upd (exec_regRead ..) (regRead_taken h count o ht),
    fun f count ha ht => ?_, fun region vs hr => ?_, fun vs ha hc => ?_⟩
  · obtain ⟨i, q, hk⟩ := regRead_newel (region := region) 1 o ha.1 h3 h4
    refine answers_of_upd (exec_regRead ..) ?_
    have hr := regReadNow_one (s.dev.keptFrame h.seq i q) h region o ((keptFrame_regCheck ..).trans hc)
    rw [keptFrame_fieldRead] at hr
    rw [hk, hr]
    exact keptFrame_told s.dev h.seq i q ha.2 ..
  · obtain ⟨i, q, hk⟩ := regRead_newel (region := region) count o ha.1 h3 h4
    obtain ⟨b, hb⟩ := regReadNow_refused (s.dev.keptFrame h.seq i q) h region count o (by rwa [keptFrame_regCheck])
    rw [keptFrame_regCheck] at hb
    refine answers_of_upd (exec_regRead ..) ?_
    rw [hk, hb]
    exact ⟨b, keptFrame_told s.dev h.seq i q ha.2 ..⟩
  · obtain ⟨i, q, hk⟩ := regRead_untaken count o ha.1 ht
    refine answers_of_upd (exec_regRead ..) ?_
    rw [hk]
    exact keptFrame_told s.dev h.seq i q ha.2 ..
  · exact answersDev_of_upd (exec_regWrite ..) ((if_neg hr).trans (toFlights_eq_messaged ..))
  · obtain ⟨i, q, hk⟩ := acceptDown_corFrame ha.1 (FlightIn.regWrite h 5 o vs).down fun d => d.nwRegWrite h o vs
    have hw : (s.dev.keptFrame h.seq i q).nwRegWrite h o vs = (s.dev.keptFrame h.seq i q).replyNow 0x41 h
        (s.dev.regCheck h.role 5 vs.length o).1 (regBody (s.dev.regCheck h.role 5 vs.length o).2 []) := by
      simp only [Dev.nwRegWrite, keptFrame_regCheck, hc, ne_eq, not_false_eq_true, if_true]
    refine answers_of_upd (exec_regWrite ..) ?_
    have hs : s.dev.toNewel (FlightIn.regWrite h 5 o vs).down (fun d => d.nwRegWrite h o vs) = (s.dev.keptFrame h.seq i q).nwRegWrite h o vs := hk
    rw [hs, hw]
    exact ⟨_, keptFrame_told s.dev h.seq i q ha.2 ..⟩

/-- Settles O33: the messages at the Newel, then a flight's part at its snapshot. -/
theorem fieldRegisterMessages : Obligations.FieldRegisterMessages := by
  unfold Obligations.FieldRegisterMessages
  refine ⟨regMessages_answer, fun d f h o region locked => ⟨fun v hr hc => ?_, fun vs hc => ?_, fun count hr => if_neg hr, fun hr hu hc => ?_⟩⟩
  · obtain ⟨st, b, hw⟩ := regWriteIn_accepted f locked h o [v] d (by omega) hc
    rw [regWords_one] at hw
    obtain ⟨hregw, hframe⟩ := fieldWriteNoted_one_keeps d f (region * 2 ^ 24 + o, v)
    simp only [Dev.applyIn]
    rw [hw, reply_fl]
    exact ⟨hregw, hframe.reply f _ _ _ _ (by simp)⟩
  · obtain ⟨b, hw⟩ := regWriteIn_refused f locked h region o vs d hc
    simp only [Dev.applyIn]
    rw [hw, reply_fl]
    exact ⟨rfl, (onlyIn_refl ..).reply f _ _ _ _ (by simp)⟩
  · have hread : Dev.applyIn f locked d (.regRead h region 1 o) = d.regReadNow h region 1 o := if_pos hr
    rw [hread, regReadNow_one _ _ _ _ hc]
    exact replyNow_sentUp rfl rfl hu ..

end Sys2Proof.Machine
end

section
/-! O34: TASK_ENABLE, SCHEDULE_ENABLE and RETAIN_FULL as frames of the cycle, and the registers that a flight writes at its snapshot (06 R156,
R167, R176, R182; 10 R282). -/

namespace Sys2Proof.Machine

/-- Bit i of the number of a word is the word's bit i. -/
theorem bitOf_toNat (v : W32) (i : Nat) : bitOf v.toNat i = v.getLsbD i := by
  simp [bitOf, BitVec.getLsbD, Nat.testBit_eq_decide_div_mod_eq]

/-! ## Events of a list of causes -/

/-- The events that a flight raises one after another join its messages in that order, and nothing else changes. -/
theorem raiseFl_foldl {α : Type} (f : Flt) (i : EvId) (p : α → List Int) (l : List α) (d : Dev) :
    l.foldl (fun d b => d.raiseFl f i (p b)) d = d.updFl f fun x => { x with msgs := x.msgs ++ l.map fun b => evMsg ⟨i, f.region, none, p b⟩ } := by
  induction l generalizing d with
  | nil => cases f <;> simp [Dev.updFl]
  | cons b t ih => rw [List.foldl_cons, ih]; cases f <;> simp [Dev.raiseFl, Dev.updFl]

/-! ## The writes -/

theorem taskEnWrite_eq (d : Dev) (f : Flt) (i : Nat) (v : W32) {x : Fld} (hx : x = if i = 0 then FL_TASKEN0_EN else FL_TASKEN1_EN) :
    d.taskEnWrite f i v = (d.put (x.at f) v.toNat).updFl f fun y => { y with
      msgs := y.msgs ++ ((List.range 32).filter fun b => bitOf (d.get (x.at f)) b != v.getLsbD b).map fun b =>
        evMsg ⟨.flTaskEnable, f.region, none, [((32 * i + b : Nat) : Int), ((b2n (v.getLsbD b) : Nat) : Int)]⟩ } := by
  subst hx
  exact raiseFl_foldl f .flTaskEnable (fun b => [((32 * i + b : Nat) : Int), ((b2n (v.getLsbD b) : Nat) : Int)]) _ _

/-- A catch-up is due of a schedule that the written word enables, where it was not enabled or was due already; schedules of other words stay. -/
theorem mem_schedEnWrite_enDue (d : Dev) (f : Flt) (n : Nat) (v : W32) (j : Nat) :
    (j ∈ ((d.schedEnWrite f n v).fl f).sch.enDue ↔
      (j ∈ (d.fl f).sch.enDue ∨ ∃ i < 32, v.getLsbD i = true ∧ bitOf (d.get ((FL_SCHEDEN_EN.ix n).at f)) i = false ∧ 32 * n + i = j) ∧
        ∀ i < 32, v.getLsbD i = false → 32 * n + i ≠ j) := by
  simp [Dev.schedEnWrite, Dev.updSch, bitOf_toNat, and_assoc, or_and_right]

theorem onlyIn_schedEnWrite (d : Dev) (f : Flt) (n : Nat) (v : W32) :
    OnlyIn [f.part] (fun k => k == ((FL_SCHEDEN_EN.ix n).at f).key) d (d.schedEnWrite f n v) :=
  ((onlyIn_refl ..).put _ (by simp)).updFl f _ (by simp)

theorem word_field_ok (k : Nat) : (⟨k, 31, 0⟩ : Fld).ok = true := rfl

/-- A register of one word reads back what was put into it. -/
theorem get_put_word (d : Dev) (k : Nat) (v : W32) : (d.put ⟨k, 31, 0⟩ v.toNat).get ⟨k, 31, 0⟩ = v.toNat :=
  get_put_same d _ _ (word_field_ok k) v.isLt

/-! ## The obligation -/

theorem taskEnable_applied (d : Dev) (f : Flt) (locked : Bool) {n : Nat} (v : W32) (x : Fld)
    (hx : x = (if n = 0 then FL_TASKEN0_EN else FL_TASKEN1_EN)) (hn : n < 2) :
    let u := Dev.applyIn f locked d (.taskEnable n v)
    u.get (x.at f) = v.toNat ∧
      (u.fl f).msgs = (d.fl f).msgs ++ ((List.range 32).filter fun b => bitOf (d.get (x.at f)) b != v.getLsbD b).map (fun b =>
        evMsg ⟨.flTaskEnable, f.region, none, [((32 * n + b : Nat) : Int), ((b2n (v.getLsbD b) : Nat) : Int)]⟩) ∧
      (u.fl f).pts = (d.fl f).pts ∧ OnlyIn [f.part] (fun k => k == (x.at f).key) d u := by
  have hu : Dev.applyIn f locked d (.taskEnable n v) = d.taskEnWrite f n v := if_pos hn
  have hword : x.at f = ⟨(x.at f).key, 31, 0⟩ := by subst hx; by_cases h0 : n = 0 <;> simp [h0] <;> rfl
  have hget : (d.put (x.at f) v.toNat).get (x.at f) = v.toNat := by rw [hword]; exact get_put_word ..
  simp only [hu, taskEnWrite_eq d f n v hx, updFl_fl]
  exact ⟨by simpa using hget, by simp, by simp, ((onlyIn_refl ..).put _ (by simp)).updFl f _ (by simp)⟩

theorem scheduleEnable_applied (d : Dev) (f : Flt) (locked : Bool) {n : Nat} (v : W32) (x : Fld) (hx : x = FL_SCHEDEN_EN.ix n) (hn : n < 8) :
    let u := Dev.applyIn f locked d (.scheduleEnable n v)
    u.get (x.at f) = v.toNat ∧
      (∀ i, i < 32 → (32 * n + i ∈ (u.fl f).sch.enDue ↔ v.getLsbD i = true ∧
        (bitOf (d.get (x.at f)) i = false ∨ 32 * n + i ∈ (d.fl f).sch.enDue))) ∧
      (∀ j, j / 32 ≠ n → (j ∈ (u.fl f).sch.enDue ↔ j ∈ (d.fl f).sch.enDue)) ∧
      (u.fl f).pts = (d.fl f).pts ∧ OnlyIn [f.part] (fun k => k == (x.at f).key) d u := by
  have hu : Dev.applyIn f locked d (.scheduleEnable n v) = d.schedEnWrite f n v := if_pos hn
  have hget : (d.put (x.at f) v.toNat).get (x.at f) = v.toNat := by subst hx; exact get_put_word ..
  subst hx
  simp only [hu]
  refine ⟨by simpa [Dev.schedEnWrite, Dev.updSch] using hget, fun i hi => ?_, fun j hj => ?_, by simp [Dev.schedEnWrite, Dev.updSch],
    onlyIn_schedEnWrite d f n v⟩
  · rw [mem_schedEnWrite_enDue]
    have same : ∀ a : Nat, 32 * n + a = 32 * n + i ↔ a = i := fun a => by omega
    simp only [same, ne_eq]
    constructor
    · rintro ⟨hold | ⟨a, -, hv, ho, rfl⟩, hoff⟩
      · exact ⟨by simpa using fun hv => hoff i hi hv rfl, .inr hold⟩
      · exact ⟨hv, .inl ho⟩
    · rintro ⟨hv, ho⟩
      refine ⟨ho.symm.imp_right fun ho => ⟨i, hi, hv, ho, rfl⟩, fun a _ ha hai => ?_⟩
      rw [hai, hv] at ha
      cases ha
  · rw [mem_schedEnWrite_enDue]
    have other : ∀ i < 32, 32 * n + i ≠ j := fun i hi hij => hj (by omega)
    exact ⟨fun h => h.1.resolve_right fun ⟨i, hi, _, _, hij⟩ => other i hi hij, fun h => ⟨.inl h, fun i hi _ => other i hi⟩⟩

theorem retainFull_applied (d : Dev) (f : Flt) (locked : Bool) :
    let u := Dev.applyIn f locked d .retainFull
    u.bit (FL_RETAIN_FULL.at f) = true ∧ (u.fl f).fullAgain = ((d.fl f).inScan && (d.fl f).fullDue) ∧
      (u.fl f).mirror = (d.fl f).mirror ∧ OnlyIn [f.part] (fun k => k == f.key FL_RETAIN) d u := by
  have hbit : (d.put (FL_RETAIN_FULL.at f) 1).bit (FL_RETAIN_FULL.at f) = true :=
    bit_put_same d (FL_RETAIN_FULL.at f) 1 (by cases f <;> rfl) (by cases f <;> decide)
  refine ⟨?_, ?_, ?_, ?_⟩
  · simpa [Dev.applyIn, Dev.retainFull] using hbit
  · simp [Dev.applyIn, Dev.retainFull]
  · simp [Dev.applyIn, Dev.retainFull]
  · exact ((onlyIn_refl ..).put (x := FL_RETAIN_FULL.at f) 1 (by simp [Fld.at, FL_RETAIN_FULL])).updFl f _ (by simp)

/-- Settles O34: each write as a frame of the cycle, then the flight's part at its snapshot. -/
theorem enablesWrittenAtASnapshot : Obligations.EnablesWrittenAtASnapshot := by
  unfold Obligations.EnablesWrittenAtASnapshot
  refine ⟨fun s n v => ⟨answersDev_arrived rfl, answersDev_arrived rfl, answersDev_arrived rfl⟩, fun d f locked n v => ⟨?_, ?_, ?_, ?_, ?_⟩⟩
  · exact fun x hx hn => taskEnable_applied d f locked v x hx hn
  · exact fun x hx hn => scheduleEnable_applied d f locked v x hx hn
  · exact retainFull_applied d f locked
  · exact fun hn => if_neg (Nat.not_lt.mpr hn)
  · exact fun hn => if_neg (Nat.not_lt.mpr hn)

end Sys2Proof.Machine
end

section
/-! O25: arrivals at the ingress buffer, the delivery of a batch, acknowledgements, reported faults and TIME_MAP (chapters 01, 03, 04, 15). -/

namespace Sys2Proof.Machine

/-! ## Arrivals (01 R30) -/

/-- An arrival for which there is room joins the ingress. -/
theorem ingress_fits (d : Dev) (fr : InFrame) (h : d.fits fr) : d.ingress fr = d.updNw fun n => { n with ingress := n.ingress ++ [fr] } :=
  if_pos h

theorem any_isSample {l : List InFrame} {port : Nat} : l.any (isSample port) = true ↔ ∃ g ∈ l, g.kind = 0x04 ∧ g.port = port := by
  simp [isSample]

/-- With the buffer full, a frame that replaces none waits at its source. -/
theorem ingress_waits (d : Dev) (fr : InFrame) (hfull : 262144 < d.nw.buffered + fr.bytes)
    (h : fr.kind ≠ 0x04 ∨ ∀ g ∈ d.nw.carried ++ d.nw.ingress, g.kind = 0x04 → g.port ≠ fr.port) :
    d.ingress fr = d.updNw fun n => { n with source := n.source ++ [fr] } := by
  have hroom : ¬(d.nw.buffered + fr.bytes ≤ ingressCap ∧ d.nw.source = []) := fun hr => absurd hr.1 (Nat.not_le.mpr hfull)
  have hold : ¬(fr.kind = 0x04 ∧ (d.nw.carried ++ d.nw.ingress).any (isSample fr.port) = true) := fun ⟨hk, ha⟩ => by
    obtain ⟨g, hg, hgk, hgp⟩ := any_isSample.mp ha
    exact h.elim (fun hn => hn hk) fun hn => hn g hg hgk hgp
  rw [Dev.ingress, if_neg hroom, if_neg hold]

/-- With the buffer full, a sample block replaces the unreleased one of its port. -/
theorem ingress_replaces (d : Dev) (fr : InFrame) (hk : fr.kind = 0x04) (hfull : 262144 < d.nw.buffered + fr.bytes)
    (h : ∃ g ∈ d.nw.carried ++ d.nw.ingress, g.kind = 0x04 ∧ g.port = fr.port) : d.ingress fr = d.coalesce fr := by
  have hroom : ¬(d.nw.buffered + fr.bytes ≤ ingressCap ∧ d.nw.source = []) := fun hr => absurd hr.1 (Nat.not_le.mpr hfull)
  rw [Dev.ingress, if_neg hroom, if_pos ⟨hk, any_isSample.mpr h⟩]

/-- A send of the Newel changes at most what it keeps (01 R42). -/
theorem sendUp_nw (d : Dev) (m : UpMsg) : ∃ k c r, (d.sendUp m).nw = { d.nw with kept := k, keptCounts := c, keptMirror := r } := by
  rcases sendUp_cases d m with ⟨-, h⟩ | ⟨-, k, c, r, h⟩
  · exact ⟨d.nw.kept, d.nw.keptCounts, d.nw.keptMirror, by rw [h]; rfl⟩
  · exact ⟨k, c, r, by rw [h]; rfl⟩

/-- The report of the replacements leaves the buffer alone, and the count stays or is cleared. -/
theorem coalesced_keeps (d : Dev) : d.coalesced.nw.ingress = d.nw.ingress ∧ d.coalesced.nw.carried = d.nw.carried ∧
    d.coalesced.nw.source = d.nw.source ∧ (d.coalesced.nw.coalesced = d.nw.coalesced ∨ d.coalesced.nw.coalesced = 0) ∧
    OnlyIn [.nw, .cor] noKey d d.coalesced := by
  unfold Dev.coalesced
  split
  · have hframe : OnlyIn [.nw, .cor] noKey d (((d.updNw fun x => { x with coalAt := some x.cycle, coalesced := 0 }).raiseNw
        (.mk' .nwSampleCoalesced [d.nw.coalesced]))) := ((onlyIn_refl ..).updNw _ (by decide)).sendUp _ (by decide) (by decide)
    obtain ⟨k, c, r, hnw⟩ := sendUp_nw (d.updNw fun x => { x with coalAt := some x.cycle, coalesced := 0 })
      (evMsg (.mk' .nwSampleCoalesced [d.nw.coalesced]))
    unfold Dev.raiseNw
    rw [hnw]
    exact ⟨rfl, rfl, rfl, .inr rfl, hframe⟩
  · exact ⟨rfl, rfl, rfl, .inl rfl, onlyIn_refl ..⟩

/-- A list of frames with the unreleased block of a port replaced. -/
def replacedSample (fr : InFrame) (l : List InFrame) : List InFrame := l.map fun g => if g.kind = 0x04 ∧ g.port = fr.port then fr else g

theorem coalesce_replaces (d : Dev) (fr : InFrame) : (d.coalesce fr).nw.ingress = replacedSample fr d.nw.ingress ∧
    (d.coalesce fr).nw.carried = replacedSample fr d.nw.carried ∧ (d.coalesce fr).nw.source = d.nw.source ∧
    ((d.coalesce fr).nw.coalesced = d.nw.coalesced + 1 ∨ (d.coalesce fr).nw.coalesced = 0) ∧ OnlyIn [.nw, .cor] noKey d (d.coalesce fr) := by
  have hput : ∀ l : List InFrame, (l.map fun x => if isSample fr.port x then fr else x) = replacedSample fr l := fun l =>
    List.map_congr_left fun x _ => by simp [isSample]
  obtain ⟨hi, hc, hs, hn, hframe⟩ := coalesced_keeps (d.updNw fun n => { n with
    ingress := replacedSample fr n.ingress, carried := replacedSample fr n.carried, coalesced := n.coalesced + 1 })
  simp only [Dev.coalesce, hput]
  exact ⟨hi, hc, hs, hn, ((onlyIn_refl ..).updNw _ (by decide)).trans hframe⟩

/-! ## Delivery of a batch (01 R31, R32) -/

/-- A flight that follows takes the first number of a batch. -/
theorem expect_follows (x : FlightSt) (fr gr : Frame) (h : x.nextNo = 0 ∨ x.nextNo = fr.number) : x.expect [fr, gr] = fr.number := by
  unfold FlightSt.expect
  split
  · rfl
  · exact h.resolve_left ‹_›

theorem takeFrames_good (fr gr : Frame) (h : gr.number = fr.number + 1) :
    takeFrames none 0 fr.number [fr, gr] = ([fr, gr], gr.number + 1, false) := by simp [takeFrames, h]

/-- The frames before the one whose check fails are taken, and the fault shows. -/
theorem takeFrames_bad (fr gr : Frame) {b : Nat} (hb : b < 2) :
    ∃ n, takeFrames (some b) 0 fr.number [fr, gr] = ([fr].take b, n, true) := by
  interval_cases b <;> simp [takeFrames]

/-- A batch that a flight awaits, taken as far as its check goes. -/
theorem deliver_taken (d : Dev) (f : Flt) (bad : Option Nat) (hdue : d.nw.batchDue.contains f.num = true) (hbad : (d.fl f).frameBad = false)
    {l : List Frame} {n : Nat} {e : Bool} (h : takeFrames bad 0 ((d.fl f).expect d.nw.batch) d.nw.batch = (l, n, e)) :
    d.deliver f bad = if e then (d.updFl f fun x => { x with frames := x.frames ++ l, nextNo := n, frameBad := true }).report f 0x07
      else d.updFl f fun x => { x with frames := x.frames ++ l, nextNo := n, frameBad := false, lastBatch := d.nw.cycle } := by
  simp only [Dev.deliver, hdue, hbad, h, Bool.not_true, Bool.or_self, Bool.false_eq_true, if_false]
  cases e <;> rfl

theorem report_fl (d : Dev) (f g : Flt) (code : Nat) : (d.report f code).fl g = d.fl g := by cases g <;> rfl

theorem OnlyIn.report {ps : List Part} {ks : Nat → Bool} {d e : Dev} (h : OnlyIn ps ks d e) (f : Flt) (code : Nat) (hp : .nw ∈ ps) :
    OnlyIn ps ks d (e.report f code) := h.updNw _ hp

theorem batchDelivered_answers (s : State) (f : Flt) (fr gr : Frame) (hb : s.dev.nw.batch = [fr, gr]) (hg : gr.number = fr.number + 1)
    (hdue : s.dev.nw.batchDue.contains f.num = true) (hx : (s.dev.fl f).nextNo = 0 ∨ (s.dev.fl f).nextNo = fr.number)
    (hbad : (s.dev.fl f).frameBad = false) :
    (Answers (.batchDelivered f none) s fun u => (u.fl f).frames = (s.dev.fl f).frames ++ [fr, gr] ∧
      (u.fl f).nextNo = gr.number + 1 ∧ (u.fl f).lastBatch = s.dev.nw.cycle ∧ u.nw = s.dev.nw ∧ OnlyIn [f.part] noKey s.dev u) ∧
    (∀ b < 2, Answers (.batchDelivered f (some b)) s fun u => (u.fl f).frames = (s.dev.fl f).frames ++ [fr].take b ∧
      (u.fl f).frameBad = true ∧ (u.fl f).lastBatch = (s.dev.fl f).lastBatch ∧ u.nw.faults = s.dev.nw.faults ++ [(f.num, 0x07)] ∧
      OnlyIn [f.part, .nw] noKey s.dev u) := by
  have hexp : (s.dev.fl f).expect s.dev.nw.batch = fr.number := by rw [hb]; exact expect_follows _ fr gr hx
  refine ⟨answers_of_upd (g := fun d => d.deliver f none) rfl ?_, fun b hlt => answers_of_upd (g := fun d => d.deliver f (some b)) rfl ?_⟩
  · have htake : takeFrames none 0 ((s.dev.fl f).expect s.dev.nw.batch) s.dev.nw.batch = ([fr, gr], gr.number + 1, false) := by
      rw [hexp, hb]; exact takeFrames_good fr gr hg
    rw [deliver_taken s.dev f none hdue hbad htake]
    simp [onlyIn_updFl]
  · obtain ⟨n, hbads⟩ := takeFrames_bad fr gr hlt
    have htake : takeFrames (some b) 0 ((s.dev.fl f).expect s.dev.nw.batch) s.dev.nw.batch = ([fr].take b, n, true) := by
      rw [hexp, hb]; exact hbads
    rw [deliver_taken s.dev f (some b) hdue hbad htake]
    have hframe : OnlyIn [f.part, .nw] noKey s.dev ((s.dev.updFl f fun x => { x with
        frames := x.frames ++ [fr].take b, nextNo := n, frameBad := true }).report f 0x07) :=
      ((onlyIn_refl ..).updFl f _ (by simp)).report f _ (by simp)
    rw [if_pos rfl, report_fl, updFl_fl]
    exact ⟨rfl, rfl, rfl, by simp [Dev.report], hframe⟩

/-! ## Reported faults (03 R70; 04 R98, R99) -/

/-- What a fault of a flight does beside the record of the word. -/
theorem selfFault_none_eq (d : Dev) (f : Flt) (code t : Nat) : d.selfFault f code t none =
    if code = 4 then d.haltTread f t
    else if code = 5 then (d.updFl f fun x => { x with enf := { x.enf with due := none } }).report f 5
    else d.report f code := by
  by_cases h4 : code = 4
  · subst h4; rfl
  · by_cases h5 : code = 5
    · subst h5; rfl
    · unfold Dev.selfFault
      simp [h4, h5]

/-- A fault of another agent than those that meet a word records none. -/
theorem selfFault_other (d : Dev) (f : Flt) (code t : Nat) (p : Option (Nat × Nat)) (h : code < 3 ∨ 6 < code) :
    d.selfFault f code t p = d.report f code := by
  have ha : faultAgent code = none := if_neg (by omega)
  have hp : d.selfFault f code t p = d.selfFault f code t none := by
    unfold Dev.selfFault
    rw [ha]
    cases p <;> rfl
  rw [hp, selfFault_none_eq, if_neg (by omega), if_neg (by omega)]

/-- The word met is recorded before the fault waits. -/
theorem selfFault_met (d : Dev) (f : Flt) (code t pb w : Nat) (h3 : 3 ≤ code) (h6 : code ≤ 6) :
    d.selfFault f code t (some (pb, w)) = (d.uncorrected (.fl f) pb w (code - 3)).selfFault f code t none := by
  have ha : faultAgent code = some (code - 3) := if_pos ⟨h3, h6⟩
  unfold Dev.selfFault
  rw [ha]

/-- Beside the record of the word, a fault of a flight touches no register and waits for the boundary. -/
theorem selfFault_none_reported (d : Dev) (f : Flt) (code t : Nat) :
    (d.selfFault f code t none).regs = d.regs ∧ (d.selfFault f code t none).nw.faults = d.nw.faults ++ [(f.num, code)] := by
  rw [selfFault_none_eq]
  split
  · simp [Dev.haltTread, Dev.report, *]
  · split <;> simp [Dev.report, *]

theorem haltTread_halts (d : Dev) (f : Flt) (t : Nat) : ((d.haltTread f t).tread f t).halted = true ∧
    ((d.haltTread f t).tread f t).running = false ∧ (d.haltTread f t).nw.faults = d.nw.faults ++ [(f.num, 4)] ∧
    OnlyIn [f.part, .nw] noKey d (d.haltTread f t) := by
  have htread : (d.haltTread f t).tread f t = { d.tread f t with halted := true, running := false } := by
    simp [Dev.haltTread, Dev.tread, report_fl, Dev.updTread, mupd]
  rw [htread]
  refine ⟨rfl, rfl, by simp [Dev.haltTread, Dev.report], ?_⟩
  exact (((onlyIn_refl ..).updFl f _ (by simp)).updFl f _ (by simp)).report f _ (by simp)

theorem get_congr {d e : Dev} (h : d.regs = e.regs) (x : Fld) : d.get x = e.get x := by simp only [Dev.get, Dev.rd, h]

theorem uncorrected_nw (d : Dev) (m : Mem) (pb w ag : Nat) : (d.uncorrected m pb w ag).nw = d.nw := by
  simp [Dev.uncorrected, Dev.errAddr]

/-- The record of an uncorrectable word of a flight names the word and the agent. -/
theorem uncorrected_fl (d : Dev) (f : Flt) {pb w ag : Nat} (hp : pb < 64) (hw : w < 32768) (ha : ag < 8) :
    let u := d.uncorrected (.fl f) pb w ag
    u.get (FL_ERRADDR_PBANK.at f) = pb ∧ u.get (FL_ERRADDR_WORD.at f) = w ∧ u.bit (FL_ERRADDR_UE.at f) = true ∧
      u.get (FL_ERRADDR_AGENT.at f) = ag := by
  simp only [Dev.uncorrected, Dev.errAddr, Mem.fld]
  cases f
  all_goals
    refine ⟨?_, ?_, ?_, get_put_same _ _ _ rfl ha⟩
    · rw [get_put_other _ _ _ _ rfl rfl rfl, get_put_other _ _ _ _ rfl rfl rfl, get_put_other _ _ _ _ rfl rfl rfl, get_put_same _ _ _ rfl hp]
    · rw [get_put_other _ _ _ _ rfl rfl rfl, get_put_other _ _ _ _ rfl rfl rfl, get_put_same _ _ _ rfl hw]
    · rw [bit_put_other _ _ _ _ rfl rfl rfl, bit_put_same _ _ _ rfl (by decide)]; rfl

theorem faultReport_answers (s : State) (f : Flt) {c t : Nat} {p : Option (Nat × Nat)} {d : Dev} (h : s.dev.selfFault f c t p = d) :
    AnswersDev (.flightFaultReport f c t p) s d := answersDev_of_upd (g := fun d => d.selfFault f c t p) rfl h

theorem faultReport_met (s : State) (f : Flt) (code t pb w : Nat) (h3 : 3 ≤ code) (h6 : code ≤ 6) (hp : pb < 64) (hw : w < 32768) :
    Answers (.flightFaultReport f code t (some (pb, w))) s fun u =>
      u.get (FL_ERRADDR_PBANK.at f) = pb ∧ u.get (FL_ERRADDR_WORD.at f) = w ∧ u.bit (FL_ERRADDR_UE.at f) = true ∧
        u.get (FL_ERRADDR_AGENT.at f) = code - 3 ∧ u.nw.faults = s.dev.nw.faults ++ [(f.num, code)] := by
  refine answers_of_upd (g := fun d => d.selfFault f code t (some (pb, w))) rfl ?_
  rw [selfFault_met _ _ _ _ _ _ h3 h6]
  obtain ⟨hpb, hword, hue, hag⟩ := uncorrected_fl s.dev f hp hw (show code - 3 < 8 by omega)
  obtain ⟨hregs, hfaults⟩ := selfFault_none_reported (s.dev.uncorrected (.fl f) pb w (code - 3)) f code t
  rw [uncorrected_nw] at hfaults
  have hget := get_congr hregs
  rw [hget, hget, hget, Dev.bit, hget]
  exact ⟨hpb, hword, hue, hag, hfaults⟩

/-! ## TIME_MAP (01 R33; 15 R406, R407) -/

/-- A map later than the last one, where none waits, is kept for the next batch. -/
theorem mapArrives_later (d : Dev) (m : TimeMap) (hn : d.nw.newMap = none) (hl : ∀ l, d.nw.lastMap = some l → l.c < m.c) :
    d.mapArrives m = d.updNw fun n => { n with sinceMap := 0, synth := false, newMap := some m, lastMap := some m } := by
  unfold Dev.mapArrives
  cases hlast : d.nw.lastMap with
  | none => simp [hn, Dev.updNw]
  | some l => simp [hn, Dev.updNw, Nat.not_le.mpr (hl l hlast)]

/-- A synthesised map extrapolates the last one. -/
theorem synthMap_extrapolates (d : Dev) (m : TimeMap) (c : Nat) :
    (d.synthMap m c).ns * 2 ^ 32 + (d.synthMap m c).frac = m.ns * 2 ^ 32 + m.frac + (c - m.c) * (m.len * 2 ^ 32 + m.lenFrac) :=
  Nat.div_add_mod' _ _

/-! ## The obligation -/

/-- Settles O25. -/
theorem arrivalsAcknowledgementsAndReportsWaitForTheBoundary : Obligations.ArrivalsAcknowledgementsAndReportsWaitForTheBoundary := by
  unfold Obligations.ArrivalsAcknowledgementsAndReportsWaitForTheBoundary
  refine fun s f => ⟨fun fr hfit => ?_, fun fr hold hfull => ?_, fun fr hk hold hfull => ?_, fun fr gr hb hg hdue hx hbad => ?_, fun hack => ?_,
    fun code t p hc => faultReport_answers s f (selfFault_other _ _ _ _ _ hc), fun t => ⟨?_, ?_, ?_, ?_⟩,
    fun code t pb w h3 h6 hp hw => faultReport_met s f code t pb w h3 h6 hp hw, answersDev_of_upd (g := fun d => d.report f 0x01) rfl rfl, ?_, fun q m hq hn hl => ?_,
    fun m hm h4 => ?_⟩
  · exact answersDev_of_upd (g := fun d => d.ingress fr) rfl (ingress_fits _ _ hfit)
  · exact answersDev_of_upd (g := fun d => d.ingress fr) rfl (ingress_waits _ _ hfull hold)
  · refine answers_of_upd (g := fun d => d.ingress fr) rfl ?_
    rw [ingress_replaces _ _ hk hfull hold]
    exact coalesce_replaces s.dev fr
  · exact batchDelivered_answers s f fr gr hb hg hdue hx hbad
  · exact answersDev_of_upd (g := fun d => d.updNw fun n => { n with acked := if n.acked.contains f.num then n.acked else n.acked ++ [f.num] })
      rfl (by simp [Dev.updNw, hack])
  · exact faultReport_answers s f rfl
  · exact faultReport_answers s f rfl
  · exact answers_of_upd (g := fun d => d.selfFault f 4 t none) rfl (haltTread_halts s.dev f t)
  · exact faultReport_answers s f rfl
  · exact answersDev_of_upd (g := fun d => (d.report .a 0x01).report .b 0x01) rfl (by simp [Dev.report, Dev.updNw, Flt.num])
  · refine answers_of_upd (g := fun d => d.acceptDown q fun d => d.mapArrives m) rfl ?_
    have hkeep := mapArrives_later (s.dev.updCor fun c => { c with down := (s.dev.cor.down.accept q).1 }) m hn hl
    rw [acceptDown_accepted _ _ _ hq, hkeep]
    exact ⟨rfl, rfl, rfl, ((onlyIn_refl ..).updCor _ (by decide)).updNw _ (by decide)⟩
  · refine answers_of_upd (g := fun d => match d.nw.lastMap with
      | some m => if 4 ≤ d.nw.sinceMap then d.updNw fun n => { n with newMap := some (d.synthMap m (n.cycle + 1)), synth := true } else d
      | none => d) rfl ?_
    simp only [hm, if_pos h4]
    exact ⟨⟨_, rfl, rfl, rfl, rfl, rfl, synthMap_extrapolates s.dev m _⟩, rfl, onlyIn_updNw ..⟩

end Sys2Proof.Machine
end

section
/-! Carriers of the Foyer's messages leave the sessions alone: memory words, alcoves, landings and records (16 R429 to R437, R442; 03 R68 to R81). -/

namespace Sys2Proof.Machine

/-! ## Memory words -/

@[simp] theorem updMem_fmp (d : Dev) (m : Mem) (g : FoyMemSt → FoyMemSt) : (d.updMem m g).fmp = d.fmp := by cases m <;> simp [Dev.updMem]
@[simp] theorem setWord_fmp (d : Dev) (m : Mem) (pb w : Nat) (i : WordInfo) : (d.setWord m pb w i).fmp = d.fmp := by simp [Dev.setWord]
@[simp] theorem raiseMem_fmp (d : Dev) (m : Mem) (i j : EvId) (p : List Int) : (d.raiseMem m i j p).fmp = d.fmp := by
  cases m <;> simp [Dev.raiseMem, Dev.raiseFlNow]
@[simp] theorem errAddr_fmp (d : Dev) (m : Mem) (pb w ue ag : Nat) : (d.errAddr m pb w ue ag).fmp = d.fmp := by simp [Dev.errAddr]
@[simp] theorem evacStart_fmp (d : Dev) (m : Mem) (lb dest : Nat) (t : Bool) : (d.evacStart m lb dest t).fmp = d.fmp := by
  simp [Dev.evacStart]

@[simp] theorem evacDue_fmp (d : Dev) (m : Mem) (pb : Nat) : (d.evacDue m pb).fmp = d.fmp := by
  unfold Dev.evacDue
  split
  · split <;> simp
  · rfl

@[simp] theorem ceRate_fmp (d : Dev) (m : Mem) (pb : Nat) : (d.ceRate m pb).fmp = d.fmp := by
  unfold Dev.ceRate
  dsimp only
  split
  · rfl
  · split <;> simp

@[simp] theorem corrected_fmp (d : Dev) (m : Mem) (pb w ag : Nat) : (d.corrected m pb w ag).fmp = d.fmp := by simp [Dev.corrected]

@[simp] theorem eccWindow_fmp (d : Dev) (m : Mem) (pb w x : Nat) : (d.eccWindow m pb w x).fmp = d.fmp := by
  unfold Dev.eccWindow
  dsimp only
  split <;> simp

@[simp] theorem stored_fmp (d : Dev) (m : Mem) (pb w : Nat) (h : Nat × Nat) (x : Nat) : (d.stored m pb w h x).fmp = d.fmp := by
  unfold Dev.stored
  dsimp only
  split
  · split <;> simp
  · simp

@[simp] theorem writeWord_fmp (d : Dev) (m : Mem) (pb w : Nat) (full : Bool) (master x : Nat) :
    (d.writeWord m pb w full master x).1.fmp = d.fmp := by
  unfold Dev.writeWord
  dsimp only
  split
  · simp
  · cases full <;> simp
  · split
    · split <;> simp
    · simp

/-! ## Alcoves, landings and records -/

@[simp] theorem windowWord_fmp (d : Dev) (master off : Nat) (bs : List Byte) : (d.windowWord master off bs).1.fmp = d.fmp := by
  unfold Dev.windowWord
  dsimp only
  split <;> simp [Dev.windowWrite]

@[simp] theorem windowPut_fmp (k : Nat) (d : Dev) (master off : Nat) (bs : List Byte) : (d.windowPut k master off bs).1.fmp = d.fmp := by
  induction k generalizing d off bs with
  | zero => rfl
  | succ k ih =>
    unfold Dev.windowPut
    split
    · rfl
    · simp [ih]

@[simp] theorem portSource_fmp (d : Dev) (n : Nat) : (d.portSource n).fmp = d.fmp := by
  unfold Dev.portSource
  split <;> simp

@[simp] theorem alcTag_fmp (d : Dev) (a tag : Nat) : (d.alcTag a tag).1.fmp = d.fmp := by
  unfold Dev.alcTag
  split
  · rfl
  · split
    · rfl
    · split <;> simp

@[simp] theorem alcNext_fmp (d : Dev) (a : Nat) : (d.alcNext a).fmp = d.fmp := by
  unfold Dev.alcNext
  split
  · rfl
  · split <;> simp

@[simp] theorem ldShow_fmp (d : Dev) (n : Nat) : (d.ldShow n).fmp = d.fmp := by simp [Dev.ldShow]

@[simp] theorem ldFill_fmp (k : Nat) (d : Dev) (n : Nat) : (Dev.ldFill k d n).fmp = d.fmp := by
  induction k generalizing d with
  | zero => rfl
  | succ k ih =>
    unfold Dev.ldFill
    split
    · rfl
    · split
      · rfl
      · dsimp only
        rw [ih]
        split <;> simp

/-- A record that goes out leaves the sessions as they were. -/
@[simp] theorem sendRecord_fmp (d : Dev) (udp : Bool) (channel tag : Nat) (rec : List Byte) : (d.sendRecord udp channel tag rec).fmp = d.fmp := by
  unfold Dev.sendRecord
  split
  · rfl
  · split
    · simp [Dev.ldRecord]
    · simp

/-! ## Messages of a session (16 R446, R448) -/

theorem mget?_mins_fresh {α : Type} {m : Map α} {k : Nat} (v : α) (h : Fresh m k) : mget? (mins m k v) k = some v := by
  induction m with
  | nil => simp [mins, mget?]
  | cons e t ih =>
    obtain ⟨a, w⟩ := e
    have ha : a ≠ k := h (a, w) (by simp)
    simp only [mins]
    split
    · simp [mget?]
    · simp [mget?, ha, ih fun x hx => h x (by simp [hx])]

theorem mget?_mput_same {α : Type} (m : Map α) (k : Nat) (v : α) : mget? (mput m k v) k = some v := mget?_mins_fresh v (fresh_mdel m k)

/-- A record of an open session counts its sequence on, and the session stays open below 2^63. -/
theorem sesSend_counts {d : Dev} {ses : Nat} {x : Session} (h : mget? d.fmp.sessions ses = some x) (hs : x.txSeq < 2 ^ 63) (tag : Nat)
    (plain : List Byte) : mget? (d.sesSend ses tag plain).fmp.sessions ses = some { x with txSeq := x.txSeq + 1 } := by
  simp only [Dev.sesSend, h, if_neg (Nat.not_le.mpr hs), sendRecord_fmp, Dev.updSes, Dev.updFmp, mget?_mput_same]

/-- Records one after another count on from where the session stands. -/
theorem sesSend_foldl_counts {α : Type} (ses tag : Nat) (plain : α → List Byte) (l : List α) : ∀ {d : Dev} {x : Session},
    mget? d.fmp.sessions ses = some x → x.txSeq + l.length ≤ 2 ^ 63 →
      mget? (l.foldl (fun (d : Dev) c => d.sesSend ses tag (plain c)) d).fmp.sessions ses = some { x with txSeq := x.txSeq + l.length } := by
  induction l with
  | nil => exact fun h _ => h
  | cons c t ih =>
    intro d x h hs
    rw [List.length_cons] at hs
    rw [List.foldl_cons, ih (sesSend_counts h (by omega) tag (plain c)) (by show x.txSeq + 1 + t.length ≤ 2 ^ 63; omega)]
    simp [Nat.add_comm, Nat.add_left_comm]

theorem pieces_length (n k : Nat) (p : List Byte) : 1 ≤ (pieces n k p).length ∧ (pieces n k p).length ≤ k + 1 := by
  induction k generalizing p with
  | zero => simp [pieces]
  | succ k ih =>
    unfold pieces
    split
    · simp
    · have := ih (p.drop n)
      simp only [List.length_cons]
      omega

/-- A message of an open session leaves its requests and replies and counts its records. -/
theorem sesMessage_counts {d : Dev} {ses : Nat} {x : Session} (h : mget? d.fmp.sessions ses = some x) (op id status tag : Nat)
    (p : List Byte) (hs : x.txSeq + p.length + 2 ≤ 2 ^ 63) : ∃ n, 0 < n ∧
      mget? (d.sesMessage ses op id status tag p).fmp.sessions ses = some { x with txSeq := x.txSeq + n } := by
  simp only [Dev.sesMessage, h]
  obtain ⟨hone, hlen⟩ := pieces_length (d.maxRecord x.udp x.channel - 40) (p.length / (d.maxRecord x.udp x.channel - 40 + 1) + 1) p
  have hdiv := Nat.div_le_self p.length (d.maxRecord x.udp x.channel - 40 + 1)
  exact ⟨_, hone, sesSend_foldl_counts ses tag _ _ h (by omega)⟩

end Sys2Proof.Machine
end

section
/-! O29: gradients, crossings, event records, the mirror, notices and mesh data at the Foyer (chapters 01, 05, 06, 14, 16 and 19). -/

namespace Sys2Proof.Machine

/-! ## Gradients (01 R25) -/

theorem gradient_apart (d : Dev) {host : Bool} {r1 r2 : Nat} (k : Nat) (h : gradPair host r1 r2 = false) : d.gradient host r1 r2 k = d := by
  simp [Dev.gradient, h]

theorem gradient_host_ends (d : Dev) {r1 r2 k : Nat} (hk : k ≤ 40) : d.gradient true r1 r2 k =
    if gradPair true r1 r2 then d.updMod fun m => { m with gradHost := mdel m.gradHost (8 * min r1 r2 + max r1 r2) } else d := by
  cases h : gradPair true r1 r2 <;> simp [Dev.gradient, h, hk]

theorem gradient_field_ends (d : Dev) {r1 r2 k : Nat} (hk : k ≤ 40) : d.gradient false r1 r2 k =
    if gradPair false r1 r2 then d.updMod fun m => { m with gradField := mdel m.gradField (8 * min r1 r2 + max r1 r2) } else d := by
  cases h : gradPair false r1 r2 <;> simp [Dev.gradient, h, hk]

theorem gradient_host_begins (d : Dev) {r1 r2 k : Nat} (hp : gradPair true r1 r2 = true) (hk : 40 < k)
    (hn : mget? d.mod.gradHost (8 * min r1 r2 + max r1 r2) = none) : d.gradient true r1 r2 k =
      (d.updMod fun m => { m with gradHost := mput m.gradHost (8 * min r1 r2 + max r1 r2) d.time.raw }).raiseFy ⟨.modGradient, 0, none, [r1, r2, k]⟩ := by
  simp [Dev.gradient, hp, Nat.not_le.mpr hk, hn, rateOk]

theorem gradient_host_lasts (d : Dev) {r1 r2 k t : Nat} (hk : 40 < k) (hs : mget? d.mod.gradHost (8 * min r1 r2 + max r1 r2) = some t)
    (ht : d.time.raw < t + 60 * rawPerSec) : d.gradient true r1 r2 k = d := by
  simp [Dev.gradient, Nat.not_le.mpr hk, hs, rateOk, ht]

theorem gradient_field_begins (d : Dev) {r1 r2 k : Nat} (hp : gradPair false r1 r2 = true) (hk : 40 < k)
    (hn : mget? d.mod.gradField (8 * min r1 r2 + max r1 r2) = none) : d.gradient false r1 r2 k =
      (d.updMod fun m => { m with gradField := mput m.gradField (8 * min r1 r2 + max r1 r2) d.nw.cycle }).raiseNw ⟨.modGradient, 0, none, [r1, r2, k]⟩ := by
  simp [Dev.gradient, hp, Nat.not_le.mpr hk, hn, rateOk]

theorem gradientCheck_host_begins (s : State) {r1 r2 k : Nat} (hp : gradPair true r1 r2 = true) (hk : 40 < k)
    (hn : mget? s.dev.mod.gradHost (8 * min r1 r2 + max r1 r2) = none) (hl : s.dev.landingFree) : Answers (.gradientCheck true r1 r2 k) s fun u =>
      s.dev.landed u ⟨.modGradient, 0, none, [r1, r2, k]⟩ ∧
        u.mod = { s.dev.mod with gradHost := mput s.dev.mod.gradHost (8 * min r1 r2 + max r1 r2) s.dev.time.raw } ∧
        OnlyIn [.mod, .arc] (orEvent []) s.dev u := by
  refine answers_of_upd (g := fun d => d.gradient true r1 r2 k) rfl ?_
  rw [gradient_host_begins s.dev hp hk hn]
  have hsrc : ∀ n ∈ (⟨.modGradient, 0, none, [r1, r2, k]⟩ : Ev).sources, n < 128 := fixedSources_lt .modGradient
  exact ⟨raiseFy_landing (s.dev.updMod _) _ hl.1 hl.2, raiseFy_mod ..,
    ((onlyIn_refl ..).updMod _ (by decide)).raiseFy hsrc (show 0 < 8 by decide) (by decide)⟩

theorem gradientCheck_field_begins (s : State) {r1 r2 k : Nat} (hp : gradPair false r1 r2 = true) (hk : 40 < k)
    (hn : mget? s.dev.mod.gradField (8 * min r1 r2 + max r1 r2) = none) (hu : s.dev.cor.fieldUp = true) : Answers (.gradientCheck false r1 r2 k) s fun u =>
      s.dev.sentEvent u ⟨.modGradient, 0, none, [r1, r2, k]⟩ ∧
        u.mod = { s.dev.mod with gradField := mput s.dev.mod.gradField (8 * min r1 r2 + max r1 r2) s.dev.nw.cycle } ∧
        OnlyIn [.mod, .cor] noKey s.dev u := by
  refine answers_of_upd (g := fun d => d.gradient false r1 r2 k) rfl ?_
  rw [gradient_field_begins s.dev hp hk hn, raiseNw_up _ _ (by exact hu)]
  exact ⟨rfl, rfl, ((onlyIn_refl ..).updMod _ (by decide)).putUp _ (by decide)⟩

/-! ## Crossings (01 R23) -/

theorem crossingError_first (d : Dev) {x : Nat} (region : Nat) {again : Bool} (h : again = false ∨ mget false d.mod.crossing x = false) :
    d.crossingError x region again = d.updMod fun m => { m with crossing := mset false m.crossing x true } := by
  have hc : (again && mget false d.mod.crossing x) = false := by
    rcases h with h | h <;> simp [h]
  simp only [Dev.crossingError, hc, Bool.false_eq_true, if_false]

/-- What the second parity error of a crossing leaves in the module's own part. -/
def ModSt.crossingFailed (m : ModSt) (x region : Nat) : ModSt := { m with
  crossing := mset false m.crossing x false
  blockFaults := if (region, x) ∈ m.blockFaults then m.blockFaults else m.blockFaults ++ [(region, x)] }

theorem crossingError_second (d : Dev) {x : Nat} (region : Nat) (h : mget false d.mod.crossing x = true) :
    d.crossingError x region true = if 3 ≤ region ∧ region ≤ 7 then
      ((d.updMod fun m => m.crossingFailed x region).updNw fun n => { n with regionFaults := n.regionFaults ||| 2 ^ (region - 3) }).statusNow false
      else d.updMod fun m => m.crossingFailed x region := by
  simp only [Dev.crossingError, h, Bool.and_self, if_true]
  rfl

theorem crossingFailed_fault (m : ModSt) (x region : Nat) : (region, x) ∈ (m.crossingFailed x region).blockFaults ∧
    (∀ e ∈ (m.crossingFailed x region).blockFaults, e ∈ m.blockFaults ∨ e = (region, x)) ∧
    mget false (m.crossingFailed x region).crossing x = false := by
  unfold ModSt.crossingFailed
  by_cases hm : (region, x) ∈ m.blockFaults
  · simp [hm]
    exact fun _ _ h => .inl h
  · simp [hm]

theorem statusNow_field_part (d : Dev) : (d.statusNow false).nw = d.nw ∧ (d.statusNow false).mod = d.mod := by
  rcases statusNow_field_cases d with h | h <;> rw [h] <;> exact ⟨rfl, rfl⟩

theorem crossingParityError_second (s : State) {x : Nat} (region : Nat) (h : mget false s.dev.mod.crossing x = true) :
    Answers (.crossingParityError x region true) s fun u =>
      u.nw.regionFaults = (if 3 ≤ region ∧ region ≤ 7 then s.dev.nw.regionFaults ||| 2 ^ (region - 3) else s.dev.nw.regionFaults) ∧
      (region, x) ∈ u.mod.blockFaults ∧ (∀ e ∈ u.mod.blockFaults, e ∈ s.dev.mod.blockFaults ∨ e = (region, x)) ∧
      mget false u.mod.crossing x = false ∧ OnlyIn [.mod, .nw, .cor] noKey s.dev u := by
  refine answers_of_upd (g := fun d => d.crossingError x region true) rfl ?_
  rw [crossingError_second s.dev region h]
  obtain ⟨hin, hall, hclear⟩ := crossingFailed_fault s.dev.mod x region
  by_cases hr : 3 ≤ region ∧ region ≤ 7
  · rw [if_pos hr, if_pos hr, (statusNow_field_part _).1, (statusNow_field_part _).2]
    exact ⟨rfl, hin, hall, hclear, (((onlyIn_refl ..).updMod _ (by decide)).updNw _ (by decide)).statusNow_field (by decide)⟩
  · rw [if_neg hr, if_neg hr]
    exact ⟨rfl, hin, hall, hclear, (onlyIn_refl ..).updMod _ (by decide)⟩

/-! ## Event records (19 R517, R518) -/

/-- Pending sources show in registers above the module state. -/
theorem pend_mst (d : Dev) (l : List Nat) : (d.pend l).mst = d.mst := by
  have hrd : (d.pend l).rd FY_MODSTATE = d.rd FY_MODSTATE := by
    induction l generalizing d with
    | nil => rfl
    | cons n t ih =>
      have hne : FY_MODSTATE ≠ FY_EVPEND + 4 * (n / 32) := by
        have : FY_MODSTATE < FY_EVPEND := by decide
        omega
      exact (ih _).trans (rd_put_other d ⟨FY_EVPEND + 4 * (n / 32), n % 32, n % 32⟩ 1 hne)
  simp only [Dev.mst, Dev.get, FY_MODSTATE_STATE, hrd]

theorem land_mst (d : Dev) (e : LandEntry) (hr : e.ev.region < 8) : (d.land e).mst = d.mst := by
  have hrd := land_rd d e hr (k := FY_MODSTATE) (by decide)
  simp only [Dev.mst, Dev.get, FY_MODSTATE_STATE, hrd]

theorem noteFirmware_idle (d : Dev) (ev : Ev) (h : d.upd.dist = none) : d.noteFirmware ev = d := by simp only [Dev.noteFirmware, h]

/-- A quarantine that the Newel reports concerns the journal alone. -/
theorem noteQuarantine_journal (d : Dev) (ev : Ev) : ∃ j, d.noteQuarantine ev = { d with jnl := j } := by
  unfold Dev.noteQuarantine
  dsimp only
  split
  · split <;> exact ⟨_, rfl⟩
  · exact ⟨d.jnl, rfl⟩

theorem land_free (d : Dev) (e : LandEntry) (h : d.landingFree) : (d.land e).arc.landing = d.arc.landing ++ [e] := by
  simp [Dev.land, Dev.arcStat, h.1, h.2]

/-- What an accepted record leaves at the Foyer while no distribution runs. -/
theorem record_lands (d : Dev) (ev : Ev) (l : List Nat) (e : LandEntry) (he : e.ev.region < 8) (hl : d.landingFree) (hd : d.upd.dist = none) :
    let u := (((d.noteQuarantine ev).noteFirmware ev).pend l).land e
    u.arc.landing = d.arc.landing ++ [e] ∧ u.cor = d.cor ∧ u.mst = d.mst ∧ u.mod = d.mod ∧ u.fmp = d.fmp ∧ u.nw = d.nw := by
  obtain ⟨j, hj⟩ := noteQuarantine_journal d ev
  rw [hj, noteFirmware_idle { d with jnl := j } ev hd]
  have hfree : (({ d with jnl := j } : Dev).pend l).landingFree := by simpa [Dev.landingFree] using hl
  refine ⟨(land_free _ _ hfree).trans (by simp), by simp, ?_, by simp, by simp, by simp⟩
  rw [land_mst _ _ he, pend_mst]
  rfl

theorem eventRecord_answers (s : State) {q : Nat} {ev : Ev} (counts held : Bool) (hr : ev.regionOk = true)
    (hq : (s.dev.cor.up.accept q).2 = true) (hl : s.dev.landingFree) (hd : s.dev.upd.dist = none) :
    Answers (.eventRecord q ev counts held) s fun u =>
      u.arc.landing = s.dev.arc.landing ++ [⟨ev, counts, held⟩] ∧ u.cor.up.lastAcc = some (q % 65536) ∧ u.mst = s.dev.mst ∧
        u.mod = s.dev.mod ∧ u.fmp = s.dev.fmp ∧ u.nw = s.dev.nw := by
  refine answers_of_upd (g := fun d => d.when ev.regionOk fun d => d.acceptUp q fun d =>
    (((d.noteQuarantine ev).noteFirmware ev).pend (if counts then [] else ev.sources)).land ⟨ev, counts, held⟩) rfl ?_
  rw [when_pos _ _ hr, acceptUp_accepted _ _ _ hq]
  obtain ⟨hland, hcor, hrest⟩ := record_lands (s.dev.updCor fun c => { c with up := (s.dev.cor.up.accept q).1 }) ev
    (if counts then [] else ev.sources) ⟨ev, counts, held⟩ (regionOk_lt hr) hl hd
  exact ⟨hland, by rw [hcor]; exact accept_lastAcc _ _ hq, hrest⟩

/-! ## The mirror (06 R175, R176) -/

theorem mirrorBlock_keeps (s : State) {q : Nat} {p : List Byte} (hq : (s.dev.cor.up.accept q).2 = true) (hl : p.length = 528)
    (h0 : field p 8 1 = 0) (hs : s.dev.mod.mirrorScan = some (field p 0 8)) : Answers (.retainMirror q p) s fun u =>
      mget [] u.mod.mirrorBlocks (field p 9 1) = p.drop 16 ∧
        (∀ b, b ≠ field p 9 1 → mget [] u.mod.mirrorBlocks b = mget [] s.dev.mod.mirrorBlocks b) ∧ u.mod.snap = s.dev.mod.snap ∧
        OnlyIn [.mod, .cor] noKey s.dev u := by
  refine answers_of_upd (g := fun d => d.acceptUp q fun d =>
    if field p 8 1 = 0 ∧ p.length = 528 then d.mirrorBlock p
    else if field p 8 1 = 1 ∧ p.length = 88 then d.mirrorSeal p
    else d.raiseFy (.mk' .crMalformed [tRetainMirror, q])) rfl ?_
  rw [acceptUp_accepted _ _ _ hq, if_pos ⟨h0, hl⟩]
  simp only [Dev.mirrorBlock, updCor_mod, updMod_mod, hs, if_true]
  exact ⟨mget_mput_same .., fun b hb => mget_mput_other _ _ _ hb, trivial, ((onlyIn_refl ..).updCor _ (by decide)).updMod _ (by decide)⟩

/-- What the Foyer keeps after a seal of the whole memory is that scan's snapshot. -/
theorem mirrorSeal_full (d : Dev) {p : List Byte} (h : bitOf (field p 10 1) 0 = true) : ∃ x : Snapshot,
    x.scan = field p 0 8 ∧ x.layout = field p 20 4 ∧ x.cfg = field p 24 32 ∧ x.prog = field p 56 32 ∧
      d.mirrorSeal p = d.updMod fun m => { m with mirrorScan := none, mirrorBlocks := [], snap := some x } := by
  simp only [Dev.mirrorSeal, h, Bool.not_true, Bool.false_and, Bool.false_eq_true, if_false]
  exact ⟨_, rfl, rfl, rfl, rfl, rfl⟩

theorem mirrorSeal_answers (s : State) {q : Nat} {p : List Byte} (hq : (s.dev.cor.up.accept q).2 = true) (hl : p.length = 88)
    (h1 : field p 8 1 = 1) (hb : bitOf (field p 10 1) 0 = true) : Answers (.retainMirror q p) s fun u =>
      (∃ x, u.mod.snap = some x ∧ x.scan = field p 0 8 ∧ x.layout = field p 20 4 ∧ x.cfg = field p 24 32 ∧ x.prog = field p 56 32) ∧
      u.mod.mirrorScan = none ∧ u.mod.mirrorBlocks = [] ∧ OnlyIn [.mod, .cor] noKey s.dev u := by
  refine answers_of_upd (g := fun d => d.acceptUp q fun d =>
    if field p 8 1 = 0 ∧ p.length = 528 then d.mirrorBlock p
    else if field p 8 1 = 1 ∧ p.length = 88 then d.mirrorSeal p
    else d.raiseFy (.mk' .crMalformed [tRetainMirror, q])) rfl ?_
  obtain ⟨x, hscan, hlay, hcfg, hprog, hx⟩ := mirrorSeal_full (s.dev.updCor fun c => { c with up := (s.dev.cor.up.accept q).1 }) hb
  rw [acceptUp_accepted _ _ _ hq, if_neg fun h => absurd h.1 (by omega), if_pos ⟨h1, hl⟩, hx]
  exact ⟨⟨x, rfl, hscan, hlay, hcfg, hprog⟩, rfl, rfl, ((onlyIn_refl ..).updCor _ (by decide)).updMod _ (by decide)⟩

/-! ## Notices and mesh data (05 R146; 14 R388) -/

theorem le_length (n v : Nat) : (le n v).length = n := by
  induction n generalizing v with
  | zero => rfl
  | succ n ih => simp [le, ih]

/-- Without its session a message goes nowhere. -/
theorem sesNotice_closed {d : Dev} {ses : Nat} (h : mget? d.fmp.sessions ses = none) (op : Nat) (p : List Byte) : d.sesNotice ses op p = d := by
  simp only [Dev.sesNotice, Dev.sesMessage, h]

theorem pointNotify_open (s : State) {q ses : Nat} {entries : List Byte} {x : Session} (hq : (s.dev.cor.up.accept q).2 = true)
    (hx : mget? s.dev.fmp.sessions ses = some x) (hs : x.txSeq + entries.length + 70000 < 2 ^ 63) :
    Answers (.pointNotify q ses entries) s fun u => ∃ y, mget? u.fmp.sessions ses = some y ∧ x.txSeq < y.txSeq ∧
      y.replies = x.replies ∧ y.busy = x.busy := by
  refine answers_of_upd (g := fun d => d.acceptUp q fun d =>
    d.sesNotice ses 0xF2 (le 1 ses ++ le 1 (entries.length / 20) ++ [0, 0] ++ entries)) rfl ?_
  rw [acceptUp_accepted _ _ _ hq]
  have hopen : mget? (s.dev.updCor fun c => { c with up := (s.dev.cor.up.accept q).1 }).fmp.sessions ses = some x := hx
  have hlen : x.txSeq + (le 1 ses ++ le 1 (entries.length / 20) ++ [0, 0] ++ entries).length + 2 ≤ 2 ^ 63 := by
    simp only [List.length_append, le_length, List.length_cons, List.length_nil]
    omega
  obtain ⟨n, hn, hy⟩ := sesMessage_counts hopen 0xF2 0 0 _ _ hlen
  exact ⟨_, hy, Nat.lt_add_of_pos_right hn, rfl, rfl⟩

theorem pointNotify_closed (s : State) {q ses : Nat} (entries : List Byte) (hq : (s.dev.cor.up.accept q).2 = true)
    (hx : mget? s.dev.fmp.sessions ses = none) : Answers (.pointNotify q ses entries) s fun u => OnlyIn [.cor] noKey s.dev u := by
  refine answers_of_upd (g := fun d => d.acceptUp q fun d =>
    d.sesNotice ses 0xF2 (le 1 ses ++ le 1 (entries.length / 20) ++ [0, 0] ++ entries)) rfl ?_
  rw [acceptUp_accepted _ _ _ hq, sesNotice_closed (by exact hx)]
  exact onlyIn_updCor ..

theorem meshUp_operator (s : State) {q ses : Nat} {p : List Byte} {x : Session} (hq : (s.dev.cor.up.accept q).2 = true)
    (hx : s.dev.fmp.sessions = [(ses, x)]) (hr : x.role = 1) (hs : x.txSeq + p.length + 70000 < 2 ^ 63) :
    Answers (.meshUp q p) s fun u => ∃ y, mget? u.fmp.sessions ses = some y ∧ x.txSeq < y.txSeq ∧ y.replies = x.replies := by
  refine answers_of_upd (g := fun d => d.acceptUp q fun d =>
    (d.fmp.sessions.filter fun e => e.2.role == 1).foldl (fun (d : Dev) e => d.sesNotice e.1 0xF4 p) d) rfl ?_
  rw [acceptUp_accepted _ _ _ hq]
  have hopen : mget? (s.dev.updCor fun c => { c with up := (s.dev.cor.up.accept q).1 }).fmp.sessions ses = some x := by
    simp [hx, mget?]
  have hop : (s.dev.updCor fun c => { c with up := (s.dev.cor.up.accept q).1 }).fmp.sessions.filter (fun e => e.2.role == 1) = [(ses, x)] := by
    simp [hx, hr]
  rw [hop, List.foldl_cons, List.foldl_nil]
  obtain ⟨n, hn, hy⟩ := sesMessage_counts hopen 0xF4 0 0
    (Config.unsolicitedTag (mget Session.zero (s.dev.updCor fun c => { c with up := (s.dev.cor.up.accept q).1 }).fmp.sessions ses).txSeq) p (by omega)
  exact ⟨_, hy, Nat.lt_add_of_pos_right hn, rfl⟩

/-! ## The obligation -/

/-- Settles O29. -/
theorem fieldMessagesReachTheFoyer : Obligations.FieldMessagesReachTheFoyer := by
  unfold Obligations.FieldMessagesReachTheFoyer
  refine fun s => ⟨fun r1 r2 k hp hk => ⟨fun hn hl => gradientCheck_host_begins s hp hk hn hl, fun t hs ht => ?_⟩,
    fun r1 r2 k hp hk hn hu => gradientCheck_field_begins s hp hk hn hu, fun r1 r2 k hk => ⟨?_, ?_⟩, fun host r1 r2 k hp => ?_,
    fun x region h => crossingParityError_second s region h, fun x region again h => ?_,
    fun q ev counts held hr hq hl hd => eventRecord_answers s counts held hr hq hl hd, fun q p hq hl h0 hs => mirrorBlock_keeps s hq hl h0 hs,
    fun q p hq hl h1 hb => mirrorSeal_answers s hq hl h1 hb, fun q ses entries x hq hx hs => pointNotify_open s hq hx hs,
    fun q ses entries hq hx => pointNotify_closed s entries hq hx, fun q p ses x hq hx hr hs => meshUp_operator s hq hx hr hs⟩
  · exact answersDev_of_upd (g := fun d => d.gradient true r1 r2 k) rfl (gradient_host_lasts s.dev hk hs ht)
  · exact answersDev_of_upd (g := fun d => d.gradient true r1 r2 k) rfl (gradient_host_ends s.dev hk)
  · exact answersDev_of_upd (g := fun d => d.gradient false r1 r2 k) rfl (gradient_field_ends s.dev hk)
  · exact answersDev_of_upd (g := fun d => d.gradient host r1 r2 k) rfl (gradient_apart s.dev k hp)
  · refine answers_of_upd (g := fun d => d.crossingError x region again) rfl ?_
    rw [crossingError_first s.dev region h]
    exact ⟨mget_mset_same false _ x true, rfl, onlyIn_updMod ..⟩

end Sys2Proof.Machine
end

section
/-! What the numbering of a batch rests on, and that nothing before the release of the batch changes it: the steps of a Newel cycle in the
flights' states (chapter 04), the Gallery (chapters 08, 11 and 12) and the Loggia (chapter 13). -/

namespace Sys2Proof.Machine

/-- The cycle count, the next frame number and the extrapolation of the Newel, and the journal of the Foyer with its campaign. -/
def Dev.batchBase (d : Dev) : Nat × Nat × Bool × JournalSt := (d.nw.cycle, d.nw.nextFrame, d.nw.synth, d.jnl)

/-! ## Updates of the state -/

/-- An update of the Newel that leaves its counts. -/
@[simp] theorem updNw_batchBase (d : Dev) (g : NewelSt → NewelSt) (hc : ∀ n, (g n).cycle = n.cycle) (hf : ∀ n, (g n).nextFrame = n.nextFrame)
    (hs : ∀ n, (g n).synth = n.synth) : (d.updNw g).batchBase = d.batchBase := by
  simp [Dev.batchBase, hc, hf, hs]

@[simp] theorem put_batchBase (d : Dev) (x : Fld) (v : Nat) : (d.put x v).batchBase = d.batchBase := by simp [Dev.batchBase]
@[simp] theorem inc_batchBase (d : Dev) (x : Fld) (n : Nat) : (d.inc x n).batchBase = d.batchBase := by simp [Dev.batchBase]
@[simp] theorem wr_batchBase (d : Dev) (k : Nat) (v : W32) : (d.wr k v).batchBase = d.batchBase := by simp [Dev.batchBase]
@[simp] theorem updGl_batchBase (d : Dev) (g : GallerySt → GallerySt) : (d.updGl g).batchBase = d.batchBase := by simp [Dev.batchBase]
@[simp] theorem updLg_batchBase (d : Dev) (g : LoggiaSt → LoggiaSt) : (d.updLg g).batchBase = d.batchBase := by simp [Dev.batchBase]
@[simp] theorem updMod_batchBase (d : Dev) (g : ModSt → ModSt) : (d.updMod g).batchBase = d.batchBase := by simp [Dev.batchBase]
@[simp] theorem updFl_batchBase (d : Dev) (f : Flt) (g : FlightSt → FlightSt) : (d.updFl f g).batchBase = d.batchBase := by
  simp [Dev.batchBase]

/-- Operations one after another keep what each keeps. -/
theorem foldl_batchBase {α : Type} {g : Dev → α → Dev} (h : ∀ d a, (g d a).batchBase = d.batchBase) (l : List α) (d : Dev) :
    (l.foldl g d).batchBase = d.batchBase := by
  induction l generalizing d with
  | nil => rfl
  | cons a t ih => exact (ih _).trans (h d a)

@[simp] theorem updSig_cycle (n : NewelSt) (f : Flt) (g : List CommitSet → List CommitSet) : (n.updSig f g).cycle = n.cycle := by cases f <;> rfl
@[simp] theorem updSig_nextFrame (n : NewelSt) (f : Flt) (g : List CommitSet → List CommitSet) : (n.updSig f g).nextFrame = n.nextFrame := by
  cases f <;> rfl
@[simp] theorem updSig_synth (n : NewelSt) (f : Flt) (g : List CommitSet → List CommitSet) : (n.updSig f g).synth = n.synth := by cases f <;> rfl
@[simp] theorem setRetry_cycle (n : NewelSt) (f : Flt) (v : Option Nat) : (n.setRetry f v).cycle = n.cycle := by cases f <;> rfl
@[simp] theorem setRetry_nextFrame (n : NewelSt) (f : Flt) (v : Option Nat) : (n.setRetry f v).nextFrame = n.nextFrame := by cases f <;> rfl
@[simp] theorem setRetry_synth (n : NewelSt) (f : Flt) (v : Option Nat) : (n.setRetry f v).synth = n.synth := by cases f <;> rfl
@[simp] theorem setHeld_cycle (n : NewelSt) (f : Flt) (v : Bool) : (n.setHeld f v).cycle = n.cycle := by cases f <;> rfl
@[simp] theorem setHeld_nextFrame (n : NewelSt) (f : Flt) (v : Bool) : (n.setHeld f v).nextFrame = n.nextFrame := by cases f <;> rfl
@[simp] theorem setHeld_synth (n : NewelSt) (f : Flt) (v : Bool) : (n.setHeld f v).synth = n.synth := by cases f <;> rfl

/-! ## Messages and arrivals -/

@[simp] theorem sendUp_batchBase (d : Dev) (m : UpMsg) : (d.sendUp m).batchBase = d.batchBase := by
  rcases sendUp_cases d m with ⟨-, h⟩ | ⟨-, _, _, _, h⟩ <;> rw [h] <;> rfl
@[simp] theorem raiseNw_batchBase (d : Dev) (e : Ev) : (d.raiseNw e).batchBase = d.batchBase := sendUp_batchBase d _
@[simp] theorem statusNow_batchBase (d : Dev) : (d.statusNow false).batchBase = d.batchBase := by
  rcases statusNow_field_cases d with h | h
  · rw [h]
  · rw [h]; rfl
@[simp] theorem fieldMod_batchBase (d : Dev) (n : Nat) : (d.fieldMod n).batchBase = d.batchBase := by
  unfold Dev.fieldMod
  split <;> simp
@[simp] theorem coalesced_batchBase (d : Dev) : d.coalesced.batchBase = d.batchBase := by
  unfold Dev.coalesced
  split <;> simp
@[simp] theorem ingress_batchBase (d : Dev) (fr : InFrame) : (d.ingress fr).batchBase = d.batchBase := by
  unfold Dev.ingress
  split
  · simp
  · split <;> simp [Dev.coalesce]

/-! ## The flights' states (04 R98 to R118) -/

@[simp] theorem uncorrected_batchBase (d : Dev) (m : Mem) (pb w ag : Nat) : (d.uncorrected m pb w ag).batchBase = d.batchBase := by
  simp [Dev.uncorrected, Dev.errAddr]
@[simp] theorem nwStat_batchBase (d : Dev) : d.nwStat.batchBase = d.batchBase := by simp [Dev.nwStat]
@[simp] theorem setFl_batchBase (d : Dev) (f : Flt) (n : Nat) : (d.setFl f n).batchBase = d.batchBase := by
  unfold Dev.setFl
  dsimp only
  split <;> simp
@[simp] theorem swctlDone_batchBase (d : Dev) (t : Bool) (x r : Nat) : (d.swctlDone t x r).batchBase = d.batchBase := by simp [Dev.swctlDone]
@[simp] theorem planEnds_batchBase (d : Dev) (r : Nat) : (d.planEnds r).batchBase = d.batchBase := by
  unfold Dev.planEnds
  dsimp only
  split <;> simp
@[simp] theorem quarantine_batchBase (d : Dev) (f : Flt) (r : Nat) : (d.quarantine f r).batchBase = d.batchBase := by simp [Dev.quarantine]
@[simp] theorem dayFalls_batchBase (d : Dev) (f : Flt) : (d.dayFalls f).batchBase = d.batchBase := by
  unfold Dev.dayFalls
  dsimp only
  split
  · rfl
  · cases f <;> simp
@[simp] theorem recordFail_batchBase (d : Dev) (f : Flt) (c : Nat) : (d.recordFail f c).batchBase = d.batchBase := by
  cases f <;> simp [Dev.recordFail]
@[simp] theorem flReset_batchBase (d : Dev) (f : Flt) : (d.flReset f).batchBase = d.batchBase := by
  have hregs : ∀ (e : Dev) (r : Map W32), ({ e with regs := r } : Dev).batchBase = e.batchBase := fun _ _ => rfl
  unfold Dev.flReset
  exact (hregs _ _).trans (by simp [apply_ite Dev.batchBase])
@[simp] theorem stairEnds_batchBase (d : Dev) (r : Nat) : (d.stairEnds r).batchBase = d.batchBase := by simp [Dev.stairEnds]
@[simp] theorem failFl_batchBase (d : Dev) (f : Flt) (c : Nat) : (d.failFl f c).batchBase = d.batchBase := by
  simp only [Dev.failFl, apply_ite Dev.batchBase, quarantine_batchBase, ite_self]
  split
  · split <;> simp
  · simp
@[simp] theorem stairAbandon_batchBase (d : Dev) (r : Nat) : (d.stairAbandon r).batchBase = d.batchBase := by
  unfold Dev.stairAbandon
  split
  · rfl
  · dsimp only
    split <;> simp
@[simp] theorem modFollows_batchBase (d : Dev) : d.modFollows.batchBase = d.batchBase := by
  simp [Dev.modFollows, apply_ite Dev.batchBase]
@[simp] theorem bothLost_batchBase (d : Dev) : d.bothLost.batchBase = d.batchBase := by simp [Dev.bothLost, apply_ite Dev.batchBase]
@[simp] theorem promote_batchBase (d : Dev) (f : Flt) (c : Nat) : (d.promote f c).batchBase = d.batchBase := by simp [Dev.promote]
@[simp] theorem startLost_batchBase (d : Dev) : d.startLost.batchBase = d.batchBase := by simp [Dev.startLost, apply_ite Dev.batchBase]
@[simp] theorem afterFail_batchBase (d : Dev) (a : Option Flt) (c : Nat) : (d.afterFail a c).batchBase = d.batchBase := by
  unfold Dev.afterFail
  split
  · simp
  · dsimp only
    split
    · simp [apply_ite Dev.batchBase]
    · split <;> simp [apply_ite Dev.batchBase]
@[simp] theorem failAll_batchBase (d : Dev) (l : List (Flt × Nat)) : (d.failAll l).batchBase = d.batchBase := by
  simp [Dev.failAll, foldl_batchBase]
@[simp] theorem failOne_batchBase (d : Dev) (f : Flt) (c : Nat) : (d.failOne f c).batchBase = d.batchBase := failAll_batchBase ..
@[simp] theorem takeOut_batchBase (d : Dev) (f : Flt) (a : Nat) : (d.takeOut f a).batchBase = d.batchBase := by
  unfold Dev.takeOut
  split <;> simp
@[simp] theorem switchOver_batchBase (d : Dev) : d.switchOver.batchBase = d.batchBase := by
  unfold Dev.switchOver
  split
  · dsimp only
    split <;> simp
  · rfl
@[simp] theorem stairDone_batchBase (d : Dev) : d.stairDone.batchBase = d.batchBase := by
  unfold Dev.stairDone
  split <;> simp

end Sys2Proof.Machine
end

section
/-! What the commit of a scan does in the Gallery and the Loggia leaves the numbering of a batch alone (chapters 08, 11, 12 and 13). -/

namespace Sys2Proof.Machine

/-! ## Channels and matrices of the Gallery (chapters 11 and 12) -/

@[simp] theorem updCh_batchBase (d : Dev) (n : Nat) (g : Chan → Chan) : (d.updCh n g).batchBase = d.batchBase := updGl_batchBase ..
@[simp] theorem updCell_batchBase (d : Dev) (i : Nat) (g : Cell → Cell) : (d.updCell i g).batchBase = d.batchBase := updGl_batchBase ..
@[simp] theorem chFailsafe_batchBase (d : Dev) (n : Nat) : (d.chFailsafe n).batchBase = d.batchBase := by
  simp [Dev.chFailsafe, apply_ite Dev.batchBase]
@[simp] theorem mxFailsafe_batchBase (d : Dev) (m : Nat) : (d.mxFailsafe m).batchBase = d.batchBase :=
  foldl_batchBase (fun _ _ => updCell_batchBase ..) _ d
@[simp] theorem glFailsafe_batchBase (d : Dev) (c : Nat) : (d.glFailsafe c).batchBase = d.batchBase := by
  simp [Dev.glFailsafe, apply_ite Dev.batchBase, foldl_batchBase]
@[simp] theorem chDisableEv_batchBase (d : Dev) (n : Nat) (en fd : Bool) : (d.chDisableEv n en fd).batchBase = d.batchBase := raiseNw_batchBase ..
@[simp] theorem landCut_batchBase (d : Dev) (n c : Nat) : (d.landCut n c).batchBase = d.batchBase := updCh_batchBase ..
@[simp] theorem chEnable_batchBase (d : Dev) (n : Nat) : (d.chEnable n).batchBase = d.batchBase := by
  simp [Dev.chEnable, apply_ite Dev.batchBase]
@[simp] theorem chDisable_batchBase (d : Dev) (n : Nat) (fd : Bool) (c : Nat) : (d.chDisable n fd c).batchBase = d.batchBase := by
  simp [Dev.chDisable, apply_ite Dev.batchBase]
@[simp] theorem setDs_batchBase (d : Dev) (n st : Nat) : (d.setDs n st).batchBase = d.batchBase := by simp [Dev.setDs]
@[simp] theorem diagOff_batchBase (d : Dev) (n : Nat) : (d.diagOff n).batchBase = d.batchBase := by simp [Dev.diagOff, Dev.showCnt]
@[simp] theorem mxEnable_batchBase (d : Dev) (m : Nat) : (d.mxEnable m).batchBase = d.batchBase := by
  simp [Dev.mxEnable, apply_ite Dev.batchBase, foldl_batchBase]
@[simp] theorem mxLow_batchBase (d : Dev) (m : Nat) (c : Option Nat) : (d.mxLow m c).batchBase = d.batchBase := by
  cases c <;> simp [Dev.mxLow, foldl_batchBase]
@[simp] theorem mxDisable_batchBase (d : Dev) (m : Nat) (fd : Bool) (c : Nat) : (d.mxDisable m fd c).batchBase = d.batchBase := by
  simp [Dev.mxDisable, apply_ite Dev.batchBase]
@[simp] theorem diagClear_batchBase (d : Dev) (n : Nat) : (d.diagClear n).batchBase = d.batchBase := updCh_batchBase ..
@[simp] theorem testStart_batchBase (d : Dev) (n : Nat) (force reg : Bool) : (d.testStart n force reg).1.batchBase = d.batchBase := by
  simp [Dev.testStart, apply_ite Dev.batchBase, apply_ite Prod.fst]

/-! ## Lines and stations (chapter 08) -/

@[simp] theorem updLine_batchBase (d : Dev) (n : Nat) (g : Line → Line) : (d.updLine n g).batchBase = d.batchBase := updGl_batchBase ..
@[simp] theorem updSta_batchBase (d : Dev) (i : Nat) (g : StState → StState) : (d.updSta i g).batchBase = d.batchBase := updGl_batchBase ..
@[simp] theorem setSs_batchBase (d : Dev) (i n : Nat) : (d.setSs i n).batchBase = d.batchBase := by simp [Dev.setSs]
@[simp] theorem record_batchBase (d : Dev) (i k a : Nat) (b : List Byte) : (d.record i k a b).batchBase = d.batchBase := updLine_batchBase ..
@[simp] theorem emitList_batchBase (d : Dev) (n : Nat) (l : List StationRec) : (d.emitList n l).batchBase = d.batchBase :=
  (foldl_batchBase (fun _ _ => ingress_batchBase ..) _ _).trans (updLine_batchBase ..)
@[simp] theorem emitRecs_batchBase (d : Dev) (n : Nat) : (d.emitRecs n).batchBase = d.batchBase := emitList_batchBase ..
@[simp] theorem staSearch_batchBase (d : Dev) (i : Nat) : (d.staSearch i).batchBase = d.batchBase := by
  simp [Dev.staSearch, apply_ite Dev.batchBase]
@[simp] theorem staOff_batchBase (d : Dev) (i : Nat) : (d.staOff i).batchBase = d.batchBase := by
  simp [Dev.staOff, apply_ite Dev.batchBase]
@[simp] theorem cycleEnds_batchBase (d : Dev) (n : Nat) : (d.cycleEnds n).batchBase = d.batchBase := by
  unfold Dev.cycleEnds
  split
  · rfl
  · split <;> simp
@[simp] theorem lineEnable_batchBase (d : Dev) (n : Nat) : (d.lineEnable n).batchBase = d.batchBase := by
  simp [Dev.lineEnable, apply_ite Dev.batchBase, foldl_batchBase]
@[simp] theorem lineCut_batchBase (d : Dev) (n : Nat) : (d.lineCut n).batchBase = d.batchBase := by simp [Dev.lineCut, foldl_batchBase]
@[simp] theorem lineDisable_batchBase (d : Dev) (n : Nat) (fd : Bool) : (d.lineDisable n fd).batchBase = d.batchBase := by
  simp [Dev.lineDisable, apply_ite Dev.batchBase]
@[simp] theorem staEnable_batchBase (d : Dev) (i : Nat) : (d.staEnable i).batchBase = d.batchBase := by
  simp [Dev.staEnable, apply_ite Dev.batchBase]
@[simp] theorem staCut_batchBase (d : Dev) (i : Nat) : (d.staCut i).batchBase = d.batchBase := by
  simp [Dev.staCut, apply_ite Dev.batchBase]
@[simp] theorem staDisable_batchBase (d : Dev) (i : Nat) (fd : Bool) : (d.staDisable i fd).batchBase = d.batchBase := by
  simp [Dev.staDisable, apply_ite Dev.batchBase]

/-! ## DALI buses and module links (chapter 08) -/

@[simp] theorem updBus_batchBase (d : Dev) (b : Nat) (g : Bus → Bus) : (d.updBus b g).batchBase = d.batchBase := by simp [Dev.updBus]
@[simp] theorem daliRec_batchBase (d : Dev) (b : Nat) (r : DaliRec) : (d.daliRec b r).batchBase = d.batchBase := ingress_batchBase ..
@[simp] theorem daliReturned_batchBase (d : Dev) (b : Nat) : (d.daliReturned b).batchBase = d.batchBase := by
  simp [Dev.daliReturned, apply_ite Dev.batchBase]
@[simp] theorem daliNext_batchBase (d : Dev) (b : Nat) : (d.daliNext b).batchBase = d.batchBase := by
  unfold Dev.daliNext
  dsimp only
  split
  · rfl
  · split
    · simp
    · split <;> simp
@[simp] theorem daliCommit_batchBase (d : Dev) (m : Map Nat) : (d.daliCommit m).batchBase = d.batchBase :=
  foldl_batchBase (fun e a => by dsimp only; split <;> simp) m d
@[simp] theorem rawResult_batchBase (d : Dev) (b r v : Nat) : (d.rawResult b r v).batchBase = d.batchBase := by simp [Dev.rawResult]
@[simp] theorem setBus_batchBase (d : Dev) (b s c : Nat) : (d.setBus b s c).batchBase = d.batchBase := by simp [Dev.setBus]
@[simp] theorem daliRaw_batchBase (d : Dev) (b : Nat) (fr : RawFrame) : (d.daliRaw b fr).batchBase = d.batchBase := by
  simp [Dev.daliRaw, apply_ite Dev.batchBase]
@[simp] theorem daliEnable_batchBase (d : Dev) (b : Nat) : (d.daliEnable b).batchBase = d.batchBase := by
  simp [Dev.daliEnable, apply_ite Dev.batchBase]
@[simp] theorem daliDisable_batchBase (d : Dev) (b : Nat) (fd : Bool) : (d.daliDisable b fd).batchBase = d.batchBase := by
  simp [Dev.daliDisable, Dev.daliCut, Dev.rawLost, apply_ite Dev.batchBase]
@[simp] theorem updLink_batchBase (d : Dev) (p : Nat) (g : Link → Link) : (d.updLink p g).batchBase = d.batchBase := updGl_batchBase ..
@[simp] theorem jmlWire_batchBase (d : Dev) (p : Nat) (l : List (Nat × Nat × Nat × List Byte)) : (d.jmlWire p l).batchBase = d.batchBase :=
  updLink_batchBase ..
@[simp] theorem jmlSayHello_batchBase (d : Dev) (p : Nat) : (d.jmlSayHello p).batchBase = d.batchBase := by simp [Dev.jmlSayHello]
@[simp] theorem jmlLost_batchBase (d : Dev) (p : Nat) : (d.jmlLost p).batchBase = d.batchBase := by
  simp [Dev.jmlLost, Dev.jmlFrame, apply_ite Dev.batchBase]
@[simp] theorem jmlCommit_batchBase (d : Dev) (l : List (Nat × Nat × List Byte)) : (d.jmlCommit l).batchBase = d.batchBase :=
  foldl_batchBase (fun e a => by dsimp only; split <;> simp) _ d
@[simp] theorem jmlEnable_batchBase (d : Dev) (p : Nat) : (d.jmlEnable p).batchBase = d.batchBase := by
  simp [Dev.jmlEnable, apply_ite Dev.batchBase]
@[simp] theorem jmlDisable_batchBase (d : Dev) (p : Nat) : (d.jmlDisable p).batchBase = d.batchBase := by
  simp [Dev.jmlDisable, apply_ite Dev.batchBase]

/-! ## Chains of the Loggia (chapter 13) -/

@[simp] theorem updRc_batchBase (d : Dev) (n : Nat) (g : RadioChain → RadioChain) : (d.updRc n g).batchBase = d.batchBase := by simp [Dev.updRc]
@[simp] theorem setLgs_batchBase (d : Dev) (n s : Nat) : (d.setLgs n s).batchBase = d.batchBase := by simp [Dev.setLgs]
@[simp] theorem count_batchBase (d : Dev) (n c u : Nat) : (d.count n c u).batchBase = d.batchBase := updLg_batchBase ..
@[simp] theorem lgStatusRec_batchBase (d : Dev) (n : Nat) : (d.lgStatusRec n).batchBase = d.batchBase := ingress_batchBase ..
@[simp] theorem lgReport_batchBase (d : Dev) (n i o r s a : Nat) : (d.lgReport n i o r s a).batchBase = d.batchBase := ingress_batchBase ..
@[simp] theorem pressOne_batchBase (d : Dev) (n : Nat) : (d.pressOne n).batchBase = d.batchBase := by
  simp [Dev.pressOne, apply_ite Dev.batchBase]
@[simp] theorem pressure_batchBase (d : Dev) : d.pressure.batchBase = d.batchBase := by
  unfold Dev.pressure
  exact (foldl_batchBase (fun e a => pressOne_batchBase e a) _ _).trans (foldl_batchBase (fun e a => by split <;> simp) _ d)
@[simp] theorem returnAll_batchBase (d : Dev) (n r : Nat) : (d.returnAll n r).batchBase = d.batchBase := by
  simp [Dev.returnAll, foldl_batchBase]
@[simp] theorem txCut_batchBase (d : Dev) (n r t : Nat) : (d.txCut n r t).batchBase = d.batchBase := by
  unfold Dev.txCut
  split
  · rfl
  · simp [Dev.paRelease, apply_ite Dev.batchBase]
@[simp] theorem chainEnable_batchBase (d : Dev) (n : Nat) : (d.chainEnable n).batchBase = d.batchBase := by
  simp [Dev.chainEnable, apply_ite Dev.batchBase]
@[simp] theorem chainDisable_batchBase (d : Dev) (n : Nat) : (d.chainDisable n).batchBase = d.batchBase := by
  simp [Dev.chainDisable, apply_ite Dev.batchBase]
@[simp] theorem chainForced_batchBase (d : Dev) (n t : Nat) : (d.chainForced n t).batchBase = d.batchBase := by
  simp [Dev.chainForced, apply_ite Dev.batchBase]
@[simp] theorem lgStrobe_batchBase (d : Dev) (t l : Nat) (h : Bool) : (d.lgStrobe t l h).batchBase = d.batchBase := by
  simp [Dev.lgStrobe, apply_ite Dev.batchBase, foldl_batchBase]

/-! ## Registers and outputs of a commit set (04 R95; 13 R343) -/

@[simp] theorem writeKeep_batchBase (d : Dev) (k : Nat) (v m : W32) : (d.writeKeep k v m).batchBase = d.batchBase := by
  unfold Dev.writeKeep Dev.swWrite
  split <;> simp
@[simp] theorem glWrite_batchBase (d : Dev) (k : Nat) (v : W32) : (d.glWrite k v).batchBase = d.batchBase := by
  unfold Dev.glWrite
  dsimp only
  iterate 8 split <;> [simp [apply_ite Dev.batchBase]; skip]
  simp [apply_ite Dev.batchBase]
@[simp] theorem lgWrite_batchBase (d : Dev) (k : Nat) (v : W32) : (d.lgWrite k v).batchBase = d.batchBase := by
  unfold Dev.lgWrite
  split <;> simp [apply_ite Dev.batchBase]
@[simp] theorem commitRegs_batchBase (d : Dev) (cs : CommitSet) : (d.commitRegs cs).batchBase = d.batchBase :=
  foldl_batchBase (fun e a => by split <;> simp) _ d
@[simp] theorem commitIo_batchBase (d : Dev) (cs : CommitSet) : (d.commitIo cs).batchBase = d.batchBase := by
  simp only [Dev.commitIo, jmlCommit_batchBase, daliCommit_batchBase]
  exact (foldl_batchBase (fun e a => by split <;> simp) _ _).trans (updGl_batchBase ..)

end Sys2Proof.Machine
end

section
/-! O22: the Newel cycle up to the release of its batch, and the batch released (01 R27 to R29; 04 R95 to R110). -/

namespace Sys2Proof.Machine

/-! ## Commit, comparison and verification (04 R95 to R110) -/

@[simp] theorem firstCommit_batchBase (d : Dev) : d.firstCommit.batchBase = d.batchBase := by simp [Dev.firstCommit, apply_ite Dev.batchBase]
@[simp] theorem switchDone_batchBase (d : Dev) (f : Flt) : (d.switchDone f).batchBase = d.batchBase := by
  unfold Dev.switchDone
  split <;> simp
@[simp] theorem dropScan_batchBase (d : Dev) (s : Nat) : (d.dropScan s).batchBase = d.batchBase := by simp [Dev.dropScan]
@[simp] theorem bothSignalled_batchBase (d : Dev) (f : Flt) (cs : CommitSet) : (d.bothSignalled f cs).batchBase = d.batchBase := by
  unfold Dev.bothSignalled
  split
  · rfl
  · split <;> simp
@[simp] theorem commitSet_batchBase (d : Dev) (f : Flt) (cs : CommitSet) : (d.commitSet f cs).batchBase = d.batchBase := by
  simp [Dev.commitSet, foldl_batchBase]
@[simp] theorem withhold_batchBase (d : Dev) (s : Nat) : (d.withhold s).batchBase = d.batchBase := by simp [Dev.withhold]
@[simp] theorem showDig_batchBase (d : Dev) (f : Flt) (v : W64) : (d.showDig f v).batchBase = d.batchBase := by cases f <;> simp [Dev.showDig]
@[simp] theorem startFetch_batchBase (d : Dev) (f : Flt) (cs : CommitSet) : (d.startFetch f cs).batchBase = d.batchBase := by simp [Dev.startFetch]
@[simp] theorem diverge_batchBase (d : Dev) (act sb : Flt) (ca cb : CommitSet) : (d.diverge act sb ca cb).batchBase = d.batchBase := by
  simp [Dev.diverge, apply_ite Dev.batchBase]
@[simp] theorem matchedOne_batchBase (d : Dev) : d.matchedOne.batchBase = d.batchBase := by simp [Dev.matchedOne, apply_ite Dev.batchBase]
@[simp] theorem commonFault_batchBase (d : Dev) (c s : Nat) : (d.commonFault c s).batchBase = d.batchBase := raiseNw_batchBase ..

/-- Sets of the same scan present from both flights (04 R102, R103). -/
theorem compare_both_batchBase (d : Dev) {act sb : Flt} {ca cb : CommitSet} (ha : d.present act = some ca) (hb : d.present sb = some cb) :
    (d.compare act sb).batchBase = d.batchBase := by
  simp only [Dev.compare, ha, hb]
  split
  · simp
  · split
    · simp
    · split <;> simp [apply_ite Dev.batchBase]

/-- A set present from the active flight alone (04 R102). -/
theorem compare_active_batchBase (d : Dev) {act sb : Flt} {ca : CommitSet} (ha : d.present act = some ca) (hb : d.present sb = none) :
    (d.compare act sb).batchBase = d.batchBase := by
  simp only [Dev.compare, ha, hb]
  split
  · simp
  · split
    · rfl
    · split <;> simp

/-- A set present from the standby flight alone (04 R102). -/
theorem compare_standby_batchBase (d : Dev) {act sb : Flt} {cb : CommitSet} (ha : d.present act = none) (hb : d.present sb = some cb) :
    (d.compare act sb).batchBase = d.batchBase := by
  simp only [Dev.compare, ha, hb]
  split
  · simp
  · split
    · rfl
    · split <;> simp

@[simp] theorem compare_batchBase (d : Dev) (act sb : Flt) : (d.compare act sb).batchBase = d.batchBase := by
  cases ha : d.present act with
  | none =>
    cases hb : d.present sb with
    | none => simp [Dev.compare, ha, hb]
    | some cb => exact compare_standby_batchBase d ha hb
  | some ca =>
    cases hb : d.present sb with
    | none => exact compare_active_batchBase d ha hb
    | some cb => exact compare_both_batchBase d ha hb

@[simp] theorem fetchAlone_batchBase (d : Dev) (f : Flt) : (d.fetchAlone f).batchBase = d.batchBase := by
  unfold Dev.fetchAlone
  split
  · rfl
  · dsimp only
    split
    · simp
    · split
      · simp
      · split
        · split <;> simp [apply_ite Dev.batchBase]
        · simp

@[simp] theorem fetchUncompared_batchBase (d : Dev) (f : Flt) : (d.fetchUncompared f).batchBase = d.batchBase := by
  unfold Dev.fetchUncompared
  split <;> simp

@[simp] theorem verifyJoin_batchBase (d : Dev) : d.verifyJoin.batchBase = d.batchBase := by
  unfold Dev.verifyJoin
  split
  · dsimp only
    split
    · simp
    · split
      · split
        · simp
        · split <;> simp [apply_ite Dev.batchBase]
      · simp [apply_ite Dev.batchBase]
  · rfl

@[simp] theorem recognise_batchBase (d : Dev) (ok : Bool) : (d.recognise ok).batchBase = d.batchBase := by
  simp [Dev.recognise, apply_ite Dev.batchBase]
@[simp] theorem promoteLone_batchBase (d : Dev) : d.promoteLone.batchBase = d.batchBase := by simp [Dev.promoteLone, apply_ite Dev.batchBase]
@[simp] theorem fetchMeets_batchBase (d : Dev) (ue : Option (Nat × Nat)) : (d.fetchMeets ue).batchBase = d.batchBase := by
  unfold Dev.fetchMeets
  split <;> simp

theorem fetchMeets_nw (d : Dev) (ue : Option (Nat × Nat)) : (d.fetchMeets ue).nw = d.nw := by
  unfold Dev.fetchMeets
  split
  · exact uncorrected_nw ..
  · rfl

theorem fetchMeets_jnl (d : Dev) (ue : Option (Nat × Nat)) : (d.fetchMeets ue).jnl = d.jnl := congrArg (·.2.2.2) (fetchMeets_batchBase d ue)

/-- The cycle of a Newel that runs ends with the release of a batch numbered from where the last one ended. -/
theorem newelCycle_releases (d : Dev) (ok : Bool) (ue : Option (Nat × Nat)) (lst : Nat) (hs : d.nw.stopped = false) :
    ∃ e : Dev, e.batchBase = (d.nw.cycle + 1, d.nw.nextFrame, d.nw.synth, d.jnl) ∧ d.newelCycle ok ue lst = e.releaseBatch.statusNow false := by
  unfold Dev.newelCycle
  extract_lets d0 d1 d2 d3 d4 d5 d6 d7
  have h0 : d0.batchBase = (d.nw.cycle + 1, d.nw.nextFrame, d.nw.synth, d.jnl) := by simp [d0, Dev.batchBase, fetchMeets_nw, fetchMeets_jnl]
  have hstop : ¬d0.nw.stopped = true := by simp [d0, fetchMeets_nw, hs]
  have h1 : d1.batchBase = d0.batchBase := by simp [d1]
  have h2 : d2.batchBase = d1.batchBase := by
    simp only [d2]
    split
    · rfl
    · split <;> simp
  have h3 : d3.batchBase = d2.batchBase := by
    simp only [d3]
    split
    · split <;> simp
    · rfl
  have h4 : d4.batchBase = d3.batchBase := by simp [d4]
  have h5 : d5.batchBase = d4.batchBase := by
    simp only [d5]
    split
    · rfl
    · split
      · split <;> simp
      · simp
      · rfl
  have h6 : d6.batchBase = d5.batchBase := by
    simp only [d6]
    split
    · split <;> simp
    · rfl
  have h7 : d7.batchBase = d6.batchBase := by
    simp only [d7]
    split <;> simp
  exact ⟨d7, by rw [h7, h6, h5, h4, h3, h2, h1, h0], if_neg hstop⟩

/-! ## The batch (01 R27 to R29) -/

/-- The frames taken leave the batch within 512 frames and 65,536 bytes. -/
theorem fitBatch_bounds (l : List InFrame) : ∀ {n b : Nat}, n ≤ 512 → b ≤ 65536 →
    n + (fitBatch n b l).1.length ≤ 512 ∧ b + framesBytes (fitBatch n b l).1 ≤ 65536 := by
  induction l with
  | nil => intro n b hn hb; simpa [fitBatch, framesBytes] using ⟨hn, hb⟩
  | cons f t ih =>
    intro n b hn hb
    unfold fitBatch
    split
    · rename_i hfit
      obtain ⟨hlen, hbytes⟩ := ih (n := n + 1) hfit.1 hfit.2
      simp only [framesBytes, List.length_cons, List.map_cons, List.sum_cons] at hbytes ⊢
      omega
    · simpa [framesBytes] using ⟨hn, hb⟩

theorem numberFrames_length (n c : Nat) (l : List InFrame) : (numberFrames n c l).length = l.length := by simp [numberFrames]

/-- The i-th frame of a batch has the i-th number. -/
theorem numberFrames_getElem? (n c i : Nat) (l : List InFrame) : (numberFrames n c l)[i]? = l[i]?.map fun x => mkFrame (n + i) c x := by
  by_cases hi : i < l.length
  · simp [numberFrames, hi]
  · simp [numberFrames, hi]

theorem numberFrames_frames (n c : Nat) (l : List InFrame) : (numberFrames n c l).map (·.frame) = l := by
  refine List.ext_getElem? fun i => ?_
  rw [List.getElem?_map, numberFrames_getElem?, Option.map_map]
  exact Option.map_id' ..

theorem frameDefer_nw (d : Dev) (n : Nat) : ∃ a k c r, (d.frameDefer n).nw =
    { d.nw with deferAt := a, kept := k, keptCounts := c, keptMirror := r } := by
  unfold Dev.frameDefer
  split
  · exact ⟨none, d.nw.kept, d.nw.keptCounts, d.nw.keptMirror, rfl⟩
  · split
    · obtain ⟨k, c, r, h⟩ := sendUp_nw (d.updNw fun n => { n with deferAt := some n.cycle }) (evMsg (.mk' .nwFrameDefer [n]))
      exact ⟨some d.nw.cycle, k, c, r, h⟩
    · exact ⟨d.nw.deferAt, d.nw.kept, d.nw.keptCounts, d.nw.keptMirror, rfl⟩

theorem coalesced_nw (d : Dev) : ∃ a m k c r, d.coalesced.nw =
    { d.nw with coalAt := a, coalesced := m, kept := k, keptCounts := c, keptMirror := r } := by
  unfold Dev.coalesced
  split
  · obtain ⟨k, c, r, h⟩ := sendUp_nw (d.updNw fun x => { x with coalAt := some x.cycle, coalesced := 0 })
      (evMsg (.mk' .nwSampleCoalesced [d.nw.coalesced]))
    exact ⟨some d.nw.cycle, 0, k, c, r, h⟩
  · exact ⟨d.nw.coalAt, d.nw.coalesced, d.nw.kept, d.nw.keptCounts, d.nw.keptMirror, rfl⟩

/-- What follows the release of a batch leaves the batch and what is carried forward. -/
theorem afterRelease_keeps (d : Dev) (n : Nat) : let u := ((d.frameDefer n).coalesced).statusNow false
    u.nw.cycle = d.nw.cycle ∧ u.nw.batch = d.nw.batch ∧ u.nw.nextFrame = d.nw.nextFrame ∧ u.nw.carried = d.nw.carried ∧
      u.nw.newMap = d.nw.newMap ∧ u.nw.acked = d.nw.acked := by
  obtain ⟨a, k, c, r, hdefer⟩ := frameDefer_nw d n
  obtain ⟨a', m, k', c', r', hcoal⟩ := coalesced_nw (d.frameDefer n)
  dsimp only
  rw [(statusNow_field_part _).1, hcoal, hdefer]
  exact ⟨rfl, rfl, rfl, rfl, rfl, rfl⟩

@[simp] theorem frameDefer_batchBase (d : Dev) (n : Nat) : (d.frameDefer n).batchBase = d.batchBase := by
  simp [Dev.frameDefer, apply_ite Dev.batchBase]

theorem releaseBatch_jnl (d : Dev) : (d.releaseBatch.statusNow false).jnl = d.jnl := by
  unfold Dev.releaseBatch
  exact congrArg (·.2.2.2) (((statusNow_batchBase _).trans (coalesced_batchBase _)).trans (frameDefer_batchBase ..))

/-- The batch of a boundary: its CYCLE frame, then the frames that fit; the rest is carried forward. -/
theorem releaseBatch_numbers (d : Dev) : let u := d.releaseBatch.statusNow false
    ∃ taken, 1 + taken.length ≤ 512 ∧ 32 + framesBytes taken ≤ 65536 ∧ u.nw.cycle = d.nw.cycle ∧
      u.nw.batch = numberFrames d.nw.nextFrame d.nw.cycle (cycleFrame d.nw.cycle u.nw.carried.length d.nw.synth :: taken) ∧
      u.nw.nextFrame = d.nw.nextFrame + (taken.length + 1) ∧ u.nw.newMap = none ∧ u.nw.acked = [] := by
  unfold Dev.releaseBatch
  extract_lets n maps p all due q
  obtain ⟨hcyc, hbatch, hnext, hcarried, hmap, hacked⟩ := afterRelease_keeps (d.updNw fun n => { n with
    batch := numberFrames n.nextFrame n.cycle all, nextFrame := n.nextFrame + all.length, carried := p.2
    ingress := q.1, source := q.2, newMap := none, batchDue := due, acked := []
    sinceMap := n.sinceMap + 1 }) p.2.length
  obtain ⟨hlen, hbytes⟩ := fitBatch_bounds (n.carried ++ maps ++ batchOrder d.cor.down.lastAcc n.ingress) (n := 1) (b := 32) (by decide) (by decide)
  exact ⟨p.1, hlen, hbytes, hcyc, by rw [hcarried]; exact hbatch, hnext, hmap, hacked⟩

/-! ## The obligation -/

/-- What a batch numbered from its CYCLE frame on shows. -/
theorem numberFrames_cycle (n c k : Nat) (h : Bool) (taken : List InFrame) (hlen : 1 + taken.length ≤ 512)
    (hbytes : 32 + framesBytes taken ≤ 65536) : let b := numberFrames n c (cycleFrame c k h :: taken)
    b.head? = some (mkFrame n c (cycleFrame c k h)) ∧
      (∀ i fr, b[i]? = some fr → fr.number = n + i ∧ fr.cycle = c ∧ fr.crc = crc32c fr.head) ∧
      b.length = taken.length + 1 ∧ b.length ≤ 512 ∧ framesBytes (b.map (·.frame)) ≤ 65536 := by
  have hcount : (numberFrames n c (cycleFrame c k h :: taken)).length = taken.length + 1 := numberFrames_length ..
  refine ⟨?_, fun i fr hfr => ?_, hcount, by omega, ?_⟩
  · rw [List.head?_eq_getElem?, numberFrames_getElem?]
    rfl
  · rw [numberFrames_getElem?] at hfr
    obtain ⟨x, -, rfl⟩ := Option.map_eq_some_iff.mp hfr
    exact ⟨rfl, rfl, rfl⟩
  · rw [numberFrames_frames]
    exact hbytes

/-- Settles O22: the cycle ends with the release of a batch, which is numbered from where the last one ended. -/
theorem eachNewelCycleReleasesANumberedBatch : Obligations.EachNewelCycleReleasesANumberedBatch := by
  unfold Obligations.EachNewelCycleReleasesANumberedBatch
  intro s ok ue lst hs hcamp
  obtain ⟨e, hbase, hcycle⟩ := newelCycle_releases s.dev ok ue lst hs
  obtain ⟨hcyc, hnext, hsynth, hjnl⟩ : e.nw.cycle = s.dev.nw.cycle + 1 ∧ e.nw.nextFrame = s.dev.nw.nextFrame ∧
      e.nw.synth = s.dev.nw.synth ∧ e.jnl = s.dev.jnl := by simpa [Dev.batchBase] using hbase
  obtain ⟨taken, hlen, hbytes, hcycle', hbatch, hnext', hmap, hacked⟩ := releaseBatch_numbers e
  refine answers_of_upd (g := fun d => (d.newelCycle ok ue lst).campFollow) rfl ?_
  have hquiet : (e.releaseBatch.statusNow false).jnl.camp = none := by rw [releaseBatch_jnl, hjnl, hcamp]
  rw [hcycle, campFollow_none _ hquiet]
  rw [hcyc, hnext, hsynth] at hbatch
  obtain ⟨hhead, hall, hcount, hmax, hsum⟩ := numberFrames_cycle s.dev.nw.nextFrame (s.dev.nw.cycle + 1)
    (e.releaseBatch.statusNow false).nw.carried.length s.dev.nw.synth taken hlen hbytes
  rw [← hbatch] at hhead hall hcount hmax hsum
  exact ⟨hcycle'.trans hcyc, hhead, hall, by rw [hnext', hnext, hcount], hmax, hsum, hmap, hacked⟩

end Sys2Proof.Machine
end

section
/-! O36: an on-line switch whose snapshot ends the last round of a stair transfer abandons it, which resets the joining flight (04 R110,
R112; 06 R178). -/

namespace Sys2Proof.Machine

/-- Flight A ACTIVE with an accepted change and its next grid's batch present; flight B joins it and holds a point already copied, and the
last round of the transfer is in progress with more dirty pages than a freeze may begin with (04 R110, R112; 06 R177). -/
def lastRoundSwitch : Dev :=
  let d := (((((State.reset.dev.put NW_STAT_FASTATE fsActive).put NW_STAT_FBSTATE fsSyncing).put NW_STAIRSTAT_PHASE 2).put
    NW_STAIRSTAT_ROUND 8).put NW_STAIRCFG_ROUNDS 8).updNw fun n => { n with modState := msService, stair := some ⟨1, 0, 0, 0⟩ }
  (d.updFl .a fun x => { x with
    bootCycle := some 1, nextGrid := 2, lastBatch := 2, shadow := some Cfg.zero, switchDue := true, pages := List.range 65 }).updFl .b fun x =>
      { x with pts := [(2, { Point.zero with cls := 1 })] }

/-- The switch may take place there: the snapshot is due, nothing holds the flight, and no frame is there to be taken. -/
theorem lastRoundSwitch_ready : lastRoundSwitch.scanReady .a = true ∧ lastRoundSwitch.frozen .a = false ∧ lastRoundSwitch.fa.switchDue = true ∧
    lastRoundSwitch.fa.shadow = some Cfg.zero ∧ lastRoundSwitch.fa.own = none ∧ lastRoundSwitch.fa.enf.due = none ∧
    lastRoundSwitch.fa.frames = [] := by decide

/-- The round ends with too many dirty pages and none is left: flight B goes to RESET and holds no point any more (04 R112, R117). -/
theorem lastRoundSwitch_resets_joining :
    ((lastRoundSwitch.scanStart .a 0 0 0).fst .b, (lastRoundSwitch.scanStart .a 0 0 0).fb.pts.length) = (fsReset, 0) := by decide +kernel

/-- Refutes O36: at `lastRoundSwitch` ONLINE_SWITCH abandons the transfer, so that the other flight does not keep its points. -/
theorem not_stagingActivationAndTheSwitch : ¬ Obligations.StagingActivationAndTheSwitch := by
  unfold Obligations.StagingActivationAndTheSwitch
  intro ⟨h, _⟩
  let s : State := { State.reset with dev := lastRoundSwitch }
  obtain ⟨hready, hfree, hdue, hshadow, hown, htick, hframes⟩ := lastRoundSwitch_ready
  obtain ⟨-, -, -, hswitch⟩ := h s .a ⟨0, 0, 1, 0⟩ 0
  obtain ⟨t, ht, -, -, -, -, -, -, -, -, -, -, hpts⟩ := hswitch Cfg.zero hdue hshadow hown hready hfree htick (by
    show ∀ fr ∈ lastRoundSwitch.fa.frames, _
    simp [hframes])
  have hexec : exec (.onlineSwitch .a) s = .next { s with dev := lastRoundSwitch.scanStart .a 0 0 0 } := by
    show s.upd (fun d => d.when _ fun d => d.scanStart .a 0 0 0) = _
    rw [upd_eq_next, when_pos]
    simp [s, Dev.fl, hdue, hready, hfree, htick]
  have hdev : t.dev = lastRoundSwitch.scanStart .a 0 0 0 := by rw [← Host.Outcome.next.inj (hexec.symm.trans ht)]
  have hlen := congrArg Prod.snd lastRoundSwitch_resets_joining
  have hkept : (lastRoundSwitch.scanStart .a 0 0 0).fb.pts = lastRoundSwitch.fb.pts := by rw [← hdev]; exact hpts
  rw [hkept] at hlen
  exact absurd hlen (by decide)

end Sys2Proof.Machine
end

section
/-! Frames read and joined, and what the records and flushes of the Arcade leave (02 R60; 19 R516 to R525). -/

namespace Sys2Proof.Machine

/-! ## Frames of the parts -/

theorem onlyIn_updArc (d : Dev) (g : ArcSt → ArcSt) : OnlyIn [.arc] noKey d (d.updArc g) :=
  onlyIn_part .arc rfl fun p h => by cases p <;> simp [Part.same] at h ⊢

theorem onlyIn_updJnl (d : Dev) (g : JournalSt → JournalSt) : OnlyIn [.jnl] noKey d (d.updJnl g) :=
  onlyIn_part .jnl rfl fun p h => by cases p <;> simp [Part.same] at h ⊢

theorem OnlyIn.updArc {ps : List Part} {ks : Nat → Bool} {d e : Dev} (h : OnlyIn ps ks d e) (g : ArcSt → ArcSt) (hp : .arc ∈ ps) :
    OnlyIn ps ks d (e.updArc g) := h.step hp (onlyIn_updArc e g)

theorem OnlyIn.updJnl {ps : List Part} {ks : Nat → Bool} {d e : Dev} (h : OnlyIn ps ks d e) (g : JournalSt → JournalSt) (hp : .jnl ∈ ps) :
    OnlyIn ps ks d (e.updJnl g) := h.step hp (onlyIn_updJnl e g)

theorem OnlyIn.updTime {ps : List Part} {ks : Nat → Bool} {d e : Dev} (h : OnlyIn ps ks d e) (g : TimeSt → TimeSt) (hp : .time ∈ ps) :
    OnlyIn ps ks d (e.updTime g) := h.step hp (onlyIn_updTime e g)

/-! ## Reading a part off a frame -/

theorem OnlyIn.mod_eq {ps : List Part} {ks : Nat → Bool} {d e : Dev} (h : OnlyIn ps ks d e) (hp : .mod ∉ ps) : e.mod = d.mod := h.1 .mod hp
theorem OnlyIn.nw_eq {ps : List Part} {ks : Nat → Bool} {d e : Dev} (h : OnlyIn ps ks d e) (hp : .nw ∉ ps) : e.nw = d.nw := h.1 .nw hp
theorem OnlyIn.fa_eq {ps : List Part} {ks : Nat → Bool} {d e : Dev} (h : OnlyIn ps ks d e) (hp : .fa ∉ ps) : e.fa = d.fa := h.1 .fa hp
theorem OnlyIn.fb_eq {ps : List Part} {ks : Nat → Bool} {d e : Dev} (h : OnlyIn ps ks d e) (hp : .fb ∉ ps) : e.fb = d.fb := h.1 .fb hp
theorem OnlyIn.cor_eq {ps : List Part} {ks : Nat → Bool} {d e : Dev} (h : OnlyIn ps ks d e) (hp : .cor ∉ ps) : e.cor = d.cor := h.1 .cor hp
theorem OnlyIn.jnl_eq {ps : List Part} {ks : Nat → Bool} {d e : Dev} (h : OnlyIn ps ks d e) (hp : .jnl ∉ ps) : e.jnl = d.jnl := h.1 .jnl hp
theorem OnlyIn.fmp_eq {ps : List Part} {ks : Nat → Bool} {d e : Dev} (h : OnlyIn ps ks d e) (hp : .fmp ∉ ps) : e.fmp = d.fmp := h.1 .fmp hp
theorem OnlyIn.time_eq {ps : List Part} {ks : Nat → Bool} {d e : Dev} (h : OnlyIn ps ks d e) (hp : .time ∉ ps) : e.time = d.time := h.1 .time hp

theorem OnlyIn.get_eq {ps : List Part} {ks : Nat → Bool} {d e : Dev} (h : OnlyIn ps ks d e) {x : Fld} (hx : ks x.key = false) :
    e.get x = d.get x := get_of_rd (h.2 _ hx)

theorem OnlyIn.bit_eq {ps : List Part} {ks : Nat → Bool} {d e : Dev} (h : OnlyIn ps ks d e) {x : Fld} (hx : ks x.key = false) :
    e.bit x = d.bit x := bit_of_get (h.get_eq hx)

/-- Operations one after another keep to a frame that each keeps to. -/
theorem OnlyIn.foldl {ps : List Part} {ks : Nat → Bool} {α : Type} {g : Dev → α → Dev} {l : List α}
    (hg : ∀ d, ∀ a ∈ l, OnlyIn ps ks d (g d a)) (d : Dev) : OnlyIn ps ks d (l.foldl g d) := by
  induction l generalizing d with
  | nil => exact onlyIn_refl ..
  | cons a t ih => exact (hg d a (by simp)).trans (ih (fun d b hb => hg d b (by simp [hb])) _)

/-! ## Records and flushes (19 R516 to R522) -/

/-- Registers of the Arcade and those that its events write. -/
def arcKey : Nat → Bool := orEvent [FY_ARCNEXT, FY_ARCOLD, FY_ARCEPOCH]

theorem onlyIn_pend (d : Dev) (l : List Nat) (hl : ∀ n ∈ l, n < 128) : OnlyIn [] (orEvent []) d (d.pend l) :=
  ⟨fun p _ => by cases p <;> simp [Part.same], fun k hk => pend_rd d l hl (by rwa [orEvent_nil] at hk)⟩

theorem orEvent_mono {l m : List Nat} (h : ∀ k ∈ l, k ∈ m) {k : Nat} (hk : orEvent m k = false) : orEvent l k = false := by
  simp only [orEvent, Bool.or_eq_false_iff, List.contains_eq_mem, decide_eq_false_iff_not] at hk ⊢
  exact ⟨fun hl => hk.1 (h k hl), hk.2⟩

theorem OnlyIn.pend {ps : List Part} {l : List Nat} {d e : Dev} (h : OnlyIn ps (orEvent l) d e) {ns : List Nat} (hn : ∀ n ∈ ns, n < 128) :
    OnlyIn ps (orEvent l) d (e.pend ns) :=
  h.trans ((onlyIn_pend e ns hn).mono (by simp) fun _ => orEvent_mono (by simp))

theorem OnlyIn.arcShow {ps : List Part} {d e : Dev} (h : OnlyIn ps arcKey d e) : OnlyIn ps arcKey d e.arcShow :=
  ((h.wr _ (by decide)).put _ (by decide)).put _ (by decide)

theorem OnlyIn.nextEpoch {ps : List Part} {d e : Dev} (h : OnlyIn ps arcKey d e) (hp : .jnl ∈ ps) : OnlyIn ps arcKey d e.nextEpoch :=
  (h.put _ (by decide)).updJnl _ hp

theorem OnlyIn.ite {ps : List Part} {ks : Nat → Bool} {c : Prop} [Decidable c] {d e f : Dev} (h : OnlyIn ps ks d e) (k : OnlyIn ps ks d f) :
    OnlyIn ps ks d (if c then e else f) := by split <;> assumption

theorem OnlyIn.formRecord {ps : List Part} {d e : Dev} (h : OnlyIn ps arcKey d e) (x : LandEntry) (ha : .arc ∈ ps) (hj : .jnl ∈ ps) :
    OnlyIn ps arcKey d (e.formRecord x) := by
  unfold Dev.formRecord
  refine (OnlyIn.ite (OnlyIn.put ?_ _ (by decide)) ?_).arcShow
  all_goals exact .ite ((((h.updArc _ ha).wr _ (by decide)).nextEpoch hj).raiseFy_mk _ (by decide) ha) ((h.updArc _ ha).wr _ (by decide))

theorem onlyIn_formAll (k : Nat) (d : Dev) : OnlyIn [.arc, .jnl] arcKey d (Dev.formAll k d) := by
  induction k generalizing d with
  | zero => exact onlyIn_refl ..
  | succ k ih =>
    unfold Dev.formAll
    split
    · exact onlyIn_refl ..
    · exact (((onlyIn_refl ..).updArc _ (by decide)).formRecord _ (by decide) (by decide)).trans (ih _)

theorem OnlyIn.writeRing {ps : List Part} {d e : Dev} (h : OnlyIn ps arcKey d e) (n : Nat) (ha : .arc ∈ ps) :
    OnlyIn ps arcKey d (e.writeRing n) := by
  unfold Dev.writeRing
  exact OnlyIn.arcShow ((h.updArc _ ha).trans (OnlyIn.foldl (fun e _ _ => (onlyIn_refl ..).raiseFy_mk _ (by decide) ha) _))

theorem OnlyIn.clearDone {ps : List Part} {d e : Dev} (h : OnlyIn ps arcKey d e) (ha : .arc ∈ ps) (hj : .jnl ∈ ps) :
    OnlyIn ps arcKey d e.clearDone := by
  unfold Dev.clearDone
  split
  · exact h
  · exact .ite (((h.updArc _ ha).inc _ (by decide)).updJnl _ hj).arcShow h

theorem OnlyIn.suppEnds {ps : List Part} {d e : Dev} (h : OnlyIn ps arcKey d e) (ha : .arc ∈ ps) : OnlyIn ps arcKey d e.suppEnds :=
  ((h.pend (by decide)).updArc _ ha).put _ (by decide)

theorem onlyIn_arcPowerFlush (d : Dev) : OnlyIn [.arc, .jnl] arcKey d d.arcPowerFlush := by
  have hall := onlyIn_formAll arcCap d
  unfold Dev.arcPowerFlush Dev.flushDone
  exact ((((((OnlyIn.ite ((hall.suppEnds (by decide)).formRecord _ (by decide) (by decide)) hall).pend (by decide)).formRecord _ (by decide)
    (by decide)).writeRing _ (by decide)).clearDone (by decide) (by decide)).put _ (by decide)).updArc _ (by decide)

/-! ## What the Arcade leaves of the journal -/

/-- The journal but the Arcade's epoch and its count of clears (19 R516, R525). -/
def JournalSt.noArc (j : JournalSt) : JournalSt := { j with epoch := 0, clears := 0 }

@[simp] theorem arcShow_jnl (d : Dev) : d.arcShow.jnl = d.jnl := rfl
@[simp] theorem nextEpoch_noArc (d : Dev) : d.nextEpoch.jnl.noArc = d.jnl.noArc := rfl

@[simp] theorem formRecord_noArc (d : Dev) (x : LandEntry) : (d.formRecord x).jnl.noArc = d.jnl.noArc := by
  have hshown : ∀ (e : Dev) (c : Prop) [Decidable c], (if c then e.put FY_ARCSTAT_FLUSHING 1 else e).arcShow.jnl = e.jnl := fun e c _ =>
    (arcShow_jnl _).trans (by split; exacts [put_jnl .., rfl])
  have hwrapped : ∀ (e : Dev) (c : Prop) [Decidable c] (ev : Ev),
      (if c then e.nextEpoch.raiseFy ev else e).jnl.noArc = e.jnl.noArc := fun e c _ ev => by
    split
    · exact (congrArg JournalSt.noArc (raiseFy_jnl ..)).trans (nextEpoch_noArc e)
    · rfl
  exact (congrArg JournalSt.noArc (hshown _ _)).trans (hwrapped _ _ _)

@[simp] theorem formAll_noArc (k : Nat) (d : Dev) : (Dev.formAll k d).jnl.noArc = d.jnl.noArc := by
  induction k generalizing d with
  | zero => rfl
  | succ k ih =>
    unfold Dev.formAll
    split
    · rfl
    · simp [ih]

@[simp] theorem clearDone_noArc (d : Dev) : d.clearDone.jnl.noArc = d.jnl.noArc := by
  unfold Dev.clearDone
  split
  · rfl
  · dsimp only
    split
    · rfl
    · rfl

@[simp] theorem writeRing_jnl (d : Dev) (n : Nat) : (d.writeRing n).jnl = d.jnl :=
  (OnlyIn.writeRing (ps := [.arc]) (onlyIn_refl ..) n (by decide)).jnl_eq (by decide)

@[simp] theorem flushDone_noArc (d : Dev) : d.flushDone.jnl.noArc = d.jnl.noArc := by
  unfold Dev.flushDone
  rw [updArc_jnl, put_jnl, clearDone_noArc, writeRing_jnl]

@[simp] theorem suppEnds_jnl (d : Dev) : d.suppEnds.jnl = d.jnl := by
  unfold Dev.suppEnds
  rw [put_jnl, updArc_jnl, pend_jnl]

@[simp] theorem arcPowerFlush_noArc (d : Dev) : d.arcPowerFlush.jnl.noArc = d.jnl.noArc := by
  have hsupp : ∀ (e : Dev) (c : Prop) [Decidable c] (x : LandEntry),
      (if c then e.suppEnds.formRecord x else e).jnl.noArc = e.jnl.noArc := fun e c _ x => by
    split
    · rw [formRecord_noArc, suppEnds_jnl]
    · rfl
  unfold Dev.arcPowerFlush
  rw [flushDone_noArc, formRecord_noArc, pend_jnl, hsupp, formAll_noArc]

end Sys2Proof.Machine
end

section
/-! O15 and O19: every command answers, and the power-warning flush from its first edge to its end (02 R60, R62; 15 R412, R415). -/

namespace Sys2Proof.Machine

/-- Settles O15: the meaning of each command is an effect on the module alone. -/
theorem everyCommandAnswersAndKeepsTheQueue : Obligations.EveryCommandAnswersAndKeepsTheQueue := by
  intro c s
  cases c <;> exact ⟨_, rfl, rfl⟩

/-! ## The end of the flush (02 R60; 15 R412, R415) -/

theorem OnlyIn.bkWrite {ps : List Part} {ks : Nat → Bool} {d e : Dev} (h : OnlyIn ps ks d e) (i : Nat) (v : W32)
    (hi : ks (FY_BKRAM + 4 * i) = true) (hc : ks (FY_BKRAM + 124) = true) : OnlyIn ps ks d (e.bkWrite i v) := (h.wr _ hi).wr _ hc

/-- Registers of the backup domain that a write of the RTC touches (15 R412, R414). -/
def rtcKey (k : Nat) : Bool := [FY_BKRAM, FY_BKRAM + 4, FY_BKRAM + 8, FY_BKRAM + 12, FY_BKRAM + 124, FY_BKSTAT].contains k

theorem onlyIn_rtcWrite (d : Dev) : OnlyIn [.time] rtcKey d d.rtcWrite := by
  have hrho : OnlyIn [.time] rtcKey d _ := ((onlyIn_refl ..).updTime (fun x => { x with
    rtcCnt := d.nowNs / 1000000000 % 2 ^ 48, rtcSub := d.nowNs % 1000000000 * 32768 / 1000000000 }) (by decide)).bkWrite 3 (d.rd FY_TBRATE)
      (by decide) (by decide)
  have hset := OnlyIn.ite (c := d.get FY_TBSTAT_SOURCE = 1) hrho (((hrho.bkWrite 0 (BitVec.ofNat 32 (d.nowNs / 1000000000)) (by decide)
    (by decide)).bkWrite 1 (BitVec.ofNat 32 (d.nowNs / 1000000000 / 2 ^ 32)) (by decide) (by decide)).bkWrite 2
      (BitVec.ofNat 32 (b2n (d.get FY_TBSTAT_SOURCE != 0))) (by decide) (by decide))
  exact .ite ((hset.put _ (by decide)).put _ (by decide)) hset

/-- The journal takes the operating seconds, the time, the retained snapshot and the buffered events (02 R60). -/
def Dev.flushed (d : Dev) : Dev := (d.opsecCheckpoint.updJnl fun j => { j with snap := d.mod.snap }).arcPowerFlush

theorem onlyIn_flushed (d : Dev) : OnlyIn [.arc, .jnl] arcKey d d.flushed :=
  (((onlyIn_refl ..).updJnl _ (by decide)).updJnl _ (by decide)).trans (onlyIn_arcPowerFlush _)

theorem noArc_snap (j : JournalSt) : j.noArc.snap = j.snap := rfl

theorem flushed_snap (d : Dev) : d.flushed.jnl.snap = d.mod.snap := by
  unfold Dev.flushed
  rw [← noArc_snap, arcPowerFlush_noArc, noArc_snap, updJnl_jnl]

theorem warnDone_eq (d : Dev) (hf : d.mod.flushing = true) : d.warnDone =
    ((if d.bit FY_TBSTAT_TRUST then d.rtcWrite else d).flushed.updMod fun m => { m with flushing := false }).updArc fun a => { a with
      warned := (if d.bit FY_TBSTAT_TRUST then d.rtcWrite else d).flushed.bit FY_MODSTATE_PWRWARN } := by
  unfold Dev.warnDone
  rw [if_neg (by simp [hf])]
  rfl

/-- The end of the flush, with time trusted or not. -/
theorem warnDone_keeps (d : Dev) (hf : d.mod.flushing = true) : d.warnDone.mod.flushing = false ∧ d.warnDone.jnl.snap = d.mod.snap ∧
    d.warnDone.mod.snap = d.mod.snap ∧ d.warnDone.fa = d.fa ∧ d.warnDone.fb = d.fb ∧ d.warnDone.nw = d.nw := by
  rw [warnDone_eq d hf]
  have he : OnlyIn [.time] rtcKey d (if d.bit FY_TBSTAT_TRUST then d.rtcWrite else d) := .ite (onlyIn_rtcWrite d) (onlyIn_refl ..)
  generalize (if d.bit FY_TBSTAT_TRUST then d.rtcWrite else d) = e at he ⊢
  have ha := onlyIn_flushed e
  have hsnap := flushed_snap e
  generalize e.flushed = j at ha hsnap ⊢
  rw [he.mod_eq (by decide)] at hsnap
  rw [updArc_mod, updMod_mod, updArc_jnl, updMod_jnl, updArc_fa, updMod_fa, updArc_fb, updMod_fb, updArc_nw, updMod_nw, ha.fa_eq (by decide),
    ha.fb_eq (by decide), ha.nw_eq (by decide), he.fa_eq (by decide), he.fb_eq (by decide), he.nw_eq (by decide), ha.mod_eq (by decide),
    he.mod_eq (by decide)]
  exact ⟨rfl, hsnap, rfl, rfl, rfl, rfl⟩

/-! ## The power warning -/

theorem pwrwarnFall_opens (d : Dev) (hs : d.mod.started = true) (hf : d.mod.flushing = false) (hw : d.bit FY_MODSTATE_PWRWARN = false) :
    d.warnFall = ((d.put FY_MODSTATE_PWRWARN 1).updMod fun m => { m with flushing := true }).updArc fun a => { a with warned := true } := by
  simp [Dev.warnFall, hs, hf, hw]

theorem pwrwarnFall_counted (d : Dev) (hf : d.mod.flushing = true) : d.warnFall = d.put FY_MODSTATE_PWRWARN 1 := by
  simp [Dev.warnFall, hf]

/-- Settles O19: the edges by the branch that they take, then the end of the flush. -/
theorem powerWarningOpensAndClosesTheFlush : Obligations.PowerWarningOpensAndClosesTheFlush := by
  intro s
  have hshown : ∀ (d : Dev) v, v < 2 → (d.put FY_MODSTATE_PWRWARN v).bit FY_MODSTATE_PWRWARN = decide (v = 1) := fun d v hv =>
    bit_put_same d FY_MODSTATE_PWRWARN v rfl hv
  have hmst : ∀ (d : Dev) v, (d.put FY_MODSTATE_PWRWARN v).mst = d.mst := fun d v => get_put_other d _ _ v rfl rfl rfl
  have hput : ∀ (d : Dev) ps v, OnlyIn ps (fun k => k == FY_MODSTATE) d (d.put FY_MODSTATE_PWRWARN v) := fun d ps v =>
    (onlyIn_refl ..).put _ (by decide)
  refine ⟨fun hv hs hf hw => answers_of_upd rfl ?_, fun hv hf => answers_of_upd rfl ?_, fun hv => answers_of_upd rfl ?_, fun hf now =>
    answers_of_upd (g := fun d => (d.clock now).warnDone) rfl (warnDone_keeps (s.dev.clock now) hf)⟩
  · rw [when_pos _ _ hv, pwrwarnFall_opens s.dev hs hf hw]
    have hopen : OnlyIn [.mod, .arc] noKey (s.dev.put FY_MODSTATE_PWRWARN 1) _ := ((onlyIn_refl ..).updMod (fun m => { m with flushing := true })
      (by decide)).updArc (fun a => { a with warned := true }) (by decide)
    exact ⟨(hopen.bit_eq rfl).trans (hshown s.dev 1 (by decide)), by rw [updArc_mod, updMod_mod], by rw [updArc_arc],
      (hopen.get_eq rfl).trans (hmst s.dev 1), ((hput s.dev _ 1).updMod _ (by decide)).updArc _ (by decide)⟩
  · rw [when_pos _ _ hv, pwrwarnFall_counted s.dev hf]
    exact ⟨hshown s.dev 1 (by decide), hput s.dev _ 1⟩
  · rw [when_pos _ _ hv]
    unfold Dev.warnRise
    cases hf : s.dev.mod.flushing with
    | true => exact ⟨hshown s.dev 0 (by decide), by rw [if_pos rfl, put_arc, Bool.true_and], hmst s.dev 0, hput s.dev _ 0⟩
    | false =>
      have hresume := onlyIn_updArc (s.dev.put FY_MODSTATE_PWRWARN 0) fun a => { a with warned := false }
      exact ⟨(hresume.bit_eq rfl).trans (hshown s.dev 0 (by decide)), rfl, (hresume.get_eq rfl).trans (hmst s.dev 0),
        (hput s.dev _ 0).updArc _ (by decide)⟩

end Sys2Proof.Machine
end

section
/-! Transitions of the module state: what they write, what they leave, and what STATUS leaves of the Corridor (02 R54; 01 R44). -/

namespace Sys2Proof.Machine

/-! ## STATUS and the Corridor -/

/-- The Corridor but what the Foyer's messages change: its queue, their numbers and the requests in flight (01 R34, R41). -/
def CorrSt.link (c : CorrSt) : CorrSt := { c with down := { c.down with txSeq := 0 }, downQ := [], reqs := [], hostStatus := [] }

@[simp] theorem statusNow_host_link (d : Dev) : (d.statusNow true).cor.link = d.cor.link := by
  rcases statusNow_host_cases d with k | k <;> rw [k]
  rfl

@[simp] theorem statusNow_host_mod (d : Dev) : (d.statusNow true).mod = d.mod :=
  (OnlyIn.statusNow_host (ps := [.cor]) (ks := noKey) (onlyIn_refl ..) (by decide)).mod_eq (by decide)

@[simp] theorem statusNow_host_arc (d : Dev) : (d.statusNow true).arc = d.arc :=
  (OnlyIn.statusNow_host (ps := [.cor]) (ks := noKey) (onlyIn_refl ..) (by decide)).1 .arc (by decide)

theorem linkUp_of_link {c e : CorrSt} (h : e.link = c.link) : (e.hostUp && e.fieldUp) = (c.hostUp && c.fieldUp) := by
  change (e.link.hostUp && e.link.fieldUp) = (c.link.hostUp && c.link.fieldUp)
  rw [h]

/-! ## The transition before its STATUS -/

/-- A transition as the Foyer's registers, its events and its deadlines show it (02 R54, R59). -/
def Dev.movedTo (d : Dev) (new row : Nat) : Dev :=
  let d1 := (d.put FY_MODSTATE_STATE new).raiseFy (.mk' .modState [d.mst, new, row])
  if new = msFailsafe then d1.updMod fun m => { m with failsafeAt := some d.time.raw }
  else if new = msHold then (d1.updMod fun m => { m with holdVfin := row = 15 }).startTold
  else d1

/-- The sources of the ports on entry to service, or none. -/
def Dev.portsServed (d : Dev) (b : Bool) : Dev := if b then d.portSources else d

theorem setMod_same {d : Dev} {new : Nat} (row : Nat) (h : d.mst = new) : d.setMod new row = d := if_pos h

theorem setMod_moves {d : Dev} {new : Nat} (row : Nat) (h : d.mst ≠ new) : d.setMod new row =
    (((d.movedTo new row).updUpd fun u => { u with service := if new = msService then some d.time.raw else none }).portsServed
      (msServes new && !msServes d.mst)).statusNow true := if_neg h

theorem OnlyIn.startTold {ps : List Part} {l : List Nat} {d e : Dev} (h : OnlyIn ps (orEvent l) d e) (hm : .mod ∈ ps) (ha : .arc ∈ ps) :
    OnlyIn ps (orEvent l) d e.startTold := .ite ((h.updMod _ hm).raiseFy_mk _ (by decide) ha) h

/-- The sources of the ports are the first 128. -/
theorem OnlyIn.portsServed {ps : List Part} {l : List Nat} {d e : Dev} (h : OnlyIn ps (orEvent l) d e) (b : Bool) :
    OnlyIn ps (orEvent l) d (e.portsServed b) := by
  refine .ite (h.pend fun n hn => ?_) h
  simp only [List.mem_append, List.mem_map, List.mem_filter, List.mem_range] at hn
  rcases hn with ⟨a, ⟨ha, -⟩, rfl⟩ | ⟨a, ⟨ha, -⟩, rfl⟩ <;> omega

@[simp] theorem portsServed_mod (d : Dev) (b : Bool) : (d.portsServed b).mod = d.mod := by
  cases b
  · rfl
  · exact pend_mod ..

@[simp] theorem portsServed_arc (d : Dev) (b : Bool) : (d.portsServed b).arc = d.arc := by
  cases b
  · rfl
  · exact pend_arc ..

@[simp] theorem portsServed_cor (d : Dev) (b : Bool) : (d.portsServed b).cor = d.cor := by
  cases b
  · rfl
  · exact pend_cor ..

theorem onlyIn_movedTo (d : Dev) (new row : Nat) :
    OnlyIn [.mod, .arc] (orEvent []) (d.put FY_MODSTATE_STATE new) (d.movedTo new row) := by
  have hev := (onlyIn_refl [.mod, .arc] (orEvent []) (d.put FY_MODSTATE_STATE new)).raiseFy_mk (i := .modState) [d.mst, new, row] (by decide)
    (by decide)
  exact .ite (hev.updMod _ (by decide)) (.ite ((hev.updMod _ (by decide)).startTold (by decide) (by decide)) hev)

/-! ## What a transition changes -/

/-- Beyond the state's own field, a transition writes events and STATUS. -/
theorem onlyIn_setMod {d : Dev} {new : Nat} (row : Nat) (h : d.mst ≠ new) :
    OnlyIn [.mod, .arc, .upd, .cor] (orEvent []) (d.put FY_MODSTATE_STATE new) (d.setMod new row) := by
  rw [setMod_moves row h]
  exact ((((onlyIn_movedTo d new row).mono (by decide) fun _ h => h).updUpd _ (by decide)).portsServed _).statusNow_host (by decide)

theorem OnlyIn.setMod {ps : List Part} {l : List Nat} {d e : Dev} (h : OnlyIn ps (orEvent l) d e) (new row : Nat)
    (hp : ∀ p ∈ [Part.mod, .arc, .upd, .cor], p ∈ ps) (hl : FY_MODSTATE ∈ l) : OnlyIn ps (orEvent l) d (e.setMod new row) := by
  by_cases hn : e.mst = new
  · rw [setMod_same row hn]; exact h
  · exact (h.put new (by simp [orEvent, hl, FY_MODSTATE_STATE])).trans ((onlyIn_setMod row hn).mono hp fun _ => orEvent_mono (by simp))

theorem setMod_mst (d : Dev) {new : Nat} (row : Nat) (hn : new < 16) : (d.setMod new row).mst = new := by
  by_cases h : d.mst = new
  · rw [setMod_same row h, h]
  · exact ((onlyIn_setMod row h).get_eq rfl).trans (get_put_same d FY_MODSTATE_STATE new rfl hn)

/-- The module's own registers keep every field but the state. -/
theorem setMod_get (d : Dev) (new row : Nat) {x : Fld} (hx : x.ok = true) (ha : FY_MODSTATE_STATE.apart x = true)
    (hk : eventKey x.key = false) : (d.setMod new row).get x = d.get x := by
  by_cases h : d.mst = new
  · rw [setMod_same row h]
  · exact ((onlyIn_setMod row h).get_eq (by rw [orEvent_nil, hk])).trans (get_put_other d _ _ new rfl hx ha)

theorem setMod_bit (d : Dev) (new row : Nat) {x : Fld} (hx : x.ok = true) (ha : FY_MODSTATE_STATE.apart x = true)
    (hk : eventKey x.key = false) : (d.setMod new row).bit x = d.bit x := bit_of_get (setMod_get d new row hx ha hk)

@[simp] theorem setMod_link (d : Dev) (new row : Nat) : (d.setMod new row).cor.link = d.cor.link := by
  by_cases h : d.mst = new
  · rw [setMod_same row h]
  · rw [setMod_moves row h, statusNow_host_link, portsServed_cor, updUpd_cor, (onlyIn_movedTo d new row).cor_eq (by decide), put_cor]

@[simp] theorem setMod_linkUp (d : Dev) (new row : Nat) : (d.setMod new row).linkUp = d.linkUp := linkUp_of_link (setMod_link d new row)

/-- A transition to any state but HOLD and FAILSAFE leaves the module's own part. -/
theorem setMod_mod (d : Dev) {new : Nat} (row : Nat) (hf : new ≠ msFailsafe) (hh : new ≠ msHold) : (d.setMod new row).mod = d.mod := by
  by_cases h : d.mst = new
  · rw [setMod_same row h]
  · rw [setMod_moves row h, statusNow_host_mod, portsServed_mod, updUpd_mod, Dev.movedTo, if_neg hf, if_neg hh, raiseFy_mod, put_mod]

theorem startTold_mod (d : Dev) : d.startTold.mod = { d.mod with startDue := false } := by
  unfold Dev.startTold
  split
  · rw [raiseFy_mod, updMod_mod]
  · next h => rw [← Bool.not_eq_true _ |>.mp h]

/-- HOLD notes whether VFIN led to it, and ends the start that was due. -/
theorem setMod_hold_mod (d : Dev) (row : Nat) (h : d.mst ≠ msHold) :
    (d.setMod msHold row).mod = { d.mod with holdVfin := row = 15, startDue := false } := by
  rw [setMod_moves row h, statusNow_host_mod, portsServed_mod, updUpd_mod, Dev.movedTo, if_neg (by decide), if_pos rfl, startTold_mod,
    updMod_mod, raiseFy_mod, put_mod]

/-- Outside HOLD, the transition's own event is the only one. -/
theorem setMod_arc {d : Dev} {new : Nat} (row : Nat) (h : d.mst ≠ new) (hf : new ≠ msFailsafe) (hh : new ≠ msHold) :
    (d.setMod new row).arc = ((d.put FY_MODSTATE_STATE new).raiseFy (.mk' .modState [d.mst, new, row])).arc := by
  rw [setMod_moves row h, statusNow_host_arc, portsServed_arc, updUpd_arc, Dev.movedTo, if_neg hf, if_neg hh]

end Sys2Proof.Machine
end

section
/-! Flight states and the start of the field side: what they write and what they leave (02 R45, R54; 04 R117, R123). -/

namespace Sys2Proof.Machine

/-! ## Registers kept by a predicate of their keys -/

theorem mget_filter_key {α : Type} (d : α) (m : Map α) (p : Nat → Bool) (k : Nat) :
    mget d (m.filter fun e => p e.1) k = if p k then mget d m k else d := by
  induction m with
  | nil => simp [mget]
  | cons e t ih =>
    obtain ⟨j, v⟩ := e
    rw [List.filter_cons]
    by_cases hj : j = k
    · subst hj
      cases hp : p j <;> simp [hp, mget, ih]
    · cases hp : p j <;> simp [mget, hj, ih]

theorem rd_filter (d : Dev) (p : Nat → Bool) {e : Dev} (he : e.regs = d.regs.filter fun x => p x.1) (k : Nat) :
    e.rd k = if p k then d.rd k else regReset k := by
  unfold Dev.rd
  rw [he]
  exact mget_filter_key ..

/-! ## What a message of the field side leaves of the Corridor -/

@[simp] theorem sendUp_linkUp (d : Dev) (m : UpMsg) : (d.sendUp m).linkUp = d.linkUp := by
  rcases sendUp_cases d m with ⟨-, h⟩ | ⟨-, _, _, _, h⟩ <;> rw [h] <;> rfl

@[simp] theorem raiseNw_linkUp (d : Dev) (e : Ev) : (d.raiseNw e).linkUp = d.linkUp := sendUp_linkUp d _

@[simp] theorem sendUp_modState (d : Dev) (m : UpMsg) : (d.sendUp m).nw.modState = d.nw.modState := by
  obtain ⟨_, _, _, h⟩ := sendUp_nw d m
  rw [h]

@[simp] theorem raiseNw_modState (d : Dev) (e : Ev) : (d.raiseNw e).nw.modState = d.nw.modState := sendUp_modState d _

theorem OnlyIn.raiseNw {ps : List Part} {ks : Nat → Bool} {d e : Dev} (h : OnlyIn ps ks d e) (ev : Ev) (hc : .cor ∈ ps) (hn : .nw ∈ ps) :
    OnlyIn ps ks d (e.raiseNw ev) := h.sendUp _ hc hn

/-! ## Flight states (04 R117, R123) -/

theorem OnlyIn.nwStat {ps : List Part} {ks : Nat → Bool} {d e : Dev} (h : OnlyIn ps ks d e) (hk : ks NW_STAT = true) :
    OnlyIn ps ks d e.nwStat := ((((h.put _ hk).put _ hk).put _ hk).put _ hk).put _ hk

/-- NW_STAT's summary fields share the register with the flights' states and leave them. -/
theorem nwStat_fst (d : Dev) (f : Flt) : d.nwStat.fst f = d.fst f := by
  unfold Dev.nwStat Dev.fst
  cases f <;> exact (((((get_put_other _ _ _ _ rfl rfl rfl).trans (get_put_other _ _ _ _ rfl rfl rfl)).trans
    (get_put_other _ _ _ _ rfl rfl rfl)).trans (get_put_other _ _ _ _ rfl rfl rfl)).trans (get_put_other _ _ _ _ rfl rfl rfl))

theorem setFl_same {d : Dev} {f : Flt} {new : Nat} (h : d.fst f = new) : d.setFl f new = d := if_pos h

theorem setFl_moves {d : Dev} {f : Flt} {new : Nat} (h : d.fst f ≠ new) :
    d.setFl f new = ((d.put (nwStateFld f) new).raiseNw (.mk' .nwFlightState [f.num, d.fst f, new])).nwStat := if_neg h

theorem nwStateFld_key (f : Flt) : (nwStateFld f).key = NW_STAT := by cases f <;> rfl

theorem OnlyIn.setFl {ps : List Part} {ks : Nat → Bool} {d e : Dev} (h : OnlyIn ps ks d e) (f : Flt) (new : Nat) (hk : ks NW_STAT = true)
    (hc : .cor ∈ ps) (hn : .nw ∈ ps) : OnlyIn ps ks d (e.setFl f new) :=
  .ite h (((h.put _ ((congrArg ks (nwStateFld_key f)).trans hk)).raiseNw _ hc hn).nwStat hk)

theorem setFl_fst_same (d : Dev) (f : Flt) {new : Nat} (hn : new < 16) : (d.setFl f new).fst f = new := by
  by_cases h : d.fst f = new
  · rw [setFl_same h, h]
  · rw [setFl_moves h, nwStat_fst]
    exact (raiseNw_get ..).trans (get_put_same d _ new (by cases f <;> rfl) (by cases f <;> exact hn))

theorem setFl_fst_other (d : Dev) {f g : Flt} (hg : g ≠ f) (new : Nat) : (d.setFl f new).fst g = d.fst g := by
  by_cases h : d.fst f = new
  · rw [setFl_same h]
  · rw [setFl_moves h, nwStat_fst]
    exact (raiseNw_get ..).trans (get_put_other d _ _ new (by cases f <;> rfl) (by cases g <;> rfl)
      (by cases f <;> cases g <;> first | rfl | exact absurd rfl hg))

theorem onlyIn_nwStat (d : Dev) : OnlyIn [] (fun k => k == NW_STAT) d d.nwStat := (onlyIn_refl ..).nwStat (by decide)

@[simp] theorem setFl_linkUp (d : Dev) (f : Flt) (new : Nat) : (d.setFl f new).linkUp = d.linkUp := by
  by_cases h : d.fst f = new
  · rw [setFl_same h]
  · rw [setFl_moves h, Dev.linkUp, (onlyIn_nwStat _).cor_eq (by decide)]
    exact raiseNw_linkUp ..

@[simp] theorem setFl_modState (d : Dev) (f : Flt) (new : Nat) : (d.setFl f new).nw.modState = d.nw.modState := by
  by_cases h : d.fst f = new
  · rw [setFl_same h]
  · rw [setFl_moves h, (onlyIn_nwStat _).nw_eq (by decide), raiseNw_modState, put_nw]

/-! ## The field side restarts (02 R45; 04 R117) -/

/-- Registers of the flights and of the Newel. -/
def flightKey (k : Nat) : Bool := k / 2 ^ 24 == 3 || k / 2 ^ 24 == 4 || k / 2 ^ 24 == 5

theorem flightKey_at {x : Fld} (h : x.key / 2 ^ 24 = 3) (f : Flt) : flightKey (x.at f).key = true := by
  cases f
  · rw [flightKey, show (x.at .a).key / 2 ^ 24 = 3 from h]; rfl
  · have hb : (x.at .b).key / 2 ^ 24 = 4 := by
      change (x.key + 1 * 2 ^ 24) / 2 ^ 24 = 4
      omega
    rw [flightKey, hb]; rfl

/-- A flight that is given up keeps every register outside the flights'. -/
theorem onlyIn_flReset (d : Dev) (f : Flt) : OnlyIn [.fa, .fb] flightKey d (d.flReset f) := by
  have hev : OnlyIn [.fa, .fb] flightKey d
      (if d.bit (FL_EVAC_BUSY.at f) then ((d.put (FL_EVAC_BUSY.at f) 0).put (FL_EVAC_DONE.at f) 1).put (FL_EVAC_RESULT.at f) E_SEQ else d) :=
    .ite ((((onlyIn_refl ..).put _ (flightKey_at rfl f)).put _ (flightKey_at rfl f)).put _ (flightKey_at rfl f)) (onlyIn_refl ..)
  have hup := hev.updFl f (fun x => { FlightSt.empty with
    words := x.words, ceCount := x.ceCount, retired := x.retired, ranges := x.ranges, ceDone := x.ceDone }) (by cases f <;> decide)
  refine ⟨fun p hp => hup.1 p hp, fun k hk => ?_⟩
  have hr : k / 2 ^ 24 ≠ 3 + f.num := by
    simp only [flightKey, Bool.or_eq_false_iff, beq_eq_false_iff_ne] at hk
    cases f
    · exact hk.1.1
    · exact hk.1.2
  have hp : (!(stairReg (k - f.num * 2 ^ 24) && k / 2 ^ 24 == 3 + f.num)) = true := by rw [beq_false_of_ne hr, Bool.and_false]; rfl
  refine Eq.trans ?_ (hup.2 k hk)
  exact (rd_filter _ (fun k => !(stairReg (k - f.num * 2 ^ 24) && k / 2 ^ 24 == 3 + f.num)) rfl k).trans (if_pos hp)

theorem onlyIn_restartFl (d : Dev) (f : Flt) : OnlyIn [.nw, .cor, .fa, .fb] flightKey d (d.restartFl f) :=
  .ite (onlyIn_refl ..) (((((onlyIn_flReset d f).mono (by decide) fun _ h => h).setFl f _ (by decide) (by decide) (by decide)).setFl f _
    (by decide) (by decide) (by decide)).updNw _ (by decide))

theorem setHeld_modState (n : NewelSt) (f : Flt) (b : Bool) : (n.setHeld f b).modState = n.modState := by cases f <;> rfl
theorem setRetry_modState (n : NewelSt) (f : Flt) (b : Option Nat) : (n.setRetry f b).modState = n.modState := by cases f <;> rfl

theorem restartFl_modState (d : Dev) (f : Flt) : (d.restartFl f).nw.modState = d.nw.modState := by
  unfold Dev.restartFl
  split
  · rfl
  · rw [updNw_nw, setRetry_modState, setHeld_modState, setFl_modState, setFl_modState, (onlyIn_flReset d f).nw_eq (by decide)]

theorem onlyIn_planEnds (d : Dev) (r : Nat) : OnlyIn [.nw, .cor] flightKey d (d.planEnds r) := by
  have h := (onlyIn_refl [.nw, .cor] flightKey d).updNw (fun n => { n with plan := none, switching := none, quarAfter := none }) (by decide)
  unfold Dev.planEnds
  split
  · exact h
  · exact (((h.put _ (by decide)).put _ (by decide)).put _ (by decide)).raiseNw _ (by decide) (by decide)

theorem OnlyIn.stairEnds {ps : List Part} {d e : Dev} (h : OnlyIn ps flightKey d e) (r : Nat) (hn : .nw ∈ ps) :
    OnlyIn ps flightKey d (e.stairEnds r) := (((h.updNw _ hn).put _ (by decide)).put _ (by decide)).nwStat (by decide)

/-- A restart of the field side keeps to the flights, the Newel and the lane. -/
theorem onlyIn_fieldRestart (d : Dev) : OnlyIn [.nw, .cor, .fa, .fb] flightKey d d.fieldRestart := by
  have hp := (onlyIn_planEnds d E_SEQ).mono (by decide : ∀ p ∈ _, p ∈ [Part.nw, .cor, .fa, .fb]) fun _ h => h
  exact (OnlyIn.trans (.updNw (.ite (hp.stairEnds _ (by decide)) hp) _ (by decide)) (onlyIn_restartFl _ .a)).trans (onlyIn_restartFl _ .b)

theorem fieldRestart_modState (d : Dev) : d.fieldRestart.nw.modState = msSelftest := by
  unfold Dev.fieldRestart Dev.bothFl
  rw [restartFl_modState, restartFl_modState, updNw_nw]

/-! ## The start of the field side (02 R45, R51, R54, R59) -/

theorem rd_clearReg_other (d : Dev) {k j : Nat} (h : j ≠ k) : (d.clearReg k).rd j = d.rd j := mget_mdel_other _ _ h

theorem OnlyIn.clearReg {ps : List Part} {ks : Nat → Bool} {d e : Dev} (h : OnlyIn ps ks d e) {k : Nat} (hk : ks k = true) :
    OnlyIn ps ks d (e.clearReg k) :=
  ⟨fun p hp => Part.same_trans (h.1 p hp) (by cases p <;> rfl),
    fun j hj => (rd_clearReg_other e fun hjk => by simp [hjk, hk] at hj).trans (h.2 j hj)⟩

/-- What a start notes of itself (02 R51, R57, R59). -/
def Dev.startNoted (d : Dev) : Dev :=
  d.updMod fun m => { m with
    fieldOnly := m.inService, committed := false, adopt := false
    scopeWarm := (d.startKind (match d.mod.snap with | some s => s.crcOk | none => false)).1, startDue := true, preDone := false }

/-- The Foyer's half of a start. -/
def Dev.startShown (d : Dev) (row : Nat) : Dev :=
  let k := d.startKind (match d.mod.snap with | some s => s.crcOk | none => false)
  ((d.startNoted.clearReg FY_STRESULT).setMod msSelftest row).showStart k.1 k.2.1 false

theorem fieldStart_eq (d : Dev) (row : Nat) :
    d.fieldStart row = if (d.startShown row).linkUp then (d.startShown row).fieldRestart else d.startShown row := rfl

theorem onlyIn_showStart (d : Dev) (w : Bool) (b : Nat) (f : Bool) : OnlyIn [] (fun k => k == FY_START) d (d.showStart w b f) :=
  ((((onlyIn_refl ..).put _ (by decide)).put _ (by decide)).put _ (by decide)).put _ (by decide)

theorem startShown_mst (d : Dev) (row : Nat) : (d.startShown row).mst = msSelftest :=
  ((onlyIn_showStart ..).get_eq (x := FY_MODSTATE_STATE) rfl).trans (setMod_mst _ row (by decide))

theorem startShown_mod (d : Dev) (row : Nat) : (d.startShown row).mod = d.startNoted.mod :=
  ((onlyIn_showStart ..).mod_eq (by decide)).trans ((setMod_mod _ row (by decide) (by decide)).trans rfl)

theorem startShown_linkUp (d : Dev) (row : Nat) : (d.startShown row).linkUp = d.linkUp := by
  have h := (onlyIn_showStart ((d.startNoted.clearReg FY_STRESULT).setMod msSelftest row)
    (d.startKind (match d.mod.snap with | some s => s.crcOk | none => false)).1
    (d.startKind (match d.mod.snap with | some s => s.crcOk | none => false)).2.1 false).cor_eq (by decide)
  have hl := setMod_linkUp (d.startNoted.clearReg FY_STRESULT) msSelftest row
  exact (congrArg (fun c : CorrSt => c.hostUp && c.fieldUp) h).trans (hl.trans rfl)

theorem onlyIn_startShown (d : Dev) (row : Nat) :
    OnlyIn [.mod, .arc, .upd, .cor] (orEvent [FY_MODSTATE, FY_START, FY_STRESULT]) d (d.startShown row) :=
  ((((onlyIn_refl ..).updMod (e := d) _ (by decide)).clearReg (k := FY_STRESULT) (by decide)).setMod msSelftest row (by decide)
    (by decide)).trans ((onlyIn_showStart ..).mono (by decide) fun k hk => by
      simp only [orEvent, Bool.or_eq_false_iff, List.contains_eq_mem, decide_eq_false_iff_not, List.mem_cons] at hk
      simp only [beq_eq_false_iff_ne]
      exact fun h => hk.1 (.inr (.inl h)))

/-- A start leaves the module in SELFTEST, and the field side with it where both sides hold the Corridor up. -/
theorem fieldStart_mst (d : Dev) (row : Nat) : (d.fieldStart row).mst = msSelftest := by
  rw [fieldStart_eq]
  split
  · exact ((onlyIn_fieldRestart _).get_eq rfl).trans (startShown_mst d row)
  · exact startShown_mst d row

theorem fieldStart_mod (d : Dev) (row : Nat) : (d.fieldStart row).mod = d.startNoted.mod := by
  rw [fieldStart_eq]
  split
  · exact ((onlyIn_fieldRestart _).mod_eq (by decide)).trans (startShown_mod d row)
  · exact startShown_mod d row

theorem fieldStart_modState (d : Dev) (row : Nat) :
    (d.fieldStart row).nw.modState = if d.linkUp then msSelftest else d.nw.modState := by
  rw [fieldStart_eq, startShown_linkUp]
  split
  · exact fieldRestart_modState _
  · rw [(onlyIn_startShown d row).nw_eq (by decide)]

end Sys2Proof.Machine
end

section
/-! O18: the edges of the supplies and the reset of the Foyer (02 R54; 21 R559 to R561). -/

namespace Sys2Proof.Machine

/-! ## A reset of the Foyer (15 R393; 16 R425; 02 R52) -/

/-- Registers of the Foyer. -/
def foyerKey (k : Nat) : Bool := k / 2 ^ 24 == 1

theorem foyerKey_of_eventKey {k : Nat} (h : eventKey k = true) : foyerKey k = true := by
  simp only [eventKey, Bool.or_eq_true, Bool.and_eq_true, decide_eq_true_eq, beq_iff_eq] at h
  unfold FY_EVPEND FY_ARCSTAT FY_ARCSUPP at h
  have h1 : k / 16777216 = 1 := by omega
  exact beq_iff_eq.2 h1

/-- A transition writes registers of the Foyer alone. -/
theorem onlyIn_setMod_foyer (d : Dev) (new row : Nat) : OnlyIn [.mod, .arc, .upd, .cor] foyerKey d (d.setMod new row) :=
  ((onlyIn_refl _ (orEvent [FY_MODSTATE]) d).setMod new row (fun _ h => h) (by decide)).mono (fun _ h => h) fun k hk => by
    have hm : k ≠ FY_MODSTATE := fun h => by rw [h] at hk; exact absurd hk (by decide)
    have he : eventKey k = false := Bool.eq_false_iff.2 fun h => by rw [foyerKey_of_eventKey h] at hk; exact absurd hk (by decide)
    simp [orEvent, he, hm]

/-- The parts of the Foyer's side. -/
def foyerParts : List Part := [.mod, .cor, .time, .host, .fmp, .eth, .arc, .und, .upd, .fmem]

/-- A reset leaves the field side, its registers and the journal. -/
theorem OnlyIn.foyerReset {d e : Dev} (h : OnlyIn foyerParts foyerKey d e) (por : Bool) : OnlyIn foyerParts foyerKey d (e.foyerReset por) := by
  refine (h.trans ⟨fun p hp => ?_, fun k hk => ?_⟩ : OnlyIn foyerParts foyerKey d _).put (x := FY_MODSTATE_FIELDPWR) _ (by decide)
    |>.put (x := FY_MODSTATE_PWRWARN) _ (by decide)
  · cases p <;> first | rfl | exact absurd (by decide) hp
  · refine (rd_filter e (fun k => decide (k / 2 ^ 24 ≠ 1) || backupReg k) rfl k).trans (if_pos ?_)
    have hr : k / 2 ^ 24 ≠ 1 := by simpa [foyerKey] using hk
    rw [decide_eq_true hr, Bool.true_or]

theorem foyerReset_mod (d : Dev) (por : Bool) : (d.foyerReset por).mod.vhin = d.mod.vhin ∧ (d.foyerReset por).mod.por = por ∧
    (d.foyerReset por).mod.started = false := by
  unfold Dev.foyerReset
  rw [put_mod, put_mod]
  exact ⟨rfl, rfl, rfl⟩

theorem foyerReset_landing (d : Dev) (por : Bool) : (d.foyerReset por).arc.landing = [] ∧ (d.foyerReset por).arc.warned = false := by
  unfold Dev.foyerReset
  rw [put_arc, put_arc]
  exact ⟨rfl, rfl⟩

theorem bitsOf_regReset_modstate : bitsOf (regReset FY_MODSTATE).toNat 3 0 = msBoot := by decide +kernel

/-- FY_MODSTATE resets to BOOT (02 R63). -/
theorem foyerReset_mst (d : Dev) (por : Bool) : (d.foyerReset por).mst = msBoot := by
  have hput : ∀ (e : Dev) a b, ((e.put FY_MODSTATE_FIELDPWR a).put FY_MODSTATE_PWRWARN b).mst = e.mst := fun e a b =>
    (get_put_other _ _ _ b rfl rfl rfl).trans (get_put_other _ _ _ a rfl rfl rfl)
  refine (hput _ _ _).trans (Eq.trans ?_ bitsOf_regReset_modstate)
  have hrd := rd_filter d (fun k => decide (k / 2 ^ 24 ≠ 1) || backupReg k) (e := { d with
    regs := d.regs.filter fun e => decide (e.1 / 2 ^ 24 ≠ 1) || backupReg e.1 }) rfl FY_MODSTATE
  exact congrArg (fun w : W32 => bitsOf w.toNat 3 0) (hrd.trans (if_neg (by decide)))

/-! ## VHIN and HRST -/

theorem mst_put_state (d : Dev) {v : Nat} (hv : v < 16) : (d.put FY_MODSTATE_STATE v).mst = v := get_put_same d _ v rfl hv

theorem vhinValid_eq (d : Dev) (h : d.mod.vhin = false) : d.vhinValid =
    (((d.foyerReset true).updMod fun m => { m with vhin := true }).put FY_MODSTATE_STATE msOff).setMod msBoot 1 := if_neg (by simp [h])

theorem vhinLost_eq (d : Dev) (w : Nat) (t : Bool) (h : d.mod.vhin = true) : d.vhinLost w t =
    ((((d.setMod msOff 17).arcPowerLost w t).foyerReset true).updMod fun m => { m with vhin := false }).put FY_MODSTATE_STATE msOff :=
  if_neg (by simp [h])

theorem onlyIn_arcPowerLost (d : Dev) (w : Nat) (t : Bool) : OnlyIn [.arc] noKey d (d.arcPowerLost w t) := onlyIn_updArc d _

theorem OnlyIn.arcPowerLost {ps : List Part} {ks : Nat → Bool} {d e : Dev} (h : OnlyIn ps ks d e) (w : Nat) (t : Bool) (hp : .arc ∈ ps) :
    OnlyIn ps ks d (e.arcPowerLost w t) := h.step hp (onlyIn_arcPowerLost e w t)

/-- A power-on reset of the Foyer leads from OFF to BOOT, with the transition's event as the only one. -/
theorem vhinValid_boots (d : Dev) (h : d.mod.vhin = false) : d.vhinValid.mst = msBoot ∧ d.vhinValid.mod.vhin = true ∧
    d.vhinValid.mod.por = true ∧ d.vhinValid.mod.started = false ∧
    d.vhinValid.arc.landing = [⟨.mk' .modState [0, 1, 1], false, false⟩] ∧ OnlyIn foyerParts foyerKey d d.vhinValid := by
  rw [vhinValid_eq d h]
  obtain ⟨-, hpor, hst⟩ := foyerReset_mod d true
  obtain ⟨hland, hwarn⟩ := foyerReset_landing d true
  have hf : OnlyIn foyerParts foyerKey d (d.foyerReset true) := (onlyIn_refl ..).foyerReset true
  generalize d.foyerReset true = e at hpor hst hland hwarn hf ⊢
  have hoff := mst_put_state (e.updMod fun m => { m with vhin := true }) (v := msOff) (by decide)
  have harc := (((onlyIn_refl [.mod] foyerKey e).updMod (fun m => { m with vhin := true }) (by decide)).put (x := FY_MODSTATE_STATE) msOff
    (by decide)).1 .arc (by decide)
  have hmod := put_mod (e.updMod fun m => { m with vhin := true }) FY_MODSTATE_STATE msOff
  have hfr := (hf.updMod (fun m => { m with vhin := true }) (by decide)).put (x := FY_MODSTATE_STATE) msOff (by decide)
  generalize (e.updMod fun m => { m with vhin := true }).put FY_MODSTATE_STATE msOff = o at hoff harc hmod hfr ⊢
  have hne : o.mst ≠ msBoot := by rw [hoff]; decide
  have hput : (o.put FY_MODSTATE_STATE msBoot).arc = e.arc := (put_arc ..).trans harc
  rw [setMod_mod o 1 (by decide) (by decide), hmod, setMod_arc 1 hne (by decide) (by decide),
    raiseFy_landing _ _ (by rw [hput, hland]; decide) (by rw [hput, hwarn]), hput, hland, hoff]
  exact ⟨setMod_mst o 1 (by decide), rfl, hpor, hst, rfl, hfr.trans ((onlyIn_setMod_foyer o msBoot 1).mono (by decide) fun _ h => h)⟩

theorem vhinLost_off (d : Dev) (w : Nat) (t : Bool) (h : d.mod.vhin = true) : (d.vhinLost w t).mst = msOff ∧
    (d.vhinLost w t).mod.vhin = false ∧ (d.vhinLost w t).mod.started = false ∧ OnlyIn foyerParts foyerKey d (d.vhinLost w t) := by
  rw [vhinLost_eq d w t h]
  have hl : OnlyIn foyerParts foyerKey d ((d.setMod msOff 17).arcPowerLost w t) :=
    ((onlyIn_setMod_foyer d msOff 17).mono (by decide) fun _ h => h).arcPowerLost w t (by decide)
  generalize (d.setMod msOff 17).arcPowerLost w t = e at hl ⊢
  obtain ⟨-, -, hst⟩ := foyerReset_mod e true
  have hf := hl.foyerReset true
  generalize e.foyerReset true = r at hst hf ⊢
  rw [put_mod, updMod_mod]
  exact ⟨mst_put_state _ (by decide), rfl, hst, (hf.updMod _ (by decide)).put _ (by decide)⟩

theorem hostReset_boots (d : Dev) (w : Nat) (t : Bool) : let u := (d.arcPowerLost w t).foyerReset true
    u.mst = msBoot ∧ u.mod.vhin = d.mod.vhin ∧ u.mod.started = false ∧ u.arc.landing = [] ∧ OnlyIn foyerParts foyerKey d u := by
  have hl := onlyIn_arcPowerLost d w t
  have hfr : OnlyIn foyerParts foyerKey d (d.arcPowerLost w t) := (onlyIn_refl ..).arcPowerLost w t (by decide)
  generalize d.arcPowerLost w t = e at hl hfr ⊢
  obtain ⟨hv, -, hst⟩ := foyerReset_mod e true
  rw [hl.mod_eq (by decide)] at hv
  exact ⟨foyerReset_mst e true, hv, hst, (foyerReset_landing e true).1, hfr.foyerReset true⟩

/-! ## VFIN -/

/-- Field power shows, and both flights are in RESET. -/
def Dev.fieldPowered (d : Dev) : Dev := ((d.put FY_MODSTATE_FIELDPWR 1).setFl .a fsReset).setFl .b fsReset

theorem bothFl_eq (d : Dev) (g : Flt → Dev → Dev) : d.bothFl g = g .b (g .a d) := rfl

theorem vfinValid_eq (d : Dev) (h : d.bit FY_MODSTATE_FIELDPWR = false) : d.vfinValid =
    if d.fieldPowered.mst = msHold ∧ d.fieldPowered.mod.cfgPresent ∧ d.fieldPowered.mod.holdVfin ∧ d.fieldPowered.mod.started then
      (d.fieldPowered.updMod fun m => { m with order := none }).fieldStart 16
    else d.fieldPowered := by
  unfold Dev.vfinValid
  rw [if_neg (by simp [h]), bothFl_eq]
  rfl

theorem onlyIn_fieldPowered (d : Dev) : OnlyIn [.cor, .nw] (fun k => k == FY_MODSTATE || k == NW_STAT) d d.fieldPowered :=
  (((onlyIn_refl ..).put _ (by decide)).setFl .a _ (by decide) (by decide) (by decide)).setFl .b _ (by decide) (by decide) (by decide)

/-- FY_MODSTATE beyond the field power: the flights' states are the Newel's. -/
theorem fieldPowered_get (d : Dev) {x : Fld} (hx : x.key = FY_MODSTATE) :
    d.fieldPowered.get x = (d.put FY_MODSTATE_FIELDPWR 1).get x :=
  OnlyIn.get_eq (ps := [.cor, .nw]) (ks := fun k => k == NW_STAT)
    (((onlyIn_refl ..).setFl .a _ (by decide) (by decide) (by decide)).setFl .b _ (by decide) (by decide) (by decide)) (by rw [hx]; rfl)

theorem fieldPowered_mst (d : Dev) : d.fieldPowered.mst = d.mst :=
  (fieldPowered_get d rfl).trans (get_put_other d _ _ 1 rfl rfl rfl)

theorem fieldPowered_bit (d : Dev) : d.fieldPowered.bit FY_MODSTATE_FIELDPWR = true :=
  (bit_of_get (fieldPowered_get d rfl)).trans (bit_put_same d FY_MODSTATE_FIELDPWR 1 rfl (by decide))

theorem fieldPowered_fst (d : Dev) : d.fieldPowered.fst .a = fsReset ∧ d.fieldPowered.fst .b = fsReset := by
  unfold Dev.fieldPowered
  exact ⟨(setFl_fst_other _ (by decide) _).trans (setFl_fst_same _ .a (by decide)), setFl_fst_same _ .b (by decide)⟩

theorem put_linkUp (d : Dev) (x : Fld) (v : Nat) : (d.put x v).linkUp = d.linkUp := by rw [Dev.linkUp, put_cor]; rfl

theorem updMod_linkUp (d : Dev) (g : ModSt → ModSt) : (d.updMod g).linkUp = d.linkUp := rfl

theorem fieldPowered_linkUp (d : Dev) : d.fieldPowered.linkUp = d.linkUp := by
  rw [Dev.fieldPowered, setFl_linkUp, setFl_linkUp, put_linkUp]

theorem fieldPowered_modState (d : Dev) : d.fieldPowered.nw.modState = d.nw.modState := by
  rw [Dev.fieldPowered, setFl_modState, setFl_modState, put_nw]

/-- The automatic start where HOLD stands for the loss of VFIN. -/
theorem vfinValid_starts (d : Dev) (h : d.bit FY_MODSTATE_FIELDPWR = false) (hm : d.mst = msHold) (hc : d.mod.cfgPresent = true)
    (hv : d.mod.holdVfin = true) (hs : d.mod.started = true) :
    d.vfinValid = (d.fieldPowered.updMod fun m => { m with order := none }).fieldStart 16 := by
  have hmod := (onlyIn_fieldPowered d).mod_eq (by decide)
  rw [vfinValid_eq d h, if_pos ⟨(fieldPowered_mst d).trans hm, by rw [hmod, hc], by rw [hmod, hv], by rw [hmod, hs]⟩]

/-- The module without field power, before its state follows (02 R54; 21 R561). -/
def Dev.unpowered (d : Dev) : Dev :=
  let d1 : Dev := { d with
    regs := d.regs.filter fun e => decide (e.1 / 2 ^ 24 < 3)
    nw := NewelSt.empty, fa := FlightSt.empty, fb := FlightSt.empty, gl := GallerySt.empty, lg := LoggiaSt.empty
    cor := { d.cor with
      up := { CrDir.zero with dups := d.cor.up.dups }, down := { d.cor.down with lastAcc := none, dups := 0 }
      fieldUp := false, hbField := 0, everField := false
      fieldStatus := [], upQ := [] } }
  ((d1.put FY_MODSTATE_FIELDPWR 0).put FY_MODSTATE_FASTATE 0).put FY_MODSTATE_FBSTATE 0

/-- What the module forgets with field power, its campaign on the restart path. -/
def Dev.powerForgot (d : Dev) : Dev :=
  d.campRestart.updMod fun m => { m with
    inService := false, committed := false, fieldOnly := false, adopt := false, gradField := []
    blockFaults := m.blockFaults.filter fun e => decide (e.1 < 3) }

theorem vfinLost_eq (d : Dev) (h : d.bit FY_MODSTATE_FIELDPWR = true) : d.vfinLost =
    if d.unpowered.powerForgot.mst = msOff then d.unpowered.powerForgot
    else ((d.unpowered.powerForgot.setMod msHold 15).updMod fun m => { m with holdVfin := true }).statusNow true := if_neg (by simp [h])

theorem unpowered_mst (d : Dev) : d.unpowered.mst = d.mst := by
  have hput : ∀ (e : Dev) a b c, (((e.put FY_MODSTATE_FIELDPWR a).put FY_MODSTATE_FASTATE b).put FY_MODSTATE_FBSTATE c).mst = e.mst :=
    fun e a b c => ((get_put_other _ _ _ c rfl rfl rfl).trans (get_put_other _ _ _ b rfl rfl rfl)).trans (get_put_other _ _ _ a rfl rfl rfl)
  refine (hput _ _ _ _).trans (get_of_rd ?_)
  exact (rd_filter d (fun k => decide (k / 2 ^ 24 < 3)) rfl FY_MODSTATE).trans (if_pos (by decide))

theorem unpowered_bit (d : Dev) : d.unpowered.bit FY_MODSTATE_FIELDPWR = false :=
  (bit_put_other _ _ _ 0 rfl rfl rfl).trans ((bit_put_other _ _ _ 0 rfl rfl rfl).trans (bit_put_same _ FY_MODSTATE_FIELDPWR 0 rfl (by decide)))

theorem unpowered_parts (d : Dev) : d.unpowered.fa = FlightSt.empty ∧ d.unpowered.fb = FlightSt.empty ∧
    d.unpowered.gl = GallerySt.empty ∧ d.unpowered.lg = LoggiaSt.empty := by
  unfold Dev.unpowered
  rw [put_fa, put_fa, put_fa, put_fb, put_fb, put_fb, put_gl, put_gl, put_gl, put_lg, put_lg, put_lg]
  exact ⟨rfl, rfl, rfl, rfl⟩

theorem onlyIn_powerForgot (d : Dev) : OnlyIn [.jnl, .mod] noKey d d.powerForgot :=
  ((onlyIn_refl [.jnl, .mod] noKey d).updJnl (fun j => { j with camp := _ }) (by decide)).updMod _ (by decide)

/-- HOLD keeps whether a flight has been in service. -/
theorem setMod_hold_inService (d : Dev) (row : Nat) : (d.setMod msHold row).mod.inService = d.mod.inService := by
  by_cases h : d.mst = msHold
  · rw [setMod_same row h]
  · rw [setMod_hold_mod d row h]

theorem OnlyIn.gl_eq {ps : List Part} {ks : Nat → Bool} {d e : Dev} (h : OnlyIn ps ks d e) (hp : .gl ∉ ps) : e.gl = d.gl := h.1 .gl hp
theorem OnlyIn.lg_eq {ps : List Part} {ks : Nat → Bool} {d e : Dev} (h : OnlyIn ps ks d e) (hp : .lg ∉ ps) : e.lg = d.lg := h.1 .lg hp

theorem vfinLost_holds (d : Dev) (h : d.bit FY_MODSTATE_FIELDPWR = true) (hm : d.mst ≠ msOff) : d.vfinLost.mst = msHold ∧
    d.vfinLost.bit FY_MODSTATE_FIELDPWR = false ∧ d.vfinLost.fa = FlightSt.empty ∧ d.vfinLost.fb = FlightSt.empty ∧
    d.vfinLost.gl = GallerySt.empty ∧ d.vfinLost.lg = LoggiaSt.empty ∧ d.vfinLost.mod.inService = false ∧
    d.vfinLost.mod.holdVfin = true := by
  rw [vfinLost_eq d h]
  obtain ⟨hfa, hfb, hgl, hlg⟩ := unpowered_parts d
  have hmst := unpowered_mst d
  have hbit := unpowered_bit d
  generalize d.unpowered = e at hfa hfb hgl hlg hmst hbit ⊢
  have hf := onlyIn_powerForgot e
  have hserv : e.powerForgot.mod.inService = false := by rw [Dev.powerForgot, updMod_mod]
  generalize e.powerForgot = p at hf hserv ⊢
  have hpm : p.mst = d.mst := (hf.get_eq rfl).trans hmst
  rw [if_neg (by rwa [hpm])]
  have hset := setMod_mst p (new := msHold) 15 (by decide)
  have hpow := setMod_bit p msHold 15 (x := FY_MODSTATE_FIELDPWR) rfl rfl rfl
  have hin := setMod_hold_inService p 15
  have hfr := onlyIn_setMod_foyer p msHold 15
  generalize p.setMod msHold 15 = q at hset hpow hin hfr ⊢
  have hkept : ∀ m : ModSt, ({ m with holdVfin := true } : ModSt).inService = m.inService := fun _ => rfl
  have hq : OnlyIn [.mod, .cor] noKey q ((q.updMod fun m => { m with holdVfin := true }).statusNow true) :=
    ((onlyIn_refl ..).updMod _ (by decide)).statusNow_host (by decide)
  rw [statusNow_host_mod, updMod_mod, hq.fa_eq (by decide), hq.fb_eq (by decide), hq.gl_eq (by decide), hq.lg_eq (by decide),
    hfr.fa_eq (by decide), hfr.fb_eq (by decide), hfr.gl_eq (by decide), hfr.lg_eq (by decide), hf.fa_eq (by decide), hf.fb_eq (by decide),
    hf.gl_eq (by decide), hf.lg_eq (by decide)]
  exact ⟨(hq.get_eq rfl).trans hset, (hq.bit_eq rfl).trans (hpow.trans ((hf.bit_eq rfl).trans hbit)), hfa, hfb, hgl, hlg, (hkept _).trans (hin.trans hserv), rfl⟩

/-- Settles O18: each edge by the branch that its condition opens. -/
theorem supplyEdgesMoveTheModuleState : Obligations.SupplyEdgesMoveTheModuleState := by
  intro s
  refine ⟨fun hv => answers_of_upd (g := Dev.vhinValid) rfl ?_, fun hv w t => answers_of_upd (g := fun d => d.vhinLost w t) rfl ?_,
    fun hv w t => answers_of_upd (g := fun d => d.when d.mod.vhin fun d => (d.arcPowerLost w t).foyerReset true) rfl ?_,
    fun hp hm => answers_of_upd (g := Dev.vfinValid) rfl ?_, fun hp hm hc hv hs => answers_of_upd (g := Dev.vfinValid) rfl ?_,
    fun hp hm => answers_of_upd (g := Dev.vfinLost) rfl (vfinLost_holds s.dev hp hm)⟩
  · obtain ⟨h1, h2, h3, h4, h5, h6⟩ := vhinValid_boots s.dev hv
    exact ⟨h1, h2, h3, h4, h5, h6⟩
  · obtain ⟨h1, h2, h3, h4⟩ := vhinLost_off s.dev w t hv
    exact ⟨h1, h2, h3, h4⟩
  · obtain ⟨h1, h2, h3, h4, h5⟩ := hostReset_boots s.dev w t
    dsimp only
    rw [when_pos _ _ hv]
    exact ⟨h1, h2.trans hv, h3, h4, h5⟩
  · rw [vfinValid_eq s.dev hp, if_neg fun h => hm ((fieldPowered_mst _).symm.trans h.1)]
    exact ⟨fieldPowered_bit _, (fieldPowered_fst _).1, (fieldPowered_fst _).2, fieldPowered_mst _, onlyIn_fieldPowered _⟩
  · rw [vfinValid_starts s.dev hp hm hc hv hs]
    refine ⟨fieldStart_mst _ 16, ?_⟩
    rw [fieldStart_modState, updMod_nw, fieldPowered_modState, updMod_linkUp, fieldPowered_linkUp]

end Sys2Proof.Machine
end

section
/-! The start of the Foyer's firmware: what each of its steps leaves of the module state, the failure record, the bank map, the lanes and
the journal (02 R45, R48). -/

namespace Sys2Proof.Machine

/-! ## What the firmware's start keeps -/

/-- Registers of the Foyer but the module state, the record of failed tests and the map of its banks. -/
def bootKey (k : Nat) : Bool :=
  foyerKey k && k != FY_MODSTATE && k != FY_STRESULT && !(decide (FY_BANKPHYS ≤ k) && decide (k < FY_BANKPHYS + 16))

theorem bootKey_of_bounds {k : Nat} (hl : FY_STRESULT < k) (hu : k < FY_BANKPHYS) : bootKey k = true := by
  unfold FY_STRESULT at hl
  unfold FY_BANKPHYS at hu
  have h1 : k / 16777216 = 1 := by omega
  have hf : foyerKey k = true := beq_iff_eq.2 h1
  have hm : k ≠ FY_MODSTATE := by unfold FY_MODSTATE; omega
  have hs : k ≠ FY_STRESULT := by unfold FY_STRESULT; omega
  have hb : ¬FY_BANKPHYS ≤ k := by unfold FY_BANKPHYS; omega
  simp [bootKey, hf, hm, hs, hb]

theorem bootKey_of_eventKey {k : Nat} (h : eventKey k = true) : bootKey k = true := by
  simp only [eventKey, Bool.or_eq_true, Bool.and_eq_true, decide_eq_true_eq, beq_iff_eq] at h
  unfold FY_EVPEND FY_ARCSTAT FY_ARCSUPP at h
  exact bootKey_of_bounds (by unfold FY_STRESULT; omega) (by unfold FY_BANKPHYS; omega)

/-- Events keep to any frame that holds the registers of events. -/
theorem OnlyIn.event {ps : List Part} {ks : Nat → Bool} {d e : Dev} (h : OnlyIn ps ks d e) (hk : ∀ k, eventKey k = true → ks k = true)
    {i : EvId} (p : List Int) (hi : i ≠ .fyTalarm) (hp : .arc ∈ ps) : OnlyIn ps ks d (e.raiseFy (.mk' i p)) :=
  h.trans ((onlyIn_raiseFy e _ (sources_lt i p hi) (hi_lt i)).mono (by simpa using hp) fun k hf => by
    rw [orEvent_nil]
    exact Bool.eq_false_iff.2 fun he => by rw [hk k he] at hf; exact absurd hf (by decide))

/-- What a step of the firmware's start leaves. -/
structure BootKept (d e : Dev) : Prop where
  regs : ∀ k, bootKey k = false → e.rd k = d.rd k
  hold : e.mod.romHold = d.mod.romHold
  started : e.mod.started = d.mod.started
  layout : e.jnl.layout = d.jnl.layout
  camp : d.jnl.camp = none → e.jnl.camp = none
  spare : e.cor.down.spare = d.cor.down.spare
  lost : e.cor.up.lost = d.cor.up.lost
  nw : e.nw = d.nw

theorem BootKept.refl (d : Dev) : BootKept d d := ⟨fun _ _ => rfl, rfl, rfl, rfl, id, rfl, rfl, rfl⟩

theorem BootKept.trans {d e f : Dev} (h : BootKept d e) (k : BootKept e f) : BootKept d f :=
  ⟨fun j hj => (k.regs j hj).trans (h.regs j hj), k.hold.trans h.hold, k.started.trans h.started, k.layout.trans h.layout,
    fun hc => k.camp (h.camp hc), k.spare.trans h.spare, k.lost.trans h.lost,
    k.nw.trans h.nw⟩

theorem OnlyIn.bootKept {ps : List Part} {d e : Dev} (h : OnlyIn ps bootKey d e) (hm : .mod ∉ ps) (hj : .jnl ∉ ps) (hc : .cor ∉ ps)
    (hn : .nw ∉ ps) : BootKept d e := by
  refine ⟨h.2, ?_, ?_, ?_, ?_, ?_, ?_, h.nw_eq hn⟩
  · rw [h.mod_eq hm]
  · rw [h.mod_eq hm]
  · rw [h.jnl_eq hj]
  · rw [h.jnl_eq hj]; exact id
  · rw [h.cor_eq hc]
  · rw [h.cor_eq hc]

theorem BootKept.ite {c : Prop} [Decidable c] {d e f : Dev} (h : BootKept d e) (k : BootKept d f) : BootKept d (if c then e else f) := by
  split <;> assumption

theorem BootKept.foldl {α : Type} {g : Dev → α → Dev} {l : List α} (hg : ∀ d, ∀ a ∈ l, BootKept d (g d a)) (d : Dev) :
    BootKept d (l.foldl g d) := by
  induction l generalizing d with
  | nil => exact .refl d
  | cons a t ih => exact (hg d a (by simp)).trans (ih (fun d b hb => hg d b (by simp [hb])) _)

theorem BootKept.wr {d e : Dev} (h : BootKept d e) {k : Nat} (v : W32) (hk : bootKey k = true) : BootKept d (e.wr k v) :=
  h.trans (OnlyIn.bootKept (ps := []) ((onlyIn_refl ..).wr v hk) (by decide) (by decide) (by decide) (by decide))

theorem BootKept.put {d e : Dev} (h : BootKept d e) {x : Fld} (v : Nat) (hk : bootKey x.key = true) : BootKept d (e.put x v) := h.wr _ hk

theorem BootKept.event {d e : Dev} (h : BootKept d e) {i : EvId} (p : List Int) (hi : i ≠ .fyTalarm) : BootKept d (e.raiseFy (.mk' i p)) :=
  h.trans (OnlyIn.bootKept (ps := [.arc]) ((onlyIn_refl ..).event (fun _ => bootKey_of_eventKey) p hi (by decide)) (by decide) (by decide) (by decide)
    (by decide))

theorem BootKept.journal {d e : Dev} (h : BootKept d e) {g : JournalSt → JournalSt} (hl : (g e.jnl).layout = e.jnl.layout)
    (hc : e.jnl.camp = none → (g e.jnl).camp = none) : BootKept d (e.updJnl g) :=
  h.trans ⟨fun _ _ => rfl, rfl, rfl, hl, hc, rfl, rfl, rfl⟩

theorem BootKept.module {d e : Dev} (h : BootKept d e) {g : ModSt → ModSt} (hr : (g e.mod).romHold = e.mod.romHold)
    (hs : (g e.mod).started = e.mod.started) : BootKept d (e.updMod g) :=
  h.trans ⟨fun _ _ => rfl, hr, hs, rfl, id, rfl, rfl, rfl⟩

/-- The other parts may change as they will. -/
theorem BootKept.part {d e f : Dev} {ps : List Part} (h : BootKept d e) (k : OnlyIn ps noKey e f)
    (hp : Part.mod ∉ ps ∧ Part.jnl ∉ ps ∧ Part.cor ∉ ps ∧ Part.nw ∉ ps) : BootKept d f :=
  h.trans (OnlyIn.bootKept (k.mono (fun _ h => h) fun _ _ => rfl) hp.1 hp.2.1 hp.2.2.1 hp.2.2.2)

theorem onlyIn_updUnd (d : Dev) (g : UnderSt → UnderSt) : OnlyIn [.und] noKey d (d.updUnd g) :=
  onlyIn_part .und rfl fun p h => by cases p <;> simp [Part.same] at h ⊢

theorem onlyIn_updEth (d : Dev) (g : EthSt → EthSt) : OnlyIn [.eth] noKey d (d.updEth g) :=
  onlyIn_part .eth rfl fun p h => by cases p <;> simp [Part.same] at h ⊢

theorem onlyIn_updFmp (d : Dev) (g : FmpSt → FmpSt) : OnlyIn [.fmp] noKey d (d.updFmp g) :=
  onlyIn_part .fmp rfl fun p h => by cases p <;> simp [Part.same] at h ⊢

/-- A message to the field side. -/
theorem BootKept.sent {d e f : Dev} (h : BootKept d e) (k : OnlyIn [.cor] noKey e f) (hl : f.cor.link = e.cor.link) : BootKept d f := by
  have hs : f.cor.link.down.spare = e.cor.link.down.spare := by rw [hl]
  have hu : f.cor.link.up.lost = e.cor.link.up.lost := by rw [hl]
  exact h.trans ⟨fun j _ => k.2 j rfl, by rw [k.mod_eq (by decide)], by rw [k.mod_eq (by decide)], by rw [k.jnl_eq (by decide)],
    by rw [k.jnl_eq (by decide)]; exact id, hs, hu, k.nw_eq (by decide)⟩

theorem BootKept.statusNow {d e : Dev} (h : BootKept d e) : BootKept d (e.statusNow true) :=
  h.sent (OnlyIn.statusNow_host (onlyIn_refl _ _ e) (by decide)) (statusNow_host_link e)

theorem BootKept.request {d e : Dev} (h : BootKept d e) (typ : Nat) (p : List Byte) (more : Bool) : BootKept d (e.request typ p more) :=
  h.sent ((onlyIn_refl ..).sendReq _ more (by decide)) rfl

/-! ## The slots and the campaign (18 R500, R504) -/

theorem BootKept.setSlotWord {d e : Dev} (h : BootKept d e) {i : Nat} (hi : i < 9) (v : Nat) : BootKept d (e.setSlotWord i v) :=
  .ite ((h.journal rfl id).wr _ (bootKey_of_bounds (by unfold FY_STRESULT FY_UPDSLOT; omega) (by unfold FY_BANKPHYS FY_UPDSLOT; omega)))
    (h.journal rfl id)

theorem revertMark_none {d : Dev} (h : d.jnl.camp = none) (cause : Nat) : d.revertMark cause = d := by
  simp [Dev.revertMark, h]

theorem reverting_none {d : Dev} (h : d.jnl.camp = none) : d.reverting = false := by
  simp [Dev.reverting, h]

theorem BootKept.revertMark {d e : Dev} (h : BootKept d e) (hc : d.jnl.camp = none) (cause : Nat) : BootKept d (e.revertMark cause) := by
  rw [revertMark_none (h.camp hc)]
  exact h

theorem BootKept.setSlotRun {d e : Dev} (h : BootKept d e) {i : Nat} (hi : i < 9) (s : Nat) : BootKept d (e.setSlotRun i s) := h.setSlotWord hi _

theorem BootKept.loadFail {d e : Dev} (h : BootKept d e) (i s : Nat) : BootKept d (e.loadFail i s) := h.event _ (by decide)

/-- Without a campaign a start only chooses its slot, and counts a trial. -/
theorem bootKept_trialStart (d : Dev) {i : Nat} (hi : i < 9) (bad : Bool) (hc : d.jnl.camp = none) : BootKept d (d.trialStart i bad) := by
  unfold Dev.trialStart
  split
  · exact (BootKept.ite ((BootKept.refl d).loadFail i _) (.refl d)).setSlotRun hi _
  · have htry := (BootKept.refl d).setSlotWord hi (putBits (d.slotWord i) 10 9 (d.trials i + 1))
    exact .ite ((BootKept.refl d).setSlotRun hi _) (.ite (((BootKept.refl d).setSlotRun hi _).revertMark hc 1)
      (.ite (((htry.loadFail i _).setSlotRun hi _).revertMark hc 2) (htry.setSlotRun hi _)))

theorem bootKept_campBoot (d : Dev) : BootKept d d.campBoot :=
  .ite ((BootKept.refl d).journal rfl fun h => by rw [h]; rfl) ((BootKept.refl d).journal rfl fun _ => rfl)

theorem bootKept_settingsCheck (d : Dev) (known oldest slot : Nat) (hc : d.jnl.camp = none) :
    BootKept d (d.settingsCheck known oldest slot) := by
  unfold Dev.settingsCheck
  split
  · exact .refl d
  · next c _ =>
    have hs := ((BootKept.refl d).event (i := .fyUpdSchema) [1, c.schema, known] (by decide)).put (x := FY_UPDSTAT_SCHEMAERR) 1 (by decide)
    rw [revertMark_none (hs.camp hc)]
    exact .ite (.refl d) (.ite ((BootKept.refl d).journal rfl id) hs)

theorem bootKept_slotShow (d : Dev) : BootKept d d.slotShow :=
  .foldl (fun e i hi => (BootKept.refl e).wr _ (by
    have hi := List.mem_range.1 hi
    exact bootKey_of_bounds (by unfold FY_STRESULT FY_UPDSLOT; omega) (by unfold FY_BANKPHYS FY_UPDSLOT; omega))) d

theorem bootKept_measure (d : Dev) (n v : Nat) : BootKept d (d.measure n v) := .ite (.refl d) ((BootKept.refl d).module rfl rfl)

/-! ## The core domain, the keys and the sessions (16 R425; 17 R469) -/

theorem bootKept_ldShow (d : Dev) {n : Nat} (hn : n < 8) : BootKept d (d.ldShow n) := by
  have hk : bootKey (FY_LDSTAT + 16 * n) = true := bootKey_of_bounds (by unfold FY_STRESULT FY_LDSTAT; omega) (by unfold FY_BANKPHYS FY_LDSTAT; omega)
  exact (((BootKept.refl d).put _ hk).put _ hk).put _ hk

/-- Every alcove shows that it is empty. -/
def Dev.alcovesEmpty (d : Dev) : Dev :=
  (List.range 32).foldl (fun d a => (d.put (alcFull a) 0).put (alc FY_ALCCTL_TIMEOUT a) 0) d

/-- Every landing shows its level. -/
def Dev.landingsShown (d : Dev) : Dev := (List.range 8).foldl (fun d n => d.ldShow n) d

theorem coreUp_eq (d : Dev) : d.coreUp = (d.updHost fun h => { h with
    coreDown := false, alcoves := [], waiting := [], items := [], packers := [], words := [], ldWait := [] }).alcovesEmpty.landingsShown := rfl

theorem bootKept_alcovesEmpty (d : Dev) : BootKept d d.alcovesEmpty := by
  refine .foldl (fun e a ha => ?_) d
  have ha := List.mem_range.1 ha
  have hk : bootKey (FY_ALCCTL + 16 * a) = true :=
    bootKey_of_bounds (by unfold FY_STRESULT FY_ALCCTL; omega) (by unfold FY_BANKPHYS FY_ALCCTL; omega)
  exact ((BootKept.refl e).put _ hk).put _ hk

theorem bootKept_landingsShown (d : Dev) : BootKept d d.landingsShown :=
  .foldl (fun e _ hn => bootKept_ldShow e (List.mem_range.1 hn)) d

theorem bootKept_coreUp (d : Dev) : BootKept d d.coreUp := by
  rw [coreUp_eq]
  exact (((BootKept.refl d).part (onlyIn_updHost d _) (by decide)).trans (bootKept_alcovesEmpty _)).trans (bootKept_landingsShown _)

theorem BootKept.ucShow {d e : Dev} (h : BootKept d e) : BootKept d e.ucShow :=
  (((((h.wr _ (by decide)).wr _ (by decide)).wr _ (by decide)).wr _ (by decide)).put _ (by decide)).put _ (by decide)

theorem BootKept.setSlot {d e : Dev} (h : BootKept d e) (s : Nat) (a : KeyAttr) : BootKept d (e.setSlot s a) :=
  h.part (onlyIn_updUnd e _) (by decide)

/-- The key slots as the Undercroft reads them. -/
def Dev.keysRead (d : Dev) (debug : Bool) (bad : List (Nat × Nat)) : Dev :=
  let torn := bad.foldl (fun m e => mput m e.1 ((mget ⟨some emptyKey, some emptyKey⟩ m e.1).mount e.2)) d.jnl.keys
  (((d.updJnl fun j => { j with keys := if debug then j.keys else torn }).put FY_UCSTAT_LIFECYCLE (if debug then 3 else 2)).put
    FY_UCSTAT_TESTROOT (b2n debug)).updUnd fun u => { u with slots := vendorSlots debug, pend := [], ctxs := [] }

/-- The key slots shown, with the events of debug and of lost copies. -/
def Dev.keysTold (d : Dev) (debug : Bool) : Dev :=
  if debug then d.raiseFy (.mk' .fyLifecycleDebug [((Config.serial % 2 ^ 32 : Nat) : Int)])
  else d.jnl.keys.foldl (fun d e =>
    let d' := d.setSlot e.1 e.2.best
    if e.2.lost = 0 then d' else d'.raiseFy (.mk' .fyKeyStoreRecover [e.1, e.2.lost])) d

theorem keyMount_eq (d : Dev) (debug : Bool) (bad : List (Nat × Nat)) : d.keyMount debug bad =
    (((d.keysRead debug bad).keysTold debug).put FY_UCSTAT_KSOK (b2n (debug || (d.keysRead debug bad).jnl.keys.all fun e => e.2.lost == 0))).ucShow := rfl

theorem bootKept_keysRead (d : Dev) (debug : Bool) (bad : List (Nat × Nat)) : BootKept d (d.keysRead debug bad) :=
  ((((BootKept.refl d).journal rfl id).put _ (by decide)).put _ (by decide)).part (onlyIn_updUnd _ _) (by decide)

theorem bootKept_keysTold (d : Dev) (debug : Bool) : BootKept d (d.keysTold debug) :=
  .ite ((BootKept.refl d).event _ (by decide)) (.foldl (fun e _ _ => .ite ((BootKept.refl e).setSlot _ _)
    (((BootKept.refl e).setSlot _ _).event _ (by decide))) d)

theorem bootKept_keyMount (d : Dev) (debug : Bool) (bad : List (Nat × Nat)) : BootKept d (d.keyMount debug bad) := by
  rw [keyMount_eq]
  exact (((bootKept_keysRead d debug bad).trans (bootKept_keysTold _ debug)).put _ (by decide)).ucShow

theorem BootKept.fmpShow {d e : Dev} (h : BootKept d e) : BootKept d e.fmpShow :=
  ((h.put _ (by decide)).put _ (by decide)).put _ (by decide)

theorem bootKept_sesClose (d : Dev) (cause ses : Nat) : BootKept d (d.sesClose cause ses) := by
  have hdisc := BootKept.ucShow (((BootKept.refl d).part (onlyIn_updFmp d fun m => { m with sessions := mdel m.sessions ses }) (by decide)).part
    (onlyIn_updUnd _ fun u => { u with pend := u.pend.filter fun e => e.2.session ≠ ses }) (by decide))
  have hload := (hdisc.part (onlyIn_updArc _ fun a => { a with nonces := a.nonces.filter fun x => x.1 ≠ ses }) (by decide)).part
    (onlyIn_updUpd _ fun u => { u with loads := u.loads.filter fun l => l.2.1 ≠ ses }) (by decide)
  exact .ite (.refl d) ((BootKept.ite (hload.request _ _ _) hload).event _ (by decide)).fmpShow

theorem bootKept_sesCloseAll (d : Dev) (cause : Nat) : BootKept d (d.sesCloseAll cause) :=
  ((BootKept.foldl (fun e s _ => bootKept_sesClose e cause s.1) d).trans (.foldl (fun e s _ => ((BootKept.refl e).setSlot _ _).ucShow) _)).part
    (onlyIn_updFmp _ _) (by decide)

/-! ## Records, time and the network (15 R409; 19 R516) -/

theorem BootKept.arcShow {d e : Dev} (h : BootKept d e) : BootKept d e.arcShow :=
  ((h.wr _ (by decide)).put _ (by decide)).put _ (by decide)

theorem BootKept.updArc {d e : Dev} (h : BootKept d e) (g : ArcSt → ArcSt) : BootKept d (e.updArc g) := h.part (onlyIn_updArc e g) (by decide)

theorem bootKept_clearDone (d : Dev) : BootKept d d.clearDone := by
  unfold Dev.clearDone
  split
  · exact .refl d
  · exact .ite ((((BootKept.refl d).updArc _).put _ (by decide)).journal rfl id).arcShow (.refl d)

theorem bootKept_mountClear (d : Dev) : BootKept d d.mountClear := by
  unfold Dev.mountClear
  split
  · exact .refl d
  · exact .ite (.ite (((BootKept.refl d).updArc _).trans (bootKept_clearDone _)) (.refl d)) ((BootKept.refl d).event _ (by decide))

theorem bootKept_arcMount (d : Dev) : BootKept d d.arcMount := by
  have hring := ((((BootKept.refl d).updArc fun a => { a with ring := d.arc.ring.filter fun r => !r.torn }).put (x := FY_ARCSTAT_TORN)
    (min (d.arc.ring.filter (·.torn)).length 0xFF) (by decide)).put (x := FY_ARCEPOCH_EPOCH) d.jnl.epoch (by decide)).put
      (x := FY_ARCEPOCH_CLEARS) d.jnl.clears (by decide)
  unfold Dev.arcMount
  refine BootKept.arcShow (BootKept.trans ?_ (bootKept_mountClear _))
  have htorn := fun v : W32 => BootKept.ite (c := (d.arc.ring.filter (·.torn)).length = 0) (hring.wr (k := FY_ARCNEXT) v (by decide))
    ((hring.wr (k := FY_ARCNEXT) v (by decide)).event (i := .fyArcTorn) [((d.arc.ring.filter (·.torn)).length : Nat)] (by decide))
  split
  · exact .ite (htorn _) ((htorn _).event _ (by decide))
  · exact htorn _

theorem bootKept_setTimeSource (d : Dev) (src : Nat) : BootKept d (d.setTimeSource src) := by
  have hput := ((BootKept.refl d).put (x := FY_TBSTAT_SOURCE) src (by decide)).put (x := FY_TBSTAT_TRUST) (b2n (src != 0)) (by decide)
  exact .ite hput (hput.event _ (by decide)).statusNow

theorem BootKept.updTime {d e : Dev} (h : BootKept d e) (g : TimeSt → TimeSt) : BootKept d (e.updTime g) := h.part (onlyIn_updTime e g) (by decide)

theorem bootKept_bkWrite (d : Dev) {i : Nat} (hi : i < 31) (v : W32) : BootKept d (d.bkWrite i v) :=
  ((BootKept.refl d).wr _ (bootKey_of_bounds (by unfold FY_STRESULT FY_BKRAM; omega) (by unfold FY_BANKPHYS FY_BKRAM; omega))).wr _ (by decide)

/-- The backup RAM is cleared. -/
def Dev.bkCleared (d : Dev) (ramok : Bool) : Dev := if ramok then d else (List.range 31).foldl (fun d i => d.bkWrite i 0) d

/-- The backup domain as the start shows it, with its events (15 R415). -/
def Dev.bkShown (d : Dev) (ramok lost osf : Bool) (pc1 : Nat) (g : TimeSt → TimeSt) : Dev :=
  let d2 := ((((d.bkCleared ramok).put FY_BKSTAT_RAMOK (b2n ramok)).wr FY_PWRCYC (BitVec.ofNat 32 pc1)).updJnl fun j => { j with
    pwrcyc := pc1 }).updTime g
  let d3 := if lost then d2.raiseFy (.mk' .fyBklost [pc1]) else d2
  if osf then d3.raiseFy (.mk' .fyRtcOsf []) else d3

theorem bootKept_bkCleared (d : Dev) (b : Bool) : BootKept d (d.bkCleared b) :=
  .ite (.refl d) (.foldl (fun e _ hi => bootKept_bkWrite e (List.mem_range.1 hi) 0) d)

theorem bootKept_bkShown (d : Dev) (ramok lost osf : Bool) (pc1 : Nat) (g : TimeSt → TimeSt) : BootKept d (d.bkShown ramok lost osf pc1 g) := by
  have h2 := ((((bootKept_bkCleared d ramok).put (x := FY_BKSTAT_RAMOK) (b2n ramok) (by decide)).wr (k := FY_PWRCYC) (BitVec.ofNat 32 pc1)
    (by decide)).journal (g := fun j => { j with pwrcyc := pc1 }) rfl id).updTime g
  have h3 := BootKept.ite (c := lost = true) (h2.event (i := .fyBklost) [pc1] (by decide)) h2
  exact .ite (h3.event _ (by decide)) h3

/-- Time, backup RAM and operating seconds: from the backup domain where it kept them, or from the journal (15 R409, R412). -/
theorem bootKept_timeInit (d : Dev) : BootKept d d.timeInit := by
  unfold Dev.timeInit
  have hrate := fun r l o p g u v => ((bootKept_bkShown d r l o p g).updTime u).wr (k := FY_TBRATE) v (by decide)
  refine BootKept.ite ?_ (hrate _ _ _ _ _ _ _)
  generalize d.rtcSet = set
  cases set with
  | none => exact hrate _ _ _ _ _ _ _
  | some s => exact BootKept.ite ((hrate _ _ _ _ _ _ _).trans (bootKept_setTimeSource _ 1)) (hrate _ _ _ _ _ _ _)

theorem bootKept_ethStart (d : Dev) : BootKept d d.ethStart := ((BootKept.refl d).put _ (by decide)).part (onlyIn_updEth _ _) (by decide)

/-! ## The firmware's start as a whole -/

/-- What the firmware's start comes to: it runs, and a layout copy that was valid is now in both places. -/
structure Booted (d e : Dev) : Prop where
  regs : ∀ k, bootKey k = false → e.rd k = d.rd k
  hold : e.mod.romHold = d.mod.romHold
  started : e.mod.started = true
  layout : d.laidOut = true → e.jnl.layout.all layoutOk = true
  camp : e.jnl.camp = none
  spare : e.cor.down.spare = d.cor.down.spare
  lost : e.cor.up.lost = d.cor.up.lost

/-- The firmware writes an invalid copy again from a valid one (20 R530). -/
theorem layoutRepair_all (d : Dev) (h : d.laidOut = true) : d.layoutRepair.jnl.layout.all layoutOk = true := by
  obtain ⟨b, hb⟩ := Option.isSome_iff_exists.1 (List.find?_isSome.2 (List.any_eq_true.1 h))
  have hok : layoutOk b = true := List.find?_some hb
  unfold Dev.layoutRepair
  rw [hb]
  dsimp only
  split
  · assumption
  · exact List.all_eq_true.2 (by simp [Dev.putLayout, hok])

/-- Apart from the layout, the repair leaves everything. -/
theorem layoutRepair_keeps (d : Dev) : OnlyIn [.jnl] noKey d d.layoutRepair ∧ d.layoutRepair.jnl.camp = d.jnl.camp := by
  have hput : ∀ b, OnlyIn [.jnl] noKey d (d.putLayout b) ∧ (d.putLayout b).jnl.camp = d.jnl.camp := fun b =>
    ⟨onlyIn_updJnl d fun j => { j with layout := [b, b] }, by rw [Dev.putLayout, updJnl_jnl]⟩
  unfold Dev.layoutRepair
  split
  · split
    · exact ⟨onlyIn_refl .., rfl⟩
    · exact hput _
  · exact ⟨onlyIn_refl .., rfl⟩

/-- The firmware up to its layout: the trial's slot, its measurement and the core domain. -/
def Dev.firmwareUp (d : Dev) (digest : Nat) (trialBad : Bool) : Dev :=
  (((((d.trialStart 0 trialBad).measure 0 digest).updMod fun m => { m with started := true }).updHost fun h => { h with
    portUp := true, hostRdy := true })).coreUp

/-- The rest of the start, on the layout mended. -/
def Dev.firmwareMounted (d : Dev) (snap : Option Snapshot) (debug : Bool) (badKeys : List (Nat × Nat)) (ticks : Nat) : Dev :=
  ((((((((d.updMod fun m => { m with snap := snap }).slotShow).keyMount debug badKeys).arcMount).rtcTick ticks).timeInit).sesCloseAll 2).ethStart).campBoot

theorem firmwareUp_kept (d : Dev) (digest : Nat) (trialBad : Bool) (hc : d.jnl.camp = none) :
    (d.firmwareUp digest trialBad).mod.started = true ∧
    BootKept (d.updMod fun m => { m with started := true }) (d.firmwareUp digest trialBad) := by
  have hpre := (bootKept_trialStart d (i := 0) (by decide) trialBad hc).trans (bootKept_measure _ 0 digest)
  unfold Dev.firmwareUp
  generalize (d.trialStart 0 trialBad).measure 0 digest = e at hpre ⊢
  have hrun : BootKept (d.updMod fun m => { m with started := true }) (e.updMod fun m => { m with started := true }) :=
    ⟨hpre.regs, hpre.hold, rfl, hpre.layout, hpre.camp, hpre.spare, hpre.lost, hpre.nw⟩
  have hup := (hrun.part (onlyIn_updHost _ fun h => { h with portUp := true, hostRdy := true }) (by decide)).trans (bootKept_coreUp _)
  exact ⟨hup.started.trans rfl, hup⟩

theorem bootKept_firmwareMounted (d : Dev) (snap : Option Snapshot) (debug : Bool) (badKeys : List (Nat × Nat)) (ticks : Nat) :
    BootKept d (d.firmwareMounted snap debug badKeys ticks) := by
  have hsnap := (BootKept.refl d).module (g := fun m => { m with snap := snap }) rfl rfl
  exact (((((((hsnap.trans (bootKept_slotShow _)).trans (bootKept_keyMount _ debug badKeys)).trans (bootKept_arcMount _)).updTime _).trans
    (bootKept_timeInit _)).trans (bootKept_sesCloseAll _ 2)).trans (bootKept_ethStart _)).trans (bootKept_campBoot _)

/-- The phase of the campaign that the firmware finds, and on a trial the check of the settings. -/
def Dev.firmwareDone (d : Dev) (trial : Bool) (known oldest : Nat) : Dev :=
  let d6 := match d.jnl.camp with
    | some c => d.put FY_UPDSTAT_PHASE (if c.revert.isSome then phRevert else if c.restart then phRestart
        else if c.todo = [] then phTrial else phStep)
    | none => d
  if trial && !d6.reverting then d6.settingsCheck known oldest (d6.slotRun 0) else d6

/-- The partitions that do not mount, restored or formatted. -/
def Dev.partsMounted (d : Dev) (badParts : List Nat) : Dev := badParts.foldl (fun (d : Dev) p => d.mountPartition p) d

theorem firmwareStart_eq (d : Dev) (digest : Nat) (badParts : List Nat) (debug : Bool) (badKeys : List (Nat × Nat)) (trialBad : Bool)
    (known oldest ticks : Nat) : d.firmwareStart digest badParts debug badKeys trialBad known oldest ticks =
      (((d.firmwareUp digest trialBad).partsMounted badParts).layoutRepair.firmwareMounted
        ((d.firmwareUp digest trialBad).partsMounted badParts).jnl.snap debug badKeys ticks).firmwareDone (d.slotOf 0 ssTrial).isSome
          known oldest := rfl

theorem partsMounted_nil (d : Dev) : d.partsMounted [] = d := rfl

theorem bootKept_firmwareDone (d : Dev) (trial : Bool) (known oldest : Nat) (hc : d.jnl.camp = none) :
    BootKept d (d.firmwareDone trial known oldest) := by
  unfold Dev.firmwareDone
  rw [hc]
  exact .ite (bootKept_settingsCheck d known oldest _ hc) (.refl d)

/-- Without a campaign and with every partition mountable, the firmware runs on a layout that is whole. -/
theorem firmwareStart_boots (d : Dev) (digest : Nat) (debug : Bool) (badKeys : List (Nat × Nat)) (trialBad : Bool) (known oldest ticks : Nat)
    (hc : d.jnl.camp = none) : Booted d (d.firmwareStart digest [] debug badKeys trialBad known oldest ticks) := by
  rw [firmwareStart_eq, partsMounted_nil]
  obtain ⟨hrun, hup⟩ := firmwareUp_kept d digest trialBad hc
  generalize d.firmwareUp digest trialBad = u at hrun hup ⊢
  obtain ⟨hfix, hfixc⟩ := layoutRepair_keeps u
  have hall := layoutRepair_all u
  have hu : u.jnl.camp = none := hup.camp hc
  have hlaid : u.jnl.layout = d.jnl.layout := hup.layout
  generalize u.layoutRepair = m at hfix hfixc hall ⊢
  have hm := bootKept_firmwareMounted m u.jnl.snap debug badKeys ticks
  generalize m.firmwareMounted u.jnl.snap debug badKeys ticks = v at hm ⊢
  have hd := hm.trans (bootKept_firmwareDone v (d.slotOf 0 ssTrial).isSome known oldest (hm.camp (hfixc.trans hu)))
  generalize v.firmwareDone (d.slotOf 0 ssTrial).isSome known oldest = w at hd ⊢
  have hmod := hfix.mod_eq (by decide)
  have hcor := hfix.cor_eq (by decide)
  refine ⟨fun k hk => ((hd.regs k hk).trans (hfix.2 k rfl)).trans (hup.regs k hk), ?_, ?_, fun h => ?_, hd.camp (hfixc.trans hu), ?_, ?_⟩
  · rw [hd.hold, hmod, hup.hold, updMod_mod]
  · rw [hd.started, hmod, hrun]
  · rw [hd.layout]
    exact hall (by rw [Dev.laidOut, hlaid]; exact h)
  · rw [hd.spare, hcor, hup.spare, updMod_cor]
  · rw [hd.lost, hcor, hup.lost, updMod_cor]

end Sys2Proof.Machine
end

section
/-! Repairs of the boot ROM: a bank or a lane of the Foyer that a spare replaces, and a failed test recorded (02 R49, R50; 03 R78, R87). -/

namespace Sys2Proof.Machine

/-! ## Spares used at a start -/

theorem OnlyIn.dec {ps : List Part} {ks : Nat → Bool} {d e : Dev} (h : OnlyIn ps ks d e) {x : Fld} (n : Nat) (hk : ks x.key = true) :
    OnlyIn ps ks d (e.dec x n) := h.put _ hk

/-- Outside SERVICE a budget that is used up raises its event and no more. -/
theorem onlyIn_useSpare (d : Dev) {r : Nat} (hr : r ≤ 2) {x : Fld} (hx : x.key ≠ FY_MODSTATE) (hs : d.mst ≠ msService) :
    OnlyIn [.arc] (orEvent [x.key]) d (d.useSpare r x) := by
  have hdec := OnlyIn.dec (ps := [.arc]) (onlyIn_refl _ (orEvent [x.key]) d) (x := x) 1 (by simp [orEvent])
  unfold Dev.useSpare
  refine .ite (onlyIn_refl ..) (.ite ?_ hdec)
  rw [spareExhausted_host _ x hr]
  have hev := hdec.raiseFy (exhaustedEv_sources r x) (exhaustedEv_region r x) (by decide)
  have hm : _ = d.mst := hev.get_eq (x := FY_MODSTATE_STATE) (by
    simp only [orEvent, Bool.or_eq_false_iff, List.contains_eq_mem, decide_eq_false_iff_not, List.mem_singleton]
    exact ⟨fun h => hx h.symm, rfl⟩)
  rw [if_neg (fun h => hs (hm.symm.trans h) : ¬((d.dec x).raiseFy (exhaustedEv r x)).mst = msService)]
  exact hev

theorem onlyIn_spareUsed_fy (d : Dev) (b : Nat) : OnlyIn [] (orEvent [FY_SPAREMAP]) d (d.spareUsed .fy b) :=
  .ite (((onlyIn_refl ..).put _ (by decide)).put _ (by decide)) (.ite ((onlyIn_refl ..).put _ (by decide)) (onlyIn_refl ..))

theorem onlyIn_retire_fy (d : Dev) (b : Nat) (hs : d.mst ≠ msService) :
    OnlyIn [.arc, .fmem] (orEvent [FY_SPAREMAP, FY_SPAREBUD0]) d (d.retire .fy b) := by
  have hmem : OnlyIn [.fmem] noKey d (d.updMem .fy fun y => { y with retired := y.retired ++ [b] }) :=
    onlyIn_part .fmem rfl fun p h => by cases p <;> first | rfl | exact absurd rfl h
  have hinc := ((hmem.mono (by decide) fun _ _ => rfl : OnlyIn [.arc, .fmem] (orEvent [FY_SPAREMAP, FY_SPAREBUD0]) d _)).inc
    (x := FY_SPAREMAP_RETIRED) 1 (by decide)
  have hm : _ ≠ msService := fun h => hs ((hinc.get_eq (x := FY_MODSTATE_STATE) rfl).symm.trans h)
  exact hinc.trans ((onlyIn_useSpare _ (r := 1) (by decide) (x := FY_SPAREBUD0_BANKS) (by decide) hm).mono (by decide)
    fun _ => orEvent_mono (by decide))

/-! ## A bank (02 R50; 03 R78) -/

theorem phys_congr {d e : Dev} (h : e.regs = d.regs) (m : Mem) (lb : Nat) : e.phys m lb = d.phys m lb := get_of_regs h _

theorem logical_congr {d e : Dev} (h : e.regs = d.regs) (m : Mem) (pb : Nat) : e.logical m pb = d.logical m pb := by
  simp only [Dev.logical, phys_congr h]

theorem spareBank_congr {d e : Dev} (h : e.regs = d.regs) (m : Mem) : e.spareBank m = d.spareBank m := by
  simp only [Dev.spareBank, get_of_regs h]

theorem bankFld_fy_key (lb : Nat) : (Mem.bankFld .fy lb).key = FY_BANKPHYS + 4 * (lb / 4) := rfl

theorem bankFld_ok (m : Mem) (lb : Nat) : (m.bankFld lb).ok = true := by
  have h1 : 8 * (lb % 4) ≤ 8 * (lb % 4) + 5 := by omega
  have h2 : 8 * (lb % 4) + 5 < 32 := by omega
  simp [Mem.bankFld, Fld.ok, h2]

/-- Registers of the map of the Foyer's banks, of its spare banks and of their budget. -/
def bankKeys : List Nat := [FY_SPAREMAP, FY_SPAREBUD0, FY_BANKPHYS, FY_BANKPHYS + 4, FY_BANKPHYS + 8, FY_BANKPHYS + 12]

theorem bankFld_mem {lb : Nat} (hl : lb < 16) :
    (Mem.bankFld .fy lb).key ∈ [FY_BANKPHYS, FY_BANKPHYS + 4, FY_BANKPHYS + 8, FY_BANKPHYS + 12] := by
  rw [bankFld_fy_key]
  have : lb / 4 = 0 ∨ lb / 4 = 1 ∨ lb / 4 = 2 ∨ lb / 4 = 3 := by omega
  rcases this with h | h | h | h <;> rw [h] <;> decide

/-- The map of a logical bank is no register that a repair writes beside it. -/
theorem bankFld_apart {lb : Nat} (hl : lb < 16) : orEvent [FY_SPAREMAP, FY_SPAREBUD0] (Mem.bankFld .fy lb).key = false :=
  (by decide : ∀ k ∈ [FY_BANKPHYS, FY_BANKPHYS + 4, FY_BANKPHYS + 8, FY_BANKPHYS + 12], orEvent [FY_SPAREMAP, FY_SPAREBUD0] k = false) _
    (bankFld_mem hl)

theorem bankFld_listed {lb : Nat} (hl : lb < 16) : orEvent bankKeys (Mem.bankFld .fy lb).key = true :=
  (by decide : ∀ k ∈ [FY_BANKPHYS, FY_BANKPHYS + 4, FY_BANKPHYS + 8, FY_BANKPHYS + 12], orEvent bankKeys k = true) _ (bankFld_mem hl)

theorem bankFld_boot {lb : Nat} (hl : lb < 16) : bootKey (Mem.bankFld .fy lb).key = false := by
  have h1 : FY_BANKPHYS ≤ FY_BANKPHYS + 4 * (lb / 4) := Nat.le_add_right ..
  have h2 : FY_BANKPHYS + 4 * (lb / 4) < FY_BANKPHYS + 16 := by omega
  rw [bankFld_fy_key]
  simp [bootKey, h2]

theorem logical_lt {d : Dev} {m : Mem} {pb lb : Nat} (h : d.logical m pb = some lb) : lb < m.lbanks :=
  List.mem_range.1 (List.mem_of_find?_eq_some h)

/-- SPARE0 is a field of six bits. -/
theorem spareBank_lt {d : Dev} {sp : Nat} (h : d.spareBank .fy = some sp) : sp < 2 ^ 6 := by
  have hlt : d.get FY_SPAREMAP_SPARE0 < 2 ^ 6 := bitsOf_lt ..
  have hs : (if d.get FY_SPAREMAP_SPARE0 = 0x3F then none else some (d.get FY_SPAREMAP_SPARE0)) = some sp := h
  split at hs
  · exact absurd hs (by simp)
  · rwa [← Option.some.inj hs]

/-- What follows the map of a bank: its spare used, the bad bank retired and the event. -/
def Dev.bankSpared (d : Dev) (lb pb sp : Nat) : Dev :=
  ((d.spareUsed .fy sp).retire .fy pb).raiseMem .fy .flBankSpared .fyBankSpared [lb, pb, sp]

theorem onlyIn_bankSpared (d : Dev) (lb pb sp : Nat) (hs : d.mst ≠ msService) :
    OnlyIn [.arc, .fmem] (orEvent [FY_SPAREMAP, FY_SPAREBUD0]) d (d.bankSpared lb pb sp) := by
  have hused := onlyIn_spareUsed_fy d sp
  have hm : (d.spareUsed .fy sp).mst ≠ msService := fun h => hs ((hused.get_eq (x := FY_MODSTATE_STATE) rfl).symm.trans h)
  exact ((hused.mono (by decide) fun _ => orEvent_mono (by decide)).trans (onlyIn_retire_fy _ pb hm)).raiseFy_mk _ (by decide) (by decide)

/-- A bank of the Foyer that a spare replaces: its logical bank lies in the spare. -/
theorem bankRepair_spared (d : Dev) {pb lb sp : Nat} (hl : d.logical .fy pb = some lb) (hsp : d.spareBank .fy = some sp) (hs : d.mst ≠ msService) :
    ∃ u, d.bankRepair .fy pb = some u ∧ u.phys .fy lb = sp ∧ OnlyIn [.arc, .fmem] (orEvent bankKeys) d u := by
  have hlt : lb < 16 := logical_lt hl
  have hput : OnlyIn [] (orEvent bankKeys) d (d.put (Mem.bankFld .fy lb) sp) := (onlyIn_refl ..).put _ (bankFld_listed hlt)
  have hm : (d.put (Mem.bankFld .fy lb) sp).mst ≠ msService := fun h => hs ((hput.get_eq (x := FY_MODSTATE_STATE) rfl).symm.trans h)
  have hafter := onlyIn_bankSpared (d.put (Mem.bankFld .fy lb) sp) lb pb sp hm
  refine ⟨(d.put (Mem.bankFld .fy lb) sp).bankSpared lb pb sp, ?_, ?_, ?_⟩
  · unfold Dev.bankRepair
    rw [hl, hsp]
    rfl
  · refine (hafter.get_eq (bankFld_apart hlt)).trans (get_put_same d _ sp (bankFld_ok ..) ?_)
    have hw : (Mem.bankFld .fy lb).hi + 1 - (Mem.bankFld .fy lb).lo = 6 := by
      change 8 * (lb % 4) + 5 + 1 - 8 * (lb % 4) = 6
      omega
    rw [hw]
    exact spareBank_lt hsp
  · exact (hput.mono (by decide) fun _ h => h).trans (hafter.mono (by decide) fun _ => orEvent_mono (by decide))

/-! ## A lane (01 R39) -/

/-- A lane of the way down that fails its test: its direction takes the spare. -/
theorem hostRepair_lane (d : Dev) (hb : d.get FY_SPAREBUD0_CRDOWN ≠ 0) (hs : d.mst ≠ msService) :
    ∃ u, d.hostRepair (6, 0) = some u ∧ u.cor.down.spare = true ∧ OnlyIn [.arc, .cor] (orEvent [FY_SPAREBUD0]) d u := by
  have hcor : OnlyIn [.arc, .cor] (orEvent [FY_SPAREBUD0]) d (d.updCor fun c => { c with down := { c.down with spare := true } }) :=
    (onlyIn_refl ..).updCor _ (by decide)
  have hspare : (d.updCor fun c => { c with down := { c.down with spare := true } }).cor.down.spare = true := by rw [updCor_cor]
  refine ⟨((d.updCor fun c => { c with down := { c.down with spare := true } }).useSpare 1 FY_SPAREBUD0_CRDOWN).raiseFy
    (.mk' .crLaneSpared [(0 : Nat)]), ?_, ?_, ?_⟩
  · unfold Dev.hostRepair
    exact if_pos ⟨by decide, hb⟩
  · generalize (d.updCor fun c => { c with down := { c.down with spare := true } }) = e at hcor hspare ⊢
    have hm : e.mst ≠ msService := fun h => hs ((hcor.get_eq (x := FY_MODSTATE_STATE) rfl).symm.trans h)
    rw [raiseFy_cor, (onlyIn_useSpare e (by decide) (by decide) hm).cor_eq (by decide), hspare]
  · generalize (d.updCor fun c => { c with down := { c.down with spare := true } }) = e at hcor hspare ⊢
    have hm : e.mst ≠ msService := fun h => hs ((hcor.get_eq (x := FY_MODSTATE_STATE) rfl).symm.trans h)
    exact (hcor.trans ((onlyIn_useSpare e (by decide) (x := FY_SPAREBUD0_CRDOWN) (by decide) hm).mono (by decide) fun _ h => h)).raiseFy_mk _
      (by decide) (by decide)

/-- A lane of the way up without a spare is not repaired. -/
theorem hostRepair_laneless (d : Dev) (hb : d.get FY_SPAREBUD0_CRUP = 0) : d.hostRepair (6, 1) = none := by
  unfold Dev.hostRepair
  exact if_neg fun h => h.2 hb

/-- The other tests have no repair. -/
theorem hostRepair_none (d : Dev) {t : Nat} (ht : t ∈ [1, 3, 4, 5]) (x : Nat) : d.hostRepair (t, x) = none := by
  simp only [List.mem_cons, List.not_mem_nil, or_false] at ht
  rcases ht with rfl | rfl | rfl | rfl <;> rfl

/-! ## The record of failed tests (02 R49, R63) -/

theorem testFailed_first (d : Dev) (r t x : Nat) (h : d.get FY_STRESULT_TEST = 0) : d.testFailed r t x =
    (((d.put FY_STRESULT_REGION r).put FY_STRESULT_TEST t).put FY_STRESULT_DETAIL x).inc FY_STRESULT_COUNT := by
  unfold Dev.testFailed
  rw [if_pos h]

theorem onlyIn_testFailed_first (d : Dev) (r t x : Nat) (h : d.get FY_STRESULT_TEST = 0) :
    OnlyIn [] (fun k => k == FY_STRESULT) d (d.testFailed r t x) := by
  rw [testFailed_first d r t x h]
  exact ((((onlyIn_refl ..).put _ (by decide)).put _ (by decide)).put _ (by decide)).inc _ (by decide)

/-- The first failure stands in the record and counts. -/
theorem testFailed_record (d : Dev) {r t x : Nat} (h : d.get FY_STRESULT_TEST = 0) (hr : r < 256) (ht : t < 256) (hx : x < 256) :
    let u := d.testFailed r t x
    u.get FY_STRESULT_REGION = r ∧ u.get FY_STRESULT_TEST = t ∧ u.get FY_STRESULT_DETAIL = x ∧
    u.get FY_STRESULT_COUNT = min (d.get FY_STRESULT_COUNT + 1) 255 := by
  have hput : ∀ (e : Dev) (x : Fld) v, x.ok = true → v < 2 ^ (x.hi + 1 - x.lo) → (e.put x v).get x = v := fun e x v hx hv =>
    get_put_same e x v hx hv
  rw [testFailed_first d r t x h]
  refine ⟨?_, ?_, ?_, ?_⟩
  · rw [get_inc_other _ _ _ _ rfl rfl rfl, get_put_other _ _ _ _ rfl rfl rfl, get_put_other _ _ _ _ rfl rfl rfl]
    exact hput d FY_STRESULT_REGION r rfl hr
  · rw [get_inc_other _ _ _ _ rfl rfl rfl, get_put_other _ _ _ _ rfl rfl rfl]
    exact hput _ FY_STRESULT_TEST t rfl ht
  · rw [get_inc_other _ _ _ _ rfl rfl rfl]
    exact hput _ FY_STRESULT_DETAIL x rfl hx
  · rw [get_inc_same _ _ _ rfl, get_put_other _ _ _ _ rfl rfl rfl, get_put_other _ _ _ _ rfl rfl rfl, get_put_other _ _ _ _ rfl rfl rfl]
    rfl

end Sys2Proof.Machine
end

section
/-! O20: the boot ROM's tests, the Corridor that stays down and the restart from FAILSAFE (02 R45, R49, R50, R54, R63; 20 R529, R531). -/

namespace Sys2Proof.Machine

/-! ## The flash device (20 R529, R531) -/

/-- The Foyer with what the boot ROM has read of the flash device. -/
def Dev.flashed (d : Dev) (size : Nat) (copies : List (Nat × List Byte)) : Dev :=
  (d.updMod fun m => { m with flash := size }).updJnl fun j => { j with
    layout := [0, 1].map fun n => match copies.find? fun e => e.1 == n with
      | some e => e.2
      | none => j.layout.getD n [] }

theorem flashRead_eq (d : Dev) (size : Nat) (copies : List (Nat × List Byte)) : d.flashRead size copies =
    if size < 2 ^ 27 then (d.flashed size copies, [(5, 0xFE)])
    else if (d.flashed size copies).laidOut then (d.flashed size copies, []) else ((d.flashed size copies).slotsEmpty, [(5, 0xFF)]) := rfl

theorem onlyIn_flashed (d : Dev) (size : Nat) (copies : List (Nat × List Byte)) : OnlyIn [.mod, .jnl] noKey d (d.flashed size copies) :=
  ((onlyIn_refl ..).updMod _ (by decide)).updJnl _ (by decide)

theorem flashed_mod (d : Dev) (size : Nat) (copies : List (Nat × List Byte)) :
    (d.flashed size copies).mod = { d.mod with flash := size } := by rw [Dev.flashed, updJnl_mod, updMod_mod]

theorem flashed_camp (d : Dev) (size : Nat) (copies : List (Nat × List Byte)) : (d.flashed size copies).jnl.camp = d.jnl.camp := by
  rw [Dev.flashed, updJnl_jnl, updMod_jnl]

/-- What the boot ROM reads of a copy. -/
def Dev.copyRead (d : Dev) (copies : List (Nat × List Byte)) (n : Nat) : List Byte :=
  ((copies.find? fun e => e.1 == n).map (·.2)).getD (d.jnl.layout.getD n [])

theorem flashed_laidOut (d : Dev) (size : Nat) (copies : List (Nat × List Byte)) :
    (d.flashed size copies).laidOut = (layoutOk (d.copyRead copies 0) || layoutOk (d.copyRead copies 1)) := by
  have hread : ∀ n, (match copies.find? fun e => e.1 == n with
      | some e => e.2
      | none => d.jnl.layout.getD n []) = d.copyRead copies n := fun n => by
    unfold Dev.copyRead
    cases copies.find? fun e => e.1 == n <;> rfl
  unfold Dev.laidOut Dev.flashed
  rw [updJnl_jnl, updMod_jnl]
  refine (congrArg₂ (fun a b => layoutOk a || (layoutOk b || false)) (hread 0) (hread 1)).trans ?_
  rw [Bool.or_false]

/-! ## The boot ROM's answer -/

/-- The boot ROM after its tests: `fl` are the failures of the flash device. -/
def Dev.romDone (d : Dev) (fl found : List (Nat × Nat)) (digest : Nat) (start : Dev → Dev) : Dev :=
  let r := repairs Dev.hostRepair d ((found.filter fun e => decide (1 ≤ e.1 ∧ e.1 ≤ 6 ∧ (e.1 ≠ 5 ∨ fl = []))) ++ fl)
  let rom := r.2.filter fun e => e.1 ≠ 6
  let lanes := (r.2.filter fun e => e.1 = 6).foldl (fun (d : Dev) e => (d.testFailed 2 6 e.2).updCor fun c =>
    if e.2 = 0 then { c with down := { c.down with lost := true } } else { c with up := { c.up with lost := true } }) r.1
  if rom = [] then start lanes
  else
    let d1 := rom.foldl (fun (d : Dev) e => d.testFailed 1 e.1 e.2) r.1
    let d2 := if (rom.all fun e => e.1 == 5) && fl == [] then d1.measure 0 digest else d1
    ((d2.updMod fun m => { m with romHold := true }).setMod msHold 2).updHost fun h => { h with portUp := true, hostRdy := true, coreDown := false }

theorem bootRomDone_eq (d : Dev) (found : List (Nat × Nat)) (digest size : Nat) (copies : List (Nat × List Byte)) (start : Dev → Dev)
    (hm : d.mst = msBoot) (hs : d.mod.started = false) (hr : d.mod.romHold = false) (hw : d.bit FY_MODSTATE_PWRWARN = false) :
    d.bootRomDone found digest size copies start =
      (d.flashRead size copies).1.romDone (d.flashRead size copies).2 found digest start :=
  if_neg (by simp [hm, hs, hr, hw])

/-- HOLD in the boot ROM, whose responder serves. -/
def Dev.romHeld (d : Dev) : Dev :=
  ((d.updMod fun m => { m with romHold := true }).setMod msHold 2).updHost fun h => { h with portUp := true, hostRdy := true, coreDown := false }

theorem romDone_clean (d : Dev) (digest : Nat) (start : Dev → Dev) : d.romDone [] [] digest start = start d := rfl

theorem romDone_repaired (d : Dev) {e : Nat × Nat} (he : e.1 = 2 ∨ e.1 = 6) {u : Dev} (h : d.hostRepair e = some u) (digest : Nat)
    (start : Dev → Dev) : d.romDone [] [e] digest start = start u := by
  have hlist : ([e].filter fun e => decide (1 ≤ e.1 ∧ e.1 ≤ 6 ∧ (e.1 ≠ 5 ∨ ([] : List (Nat × Nat)) = []))) ++ [] = [e] := by
    rcases he with he | he <;> simp [he]
  have hr : repairs Dev.hostRepair d [e] = (u, []) := by simp only [repairs, h]
  unfold Dev.romDone
  rw [hlist, hr]
  rfl

theorem hostRepair_bank (d : Dev) (pb : Nat) : d.hostRepair (2, pb) = d.bankRepair .fy pb := rfl

theorem romDone_laneless (d : Dev) (h : d.hostRepair (6, 1) = none) (digest : Nat) (start : Dev → Dev) :
    d.romDone [] [(6, 1)] digest start = start ((d.testFailed 2 6 1).updCor fun c => { c with up := { c.up with lost := true } }) := by
  have hr : repairs Dev.hostRepair d [(6, 1)] = (d, [(6, 1)]) := by simp only [repairs, h]
  unfold Dev.romDone
  rw [show (([(6, 1)] : List (Nat × Nat)).filter fun e => decide (1 ≤ e.1 ∧ e.1 ≤ 6 ∧ (e.1 ≠ 5 ∨ ([] : List (Nat × Nat)) = []))) ++ [] = [(6, 1)]
    from rfl, hr]
  rfl

/-- The Foyer with a failure of the boot ROM's tests recorded, and its firmware measured where `b` says so. -/
def Dev.romFailed (d : Dev) (t x digest : Nat) (b : Prop) [Decidable b] : Dev :=
  if b then (d.testFailed 1 t x).measure 0 digest else d.testFailed 1 t x

/-- A failure that no spare repairs, of the ROM's own tests or of the flash device. -/
theorem romDone_fails (d : Dev) {fl found : List (Nat × Nat)} {t x : Nat} (ht : t ∈ [1, 3, 4, 5])
    (hf : found = [(t, x)] ∧ fl = [] ∨ found = [] ∧ fl = [(t, x)] ∧ t = 5) (digest : Nat) (start : Dev → Dev) :
    d.romDone fl found digest start = (d.romFailed t x digest (t = 5 ∧ fl = [])).romHeld := by
  have hr : repairs Dev.hostRepair d [(t, x)] = (d, [(t, x)]) := by simp only [repairs, hostRepair_none d ht x]
  have hne : t ≠ 6 := fun h => by subst h; exact absurd ht (by decide)
  have hb : 1 ≤ t ∧ t ≤ 6 := by
    simp only [List.mem_cons, List.not_mem_nil, or_false] at ht
    omega
  have hlist : ((found.filter fun e => decide (1 ≤ e.1 ∧ e.1 ≤ 6 ∧ (e.1 ≠ 5 ∨ fl = []))) ++ fl) = [(t, x)] := by
    rcases hf with ⟨rfl, rfl⟩ | ⟨rfl, rfl, -⟩
    · simp [hb.1, hb.2]
    · rfl
  have hrom : ([(t, x)].filter fun e => decide (e.1 ≠ 6)) = [(t, x)] := by simp [hne]
  unfold Dev.romDone
  rw [hlist, hr]
  dsimp only
  rw [hrom, if_neg (by simp)]
  simp only [List.foldl_cons, List.foldl_nil, List.all_cons, List.all_nil, Bool.and_true, Bool.and_eq_true, beq_iff_eq]
  rfl

/-! ## HOLD in the boot ROM -/

theorem onlyIn_romHeld (d : Dev) : OnlyIn [.mod, .arc, .upd, .cor, .host] (orEvent [FY_MODSTATE]) d d.romHeld :=
  (((onlyIn_refl ..).updMod _ (by decide)).setMod _ _ (by decide) (by decide)).updHost _ (by decide)

theorem romHeld_mst (d : Dev) : d.romHeld.mst = msHold :=
  ((onlyIn_updHost _ _).get_eq rfl).trans (setMod_mst _ 2 (by decide))

theorem romHeld_hostRdy (d : Dev) : d.romHeld.host.hostRdy = true := by rw [Dev.romHeld, updHost_host]

theorem romHeld_mod (d : Dev) (h : d.mst ≠ msHold) :
    d.romHeld.mod = { d.mod with romHold := true, holdVfin := decide (2 = 15), startDue := false } := by
  have hm : (d.updMod fun m => { m with romHold := true }).mst ≠ msHold := h
  rw [Dev.romHeld, updHost_mod, setMod_hold_mod _ 2 hm, updMod_mod]

/-- A failed test of the boot ROM as FAILED_TESTS shows it: HOLD, the responder and the record, the field side as it was. -/
structure HeldBy (d u : Dev) (t x : Nat) : Prop where
  mst : u.mst = msHold
  romHold : u.mod.romHold = true
  started : u.mod.started = false
  hostRdy : u.host.hostRdy = true
  test : u.get FY_STRESULT_TEST = t
  region : u.get FY_STRESULT_REGION = 1
  detail : u.get FY_STRESULT_DETAIL = x
  count : u.get FY_STRESULT_COUNT = min (d.get FY_STRESULT_COUNT + 1) 255
  nw : u.nw = d.nw
  fa : u.fa = d.fa
  fb : u.fb = d.fb

/-- A failed test recorded, and HOLD: `e` is the Foyer with the flash device read, `v` with its signature's digest too. -/
theorem romHeld_by {d e v : Dev} {t x : Nat} (he : OnlyIn [.mod, .jnl] noKey d e) (hv : OnlyIn [.mod] noKey (e.testFailed 1 t x) v)
    (hm : d.mst = msBoot) (hs : v.mod.started = false) (hT : d.get FY_STRESULT_TEST = 0) (ht : t < 256) (hx : x < 256) :
    HeldBy d v.romHeld t x := by
  have hTe : e.get FY_STRESULT_TEST = 0 := (he.get_eq rfl).trans hT
  have hrec := onlyIn_testFailed_first e 1 t x hTe
  obtain ⟨h1, h2, h3, h4⟩ := testFailed_record e hTe (by decide : 1 < 256) ht hx
  rw [he.get_eq rfl] at h4
  have hvm : v.mst ≠ msHold := fun h => by
    have hb : v.mst = msBoot := ((hv.get_eq (x := FY_MODSTATE_STATE) rfl).trans ((hrec.get_eq rfl).trans (he.get_eq rfl))).trans hm
    rw [h] at hb
    exact absurd hb (by decide)
  have hf := onlyIn_romHeld v
  have hmst := romHeld_mst v
  have hrdy := romHeld_hostRdy v
  have hmod := romHeld_mod v hvm
  generalize v.romHeld = u at hf hmst hrdy hmod ⊢
  have hget : ∀ y : Fld, y.key = FY_STRESULT → u.get y = (e.testFailed 1 t x).get y := fun y hy =>
    (hf.get_eq (by rw [hy]; rfl)).trans (hv.get_eq rfl)
  exact ⟨hmst, by rw [hmod], by rw [hmod, ← hs], hrdy, (hget _ rfl).trans h2, (hget _ rfl).trans h1, (hget _ rfl).trans h3,
    (hget _ rfl).trans h4, by rw [hf.nw_eq (by decide), hv.nw_eq (by decide), hrec.nw_eq (by decide), he.nw_eq (by decide)],
    by rw [hf.fa_eq (by decide), hv.fa_eq (by decide), hrec.fa_eq (by decide), he.fa_eq (by decide)],
    by rw [hf.fb_eq (by decide), hv.fb_eq (by decide), hrec.fb_eq (by decide), he.fb_eq (by decide)]⟩

theorem onlyIn_measure (d : Dev) (n v : Nat) : OnlyIn [.mod] noKey d (d.measure n v) := .ite (onlyIn_refl ..) (onlyIn_updMod ..)

theorem measure_mod (d : Dev) (n v : Nat) : ∃ l, (d.measure n v).mod =
    { d.mod with meas := if n ∈ d.mod.measDone then d.mod.meas else mset 0 d.mod.meas n v, measDone := l } := by
  unfold Dev.measure
  split
  · exact ⟨d.mod.measDone, rfl⟩
  · rw [updMod_mod]
    exact ⟨_, rfl⟩

/-- A failed test of the boot ROM: `e` is the Foyer with the flash device read. -/
theorem romFailed_held {d e : Dev} {t x digest : Nat} {b : Prop} [Decidable b] (he : OnlyIn [.mod, .jnl] noKey d e) (hm : d.mst = msBoot)
    (hs : e.mod.started = false) (hT : d.get FY_STRESULT_TEST = 0) (ht : t < 256) (hx : x < 256) :
    HeldBy d (e.romFailed t x digest b).romHeld t x ∧ (e.romFailed t x digest b).romHeld.jnl = e.jnl ∧
    (e.romFailed t x digest b).romHeld.mod.flash = e.mod.flash ∧ (e.romFailed t x digest b).romHeld.mod.meas =
      if b ∧ 0 ∉ e.mod.measDone then mset 0 e.mod.meas 0 digest else e.mod.meas := by
  have hTe : e.get FY_STRESULT_TEST = 0 := (he.get_eq rfl).trans hT
  have hrec := onlyIn_testFailed_first e 1 t x hTe
  have hv : OnlyIn [.mod] noKey (e.testFailed 1 t x) (e.romFailed t x digest b) := .ite (onlyIn_measure ..) (onlyIn_refl ..)
  have hmod : ∃ l, (e.romFailed t x digest b).mod = { e.mod with
      meas := if b ∧ 0 ∉ e.mod.measDone then mset 0 e.mod.meas 0 digest else e.mod.meas, measDone := l } := by
    unfold Dev.romFailed
    by_cases hb : b
    · obtain ⟨l, hl⟩ := measure_mod (e.testFailed 1 t x) 0 digest
      rw [hrec.mod_eq (by decide)] at hl
      refine ⟨l, ?_⟩
      rw [if_pos hb, hl]
      by_cases hd : 0 ∈ e.mod.measDone <;> simp [hb, hd]
    · refine ⟨e.mod.measDone, ?_⟩
      rw [if_neg hb, hrec.mod_eq (by decide), if_neg fun h => hb h.1]
  obtain ⟨l, hl⟩ := hmod
  generalize e.romFailed t x digest b = v at hv hl ⊢
  have hvs : v.mod.started = false := by rw [hl, ← hs]
  have hheld := romHeld_by he hv hm hvs hT ht hx
  have hvm : v.mst ≠ msHold := fun h => by
    have hb : v.mst = msBoot := ((hv.get_eq (x := FY_MODSTATE_STATE) rfl).trans ((hrec.get_eq rfl).trans (he.get_eq rfl))).trans hm
    rw [h] at hb
    exact absurd hb (by decide)
  rw [(onlyIn_romHeld v).jnl_eq (by decide), hv.jnl_eq (by decide), hrec.jnl_eq (by decide), romHeld_mod v hvm, hl]
  exact ⟨hheld, rfl, rfl, rfl⟩

/-! ## No valid copy of the layout (20 R531) -/

theorem setSlotWord_unstarted (d : Dev) (i v : Nat) (h : d.mod.started = false) :
    d.setSlotWord i v = d.updJnl fun j => { j with words := mset 5 j.words i v } := if_neg (by simp [h])

theorem slotWord_of_jnl {d e : Dev} (h : e.jnl = d.jnl) (i : Nat) : e.slotWord i = d.slotWord i := by rw [Dev.slotWord, h]; rfl

theorem slotWord_setSlotWord (d : Dev) (i v j : Nat) (h : d.mod.started = false) :
    (d.setSlotWord i v).slotWord j = if j = i then v else d.slotWord j := by
  rw [setSlotWord_unstarted d i v h, Dev.slotWord, updJnl_jnl]
  split
  · next hj => rw [hj]; exact mget_mset_same ..
  · next hj => exact mget_mset_other _ _ _ hj

/-- Both slots of a component are EMPTY. -/
def Dev.emptied (d : Dev) (i : Nat) : Dev := (d.setSlotState i 0 ssEmpty).setSlotState i 1 ssEmpty

theorem onlyIn_emptied (d : Dev) (i : Nat) (h : d.mod.started = false) :
    OnlyIn [.jnl] noKey d (d.emptied i) ∧ (d.emptied i).jnl.camp = d.jnl.camp := by
  have hone : ∀ (e : Dev) n, e.mod.started = false → OnlyIn [.jnl] noKey e (e.setSlotState i n ssEmpty) ∧
      (e.setSlotState i n ssEmpty).jnl.camp = e.jnl.camp := fun e n he => by
    rw [Dev.setSlotState, setSlotWord_unstarted e i _ he, updJnl_jnl]
    exact ⟨onlyIn_updJnl .., rfl⟩
  obtain ⟨h0, c0⟩ := hone d 0 h
  obtain ⟨h1, c1⟩ := hone (d.setSlotState i 0 ssEmpty) 1 (by rw [h0.mod_eq (by decide), h])
  exact ⟨h0.trans h1, c1.trans c0⟩

theorem emptied_slotState (d : Dev) (i j n : Nat) (h : d.mod.started = false) (hn : n < 2) :
    (d.emptied i).slotState j n = if j = i then ssEmpty else d.slotState j n := by
  have hs : (d.setSlotState i 0 ssEmpty).mod.started = false := by
    rw [Dev.setSlotState, setSlotWord_unstarted d i _ h, updJnl_mod, h]
  unfold Dev.emptied Dev.slotState
  rw [Dev.setSlotState, slotWord_setSlotWord _ _ _ _ hs, Dev.setSlotState, slotWord_setSlotWord _ _ _ _ h, slotWord_setSlotWord _ _ _ _ h,
    if_pos rfl]
  split
  · obtain rfl | rfl : n = 0 ∨ n = 1 := by omega
    · rw [bitsOf_putBits_below _ _ _ _ _ _ (by decide) (by decide) (by decide), bitsOf_putBits_same _ _ _ _ (by decide)]
      rfl
    · rw [bitsOf_putBits_same _ _ _ _ (by decide)]
      rfl
  · rfl

theorem foldl_emptied (l : List Nat) (d : Dev) (h : d.mod.started = false) : OnlyIn [.jnl] noKey d (l.foldl Dev.emptied d) ∧
    (l.foldl Dev.emptied d).jnl.camp = d.jnl.camp ∧
    ∀ j n, n < 2 → (l.foldl Dev.emptied d).slotState j n = if j ∈ l then ssEmpty else d.slotState j n := by
  induction l generalizing d with
  | nil => exact ⟨onlyIn_refl .., rfl, fun j n _ => rfl⟩
  | cons i t ih =>
    obtain ⟨hf, hc⟩ := onlyIn_emptied d i h
    obtain ⟨hft, hct, hst⟩ := ih (d.emptied i) (by rw [hf.mod_eq (by decide), h])
    refine ⟨hf.trans hft, hct.trans hc, fun j n hn => (hst j n hn).trans ?_⟩
    rw [emptied_slotState d i j n h hn]
    by_cases hj : j = i <;> by_cases hm : j ∈ t <;> simp [hj, hm]

theorem slotsEmpty_eq (d : Dev) : d.slotsEmpty = (List.range 9).foldl Dev.emptied d := rfl

/-! ## The firmware, the Corridor that stays down, and the restart from FAILSAFE -/

/-- The firmware runs in BOOT on a layout that is whole. -/
structure Dev.Runs (u : Dev) : Prop where
  mst : u.mst = msBoot
  started : u.mod.started = true
  romHold : u.mod.romHold = false
  layout : u.jnl.layout.all layoutOk = true

theorem Booted.runs {d u : Dev} (h : Booted d u) (hm : d.mst = msBoot) (hr : d.mod.romHold = false) (hl : d.laidOut = true) : u.Runs :=
  ⟨(get_of_rd (h.regs _ (by decide))).trans hm, h.started, h.hold.trans hr, h.layout hl⟩

theorem Booted.get {d u : Dev} (h : Booted d u) {x : Fld} (hx : bootKey x.key = false) : u.get x = d.get x := get_of_rd (h.regs _ hx)

/-- A boot in which the firmware starts on `e`, the Foyer with the flash device read and its repairs made. -/
theorem starts_runs {d e : Dev} {ps : List Part} {ks : Nat → Bool} (size : Nat) (copies : List (Nat × List Byte)) (digest : Nat) (debug : Bool)
    (badKeys : List (Nat × Nat)) (trialBad : Bool) (known oldest ticks : Nat) (hm : d.mst = msBoot) (hr : d.mod.romHold = false)
    (hc : d.jnl.camp = none) (hl : (d.flashed size copies).laidOut = true) (hf : OnlyIn ps ks (d.flashed size copies) e) (hpm : .mod ∉ ps)
    (hpj : .jnl ∉ ps) (hk : ks FY_MODSTATE = false) :
    (e.firmwareStart digest [] debug badKeys trialBad known oldest ticks).Runs ∧
    Booted e (e.firmwareStart digest [] debug badKeys trialBad known oldest ticks) := by
  have hread := onlyIn_flashed d size copies
  have hjnl := hf.jnl_eq hpj
  have hboot := firmwareStart_boots e digest debug badKeys trialBad known oldest ticks (by rw [hjnl, flashed_camp, hc])
  refine ⟨hboot.runs ?_ ?_ ?_, hboot⟩
  · exact ((hf.get_eq (x := FY_MODSTATE_STATE) hk).trans (hread.get_eq rfl)).trans hm
  · rw [hf.mod_eq hpm, flashed_mod, ← hr]
  · rw [Dev.laidOut, hjnl]
    exact hl

theorem statusNow_host_down_eq {d : Dev} (h : d.cor.hostUp = false) : d.statusNow true = d := by
  unfold Dev.statusNow
  rw [if_pos rfl, h, Bool.false_and, if_neg (by decide)]

/-- With the Corridor down at the Foyer a transition sends nothing. -/
theorem setMod_cor_down (d : Dev) (new row : Nat) (h : d.cor.hostUp = false) : (d.setMod new row).cor = d.cor := by
  by_cases hn : d.mst = new
  · rw [setMod_same row hn]
  · have hmoved : ∀ g b, (((d.movedTo new row).updUpd g).portsServed b).cor = d.cor := fun g b => by
      rw [portsServed_cor, updUpd_cor, (onlyIn_movedTo d new row).cor_eq (by decide), put_cor]
    rw [setMod_moves row hn, statusNow_host_down_eq (by rw [hmoved, h]), hmoved]

/-- A Corridor that stays down leads to HOLD with a failure of test 0x06 in region 2. -/
theorem corridorDown_holds (d : Dev) (h : d.cor.hostUp = false) (hT : d.get FY_STRESULT_TEST = 0) :
    let u := (d.testFailed 2 0x06 0xFF).setMod msHold 5
    u.mst = msHold ∧ u.get FY_STRESULT_REGION = 2 ∧ u.get FY_STRESULT_TEST = 6 ∧
    OnlyIn [.mod, .arc, .upd] (orEvent [FY_MODSTATE, FY_STRESULT]) d u := by
  have hf := onlyIn_testFailed_first d 2 0x06 0xFF hT
  obtain ⟨h1, h2, -, -⟩ := testFailed_record d hT (by decide : 2 < 256) (by decide : 0x06 < 256) (by decide : 0xFF < 256)
  generalize d.testFailed 2 0x06 0xFF = e at hf h1 h2 ⊢
  have hcor := setMod_cor_down e msHold 5 (by rw [hf.cor_eq (by decide), h])
  have hset := (hf.mono (by decide) (fun k hk => by
    have hk : k ∉ [FY_MODSTATE, FY_STRESULT] := by
      simp only [orEvent, Bool.or_eq_false_iff, List.contains_eq_mem, decide_eq_false_iff_not] at hk
      exact hk.1
    simpa using fun h => hk (by simp [h])) : OnlyIn [.mod, .arc, .upd, .cor] (orEvent [FY_MODSTATE, FY_STRESULT]) d e).setMod msHold 5
      (fun _ h => h) (by decide)
  refine ⟨setMod_mst e 5 (by decide), (setMod_get e msHold 5 rfl rfl rfl).trans h1, (setMod_get e msHold 5 rfl rfl rfl).trans h2,
    fun p hp => ?_, hset.2⟩
  by_cases hpc : p = .cor
  · subst hpc
    exact hcor.trans (hf.cor_eq (by decide))
  · exact hset.1 p (by simp only [List.mem_cons, List.not_mem_nil, or_false] at hp ⊢; tauto)

/-- An authorised restart starts the field side. -/
theorem restartField_starts (d : Dev) (hp : d.bit FY_MODSTATE_FIELDPWR = true)
    (hm : d.mst = msHold ∨ d.mst = msService ∨ d.mst = msDegraded ∨ d.mst = msFailsafe) (hr : d.mod.romHold = false) :
    d.restartField = d.fieldStart 14 := by
  refine if_pos ?_
  rw [hp, hr]
  rcases hm with h | h | h | h <;> rw [h] <;> rfl

/-- FAILSAFE_RESTART, with the starts of the last hour. -/
def Dev.failsafeRestart (d : Dev) : Dev :=
  let recent := d.mod.restarts.filter fun t => decide (d.time.raw < t + 3600 * rawPerSec)
  let usable := d.fst .a != fsQuarantined || d.fst .b != fsQuarantined
  d.when (d.mst == msFailsafe && usable && decide (recent.length < 3) && d.bit FY_MODSTATE_FIELDPWR) fun d =>
    (d.updMod fun m => { m with restarts := recent ++ [d.time.raw], order := none }).restartField

theorem failsafeRestart_starts (d : Dev) (hm : d.mst = msFailsafe) (hr : d.mod.restarts = []) (hq : d.fst .a ≠ fsQuarantined)
    (hp : d.bit FY_MODSTATE_FIELDPWR = true) (hrom : d.mod.romHold = false) : d.failsafeRestart.mst = msSelftest ∧
    d.failsafeRestart.nw.modState = (if d.linkUp then msSelftest else d.nw.modState) ∧ d.failsafeRestart.mod.restarts = [d.time.raw] := by
  have hq' : (d.fst .a != fsQuarantined) = true := bne_iff_ne.2 hq
  have hstart : d.failsafeRestart = (d.updMod fun m => { m with restarts := [d.time.raw], order := none }).fieldStart 14 := by
    unfold Dev.failsafeRestart
    rw [hr, List.filter_nil, when_pos _ _ (by rw [hm, hq', hp]; rfl), List.nil_append]
    exact restartField_starts _ (by rw [updMod_bit]; exact hp) (.inr (.inr (.inr (by rw [Dev.mst, updMod_get]; exact hm))))
      (by rw [updMod_mod]; exact hrom)
  rw [hstart, fieldStart_mod, fieldStart_modState, Dev.startNoted, updMod_mod, updMod_mod, updMod_linkUp, updMod_nw]
  exact ⟨fieldStart_mst _ 14, rfl, rfl⟩

theorem answers_of_boot {s : State} {found : List (Nat × Nat)} {digest size : Nat} {copies : List (Nat × List Byte)} {debug : Bool}
    {badKeys : List (Nat × Nat)} {trialBad : Bool} {known oldest ticks : Nat} {u : Dev} {P : Dev → Prop}
    (hu : s.dev.bootRomDone found digest size copies (fun d => d.firmwareStart digest [] debug badKeys trialBad known oldest ticks) = u)
    (hc : u.jnl.camp = none) (hP : P u) :
    Answers (.bootRomDone found digest size copies [] debug badKeys trialBad known oldest ticks) s P :=
  answers_of_upd (g := fun d => (d.bootRomDone found digest size copies fun d =>
    d.firmwareStart digest [] debug badKeys trialBad known oldest ticks).campFollow) rfl (by rw [hu, campFollow_none u hc]; exact hP)

theorem HeldBy.facts {d u : Dev} {t x : Nat} (h : HeldBy d u t x) : u.mst = msHold ∧ u.mod.romHold = true ∧ u.mod.started = false ∧
    u.host.hostRdy = true ∧ u.get FY_STRESULT_TEST = t ∧ u.get FY_STRESULT_REGION = 1 ∧ u.get FY_STRESULT_DETAIL = x ∧
    u.get FY_STRESULT_COUNT = min (d.get FY_STRESULT_COUNT + 1) 255 ∧ u.nw = d.nw ∧ u.fa = d.fa ∧ u.fb = d.fb :=
  ⟨h.mst, h.romHold, h.started, h.hostRdy, h.test, h.region, h.detail, h.count, h.nw, h.fa, h.fb⟩

theorem Dev.Runs.facts {u : Dev} (h : u.Runs) :
    u.mst = msBoot ∧ u.mod.started = true ∧ u.mod.romHold = false ∧ u.jnl.layout.all layoutOk = true :=
  ⟨h.mst, h.started, h.romHold, h.layout⟩

/-- Settles O20: each answer of the boot ROM by what its repairs leave, then the two time-outs. -/
theorem failedTestsAndTimeoutsHoldTheModule : Obligations.FailedTestsAndTimeoutsHoldTheModule := by
  intro s
  refine ⟨fun dg flash copies dbg bk tb kn od tk => ?_, fun hm hs hu hT => ?_, fun hm hr hq hp hrom => ?_⟩
  · intro boots read laidOut held runs hm hs hr hw hc
    have hread := onlyIn_flashed s.dev flash copies
    have hmod := flashed_mod s.dev flash copies
    have hregs : (s.dev.flashed flash copies).regs = s.dev.regs := by rw [Dev.flashed, updJnl_regs, updMod_regs]
    have hcamp := (flashed_camp s.dev flash copies).trans hc
    have hserv : (s.dev.flashed flash copies).mst ≠ msService := fun h => by
      have hb : (s.dev.flashed flash copies).mst = msBoot := (hread.get_eq rfl).trans hm
      rw [h] at hb
      exact absurd hb (by decide)
    have hstarted : (s.dev.flashed flash copies).mod.started = false := by rw [hmod, ← hs]
    have hlaid : (s.dev.flashed flash copies).laidOut = laidOut := flashed_laidOut s.dev flash copies
    have hfr := flashRead_eq s.dev flash copies
    refine ⟨fun hf hl => ?_, fun hf hT => ?_, fun hf hl hT => ?_⟩
    · rw [if_neg (by omega), if_pos (hlaid.trans hl)] at hfr
      have hboot : ∀ found start, s.dev.bootRomDone found dg flash copies start = (s.dev.flashed flash copies).romDone [] found dg start :=
        fun found start => by rw [bootRomDone_eq _ _ _ _ _ _ hm hs hr hw, hfr]
      have hstart := fun {ps ks} (e : Dev) (he : OnlyIn ps ks (s.dev.flashed flash copies) e) (h1 : Part.mod ∉ ps) (h2 : Part.jnl ∉ ps) hk =>
        starts_runs flash copies dg dbg bk tb kn od tk hm hr hc (hlaid.trans hl) he h1 h2 hk
      refine ⟨?_, fun pb lb sp hlog hsp => ?_, fun hbud => ?_, fun hbud hT => ?_, fun t ht x hx hT => ?_⟩
      · obtain ⟨hruns, hbooted⟩ := hstart _ (onlyIn_refl [] noKey _) (by decide) (by decide) rfl
        exact answers_of_boot ((hboot _ _).trans (romDone_clean ..)) hbooted.camp hruns.facts
      · obtain ⟨e, he, hphys, hfe⟩ := bankRepair_spared _ ((logical_congr hregs ..).trans hlog) ((spareBank_congr hregs _).trans hsp) hserv
        obtain ⟨hruns, hbooted⟩ := hstart e hfe (by decide) (by decide) (by decide)
        exact answers_of_boot ((hboot _ _).trans (romDone_repaired _ (.inl rfl) ((hostRepair_bank ..).trans he) ..)) hbooted.camp
          ⟨hruns.facts, (hbooted.get (bankFld_boot (logical_lt hlog))).trans hphys⟩
      · obtain ⟨e, he, hspare, hfe⟩ := hostRepair_lane (s.dev.flashed flash copies) (by rw [get_of_regs hregs]; exact hbud) hserv
        obtain ⟨hruns, hbooted⟩ := hstart e hfe (by decide) (by decide) (by decide)
        exact answers_of_boot ((hboot _ _).trans (romDone_repaired _ (.inr rfl) he ..)) hbooted.camp
          ⟨hruns.facts, hbooted.spare.trans hspare⟩
      · have hTf : (s.dev.flashed flash copies).get FY_STRESULT_TEST = 0 := (hread.get_eq rfl).trans hT
        have hrec := onlyIn_testFailed_first _ 2 6 1 hTf
        obtain ⟨hreg, htest, -, -⟩ := testFailed_record _ hTf (by decide : 2 < 256) (by decide : 6 < 256) (by decide : 1 < 256)
        have hlost : OnlyIn [.cor] (fun k => k == FY_STRESULT) (s.dev.flashed flash copies) _ :=
          (hrec.mono (by decide) fun _ h => h).updCor (fun c => { c with up := { c.up with lost := true } }) (by decide)
        obtain ⟨hruns, hbooted⟩ := hstart _ hlost (by decide) (by decide) (by decide)
        refine answers_of_boot ((hboot _ _).trans (romDone_laneless _ (hostRepair_laneless _ (by rw [get_of_regs hregs]; exact hbud)) ..))
          hbooted.camp ⟨hruns.facts, ?_, ?_, ?_⟩
        · rw [hbooted.lost, updCor_cor]
        · rw [hbooted.get (by decide), updCor_get]
          exact hreg
        · rw [hbooted.get (by decide), updCor_get]
          exact htest
      · obtain ⟨hheld, hjnl, -, hmeas⟩ := romFailed_held (t := t) (x := x) (digest := dg) (b := t = 5 ∧ ([] : List (Nat × Nat)) = []) hread hm hstarted hT
          (by simp only [List.mem_cons, List.not_mem_nil, or_false] at ht; omega) hx
        refine answers_of_boot ((hboot _ _).trans (romDone_fails _ ht (.inl ⟨rfl, rfl⟩) ..)) (by rw [hjnl, hcamp]) ⟨hheld.facts, hmeas.trans ?_⟩
        rw [hmod]
        by_cases h5 : t = 5 <;> simp [h5]
    · rw [if_pos hf] at hfr
      obtain ⟨hheld, hjnl, hflash, hmeas⟩ := romFailed_held (t := 5) (x := 0xFE) (digest := dg) (b := 5 = 5 ∧ [(5, 0xFE)] = ([] : List (Nat × Nat)))
        hread hm hstarted hT (by decide) (by decide)
      refine answers_of_boot (u := ((s.dev.flashed flash copies).romFailed 5 0xFE dg _).romHeld) ?_ (by rw [hjnl, hcamp])
        ⟨hheld.facts, ?_, by rw [hflash, hmod]⟩
      · rw [bootRomDone_eq _ _ _ _ _ _ hm hs hr hw, hfr]
        exact romDone_fails _ (by decide) (.inr ⟨rfl, rfl, rfl⟩) ..
      · rw [hmeas, if_neg (by simp), hmod]
    · rw [if_neg (by omega), if_neg (by rw [hlaid, hl]; decide)] at hfr
      obtain ⟨hfe, hec, hslots⟩ := foldl_emptied (List.range 9) _ hstarted
      rw [← slotsEmpty_eq] at hfe hec hslots
      have hmode := hfe.mod_eq (by decide)
      obtain ⟨hheld, hjnl, -, hmeas⟩ := romFailed_held (t := 5) (x := 0xFF) (digest := dg) (b := 5 = 5 ∧ [(5, 0xFF)] = ([] : List (Nat × Nat)))
        (hread.trans (hfe.mono (by decide) fun _ h => h)) hm (by rw [hmode]; exact hstarted) hT (by decide) (by decide)
      refine answers_of_boot (u := ((s.dev.flashed flash copies).slotsEmpty.romFailed 5 0xFF dg _).romHeld) ?_ (by rw [hjnl, hec, hcamp])
        ⟨hheld.facts, ?_, fun i hi n hn => ?_⟩
      · rw [bootRomDone_eq _ _ _ _ _ _ hm hs hr hw, hfr]
        exact romDone_fails _ (by decide) (.inr ⟨rfl, rfl, rfl⟩) ..
      · rw [hmeas, if_neg (by simp), hmode, hmod]
      · rw [Dev.slotState, slotWord_of_jnl hjnl, ← Dev.slotState, hslots i n hn, if_pos (List.mem_range.2 hi)]
  · refine answers_of_upd rfl ?_
    rw [when_pos _ _ (by rw [hm, hs, hu]; rfl)]
    exact corridorDown_holds s.dev hu hT
  · exact answers_of_upd (g := Dev.failsafeRestart) rfl (failsafeRestart_starts s.dev hm hr hq hp hrom)

end Sys2Proof.Machine
end

section
/-! The end of the field side's self-tests: flights tested, failures recorded, and LOADING or HOLD (02 R45, R49, R54). -/

namespace Sys2Proof.Machine

/-! ## What operations of the field side keep -/

/-- Parts of the field side and the lane. -/
def fieldParts : List Part := [.nw, .cor, .fa, .fb, .gl]

/-- An operation of the field side that leaves the module state there and whether the Corridor is up. -/
structure FieldKept (ks : Nat → Bool) (d e : Dev) : Prop where
  frame : OnlyIn fieldParts ks d e
  link : e.linkUp = d.linkUp
  state : e.nw.modState = d.nw.modState

theorem FieldKept.refl (ks : Nat → Bool) (d : Dev) : FieldKept ks d d := ⟨onlyIn_refl .., rfl, rfl⟩

theorem FieldKept.trans {ks : Nat → Bool} {d e f : Dev} (h : FieldKept ks d e) (k : FieldKept ks e f) : FieldKept ks d f :=
  ⟨h.frame.trans k.frame, k.link.trans h.link, k.state.trans h.state⟩

theorem linkUp_of_cor {d e : Dev} (h : e.cor = d.cor) : e.linkUp = d.linkUp := by rw [Dev.linkUp, h]; rfl

/-- A change outside the Newel and the lane. -/
theorem FieldKept.other {ps : List Part} {ks : Nat → Bool} {d e f : Dev} (h : FieldKept ks d e) (k : OnlyIn ps ks e f) (hp : ∀ p ∈ ps, p ∈ fieldParts)
    (hn : .nw ∉ ps) (hc : .cor ∉ ps) : FieldKept ks d f :=
  h.trans ⟨k.mono hp fun _ h => h, linkUp_of_cor (k.cor_eq hc), by rw [k.nw_eq hn]⟩

theorem FieldKept.put {ks : Nat → Bool} {d e : Dev} (h : FieldKept ks d e) {x : Fld} (v : Nat) (hk : ks x.key = true) : FieldKept ks d (e.put x v) :=
  h.other (ps := []) ((onlyIn_refl ..).put v hk) (by decide) (by decide) (by decide)

theorem FieldKept.inc {ks : Nat → Bool} {d e : Dev} (h : FieldKept ks d e) {x : Fld} (n : Nat) (hk : ks x.key = true) : FieldKept ks d (e.inc x n) :=
  h.other (ps := []) ((onlyIn_refl ..).inc n hk) (by decide) (by decide) (by decide)

theorem FieldKept.raiseNw {ks : Nat → Bool} {d e : Dev} (h : FieldKept ks d e) (ev : Ev) : FieldKept ks d (e.raiseNw ev) :=
  h.trans ⟨(onlyIn_refl ..).raiseNw ev (by decide) (by decide), raiseNw_linkUp .., raiseNw_modState ..⟩

theorem FieldKept.newel {ks : Nat → Bool} {d e : Dev} (h : FieldKept ks d e) {g : NewelSt → NewelSt} (hg : (g e.nw).modState = e.nw.modState) :
    FieldKept ks d (e.updNw g) :=
  h.trans ⟨(onlyIn_refl ..).updNw g (by decide), rfl, hg⟩

theorem FieldKept.setFl {ks : Nat → Bool} {d e : Dev} (h : FieldKept ks d e) (f : Flt) (new : Nat) (hk : ks NW_STAT = true) :
    FieldKept ks d (e.setFl f new) :=
  h.trans ⟨(onlyIn_refl ..).setFl f new hk (by decide) (by decide), setFl_linkUp .., setFl_modState ..⟩

theorem FieldKept.ite {ks : Nat → Bool} {c : Prop} [Decidable c] {d e f : Dev} (h : FieldKept ks d e) (k : FieldKept ks d f) :
    FieldKept ks d (if c then e else f) := by split <;> assumption

theorem FieldKept.foldl {ks : Nat → Bool} {α : Type} {g : Dev → α → Dev} {l : List α} (hg : ∀ d, ∀ a ∈ l, FieldKept ks d (g d a)) (d : Dev) :
    FieldKept ks d (l.foldl g d) := by
  induction l generalizing d with
  | nil => exact .refl ks d
  | cons a t ih => exact (hg d a (by simp)).trans (ih (fun d b hb => hg d b (by simp [hb])) _)

/-- A register other than NW_STAT holds no state of a flight. -/
theorem fst_of_onlyIn {ps : List Part} {ks : Nat → Bool} {d e : Dev} (h : OnlyIn ps ks d e) (hk : ks NW_STAT = false) (f : Flt) :
    e.fst f = d.fst f := h.get_eq (by rw [nwStateFld_key]; exact hk)

/-! ## The Gallery's fail-safe levels (11 R297, R298) -/

/-- Registers of the Gallery. -/
def galleryKey (k : Nat) : Bool := k / 2 ^ 24 == 6

theorem galleryKey_channel {k n : Nat} (hk : 0x06000000 ≤ k ∧ k < 0x06010000) (hn : n < 256) : galleryKey (k + 4 * n) = true := by
  have h1 : (k + 4 * n) / 16777216 = 6 := by omega
  exact beq_iff_eq.2 h1

theorem onlyIn_updGl (d : Dev) (g : GallerySt → GallerySt) : OnlyIn [.gl] noKey d (d.updGl g) :=
  onlyIn_part .gl rfl fun p h => by cases p <;> simp [Part.same] at h ⊢

theorem OnlyIn.updGl {ps : List Part} {ks : Nat → Bool} {d e : Dev} (h : OnlyIn ps ks d e) (g : GallerySt → GallerySt) (hp : .gl ∈ ps) :
    OnlyIn ps ks d (e.updGl g) := h.step hp (onlyIn_updGl e g)

theorem onlyIn_chFailsafe (d : Dev) {n : Nat} (hn : n < 256) : OnlyIn [.gl] galleryKey d (d.chFailsafe n) :=
  .ite ((((onlyIn_refl ..).updGl _ (by decide)).put _ (galleryKey_channel (by decide) hn)).put _ (galleryKey_channel (by decide) hn)) (onlyIn_refl ..)

theorem onlyIn_mxFailsafe (d : Dev) (m : Nat) : OnlyIn [.gl] galleryKey d (d.mxFailsafe m) :=
  OnlyIn.foldl (fun _ _ _ => (onlyIn_refl ..).updGl _ (by decide)) d

/-- Fades of every channel and matrix. -/
def Dev.glFades (d : Dev) : Dev :=
  let d2 := (List.range 256).foldl (fun d n => d.chFailsafe n) d
  d2.matrices.foldl (fun d m => d.mxFailsafe m) d2

theorem onlyIn_glFades (d : Dev) : OnlyIn [.gl] galleryKey d d.glFades :=
  (OnlyIn.foldl (g := fun d n => d.chFailsafe n) (fun e _ hn => onlyIn_chFailsafe e (List.mem_range.1 hn)) d).trans
    (OnlyIn.foldl (fun e m _ => onlyIn_mxFailsafe e m) _)

theorem glFailsafe_eq (d : Dev) (cause : Nat) : d.glFailsafe cause =
    if !d.gl.cfgHeld || d.get GL_DRVSTAT_SOURCE == 1 then d
    else (((d.put GL_DRVSTAT_SOURCE 1).put GL_DRVSTAT_CAUSE cause).updGl fun x => { x with fsAt := d.nw.cycle }).glFades.raiseNw
      (.mk' .glDrvFailsafe [cause]) := rfl

/-- Entry to the fail-safe levels keeps to the Gallery. -/
theorem fieldKept_glFailsafe (d : Dev) (cause : Nat) : FieldKept galleryKey d (d.glFailsafe cause) := by
  rw [glFailsafe_eq]
  have hsrc := ((((onlyIn_refl [.gl] galleryKey d).put (x := GL_DRVSTAT_SOURCE) 1 (by decide)).put (x := GL_DRVSTAT_CAUSE) cause
    (by decide)).updGl (fun x => { x with fsAt := d.nw.cycle }) (by decide)).trans (onlyIn_glFades _)
  exact .ite (.refl ..) (((FieldKept.refl ..).other hsrc (by decide) (by decide) (by decide)).raiseNw _)

/-! ## HOLD on the field side -/

/-- The field side in HOLD. -/
def Dev.fieldHeld (d : Dev) : Dev := (d.updNw fun n => { n with modState := msHold, gate := false, fetch := none, early := none }).glFailsafe 0

theorem holdField_eq (d : Dev) (row : Nat) :
    d.holdField row = if d.fieldHeld.linkUp then d.fieldHeld.setMod msHold row else d.fieldHeld := rfl

theorem fieldHeld_keeps (d : Dev) : OnlyIn fieldParts galleryKey d d.fieldHeld ∧ d.fieldHeld.linkUp = d.linkUp ∧
    d.fieldHeld.nw.modState = msHold := by
  have h := fieldKept_glFailsafe (d.updNw fun n => { n with modState := msHold, gate := false, fetch := none, early := none }) 0
  exact ⟨((onlyIn_refl ..).updNw _ (by decide)).trans h.frame, h.link, h.state⟩

/-- HOLD on the field side, which the Foyer shares at once where the Corridor is up. -/
theorem holdField_holds (d : Dev) (row : Nat) : (d.holdField row).mst = (if d.linkUp then msHold else d.mst) ∧
    (d.holdField row).nw.modState = msHold ∧ ∀ x : Fld, x.key = FY_STRESULT → (d.holdField row).get x = d.get x := by
  obtain ⟨hf, hl, hs⟩ := fieldHeld_keeps d
  rw [holdField_eq, hl]
  generalize d.fieldHeld = e at hf hs ⊢
  have hget : ∀ x : Fld, x.key = FY_STRESULT → e.get x = d.get x := fun x hx => hf.get_eq (by rw [hx]; rfl)
  cases d.linkUp with
  | true =>
    rw [if_pos rfl, if_pos rfl, (onlyIn_setMod_foyer e msHold row).nw_eq (by decide)]
    have hset : OnlyIn [.mod, .arc, .upd, .cor] (orEvent [FY_MODSTATE]) e (e.setMod msHold row) :=
      (onlyIn_refl ..).setMod _ _ (fun _ h => h) (by decide)
    exact ⟨setMod_mst e row (by decide), hs, fun x hx => (hset.get_eq (by rw [hx]; rfl)).trans (hget x hx)⟩
  | false => exact ⟨hf.get_eq rfl, hs, hget⟩

/-! ## The flights after their tests -/

/-- Registers of the field side, and the record of failed tests. -/
def testKey (k : Nat) : Bool := flightKey k || k == FY_STRESULT

theorem testedFl_ok (d : Dev) (f : Flt) : d.testedFl f true = if d.fst f ≠ fsTesting then d else d.setFl f fsLoading := by
  rw [Dev.testedFl, if_pos (rfl : true = true)]

theorem fieldKept_testedFl (d : Dev) (f : Flt) : FieldKept flightKey d (d.testedFl f true) := by
  rw [testedFl_ok]
  exact .ite (.refl ..) ((FieldKept.refl ..).setFl f _ (by decide))

theorem testedFl_loads (d : Dev) {f : Flt} (h : d.fst f = fsTesting) : (d.testedFl f true).fst f = fsLoading := by
  rw [testedFl_ok, if_neg (by simp [h])]
  exact setFl_fst_same d f (by decide)

theorem testedFl_other (d : Dev) {f g : Flt} (hg : g ≠ f) : (d.testedFl f true).fst g = d.fst g := by
  rw [testedFl_ok]
  split
  · rfl
  · exact setFl_fst_other d hg _

/-- A failure of the field side's tests at a start. -/
theorem fieldKept_fieldFailed (d : Dev) {e : Nat × Nat × Nat} (he : e.1 = 5) :
    FieldKept (fun k => k == FY_STRESULT) d (d.fieldFailed e) := by
  obtain ⟨r, t, x⟩ := e
  obtain rfl : r = 5 := he
  have hrec := ((((FieldKept.refl (fun k => k == FY_STRESULT) d).put (x := FY_STRESULT_REGION) 5 (by decide)).put (x := FY_STRESULT_TEST) t
    (by decide)).put (x := FY_STRESULT_DETAIL) x (by decide))
  exact .ite ((FieldKept.ite hrec ((FieldKept.refl ..).raiseNw _)).inc _ (by decide)) ((FieldKept.refl ..).raiseNw _)

/-- The field side's tests with their failures told, `l` those that no spare repairs, and both flights' results. -/
def Dev.fieldTested (d : Dev) (tested : List Flt) (spare : Flt → Bool) (l : List (Nat × Nat × Nat)) : Dev :=
  ((l.foldl (fun (d : Dev) e => d.fieldFailed e) (tested.foldl (fun (d : Dev) f => d.put (FL_TREADMAP_SPAREOK.at f) (b2n (spare f))) d)).testedFl
    .a true).testedFl .b true

/-- The map of a flight's spare Tread, as its tests leave it. -/
theorem fieldKept_spares (d : Dev) (tested : List Flt) (spare : Flt → Bool) :
    FieldKept flightKey d (tested.foldl (fun (d : Dev) f => d.put (FL_TREADMAP_SPAREOK.at f) (b2n (spare f))) d) :=
  .foldl (fun _ f _ => (FieldKept.refl ..).put _ (flightKey_at rfl f)) d

theorem spares_fst (d : Dev) (tested : List Flt) (spare : Flt → Bool) (g : Flt) :
    (tested.foldl (fun (d : Dev) f => d.put (FL_TREADMAP_SPAREOK.at f) (b2n (spare f))) d).fst g = d.fst g := by
  induction tested generalizing d with
  | nil => rfl
  | cons f t ih =>
    refine (ih _).trans (get_put_other d _ _ _ ?_ ?_ ?_)
    · cases f <;> rfl
    · cases g <;> rfl
    · cases f <;> cases g <;> rfl

theorem FieldKept.keys {ks js : Nat → Bool} {d e : Dev} (h : FieldKept ks d e) (hk : ∀ k, js k = false → ks k = false) : FieldKept js d e :=
  ⟨h.frame.mono (fun _ h => h) hk, h.link, h.state⟩

theorem testKey_false {k : Nat} (h : testKey k = false) : flightKey k = false ∧ (k == FY_STRESULT) = false := Bool.or_eq_false_iff.1 h

/-- Failures of region 5 leave the results of the flights: A, tested, is in LOADING. -/
theorem fieldTested_keeps (d : Dev) (tested : List Flt) (spare : Flt → Bool) (l : List (Nat × Nat × Nat)) (hl : ∀ e ∈ l, e.1 = 5)
    (ha : d.fst .a = fsTesting) : FieldKept testKey d (d.fieldTested tested spare l) ∧ (d.fieldTested tested spare l).fst .a = fsLoading := by
  unfold Dev.fieldTested
  have h0 := fieldKept_spares d tested spare
  have hf0 := spares_fst d tested spare .a
  generalize tested.foldl (fun (d : Dev) f => d.put (FL_TREADMAP_SPAREOK.at f) (b2n (spare f))) d = e at h0 hf0 ⊢
  have h1 := FieldKept.foldl (ks := fun k => k == FY_STRESULT) (g := fun (d : Dev) e => d.fieldFailed e) (l := l)
    (fun e x hx => fieldKept_fieldFailed e (hl x hx)) e
  generalize l.foldl (fun (d : Dev) e => d.fieldFailed e) e = t at h1 ⊢
  have ht : t.fst .a = fsTesting := (fst_of_onlyIn h1.frame (by decide) .a).trans (hf0.trans ha)
  exact ⟨(((h0.keys fun k hk => (testKey_false hk).1).trans (h1.keys fun k hk => (testKey_false hk).2)).trans
    ((fieldKept_testedFl t .a).keys fun k hk => (testKey_false hk).1)).trans ((fieldKept_testedFl _ .b).keys fun k hk => (testKey_false hk).1), (testedFl_other _ (by decide)).trans (testedFl_loads t ht)⟩

/-! ## FIELD_SELFTEST_DONE at a start -/

/-- At a start, with no failure of a flight's own tests, the answer is the tests' end. -/
theorem selftestDone_start (d : Dev) {fails : List (Nat × Nat × Nat)} (hs : d.nw.modState = msSelftest)
    (hr : repairs Dev.fieldRepair d (fails.filter d.testRuns) = (d, fails)) (hf : ∀ e ∈ fails, e.1 = 5) :
    d.selftestDone fails [] [] = (d.fieldTested ([Flt.a, Flt.b].filter fun f => d.fst f == fsTesting)
      (fun f => !fails.any fun e => e.1 == 3 + f.num && e.2.1 == 0x10 && e.2.2 == 16) fails).startTested
        (fun n => !fails.any fun e => e.1 == n) [] := by
  have hok : ∀ f : Flt, (!fails.any fun e => e.1 == 3 + f.num) = true := fun f => by
    rw [Bool.not_eq_true', List.any_eq_false]
    intro e he
    rw [hf e he]
    cases f <;> decide
  unfold Dev.selftestDone
  rw [List.nil_append, hr]
  dsimp only
  rw [if_pos hs, bothFl_eq, hok .a, hok .b]
  rfl

/-! ## LOADING (02 R45 step 6; 18 R492) -/

/-- Without a campaign the loads only choose their slots. -/
theorem bootKept_loadStart (d : Dev) (bad : List Nat) (hc : d.jnl.camp = none) : BootKept d (d.loadStart bad) := by
  have hfold : ∀ (l : List Nat) (g : Nat → Dev → Bool) (e : Dev), (∀ n ∈ l, n < 6) → e.jnl.camp = none →
      BootKept e (l.foldl (fun (d : Dev) n => d.trialStart (n + 1) (g (n + 1) d)) e) := by
    intro l g
    induction l with
    | nil => exact fun e _ _ => .refl e
    | cons n t ih =>
      intro e hl he
      have hn : n + 1 < 9 := by
        have := hl n (by simp)
        omega
      have hstep := bootKept_trialStart e hn (g (n + 1) e) he
      exact hstep.trans (ih _ (fun m hm => hl m (by simp [hm])) (hstep.camp he))
  have hstart := hfold (List.range 6) (fun i d => bad.contains i || (d.slotInfo i (d.loadSlot i)).bad) d (fun n hn => List.mem_range.1 hn) hc
  unfold Dev.loadStart
  dsimp only
  rw [reverting_none (hstart.camp hc), if_neg (by decide)]
  exact hstart

/-- The field side in LOADING, its regions without failures noted. -/
def Dev.fieldLoading (d : Dev) (ok : Nat → Bool) : Dev :=
  (d.updNw fun n => { n with regionFaults := b2n (!ok 5) * 4 + b2n (!ok 6) * 8 + b2n (!ok 7) * 16 }).updNw fun n => { n with modState := msLoading }

theorem onlyIn_fieldLoading (d : Dev) (ok : Nat → Bool) : OnlyIn [.nw] noKey d (d.fieldLoading ok) :=
  ((onlyIn_refl ..).updNw _ (by decide)).updNw _ (by decide)

theorem fieldLoading_modState (d : Dev) (ok : Nat → Bool) : (d.fieldLoading ok).nw.modState = msLoading := by rw [Dev.fieldLoading, updNw_nw]

theorem startTested_passes (d : Dev) {ok : Nat → Bool} (hok : ∀ n, ok n = true) (ha : d.fst .a = fsLoading) : d.startTested ok [] =
    if !d.linkUp then d.fieldLoading ok else ((d.fieldLoading ok).setMod msLoading 6).loadStart [] := by
  have hfa : (d.updNw fun n => { n with regionFaults := b2n (!ok 5) * 4 + b2n (!ok 6) * 8 + b2n (!ok 7) * 16 }).fst .a = fsLoading :=
    (fst_of_onlyIn (onlyIn_updNw ..) rfl .a).trans ha
  have hnone : ∀ (b : Nat → Bool), ((List.range 6).any fun n => ([] : List Nat).contains (n + 1) && b n) = false := fun b => by
    rw [List.any_eq_false]
    exact fun n _ => by simp
  unfold Dev.startTested
  dsimp only
  rw [if_pos ⟨.inl hfa, hok 5, hok 6, hok 7⟩, hnone, if_neg Bool.false_ne_true]
  rfl

/-- The tests passed: LOADING, at the Foyer too where the Corridor is up. -/
theorem startTested_loads (d : Dev) {ok : Nat → Bool} (hok : ∀ n, ok n = true) (ha : d.fst .a = fsLoading) (hm : d.mst = msSelftest)
    (hc : d.jnl.camp = none) : (d.startTested ok []).jnl.camp = none ∧
    (d.startTested ok []).mst = (if d.linkUp then msLoading else msSelftest) ∧ (d.startTested ok []).nw.modState = msLoading ∧
    (d.startTested ok []).fst .a = fsLoading := by
  rw [startTested_passes d hok ha]
  have hf := onlyIn_fieldLoading d ok
  have hs := fieldLoading_modState d ok
  generalize d.fieldLoading ok = e at hf hs ⊢
  have hec : e.jnl.camp = none := by rw [hf.jnl_eq (by decide), hc]
  have hea : e.fst .a = fsLoading := (fst_of_onlyIn hf rfl .a).trans ha
  cases d.linkUp with
  | false => exact ⟨hec, (hf.get_eq rfl).trans hm, hs, hea⟩
  | true =>
    have hset := onlyIn_setMod_foyer e msLoading 6
    have hmst := setMod_mst e (new := msLoading) 6 (by decide)
    rw [Bool.not_true, if_neg (by decide), if_pos rfl]
    generalize e.setMod msLoading 6 = t at hset hmst ⊢
    have htc : t.jnl.camp = none := by rw [hset.jnl_eq (by decide), hec]
    have hload := bootKept_loadStart t [] htc
    exact ⟨hload.camp htc, (get_of_rd (hload.regs _ (by decide))).trans hmst, by rw [hload.nw, hset.nw_eq (by decide), hs],
      (get_of_rd (hload.regs _ (by rw [nwStateFld_key]; decide))).trans ((fst_of_onlyIn hset (by decide) .a).trans hea)⟩

/-- A failure of the clock's test: HOLD on both sides where the Corridor is up. -/
theorem startTested_holds (d : Dev) {ok : Nat → Bool} (h5 : ok 5 = false) (bad : List Nat) :
    ∃ g, d.startTested ok bad = (d.updNw g).holdField 7 :=
  ⟨_, if_neg fun h => by rw [h5] at h; exact absurd h.2.1 (by decide)⟩

theorem holdField_jnl (d : Dev) (row : Nat) : (d.holdField row).jnl = d.jnl := by
  obtain ⟨hf, -, -⟩ := fieldHeld_keeps d
  rw [holdField_eq]
  split
  · rw [(onlyIn_setMod_foyer ..).jnl_eq (by decide), hf.jnl_eq (by decide)]
  · rw [hf.jnl_eq (by decide)]

theorem selftestDone_passes (d : Dev) (hs : d.nw.modState = msSelftest) (ha : d.fst .a = fsTesting) (hm : d.mst = msSelftest)
    (hc : d.jnl.camp = none) : (d.selftestDone [] [] []).jnl.camp = none ∧
    (d.selftestDone [] [] []).mst = (if d.linkUp then msLoading else msSelftest) ∧ (d.selftestDone [] [] []).nw.modState = msLoading ∧
    (d.selftestDone [] [] []).fst .a = fsLoading := by
  rw [selftestDone_start d hs rfl (by simp)]
  obtain ⟨hk, hka⟩ := fieldTested_keeps d ([Flt.a, Flt.b].filter fun f => d.fst f == fsTesting)
    (fun f => !([] : List (Nat × Nat × Nat)).any fun e => e.1 == 3 + f.num && e.2.1 == 0x10 && e.2.2 == 16) [] (by simp) ha
  generalize d.fieldTested _ _ [] = t at hk hka ⊢
  rw [← hk.link]
  exact startTested_loads t (fun _ => rfl) hka ((hk.frame.get_eq rfl).trans hm) (by rw [hk.frame.jnl_eq (by decide), hc])

theorem fieldRepair_clock (d : Dev) (x : Nat) : d.fieldRepair (5, 0x17, x) = none := by
  unfold Dev.fieldRepair
  rw [if_neg (show ¬((5 : Nat) = 3 ∨ (5 : Nat) = 4) by decide), if_neg (show ¬((5 : Nat) = 6 ∧ (0x17 : Nat) = 0x14) by decide)]

/-- The clock's test runs at every start. -/
theorem testRuns_clock {d : Dev} (hs : d.nw.modState = msSelftest) (x : Nat) : d.testRuns (5, 0x17, x) = true := by
  have h : (d.nw.modState == msSelftest) = true := beq_iff_eq.2 hs
  unfold Dev.testRuns
  rw [h]
  exact Bool.or_true _

/-- A failure of the field side is the first in the record while the Corridor is up. -/
theorem fieldFailed_record (d : Dev) {x : Nat} (hx : x < 256) (hl : d.linkUp = true) (hs : d.nw.modState = msSelftest)
    (hT : d.get FY_STRESULT_TEST = 0) : let u := d.fieldFailed (5, 0x17, x)
    u.get FY_STRESULT_REGION = 5 ∧ u.get FY_STRESULT_TEST = 0x17 ∧ u.get FY_STRESULT_DETAIL = x := by
  obtain ⟨h1, h2, h3, -⟩ := testFailed_record d hT (by decide : 5 < 256) (by decide : 0x17 < 256) hx
  have hc : (d.linkUp && d.nw.modState == msSelftest) = true := by rw [hl, hs]; rfl
  rw [Dev.fieldFailed, if_pos hc]
  exact ⟨h1, h2, h3⟩

theorem fieldTested_record (d : Dev) (tested : List Flt) (spare : Flt → Bool) {x : Nat} (hx : x < 256) (hl : d.linkUp = true)
    (hs : d.nw.modState = msSelftest) (hT : d.get FY_STRESULT_TEST = 0) : let u := d.fieldTested tested spare [(5, 0x17, x)]
    u.get FY_STRESULT_REGION = 5 ∧ u.get FY_STRESULT_TEST = 0x17 ∧ u.get FY_STRESULT_DETAIL = x := by
  unfold Dev.fieldTested
  have h0 := fieldKept_spares d tested spare
  generalize tested.foldl (fun (d : Dev) f => d.put (FL_TREADMAP_SPAREOK.at f) (b2n (spare f))) d = e at h0 ⊢
  obtain ⟨h1, h2, h3⟩ := fieldFailed_record e hx (h0.link.trans hl) (h0.state.trans hs) ((h0.frame.get_eq rfl).trans hT)
  rw [List.foldl_cons, List.foldl_nil]
  generalize e.fieldFailed (5, 0x17, x) = t at h1 h2 h3 ⊢
  have hafter := (fieldKept_testedFl t .a).trans (fieldKept_testedFl _ .b)
  exact ⟨(hafter.frame.get_eq rfl).trans h1, (hafter.frame.get_eq rfl).trans h2, (hafter.frame.get_eq rfl).trans h3⟩

theorem selftestDone_clock (d : Dev) {x : Nat} (hx : x < 256) (hs : d.nw.modState = msSelftest) (ha : d.fst .a = fsTesting) (hm : d.mst = msSelftest)
    (hc : d.jnl.camp = none) : let u := d.selftestDone [(5, 0x17, x)] [] []
    u.jnl.camp = none ∧ u.mst = (if d.linkUp then msHold else msSelftest) ∧ u.nw.modState = msHold ∧
    (d.linkUp = true → d.get FY_STRESULT_TEST = 0 →
      u.get FY_STRESULT_REGION = 5 ∧ u.get FY_STRESULT_TEST = 0x17 ∧ u.get FY_STRESULT_DETAIL = x) := by
  have hr : repairs Dev.fieldRepair d ([(5, 0x17, x)].filter d.testRuns) = (d, [(5, 0x17, x)]) := by
    rw [List.filter_cons, testRuns_clock hs, if_pos rfl, List.filter_nil]
    simp only [repairs, fieldRepair_clock]
  rw [selftestDone_start d hs hr (by simp)]
  obtain ⟨hk, -⟩ := fieldTested_keeps d ([Flt.a, Flt.b].filter fun f => d.fst f == fsTesting)
    (fun f => !([(5, 0x17, x)] : List (Nat × Nat × Nat)).any fun e => e.1 == 3 + f.num && e.2.1 == 0x10 && e.2.2 == 16) [(5, 0x17, x)] (by simp) ha
  have hrec := fieldTested_record d ([Flt.a, Flt.b].filter fun f => d.fst f == fsTesting)
    (fun f => !([(5, 0x17, x)] : List (Nat × Nat × Nat)).any fun e => e.1 == 3 + f.num && e.2.1 == 0x10 && e.2.2 == 16) hx
  generalize d.fieldTested _ _ [(5, 0x17, x)] = t at hk hrec ⊢
  obtain ⟨g, hg⟩ := startTested_holds t (ok := fun n => !([(5, 0x17, x)] : List (Nat × Nat × Nat)).any fun e => e.1 == n) rfl []
  rw [hg]
  have hnoted := onlyIn_updNw t g
  generalize t.updNw g = w at hnoted ⊢
  obtain ⟨h1, h2, h3⟩ := holdField_holds w 7
  have hl : w.linkUp = d.linkUp := (linkUp_of_cor (hnoted.cor_eq (by decide))).trans hk.link
  have hwm : w.mst = msSelftest := (hnoted.get_eq rfl).trans ((hk.frame.get_eq rfl).trans hm)
  refine ⟨?_, ?_, h2, fun hup hT => ?_⟩
  · rw [holdField_jnl, hnoted.jnl_eq (by decide), hk.frame.jnl_eq (by decide), hc]
  · rw [h1, hl, hwm]
  obtain ⟨r1, r2, r3⟩ := hrec hup hs hT
  exact ⟨(h3 _ rfl).trans ((hnoted.get_eq rfl).trans r1), (h3 _ rfl).trans ((hnoted.get_eq rfl).trans r2),
    (h3 _ rfl).trans ((hnoted.get_eq rfl).trans r3)⟩

end Sys2Proof.Machine
end

section
/-! The transfer of the images: the blocks that the Foyer sends and the Newel keeps, and what the flights report of them (02 R45, R52, R53;
01 R34, R41). -/

namespace Sys2Proof.Machine

/-! ## A message of a start reaches the Newel -/

/-- Whether a message is accepted depends on the loss of the lane and on the last sequence alone. -/
theorem accept_txSeq (c : CrDir) (t q : Nat) : ({ c with txSeq := t }.accept q).2 = (c.accept q).2 := by
  simp only [CrDir.accept]
  split
  · rfl
  · cases c.lastAcc with
    | none => rfl
    | some l =>
      dsimp only
      split
      · rfl
      · split <;> rfl

/-- The Newel with a message of a start: only the Corridor and the Newel's buffers differ. -/
structure Reached (d e : Dev) : Prop where
  frame : OnlyIn [.cor, .nw] noKey d e
  newel : ∃ i s, e.nw = { d.nw with ingress := i, source := s }
  upQ : e.cor.upQ = d.cor.upQ
  up : e.cor.up = d.cor.up
  fieldUp : e.cor.fieldUp = d.cor.fieldUp

/-- A request of the Foyer, or none. -/
def Dev.sentIf (d : Dev) (b : Bool) (typ : Nat) (payload : List Byte) (more : Bool) : Dev := if b then d.request typ payload more else d

theorem sentIf_keeps (d : Dev) (b : Bool) (typ : Nat) (payload : List Byte) (more : Bool) :
    OnlyIn [.cor] noKey d (d.sentIf b typ payload more) ∧ (d.sentIf b typ payload more).cor.link = d.cor.link ∧
    ∃ t, (d.sentIf b typ payload more).cor.down = { d.cor.down with txSeq := t } := by
  cases b
  · exact ⟨onlyIn_refl .., rfl, d.cor.down.txSeq, rfl⟩
  · exact ⟨(onlyIn_refl ..).sendReq _ more (by decide), rfl, _, rfl⟩

theorem bootMsg_reaches (d : Dev) {q : Nat} (typ : Nat) (payload : List Byte) (more : Bool) (g : Dev → Dev) (h : (d.cor.down.accept q).2 = true) :
    ∃ e, d.bootMsg q typ payload more g = g e ∧ Reached d e := by
  have hmsg : d.bootMsg q typ payload more g =
      (d.sentIf (decide (q = (d.downSlot typ).1 ∧ d.mod.started ∧ d.cor.hostUp)) typ payload more).toNewel
        ⟨q, typ, 2 * b2n more, 0, 0, 0, 1, 0, payload⟩ g := by
    unfold Dev.bootMsg Dev.sentIf
    simp only [decide_eq_true_eq]
  obtain ⟨hf, hl, t, hd⟩ := sentIf_keeps d (decide (q = (d.downSlot typ).1 ∧ d.mod.started ∧ d.cor.hostUp)) typ payload more
  rw [hmsg]
  generalize d.sentIf _ typ payload more = w at hf hl hd ⊢
  obtain ⟨i, s, hk⟩ := acceptDown_corFrame (d := w) (q := q) (by rw [hd, accept_txSeq]; exact h) ⟨q, typ, 2 * b2n more, 0, 0, 0, 1, 0, payload⟩ g
  have hup : w.cor.link.upQ = d.cor.link.upQ ∧ w.cor.link.up = d.cor.link.up ∧ w.cor.link.fieldUp = d.cor.link.fieldUp := by rw [hl]; exact ⟨rfl, rfl, rfl⟩
  obtain ⟨h1, h2, h3⟩ := hup
  refine ⟨w.keptFrame q i s, hk, (hf.mono (by decide) fun _ h => h).trans (onlyIn_keptFrame w q i s), ⟨i, s, ?_⟩, h1, h2, h3⟩
  rw [Dev.keptFrame, updNw_nw, updCor_nw, hf.nw_eq (by decide)]

/-- A REPLY of the Newel while the Corridor is up there. -/
theorem replyNow_up (d : Dev) (h : d.cor.fieldUp = true) (typ : Nat) (hd : MsgHdr) (st : Nat) (body : List Byte) :
    d.replyNow typ hd st body = d.putUp ⟨typ, hd.seq, st, hd.suite, hd.role, body, none⟩ := by
  unfold Dev.replyNow Dev.sendUp
  rw [if_pos h]

/-! ## Blocks of the images -/

theorem storeBlock_nw (d : Dev) (comp : Nat) (last : Bool) (data : List Byte) : (d.storeBlock comp last data).nw = { d.nw with
    load := mput d.nw.load comp (if d.nw.staged.contains comp then data else mget [] d.nw.load comp ++ data)
    staged := if last then d.nw.staged.filter (· ≠ comp) ++ [comp] else d.nw.staged.filter (· ≠ comp) } := by
  unfold Dev.storeBlock
  rw [updNw_nw]

/-- A block is appended to its component's bytes, which start anew after a component that was complete; the last one completes it. -/
theorem storeBlock_stores (d : Dev) (comp : Nat) (last : Bool) (data : List Byte) :
    mget [] (d.storeBlock comp last data).nw.load comp = (if d.nw.staged.contains comp then data else mget [] d.nw.load comp ++ data) ∧
    (d.storeBlock comp last data).nw.staged.contains comp = last := by
  rw [storeBlock_nw]
  refine ⟨mget_mput_same .., ?_⟩
  cases last <;> simp

theorem OnlyIn.storeBlock {ps : List Part} {ks : Nat → Bool} {d e : Dev} (h : OnlyIn ps ks d e) (comp : Nat) (last : Bool) (data : List Byte)
    (hp : .nw ∈ ps) : OnlyIn ps ks d (e.storeBlock comp last data) := h.updNw _ hp

theorem measure_meas (d : Dev) (n v : Nat) :
    (d.measure n v).mod.meas = if n ∉ d.mod.measDone then mset 0 d.mod.meas n v else d.mod.meas := by
  obtain ⟨l, hl⟩ := measure_mod d n v
  rw [hl]
  by_cases h : n ∈ d.mod.measDone <;> simp [h]

/-- The last block of an image measures it. -/
def Dev.lastMeasured (d : Dev) (comp : Nat) (last : Bool) : Dev := if last then d.measure (comp - 1) (shaNum (mget [] d.nw.load comp)) else d

theorem onlyIn_lastMeasured (d : Dev) (comp : Nat) (last : Bool) : OnlyIn [.mod] noKey d (d.lastMeasured comp last) :=
  .ite (onlyIn_measure ..) (onlyIn_refl ..)

theorem lastMeasured_meas (d : Dev) (comp : Nat) (last : Bool) : (d.lastMeasured comp last).mod.meas =
    if last ∧ comp - 1 ∉ d.mod.measDone then mset 0 d.mod.meas (comp - 1) (shaNum (mget [] d.nw.load comp)) else d.mod.meas := by
  cases last with
  | false => rw [if_neg (by simp)]; rfl
  | true => simp [Dev.lastMeasured, measure_meas]

theorem bootImage_stored (d : Dev) (q : Nat) {comp : Nat} (last : Bool) (data : List Byte) (hl : d.nw.modState = msLoading) (hc : comp ∈ [2, 4, 5]) :
    d.bootImage q comp last data = ((d.storeBlock comp last data).lastMeasured comp last).replyNow 0x01 (foyerHdr q) E_OK [] := by
  have hload : d.loading = true := by
    have h : (d.nw.modState == msLoading) = true := beq_iff_eq.2 hl
    unfold Dev.loading
    rw [h]
    rfl
  simp only [List.mem_cons, List.not_mem_nil, or_false] at hc
  unfold Dev.bootImage
  rw [hload, if_neg (by decide), if_neg (by omega)]
  have h3 : ¬(last = true ∧ comp = 3) := fun h => by omega
  dsimp only
  rw [if_neg h3]
  rfl

theorem configBlock_stored (d : Dev) (q : Nat) {comp : Nat} {last : Bool} (data : List Byte) (hl : d.nw.modState = msLoading)
    (hc : comp ∈ [0x10, 0x11, 0x80, 0x81, 0x82, 0x83]) (hk : last = true → 0x80 ≤ comp) :
    d.configBlock q comp last data = (d.storeBlock comp last data).replyNow 0x02 (foyerHdr q) E_OK [] := by
  unfold Dev.configBlock
  rw [if_neg (by simp [hl]), if_neg (not_not.2 hc)]
  dsimp only
  rw [if_neg fun h => by have := hk h.1; omega]

/-- An image block that reaches the Newel. -/
theorem bootImage_answers {d e : Dev} (he : Reached d e) (q : Nat) {comp : Nat} (last : Bool) (data : List Byte) (hl : d.nw.modState = msLoading)
    (hu : d.cor.fieldUp = true) (hc : comp ∈ [2, 4, 5]) :
    let bytes := if d.nw.staged.contains comp then data else mget [] d.nw.load comp ++ data
    let u := e.bootImage q comp last data
    mget [] u.nw.load comp = bytes ∧ u.nw.staged.contains comp = last ∧ d.sentUp u ⟨0x01, q, E_OK, 0, 1, [], none⟩ ∧
    u.mod.meas = (if last ∧ comp - 1 ∉ d.mod.measDone then mset 0 d.mod.meas (comp - 1) (shaNum bytes) else d.mod.meas) ∧
    u.fa = d.fa ∧ u.fb = d.fb := by
  obtain ⟨hf, ⟨i, s, hn⟩, hq, hup, hfu⟩ := he
  have hload : e.nw.modState = msLoading := by rw [hn, ← hl]
  have hst : e.nw.staged = d.nw.staged ∧ e.nw.load = d.nw.load := by rw [hn]; exact ⟨rfl, rfl⟩
  obtain ⟨hbytes, hlast⟩ := storeBlock_stores e comp last data
  rw [hst.1, hst.2] at hbytes
  have hs := hf.storeBlock comp last data (by decide)
  have hcor : (e.storeBlock comp last data).cor = e.cor := updNw_cor ..
  rw [bootImage_stored e q last data hload hc]
  generalize e.storeBlock comp last data = t at hbytes hlast hs hcor ⊢
  have hm := onlyIn_lastMeasured t comp last
  have hmeas := lastMeasured_meas t comp last
  rw [hbytes, hs.mod_eq (by decide)] at hmeas
  generalize t.lastMeasured comp last = m at hm hmeas ⊢
  have hmc : m.cor = e.cor := by rw [hm.cor_eq (by decide), hcor]
  have hmu : m.cor.fieldUp = true := by rw [hmc, hfu, hu]
  have hsent := replyNow_sentUp (d := d) (e := m) (by rw [hmc, hq]) (by rw [hmc, hup]) hmu 0x01 (foyerHdr q) E_OK []
  intro bytes u
  refine ⟨?_, ?_, hsent, ?_, ?_, ?_⟩
  all_goals rw [show u = m.putUp ⟨0x01, q, E_OK, 0, 1, [], none⟩ from replyNow_up m hmu ..]
  · rw [putUp_nw, hm.nw_eq (by decide), hbytes]
  · rw [putUp_nw, hm.nw_eq (by decide), hlast]
  · rw [putUp_mod, hmeas]
  · rw [putUp_fa, hm.fa_eq (by decide), hs.fa_eq (by decide)]
  · rw [putUp_fb, hm.fb_eq (by decide), hs.fb_eq (by decide)]

/-- A block of the configuration or of a key that reaches the Newel. -/
theorem configBlock_answers {d e : Dev} (he : Reached d e) (q : Nat) {comp : Nat} {last : Bool} (data : List Byte) (hl : d.nw.modState = msLoading)
    (hu : d.cor.fieldUp = true) (hc : comp ∈ [0x10, 0x11, 0x80, 0x81, 0x82, 0x83]) (hk : last = true → 0x80 ≤ comp) :
    let u := e.configBlock q comp last data
    mget [] u.nw.load comp = (if d.nw.staged.contains comp then data else mget [] d.nw.load comp ++ data) ∧ u.nw.staged.contains comp = last ∧
    d.sentUp u ⟨0x02, q, E_OK, 0, 1, [], none⟩ ∧ u.mod = d.mod ∧ u.fa = d.fa ∧ u.fb = d.fb := by
  obtain ⟨hf, ⟨i, s, hn⟩, hq, hup, hfu⟩ := he
  have hload : e.nw.modState = msLoading := by rw [hn, ← hl]
  have hst : e.nw.staged = d.nw.staged ∧ e.nw.load = d.nw.load := by rw [hn]; exact ⟨rfl, rfl⟩
  obtain ⟨hbytes, hlast⟩ := storeBlock_stores e comp last data
  rw [hst.1, hst.2] at hbytes
  have hs := hf.storeBlock comp last data (by decide)
  have hcor : (e.storeBlock comp last data).cor = e.cor := updNw_cor ..
  rw [configBlock_stored e q data hload hc hk]
  generalize e.storeBlock comp last data = t at hbytes hlast hs hcor ⊢
  have htu : t.cor.fieldUp = true := by rw [hcor, hfu, hu]
  have hsent := replyNow_sentUp (d := d) (e := t) (by rw [hcor, hq]) (by rw [hcor, hup]) htu 0x02 (foyerHdr q) E_OK []
  intro u
  refine ⟨?_, ?_, hsent, ?_, ?_, ?_⟩
  all_goals rw [show u = t.putUp ⟨0x02, q, E_OK, 0, 1, [], none⟩ from replyNow_up t htu ..]
  · rw [putUp_nw, hbytes]
  · rw [putUp_nw, hlast]
  · rw [putUp_mod, hs.mod_eq (by decide)]
  · rw [putUp_fa, hs.fa_eq (by decide)]
  · rw [putUp_fb, hs.fb_eq (by decide)]

end Sys2Proof.Machine
end

section
/-! Measurement reports: a flight that fails, a flight that goes on to SYNCING, and what the Foyer sends before BOOT_DONE (02 R53; 04 R117,
R118). -/

namespace Sys2Proof.Machine

/-! ## The failure of a flight (04 R118) -/

/-- What a failure of flight A leaves: its state, its code and no flight quarantined. -/
structure FailedA (d e : Dev) : Prop where
  kept : FieldKept flightKey d e
  code : e.get NW_FAULTA_CODE = 0x0F
  qen : e.bit NW_REPAIRCFG_QEN = d.bit NW_REPAIRCFG_QEN

theorem recordFail_a (d : Dev) : FailedA d (d.recordFail .a 0x0F) := by
  have hn : FieldKept flightKey d (d.updNw fun n => { n with histA := (d.dayHist .a ++ [d.nw.cycle]).drop ((d.dayHist .a ++ [d.nw.cycle]).length - 3) }) :=
    (FieldKept.refl ..).newel rfl
  have hcode : ∀ (e : Dev) a b, (((e.put NW_FAULTA_CODE 0x0F).put NW_FAULTA_DAY a).inc NW_FAULTA_TOTAL b).get NW_FAULTA_CODE = 0x0F := fun e a b =>
    (get_inc_other _ _ _ _ rfl rfl rfl).trans ((get_put_other _ _ _ _ rfl rfl rfl).trans (get_put_same e NW_FAULTA_CODE 0x0F rfl (by decide)))
  have hqen : OnlyIn [.nw] (fun k => k == NW_FAULTA) d (d.recordFail .a 0x0F) :=
    ((((onlyIn_refl ..).updNw _ (by decide)).put _ (by decide)).put _ (by decide)).inc _ (by decide)
  exact ⟨((hn.put _ (by decide)).put _ (by decide)).inc _ (by decide), hcode _ _ _, hqen.bit_eq rfl⟩

/-- A step that writes neither the fault code nor the repair configuration. -/
theorem FailedA.step {d e f : Dev} (h : FailedA d e) (k : FieldKept (fun k => k == NW_STAT || k == NW_STAIRSTAT) e f) : FailedA d f :=
  ⟨h.kept.trans (k.keys fun j hj => by
      have hs : j ≠ NW_STAT := fun h => by rw [h] at hj; exact absurd hj (by decide)
      have ht : j ≠ NW_STAIRSTAT := fun h => by rw [h] at hj; exact absurd hj (by decide)
      simp [hs, ht]), (k.frame.get_eq rfl).trans h.code, (k.frame.bit_eq rfl).trans h.qen⟩

theorem fieldKept_stairEnds (d : Dev) (r : Nat) : FieldKept (fun k => k == NW_STAT || k == NW_STAIRSTAT) d (d.stairEnds r) := by
  have h := (((FieldKept.refl (fun k => k == NW_STAT || k == NW_STAIRSTAT) d).newel (g := fun n => { n with stair := none, verifyQ := [] }) rfl).put
    (x := NW_STAIRSTAT_PHASE) 0 (by decide)).put (x := NW_STAIRSTAT_RESULT) r (by decide)
  exact h.other (ps := []) ((onlyIn_refl ..).nwStat (by decide)) (by decide) (by decide) (by decide)

theorem updSig_modState (n : NewelSt) (f : Flt) (g : List CommitSet → List CommitSet) : (n.updSig f g).modState = n.modState := by cases f <;> rfl

/-- The transfer that the failed flight took part in ends. -/
def Dev.stairLeft (d : Dev) (f : Flt) : Dev := match d.nw.stair with
  | some st => if st.flight = f.num then d.stairEnds E_SEQ else d
  | none => d

theorem fieldKept_stairLeft (d : Dev) (f : Flt) : FieldKept (fun k => k == NW_STAT || k == NW_STAIRSTAT) d (d.stairLeft f) := by
  unfold Dev.stairLeft
  split
  · exact .ite (fieldKept_stairEnds ..) (.refl ..)
  · exact .refl ..

/-- A flight in FAILED, its retry pending and its commit sets dropped. -/
def Dev.failedFl (d : Dev) (f : Flt) : Dev :=
  ((d.setFl f fsFailed).updNw fun n => (n.setRetry f (some n.cycle)).updSig f fun _ => []).updNw fun n =>
    { n with faults := n.faults.filter fun e => e.1 ≠ f.num }

theorem fieldKept_failedFl (d : Dev) (f : Flt) : FieldKept (fun k => k == NW_STAT || k == NW_STAIRSTAT) d (d.failedFl f) :=
  (((FieldKept.refl ..).setFl f _ (by decide)).newel (by rw [updSig_modState, setRetry_modState])).newel rfl

theorem failedFl_fst (d : Dev) (f : Flt) : (d.failedFl f).fst f = fsFailed :=
  (fst_of_onlyIn (ps := [.nw]) (ks := noKey) (((onlyIn_refl ..).updNw _ (by decide)).updNw _ (by decide)) rfl f).trans
    (setFl_fst_same d f (by decide))

/-- What a failure may lead on to (04 R118). -/
def Dev.quarantineDue (d : Dev) (f : Flt) (code : Nat) : Dev :=
  let qen := d.bit NW_REPAIRCFG_QEN
  if qen && code == 0x0E then d.quarantine f 1
  else if qen && code == 0x11 then d.quarantine f 3
  else if qen && (d.nw.hist f).length == 3 then d.quarantine f 2
  else d

/-- A failure recorded and told. -/
def Dev.failTold (d : Dev) (f : Flt) (code : Nat) : Dev :=
  (d.recordFail f code).raiseNw (.mk' .nwFlightFault [f.num, code, (((d.fl f).scan.getD 0) % 2 ^ 32 : Nat)])

theorem failFl_eq (d : Dev) (f : Flt) (code : Nat) : d.failFl f code = (((d.failTold f code).stairLeft f).failedFl f).quarantineDue f code := rfl

theorem quarantineDue_off {d : Dev} (h : d.bit NW_REPAIRCFG_QEN = false) (f : Flt) (code : Nat) : d.quarantineDue f code = d := by
  unfold Dev.quarantineDue
  rw [h]
  rfl

/-- Without quarantine, flight A fails with the code of an image that does not match. -/
theorem failFl_a (d : Dev) (h : d.bit NW_REPAIRCFG_QEN = false) : FailedA d (d.failFl .a 0x0F) ∧ (d.failFl .a 0x0F).fst .a = fsFailed := by
  have htold : FailedA d (d.failTold .a 0x0F) := (recordFail_a d).step ((FieldKept.refl ..).raiseNw _)
  have hfail := (htold.step (fieldKept_stairLeft _ .a)).step (fieldKept_failedFl _ .a)
  rw [failFl_eq, quarantineDue_off (hfail.qen.trans h)]
  exact ⟨hfail, failedFl_fst _ .a⟩

/-- With no flight active and no images in transfer, nothing follows. -/
theorem failOne_a (d : Dev) (hact : d.active = none) (hq : d.bit NW_REPAIRCFG_QEN = false) (hs : d.nw.modState ≠ msLoading) :
    d.failOne .a 0x0F = d.failFl .a 0x0F := by
  have hst : (d.failFl .a 0x0F).nw.modState ≠ msLoading := by
    rw [(failFl_a d hq).1.kept.state]
    exact hs
  have hlost : ∀ e : Dev, e.nw.modState ≠ msLoading → e.startLost = e := fun e he => if_neg fun h => he h.1
  unfold Dev.failOne Dev.failAll
  rw [hact]
  exact hlost _ hst

/-! ## A flight measured (02 R53) -/

theorem active_congr {d e : Dev} (ha : e.fst .a = d.fst .a) (hb : e.fst .b = d.fst .b) : e.active = d.active := by
  unfold Dev.active
  rw [ha, hb]

/-- A flight that reports nothing is not concerned. -/
theorem measuredFl_silent (d : Dev) {digests : List (Nat × Nat × Nat)} {f : Flt} (h : (digests.filter fun e => e.1 == f.num) = []) :
    d.measuredFl digests f = d := if_pos (.inr h)

/-- Flight A reports firmware that differs from the Foyer's measurement. -/
theorem measuredFl_differs (d : Dev) {v : Nat} (ha : d.fst .a = fsLoading) (hv : d.expected 2 ≠ v) :
    d.measuredFl [(0, 2, v)] .a = (d.testFailed 3 0x18 0xFF).failOne .a 0x0F := by
  have hown : ([(0, 2, v)].filter fun e : Nat × Nat × Nat => e.1 == Flt.a.num) = [(0, 2, v)] := rfl
  have hany : ([(0, 2, v)].any fun e : Nat × Nat × Nat => d.expected e.2.1 != e.2.2) = true := by simp [hv]
  unfold Dev.measuredFl
  rw [hown]
  dsimp only
  rw [if_neg (by simp [ha]), hany, if_pos (.inl rfl)]
  rfl

/-- Alone and with every measurement as expected, flight A goes on to SYNCING. -/
theorem measuredFl_agrees (d : Dev) (ha : d.fst .a = fsLoading) (hact : d.active = none) :
    d.measuredFl ([2, 5, 6].map fun i => (0, i, d.expected i)) .a = (d.mod.cfg.regs.filter fun e => e.1 / 2 ^ 24 == 3).foldl
      (fun (d : Dev) e => d.loadReg (Flt.a.key e.1) e.2) (d.setFl .a fsSyncing) := by
  have hown : (([2, 5, 6].map fun i => ((0 : Nat), (i : Nat), d.expected i)).filter fun e => e.1 == Flt.a.num) =
      [2, 5, 6].map fun i => (0, i, d.expected i) := rfl
  have hall : (([2, 5, 6].map fun i => ((0 : Nat), (i : Nat), d.expected i)).any fun e => d.expected e.2.1 != e.2.2) = false := by simp
  unfold Dev.measuredFl
  rw [hown]
  dsimp only
  rw [if_neg (by simp [ha]), hall, hact, if_neg (by simp)]
  exact if_pos rfl

theorem onlyIn_loadRegs (c : Cfg) (d : Dev) : OnlyIn [] (fun k => k / 2 ^ 24 == 3) d
    ((c.regs.filter fun e => e.1 / 2 ^ 24 == 3).foldl (fun (d : Dev) e => d.loadReg (Flt.a.key e.1) e.2) d) :=
  OnlyIn.foldl (g := fun (d : Dev) (e : Nat × W32) => d.loadReg (Flt.a.key e.1) e.2) (fun _ x hx =>
    OnlyIn.wr (k := Flt.a.key x.1) (onlyIn_refl ..) _ (List.mem_filter.1 hx).2) d

/-! ## What the Foyer sends before BOOT_DONE (02 R574) -/

theorem onlyIn_writeBack (d : Dev) (region : Nat) (ws : List (Nat × W32)) : OnlyIn [.cor] noKey d (d.writeBack region ws) :=
  OnlyIn.foldl (fun _ _ _ => (onlyIn_refl ..).sendReq _ _ (by decide)) d

theorem OnlyIn.writeBack {ps : List Part} {ks : Nat → Bool} {d e : Dev} (h : OnlyIn ps ks d e) (region : Nat) (ws : List (Nat × W32)) (hp : .cor ∈ ps) :
    OnlyIn ps ks d (e.writeBack region ws) := h.step hp (onlyIn_writeBack e region ws)

theorem OnlyIn.request {ps : List Part} {ks : Nat → Bool} {d e : Dev} (h : OnlyIn ps ks d e) (typ : Nat) (p : List Byte) (more : Bool) (hp : .cor ∈ ps) :
    OnlyIn ps ks d (e.request typ p more) := h.sendReq _ more hp

/-- The messages before BOOT_DONE, which the Foyer notes as sent. -/
theorem preBoot_keeps (d : Dev) : OnlyIn [.cor, .mod] noKey d d.preBoot ∧ d.preBoot.mod.preDone = true := by
  have hquar : ∀ n v, OnlyIn [.cor, .mod] noKey d (if n = 0 then d else d.writeBack 5 [(NW_QUAR, v)]) := fun n v =>
    .ite (onlyIn_refl ..) ((onlyIn_refl ..).writeBack _ _ (by decide))
  have hask := fun n v => (hquar n v).request 0x10 [4, 0, 0, 0] false (by decide)
  have hturn := fun (b : Bool) n v ws => OnlyIn.ite (c := b = true) ((hask n v).writeBack 3 ws (by decide)) (hask n v)
  unfold Dev.preBoot
  dsimp only
  rw [updMod_mod]
  refine ⟨OnlyIn.updMod ?_ _ (by decide), rfl⟩
  split
  · exact (((hturn _ _ _ _).writeBack _ _ (by decide)).writeBack _ _ (by decide))
  · exact (hturn _ _ _ _).writeBack _ _ (by decide)

/-! ## MEASURE_REPORT of flight A alone (02 R53) -/

/-- The messages before BOOT_DONE, where a flight awaits it and they have not been sent. -/
def Dev.preBootDue (d : Dev) : Dev := if (d.awaitsBoot .a || d.awaitsBoot .b) && !d.mod.preDone then d.preBoot else d

theorem onlyIn_preBootDue (d : Dev) : OnlyIn [.cor, .mod] noKey d d.preBootDue := .ite (preBoot_keeps d).1 (onlyIn_refl ..)

theorem preBootDue_preDone (d : Dev) (h : d.awaitsBoot .a = true) : d.preBootDue.mod.preDone = true := by
  unfold Dev.preBootDue
  rw [h, Bool.true_or, Bool.true_and]
  cases hp : d.mod.preDone with
  | true => exact hp
  | false => exact (preBoot_keeps d).2

/-- Without an adoption, a report that names flight A alone concerns it alone. -/
theorem measureReport_a (d : Dev) {digests : List (Nat × Nat × Nat)} (h : d.mod.adopt = false) (hb : ∀ e ∈ digests, e.1 = 0) :
    d.measureReport digests = (d.measuredFl digests .a).preBootDue := by
  have hsilent : (digests.filter fun e => e.1 == Flt.b.num) = [] := by
    rw [List.filter_eq_nil_iff]
    intro e he
    rw [hb e he]
    decide
  unfold Dev.measureReport Dev.adoptMeasures
  rw [h]
  dsimp only
  rw [Bool.not_false, if_pos rfl, bothFl_eq, measuredFl_silent _ hsilent]
  rfl

/-- A digest that differs: test 0x18 in the record, code 0x0F, and FAILED. -/
theorem measureReport_differs (d : Dev) {v : Nat} (hadopt : d.mod.adopt = false) (ha : d.fst .a = fsLoading) (hact : d.active = none)
    (hv : d.expected 2 ≠ v) (hq : d.bit NW_REPAIRCFG_QEN = false) (hs : d.nw.modState ≠ msLoading) (hT : d.get FY_STRESULT_TEST = 0) :
    let u := d.measureReport [(0, 2, v)]
    u.jnl = d.jnl ∧ u.fst .a = fsFailed ∧ u.get NW_FAULTA_CODE = 0x0F ∧ u.get FY_STRESULT_REGION = 3 ∧ u.get FY_STRESULT_TEST = 0x18 := by
  rw [measureReport_a d hadopt (by simp), measuredFl_differs d ha hv]
  have hrec := onlyIn_testFailed_first d 3 0x18 0xFF hT
  obtain ⟨h1, h2, -, -⟩ := testFailed_record d hT (by decide : 3 < 256) (by decide : 0x18 < 256) (by decide : 0xFF < 256)
  generalize d.testFailed 3 0x18 0xFF = t at hrec h1 h2 ⊢
  have hq' : t.bit NW_REPAIRCFG_QEN = false := (hrec.bit_eq rfl).trans hq
  have hact' : t.active = none := (active_congr (fst_of_onlyIn hrec (by decide) .a) (fst_of_onlyIn hrec (by decide) .b)).trans hact
  rw [failOne_a t hact' hq' (by rw [hrec.nw_eq (by decide)]; exact hs)]
  obtain ⟨hf, hfst⟩ := failFl_a t hq'
  generalize t.failFl .a 0x0F = w at hf hfst ⊢
  have hp := onlyIn_preBootDue w
  intro u
  refine ⟨?_, (fst_of_onlyIn hp rfl .a).trans hfst, (hp.get_eq rfl).trans hf.code, ?_, ?_⟩
  · exact (hp.jnl_eq (by decide)).trans ((hf.kept.frame.jnl_eq (by decide)).trans (hrec.jnl_eq (by decide)))
  · exact (hp.get_eq rfl).trans ((hf.kept.frame.get_eq rfl).trans h1)
  · exact (hp.get_eq rfl).trans ((hf.kept.frame.get_eq rfl).trans h2)

theorem setFl_stair (d : Dev) (f : Flt) (new : Nat) : (d.setFl f new).nw.stair = d.nw.stair := by
  by_cases h : d.fst f = new
  · rw [setFl_same h]
  · rw [setFl_moves h, (onlyIn_nwStat _).nw_eq (by decide)]
    obtain ⟨_, _, _, hn⟩ := sendUp_nw (d.put (nwStateFld f) new) (evMsg (.mk' .nwFlightState [f.num, d.fst f, new]))
    rw [Dev.raiseNw, hn, put_nw]

/-- Every digest as expected: SYNCING, and the messages before BOOT_DONE are sent. -/
theorem measureReport_agrees (d : Dev) (hadopt : d.mod.adopt = false) (ha : d.fst .a = fsLoading) (hact : d.active = none)
    (hst : d.nw.stair = none) (hbc : d.fa.bootCycle = none) : let u := d.measureReport ([2, 5, 6].map fun i => (0, i, d.expected i))
    u.jnl = d.jnl ∧ u.fst .a = fsSyncing ∧ u.mod.preDone = true := by
  rw [measureReport_a d hadopt (by simp), measuredFl_agrees d ha hact]
  have hset : OnlyIn [.cor, .nw] (fun k => k == NW_STAT) d (d.setFl .a fsSyncing) := (onlyIn_refl ..).setFl .a _ (by decide) (by decide) (by decide)
  have hfst := setFl_fst_same d .a (new := fsSyncing) (by decide)
  have hstair := (setFl_stair d .a fsSyncing).trans hst
  generalize d.setFl .a fsSyncing = t at hset hfst hstair ⊢
  have hload := onlyIn_loadRegs d.mod.cfg t
  generalize (d.mod.cfg.regs.filter fun e => e.1 / 2 ^ 24 == 3).foldl (fun (d : Dev) e => d.loadReg (Flt.a.key e.1) e.2) t = w at hload ⊢
  have hwf : w.fst .a = fsSyncing := (fst_of_onlyIn hload (by decide) .a).trans hfst
  have hwait : w.awaitsBoot .a = true := by
    have hfl : (w.fl .a).bootCycle = none := by
      change w.fa.bootCycle = none
      rw [hload.fa_eq (by decide), hset.fa_eq (by decide), hbc]
    unfold Dev.awaitsBoot
    rw [hwf, hfl, hload.nw_eq (by decide), hstair]
    rfl
  have hp := onlyIn_preBootDue w
  exact ⟨(hp.jnl_eq (by decide)).trans ((hload.jnl_eq (by decide)).trans (hset.jnl_eq (by decide))), (fst_of_onlyIn hp rfl .a).trans hwf,
    preBootDue_preDone w hwait⟩

/-! ## The report reaches the Foyer (01 R40) -/

theorem accept_up_txSeq (d : Dev) (m : UpMsg) (q : Nat) : ((d.putUp m).cor.up.accept q).2 = (d.cor.up.accept q).2 := by
  unfold Dev.putUp
  exact accept_txSeq d.cor.up _ q

/-- A report with the next sequence is sent now; another one is a resend. -/
def Dev.reportSent (d : Dev) (q : Nat) (digests : List (Nat × Nat × Nat)) : Dev :=
  if q = d.cor.up.txSeq then d.putUp ⟨0x70, 0, 0, 0, 0, digests.flatMap fun e => le 1 e.1 ++ le 1 e.2.1 ++ le 32 e.2.2, none⟩ else d

theorem reportSent_keeps (d : Dev) (q : Nat) (digests : List (Nat × Nat × Nat)) : OnlyIn [.cor] noKey d (d.reportSent q digests) ∧
    ((d.reportSent q digests).cor.up.accept q).2 = (d.cor.up.accept q).2 := by
  unfold Dev.reportSent
  split
  · exact ⟨(onlyIn_refl ..).putUp _ (by decide), accept_up_txSeq ..⟩
  · exact ⟨onlyIn_refl .., rfl⟩

theorem exec_measureReport (s : State) (q : Nat) (digests : List (Nat × Nat × Nat)) : exec (.measureReport q digests) s =
    s.upd fun d => (d.reportSent q digests).acceptUp q fun d => (d.measureReport digests).campFollow := rfl

theorem measureReport_reaches (s : State) {q : Nat} (digests : List (Nat × Nat × Nat)) (h : (s.dev.cor.up.accept q).2 = true)
    (hc : s.dev.jnl.camp = none) : ∃ e, OnlyIn [.cor] noKey s.dev e ∧ ∀ P : Dev → Prop, (e.measureReport digests).jnl = e.jnl →
      P (e.measureReport digests) → Answers (.measureReport q digests) s P := by
  obtain ⟨hw, hacc⟩ := reportSent_keeps s.dev q digests
  have hto := acceptUp_accepted (s.dev.reportSent q digests) q (fun d => (d.measureReport digests).campFollow) (hacc.trans h)
  have he := hw.updCor (fun c => { c with up := ((s.dev.reportSent q digests).cor.up.accept q).1 }) (by decide)
  generalize (s.dev.reportSent q digests).updCor _ = e at hto he
  refine ⟨e, he, fun P hj hP => answers_of_upd (exec_measureReport s q digests) ?_⟩
  rw [campFollow_none _ (by rw [hj, he.jnl_eq (by decide), hc])] at hto
  rw [hto]
  exact hP

end Sys2Proof.Machine
end

section
/-! O21: BOOT_DONE, which decides the start kind and initialises the flights that await it (02 R45 step 7, R56 to R59, R572). -/

namespace Sys2Proof.Machine

/-! ## A flight initialised -/

/-- What a start gives a flight: its boundary, its scans, its points and its memory. -/
def FlightSt.fresh (x : FlightSt) : Option Nat × Nat × Option Nat × Map Point × Map W32 × Bool :=
  (x.bootCycle, x.nextGrid, x.scan, x.pts, x.lmem, x.warm)

/-- Both flights get the same: it depends on the configuration and on the snapshot. -/
theorem boot_fresh (c : Cfg) (snap : Option Snapshot) (fallback : Bool) (count cyc : Nat) (keys : Map Nat) :
    ∃ pts lm, ∀ x : FlightSt, (x.boot c snap fallback count cyc keys).fresh = (some cyc, cyc + 1, none, pts, lm, snap.isSome) :=
  ⟨(FlightSt.empty.boot c snap fallback count cyc keys).pts, (FlightSt.empty.boot c snap fallback count cyc keys).lmem, fun _ => rfl⟩

/-- Registers of the flights. -/
def flKey (k : Nat) : Bool := k / 2 ^ 24 == 3 || k / 2 ^ 24 == 4

theorem flKey_at {x : Fld} (h : x.key / 2 ^ 24 = 3) (f : Flt) : flKey (x.at f).key = true := by
  cases f
  · rw [flKey, show (x.at .a).key / 2 ^ 24 = 3 from h]; rfl
  · have hb : (x.at .b).key / 2 ^ 24 = 4 := by
      change (x.key + 1 * 2 ^ 24) / 2 ^ 24 = 4
      omega
    rw [flKey, hb]; rfl

theorem flKey_remap (f : Flt) {n : Nat} (hn : n < 16) : flKey (Mem.remapFld (.fl f) FL_REMAP_UE FY_REMAP_UE n).key = true := by
  have h : (FL_REMAP + 4 * n) / 2 ^ 24 = 3 := by unfold FL_REMAP; omega
  have hk : (Mem.remapFld (.fl f) FL_REMAP_UE FY_REMAP_UE n).key = (Fld.at ⟨FL_REMAP + 4 * n, 1, 1⟩ f).key := by
    change FL_REMAP + f.num * 2 ^ 24 + 4 * n = FL_REMAP + 4 * n + f.num * 2 ^ 24
    omega
  rw [hk]
  exact flKey_at h f

/-- The integrity state of a flight's memory is no part of what a start gives it. -/
theorem updMem_fresh (d : Dev) (f : Flt) (g : FoyMemSt → FoyMemSt) : ((d.updMem (.fl f) g).fl f).fresh = (d.fl f).fresh := by cases f <;> rfl

theorem put_fresh (d : Dev) (x : Fld) (v : Nat) (f : Flt) : ((d.put x v).fl f).fresh = (d.fl f).fresh := by rw [put_fl]

theorem onlyIn_updMem_fl (d : Dev) (f : Flt) (g : FoyMemSt → FoyMemSt) : OnlyIn [f.part] noKey d (d.updMem (.fl f) g) :=
  onlyIn_updFl d f _

theorem OnlyIn.updMem_fl {ps : List Part} {ks : Nat → Bool} {d e : Dev} (h : OnlyIn ps ks d e) (f : Flt) (g : FoyMemSt → FoyMemSt)
    (hp : f.part ∈ ps) : OnlyIn ps ks d (e.updMem (.fl f) g) := h.step hp (onlyIn_updMem_fl e f g)

/-- A step of the words' initialisation: an entry that awaits a full write. -/
def Dev.remapWritten (d : Dev) (f : Flt) (n : Nat) : Dev :=
  let m := Mem.fl f
  let pb := d.get (m.remapFld FL_REMAP_PBANK FY_REMAP_PBANK n)
  if d.bit (m.remapFld FL_REMAP_VALID FY_REMAP_VALID n) && (d.mem m).inRange pb (d.get (m.remapFld FL_REMAP_WORD FY_REMAP_WORD n)) then
    (d.put (m.remapFld FL_REMAP_UE FY_REMAP_UE n) 0).setWord m m.banks n { wordInfo0 with valid := true }
  else d

theorem bootWords_eq (d : Dev) (f : Flt) (rs : List (Nat × Nat × Nat)) : d.bootWords f rs =
    (List.range 16).foldl (fun (d : Dev) n => d.remapWritten f n) (d.updMem (.fl f) fun y => { y with
      words := [], ranges := rs.map fun e => (d.phys (.fl f) e.1, e.2) }) := rfl

theorem onlyIn_remapWritten (d : Dev) (f : Flt) {n : Nat} (hn : n < 16) : OnlyIn [f.part] flKey d (d.remapWritten f n) :=
  .ite (((onlyIn_refl ..).put _ (flKey_remap f hn)).updMem_fl f _ (by simp)) (onlyIn_refl ..)

theorem remapWritten_fresh (d : Dev) (f : Flt) (n : Nat) : ((d.remapWritten f n).fl f).fresh = (d.fl f).fresh := by
  unfold Dev.remapWritten
  dsimp only
  split
  · exact (updMem_fresh ..).trans (put_fresh ..)
  · rfl

theorem onlyIn_bootWords (d : Dev) (f : Flt) (rs : List (Nat × Nat × Nat)) : OnlyIn [f.part] flKey d (d.bootWords f rs) := by
  rw [bootWords_eq]
  exact ((onlyIn_refl ..).updMem_fl f _ (by simp)).trans (OnlyIn.foldl (fun e n hn => onlyIn_remapWritten e f (List.mem_range.1 hn)) _)

theorem bootWords_fresh (d : Dev) (f : Flt) (rs : List (Nat × Nat × Nat)) : ((d.bootWords f rs).fl f).fresh = (d.fl f).fresh := by
  have hfold : ∀ (l : List Nat) (e : Dev), ((l.foldl (fun (d : Dev) n => d.remapWritten f n) e).fl f).fresh = (e.fl f).fresh := by
    intro l
    induction l with
    | nil => exact fun _ => rfl
    | cons n t ih => exact fun e => (ih _).trans (remapWritten_fresh e f n)
  rw [bootWords_eq]
  exact (hfold _ _).trans (updMem_fresh ..)

theorem onlyIn_bootRegs (d : Dev) (f : Flt) : OnlyIn [f.part] flKey d (d.bootRegs f) :=
  (((((onlyIn_refl ..).put _ (flKey_at rfl f)).put _ (flKey_at rfl f)).put _ (flKey_at rfl f)).put _ (flKey_at rfl f)).put _ (flKey_at rfl f)

theorem bootRegs_fresh (d : Dev) (f : Flt) : ((d.bootRegs f).fl f).fresh = (d.fl f).fresh := by
  unfold Dev.bootRegs
  rw [ptStat_fl, put_fl, put_fl, put_fl]

/-- A flight that awaits BOOT_DONE, initialised. -/
def Dev.flBooted (d : Dev) (f : Flt) (snap : Option Snapshot) (fallback warm : Bool) (count cyc : Nat) (keys : Map Nat) : Dev :=
  let d1 := d.updFl f fun x => x.boot d.mod.cfg snap fallback count cyc keys
  (d1.bootWords f (d.mod.cfg.bootRanges warm (d1.fl f).forces)).bootRegs f

theorem onlyIn_flBooted (d : Dev) (f : Flt) (snap : Option Snapshot) (fallback warm : Bool) (count cyc : Nat) (keys : Map Nat) :
    OnlyIn [f.part] flKey d (d.flBooted f snap fallback warm count cyc keys) :=
  (((onlyIn_refl ..).updFl f _ (by simp)).trans (onlyIn_bootWords _ f _)).trans (onlyIn_bootRegs _ f)

theorem flBooted_fresh (d : Dev) (f : Flt) (snap : Option Snapshot) (fallback warm : Bool) (count cyc : Nat) (keys : Map Nat) :
    ((d.flBooted f snap fallback warm count cyc keys).fl f).fresh = ((d.fl f).boot d.mod.cfg snap fallback count cyc keys).fresh := by
  have hfl : ∀ g : FlightSt → FlightSt, (d.updFl f g).fl f = g (d.fl f) := fun g => by cases f <;> rfl
  unfold Dev.flBooted
  dsimp only
  rw [bootRegs_fresh, bootWords_fresh, hfl]

/-! ## The effects of BOOT_DONE -/

/-- Both flights, where they await BOOT_DONE. -/
def Dev.flBootedIf (d : Dev) (f : Flt) (snap : Option Snapshot) (fallback warm : Bool) (count cyc : Nat) (keys : Map Nat) : Dev :=
  if !d.awaitsBoot f then d else d.flBooted f snap fallback warm count cyc keys

theorem fl_a (d : Dev) : d.fl .a = d.fa := rfl
theorem fl_b (d : Dev) : d.fl .b = d.fb := rfl

theorem flBootedIf_pos {d : Dev} {f : Flt} (h : d.awaitsBoot f = true) (snap : Option Snapshot) (fallback warm : Bool) (count cyc : Nat)
    (keys : Map Nat) : d.flBootedIf f snap fallback warm count cyc keys = d.flBooted f snap fallback warm count cyc keys := by
  unfold Dev.flBootedIf
  rw [h, Bool.not_true, if_neg Bool.false_ne_true]

theorem awaitsBoot_congr {d e : Dev} {f : Flt} (hs : e.fst f = d.fst f) (hn : e.nw.stair = d.nw.stair) (hf : (e.fl f).bootCycle = (d.fl f).bootCycle) :
    e.awaitsBoot f = d.awaitsBoot f := by
  unfold Dev.awaitsBoot
  rw [hs, hn, hf]

/-- Both flights start alike. -/
structure BothBooted (d e : Dev) (snap : Option Snapshot) (cyc : Nat) : Prop where
  frame : OnlyIn [.fa, .fb] flKey d e
  bootA : e.fa.bootCycle = some cyc
  bootB : e.fb.bootCycle = some cyc
  grid : e.fa.nextGrid = cyc + 1
  scan : e.fa.scan = none
  pts : e.fa.pts = e.fb.pts
  lmem : e.fa.lmem = e.fb.lmem
  warmA : e.fa.warm = snap.isSome
  warmB : e.fb.warm = snap.isSome

theorem bothBooted (d : Dev) (ha : d.awaitsBoot .a = true) (hb : d.awaitsBoot .b = true) (snap : Option Snapshot) (fallback warm : Bool)
    (count cyc : Nat) (keys : Map Nat) : BothBooted d ((d.flBootedIf .a snap fallback warm count cyc keys).flBootedIf .b snap fallback warm
      count cyc keys) snap cyc := by
  rw [flBootedIf_pos ha]
  have hfa := onlyIn_flBooted d .a snap fallback warm count cyc keys
  have hxa := flBooted_fresh d .a snap fallback warm count cyc keys
  generalize d.flBooted .a snap fallback warm count cyc keys = e at hfa hxa ⊢
  have heb : e.awaitsBoot .b = true :=
    (awaitsBoot_congr (fst_of_onlyIn hfa (by decide) .b) (by rw [hfa.nw_eq (by decide)])
      (by rw [fl_b, fl_b, hfa.fb_eq (by decide)])).trans hb
  rw [flBootedIf_pos heb]
  have hfb := onlyIn_flBooted e .b snap fallback warm count cyc keys
  have hxb := flBooted_fresh e .b snap fallback warm count cyc keys
  generalize e.flBooted .b snap fallback warm count cyc keys = u at hfb hxb ⊢
  obtain ⟨pts, lm, hboot⟩ := boot_fresh d.mod.cfg snap fallback count cyc keys
  rw [hboot] at hxa
  rw [hfa.mod_eq (by decide), hboot] at hxb
  rw [fl_a, ← hfb.fa_eq (by decide)] at hxa
  rw [fl_b] at hxb
  simp only [FlightSt.fresh, Prod.mk.injEq] at hxa hxb
  obtain ⟨a1, a2, a3, a4, a5, a6⟩ := hxa
  obtain ⟨b1, b2, b3, b4, b5, b6⟩ := hxb
  exact ⟨(hfa.mono (by decide) fun _ h => h).trans (hfb.mono (by decide) fun _ h => h), a1, b1, a2, a3, a4.trans b4.symm, a5.trans b5.symm, a6, b6⟩

/-- Events of mesh keys that do not reach the flights. -/
theorem onlyIn_fieldKeys (d : Dev) : OnlyIn [.arc] (orEvent []) d d.fieldKeys.1 := by
  have hfold : ∀ (l : List Nat) (g : Dev × Map Nat → Nat → Dev × Map Nat) (p : Dev × Map Nat),
      (∀ p i, OnlyIn [.arc] (orEvent []) p.1 (g p i).1) → OnlyIn [.arc] (orEvent []) p.1 (l.foldl g p).1 := by
    intro l g
    induction l with
    | nil => exact fun p _ => onlyIn_refl ..
    | cons i t ih => exact fun p hg => (hg p i).trans (ih _ hg)
  refine hfold _ _ (d, []) fun p i => ?_
  dsimp only
  split
  · exact onlyIn_refl ..
  · split
    · split <;> exact onlyIn_refl ..
    · exact (onlyIn_refl ..).raiseFy_mk _ (by decide) (by decide)

/-- The flights initialised, with the keys and the settings that the start takes. -/
def Dev.bootInit (d : Dev) (k : Bool × Nat × Bool) (count : Nat) : Dev :=
  let kf := d.fieldKeys
  let snap := if k.1 then d.mod.snap else none
  let d1 := kf.1.updJnl fun j => { j with
    linkGen := kf.1.linkMaster
    settings := if k.1 then j.settings else j.settings.map fun x => if x.trial then x else { x with fromCfg := true } }
  (d1.flBootedIf .a snap k.2.2 k.1 count (d.nw.cycle + 1) kf.2).flBootedIf .b snap k.2.2 k.1 count (d.nw.cycle + 1) kf.2

/-- Tests that the start has omitted become due. -/
def Dev.slicesLeft (d : Dev) (warm : Bool) : Dev :=
  let d3 := if d.mod.scopeWarm && !warm then d.slicesDue [0x10, 0x11, 0x13] else d
  if d3.mod.fieldOnly then d3.slicesDue [0x14, 0x15, 0x16] else d3

/-- The configuration commits, and the start is measured. -/
def Dev.startCommitted (d : Dev) (warm : Bool) : Dev := (d.configCommit d.mod.cfg).measureStart warm

/-- The start before its REPLY. -/
def Dev.bootSet (d : Dev) (k : Bool × Nat × Bool) (count : Nat) : Dev :=
  (((((d.bootInit k count).updNw fun n => { n with bothSyncing := d.awaitsBoot .a }).updMod fun m => { m with committed := true, order := none }).slicesLeft
    k.1).startCommitted k.1).showStart k.1 k.2.1 k.2.2

theorem bootStart_eq (d : Dev) (q : Nat) (k : Bool × Nat × Bool) (count : Nat) :
    d.bootStart q k count = (((d.bootSet k count).replyNow 0x03 (foyerHdr q) E_OK []).startTold).statusNow true := rfl

theorem bothBooted_bootInit (d : Dev) (k : Bool × Nat × Bool) (count : Nat) (ha : d.awaitsBoot .a = true) (hb : d.awaitsBoot .b = true) :
    ∃ e, OnlyIn [.arc, .jnl] (orEvent []) d e ∧
      BothBooted e (d.bootInit k count) (if k.1 then d.mod.snap else none) (d.nw.cycle + 1) := by
  unfold Dev.bootInit
  dsimp only
  have hk := onlyIn_fieldKeys d
  generalize d.fieldKeys = kf at hk ⊢
  have hj : OnlyIn [.arc, .jnl] (orEvent []) d (kf.1.updJnl fun j => { j with
      linkGen := kf.1.linkMaster
      settings := if k.1 then j.settings else j.settings.map fun x => if x.trial then x else { x with fromCfg := true } }) :=
    (hk.mono (by decide) fun _ h => h).updJnl _ (by decide)
  generalize kf.1.updJnl _ = e at hj ⊢
  have hwait : ∀ f, e.awaitsBoot f = d.awaitsBoot f := fun f => awaitsBoot_congr (fst_of_onlyIn hj (by decide) f) (by rw [hj.nw_eq (by decide)])
    (by cases f
        · rw [fl_a, fl_a, hj.fa_eq (by decide)]
        · rw [fl_b, fl_b, hj.fb_eq (by decide)])
  exact ⟨e, hj, bothBooted e ((hwait .a).trans ha) ((hwait .b).trans hb) ..⟩

theorem slicesDue_nw (d : Dev) (codes : List Nat) : OnlyIn [.nw] noKey d (d.slicesDue codes) ∧
    (d.slicesDue codes).nw.bothSyncing = d.nw.bothSyncing := by
  have hfold : ∀ (l : List (Nat × Nat)) (e : Dev), OnlyIn [.nw] noKey e (l.foldl (fun (d : Dev) e => d.updNw fun n => { n with
      slices := mput n.slices e.1 e.2 }) e) ∧ (l.foldl (fun (d : Dev) e => d.updNw fun n => { n with slices := mput n.slices e.1 e.2 })
        e).nw.bothSyncing = e.nw.bothSyncing := by
    intro l
    induction l with
    | nil => exact fun e => ⟨onlyIn_refl .., rfl⟩
    | cons x t ih =>
      intro e
      obtain ⟨h1, h2⟩ := ih (e.updNw fun n => { n with slices := mput n.slices x.1 x.2 })
      rw [updNw_nw] at h2
      exact ⟨(onlyIn_updNw e _).trans h1, h2⟩
  exact hfold _ d

theorem slicesLeft_keeps (d : Dev) (warm : Bool) : OnlyIn [.nw] noKey d (d.slicesLeft warm) ∧
    (d.slicesLeft warm).nw.bothSyncing = d.nw.bothSyncing := by
  have hone : ∀ (e : Dev) (c : Prop) [Decidable c] l, OnlyIn [.nw] noKey e (if c then e.slicesDue l else e) ∧
      (if c then e.slicesDue l else e).nw.bothSyncing = e.nw.bothSyncing := fun e c _ l => by
    split
    · exact slicesDue_nw e l
    · exact ⟨onlyIn_refl .., rfl⟩
  unfold Dev.slicesLeft
  dsimp only
  obtain ⟨h1, h2⟩ := hone d ((d.mod.scopeWarm && !warm) = true) [0x10, 0x11, 0x13]
  generalize (if (d.mod.scopeWarm && !warm) = true then d.slicesDue [0x10, 0x11, 0x13] else d) = e at h1 h2 ⊢
  obtain ⟨h3, h4⟩ := hone e (e.mod.fieldOnly = true) [0x14, 0x15, 0x16]
  exact ⟨h1.trans h3, h4.trans h2⟩

theorem startCommitted_keeps (d : Dev) (warm : Bool) : OnlyIn [.jnl, .mod] (fun k => k == FY_BKSTAT) d (d.startCommitted warm) ∧
    (d.startCommitted warm).mod.committed = d.mod.committed ∧ (d.startCommitted warm).mod.order = d.mod.order := by
  have hc : OnlyIn [.jnl] (fun k => k == FY_BKSTAT) d (d.configCommit d.mod.cfg) :=
    OnlyIn.put ((onlyIn_refl _ _ d).updJnl (fun j => { j with clients := d.mod.cfg.clients.filter fun e => e.2.recovery, updateKey := d.mod.cfg.updateKey })
      (by decide)) _ (by decide)
  unfold Dev.startCommitted
  generalize d.configCommit d.mod.cfg = e at hc ⊢
  have hm : OnlyIn [.mod] noKey e (e.measureStart warm) := onlyIn_measure ..
  obtain ⟨l, hl⟩ := measure_mod e 7
    (shaNum (((List.range 7).flatMap fun n => le 32 (mget 0 e.mod.meas n)) ++ le 1 (e.get FY_UCSTAT_LIFECYCLE) ++ le 1 (b2n warm)))
  have hl' : (e.measureStart warm).mod = _ := hl
  refine ⟨(hc.mono (by decide) fun _ h => h).trans (hm.mono (by decide) fun _ _ => rfl), ?_, ?_⟩
  · rw [hl', hc.mod_eq (by decide)]
  · rw [hl', hc.mod_eq (by decide)]

/-- FY_START shows the kind and the basis. -/
theorem showStart_shows (d : Dev) (warm : Bool) {basis : Nat} (hb : basis < 4) (fallback : Bool) :
    (d.showStart warm basis fallback).bit FY_START_KIND = warm ∧ (d.showStart warm basis fallback).get FY_START_BASIS = basis := by
  unfold Dev.showStart
  refine ⟨?_, ?_⟩
  · rw [bit_put_other _ _ _ _ rfl rfl rfl, bit_put_other _ _ _ _ rfl rfl rfl, bit_put_other _ _ _ _ rfl rfl rfl,
      bit_put_same _ _ _ rfl (by cases warm <;> decide)]
    cases warm <;> rfl
  · rw [get_put_other _ _ _ _ rfl rfl rfl, get_put_other _ _ _ _ rfl rfl rfl]
    exact get_put_same _ FY_START_BASIS basis rfl hb

/-- Registers that BOOT_DONE writes. -/
def bootDoneKey (k : Nat) : Bool := flKey k || orEvent [FY_START, FY_BKSTAT] k

theorem bootDoneKey_false {k : Nat} (h : bootDoneKey k = false) :
    flKey k = false ∧ orEvent [] k = false ∧ (k == FY_START) = false ∧ (k == FY_BKSTAT) = false := by
  obtain ⟨h1, h2⟩ := Bool.or_eq_false_iff.1 h
  simp only [orEvent, Bool.or_eq_false_iff, List.contains_eq_mem, decide_eq_false_iff_not, List.mem_cons, List.not_mem_nil, or_false, not_or] at h2
  obtain ⟨⟨h3, h4⟩, h5⟩ := h2
  exact ⟨h1, by rwa [orEvent_nil], beq_false_of_ne h3, beq_false_of_ne h4⟩

/-- What BOOT_DONE comes to before its REPLY. -/
structure BootSet (d u : Dev) (k : Bool × Nat × Bool) : Prop where
  frame : OnlyIn [.arc, .jnl, .fa, .fb, .nw, .mod] bootDoneKey d u
  booted : ∃ e, e.fa = u.fa ∧ e.fb = u.fb ∧ ∃ b, BothBooted b e (if k.1 then d.mod.snap else none) (d.nw.cycle + 1)
  syncing : u.nw.bothSyncing = true
  committed : u.mod.committed = true
  order : u.mod.order = none
  kind : u.bit FY_START_KIND = k.1
  basis : u.get FY_START_BASIS = k.2.1

theorem bootSet_sets (d : Dev) {k : Bool × Nat × Bool} (count : Nat) (hk : k.2.1 < 4) (ha : d.awaitsBoot .a = true) (hb : d.awaitsBoot .b = true) :
    BootSet d (d.bootSet k count) k := by
  obtain ⟨b, hfb, hboth⟩ := bothBooted_bootInit d k count ha hb
  unfold Dev.bootSet
  rw [ha]
  have hinit : OnlyIn [.arc, .jnl, .fa, .fb, .nw, .mod] bootDoneKey d (d.bootInit k count) :=
    (hfb.mono (by decide) fun _ h => (bootDoneKey_false h).2.1).trans (hboth.frame.mono (by decide) fun _ h => (bootDoneKey_false h).1)
  generalize d.bootInit k count = e at hboth hinit ⊢
  have hset : OnlyIn [.nw, .mod] noKey e ((e.updNw fun n => { n with bothSyncing := true }).updMod fun m => { m with committed := true, order := none }) :=
    ((onlyIn_refl ..).updNw _ (by decide)).updMod _ (by decide)
  have hsync : ((e.updNw fun n => { n with bothSyncing := true }).updMod fun m => { m with committed := true, order := none }).nw.bothSyncing = true := by
    rw [updMod_nw, updNw_nw]
  have hmod : ((e.updNw fun n => { n with bothSyncing := true }).updMod fun m => { m with committed := true, order := none }).mod.committed = true ∧
      ((e.updNw fun n => { n with bothSyncing := true }).updMod fun m => { m with committed := true, order := none }).mod.order = none := by
    rw [updMod_mod]
    exact ⟨rfl, rfl⟩
  generalize (e.updNw fun n => { n with bothSyncing := true }).updMod (fun m => { m with committed := true, order := none }) = t at hset hsync hmod ⊢
  obtain ⟨hsl, hslb⟩ := slicesLeft_keeps t k.1
  generalize t.slicesLeft k.1 = w at hsl hslb ⊢
  obtain ⟨hc, hcc, hco⟩ := startCommitted_keeps w k.1
  generalize w.startCommitted k.1 = x at hc hcc hco ⊢
  obtain ⟨hkind, hbasis⟩ := showStart_shows x k.1 hk k.2.2
  have hshow := onlyIn_showStart x k.1 k.2.1 k.2.2
  generalize x.showStart k.1 k.2.1 k.2.2 = u at hkind hbasis hshow ⊢
  have hfl : e.fa = u.fa ∧ e.fb = u.fb := by
    rw [hshow.fa_eq (by decide), hc.fa_eq (by decide), hsl.fa_eq (by decide), hset.fa_eq (by decide), hshow.fb_eq (by decide),
      hc.fb_eq (by decide), hsl.fb_eq (by decide), hset.fb_eq (by decide)]
    exact ⟨rfl, rfl⟩
  refine ⟨?_, ⟨e, hfl.1, hfl.2, b, ?_⟩, ?_, ?_, ?_, hkind, hbasis⟩
  · exact ((((hinit.trans (hset.mono (by decide) fun _ _ => rfl)).trans (hsl.mono (by decide) fun _ _ => rfl)).trans
      (hc.mono (by decide) fun _ h => (bootDoneKey_false h).2.2.2)).trans (hshow.mono (by decide) fun _ h => (bootDoneKey_false h).2.2.1))
  · exact hboth
  · rw [hshow.nw_eq (by decide), hc.nw_eq (by decide), hslb, hsync]
  · rw [hshow.mod_eq (by decide), hcc, hsl.mod_eq (by decide), hmod.1]
  · rw [hshow.mod_eq (by decide), hco, hsl.mod_eq (by decide), hmod.2]

/-! ## The kind of a start (02 R56, R57) -/

theorem startKind_basis (d : Dev) (valid : Bool) : (d.startKind valid).2.1 < 4 := by
  unfold Dev.startKind
  split
  · decide
  · exact (by decide : (2 : Nat) < 4)
  · split
    · decide
    · exact (by decide : (0 : Nat) < 4)

/-- A start is warm only on a valid snapshot. -/
theorem startKind_warm (d : Dev) (h : (d.startKind d.snapValid).1 = true) : d.mod.snap.isSome = true := by
  have hvalid : ∀ v, (d.startKind v).1 = true → v = true := fun v hv => by
    unfold Dev.startKind at hv
    split at hv
    · exact absurd hv (by decide)
    · exact hv
    · split at hv
      · exact absurd hv (by decide)
      · exact hv
  have hs := hvalid _ h
  unfold Dev.snapValid at hs
  cases hsnap : d.mod.snap with
  | none => rw [hsnap] at hs; exact absurd hs Bool.false_ne_true
  | some s => rfl

/-! ## BOOT_DONE answered -/

theorem link_upQ (c : CorrSt) : c.link.upQ = c.upQ := rfl

theorem bootStart_answers {d e : Dev} (he : Reached d e) (q : Nat) (count : Nat) (hm : d.mst = msLoading) (ha : d.awaitsBoot .a = true)
    (hb : d.awaitsBoot .b = true) (hu : d.cor.fieldUp = true) : let k := d.startKind d.snapValid
    let u := e.bootStart q k count
    u.fa.bootCycle = some (d.nw.cycle + 1) ∧ u.fb.bootCycle = some (d.nw.cycle + 1) ∧ u.fa.nextGrid = d.nw.cycle + 2 ∧
    u.fa.scan = none ∧ u.fa.pts = u.fb.pts ∧ u.fa.lmem = u.fb.lmem ∧ u.fa.warm = k.1 ∧ u.fb.warm = k.1 ∧
    u.mod.committed = true ∧ u.mod.order = none ∧ u.nw.bothSyncing = true ∧ u.mst = msLoading ∧
    u.bit FY_START_KIND = k.1 ∧ u.get FY_START_BASIS = k.2.1 ∧ d.sentUp u ⟨0x03, q, E_OK, 0, 1, [], none⟩ := by
  obtain ⟨hf, ⟨i, s, hn⟩, hq, hup, hfu⟩ := he
  have hwait : ∀ f, e.awaitsBoot f = d.awaitsBoot f := fun f => awaitsBoot_congr (fst_of_onlyIn hf rfl f) (by rw [hn])
    (by cases f
        · rw [fl_a, fl_a, hf.fa_eq (by decide)]
        · rw [fl_b, fl_b, hf.fb_eq (by decide)])
  have hcyc : e.nw.cycle = d.nw.cycle := by rw [hn]
  have hsnap : (if (d.startKind d.snapValid).1 then d.mod.snap else none).isSome = (d.startKind d.snapValid).1 := by
    cases hw : (d.startKind d.snapValid).1 with
    | false => rfl
    | true => rw [if_pos rfl]; exact startKind_warm d hw
  have hset := bootSet_sets e count (startKind_basis d d.snapValid) ((hwait .a).trans ha) ((hwait .b).trans hb)
  have hmst : e.mst = msLoading := (hf.get_eq rfl).trans hm
  intro k u
  have hu' : u = (((e.bootSet k count).replyNow 0x03 (foyerHdr q) E_OK []).startTold).statusNow true := bootStart_eq e q k count
  rw [hu']
  generalize e.bootSet k count = x at hset ⊢
  obtain ⟨hfr, ⟨o, hoa, hob, b, hboth⟩, hsync, hcom, hord, hkind, hbasis⟩ := hset
  rw [hcyc, hf.mod_eq (by decide)] at hboth
  have hxc : x.cor = e.cor := hfr.cor_eq (by decide)
  have hxu : x.cor.fieldUp = true := by rw [hxc, hfu, hu]
  have hsent := replyNow_sentUp (d := d) (e := x) (by rw [hxc, hq]) (by rw [hxc, hup]) hxu 0x03 (foyerHdr q) E_OK []
  rw [replyNow_up x hxu] at hsent ⊢
  have hput : OnlyIn [.cor] noKey x (x.putUp ⟨0x03, (foyerHdr q).seq, E_OK, (foyerHdr q).suite, (foyerHdr q).role, [], none⟩) :=
    (onlyIn_refl ..).putUp _ (by decide)
  generalize x.putUp ⟨0x03, (foyerHdr q).seq, E_OK, (foyerHdr q).suite, (foyerHdr q).role, [], none⟩ = y at hsent hput ⊢
  have htold : OnlyIn [.mod, .arc] (orEvent []) y y.startTold := (onlyIn_refl ..).startTold (by decide) (by decide)
  have htm := startTold_mod y
  generalize y.startTold = z at htold htm ⊢
  have hstat : OnlyIn [.cor] noKey z (z.statusNow true) := (onlyIn_refl ..).statusNow_host (by decide)
  have hupQ : (z.statusNow true).cor.upQ = z.cor.upQ := by rw [← link_upQ, statusNow_host_link, link_upQ]
  generalize z.statusNow true = w at hstat hupQ ⊢
  have hwa : w.fa = o.fa := by rw [hstat.fa_eq (by decide), htold.fa_eq (by decide), hput.fa_eq (by decide), hoa]
  have hwb : w.fb = o.fb := by rw [hstat.fb_eq (by decide), htold.fb_eq (by decide), hput.fb_eq (by decide), hob]
  have hget : ∀ f : Fld, eventKey f.key = false → w.get f = x.get f := fun f hk =>
    (hstat.get_eq rfl).trans ((htold.get_eq (by rw [orEvent_nil, hk])).trans (hput.get_eq rfl))
  rw [hwa, hwb, hstat.mod_eq (by decide), htm, hput.mod_eq (by decide), hstat.nw_eq (by decide), htold.nw_eq (by decide),
    hput.nw_eq (by decide)]
  refine ⟨hboth.bootA, hboth.bootB, hboth.grid, hboth.scan, hboth.pts, hboth.lmem, hboth.warmA.trans hsnap, hboth.warmB.trans hsnap, hcom, hord,
    hsync, (hget _ rfl).trans ((hfr.get_eq rfl).trans hmst), (bit_of_get (hget _ rfl)).trans hkind, (hget _ rfl).trans hbasis, ?_⟩
  rw [Dev.sentUp, hupQ, htold.cor_eq (by decide)]
  exact hsent

/-- BOOT_DONE sent, with the kind and the forces of the start. -/
theorem bootDone_due (d : Dev) (q : Nat) (hm : d.mst = msLoading) (hc : ∀ c ∈ bootComps, d.nw.staged.contains c = true)
    (ha : d.awaitsBoot .a = true) (hp : d.mod.preDone = true) : ∃ count payload, d.bootDone q = d.bootMsg q 0x03 payload false fun e =>
      if e.awaitsBoot .a || e.awaitsBoot .b then e.bootStart q (d.startKind d.snapValid) count else e.replyNow 0x03 (foyerHdr q) E_SEQ [] := by
  have hall : bootComps.all d.nw.staged.contains = true := List.all_eq_true.2 hc
  unfold Dev.bootDone
  rw [if_neg (by rw [hall, ha, hp]; simp [hm])]
  exact ⟨_, _, rfl⟩

/-- Settles O21: the tests' end, the blocks, the reports and BOOT_DONE, each as it reaches its side. -/
theorem aFieldStartLoadsAndInitialisesTheFlights : Obligations.AFieldStartLoadsAndInitialisesTheFlights := by
  intro s
  refine ⟨fun hs ha hm hno => ⟨?_, fun x hx => ?_⟩, fun q comp last data htake hl hu => ⟨fun hc => ?_, fun hc hk => ?_⟩,
    fun q v hacc hadopt ha hact hcamp => ⟨fun hv hq hs hT => ?_, fun hst hbc => ?_⟩, fun q htake hm hp hc ha hb hu => ?_⟩
  · obtain ⟨hj, h1, h2, h3⟩ := selftestDone_passes s.dev hs ha hm hno.1
    exact answers_of_upd (g := fun d => (d.selftestDone [] [] []).campFollow) rfl (by rw [campFollow_none _ hj]; exact ⟨h1, h2, h3⟩)
  · obtain ⟨hj, h1, h2, h3⟩ := selftestDone_clock s.dev hx hs ha hm hno.1
    exact answers_of_upd (g := fun d => (d.selftestDone [(5, 0x17, x)] [] []).campFollow) rfl (by rw [campFollow_none _ hj]; exact ⟨h1, h2, h3⟩)
  · refine answers_of_upd (g := fun d => d.bootMsg q 0x01 ([BitVec.ofNat 8 comp, BitVec.ofNat 8 (b2n last)] ++ data) (!last) fun d =>
      d.bootImage q comp last data) rfl ?_
    obtain ⟨e, he, hreach⟩ := bootMsg_reaches s.dev 0x01 ([BitVec.ofNat 8 comp, BitVec.ofNat 8 (b2n last)] ++ data) (!last)
      (fun d => d.bootImage q comp last data) htake.2
    rw [he]
    exact bootImage_answers hreach q last data hl hu hc
  · refine answers_of_upd (g := fun d => d.bootMsg q 0x02 ([BitVec.ofNat 8 comp, BitVec.ofNat 8 (b2n last)] ++ data) (!last) fun d =>
      d.configBlock q comp last data) rfl ?_
    obtain ⟨e, he, hreach⟩ := bootMsg_reaches s.dev 0x02 ([BitVec.ofNat 8 comp, BitVec.ofNat 8 (b2n last)] ++ data) (!last)
      (fun d => d.configBlock q comp last data) htake.2
    rw [he]
    exact configBlock_answers hreach q data hl hu hc hk
  · obtain ⟨e, he, hans⟩ := measureReport_reaches s [(0, 2, v)] hacc hcamp
    have hmod := he.mod_eq (by decide)
    obtain ⟨hj, h1, h2, h3, h4⟩ := measureReport_differs e (v := v) (by rw [hmod, hadopt]) ((fst_of_onlyIn he rfl .a).trans ha)
      ((active_congr (fst_of_onlyIn he rfl .a) (fst_of_onlyIn he rfl .b)).trans hact) (by rw [Dev.expected, hmod]; exact hv)
      ((he.bit_eq rfl).trans hq) (by rw [he.nw_eq (by decide)]; exact hs) ((he.get_eq rfl).trans hT)
    exact hans _ hj ⟨h1, h2, h3, h4⟩
  · obtain ⟨e, he, hans⟩ := measureReport_reaches s ([2, 5, 6].map fun i => (0, i, s.dev.expected i)) hacc hcamp
    have hmod := he.mod_eq (by decide)
    have hexp : ∀ i, s.dev.expected i = e.expected i := fun i => by rw [Dev.expected, Dev.expected, hmod]
    simp only [hexp] at hans ⊢
    obtain ⟨hj, h1, h2⟩ := measureReport_agrees e (by rw [hmod, hadopt]) ((fst_of_onlyIn he rfl .a).trans ha)
      ((active_congr (fst_of_onlyIn he rfl .a) (fst_of_onlyIn he rfl .b)).trans hact) (by rw [he.nw_eq (by decide), hst])
      (by rw [he.fa_eq (by decide), hbc])
    exact hans _ hj ⟨h1, h2⟩
  · intro k
    obtain ⟨count, payload, hdone⟩ := bootDone_due s.dev q hm hc ha hp
    obtain ⟨e, he, hreach⟩ := bootMsg_reaches s.dev 0x03 payload false (fun e => if e.awaitsBoot .a || e.awaitsBoot .b then
      e.bootStart q (s.dev.startKind s.dev.snapValid) count else e.replyNow 0x03 (foyerHdr q) E_SEQ []) htake.2
    have hwait : e.awaitsBoot .a = true := by
      obtain ⟨hf, ⟨i, s', hn⟩, -, -, -⟩ := hreach
      exact (awaitsBoot_congr (fst_of_onlyIn hf rfl .a) (by rw [hn]) (by rw [fl_a, fl_a, hf.fa_eq (by decide)])).trans ha
    rw [hwait, Bool.true_or, if_pos rfl] at he
    refine answers_of_upd (g := fun d => d.bootDone q) rfl ?_
    rw [hdone, he]
    exact bootStart_answers hreach q count hm ha hb hu

end Sys2Proof.Machine
end

section
/-! What a record of the Foyer leaves: memory words of the window, with and without errors, alcoves, landings, and the messages and replies
of a session (03 R66 to R77; 16 R429 to R442, R448). -/

namespace Sys2Proof.Machine

/-! ## Memory words of the Foyer -/

/-- Registers of the Foyer's memory (03 R90). -/
def memoryKey : Nat → Bool := keysIn [(FY_SCRUBCFG, 32)]

/-- Registers that a record of the Foyer may touch on its way out: its carriers, events, and the memory that holds an alcove's bytes. -/
def sendKey (k : Nat) : Bool := carrierKey k || eventKey k || memoryKey k

theorem sendKey_of_carrierKey {k : Nat} (h : carrierKey k = true) : sendKey k = true := by simp [sendKey, h]

theorem sendKey_of_eventKey {k : Nat} (h : eventKey k = true) : sendKey k = true := by simp [sendKey, h]

theorem OnlyIn.updFoyerMem {ps : List Part} {ks : Nat → Bool} {d e : Dev} (h : OnlyIn ps ks d e) (g : FoyMemSt → FoyMemSt) (hp : .fmem ∈ ps) :
    OnlyIn ps ks d (e.updMem .fy g) :=
  h.step hp (onlyIn_part .fmem rfl fun p hp => by cases p <;> simp [Part.same, Dev.updMem] at hp ⊢)

/-- What an operation on the Foyer's memory may change. -/
def MemKept (d e : Dev) : Prop := OnlyIn [.arc, .fmem] sendKey d e

theorem MemKept.updMem {d e : Dev} (h : MemKept d e) (g : FoyMemSt → FoyMemSt) : MemKept d (e.updMem .fy g) := OnlyIn.updFoyerMem h g (by decide)

theorem MemKept.put {d e : Dev} (h : MemKept d e) {x : Fld} (v : Nat) (hx : sendKey x.key = true) : MemKept d (e.put x v) := OnlyIn.put h v hx

theorem MemKept.event {d e : Dev} (h : MemKept d e) {i j : EvId} (p : List Int) (hj : j ≠ .fyTalarm) : MemKept d (e.raiseMem .fy i j p) :=
  OnlyIn.event h (fun _ => sendKey_of_eventKey) p hj (by decide)

theorem MemKept.evacDue {d e : Dev} (h : MemKept d e) (pb : Nat) : MemKept d (e.evacDue .fy pb) := by
  unfold Dev.evacDue
  split
  · exact .ite ((h.updMem _).put _ (by decide)) (h.updMem _)
  · exact h

theorem MemKept.ceRate {d e : Dev} (h : MemKept d e) (pb : Nat) : MemKept d (e.ceRate .fy pb) := by
  have ht := (h.updMem fun y => { y with ceDone := y.ceDone ++ [pb] }).event (i := .flCeRate) (j := .fyCeRate)
    [(pb : Int), (mget 0 (e.mem .fy).ceCount pb : Nat)] (by decide)
  exact .ite h (.ite (ht.evacDue pb) ht)

theorem MemKept.corrected {d e : Dev} (h : MemKept d e) (pb w ag : Nat) : MemKept d (e.corrected .fy pb w ag) :=
  ((((((h.put _ (by decide)).put _ (by decide)).put _ (by decide)).put _ (by decide)).put _ (by decide)).updMem _).ceRate pb

theorem MemKept.eccWindow {d e : Dev} (h : MemKept d e) (pb w x : Nat) : MemKept d (e.eccWindow .fy pb w x) :=
  .ite (((h.updMem _).put _ (by decide)).put _ (by decide)) h

theorem MemKept.setWord {d e : Dev} (h : MemKept d e) (pb w : Nat) (i : WordInfo) : MemKept d (e.setWord .fy pb w i) := h.updMem _

theorem MemKept.stored {d e : Dev} (h : MemKept d e) (pb w : Nat) (home : Nat × Nat) (x : Nat) : MemKept d (e.stored .fy pb w home x) := by
  unfold Dev.stored
  have h1 := (h.setWord home.1 home.2 { e.word .fy home.1 home.2 with valid := true, err := .none, check := 0 }).eccWindow pb w x
  dsimp only
  split
  · exact .ite (h1.eccWindow _ w x) h1
  · exact h1

theorem remapUe_fy_key (n : Nat) : (Mem.fy.remapFld FL_REMAP_UE FY_REMAP_UE n).key = FY_REMAP + 4 * n := rfl

theorem memoryKey_remap {n : Nat} (h : n < 8) : memoryKey (FY_REMAP + 4 * n) = true := by
  have hl : FY_SCRUBCFG ≤ FY_REMAP + 4 * n := by unfold FY_SCRUBCFG FY_REMAP; omega
  have hu : FY_REMAP + 4 * n < FY_SCRUBCFG + 4 * 32 := by unfold FY_SCRUBCFG FY_REMAP; omega
  simp [memoryKey, keysIn, hl, hu]

theorem remapUe_key {n : Nat} (h : n < 8) : sendKey (Mem.fy.remapFld FL_REMAP_UE FY_REMAP_UE n).key = true := by
  rw [remapUe_fy_key, sendKey, memoryKey_remap h, Bool.or_true]

theorem remapOf_lt {d : Dev} {pb w n : Nat} (h : d.remapOf .fy pb w = some n) : n < 8 := List.mem_range.1 (List.mem_of_find?_eq_some h)

theorem MemKept.writeWord {d e : Dev} (h : MemKept d e) (pb w : Nat) (full : Bool) (master x : Nat) :
    MemKept d (e.writeWord .fy pb w full master x).1 := by
  have hone : MemKept d (if full then e else e.corrected .fy pb w (Mem.fy.agentOf master)) := .ite h (h.corrected ..)
  unfold Dev.writeWord
  dsimp only
  split
  · exact h.stored ..
  · exact hone.stored ..
  · split
    · split
      · rename_i n hn
        exact (h.put 0 (remapUe_key (remapOf_lt hn))).stored ..
      · exact h.stored ..
    · exact h.event (i := .flEccPartial) _ (by decide)

/-- Bytes written to the window leave everything but the window, the memory, its registers and events. -/
theorem onlyIn_windowWord (d : Dev) (master off : Nat) (bs : List Byte) :
    OnlyIn [.host, .arc, .fmem] sendKey d (d.windowWord master off bs).1 := by
  have hw : OnlyIn [.host, .arc, .fmem] sendKey d (d.windowWrite off bs) := (onlyIn_refl ..).updHost _ (by decide)
  have hm : ∀ pb w full x, OnlyIn [.host, .arc, .fmem] sendKey d ((d.windowWrite off bs).writeWord .fy pb w full master x).1 := fun pb w full x =>
    hw.trans (OnlyIn.mono (MemKept.writeWord (onlyIn_refl ..) pb w full master x) (by decide) fun _ h => h)
  unfold Dev.windowWord
  dsimp only
  split
  · exact hm ..
  · exact (hm ..).updHost (fun _ => d.host) (by decide)

theorem onlyIn_windowPut (master k : Nat) : ∀ (d : Dev) (off : Nat) (bs : List Byte),
    OnlyIn [.host, .arc, .fmem] sendKey d (d.windowPut k master off bs).1 := by
  induction k with
  | zero => exact fun d _ _ => onlyIn_refl ..
  | succ k ih =>
    intro d off bs
    unfold Dev.windowPut
    split
    · exact onlyIn_refl ..
    · exact (onlyIn_windowWord ..).trans (ih ..)

/-! ## A memory without errors stays so -/

theorem foyerClean_congr {d e : Dev} (hm : e.fmem = d.fmem) (hr : ∀ k, FY_SCRUBCFG ≤ k → e.rd k = d.rd k) (h : d.foyerClean) : e.foyerClean := by
  have hget : ∀ x : Fld, FY_SCRUBCFG ≤ x.key → e.get x = d.get x := fun x hx => get_of_rd (hr _ hx)
  have hbit : ∀ x : Fld, FY_SCRUBCFG ≤ x.key → e.bit x = d.bit x := fun x hx => bit_of_get (hget x hx)
  have hremap : ∀ pb w, e.remapOf .fy pb w = d.remapOf .fy pb w := fun pb w => by
    unfold Dev.remapOf
    congr 1
    funext n
    have hle : FY_SCRUBCFG ≤ FY_REMAP + 4 * n := by unfold FY_SCRUBCFG FY_REMAP; omega
    rw [hbit _ hle, hget _ hle, hget _ hle]
  have hhome : ∀ pb w, e.home .fy pb w = d.home .fy pb w := fun pb w => by
    unfold Dev.home
    rw [hremap]
    split
    · rw [hbit _ (by show FY_SCRUBCFG ≤ FY_REMAP + 4 * _; unfold FY_SCRUBCFG FY_REMAP; omega)]
    · rfl
  obtain ⟨harm, hclean⟩ := h
  refine ⟨(hbit _ (by decide)).trans harm, fun lb w => ?_⟩
  have hphys : e.phys .fy lb = d.phys .fy lb := hget _ (by rw [bankFld_fy_key]; unfold FY_SCRUBCFG FY_BANKPHYS; omega)
  simp only [Dev.wordClean, hphys, hhome, word_fy_congr hm]
  exact hclean lb w

theorem memory_not_carrier {k : Nat} (h : FY_SCRUBCFG ≤ k) : carrierKey k = false := by
  unfold FY_SCRUBCFG at h
  simp only [carrierKey, keysIn, List.any_cons, List.any_nil, FY_EVPEND, FY_ALCPTR, FY_LDDATA, Bool.or_false, Bool.or_eq_false_iff,
    Bool.and_eq_false_iff, decide_eq_false_iff_not]
  omega

theorem foyerClean_of_onlyIn {ps : List Part} {d e : Dev} (k : OnlyIn ps carrierKey d e) (hm : .fmem ∉ ps) (h : d.foyerClean) : e.foyerClean :=
  foyerClean_congr (k.1 .fmem hm) (fun _ hk => k.2 _ (memory_not_carrier hk)) h

/-- Bytes written to a window without errors leave it without errors. -/
theorem foyerClean_windowPut (master k : Nat) : ∀ (d : Dev) (off : Nat) (bs : List Byte), d.foyerClean →
    (d.windowPut k master off bs).1.foyerClean ∧ OnlyIn [.host, .fmem] noKey d (d.windowPut k master off bs).1 := by
  induction k with
  | zero => exact fun d _ _ h => ⟨h, onlyIn_refl ..⟩
  | succ k ih =>
    intro d off bs h
    unfold Dev.windowPut
    split
    · exact ⟨h, onlyIn_refl ..⟩
    · obtain ⟨pb, w, i, hword⟩ := windowWord_clean d master off (bs.take (8 - off % 8)) h.1 (h.2 _ _)
      have hw : (d.windowWrite off (bs.take (8 - off % 8))).foyerClean := foyerClean_congr rfl (fun _ _ => rfl) h
      have hs : ((d.windowWrite off (bs.take (8 - off % 8))).setWord .fy pb w i.written).foyerClean :=
        ⟨hw.1, fun lb w' => wordClean_setWord _ pb w lb w' _ rfl (hw.2 lb w')⟩
      have hf : OnlyIn [.host, .fmem] noKey d ((d.windowWrite off (bs.take (8 - off % 8))).setWord .fy pb w i.written) :=
        ((onlyIn_refl ..).updHost _ (by decide)).step (by decide) (onlyIn_setWord_fy _ pb w _)
      dsimp only
      rw [hword]
      exact ⟨(ih _ _ _ hs).1, hf.trans (ih _ _ _ hs).2⟩

end Sys2Proof.Machine
end

section
/-! Records, messages and replies of a session: what their carriers leave, and the reply that the session keeps (16 R429 to R442, R448). -/

namespace Sys2Proof.Machine

/-! ## What carries a record -/

/-- A step in which a record goes out: its carriers change and, where the memory meets an error, the memory's registers and events. -/
structure Carried (d e : Dev) : Prop where
  frame : OnlyIn [.fmp, .host, .eth, .arc, .fmem] sendKey d e
  clean : d.foyerClean → e.foyerClean ∧ OnlyIn [.fmp, .host, .eth, .fmem] carrierKey d e

theorem Carried.refl (d : Dev) : Carried d d := ⟨onlyIn_refl .., fun h => ⟨h, onlyIn_refl ..⟩⟩

theorem Carried.trans {d e f : Dev} (h : Carried d e) (k : Carried e f) : Carried d f :=
  ⟨h.frame.trans k.frame, fun hc => ⟨(k.clean (h.clean hc).1).1, (h.clean hc).2.trans (k.clean (h.clean hc).1).2⟩⟩

theorem Carried.ite {c : Prop} [Decidable c] {d e f : Dev} (h : Carried d e) (k : Carried d f) : Carried d (if c then e else f) := by
  split <;> assumption

theorem carried_of_onlyIn {d e : Dev} (h : OnlyIn [.fmp, .host, .eth] carrierKey d e) : Carried d e :=
  ⟨h.mono (by decide) fun k hk => Bool.eq_false_iff.2 fun ht => by rw [sendKey_of_carrierKey ht] at hk; exact absurd hk (by decide),
    fun hc => ⟨foyerClean_of_onlyIn h (by decide) hc, h.mono (by decide) fun _ hk => hk⟩⟩

theorem Carried.put {d e : Dev} (h : Carried d e) {x : Fld} (v : Nat) (hx : carrierKey x.key = true) : Carried d (e.put x v) :=
  h.trans (carried_of_onlyIn ((onlyIn_refl ..).put v hx))

theorem Carried.updHost {d e : Dev} (h : Carried d e) (g : HostSt → HostSt) : Carried d (e.updHost g) :=
  h.trans (carried_of_onlyIn ((onlyIn_refl ..).updHost g (by decide)))

theorem Carried.updFmp {d e : Dev} (h : Carried d e) (g : FmpSt → FmpSt) : Carried d (e.updFmp g) :=
  h.trans (carried_of_onlyIn ((onlyIn_updFmp e g).mono (by decide) fun _ _ => rfl))

theorem Carried.windowPut {d e : Dev} (h : Carried d e) (k master off : Nat) (bs : List Byte) : Carried d (e.windowPut k master off bs).1 :=
  h.trans ⟨(onlyIn_windowPut master k e off bs).mono (by decide) fun _ hk => hk, fun hc =>
    ⟨(foyerClean_windowPut master k e off bs hc).1, (foyerClean_windowPut master k e off bs hc).2.mono (by decide) fun _ _ => rfl⟩⟩

/-! ## Alcoves and landings -/

theorem pend_carrier {n : Nat} (h : n < 128) : carrierKey (FY_EVPEND + 4 * (n / 32)) = true := by
  have hl : FY_EVPEND ≤ FY_EVPEND + 4 * (n / 32) := by omega
  have hu : FY_EVPEND + 4 * (n / 32) < FY_EVPEND + 4 * 4 := by omega
  simp [carrierKey, keysIn, hu]

theorem alc_carrier {k a : Nat} (h : a < 32) (hl : FY_ALCPTR ≤ k) (hu : k < FY_ALCPTR + 16) : carrierKey (k + 16 * a) = true := by
  have hk : FY_ALCPTR ≤ k + 16 * a := by omega
  have ht : k + 16 * a < FY_ALCPTR + 4 * 128 := by omega
  simp [carrierKey, keysIn, hk, ht]

theorem ld_carrier {k n : Nat} (h : n < 8) (hl : FY_LDDATA ≤ k) (hu : k < FY_LDDATA + 16) : carrierKey (k + 16 * n) = true := by
  have hk : FY_LDDATA ≤ k + 16 * n := by omega
  have ht : k + 16 * n < FY_LDDATA + 4 * 32 := by omega
  simp [carrierKey, keysIn, hk, ht]

theorem Carried.portSource {d e : Dev} (h : Carried d e) {n : Nat} (hn : n < 128) : Carried d (e.portSource n) :=
  .ite (h.put 1 (pend_carrier hn)) h

theorem Carried.alcTag {d e : Dev} (h : Carried d e) {a : Nat} (ha : a < 32) (tag : Nat) : Carried d (e.alcTag a tag).1 := by
  unfold Dev.alcTag
  split
  · exact h
  · split
    · exact h
    · split
      · exact h
      · exact (((h.put tag (alc_carrier (k := FY_ALCTAG) ha (by decide) (by decide))).put 1
          (alc_carrier (k := FY_ALCCTL) ha (by decide) (by decide))).updHost _).portSource (by omega)

theorem Carried.alcNext {d e : Dev} (h : Carried d e) {a : Nat} (ha : a < 16) : Carried d (e.alcNext a) := by
  unfold Dev.alcNext
  split
  · exact h
  · refine .ite h ?_
    exact ((((h.updHost _).windowPut ..).put _ (alc_carrier (k := FY_ALCPTR) (by omega) (by decide) (by decide))).put _
      (alc_carrier (k := FY_ALCLEN) (by omega) (by decide) (by decide))).alcTag (by omega) _

theorem Carried.ldShow {d e : Dev} (h : Carried d e) {n : Nat} (hn : n < 8) : Carried d (e.ldShow n) := by
  have hk : carrierKey (FY_LDSTAT + 16 * n) = true := ld_carrier hn (by decide) (by decide)
  exact ((h.put _ hk).put _ hk).put _ hk

theorem carried_ldFill (k : Nat) {n : Nat} (hn : n < 8) : ∀ d : Dev, Carried d (Dev.ldFill k d n) := by
  induction k with
  | zero => exact .refl
  | succ k ih =>
    intro d
    unfold Dev.ldFill
    split
    · exact .refl d
    · have hs : ∀ g, Carried d ((d.updHost g).ldShow n) := fun g => ((Carried.refl d).updHost g).ldShow hn
      exact .ite (.refl d) ((Carried.ite ((hs _).portSource (by omega)) (hs _)).trans (ih _))

theorem carried_ldRecord (d : Dev) {n : Nat} (hn : n < 8) (rec : List Byte) : Carried d (d.ldRecord n rec) :=
  ((Carried.refl d).updHost _).trans (carried_ldFill 1024 hn _)

theorem carried_sendRecord (d : Dev) (udp : Bool) {channel : Nat} (hc : channel < 32) (tag : Nat) (rec : List Byte) :
    Carried d (d.sendRecord udp channel tag rec) := by
  unfold Dev.sendRecord
  split
  · exact carried_of_onlyIn ((onlyIn_updEth d fun x => { x with last := rec }).mono (by decide) fun _ _ => rfl)
  · split
    · exact carried_ldRecord d (by omega) rec
    · exact ((Carried.refl d).updHost _).alcNext (by omega)

end Sys2Proof.Machine
end

section
/-! Messages and replies of a session: what they leave, and the reply that the session keeps (16 R448). -/

namespace Sys2Proof.Machine

/-! ## Sessions of the map -/

theorem mget?_mins_other {α : Type} (m : Map α) {k j : Nat} (v : α) (h : j ≠ k) : mget? (mins m k v) j = mget? m j := by
  induction m with
  | nil => simp [mins, mget?, h.symm]
  | cons e t ih =>
    obtain ⟨a, w⟩ := e
    simp only [mins]
    split
    · simp [mget?, h.symm]
    · by_cases ha : a = j <;> simp [mget?, ha, ih]

theorem mget?_mdel_other {α : Type} (m : Map α) {k j : Nat} (h : j ≠ k) : mget? (mdel m k) j = mget? m j := by
  induction m with
  | nil => rfl
  | cons e t ih =>
    obtain ⟨a, w⟩ := e
    unfold mdel at ih ⊢
    by_cases hk : a = k
    · subst hk
      simpa [mget?, h.symm] using ih
    · by_cases ha : a = j
      · simp [mget?, ha, h]
      · simpa [mget?, hk, ha] using ih

theorem mget?_mdel_same {α : Type} (m : Map α) (k : Nat) : mget? (mdel m k) k = none := by
  induction m with
  | nil => rfl
  | cons e t ih =>
    obtain ⟨a, w⟩ := e
    unfold mdel at ih ⊢
    by_cases hk : a = k
    · simpa [hk] using ih
    · simpa [mget?, hk] using ih

theorem updSes_same {d : Dev} {ses : Nat} {x : Session} (h : mget? d.fmp.sessions ses = some x) (g : Session → Session) :
    mget? (d.updSes ses g).fmp.sessions ses = some (g x) := by
  simp only [Dev.updSes, h, Dev.updFmp, mget?_mput_same]

theorem updSes_other (d : Dev) {ses k : Nat} (hk : k ≠ ses) (g : Session → Session) :
    mget? (d.updSes ses g).fmp.sessions k = mget? d.fmp.sessions k := by
  unfold Dev.updSes
  split
  · rfl
  · exact (mget?_mins_other _ _ hk).trans (mget?_mdel_other _ hk)

theorem onlyIn_updSes (d : Dev) (ses : Nat) (g : Session → Session) : OnlyIn [.fmp] noKey d (d.updSes ses g) := by
  unfold Dev.updSes
  split
  · exact onlyIn_refl ..
  · exact onlyIn_updFmp ..

theorem Carried.updSes {d e : Dev} (h : Carried d e) (ses : Nat) (g : Session → Session) : Carried d (e.updSes ses g) :=
  h.trans (carried_of_onlyIn ((onlyIn_updSes e ses g).mono (by decide) fun _ _ => rfl))

/-! ## Messages (16 R446, R448) -/

theorem sesSend_eq {d : Dev} {ses : Nat} {x : Session} (h : mget? d.fmp.sessions ses = some x) (hs : x.txSeq < 2 ^ 63) (tag : Nat)
    (plain : List Byte) : d.sesSend ses tag plain =
      (d.updSes ses fun x => { x with txSeq := x.txSeq + 1 }).sendRecord x.udp x.channel tag (dataRec x.key ses x.txSeq plain) := by
  simp only [Dev.sesSend, h, if_neg (Nat.not_le.mpr hs)]

/-- Records one after another leave what carries them, and the other sessions. -/
theorem carried_sesSend_foldl {α : Type} (ses tag : Nat) (plain : α → List Byte) (l : List α) : ∀ {d : Dev} {x : Session},
    mget? d.fmp.sessions ses = some x → x.channel < 32 → x.txSeq + l.length ≤ 2 ^ 63 →
      Carried d (l.foldl (fun (d : Dev) c => d.sesSend ses tag (plain c)) d) ∧
      ∀ k, k ≠ ses → mget? (l.foldl (fun (d : Dev) c => d.sesSend ses tag (plain c)) d).fmp.sessions k = mget? d.fmp.sessions k := by
  induction l with
  | nil => exact fun _ _ _ => ⟨.refl _, fun _ _ => rfl⟩
  | cons c t ih =>
    intro d x h hc hs
    rw [List.length_cons] at hs
    obtain ⟨hcar, hoth⟩ := ih (sesSend_counts h (by omega) tag (plain c)) hc (by show x.txSeq + 1 + t.length ≤ 2 ^ 63; omega)
    have hone := sesSend_eq h (show x.txSeq < 2 ^ 63 by omega) tag (plain c)
    refine ⟨Carried.trans ?_ hcar, fun k hk => (hoth k hk).trans ?_⟩
    · rw [hone]
      exact ((Carried.refl d).updSes ..).trans (carried_sendRecord _ _ hc _ _)
    · rw [hone, sendRecord_fmp]
      exact updSes_other d hk _

theorem carried_sesMessage {d : Dev} {ses : Nat} {x : Session} (h : mget? d.fmp.sessions ses = some x) (hc : x.channel < 32)
    (op id status tag : Nat) (p : List Byte) (hs : x.txSeq + p.length + 2 ≤ 2 ^ 63) :
    Carried d (d.sesMessage ses op id status tag p) ∧
      ∀ k, k ≠ ses → mget? (d.sesMessage ses op id status tag p).fmp.sessions k = mget? d.fmp.sessions k := by
  simp only [Dev.sesMessage, h]
  have hlen := (pieces_length (d.maxRecord x.udp x.channel - 40) (p.length / (d.maxRecord x.udp x.channel - 40 + 1) + 1) p).2
  have hdiv := Nat.div_le_self p.length (d.maxRecord x.udp x.channel - 40 + 1)
  exact carried_sesSend_foldl ses tag _ _ h hc (by omega)

/-! ## Replies (16 R448) -/

/-- A session waits for the reply to its one request, and its messages stay far below the last sequence. -/
def Dev.Replying (d : Dev) (ses : Nat) (r : FmpReq) : Prop :=
  ∃ x, mget? d.fmp.sessions ses = some x ∧ x.busy = [r] ∧ x.channel < 32 ∧ x.txSeq < 2 ^ 61

theorem Dev.Replying.of_fmp {d e : Dev} {ses : Nat} {r : FmpReq} (h : d.Replying ses r) (hf : e.fmp = d.fmp) : e.Replying ses r := by
  unfold Dev.Replying
  rw [hf]
  exact h

/-- What a reply establishes: the session keeps it, and the rest is as it was but for what carries it. -/
structure Dev.Replied (d u : Dev) (ses : Nat) (r : FmpReq) (st : Nat) (pl : List Byte) : Prop where
  answered : u.answered ses r st pl
  carried : Carried d u
  others : ∀ k, k ≠ ses → mget? u.fmp.sessions k = mget? d.fmp.sessions k

theorem fmpReply_replied {d : Dev} {ses : Nat} {r : FmpReq} (h : d.Replying ses r) {st : Nat} {pl : List Byte} (hst : st ≠ E_BUSY)
    (hl : pl.length < 2 ^ 61) : d.Replied (d.fmpReply ses r st pl) ses r st pl := by
  obtain ⟨x, hx, hb, hc, hs⟩ := h
  unfold Dev.fmpReply
  have hkeep := updSes_same hx fun x => { x with
    busy := x.busy.filter fun b => b.id ≠ r.id
    replies := if st = E_BUSY then x.replies else (⟨r.id, r.op, st, pl⟩ :: x.replies).take 16 }
  have hcar := (Carried.refl d).updSes ses fun x => { x with
    busy := x.busy.filter fun b => b.id ≠ r.id
    replies := if st = E_BUSY then x.replies else (⟨r.id, r.op, st, pl⟩ :: x.replies).take 16 }
  obtain ⟨n, -, hy⟩ := sesMessage_counts hkeep (r.op + 0x80) r.id st r.tag pl (by show x.txSeq + pl.length + 2 ≤ 2 ^ 63; omega)
  obtain ⟨hm, ho⟩ := carried_sesMessage hkeep hc (r.op + 0x80) r.id st r.tag pl (by show x.txSeq + pl.length + 2 ≤ 2 ^ 63; omega)
  refine ⟨⟨_, hy, ?_, ?_⟩, hcar.trans hm, fun k hk => (ho k hk).trans (updSes_other d hk _)⟩
  · simp [hb]
  · simp [hst]

theorem Dev.Replied.plain {d u : Dev} {ses : Nat} {r : FmpReq} {st : Nat} {pl : List Byte} (h : d.Replied u ses r st pl) :
    u.answered ses r st pl ∧ (d.foyerClean → OnlyIn [.fmp, .host, .eth, .fmem] carrierKey d u) :=
  ⟨h.answered, fun hc => (h.carried.clean hc).2⟩

end Sys2Proof.Machine
end

section
/-! Operations of the message protocol by role: what the boot ROM's responder turns away and what a role may not do (05 R132; 16 R449,
R453). -/

namespace Sys2Proof.Machine

/-! ## Operations as commands -/

/-- A command is an operation of a session's request, once the raw counter has moved on where the command carries a time. -/
def RunsOp (s : State) (i : Instr) (ses id op : Nat) : Prop :=
  ∃ (f : Dev → Dev) (g : Session → FmpReq → Dev → Dev), exec i s = s.upd (fun d => (f d).op ses id op g) ∧ (f s.dev).fmp = s.dev.fmp ∧ (f s.dev).host = s.dev.host ∧
    (f s.dev).mod = s.dev.mod

theorem runsOp_of_exec {s : State} {i : Instr} {ses id op : Nat} {g : Session → FmpReq → Dev → Dev}
    (h : exec i s = s.upd fun d => d.op ses id op g) : RunsOp s i ses id op := ⟨fun d => d, g, h, rfl, rfl, rfl⟩

theorem runsOp_of_clock {s : State} {i : Instr} {now ses id op : Nat} {g : Session → FmpReq → Dev → Dev}
    (h : exec i s = s.upd fun d => (d.clock now).op ses id op g) : RunsOp s i ses id op := ⟨fun d => d.clock now, g, h, rfl, rfl, rfl⟩

/-- The operations of 16 R449, each with the roles that it is open to (05 R132). -/
noncomputable def opTable (now ses id : Nat) (a b c : Bool) (bytes : List Byte) : List (Instr × Nat × List Nat) :=
  [(.fmpStatus ses id, 0x01, [1, 2, 3, 4, 5]), (.keepalive ses id, 0x02, [1, 2, 3, 4, 5]),
    (.close ses id, 0x03, [1, 2, 3, 4, 5]), (.fmpPointRead ses id, 0x10, [1, 2, 3, 4]), (.fmpPointWrite ses id, 0x11, [1, 3]),
    (.fmpForceSet ses id, 0x13, [1]), (.fmpRegRead ses id, 0x20, [1, 2]), (.fmpRegWrite ses id, 0x21, [1]), (.lregRead ses id, 0x22, [1, 2]),
    (.timeStep now ses id, 0x30, [1]), (.timeSet now ses id, 0x31, [1]), (.fmpMeshDown ses id, 0x40, [1]),
    (.attest ses id, 0x50, [1, 2, 3, 4, 5]), (.keyInfo ses id, 0x51, [1, 2]), (.keyPrepare ses id, 0x52, [1]), (.keyCommit ses id, 0x53, [1]),
    (.keyAbort ses id, 0x54, [1]), (.keyInvalidate ses id, 0x55, [1]), (.keyExport ses id, 0x56, [1]), (.arcadeRead ses id, 0x58, [1, 2, 3, 4]),
    (.arcadeClearNonce ses id, 0x59, [1]), (.arcadeClear ses id a, 0x59, [1]), (.updBegin ses id a b c, 0x60, [1, 5]),
    (.updBlock ses id a, 0x61, [1, 5]), (.updStatus ses id, 0x62, [1, 2, 5]), (.updVerify ses id a bytes, 0x63, [1, 5]),
    (.updActivate ses id, 0x64, [1, 5]), (.updConfirm ses id, 0x65, [1, 5]), (.updRevert ses id, 0x66, [1, 5]), (.updAbort ses id, 0x67, [1, 5]),
    (.updDistribute ses id, 0x68, [1, 5]), (.restart ses id, 0x70, [1])]

theorem opTable_roles (now ses id : Nat) (a b c : Bool) (bytes : List Byte) :
    ∀ e ∈ opTable now ses id a b c bytes, (opRoles e.2.1).getD [] = e.2.2 := by
  simp only [opTable, List.forall_mem_cons]
  simp [opRoles]

theorem opTable_runs (s : State) (now ses id : Nat) (a b c : Bool) (bytes : List Byte) :
    ∀ e ∈ opTable now ses id a b c bytes, RunsOp s e.1 ses id e.2.1 := by
  have here {i : Instr} {op : Nat} {g : Session → FmpReq → Dev → Dev} (h : exec i s = s.upd fun d => d.op ses id op g) := runsOp_of_exec h
  simp only [opTable, List.forall_mem_cons]
  exact ⟨here rfl, here rfl, here rfl, here rfl, here rfl, here rfl, here rfl, here rfl, here rfl, runsOp_of_clock rfl, runsOp_of_clock rfl,
    here rfl, here rfl, here rfl, here rfl, here rfl, here rfl, here rfl, here rfl, here rfl, here rfl, here rfl, here rfl, here rfl, here rfl,
    here rfl, here rfl, here rfl, here rfl, here rfl, here rfl, here rfl, fun _ h => absurd h List.not_mem_nil⟩

/-! ## Requests turned away (16 R449, R453) -/

theorem Dev.asked.replying {d : Dev} {ses : Nat} {x : Session} {r : FmpReq} (h : d.asked ses x r) (hs : x.txSeq < 2 ^ 61) : d.Replying ses r := by
  obtain ⟨hx, hb, -, -, hc⟩ := h
  exact ⟨x, hx, hb, hc, hs⟩

theorem Dev.asked.congr {d e : Dev} {ses : Nat} {x : Session} {r : FmpReq} (h : d.asked ses x r) (hf : e.fmp = d.fmp) (hh : e.host = d.host) :
    e.asked ses x r := by
  unfold Dev.asked
  rw [hf, hh]
  exact h

theorem op_rom {d : Dev} {ses : Nat} {x : Session} {r : FmpReq} (h : d.asked ses x r) (hr : d.mod.romHold = true) (hs : romServes r = false)
    (g : Session → FmpReq → Dev → Dev) : d.op ses r.id r.op g = d.fmpReply ses r E_CMD [] := by
  obtain ⟨hx, hb, hn, hc, -⟩ := h
  simp [Dev.op, hx, hb, hn, hc, hr, hs]

theorem op_permitted {d : Dev} {ses : Nat} {x : Session} {r : FmpReq} (h : d.asked ses x r) (hr : d.mod.romHold = false)
    (hx : x.role ∈ (opRoles r.op).getD []) (g : Session → FmpReq → Dev → Dev) : d.op ses r.id r.op g = g x r d :=
  (op_asked h hr g).trans (if_pos hx)

/-- The boot ROM's responder serves status, keepalive, close, registers and the update of component 0x01 alone. -/
theorem romServes_false {r : FmpReq} (h : r.op ∉ [1, 2, 3, 0x22]) (hu : r.op < 0x60 ∨ 0x68 < r.op) : romServes r = false := by
  simp only [List.mem_cons, List.not_mem_nil, or_false, not_or] at h
  obtain ⟨h1, h2, h3, h4⟩ := h
  simp [romServes, h1, h2, h3, h4]
  omega

theorem suiteDenied_replying {d : Dev} {ses : Nat} {x : Session} {r : FmpReq} (h : d.asked ses x r) (hs : x.txSeq < 2 ^ 61) (op : Nat) :
    (d.suiteDenied ses x op).Replying ses r := by
  unfold Dev.suiteDenied
  split
  · obtain ⟨hx, hb, -, -, hc⟩ := h
    refine Dev.Replying.of_fmp (d := d.updSes ses fun x => { x with deniedAt := some d.time.raw }) ?_ (raiseFy_fmp _ _)
    exact ⟨_, updSes_same hx _, hb, hc, hs⟩
  · exact h.replying hs

theorem romRefused_answers {s : State} {i : Instr} {ses : Nat} {x : Session} {r : FmpReq} (h : s.dev.asked ses x r) (hs : x.txSeq < 2 ^ 61)
    (hr : s.dev.mod.romHold = true) (hrom : romServes r = false) (hi : RunsOp s i ses r.id r.op) :
    Answers i s fun u => u.answered ses r E_CMD [] := by
  obtain ⟨f, g, hx, hf, hh, hm⟩ := hi
  refine answers_of_upd hx ?_
  rw [op_rom (h.congr hf hh) (by rw [hm]; exact hr) hrom]
  exact (fmpReply_replied ((h.replying hs).of_fmp hf) (by decide) (by decide)).answered

theorem roleRefused_answers {s : State} {i : Instr} {ses : Nat} {x : Session} {r : FmpReq} (h : s.dev.asked ses x r) (hs : x.txSeq < 2 ^ 61)
    (hr : s.dev.mod.romHold = false) (hrole : x.role ∉ (opRoles r.op).getD []) (hi : RunsOp s i ses r.id r.op) :
    Answers i s fun u => u.answered ses r E_ROLE [] := by
  obtain ⟨f, g, hx, hf, hh, hm⟩ := hi
  refine answers_of_upd hx ?_
  rw [op_asked (h.congr hf hh) (by rw [hm]; exact hr), if_neg hrole]
  exact (fmpReply_replied (suiteDenied_replying (h.congr hf hh) hs _) (by decide) (by decide)).answered

/-- An operation that its session's role may perform. -/
theorem performed_answers {s : State} {i : Instr} {ses op : Nat} {x : Session} {r : FmpReq} {g : Session → FmpReq → Dev → Dev} {P : Dev → Prop}
    (h : s.dev.asked ses x r) (hr : s.dev.mod.romHold = false) (hop : r.op = op) (hrole : x.role ∈ (opRoles r.op).getD [])
    (hi : exec i s = s.upd fun d => d.op ses r.id op g) (hP : P (g x r s.dev)) : Answers i s P := by
  refine answers_of_upd hi ?_
  subst hop
  rw [op_permitted h hr hrole]
  exact hP

end Sys2Proof.Machine
end

section
/-! Operations that the Foyer answers alone: STATUS, KEEPALIVE, CLOSE and LREG_READ (03 R82; 16 R447, R449). -/

namespace Sys2Proof.Machine

/-! ## Registers read by the management core (00 R8; 03 R82) -/

/-- Registers whose read does more than return them: the event vector, the first words of times read in parts, and latches. -/
def readActs : Nat → Bool :=
  keysIn [(FY_EVVEC, 1), (FY_TBRAWLO, 1), (FY_TIMELO, 1), (FY_OPSECLO, 1), (FY_RTCSUB, 1), (FY_RTCCAL1, 1), (FY_LATCH, 32)]

theorem readAs_peeks (d : Dev) {k : Nat} (h : readActs k = false) : d.readAs 0 k = (d, d.fyPeek k, false) := by
  simp only [readActs, keysIn, List.any_cons, List.any_nil, Bool.or_false, Bool.or_eq_false_iff, Bool.and_eq_false_iff,
    decide_eq_false_iff_not] at h
  obtain ⟨hv, hraw, htime, hop, hsub, hcal, hl⟩ := h
  have hlatch : (List.range 32).find? (fun n => k = FY_LATCH + 4 * n) = none := by
    simp only [List.find?_eq_none, List.mem_range, decide_eq_true_eq]
    intro n hn hk
    omega
  have hport : [4, 5, 6, 7].find? (fun n => k = FY_LDDATA + 16 * n && 0 == hostMaster) = none := by simp [hostMaster]
  rw [Dev.readAs, if_neg (by omega), if_neg (by omega), if_neg (by omega), if_neg (by omega), if_neg (by omega), if_neg (by omega), hlatch]
  dsimp only
  rw [hport]

theorem lregWords_peeks (d : Dev) : ∀ n k, (∀ i, i < n → readActs (k + 4 * i) = false) →
    d.lregWords n k = (d, (List.range n).flatMap fun i => le 4 (d.fyPeek (k + 4 * i)).toNat) := by
  intro n
  induction n with
  | zero => exact fun _ _ => rfl
  | succ n ih =>
    intro k h
    have hrest := ih (k + 4) fun i hi => by
      rw [show k + 4 + 4 * i = k + 4 * (i + 1) by omega]
      exact h (i + 1) (by omega)
    have hfirst : d.readAs 0 k = (d, d.fyPeek k, false) := readAs_peeks d (h 0 (by omega))
    rw [Dev.lregWords, hfirst]
    dsimp only
    rw [hrest, List.range_succ_eq_map, List.flatMap_cons, List.flatMap_map]
    simp only [Nat.mul_zero, Nat.add_zero, Nat.mul_succ, Nat.succ_eq_add_one, Nat.add_assoc, Nat.add_comm 4]

/-- A latch answers its owner, and a free one takes the reader. -/
theorem readAs_latch (d : Dev) {i : Nat} (hi : i < 32) :
    d.readAs 0 (FY_LATCH + 4 * i) = ((d.latchRead .fy i 0).1, BitVec.ofNat 32 (d.latchRead .fy i 0).2, false) := by
  have hfind : (List.range 32).find? (fun n => FY_LATCH + 4 * i = FY_LATCH + 4 * n) = some i := by
    rw [List.find?_range_eq_some]
    refine ⟨by simp, List.mem_range.2 hi, fun j hj => ?_⟩
    simp
    omega
  rw [Dev.readAs, if_neg (by unfold FY_LATCH FY_EVVEC; omega), if_neg (by unfold FY_LATCH FY_TBRAWLO; omega),
    if_neg (by unfold FY_LATCH FY_TIMELO; omega), if_neg (by unfold FY_LATCH FY_OPSECLO; omega), if_neg (by unfold FY_LATCH FY_RTCSUB; omega),
    if_neg (by unfold FY_LATCH FY_RTCCAL1; omega), hfind]

theorem latchRead_free {d : Dev} {i : Nat} (h : d.get (Mem.fy.latch i) = 0) (m : Nat) :
    d.latchRead .fy i m = (d.put (Mem.fy.latch i) (m + 1), 0) := if_pos h

theorem latchRead_held {d : Dev} {i : Nat} (h : d.get (Mem.fy.latch i) ≠ 0) (m : Nat) :
    d.latchRead .fy i m = (d, d.get (Mem.fy.latch i)) := if_neg h

theorem latchRead_value (d : Dev) (i m : Nat) : (d.latchRead .fy i m).2 = d.get (Mem.fy.latch i) := by
  by_cases h : d.get (Mem.fy.latch i) = 0
  · rw [latchRead_free h, h]
  · rw [latchRead_held h]

theorem latchRead_fmp (d : Dev) (i m : Nat) : (d.latchRead .fy i m).1.fmp = d.fmp := by
  by_cases h : d.get (Mem.fy.latch i) = 0
  · rw [latchRead_free h, put_fmp]
  · rw [latchRead_held h]

theorem latchRead_owner (d : Dev) (i : Nat) : (d.latchRead .fy i 0).1.get (Mem.fy.latch i) =
    (if d.get (Mem.fy.latch i) = 0 then 1 else d.get (Mem.fy.latch i)) := by
  by_cases h : d.get (Mem.fy.latch i) = 0
  · rw [latchRead_free h, if_pos h]
    exact get_put_same d _ 1 rfl (show 1 < 2 ^ (5 + 1 - 0) by decide)
  · rw [latchRead_held h, if_neg h]

theorem latch_key (i : Nat) : (Mem.fy.latch i).key = FY_LATCHOWN + 4 * i := rfl

theorem latch_lt (d : Dev) (i : Nat) : d.get (Mem.fy.latch i) < 2 ^ 32 :=
  Nat.lt_of_lt_of_le (bitsOf_lt _ 5 0) (by decide)

/-- Latches, time and the backup domain stand between the landings and the Arcade. -/
theorem unsent_between {k : Nat} (hl : FY_LATCH ≤ k) (hu : k < FY_ARCSTAT) : sendKey k = false := by
  simp only [sendKey, carrierKey, memoryKey, eventKey, keysIn, List.any_cons, List.any_nil, Bool.or_false, Bool.or_eq_false_iff,
    Bool.and_eq_false_iff, decide_eq_false_iff_not, beq_eq_false_iff_ne]
  unfold FY_LATCH at hl
  unfold FY_ARCSTAT at hu ⊢
  unfold FY_EVPEND FY_ALCPTR FY_LDDATA FY_ARCSUPP FY_SCRUBCFG
  omega

theorem latch_unsent {i : Nat} (hi : i < 32) : sendKey (Mem.fy.latch i).key = false := by
  rw [latch_key]
  exact unsent_between (by unfold FY_LATCH FY_LATCHOWN; omega) (by unfold FY_LATCHOWN FY_ARCSTAT; omega)

/-! ## Local operations (16 R449) -/

theorem fyKey_add (a i : Nat) : fyKey (a + i) = fyKey a + i := (Nat.add_assoc ..).symm

theorem lregRead_refused {d : Dev} {p : List Byte} (h : p.length ≠ 8 ∨ field p 4 1 = 0 ∨ 64 < field p 4 1 ∨ field p 0 4 % 4 ≠ 0 ∨
    0xFFFC < field p 0 4 + 4 * (field p 4 1 - 1)) : d.lregRead p = (d, E_RANGE, []) := if_pos h

theorem lregRead_words {d : Dev} {p : List Byte} (hp : p.length = 8) (hn : 1 ≤ field p 4 1) (hn' : field p 4 1 ≤ 64) (ha : field p 0 4 % 4 = 0)
    (ht : field p 0 4 + 4 * (field p 4 1 - 1) ≤ 0xFFFC) :
    d.lregRead p = ((d.lregWords (field p 4 1) (fyKey (field p 0 4))).1, E_OK, (d.lregWords (field p 4 1) (fyKey (field p 0 4))).2) :=
  if_neg (by omega)

theorem lregRead_peeks {d : Dev} {p : List Byte} (hp : p.length = 8) (hn : 1 ≤ field p 4 1) (hn' : field p 4 1 ≤ 64) (ha : field p 0 4 % 4 = 0)
    (ht : field p 0 4 + 4 * (field p 4 1 - 1) ≤ 0xFFFC) (h : ∀ i, i < field p 4 1 → readActs (fyKey (field p 0 4 + 4 * i)) = false) :
    d.lregRead p = (d, E_OK, (List.range (field p 4 1)).flatMap fun i => le 4 (d.fyPeek (fyKey (field p 0 4 + 4 * i))).toNat) := by
  simp only [fyKey_add] at h ⊢
  rw [lregRead_words hp hn hn' ha ht, lregWords_peeks d _ _ h]

theorem lregRead_latch {d : Dev} {p : List Byte} {i : Nat} (hi : i < 32) (hp : p.length = 8) (hn : field p 4 1 = 1)
    (hk : fyKey (field p 0 4) = FY_LATCH + 4 * i) :
    d.lregRead p = ((d.latchRead .fy i 0).1, E_OK, le 4 (d.get (Mem.fy.latch i))) := by
  have ha : field p 0 4 = 0x500 + 4 * i := by unfold fyKey FY_LATCH at hk; omega
  rw [lregRead_words hp (by omega) (by omega) (by omega) (by omega), hn, hk, Dev.lregWords, Dev.lregWords, readAs_latch d hi]
  dsimp only
  rw [latchRead_value, BitVec.toNat_ofNat, Nat.mod_eq_of_lt (latch_lt d i), List.append_nil]

theorem length_flatMap_le (l : List Nat) (v : Nat → Nat) : (l.flatMap fun i => le 4 (v i)).length = 4 * l.length := by
  induction l with
  | nil => rfl
  | cons a t ih =>
    rw [List.flatMap_cons, List.length_append, le_length, ih, List.length_cons]
    omega

section
variable {s : State} {ses : Nat} {x : Session} {r : FmpReq}

/-- A request that changes nothing but for its reply. -/
theorem plain_answers {i : Instr} {op st : Nat} {pl : List Byte} {g : Session → FmpReq → Dev → Dev} (h : s.dev.asked ses x r)
    (hs : x.txSeq < 2 ^ 61) (hr : s.dev.mod.romHold = false) (hop : r.op = op) (hrole : x.role ∈ (opRoles r.op).getD [])
    (hi : exec i s = s.upd fun d => d.op ses r.id op g) (hg : g x r s.dev = s.dev.fmpReply ses r st pl) (hst : st ≠ E_BUSY)
    (hl : pl.length < 2 ^ 61) : Answers i s fun u => u.answered ses r st pl ∧
      (s.dev.foyerClean → OnlyIn [.fmp, .host, .eth, .fmem] carrierKey s.dev u) := by
  refine performed_answers h hr hop hrole hi ?_
  rw [hg]
  exact (fmpReply_replied (h.replying hs) hst hl).plain

theorem lregRead_latch_answers (h : s.dev.asked ses x r) (hs : x.txSeq < 2 ^ 61) (hr : s.dev.mod.romHold = false) (hop : r.op = 0x22)
    (hrole : x.role ∈ (opRoles r.op).getD []) {i : Nat} (hi : i < 32) (hp : r.payload.length = 8) (hn : field r.payload 4 1 = 1)
    (hk : fyKey (field r.payload 0 4) = FY_LATCH + 4 * i) : Answers (.lregRead ses r.id) s fun u =>
      u.answered ses r E_OK (le 4 (s.dev.get (Mem.fy.latch i))) ∧
        u.get (Mem.fy.latch i) = (if s.dev.get (Mem.fy.latch i) = 0 then 1 else s.dev.get (Mem.fy.latch i)) := by
  refine performed_answers h hr hop hrole rfl ?_
  dsimp only
  rw [lregRead_latch hi hp hn hk]
  have hrep := fmpReply_replied ((h.replying hs).of_fmp (latchRead_fmp s.dev i 0)) (st := E_OK) (pl := le 4 (s.dev.get (Mem.fy.latch i)))
    (by decide) (by rw [le_length]; decide)
  exact ⟨hrep.answered, (hrep.carried.frame.get_eq (latch_unsent hi)).trans (latchRead_owner s.dev i)⟩

end

end Sys2Proof.Machine
end

section
/-! The close of a session on request, and operations that cross the Corridor (01 R41, R42; 02 R55; 16 R447, R449; 17 R470). -/

namespace Sys2Proof.Machine

/-! ## A session closes (16 R447; 17 R470) -/

theorem onlyIn_ucShow (d : Dev) : OnlyIn [] bootKey d d.ucShow :=
  ((((((onlyIn_refl ..).wr _ (by decide)).wr _ (by decide)).wr _ (by decide)).wr _ (by decide)).put _ (by decide)).put _ (by decide)

theorem ucShow_fmp (d : Dev) : d.ucShow.fmp = d.fmp := (onlyIn_ucShow d).fmp_eq (by decide)

theorem ucShow_und (d : Dev) : d.ucShow.und = d.und := (onlyIn_ucShow d).1 .und (by decide)

/-- The Foyer forgets a session. -/
def Dev.sesDropped (d : Dev) (ses : Nat) : Dev :=
  (((d.updFmp fun m => { m with sessions := mdel m.sessions ses }).keyDiscard ses).updArc fun a => { a with
    nonces := a.nonces.filter fun x => x.1 ≠ ses }).updUpd fun u => { u with loads := u.loads.filter fun l => l.2.1 ≠ ses }

/-- It tells the field side. -/
def Dev.sesTold (d : Dev) (ses : Nat) : Dev := if d.cor.hostUp then d.request 0x10 ([3] ++ le 1 ses ++ [0, 0]) else d

theorem sesClose_eq {d : Dev} {ses : Nat} (h : mhas d.fmp.sessions ses = true) (cause : Nat) : d.sesClose cause ses =
    (((d.sesDropped ses).sesTold ses).raiseFy (.mk' .fySessClose [ses, cause])).fmpShow := if_neg (by rw [h]; decide)

theorem request_fmp (d : Dev) (typ : Nat) (p : List Byte) (more : Bool) : (d.request typ p more).fmp = d.fmp :=
  (OnlyIn.request (onlyIn_refl [.cor] noKey d) typ p more (by decide)).fmp_eq (by decide)

theorem request_und (d : Dev) (typ : Nat) (p : List Byte) (more : Bool) : (d.request typ p more).und = d.und :=
  (OnlyIn.request (onlyIn_refl [.cor] noKey d) typ p more (by decide)).1 .und (by decide)

theorem sesTold_fmp (d : Dev) (ses : Nat) : (d.sesTold ses).fmp = d.fmp := by
  unfold Dev.sesTold
  split
  · exact request_fmp ..
  · rfl

theorem sesTold_und (d : Dev) (ses : Nat) : (d.sesTold ses).und = d.und := by
  unfold Dev.sesTold
  split
  · exact request_und ..
  · rfl

theorem sesClose_sessions {d : Dev} {ses : Nat} (h : mhas d.fmp.sessions ses = true) (cause : Nat) :
    (d.sesClose cause ses).fmp.sessions = mdel d.fmp.sessions ses := by
  rw [sesClose_eq h, Dev.fmpShow, put_fmp, put_fmp, put_fmp, raiseFy_fmp, sesTold_fmp, Dev.sesDropped, updUpd_fmp, updArc_fmp, Dev.keyDiscard,
    ucShow_fmp, updUnd_fmp, updFmp_fmp]

theorem sesClose_pend {d : Dev} {ses : Nat} (h : mhas d.fmp.sessions ses = true) (cause : Nat) :
    (d.sesClose cause ses).und.pend = d.und.pend.filter fun e => e.2.session ≠ ses := by
  rw [sesClose_eq h, Dev.fmpShow, put_und, put_und, put_und, raiseFy_und, sesTold_und, Dev.sesDropped, updUpd_und, updArc_und, Dev.keyDiscard,
    ucShow_und, updUnd_und, updFmp_und]

/-- A session that closes is gone with its pending values, the others stay. -/
theorem sesClose_forgets {d : Dev} {ses : Nat} (h : mhas d.fmp.sessions ses = true) (cause : Nat) :
    mget? (d.sesClose cause ses).fmp.sessions ses = none ∧
      (∀ k, k ≠ ses → mget? (d.sesClose cause ses).fmp.sessions k = mget? d.fmp.sessions k) ∧
      ∀ q ∈ (d.sesClose cause ses).und.pend, q.2.session ≠ ses := by
  rw [sesClose_sessions h, sesClose_pend h]
  exact ⟨mget?_mdel_same .., fun k hk => mget?_mdel_other _ hk, fun q hq => of_decide_eq_true (List.mem_filter.1 hq).2⟩

section
variable {s : State} {ses : Nat} {x : Session} {r : FmpReq}

theorem close_answers (h : s.dev.asked ses x r) (hs : x.txSeq < 2 ^ 61) (hr : s.dev.mod.romHold = false) (hop : r.op = 0x03)
    (hrole : x.role ∈ (opRoles r.op).getD []) : Answers (.close ses r.id) s fun u => mget? u.fmp.sessions ses = none ∧
      (∀ k, k ≠ ses → mget? u.fmp.sessions k = mget? s.dev.fmp.sessions k) ∧ ∀ q ∈ u.und.pend, q.2.session ≠ ses := by
  refine performed_answers h hr hop hrole rfl ?_
  have hrep := fmpReply_replied (h.replying hs) (st := E_OK) (pl := []) (by decide) (by decide)
  obtain ⟨y, hy, -, -⟩ := hrep.answered
  obtain ⟨hgone, hother, hpend⟩ := sesClose_forgets (mhas_of_mget? hy) 0
  exact ⟨hgone, fun k hk => (hother k hk).trans (hrep.others k hk), hpend⟩

/-! ## Operations across the Corridor (01 R41; 16 R449) -/

/-- A request of a session as it crosses the Corridor, with the session's role and suite. -/
def crossing (x : Session) (r : FmpReq) (ses typ : Nat) : CrReq := { CrReq.zero with
  typ := typ, session := ses, reqId := r.id, suite := x.suite, role := x.role, origin := b2n x.udp, payload := r.payload }

/-- What an operation that the Foyer forwards does. -/
def Dev.forward (d : Dev) (x : Session) (r : FmpReq) (ses typ : Nat) (held : Bool) : Dev :=
  if held && d.mst == msHold then d.fmpReply ses r E_LOCK []
  else if !d.cor.hostUp then d.fmpReply ses r E_PD []
  else (d.fmpSent ses r.id).sendReq (crossing x r ses typ)

theorem opForward_eq {d : Dev} (h : d.asked ses x r) (hr : d.mod.romHold = false) (hrole : x.role ∈ (opRoles r.op).getD []) (typ : Nat) (held : Bool) :
    d.opForward ses r.id r.op typ held = d.forward x r ses typ held := op_permitted h hr hrole _

theorem forward_locked {d : Dev} (hm : d.mst = msHold) (typ : Nat) : d.forward x r ses typ true = d.fmpReply ses r E_LOCK [] :=
  if_pos (by rw [hm]; rfl)

theorem forward_unlocked {d : Dev} {held : Bool} (hm : held = false ∨ d.mst ≠ msHold) (typ : Nat) : d.forward x r ses typ held =
    if !d.cor.hostUp then d.fmpReply ses r E_PD [] else (d.fmpSent ses r.id).sendReq (crossing x r ses typ) :=
  if_neg (by rcases hm with hm | hm <;> simp [hm])

theorem onlyIn_fmpSent (d : Dev) (ses id : Nat) : OnlyIn [.fmp] noKey d (d.fmpSent ses id) := onlyIn_updSes ..

theorem fmpSent_busy {d : Dev} (h : d.asked ses x r) :
    ∃ y, mget? (d.fmpSent ses r.id).fmp.sessions ses = some y ∧ y.busy = [{ r with sent := true }] := by
  obtain ⟨hx, hb, -, -, -⟩ := h
  exact ⟨_, updSes_same hx _, by simp [hb]⟩

/-- A request that crosses the Corridor stays in progress. -/
theorem sendReq_forwarded {d : Dev} (h : d.asked ses x r) (typ : Nat) :
    d.forwarded ((d.fmpSent ses r.id).sendReq (crossing x r ses typ)) ses typ x r ∧
      OnlyIn [.fmp, .cor] noKey d ((d.fmpSent ses r.id).sendReq (crossing x r ses typ)) := by
  have hsent := onlyIn_fmpSent d ses r.id
  have hreq := OnlyIn.sendReq (onlyIn_refl [.cor] noKey (d.fmpSent ses r.id)) (crossing x r ses typ) false (by decide)
  have hcor := sendReq_cor_congr (hsent.cor_eq (by decide)) (crossing x r ses typ)
  obtain ⟨y, hy, hb⟩ := fmpSent_busy h
  exact ⟨⟨⟨y, by rw [hreq.fmp_eq (by decide)]; exact hy, hb⟩, congrArg CorrSt.reqs hcor, congrArg CorrSt.downQ hcor⟩,
    (hsent.mono (by decide) fun _ hk => hk).trans (hreq.mono (by decide) fun _ hk => hk)⟩

/-- Commands that forward an operation, each with the type of its message and whether HOLD refuses it. -/
def Forwards (s : State) (ses id : Nat) (q : Instr × Nat × Nat × Bool) : Prop :=
  exec q.1 s = s.upd fun d => d.opForward ses id q.2.1 q.2.2.1 q.2.2.2

theorem forward_answers {q : Instr × Nat × Nat × Bool} (h : s.dev.asked ses x r) (hs : x.txSeq < 2 ^ 61) (hr : s.dev.mod.romHold = false)
    (hop : r.op = q.2.1) (hrole : x.role ∈ (opRoles r.op).getD []) (hq : Forwards s ses r.id q) :
    (q.2.2.2 = true → s.dev.mst = msHold → Answers q.1 s fun u => u.answered ses r E_LOCK [] ∧
      (s.dev.foyerClean → OnlyIn [.fmp, .host, .eth, .fmem] carrierKey s.dev u)) ∧
    (q.2.2.2 = false ∨ s.dev.mst ≠ msHold → s.dev.cor.hostUp = false → Answers q.1 s fun u => u.answered ses r E_PD [] ∧
      (s.dev.foyerClean → OnlyIn [.fmp, .host, .eth, .fmem] carrierKey s.dev u)) ∧
    (q.2.2.2 = false ∨ s.dev.mst ≠ msHold → s.dev.cor.hostUp = true → Answers q.1 s fun u => s.dev.forwarded u ses q.2.2.1 x r ∧
      OnlyIn [.fmp, .cor] noKey s.dev u) := by
  obtain ⟨i, op, typ, held⟩ := q
  obtain rfl : r.op = op := hop
  have hrep {st : Nat} (hst : st ≠ E_BUSY) := (fmpReply_replied (pl := []) (h.replying hs) hst (by decide)).plain
  refine ⟨fun hheld hm => answers_of_upd hq ?_, fun hm hu => answers_of_upd hq ?_, fun hm hu => answers_of_upd hq ?_⟩
  · obtain rfl : held = true := hheld
    rw [opForward_eq h hr hrole, forward_locked hm]
    exact hrep (by decide)
  · rw [opForward_eq h hr hrole, forward_unlocked hm, hu]
    exact hrep (by decide)
  · rw [opForward_eq h hr hrole, forward_unlocked hm, hu]
    exact sendReq_forwarded h typ

/-- The operations that the Foyer forwards (16 R449; 02 R55). -/
noncomputable def forwardTable (ses id : Nat) : List (Instr × Nat × Nat × Bool) :=
  [(.fmpPointRead ses id, 0x10, 0x10, false), (.fmpPointWrite ses id, 0x11, 0x11, true), (.fmpForceSet ses id, 0x13, 0x13, true),
    (.fmpRegRead ses id, 0x20, 0x40, false), (.fmpRegWrite ses id, 0x21, 0x41, false), (.fmpMeshDown ses id, 0x40, 0x50, true)]

theorem forwardTable_forwards (s : State) (ses id : Nat) : ∀ q ∈ forwardTable ses id, Forwards s ses id q := by
  simp only [forwardTable, List.forall_mem_cons]
  exact ⟨rfl, rfl, rfl, rfl, rfl, rfl, fun _ h => absurd h List.not_mem_nil⟩

end

end Sys2Proof.Machine
end

section
/-! RESTART: the refusals, and the start of the field side that a session orders (02 R54, R56; 04 R117; 16 R449). -/

namespace Sys2Proof.Machine

/-! ## The commit gate closes as the field side restarts (04 R117) -/

theorem raiseNw_gate (d : Dev) (e : Ev) : (d.raiseNw e).nw.gate = d.nw.gate := by
  obtain ⟨_, _, _, h⟩ := sendUp_nw d (evMsg e)
  rw [Dev.raiseNw, h]

theorem setFl_gate (d : Dev) (f : Flt) (new : Nat) : (d.setFl f new).nw.gate = d.nw.gate := by
  by_cases h : d.fst f = new
  · rw [setFl_same h]
  · rw [setFl_moves h, (onlyIn_nwStat _).nw_eq (by decide), raiseNw_gate, put_nw]

theorem setHeld_gate (n : NewelSt) (f : Flt) (b : Bool) : (n.setHeld f b).gate = n.gate := by cases f <;> rfl
theorem setRetry_gate (n : NewelSt) (f : Flt) (b : Option Nat) : (n.setRetry f b).gate = n.gate := by cases f <;> rfl

theorem restartFl_gate (d : Dev) (f : Flt) : (d.restartFl f).nw.gate = d.nw.gate := by
  unfold Dev.restartFl
  split
  · rfl
  · rw [updNw_nw, setRetry_gate, setHeld_gate, setFl_gate, setFl_gate, (onlyIn_flReset d f).nw_eq (by decide)]

theorem fieldRestart_gate (d : Dev) : d.fieldRestart.nw.gate = false := by
  unfold Dev.fieldRestart Dev.bothFl
  rw [restartFl_gate, restartFl_gate, updNw_nw]

theorem fieldStart_gate (d : Dev) (row : Nat) (h : d.linkUp = true) : (d.fieldStart row).nw.gate = false := by
  rw [fieldStart_eq, startShown_linkUp, if_pos h]
  exact fieldRestart_gate _

theorem fieldStart_fmp (d : Dev) (row : Nat) : (d.fieldStart row).fmp = d.fmp := by
  have hs := (onlyIn_startShown d row).fmp_eq (by decide)
  rw [fieldStart_eq]
  split
  · exact ((onlyIn_fieldRestart _).fmp_eq (by decide)).trans hs
  · exact hs

/-! ## RESTART (16 R449) -/

theorem answered_congr {d e : Dev} {ses : Nat} {r : FmpReq} {st : Nat} {pl : List Byte} (h : d.answered ses r st pl) (hf : e.fmp = d.fmp) :
    e.answered ses r st pl := by
  unfold Dev.answered
  rw [hf]
  exact h

/-- What RESTART does with its request. -/
def Dev.fmpRestart (d : Dev) (ses : Nat) (r : FmpReq) : Dev :=
  let k := field r.payload 0 1
  if r.payload.length = 0 ∨ 2 < k then d.fmpReply ses r E_RANGE []
  else if !d.bit FY_MODSTATE_FIELDPWR then d.fmpReply ses r E_PD []
  else if d.mst = msHold ∨ d.mst = msService ∨ d.mst = msDegraded ∨ d.mst = msFailsafe then
    ((d.fmpReply ses r E_OK []).updMod fun m => { m with order := some k }).restartField
  else d.fmpReply ses r E_BUSY_SERVICE []

/-- The states in which RESTART may be ordered (02 R54). -/
def Dev.mayRestart (d : Dev) : Prop := d.mst = msHold ∨ d.mst = msService ∨ d.mst = msDegraded ∨ d.mst = msFailsafe

section
variable {s : State} {d : Dev} {ses : Nat} {x : Session} {r : FmpReq}

theorem fmpRestart_range (h : r.payload = [] ∨ 2 < field r.payload 0 1) : d.fmpRestart ses r = d.fmpReply ses r E_RANGE [] :=
  if_pos (by rcases h with h | h <;> simp [h])

theorem fmpRestart_valid (hp : r.payload ≠ []) (hk : field r.payload 0 1 ≤ 2) : d.fmpRestart ses r =
    if !d.bit FY_MODSTATE_FIELDPWR then d.fmpReply ses r E_PD []
    else if d.mst = msHold ∨ d.mst = msService ∨ d.mst = msDegraded ∨ d.mst = msFailsafe then
      ((d.fmpReply ses r E_OK []).updMod fun m => { m with order := some (field r.payload 0 1) }).restartField
    else d.fmpReply ses r E_BUSY_SERVICE [] :=
  if_neg (by
    have hl : r.payload.length ≠ 0 := fun h => hp (List.eq_nil_of_length_eq_zero h)
    omega)

theorem fmpRestart_unpowered (hp : r.payload ≠ []) (hk : field r.payload 0 1 ≤ 2) (hv : d.bit FY_MODSTATE_FIELDPWR = false) :
    d.fmpRestart ses r = d.fmpReply ses r E_PD [] := by
  rw [fmpRestart_valid hp hk, hv]
  exact if_pos rfl

theorem fmpRestart_busy (hp : r.payload ≠ []) (hk : field r.payload 0 1 ≤ 2) (hv : d.bit FY_MODSTATE_FIELDPWR = true) (hm : ¬d.mayRestart) :
    d.fmpRestart ses r = d.fmpReply ses r E_BUSY_SERVICE [] := by
  rw [fmpRestart_valid hp hk, hv]
  exact (if_neg Bool.false_ne_true).trans (if_neg hm)

theorem fmpRestart_ordered (hp : r.payload ≠ []) (hk : field r.payload 0 1 ≤ 2) (hv : d.bit FY_MODSTATE_FIELDPWR = true) (hm : d.mayRestart) :
    d.fmpRestart ses r = ((d.fmpReply ses r E_OK []).updMod fun m => { m with order := some (field r.payload 0 1) }).restartField := by
  rw [fmpRestart_valid hp hk, hv]
  exact (if_neg Bool.false_ne_true).trans (if_pos hm)

/-- An ordered restart: its reply, then the start of the field side. -/
theorem fmpRestart_starts (h : d.Replying ses r) (hr : d.mod.romHold = false) (hp : r.payload ≠ []) (hk : field r.payload 0 1 ≤ 2)
    (hv : d.bit FY_MODSTATE_FIELDPWR = true) (hm : d.mayRestart) :
    (d.fmpRestart ses r).answered ses r E_OK [] ∧ (d.fmpRestart ses r).mst = msSelftest ∧
      (d.fmpRestart ses r).mod.order = some (field r.payload 0 1) ∧ (d.fmpRestart ses r).mod.committed = false ∧
      (d.linkUp = true → (d.fmpRestart ses r).nw.modState = msSelftest ∧ (d.fmpRestart ses r).nw.gate = false) := by
  have hrep := fmpReply_replied h (st := E_OK) (pl := []) (by decide) (by decide)
  rw [fmpRestart_ordered hp hk hv hm]
  generalize d.fmpReply ses r E_OK [] = e at hrep ⊢
  have hf := hrep.carried.frame
  have hbit : e.bit FY_MODSTATE_FIELDPWR = true := (hf.bit_eq (by decide)).trans hv
  have hmst : e.mst = d.mst := hf.get_eq (by decide)
  have hrom : e.mod.romHold = false := by rw [hf.mod_eq (by decide)]; exact hr
  have hlink : e.linkUp = d.linkUp := linkUp_of_cor (hf.cor_eq (by decide))
  have hmay : e.mst = msHold ∨ e.mst = msService ∨ e.mst = msDegraded ∨ e.mst = msFailsafe := by rw [hmst]; exact hm
  rw [restartField_starts _ (by rw [updMod_bit]; exact hbit) (by rw [Dev.mst, updMod_get]; exact hmay) (by rw [updMod_mod]; exact hrom)]
  have hup : (e.updMod fun m => { m with order := some (field r.payload 0 1) }).linkUp = d.linkUp := (updMod_linkUp ..).trans hlink
  refine ⟨answered_congr hrep.answered ((fieldStart_fmp ..).trans (updMod_fmp ..)), fieldStart_mst _ 14, ?_, ?_, fun hl =>
    ⟨?_, fieldStart_gate _ _ (hup.trans hl)⟩⟩
  · rw [fieldStart_mod, Dev.startNoted, updMod_mod, updMod_mod]
  · rw [fieldStart_mod, Dev.startNoted, updMod_mod]
  · rw [fieldStart_modState, hup, hl]; exact if_pos rfl

theorem restart_answers (h : s.dev.asked ses x r) (hr : s.dev.mod.romHold = false) (hop : r.op = 0x70) (hrole : x.role ∈ (opRoles r.op).getD [])
    {P : Dev → Prop} (hP : P (s.dev.fmpRestart ses r)) : Answers (.restart ses r.id) s P := performed_answers h hr hop hrole rfl hP

end

end Sys2Proof.Machine
end

section
/-! A step of system time on an operator's order: the base, the epoch, the alarms it passes, its source, and the RTC (15 R394, R395, R403,
R412). -/

namespace Sys2Proof.Machine

/-! ## System time over its base (15 R394) -/

/-- What runs on a clock, beside the alarms and the RTC. -/
def TimeSt.motion (t : TimeSt) : TimeSt := { t with alarms := [], rtcCnt := 0, rtcSub := 0 }

/-- How far system time has run from its base at a raw count, in units of 2^-32 ns. -/
def Dev.drift (d : Dev) (raw : Nat) : Int :=
  ((raw : Int) - d.time.r0) * 4 * (1099511627776 + d.rho) / 1099511627776 * 4294967296 +
    ((raw : Int) - d.time.r0) * 4 * (1099511627776 + d.rho) / 256 % 4294967296

theorem timeAt_eq (d : Dev) (raw : Nat) : d.timeAt raw = (d.time.bNs : Int) * 4294967296 + d.time.bFrac + d.drift raw := by
  unfold Dev.timeAt Dev.drift
  ring

theorem units_join {u : Int} (h0 : 0 ≤ u) (h1 : u < 2 ^ 96) : (unitsNs u : Int) * 4294967296 + unitsFrac u = u := by
  unfold unitsNs unitsFrac
  omega

theorem timeNow_congr {d e : Dev} (hm : e.time.motion = d.time.motion) (hr : e.rd FY_TBRATE = d.rd FY_TBRATE) : e.timeNow = d.timeNow := by
  have hraw : e.time.raw = d.time.raw := show e.time.motion.raw = d.time.motion.raw by rw [hm]
  have hr0 : e.time.r0 = d.time.r0 := show e.time.motion.r0 = d.time.motion.r0 by rw [hm]
  have hns : e.time.bNs = d.time.bNs := show e.time.motion.bNs = d.time.motion.bNs by rw [hm]
  have hfrac : e.time.bFrac = d.time.bFrac := show e.time.motion.bFrac = d.time.motion.bFrac by rw [hm]
  rw [Dev.timeNow, Dev.timeNow, timeAt_eq, timeAt_eq, Dev.drift, Dev.drift, Dev.rho, Dev.rho, hr, hraw, hr0, hns, hfrac]

theorem clock_time (d : Dev) (now : Nat) : (d.clock now).time = { d.time with raw := max d.time.raw now } := rfl

/-! ## The step (15 R395, R403) -/

/-- The base, the epoch and the marks of a step. -/
def Dev.stepNoted (d : Dev) (target : Int) : Dev :=
  ((d.setBase ((d.time.bNs : Int) * 4294967296 + d.time.bFrac + (target - d.timeNow))).incWrap FY_TBSTAT_EPOCH).updTime fun t =>
    { t with stepped := true, integ := 0 }

/-- The step is told. -/
def Dev.stepTold (d : Dev) (target : Int) (cause : Nat) : Dev :=
  (d.stepNoted target).raiseFy (.mk' .fyTimeStep [(target - d.timeNow) / 4294967296, (d.stepNoted target).get FY_TBSTAT_EPOCH, cause])

theorem stepTo_eq (d : Dev) (target : Int) (cause : Nat) : d.stepTo target cause =
    if d.timeNow < target then (List.range 4).foldl (fun d n => d.talTry n true) (d.stepTold target cause) else d.stepTold target cause := rfl

theorem stepNoted_time (d : Dev) (target : Int) : (d.stepNoted target).time = { d.time with
    bNs := unitsNs ((d.time.bNs : Int) * 4294967296 + d.time.bFrac + (target - d.timeNow))
    bFrac := unitsFrac ((d.time.bNs : Int) * 4294967296 + d.time.bFrac + (target - d.timeNow)), stepped := true, integ := 0 } := by
  rw [Dev.stepNoted, updTime_time, incWrap_time, Dev.setBase, updTime_time]

theorem onlyIn_stepNoted (d : Dev) (target : Int) : OnlyIn [.time] (fun k => k == FY_TBSTAT) d (d.stepNoted target) :=
  ((((onlyIn_refl ..).updTime (e := d) _ (by decide)).put _ (by decide)).updTime _ (by decide))

theorem stepNoted_timeNow {d : Dev} {target : Int} (h0 : 0 ≤ (d.time.bNs : Int) * 4294967296 + d.time.bFrac + (target - d.timeNow))
    (h1 : (d.time.bNs : Int) * 4294967296 + d.time.bFrac + (target - d.timeNow) < 2 ^ 96) : (d.stepNoted target).timeNow = target := by
  have hrho : (d.stepNoted target).rho = d.rho := congrArg BitVec.toInt ((onlyIn_stepNoted d target).2 FY_TBRATE (by decide))
  have hdrift : (d.stepNoted target).drift d.time.raw = d.drift d.time.raw := by
    rw [Dev.drift, stepNoted_time, hrho]
    rfl
  have hnow : d.timeNow = (d.time.bNs : Int) * 4294967296 + d.time.bFrac + d.drift d.time.raw := timeAt_eq d d.time.raw
  have hnew : (d.stepNoted target).timeNow = (unitsNs ((d.time.bNs : Int) * 4294967296 + d.time.bFrac + (target - d.timeNow)) : Int) * 4294967296 +
      unitsFrac ((d.time.bNs : Int) * 4294967296 + d.time.bFrac + (target - d.timeNow)) + (d.stepNoted target).drift d.time.raw := by
    rw [Dev.timeNow, timeAt_eq, stepNoted_time]
  rw [hnew, units_join h0 h1, hdrift]
  omega

theorem stepNoted_get (d : Dev) (target : Int) {x : Fld} (hx : x.ok = true) (ha : FY_TBSTAT_EPOCH.apart x = true) :
    (d.stepNoted target).get x = d.get x := by
  rw [Dev.stepNoted, updTime_get, Dev.incWrap, get_put_other _ _ _ _ rfl hx ha, Dev.setBase, updTime_get]

theorem stepNoted_epoch (d : Dev) (target : Int) : (d.stepNoted target).get FY_TBSTAT_EPOCH = (d.get FY_TBSTAT_EPOCH + 1) % 65536 := by
  rw [Dev.stepNoted, updTime_get, Dev.incWrap, get_put_mod _ _ _ rfl, Dev.setBase, updTime_get]
  rfl

/-! ## Alarms that a step passes (15 R408) -/

/-- Registers of the alarms and of events. -/
def alarmKey (k : Nat) : Bool := eventKey k || keysIn [(FY_TALCMPLO, 16)] k

theorem tal_key {k n : Nat} (hn : n < 4) (hl : FY_TALCMPLO ≤ k) (hu : k < FY_TALCMPLO + 16) : alarmKey (k + 16 * n) = true := by
  have hk : FY_TALCMPLO ≤ k + 16 * n := by omega
  have ht : k + 16 * n < FY_TALCMPLO + 4 * 16 := by omega
  simp [alarmKey, keysIn, hk, ht]

/-- What telling of a step may change: alarms and events. -/
structure AlarmKept (d e : Dev) : Prop where
  frame : OnlyIn [.arc, .time] alarmKey d e
  motion : e.time.motion = d.time.motion

theorem AlarmKept.refl (d : Dev) : AlarmKept d d := ⟨onlyIn_refl .., rfl⟩

theorem AlarmKept.trans {d e f : Dev} (h : AlarmKept d e) (k : AlarmKept e f) : AlarmKept d f := ⟨h.frame.trans k.frame, k.motion.trans h.motion⟩

theorem AlarmKept.ite {c : Prop} [Decidable c] {d e f : Dev} (h : AlarmKept d e) (k : AlarmKept d f) : AlarmKept d (if c then e else f) := by
  split <;> assumption

theorem AlarmKept.wr {d e : Dev} (h : AlarmKept d e) {k : Nat} (v : W32) (hk : alarmKey k = true) : AlarmKept d (e.wr k v) :=
  ⟨h.frame.wr v hk, h.motion⟩

theorem AlarmKept.put {d e : Dev} (h : AlarmKept d e) {x : Fld} (v : Nat) (hk : alarmKey x.key = true) : AlarmKept d (e.put x v) := h.wr _ hk

theorem AlarmKept.updTime {d e : Dev} (h : AlarmKept d e) {g : TimeSt → TimeSt} (hg : (g e.time).motion = e.time.motion) :
    AlarmKept d (e.updTime g) := ⟨h.frame.updTime g (by decide), hg.trans h.motion⟩

theorem AlarmKept.raise {d e : Dev} (h : AlarmKept d e) {ev : Ev} (hs : ∀ n ∈ ev.sources, n < 128) (hr : ev.region < 8) :
    AlarmKept d (e.raiseFy ev) := by
  have hev : OnlyIn [.arc] alarmKey e (e.raiseFy ev) := (onlyIn_raiseFy e ev hs hr).mono (by decide) fun k hk => by
    rw [orEvent_nil]
    exact (Bool.or_eq_false_iff.1 hk).1
  exact h.trans ⟨hev.mono (by decide) fun _ hk => hk, by rw [hev.time_eq (by decide)]⟩

theorem AlarmKept.talTry {d e : Dev} (h : AlarmKept d e) {n : Nat} (hn : n < 4) (late : Bool) : AlarmKept d (e.talTry n late) := by
  have hctl : alarmKey (FY_TALCTL + 16 * n) = true := tal_key hn (by decide) (by decide)
  have hstat : alarmKey (FY_TALSTAT + 16 * n) = true := tal_key hn (by decide) (by decide)
  have hlo : alarmKey (FY_TALCMPLO + 16 * n) = true := tal_key hn (by decide) (by decide)
  have hhi : alarmKey (FY_TALCMPHI + 16 * n) = true := tal_key hn (by decide) (by decide)
  have h1 : ∀ a, AlarmKept d ((e.put (tal FY_TALSTAT_FIRED n) 1).updTime fun t => { t with alarms := mput t.alarms n a }) := fun a =>
    (h.put 1 hstat).updTime rfl
  have h2 : ∀ a c, AlarmKept d (if late then
      (((e.put (tal FY_TALSTAT_FIRED n) 1).updTime fun t => { t with alarms := mput t.alarms n a }).put (tal FY_TALSTAT_LATE n) 1).put
        (tal FY_TALSTAT_SKIPPED n) c
      else ((e.put (tal FY_TALSTAT_FIRED n) 1).updTime fun t => { t with alarms := mput t.alarms n a }).put (tal FY_TALSTAT_LATE n) 0) := fun a c =>
    .ite (((h1 a).put 1 hstat).put c hstat) ((h1 a).put 0 hstat)
  unfold Dev.talTry
  refine .ite h (AlarmKept.raise ?_ ?_ (show 1 < 8 by decide))
  · exact .ite ((h2 _ _).put 0 hctl) (((h2 _ _).wr _ hlo).wr _ hhi)
  · intro m hm
    have hm' : m = 60 + ((n : Int)).toNat := by simpa [Ev.sources] using hm
    omega

end Sys2Proof.Machine
end

section
/-! TIME_STEP and TIME_SET: the refusals, and the step on an operator's order with its reply (15 R403; 16 R451). -/

namespace Sys2Proof.Machine

/-! ## The step and the alarms it passes -/

theorem AlarmKept.foldl {l : List Nat} (hl : ∀ n ∈ l, n < 4) (late : Bool) : ∀ d : Dev, AlarmKept d (l.foldl (fun d n => d.talTry n late) d) := by
  induction l with
  | nil => exact .refl
  | cons n t ih => exact fun d => ((AlarmKept.refl d).talTry (hl n (by simp)) late).trans (ih (fun m hm => hl m (by simp [hm])) _)

theorem alarmKept_stepTo (d : Dev) (target : Int) (cause : Nat) : AlarmKept (d.stepNoted target) (d.stepTo target cause) := by
  have ht : AlarmKept (d.stepNoted target) (d.stepTold target cause) := (AlarmKept.refl _).raise (sources_lt .fyTimeStep _ (by decide)) (hi_lt .fyTimeStep)
  rw [stepTo_eq]
  exact .ite (ht.trans (.foldl (by decide) true _)) ht

/-! ## The source of time (15 R403) -/

/-- The source and its trust, as they are shown. -/
def Dev.sourceShown (d : Dev) (src : Nat) : Dev := (d.put FY_TBSTAT_SOURCE src).put FY_TBSTAT_TRUST (b2n (src != 0))

theorem setTimeSource_eq (d : Dev) (src : Nat) : d.setTimeSource src = if d.bit FY_TBSTAT_TRUST = (src != 0) then d.sourceShown src
    else ((d.sourceShown src).raiseFy (.mk' .fyTimeTrust [b2n (src != 0), src])).statusNow true := rfl

theorem onlyIn_setTimeSource (d : Dev) (src : Nat) : OnlyIn [.arc, .cor] (orEvent [FY_TBSTAT]) d (d.setTimeSource src) := by
  have hs : OnlyIn [.arc, .cor] (orEvent [FY_TBSTAT]) d (d.sourceShown src) := ((onlyIn_refl ..).put _ (by decide)).put _ (by decide)
  rw [setTimeSource_eq]
  exact .ite hs ((hs.raiseFy_mk _ (by decide) (by decide)).statusNow_host (by decide))

theorem setTimeSource_get (d : Dev) (src : Nat) {x : Fld} (hx : evReg x.key = false) : (d.setTimeSource src).get x = (d.sourceShown src).get x := by
  rw [setTimeSource_eq]
  split
  · rfl
  · rw [get_of_regs (statusNow_host_regs _), raiseFy_mk_get _ _ _ _ (by decide) hx]

theorem sourceShown_get (d : Dev) (src : Nat) {x : Fld} (hx : x.ok = true) (hs : FY_TBSTAT_SOURCE.apart x = true) (ht : FY_TBSTAT_TRUST.apart x = true) :
    (d.sourceShown src).get x = d.get x := (get_put_other _ _ _ _ rfl hx ht).trans (get_put_other _ _ _ _ rfl hx hs)

theorem sourceShown_source (d : Dev) {src : Nat} (h : src < 8) : (d.sourceShown src).get FY_TBSTAT_SOURCE = src :=
  (get_put_other _ _ _ _ rfl rfl rfl).trans (get_put_same _ _ _ rfl h)

theorem sourceShown_trust (d : Dev) {src : Nat} (h : src ≠ 0) : (d.sourceShown src).bit FY_TBSTAT_TRUST = true := by
  have hb : b2n (src != 0) = 1 := by rw [bne_iff_ne.2 h]; rfl
  rw [Dev.sourceShown, hb, bit_put_same _ _ _ rfl (by decide)]
  rfl

/-- The operator is a source of time that none but PTP outranks. -/
theorem timeTrusted_operator (d : Dev) : OnlyIn [.arc, .cor] (orEvent [FY_TBSTAT]) d (d.timeTrusted 4) ∧
    (d.timeTrusted 4).get FY_TBSTAT_EPOCH = d.get FY_TBSTAT_EPOCH ∧ (d.timeTrusted 4).get FY_TBSTAT_SOURCE = max (d.get FY_TBSTAT_SOURCE) 4 ∧
    (d.bit FY_TBSTAT_TRUST = true ∨ d.get FY_TBSTAT_SOURCE < 4 → (d.timeTrusted 4).bit FY_TBSTAT_TRUST = true) := by
  by_cases h : d.get FY_TBSTAT_SOURCE < 4
  · have hset : d.timeTrusted 4 = d.setTimeSource 4 := if_pos h
    have htrust : (d.setTimeSource 4).bit FY_TBSTAT_TRUST = true :=
      (bit_of_get (setTimeSource_get d 4 rfl)).trans (sourceShown_trust d (by decide))
    rw [hset, setTimeSource_get d 4 rfl, setTimeSource_get d 4 rfl, sourceShown_get d 4 rfl rfl rfl, sourceShown_source d (by decide),
      Nat.max_eq_right (by omega)]
    exact ⟨onlyIn_setTimeSource d 4, rfl, rfl, fun _ => htrust⟩
  · have hset : d.timeTrusted 4 = d := if_neg h
    rw [hset, Nat.max_eq_left (by omega)]
    exact ⟨onlyIn_refl .., rfl, rfl, fun ht => ht.resolve_right h⟩

/-! ## The RTC follows (15 R412) -/

theorem bkWrite_time (d : Dev) (i : Nat) (v : W32) : (d.bkWrite i v).time = d.time := by
  rw [Dev.bkWrite, wr_time, wr_time]

theorem rtcWrite_time (d : Dev) : d.rtcWrite.time = { d.time with
    rtcCnt := d.nowNs / 1000000000 % 2 ^ 48, rtcSub := d.nowNs % 1000000000 * 32768 / 1000000000 } := by
  unfold Dev.rtcWrite
  dsimp only
  split
  · rw [put_time, put_time]
    split <;> simp only [bkWrite_time, updTime_time]
  · split <;> simp only [bkWrite_time, updTime_time]

theorem rtcWrite_motion (d : Dev) : d.rtcWrite.time.motion = d.time.motion := by
  rw [rtcWrite_time]
  rfl

theorem rtcWrite_osf {d : Dev} (h : d.bit FY_TBSTAT_TRUST = true) : d.rtcWrite.bit FY_BKSTAT_OSF = false := by
  obtain ⟨e, he⟩ : ∃ e : Dev, d.rtcWrite = (e.put FY_BKSTAT_OSF 0).put FY_BKSTAT_BKLOST 0 := ⟨_, if_pos h⟩
  rw [he, bit_put_other _ _ _ _ rfl rfl rfl, bit_put_same _ _ _ rfl (by decide)]
  rfl

end Sys2Proof.Machine
end

section
/-! TIME_STEP and TIME_SET as operations: refused, or answered with the epoch of the step (15 R403; 16 R451). -/

namespace Sys2Proof.Machine

/-- System time stands at a value after a step by the operator. -/
structure SteppedTo (d u : Dev) (target : Int) : Prop where
  now : u.timeNow = target
  epoch : u.get FY_TBSTAT_EPOCH = (d.get FY_TBSTAT_EPOCH + 1) % 65536
  source : u.get FY_TBSTAT_SOURCE = max (d.get FY_TBSTAT_SOURCE) 4
  stepped : u.time.stepped = true
  integ : u.time.integ = 0
  rate : u.rd FY_TBRATE = d.rd FY_TBRATE
  osf : d.bit FY_TBSTAT_TRUST = true ∨ d.get FY_TBSTAT_SOURCE < 4 → u.bit FY_BKSTAT_OSF = false

/-- What TIME_STEP and TIME_SET do where they are not refused. -/
def Dev.operatorStep (d : Dev) (target : Int) : Dev := ((d.stepTo target 1).timeTrusted 4).rtcWrite

theorem operatorStep_fmp (d : Dev) (target : Int) : (d.operatorStep target).fmp = d.fmp :=
  (((onlyIn_rtcWrite _).fmp_eq (by decide)).trans ((timeTrusted_operator _).1.fmp_eq (by decide))).trans
    (((alarmKept_stepTo d target 1).frame.fmp_eq (by decide)).trans ((onlyIn_stepNoted d target).fmp_eq (by decide)))

theorem operatorStep_steps {d : Dev} {target : Int} (h0 : 0 ≤ (d.time.bNs : Int) * 4294967296 + d.time.bFrac + (target - d.timeNow))
    (h1 : (d.time.bNs : Int) * 4294967296 + d.time.bFrac + (target - d.timeNow) < 2 ^ 96) : SteppedTo d (d.operatorStep target) target := by
  have hnow := stepNoted_timeNow h0 h1
  have htime := stepNoted_time d target
  have hepoch := stepNoted_epoch d target
  have hsource : (d.stepNoted target).get FY_TBSTAT_SOURCE = d.get FY_TBSTAT_SOURCE := stepNoted_get d target rfl rfl
  have htrust : (d.stepNoted target).bit FY_TBSTAT_TRUST = d.bit FY_TBSTAT_TRUST := bit_of_get (stepNoted_get d target rfl rfl)
  have hrate := (onlyIn_stepNoted d target).2 FY_TBRATE (by decide)
  have ha := alarmKept_stepTo d target 1
  have hstat {x : Fld} (hx : alarmKey x.key = false) := ha.frame.get_eq hx
  obtain ⟨hframe, hsame, hmax, htrusted⟩ := timeTrusted_operator (d.stepTo target 1)
  have hrtc := onlyIn_rtcWrite ((d.stepTo target 1).timeTrusted 4)
  have hmotion : (d.operatorStep target).time.motion = (d.stepNoted target).time.motion := by
    rw [Dev.operatorStep, rtcWrite_motion, hframe.time_eq (by decide), ha.motion]
  have hrd : (d.operatorStep target).rd FY_TBRATE = (d.stepNoted target).rd FY_TBRATE :=
    ((hrtc.2 _ (by decide)).trans (hframe.2 _ (by decide))).trans (ha.frame.2 _ (by decide))
  refine ⟨(timeNow_congr hmotion hrd).trans hnow, ?_, ?_, ?_, ?_, hrd.trans hrate, fun ht => rtcWrite_osf (htrusted ?_)⟩
  · rw [Dev.operatorStep, hrtc.get_eq (by decide), hsame, hstat (by decide), hepoch]
  · rw [Dev.operatorStep, hrtc.get_eq (by decide), hmax, hstat (by decide), hsource]
  · show (d.operatorStep target).time.motion.stepped = true
    rw [hmotion, htime]
    rfl
  · show (d.operatorStep target).time.motion.integ = 0
    rw [hmotion, htime]
    rfl
  · rw [hstat (by decide), hsource, bit_of_get (hstat (by decide)), htrust]
    exact ht

theorem fmpTime_locked {d : Dev} (hs : d.servo = svLocked) (target : Int) : d.fmpTime 1 false target = (d, E_BUSY_SERVICE, []) := by
  have hc : d.timeCommand 1 false target = (d, E_BUSY_SERVICE) := (if_neg (by decide)).trans (if_pos ⟨hs, rfl⟩)
  rw [Dev.fmpTime, hc]
  rfl

theorem fmpTime_steps {d : Dev} {force : Bool} (hs : d.servo ≠ svLocked ∨ force = true) (target : Int) :
    d.fmpTime 1 force target = (d.operatorStep target, E_OK, le 2 ((d.operatorStep target).get FY_TBSTAT_EPOCH) ++ [0, 0]) := by
  have hc : d.timeCommand 1 force target = (d.operatorStep target, E_OK) :=
    (if_neg (by decide)).trans (if_neg fun h => by rcases hs with hs | hs <;> simp [h.1, hs] at h hs)
  rw [Dev.fmpTime, hc]
  rfl

section
variable {s : State} {ses now : Nat} {x : Session} {r : FmpReq}

/-- A command that gives system time a value, from a payload of a length. -/
def StepsTime (s : State) (i : Instr) (now ses : Nat) (r : FmpReq) (len : Nat) (target : Int) : Prop :=
  ∃ g, exec i s = s.upd (fun d => (d.clock now).op ses r.id r.op g) ∧ ∀ x, g x r (s.dev.clock now) =
    let q := if r.payload.length ≠ len then opFail (s.dev.clock now) E_RANGE else (s.dev.clock now).fmpTime x.role (bitOf r.flags 1) target
    q.1.fmpReply ses r q.2.1 q.2.2

theorem stepsTime_performs {i : Instr} {len : Nat} {target : Int} (h : s.dev.asked ses x r) (hr : s.dev.mod.romHold = false)
    (hrole : x.role ∈ (opRoles r.op).getD []) (hi : StepsTime s i now ses r len target) {q : OpRes}
    (hq : (if r.payload.length ≠ len then opFail (s.dev.clock now) E_RANGE
      else (s.dev.clock now).fmpTime x.role (bitOf r.flags 1) target) = q) {P : Dev → Prop} (hP : P (q.1.fmpReply ses r q.2.1 q.2.2)) :
    Answers i s P := by
  obtain ⟨g, hx, hg⟩ := hi
  refine answers_of_upd hx ?_
  rw [op_permitted (h.congr (e := s.dev.clock now) rfl rfl) hr hrole, hg, hq]
  exact hP

theorem clock_replying (h : s.dev.asked ses x r) (hs : x.txSeq < 2 ^ 61) : (s.dev.clock now).Replying ses r := (h.replying hs).of_fmp rfl

theorem stepTime_range {i : Instr} {len : Nat} {target : Int} (h : s.dev.asked ses x r) (hs : x.txSeq < 2 ^ 61) (hr : s.dev.mod.romHold = false)
    (hrole : x.role ∈ (opRoles r.op).getD []) (hi : StepsTime s i now ses r len target) (hl : r.payload.length ≠ len) :
    Answers i s fun u => u.answered ses r E_RANGE [] :=
  stepsTime_performs (q := (s.dev.clock now, E_RANGE, [])) h hr hrole hi (if_pos hl)
    (fmpReply_replied (st := E_RANGE) (pl := []) (clock_replying h hs) (by decide) (by decide)).answered

theorem stepTime_locked {i : Instr} {len : Nat} {target : Int} (h : s.dev.asked ses x r) (hs : x.txSeq < 2 ^ 61) (hr : s.dev.mod.romHold = false)
    (hrole : x.role ∈ (opRoles r.op).getD []) (hone : x.role = 1) (hi : StepsTime s i now ses r len target) (hl : r.payload.length = len)
    (hsv : s.dev.servo = svLocked) (hf : bitOf r.flags 1 = false) : Answers i s fun u => u.answered ses r E_BUSY_SERVICE [] ∧
      u.time = { s.dev.time with raw := max s.dev.time.raw now } := by
  have hrep := fmpReply_replied (clock_replying (now := now) h hs) (st := E_BUSY_SERVICE) (pl := []) (by decide) (by decide)
  refine stepsTime_performs (q := (s.dev.clock now, E_BUSY_SERVICE, [])) h hr hrole hi ((if_neg (not_not_intro hl)).trans ?_)
    ⟨hrep.answered, (hrep.carried.frame.time_eq (by decide)).trans (clock_time s.dev now)⟩
  rw [hone, hf]
  exact fmpTime_locked (d := s.dev.clock now) hsv target

/-- The count that a command carries leaves the registers. -/
theorem SteppedTo.of_clock {d u : Dev} {target : Int} (h : SteppedTo (d.clock now) u target) : SteppedTo d u target := by
  obtain ⟨hnow, hepoch, hsource, hstepped, hinteg, hrate, hosf⟩ := h
  rw [Dev.clock, updTime_get] at hepoch hsource
  rw [Dev.clock, updTime_rd] at hrate
  rw [Dev.clock, updTime_bit, updTime_get] at hosf
  exact ⟨hnow, hepoch, hsource, hstepped, hinteg, hrate, hosf⟩

/-- A reply leaves the step as it is. -/
theorem SteppedTo.replied {d e u : Dev} {target : Int} (h : SteppedTo d e target) (k : Carried e u) : SteppedTo d u target := by
  have hf := k.frame
  have ht : u.time = e.time := hf.time_eq (by decide)
  obtain ⟨hnow, hepoch, hsource, hstepped, hinteg, hrate, hosf⟩ := h
  refine ⟨(timeNow_congr (congrArg TimeSt.motion ht) (hf.2 _ (by decide))).trans hnow, (hf.get_eq (by decide)).trans hepoch,
    (hf.get_eq (by decide)).trans hsource, ?_, ?_, (hf.2 _ (by decide)).trans hrate, fun hd => (hf.bit_eq (by decide)).trans (hosf hd)⟩
  · rw [ht]; exact hstepped
  · rw [ht]; exact hinteg

theorem stepTime_steps {i : Instr} {len : Nat} {target : Int} (h : s.dev.asked ses x r) (hs : x.txSeq < 2 ^ 61) (hr : s.dev.mod.romHold = false)
    (hrole : x.role ∈ (opRoles r.op).getD []) (hone : x.role = 1) (hi : StepsTime s i now ses r len target) (hl : r.payload.length = len)
    (hsv : s.dev.servo ≠ svLocked ∨ bitOf r.flags 1 = true)
    (h0 : 0 ≤ (s.dev.time.bNs : Int) * 4294967296 + s.dev.time.bFrac + (target - s.dev.timeAt (max s.dev.time.raw now)))
    (h1 : (s.dev.time.bNs : Int) * 4294967296 + s.dev.time.bFrac + (target - s.dev.timeAt (max s.dev.time.raw now)) < 2 ^ 96) :
    Answers i s fun u => u.answered ses r E_OK (le 2 ((s.dev.get FY_TBSTAT_EPOCH + 1) % 65536) ++ [0, 0]) ∧ SteppedTo s.dev u target := by
  have hstep : SteppedTo s.dev ((s.dev.clock now).operatorStep target) target := (operatorStep_steps (d := s.dev.clock now) h0 h1).of_clock
  have hrep := fmpReply_replied ((clock_replying (now := now) h hs).of_fmp (operatorStep_fmp (s.dev.clock now) target)) (st := E_OK)
    (pl := le 2 ((s.dev.get FY_TBSTAT_EPOCH + 1) % 65536) ++ [0, 0]) (by decide) (by rw [List.length_append, le_length]; decide)
  refine stepsTime_performs (q := ((s.dev.clock now).operatorStep target, E_OK, le 2 ((s.dev.get FY_TBSTAT_EPOCH + 1) % 65536) ++ [0, 0])) h hr
    hrole hi ((if_neg (not_not_intro hl)).trans ?_) ⟨hrep.answered, hstep.replied hrep.carried⟩
  rw [hone, fmpTime_steps (d := s.dev.clock now) hsv, hstep.epoch]

end

end Sys2Proof.Machine
end

section
/-! O56: the operations of the message protocol by role and path (02 R55; 05 R132; 15 R403; 16 R448 to R453). -/

namespace Sys2Proof.Machine

section
variable {s : State} {ses now : Nat} {x : Session} {r : FmpReq}

/-! ## Operations that leave everything but their reply -/

theorem fmpStatus_eq (d : Dev) : d.fmpStatus = (d, E_OK,
    le 4 (d.fyPeek FY_MODSTATE).toNat ++ le 4 (d.fyPeek FY_NWSTAT).toNat ++ le 4 (d.fyPeek FY_TBSTAT).toNat) := by
  rw [Dev.fmpStatus, List.flatMap_cons, List.flatMap_cons, List.flatMap_cons, List.flatMap_nil, List.append_nil, List.append_assoc]

/-- An operation that the Foyer performs alone, and that changes nothing. -/
theorem local_answers {i : Instr} {op st : Nat} {pl : List Byte} {f : Session → FmpReq → Dev → OpRes} (h : s.dev.asked ses x r)
    (hs : x.txSeq < 2 ^ 61) (hr : s.dev.mod.romHold = false) (hop : r.op = op) (hrole : x.role ∈ (opRoles r.op).getD [])
    (hi : exec i s = s.upd fun d => d.opLocal ses r.id op f) (hf : f x r s.dev = (s.dev, st, pl)) (hst : st ≠ E_BUSY)
    (hl : pl.length < 2 ^ 61) : Answers i s fun u => u.answered ses r st pl ∧
      (s.dev.foyerClean → OnlyIn [.fmp, .host, .eth, .fmem] carrierKey s.dev u) := by
  refine plain_answers h hs hr hop hrole hi ?_ hst hl
  rw [hf]

theorem lregRead_answers {st : Nat} {pl : List Byte} (h : s.dev.asked ses x r) (hs : x.txSeq < 2 ^ 61) (hr : s.dev.mod.romHold = false)
    (hop : r.op = 0x22) (hrole : x.role ∈ (opRoles r.op).getD []) (hf : s.dev.lregRead r.payload = (s.dev, st, pl)) (hst : st ≠ E_BUSY)
    (hl : pl.length < 2 ^ 61) : Answers (.lregRead ses r.id) s fun u => u.answered ses r st pl ∧
      (s.dev.foyerClean → OnlyIn [.fmp, .host, .eth, .fmem] carrierKey s.dev u) := local_answers h hs hr hop hrole rfl hf hst hl

/-- RESTART where it does no more than answer. -/
theorem restart_plain {st : Nat} (h : s.dev.asked ses x r) (hs : x.txSeq < 2 ^ 61) (hr : s.dev.mod.romHold = false) (hop : r.op = 0x70)
    (hrole : x.role ∈ (opRoles r.op).getD []) (hg : s.dev.fmpRestart ses r = s.dev.fmpReply ses r st []) (hst : st ≠ E_BUSY) :
    Answers (.restart ses r.id) s fun u => u.answered ses r st [] ∧
      (s.dev.foyerClean → OnlyIn [.fmp, .host, .eth, .fmem] carrierKey s.dev u) := by
  refine restart_answers h hr hop hrole ?_
  rw [hg]
  exact (fmpReply_replied (h.replying hs) hst (by decide)).plain

/-! ## The two time commands -/

/-- The time commands, each with its operation, the length of its payload and the value it gives system time. -/
noncomputable def timeTable (d : Dev) (now ses id : Nat) (p : List Byte) : List (Instr × Nat × Nat × Int) :=
  [(.timeStep now ses id, 0x30, 8, d.timeAt (max d.time.raw now) + signed 64 (field p 0 8) * 4294967296),
    (.timeSet now ses id, 0x31, 12, (field p 0 8 : Int) * 4294967296 + (field p 8 4 : Nat))]

theorem timeStep_steps (hop : r.op = 0x30) : StepsTime s (.timeStep now ses r.id) now ses r 8
    (s.dev.timeAt (max s.dev.time.raw now) + signed 64 (field r.payload 0 8) * 4294967296) := by
  unfold StepsTime
  rw [hop]
  exact ⟨_, rfl, fun _ => rfl⟩

theorem timeSet_steps (hop : r.op = 0x31) : StepsTime s (.timeSet now ses r.id) now ses r 12
    ((field r.payload 0 8 : Int) * 4294967296 + (field r.payload 8 4 : Nat)) := by
  unfold StepsTime
  rw [hop]
  exact ⟨_, rfl, fun _ => rfl⟩

theorem timeTable_steps (q : Instr × Nat × Nat × Int) (hq : q ∈ timeTable s.dev now ses r.id r.payload) (hop : r.op = q.2.1) :
    StepsTime s q.1 now ses r q.2.2.1 q.2.2.2 ∧ (opRoles r.op).getD [] = [1] := by
  simp only [timeTable, List.mem_cons, List.not_mem_nil, or_false] at hq
  rcases hq with rfl | rfl
  · exact ⟨timeStep_steps hop, by rw [hop]; rfl⟩
  · exact ⟨timeSet_steps hop, by rw [hop]; rfl⟩

end

/-- Settles O56: an operation finds its one request; the responder and the roles turn it away, a local one replies, a forwarded one crosses, and
every record of a reply keeps to its carriers. -/
theorem operationsAnswerByRoleAndPath : Obligations.OperationsAnswerByRoleAndPath := by
  intro s now ses x r a b c bytes
  refine fun h hs => ⟨fun hr e he hop hserved hupdate => ?_, fun hr e he hop => ⟨fun hrole => ?_, fun hrole => ?_⟩⟩
  · exact romRefused_answers h hs hr (romServes_false hserved hupdate) (hop ▸ opTable_runs s now ses r.id a b c bytes e he)
  · exact roleRefused_answers h hs hr (by rw [hop, opTable_roles now ses r.id a b c bytes e he]; exact hrole)
      (hop ▸ opTable_runs s now ses r.id a b c bytes e he)
  have hmay : x.role ∈ (opRoles r.op).getD [] := by rw [hop, opTable_roles now ses r.id a b c bytes e he]; exact hrole
  refine ⟨fun ho => ?_, fun ho => ?_, fun ho => close_answers h hs hr ho hmay, fun ho => ⟨fun i hi hp hn hk => ?_, fun hp hn hn' ha ht hacts => ?_,
    fun hbad => ?_⟩, fun q hq ho => forward_answers h hs hr ho hmay (forwardTable_forwards s ses r.id q hq), fun q hq ho => ?_, fun ho =>
    ⟨fun hp => ?_, fun hp hk hv => ?_, fun hp hk hv hm => ?_, fun hp hk hv hm => ?_⟩⟩
  · exact local_answers h hs hr ho hmay rfl (fmpStatus_eq s.dev) (by decide)
      (by rw [List.length_append, List.length_append, le_length, le_length, le_length]; decide)
  · exact local_answers h hs hr ho hmay rfl rfl (by decide) (by decide)
  · exact lregRead_latch_answers h hs hr ho hmay hi hp hn hk
  · refine lregRead_answers h hs hr ho hmay (lregRead_peeks hp hn hn' ha ht hacts) (by decide) ?_
    rw [length_flatMap_le, List.length_range]
    omega
  · exact lregRead_answers h hs hr ho hmay (lregRead_refused hbad) (by decide) (by decide)
  · obtain ⟨hsteps, hroles⟩ := timeTable_steps q hq ho
    have hone : x.role = 1 := by rw [hroles] at hmay; exact List.mem_singleton.1 hmay
    refine ⟨fun hl => stepTime_range h hs hr hmay hsteps hl, fun hl hsv hf => stepTime_locked h hs hr hmay hone hsteps hl hsv hf,
      fun hl hsv h0 h1 => (stepTime_steps h hs hr hmay hone hsteps hl hsv h0 h1).mono fun u hu => ?_⟩
    obtain ⟨hanswered, hnow, hepoch, hsource, hstepped, hinteg, hrate, hosf⟩ := hu
    exact ⟨hanswered, hnow, hepoch, hsource, hstepped, hinteg, hrate, hosf⟩
  · exact restart_plain h hs hr ho hmay (fmpRestart_range hp) (by decide)
  · exact restart_plain h hs hr ho hmay (fmpRestart_unpowered hp hk hv) (by decide)
  · exact restart_plain h hs hr ho hmay (fmpRestart_busy hp hk hv hm) (by decide)
  · exact restart_answers h hr ho hmay (fmpRestart_starts (h.replying hs) hr hp hk hv hm)

end Sys2Proof.Machine
end

section
/-! O39: the latch registers of the flights and of the Foyer, and what the events of a memory leave (03 R71, R82 to R84). -/

namespace Sys2Proof.Machine

/-! ## Events of a memory (03 R71) -/

/-- An event of a flight's memory goes by the Newel, one of the Foyer's by its landing. -/
theorem OnlyIn.raiseMem {ps : List Part} {l : List Nat} {d e : Dev} (h : OnlyIn ps (orEvent l) d e) (m : Mem) (i : EvId) {j : EvId} (p : List Int)
    (hj : j ≠ .fyTalarm) (hp : ∀ q ∈ [Part.cor, .nw, .arc], q ∈ ps) : OnlyIn ps (orEvent l) d (e.raiseMem m i j p) := by
  cases m with
  | fl f => exact h.raiseNw _ (hp _ (by decide)) (hp _ (by decide))
  | fy => exact h.raiseFy_mk p hj (hp _ (by decide))

/-! ## The latch registers -/

theorem latch_fld (m : Mem) (n : Nat) : (m.latch n).ok = true ∧ (m.latch n).hi + 1 - (m.latch n).lo = 6 := by
  cases m <;> exact ⟨rfl, rfl⟩

/-- No event writes the owner of a latch. -/
theorem latch_not_event (m : Mem) {n : Nat} (hn : n < 32) : eventKey (m.latch n).key = false := by
  have hk : (m.latch n).key = FY_LATCHOWN + 4 * n ∨ FL_LATCHOWN ≤ (m.latch n).key := by
    cases m with
    | fl f => exact .inr (by show FL_LATCHOWN ≤ FL_LATCHOWN + f.num * 2 ^ 24 + 4 * n; omega)
    | fy => exact .inl rfl
  unfold FY_LATCHOWN FL_LATCHOWN at hk
  refine Bool.eq_false_iff.2 fun h => ?_
  simp only [eventKey, Bool.or_eq_true, Bool.and_eq_true, decide_eq_true_eq, beq_iff_eq] at h
  unfold FY_EVPEND FY_ARCSTAT FY_ARCSUPP at h
  omega

theorem onlyIn_latchPut (d : Dev) (m : Mem) (n v : Nat) : OnlyIn [] (fun k => k == (m.latch n).key) d (d.put (m.latch n) v) :=
  (onlyIn_refl ..).put v (beq_self_eq_true _)

/-- A latch holds the owner that is written to it. -/
theorem get_latchPut (d : Dev) (m : Mem) (n : Nat) {v : Nat} (hv : v < 64) : (d.put (m.latch n) v).get (m.latch n) = v := by
  obtain ⟨hok, hwide⟩ := latch_fld m n
  exact get_put_same d _ v hok (by rw [hwide]; exact hv)

/-! ## Reads (03 R82) -/

section
variable {s : State} {m : Mem} {n master : Nat} (hn : n < 32)
include hn

theorem exec_latchAcquire : exec (.latchAcquire m n master) s = s.upd fun d => (d.latchRead m n master).1 := by
  show s.upd (fun d => (d.latchRead m (n % 32) master).1) = _
  rw [Nat.mod_eq_of_lt hn]

/-- A free latch takes its reader as owner. -/
theorem latchAcquire_takes (hm : master < 63) (h : s.dev.get (m.latch n) = 0) : Answers (.latchAcquire m n master) s fun u =>
    u.get (m.latch n) = master + 1 ∧ OnlyIn [] (fun k => k == (m.latch n).key) s.dev u := by
  refine answers_of_upd (exec_latchAcquire hn) ?_
  rw [show s.dev.latchRead m n master = _ from if_pos h]
  exact ⟨get_latchPut _ m n (by omega), onlyIn_latchPut ..⟩

/-- A held latch stays as it is. -/
theorem latchAcquire_held (h : s.dev.get (m.latch n) ≠ 0) : AnswersDev (.latchAcquire m n master) s s.dev :=
  answersDev_of_upd (exec_latchAcquire hn) (by rw [show s.dev.latchRead m n master = _ from if_neg h])

/-! ## Writes (03 R83) -/

theorem exec_latchRelease (v : Nat) : exec (.latchRelease m n master v) s = s.upd fun d => (d.latchWrite m n master v).1 := by
  show s.upd (fun d => (d.latchWrite m (n % 32) master v).1) = _
  rw [Nat.mod_eq_of_lt hn]

/-- The owner's zero frees the latch. -/
theorem latchRelease_frees (h : s.dev.get (m.latch n) = master + 1) : Answers (.latchRelease m n master 0) s fun u =>
    u.get (m.latch n) = 0 ∧ OnlyIn [] (fun k => k == (m.latch n).key) s.dev u := by
  refine answers_of_upd (exec_latchRelease hn 0) ?_
  rw [show s.dev.latchWrite m n master 0 = _ from if_pos ⟨rfl, h⟩]
  exact ⟨get_latchPut _ m n (by decide), onlyIn_latchPut ..⟩

/-- Zero written to a free latch does nothing. -/
theorem latchRelease_free (h : s.dev.get (m.latch n) = 0) : AnswersDev (.latchRelease m n master 0) s s.dev := by
  refine answersDev_of_upd (exec_latchRelease hn 0) ?_
  rw [show s.dev.latchWrite m n master 0 = _ from (if_neg fun k => by have := k.2; omega).trans (if_pos ⟨rfl, h⟩)]

/-- A write that is neither is misuse, and the owner stays. -/
theorem latchRelease_misuse {v : Nat} (h : v ≠ 0 ∨ (s.dev.get (m.latch n) ≠ 0 ∧ s.dev.get (m.latch n) ≠ master + 1)) :
    Answers (.latchRelease m n master v) s fun u => u.get (m.latch n) = s.dev.get (m.latch n) ∧
      (m = .fy → s.dev.landingFree → s.dev.landed u (.mk' .fyLatchMisuse [master, n])) ∧
      (∀ f, m = .fl f → s.dev.cor.fieldUp = true → s.dev.sentEvent u ⟨.flLatchMisuse, f.region, none, [master, n]⟩) := by
  have hwrite : s.dev.latchWrite m n master v = (s.dev.raiseMem m .flLatchMisuse .fyLatchMisuse [master, n], E_LOCK) :=
    (if_neg fun k => h.elim (· k.1) (·.2 k.2)).trans (if_neg fun k => h.elim (· k.1) (·.1 k.2))
  refine answers_of_upd (exec_latchRelease hn v) ?_
  rw [hwrite]
  have hkept := (onlyIn_refl [.cor, .nw, .arc] (orEvent []) s.dev).raiseMem m .flLatchMisuse (j := .fyLatchMisuse) [master, n] (by decide) (by decide)
  refine ⟨hkept.get_eq (by rw [orEvent_nil]; exact latch_not_event m hn), ?_, ?_⟩
  · rintro rfl hfree
    exact raiseFy_landing _ _ hfree.1 hfree.2
  · rintro f rfl hup
    exact congrArg (fun d : Dev => d.cor.upQ) (raiseNw_up _ _ hup)

end

/-- Settles O39: a read takes a free latch, its owner's zero frees it, and every other write is misuse. -/
theorem latchesAreOwnedByOneMaster : Obligations.LatchesAreOwnedByOneMaster := by
  unfold Obligations.LatchesAreOwnedByOneMaster
  intro s m n master d x hn hm
  exact ⟨latchAcquire_takes hn hm, latchAcquire_held hn, latchRelease_frees hn, latchRelease_free hn, fun v => latchRelease_misuse hn⟩

end Sys2Proof.Machine
end

section
/-! O35: a snapshot that takes a forced bank test of a standby flight without a free spare takes the flight out of operation, and with it the
scan that the snapshot began (03 R80; 04 R117; 06 R156). -/

namespace Sys2Proof.Machine

/-- REG_WRITE of FL_EVAC with TEST and FORCE in the operator role, released with cycle 2 (03 R80, R89; 16 R450). -/
def forcedTestFrame : Frame :=
  { Frame.zero with
    cycle := 2, frame := { InFrame.zero with kind := 0x03, body := .input (.regWrite ⟨0, 0, 1, 0⟩ 3 (FL_EVAC % 2 ^ 24) [0x600]) } }

/-- Flight A STANDBY beside an active flight B, without a free spare bank, the batch of its next grid present with the forced test in it. -/
def forcedTestDue : Dev :=
  (((State.reset.dev.put NW_STAT_FASTATE fsStandby).put NW_STAT_FBSTATE fsActive).put FL_SPAREMAP_SPARE0 0x3F).updFl .a fun x => { x with
    bootCycle := some 1, nextGrid := 2, lastBatch := 2, frames := [forcedTestFrame] }

/-- The scan may begin there: its snapshot is due, nothing holds the flight, and no transfer or switch is in progress. -/
theorem forcedTestDue_ready : forcedTestDue.scanReady .a = true ∧ forcedTestDue.frozen .a = false ∧ forcedTestDue.nw.stair = none ∧
    forcedTestDue.fa.switchDue = false ∧ forcedTestDue.fst .a = fsStandby := by decide

/-- The snapshot takes the test, which leaves the flight in TESTING and without a scan (03 R80; 04 R117). -/
theorem forcedTestDue_loses_scan :
    ((forcedTestDue.scanStart .a 0 0 0).fst .a, (forcedTestDue.scanStart .a 0 0 0).fa.scan) = (fsTesting, none) := by decide +kernel

/-- What the statement says of the scan's number where SCAN of flight A may take place. -/
theorem scan_number_of_statement (h : Obligations.ScansTakeTheirSnapshotAndTheirBarriers) (d : Dev) (hready : d.scanReady .a = true)
    (hfree : d.frozen .a = false) (hstair : d.nw.stair = none) (hdue : d.fa.switchDue = false) : ∃ n, (d.scanStart .a 0 0 0).fa.scan = some n := by
  have hexec : exec (.scan .a 0 0 0) { State.reset with dev := d } = .next { State.reset with dev := d.scanStart .a 0 0 0 } := by
    show State.upd _ (fun d => d.when _ fun d => d.scanStart .a 0 0 0) = _
    rw [upd_eq_next, when_pos]
    simp [hready, hfree]
  obtain ⟨t, ht, -, hscan, -⟩ := (h { State.reset with dev := d } .a).1 0 0 0 hready hfree hstair hdue
  rw [← Host.Outcome.next.inj (hexec.symm.trans ht)] at hscan
  exact ⟨_, hscan⟩

/-- Refutes O35: at `forcedTestDue` SCAN leaves flight A in TESTING without a scan, where the statement has it in the next one. -/
theorem not_scansTakeTheirSnapshotAndTheirBarriers : ¬ Obligations.ScansTakeTheirSnapshotAndTheirBarriers := by
  intro h
  obtain ⟨hready, hfree, hstair, hdue, -⟩ := forcedTestDue_ready
  obtain ⟨n, hsome⟩ := scan_number_of_statement h forcedTestDue hready hfree hstair hdue
  have hnone : (forcedTestDue.scanStart .a 0 0 0).fa.scan = none := (Prod.mk.inj forcedTestDue_loses_scan).2
  rw [hnone] at hsome
  exact nomatch hsome

end Sys2Proof.Machine
end

section
/-! The registers and the integrity state of a memory in an evacuation: the copy of a bank, its remap entries, spare banks and their budget
(03 R74 to R79, R87). -/

namespace Sys2Proof.Machine

/-! ## Fields -/

theorem apart_of_bits {x y : Fld} (h : x.hi < y.lo ∨ y.hi < x.lo) : x.apart y = true := by
  rcases h with h | h <;> simp [Fld.apart, h]

theorem apart_of_key {x y : Fld} (h : x.key ≠ y.key) : x.apart y = true := by simp [Fld.apart, h]

/-- A put leaves every field of another register. -/
theorem get_put_key (d : Dev) {x y : Fld} (v : Nat) (h : y.key ≠ x.key) : (d.put x v).get y = d.get y := get_of_rd (rd_put_other d x v h)

/-! ## Registers of a memory (03 R89, R90) -/

/-- Registers that a correction or an uncorrectable word is shown in. -/
def Mem.errKeys (m : Mem) : List Nat :=
  [(m.fld FL_CECNT_COUNT FY_CECNT_COUNT).key, (m.fld FL_UECNT_COUNT FY_UECNT_COUNT).key, (m.fld FL_ERRADDR_UE FY_ERRADDR_UE).key]

/-- Registers of the remap entries. -/
def Mem.remapKeys (m : Mem) : List Nat := (List.range m.entries).map fun n => (m.remapFld FL_REMAP_VALID FY_REMAP_VALID n).key

/-- Registers of the spare banks and of the budgets, and the module state that follows a budget used up (03 R87). -/
def Mem.spareKeys (m : Mem) : List Nat := [(m.fld FL_SPAREMAP_SPARE0 FY_SPAREMAP_SPARE0).key, m.bankBud.key, FY_MODSTATE]

theorem orEvent_of_mem {l : List Nat} {k : Nat} (h : k ∈ l) : orEvent l k = true := by simp [orEvent, h]

theorem remapValid_listed (m : Mem) {n : Nat} (hn : n < m.entries) : (m.remapFld FL_REMAP_VALID FY_REMAP_VALID n).key ∈ m.remapKeys :=
  List.mem_map.2 ⟨n, List.mem_range.2 hn, rfl⟩

/-- The fields of a remap entry share its register. -/
theorem remap_key (m : Mem) (n : Nat) : (m.remapFld FL_REMAP_PBANK FY_REMAP_PBANK n).key = (m.remapFld FL_REMAP_VALID FY_REMAP_VALID n).key ∧
    (m.remapFld FL_REMAP_UE FY_REMAP_UE n).key = (m.remapFld FL_REMAP_VALID FY_REMAP_VALID n).key := by cases m <;> exact ⟨rfl, rfl⟩

theorem remap_key_ne (m : Mem) {n k : Nat} (h : n ≠ k) :
    (m.remapFld FL_REMAP_VALID FY_REMAP_VALID n).key ≠ (m.remapFld FL_REMAP_VALID FY_REMAP_VALID k).key := by
  change (m.fld FL_REMAP_VALID FY_REMAP_VALID).key + 4 * n ≠ (m.fld FL_REMAP_VALID FY_REMAP_VALID).key + 4 * k
  omega

/-- Keys that an evacuation writes beside the map of the banks and its own register. -/
def Mem.evacKeys (m : Mem) : List Nat := m.errKeys ++ m.remapKeys ++ m.spareKeys

/-- The map of a logical bank is none of them, and not the unit's own register. -/
theorem bankFld_free (m : Mem) {lb : Nat} (h : lb < m.lbanks) :
    orEvent ((m.fld FL_EVAC_BUSY FY_EVAC_BUSY).key :: m.evacKeys) (m.bankFld lb).key = false := by
  have hall : ∀ m ∈ [Mem.fl .a, .fl .b, .fy], ∀ lb, lb < m.lbanks →
      orEvent ((m.fld FL_EVAC_BUSY FY_EVAC_BUSY).key :: m.evacKeys) (m.bankFld lb).key = false := by decide
  exact hall m (by rcases m with (_ | _) | _ <;> decide) lb h

/-- The map of the banks lies apart from the remap entries. -/
theorem bankFld_not_remap (m : Mem) {lb n : Nat} (h : lb < m.lbanks) (hn : n < m.entries) :
    (m.remapFld FL_REMAP_VALID FY_REMAP_VALID n).key ≠ (m.bankFld lb).key := by
  intro he
  have hk := bankFld_free m h
  rw [← he, orEvent_of_mem] at hk
  · exact nomatch hk
  · exact List.mem_cons_of_mem _ (List.mem_append_left _ (List.mem_append_right _ (remapValid_listed m hn)))

/-- The unit's own register and the scrubber's configuration are none of them. -/
theorem evac_free (m : Mem) : orEvent m.evacKeys (m.fld FL_EVAC_BUSY FY_EVAC_BUSY).key = false := by
  rcases m with (_ | _) | _ <;> decide

theorem cethr_free (m : Mem) : orEvent m.evacKeys (m.fld FL_SCRUBCFG_CETHR FY_SCRUBCFG_CETHR).key = false := by
  rcases m with (_ | _) | _ <;> decide

/-- A remap entry is neither shown with an error nor with the spare banks. -/
theorem remapValid_free (m : Mem) {n : Nat} (h : n < m.entries) : orEvent ((m.fld FL_EVAC_BUSY FY_EVAC_BUSY).key :: m.spareKeys)
    (m.remapFld FL_REMAP_VALID FY_REMAP_VALID n).key = false := by
  have hall : ∀ m ∈ [Mem.fl .a, .fl .b, .fy], ∀ n, n < m.entries → orEvent ((m.fld FL_EVAC_BUSY FY_EVAC_BUSY).key :: m.spareKeys)
      (m.remapFld FL_REMAP_VALID FY_REMAP_VALID n).key = false := by decide
  exact hall m (by rcases m with (_ | _) | _ <;> decide) n h

end Sys2Proof.Machine
end

section
/-! What the copy of a bank leaves of the unit's operation and of the registers (03 R68, R70, R74, R77). -/

namespace Sys2Proof.Machine

/-! ## The integrity state of a memory -/

/-- Parts that an event of a memory, or a budget used up, changes. -/
def eventParts : List Part := [.cor, .nw, .arc, .upd]

/-- What the evacuation unit has in hand: its operation, the bank under test, the retired banks and what waits. -/
def FoyMemSt.unit (y : FoyMemSt) : Option (Nat × Nat) × Bool × Option Nat × List Nat × List (Nat × Nat × Bool) × List Nat :=
  (y.evacTo, y.evacTest, y.testing, y.retired, y.memWait, y.evacWait)

@[simp] theorem updMem_mem (d : Dev) (m : Mem) (g : FoyMemSt → FoyMemSt) : (d.updMem m g).mem m = g (d.mem m) := by
  cases m with
  | fl f => cases f <;> rfl
  | fy => rfl

@[simp] theorem updMem_regs (d : Dev) (m : Mem) (g : FoyMemSt → FoyMemSt) : (d.updMem m g).regs = d.regs := by
  cases m with
  | fl f => cases f <;> rfl
  | fy => rfl

@[simp] theorem put_mem (d : Dev) (x : Fld) (v : Nat) (m : Mem) : (d.put x v).mem m = d.mem m := by
  cases m with
  | fl f => cases f <;> rfl
  | fy => rfl

/-- Events leave the integrity state. -/
theorem OnlyIn.mem_eq {ks : Nat → Bool} {d e : Dev} (h : OnlyIn eventParts ks d e) (m : Mem) : e.mem m = d.mem m := by
  have ha : e.fa = d.fa := h.fa_eq (by decide)
  have hb : e.fb = d.fb := h.fb_eq (by decide)
  have hy : e.fmem = d.fmem := h.1 .fmem (by decide)
  rcases m with (_ | _) | _ <;> simp only [Dev.mem, Dev.fl, ha, hb, hy]

theorem onlyIn_updMem (d : Dev) (m : Mem) (g : FoyMemSt → FoyMemSt) : OnlyIn [m.part] noKey d (d.updMem m g) := by
  cases m with
  | fl f => exact onlyIn_updMem_fl d f g
  | fy => exact (onlyIn_refl [.fmem] noKey d).updFoyerMem g (by decide)

theorem OnlyIn.updMem {ps : List Part} {ks : Nat → Bool} {d e : Dev} (h : OnlyIn ps ks d e) (m : Mem) (g : FoyMemSt → FoyMemSt)
    (hp : m.part ∈ ps) : OnlyIn ps ks d (e.updMem m g) := h.step hp (onlyIn_updMem e m g)

/-! ## Steps of the copy -/

/-- A step of a copy: what the unit has in hand stays, and no registers change but those of errors, remap entries and events. -/
structure Copied (m : Mem) (d e : Dev) : Prop where
  frame : OnlyIn (m.part :: eventParts) (orEvent (m.errKeys ++ m.remapKeys)) d e
  unit : (e.mem m).unit = (d.mem m).unit

theorem Copied.refl (m : Mem) (d : Dev) : Copied m d d := ⟨onlyIn_refl .., rfl⟩

theorem Copied.put {m : Mem} {d e : Dev} (h : Copied m d e) {x : Fld} (v : Nat) (hx : x.key ∈ m.errKeys ++ m.remapKeys) : Copied m d (e.put x v) :=
  ⟨h.frame.put v (orEvent_of_mem hx), by rw [put_mem, h.unit]⟩

theorem Copied.inc {m : Mem} {d e : Dev} (h : Copied m d e) {x : Fld} (n : Nat) (hx : x.key ∈ m.errKeys ++ m.remapKeys) : Copied m d (e.inc x n) :=
  h.put _ hx

theorem Copied.updMem {m : Mem} {d e : Dev} (h : Copied m d e) (g : FoyMemSt → FoyMemSt) (hg : ∀ y, (g y).unit = y.unit) :
    Copied m d (e.updMem m g) := ⟨h.frame.updMem m g (by simp), by rw [updMem_mem, hg, h.unit]⟩

theorem Copied.setWord {m : Mem} {d e : Dev} (h : Copied m d e) (pb w : Nat) (i : WordInfo) : Copied m d (e.setWord m pb w i) :=
  h.updMem _ fun _ => rfl

theorem Copied.raiseMem {m : Mem} {d e : Dev} (h : Copied m d e) (i : EvId) {j : EvId} (p : List Int) (hj : j ≠ .fyTalarm) :
    Copied m d (e.raiseMem m i j p) := by
  refine ⟨h.frame.raiseMem m i p hj (by simp [eventParts]), ?_⟩
  rw [((onlyIn_refl eventParts (orEvent []) e).raiseMem m i p hj (by decide)).mem_eq m, h.unit]

/-- Each step of a list keeps to the copy. -/
theorem Copied.foldl {m : Mem} {α : Type} {g : Dev → α → Dev} {d : Dev} (hg : ∀ e a, Copied m d e → Copied m d (g e a))
    (l : List α) {e : Dev} (h : Copied m d e) : Copied m d (l.foldl g e) := by
  induction l generalizing e with
  | nil => exact h
  | cons a t ih => exact ih (hg e a h)

theorem Copied.errAddr {m : Mem} {d e : Dev} (h : Copied m d e) (pb w ue ag : Nat) : Copied m d (e.errAddr m pb w ue ag) := by
  have hx : ∀ k ∈ m.errKeys, k ∈ m.errKeys ++ m.remapKeys := fun k hk => List.mem_append_left _ hk
  have hk : (m.fld FL_ERRADDR_UE FY_ERRADDR_UE).key ∈ m.errKeys := by simp [Mem.errKeys]
  have hsame : (m.fld FL_ERRADDR_PBANK FY_ERRADDR_PBANK).key = (m.fld FL_ERRADDR_UE FY_ERRADDR_UE).key ∧
      (m.fld FL_ERRADDR_WORD FY_ERRADDR_WORD).key = (m.fld FL_ERRADDR_UE FY_ERRADDR_UE).key ∧
      (m.fld FL_ERRADDR_AGENT FY_ERRADDR_AGENT).key = (m.fld FL_ERRADDR_UE FY_ERRADDR_UE).key := by cases m <;> exact ⟨rfl, rfl, rfl⟩
  obtain ⟨hpbank, hword, hagent⟩ := hsame
  exact (((h.put pb (hx _ (hpbank ▸ hk))).put w (hx _ (hword ▸ hk))).put ue (hx _ hk)).put ag (hx _ (hagent ▸ hk))

theorem Copied.uncorrected {m : Mem} {d e : Dev} (h : Copied m d e) (pb w ag : Nat) : Copied m d (e.uncorrected m pb w ag) :=
  (h.inc 1 (by simp [Mem.errKeys])).errAddr ..

/-- Without a threshold the count of corrections has no consequence (03 R74). -/
theorem ceRate_off {d : Dev} {m : Mem} (h : d.get (m.fld FL_SCRUBCFG_CETHR FY_SCRUBCFG_CETHR) = 0) (pb : Nat) : d.ceRate m pb = d := if_pos (.inl h)

/-- The threshold stays as the copy found it. -/
theorem Copied.cethr {m : Mem} {d e : Dev} (h : Copied m d e) :
    e.get (m.fld FL_SCRUBCFG_CETHR FY_SCRUBCFG_CETHR) = d.get (m.fld FL_SCRUBCFG_CETHR FY_SCRUBCFG_CETHR) :=
  h.frame.get_eq (orEvent_mono (fun _ hk => List.mem_append_left _ hk) (cethr_free m))

theorem Copied.corrected {m : Mem} {d e : Dev} (h : Copied m d e) (hthr : d.get (m.fld FL_SCRUBCFG_CETHR FY_SCRUBCFG_CETHR) = 0) (pb w ag : Nat) :
    Copied m d (e.corrected m pb w ag) := by
  have hcount := ((h.inc (x := m.fld FL_CECNT_COUNT FY_CECNT_COUNT) 1 (by simp [Mem.errKeys])).errAddr pb w 0 ag).updMem
    (fun y => { y with ceCount := mupd 0 y.ceCount pb fun n => min (n + 1) 0xFFFF }) fun _ => rfl
  have hoff := ceRate_off (hcount.cethr.trans hthr) pb
  change Copied m d (Dev.ceRate _ m pb)
  rw [hoff]
  exact hcount

/-- The remap entry of a word is one of the memory's. -/
theorem remapOf_entry {d : Dev} {m : Mem} {pb w n : Nat} (h : d.remapOf m pb w = some n) : n < m.entries :=
  List.mem_range.1 (List.mem_of_find?_eq_some h)

theorem Copied.copyUe {m : Mem} {d e : Dev} (h : Copied m d e) (old new w : Nat) : Copied m d (e.copyUe m old new w) := by
  have hword := ((h.uncorrected old w m.copier).raiseMem .flEccUncorr (j := .fyEccUncorr) [(old : Int), w, m.copier] (by decide)).setWord new w
    { (e.word m old w) with valid := true, err := .uncorrectable }
  unfold Dev.copyUe
  dsimp only
  split
  · rename_i n hn
    exact hword.put new (List.mem_append_right _ ((remap_key m n).1 ▸ remapValid_listed m (remapOf_entry hn)))
  · exact hword

theorem Copied.copyWord {m : Mem} {d e : Dev} (h : Copied m d e) (hthr : d.get (m.fld FL_SCRUBCFG_CETHR FY_SCRUBCFG_CETHR) = 0) (old new w : Nat) :
    Copied m d (e.copyWord m old new w) := by
  unfold Dev.copyWord
  dsimp only
  split
  · exact h.copyUe ..
  · exact (h.corrected hthr ..).setWord ..
  · exact h.setWord ..

/-- The copy of a bank leaves the unit's operation as it stands (03 R77). -/
theorem copyBank_copied {d : Dev} {m : Mem} (hthr : d.get (m.fld FL_SCRUBCFG_CETHR FY_SCRUBCFG_CETHR) = 0) (old new : Nat) (ue : List Nat) :
    Copied m d (d.copyBank m old new ue) :=
  Copied.foldl (fun _ _ h => h.copyUe ..) _ (Copied.foldl (fun _ _ h => h.copyWord hthr ..) _ ((Copied.refl m d).updMem _ fun _ => rfl))

/-! ## A bank without known words -/

/-- No error of the memory is known. -/
def Dev.unharmed (d : Dev) (m : Mem) : Prop := ∀ e ∈ (d.mem m).words, e.2.err = .none

theorem mget_cases {α : Type} (x : α) (l : Map α) (k : Nat) : mget x l k = x ∨ ∃ e ∈ l, mget x l k = e.2 := by
  induction l with
  | nil => exact .inl rfl
  | cons e t ih =>
    obtain ⟨j, v⟩ := e
    by_cases h : j = k
    · exact .inr ⟨(j, v), List.mem_cons_self .., by simp [mget, h]⟩
    · simp only [mget, h, if_false]
      exact ih.imp id fun ⟨e, he, hv⟩ => ⟨e, List.mem_cons_of_mem _ he, hv⟩

theorem Dev.unharmed.word_err {d : Dev} {m : Mem} (h : d.unharmed m) (pb w : Nat) : (d.word m pb w).err = .none := by
  rcases mget_cases ((d.mem m).plain pb w) (d.mem m).words (wordKey pb w) with k | ⟨e, he, k⟩
  · rw [Dev.word, k]; rfl
  · rw [Dev.word, k]; exact h e he

theorem Dev.unharmed.setWord {d : Dev} {m : Mem} (h : d.unharmed m) (pb w : Nat) {i : WordInfo} (hi : i.err = .none) :
    (d.setWord m pb w i).unharmed m := by
  intro e he
  rw [Dev.setWord, updMem_mem] at he
  have hdel : ∀ x ∈ mdel (d.mem m).words (wordKey pb w), x.2.err = .none := fun x hx => h x (List.mem_filter.1 hx).1
  simp only [mset] at he
  split at he
  · exact hdel e he
  · rcases mem_mins he with rfl | hold
    · exact hi
    · exact hdel e hold

/-- A word without an error is copied as it is. -/
theorem copyWord_unharmed {d : Dev} {m : Mem} (h : d.unharmed m) (old new w : Nat) :
    ∃ b, d.copyWord m old new w = d.setWord m new w { wordInfo0 with valid := b } := by
  refine ⟨(d.word m (d.home m old w).1 (d.home m old w).2).valid, ?_⟩
  unfold Dev.copyWord
  dsimp only
  rw [h.word_err, ite_self]

theorem copyWords_unharmed {m : Mem} (old new : Nat) (l : List Nat) : ∀ {d : Dev}, d.unharmed m →
    (l.foldl (fun d w => d.copyWord m old new w) d).unharmed m ∧ (l.foldl (fun d w => d.copyWord m old new w) d).regs = d.regs := by
  induction l with
  | nil => exact fun h => ⟨h, rfl⟩
  | cons w t ih =>
    intro d h
    obtain ⟨b, hb⟩ := copyWord_unharmed h old new w
    rw [List.foldl_cons, hb]
    obtain ⟨hclean, hregs⟩ := ih (h.setWord new w (i := { wordInfo0 with valid := b }) rfl)
    exact ⟨hclean, hregs.trans (updMem_regs ..)⟩

/-- Where no word is known to be wrong the copy writes no register. -/
theorem copyBank_regs {d : Dev} {m : Mem} (h : d.unharmed m) (old new : Nat) : (d.copyBank m old new []).regs = d.regs := by
  refine (copyWords_unharmed old new _ (d := d.updMem m _) ?_).2.trans (updMem_regs ..)
  intro e he
  rw [updMem_mem] at he
  exact h e he

end Sys2Proof.Machine
end

section
/-! Spare banks, their budget and the remap entries of a memory: what using, freeing and retiring them leaves (03 R75 to R79, R87). -/

namespace Sys2Proof.Machine

/-! ## A budget that is used up (03 R87) -/

theorem OnlyIn.fieldMod {ps : List Part} {ks : Nat → Bool} {d e : Dev} (h : OnlyIn ps ks d e) (new : Nat) (hc : .cor ∈ ps) (hn : .nw ∈ ps) :
    OnlyIn ps ks d (e.fieldMod new) := .ite h ((h.updNw _ hn).statusNow_field hc)

/-- A budget used up is told by its side, which gives way from SERVICE to DEGRADED. -/
theorem OnlyIn.spareExhausted {ps : List Part} {l : List Nat} {d e : Dev} (h : OnlyIn ps (orEvent l) d e) (r : Nat) (x : Fld)
    (hm : FY_MODSTATE ∈ l) (hp : ∀ q ∈ eventParts, q ∈ ps) : OnlyIn ps (orEvent l) d (e.spareExhausted r x) := by
  by_cases hr : r ≤ 2
  · exact h.trans ((onlyIn_spareExhausted e x hr).mono (fun q hq => hp q (by revert hq; revert q; decide)) fun _ =>
      orEvent_mono (by simpa using hm))
  · have hcor : .cor ∈ ps := hp _ (by decide)
    have hnw : .nw ∈ ps := hp _ (by decide)
    unfold Dev.spareExhausted
    rw [if_neg hr]
    exact .ite ((h.raiseNw _ hcor hnw).fieldMod _ hcor hnw) (h.raiseNw _ hcor hnw)

theorem OnlyIn.useSpare {ps : List Part} {l : List Nat} {d e : Dev} (h : OnlyIn ps (orEvent l) d e) (r : Nat) {x : Fld} (hx : x.key ∈ l)
    (hm : FY_MODSTATE ∈ l) (hp : ∀ q ∈ eventParts, q ∈ ps) : OnlyIn ps (orEvent l) d (e.useSpare r x) :=
  .ite h (.ite ((h.dec 1 (orEvent_of_mem hx)).spareExhausted r x hm hp) (h.dec 1 (orEvent_of_mem hx)))

theorem useSpare_mem (d : Dev) (r : Nat) (x : Fld) (m : Mem) : (d.useSpare r x).mem m = d.mem m :=
  ((onlyIn_refl eventParts (orEvent [x.key, FY_MODSTATE]) d).useSpare r (by simp) (by simp) fun _ h => h).mem_eq m

/-! ## Spare banks (03 R77 to R79) -/

section
variable (d : Dev) (m : Mem) (b : Nat)

theorem spare1_key : (m.fld FL_SPAREMAP_SPARE1 FY_SPAREMAP_SPARE1).key = (m.fld FL_SPAREMAP_SPARE0 FY_SPAREMAP_SPARE0).key := by cases m <;> rfl

theorem onlyIn_spareUsed : OnlyIn [] (orEvent m.spareKeys) d (d.spareUsed m b) := by
  have h0 : orEvent m.spareKeys (m.fld FL_SPAREMAP_SPARE0 FY_SPAREMAP_SPARE0).key = true := orEvent_of_mem (by simp [Mem.spareKeys])
  have h1 := (spare1_key m).symm ▸ h0
  exact .ite (((onlyIn_refl ..).put _ h0).put _ h1) (.ite ((onlyIn_refl ..).put _ h1) (onlyIn_refl ..))

theorem onlyIn_spareBack : OnlyIn [] (orEvent m.spareKeys) d (d.spareBack m b) := by
  have h0 : orEvent m.spareKeys (m.fld FL_SPAREMAP_SPARE0 FY_SPAREMAP_SPARE0).key = true := orEvent_of_mem (by simp [Mem.spareKeys])
  exact .ite ((onlyIn_refl ..).put _ h0) ((onlyIn_refl ..).put _ ((spare1_key m).symm ▸ h0))

/-- A bank that becomes a spare stands in one of the two fields. -/
theorem spareBack_shows (hb : b < 64) : (d.spareBack m b).get (m.fld FL_SPAREMAP_SPARE0 FY_SPAREMAP_SPARE0) = b ∨
    (d.spareBack m b).get (m.fld FL_SPAREMAP_SPARE1 FY_SPAREMAP_SPARE1) = b := by
  unfold Dev.spareBack
  dsimp only
  split
  · exact .inl (get_put_same d _ b (by cases m <;> rfl) (by cases m <;> exact hb))
  · exact .inr (get_put_same d _ b (by cases m <;> rfl) (by cases m <;> exact hb))

theorem onlyIn_retire : OnlyIn (m.part :: eventParts) (orEvent m.spareKeys) d (d.retire m b) := by
  have hkey : (m.fld FL_SPAREMAP_RETIRED FY_SPAREMAP_RETIRED).key = (m.fld FL_SPAREMAP_SPARE0 FY_SPAREMAP_SPARE0).key := by cases m <;> rfl
  have hsp : (m.fld FL_SPAREMAP_RETIRED FY_SPAREMAP_RETIRED).key ∈ m.spareKeys := by simp [Mem.spareKeys, hkey]
  exact (((onlyIn_refl ..).updMem m _ (by simp)).inc 1 (orEvent_of_mem hsp)).useSpare _ (by simp [Mem.spareKeys]) (by simp [Mem.spareKeys])
    fun _ => List.mem_cons_of_mem _

theorem retire_mem : (d.retire m b).mem m = { d.mem m with retired := (d.mem m).retired ++ [b] } := by
  rw [Dev.retire, useSpare_mem, Dev.inc, put_mem, updMem_mem]

end

/-! ## Remap entries (03 R75, R77) -/

/-- VALID of a remap entry. -/
def Mem.remapValid (m : Mem) (n : Nat) : Fld := m.remapFld FL_REMAP_VALID FY_REMAP_VALID n

theorem onlyIn_remapFreeEntry (d : Dev) (m : Mem) {n : Nat} (hn : n < m.entries) :
    OnlyIn [] (orEvent (m.remapKeys ++ m.spareKeys)) d (d.remapFreeEntry m n) := by
  have hv : orEvent (m.remapKeys ++ m.spareKeys) (m.remapValid n).key = true := orEvent_of_mem (List.mem_append_left _ (remapValid_listed m hn))
  have hbud : m.remapBud.key = m.bankBud.key := by cases m <;> rfl
  have hb : orEvent (m.remapKeys ++ m.spareKeys) m.remapBud.key = true := orEvent_of_mem (by simp [Mem.spareKeys, hbud])
  exact (((onlyIn_refl ..).put _ hv).put _ ((remap_key m n).2.symm ▸ hv)).put _ hb

/-- A freed entry is not valid, and every other entry stays as it is. -/
theorem remapFreeEntry_valid (d : Dev) (m : Mem) {n k : Nat} (hk : k < m.entries) :
    (d.remapFreeEntry m n).bit (m.remapValid k) = if k = n then false else d.bit (m.remapValid k) := by
  have hok : ∀ j, (m.remapValid j).ok = true := fun j => by cases m <;> rfl
  have hue : (d.put (m.remapValid n) 0).bit (m.remapValid k) = (d.remapFreeEntry m n).bit (m.remapValid k) := by
    have hbud : (m.remapValid k).key ≠ m.remapBud.key := by
      have hall : ∀ m ∈ [Mem.fl .a, .fl .b, .fy], ∀ k, k < m.entries → (m.remapValid k).key ≠ m.remapBud.key := by decide
      exact hall m (by rcases m with (_ | _) | _ <;> decide) k hk
    refine bit_of_get (Eq.symm ((get_put_key _ _ hbud).trans (get_put_other _ _ _ _ (by cases m <;> rfl) (hok k) (apart_of_bits ?_))))
    exact .inr (by cases m <;> exact Nat.zero_lt_one)
  rw [← hue]
  split
  · next h =>
    subst h
    rw [bit_put_same _ _ _ (hok k) (Nat.two_pow_pos _)]
    rfl
  · next h => exact bit_put_other _ _ _ _ (hok n) (hok k) (apart_of_key (remap_key_ne m fun e => h e.symm))

/-- The entries of a list are freed, whatever else is. -/
theorem freed_valid (m : Mem) {k : Nat} (hk : k < m.entries) (l : List Nat) : ∀ (d : Dev), k ∈ l ∨ d.bit (m.remapValid k) = false →
    (l.foldl (fun d n => d.remapFreeEntry m n) d).bit (m.remapValid k) = false := by
  induction l with
  | nil => exact fun d h => h.elim (fun h => absurd h List.not_mem_nil) id
  | cons n t ih =>
    intro d h
    refine ih _ ?_
    rw [remapFreeEntry_valid d m hk]
    split
    · exact .inr rfl
    · next hne => exact h.imp (fun h => (List.mem_cons.1 h).resolve_left hne) id

theorem entriesOf_lt {d : Dev} {m : Mem} {pb n : Nat} (h : n ∈ d.entriesOf m pb) : n < m.entries := List.mem_range.1 (List.mem_filter.1 h).1

theorem mem_entriesOf {d : Dev} {m : Mem} {pb n : Nat} (hn : n < m.entries) (hv : d.bit (m.remapValid n) = true)
    (hp : d.get (m.remapFld FL_REMAP_PBANK FY_REMAP_PBANK n) = pb) : n ∈ d.entriesOf m pb := by
  refine List.mem_filter.2 ⟨List.mem_range.2 hn, ?_⟩
  rw [show d.bit (m.remapFld FL_REMAP_VALID FY_REMAP_VALID n) = true from hv, hp]
  simp

end Sys2Proof.Machine
end

section
/-! O38: evacuations and bank tests begin, or are refused, and EVACUATION_DONE and BANK_TEST_DONE end them (03 R77 to R80, R87). -/

namespace Sys2Proof.Machine

/-! ## The unit's register -/

/-- BUSY of the evacuation unit. -/
def Mem.evacBusy (m : Mem) : Fld := m.fld FL_EVAC_BUSY FY_EVAC_BUSY

/-- DONE of the evacuation unit. -/
def Mem.evacEnded (m : Mem) : Fld := m.fld FL_EVAC_DONE FY_EVAC_DONE

/-- RESULT of the evacuation unit. -/
def Mem.evacResult (m : Mem) : Fld := m.fld FL_EVAC_RESULT FY_EVAC_RESULT

/-- The unit's register alone. -/
def Mem.evacKey (m : Mem) (k : Nat) : Bool := k == m.evacBusy.key

section
variable (d : Dev) (m : Mem)

theorem evacKey_fields : m.evacKey (m.fld FL_EVAC_LBANK FY_EVAC_LBANK).key = true ∧ m.evacKey m.evacBusy.key = true ∧
    m.evacKey m.evacEnded.key = true ∧ m.evacKey m.evacResult.key = true := by
  cases m <;> exact ⟨beq_self_eq_true _, beq_self_eq_true _, beq_self_eq_true _, beq_self_eq_true _⟩

theorem evac_apart : m.evacResult.apart m.evacEnded = true ∧ m.evacResult.apart m.evacBusy = true ∧ m.evacEnded.apart m.evacBusy = true ∧
    (m.fld FL_EVAC_LBANK FY_EVAC_LBANK).apart m.evacBusy = true := by rcases m with (_ | _) | _ <;> decide

theorem onlyIn_evacEnds (r : Nat) : OnlyIn [] m.evacKey d (d.evacEnds m r) :=
  ((onlyIn_refl ..).put _ (evacKey_fields m).2.2.1).put _ (evacKey_fields m).2.2.2

/-- The end of an operation shows its result, and leaves BUSY. -/
theorem evacEnds_shows {r : Nat} (hr : r < 256) : (d.evacEnds m r).get m.evacResult = r ∧ (d.evacEnds m r).bit m.evacEnded = true ∧
    (d.evacEnds m r).bit m.evacBusy = d.bit m.evacBusy ∧ (d.evacEnds m r).mem m = d.mem m := by
  have hok : m.evacEnded.ok = true ∧ m.evacResult.ok = true ∧ m.evacBusy.ok = true := by cases m <;> exact ⟨rfl, rfl, rfl⟩
  obtain ⟨he, hs, hb⟩ := hok
  obtain ⟨hse, hsb, heb, -⟩ := evac_apart m
  refine ⟨get_put_same _ _ r hs (by cases m <;> exact hr), ?_, ?_, by rw [Dev.evacEnds, put_mem, put_mem]⟩
  · exact (bit_put_other _ _ _ _ hs he hse).trans
      ((bit_put_same d _ 1 he (by cases m <;> exact (by decide : 1 < 2 ^ 1))).trans rfl)
  · exact (bit_put_other _ _ _ _ hs hb hsb).trans
      (bit_put_other _ _ _ _ he hb heb)

/-- BUSY cleared with the result of an operation that ends. -/
theorem evacOver_shows {r : Nat} (hr : r < 256) : ((d.put m.evacBusy 0).evacEnds m r).get m.evacResult = r ∧
    ((d.put m.evacBusy 0).evacEnds m r).bit m.evacBusy = false ∧ ((d.put m.evacBusy 0).evacEnds m r).mem m = d.mem m := by
  obtain ⟨hres, -, hbusy, hmem⟩ := evacEnds_shows (d.put m.evacBusy 0) m hr
  refine ⟨hres, hbusy.trans ?_, hmem.trans (put_mem ..)⟩
  rw [bit_put_same _ _ 0 (by cases m <;> rfl) (Nat.two_pow_pos _)]
  rfl

/-! ## An operation begins (03 R77, R79) -/

/-- The module with the logical bank of a request shown. -/
def Dev.bankNamed (lb : Nat) : Dev := d.put (m.fld FL_EVAC_LBANK FY_EVAC_LBANK) lb

theorem onlyIn_bankNamed (lb : Nat) : OnlyIn [] m.evacKey d (d.bankNamed m lb) := (onlyIn_refl ..).put _ (evacKey_fields m).1

theorem bankNamed_spareBank (lb : Nat) : (d.bankNamed m lb).spareBank m = d.spareBank m := by
  have hk : (d.bankNamed m lb).get (m.fld FL_SPAREMAP_SPARE0 FY_SPAREMAP_SPARE0) = d.get (m.fld FL_SPAREMAP_SPARE0 FY_SPAREMAP_SPARE0) :=
    get_put_key d lb (by rcases m with (_ | _) | _ <;> decide)
  simp only [Dev.spareBank, hk]

theorem bankNamed_evacIdle (lb : Nat) : (d.bankNamed m lb).evacIdle m = d.evacIdle m := by
  have hbusy : (d.bankNamed m lb).bit m.evacBusy = d.bit m.evacBusy :=
    bit_put_other d _ _ lb (by cases m <;> rfl) (by cases m <;> rfl) (evac_apart m).2.2.2
  exact congrArg Bool.not hbusy

/-- A copy begins: what the unit has in hand, BUSY, and nothing else. -/
theorem evacStart_begins (e : Dev) (h : OnlyIn [] m.evacKey d e) (hm : e.mem m = d.mem m) (lb sp : Nat) (test : Bool) :
    let u := e.evacStart m lb sp test
    u.mem m = { d.mem m with
      evacTo := some (lb, sp), evacTest := test, words := (d.mem m).words.filter fun e => e.1 / 32768 ≠ sp
      ranges := (d.mem m).ranges.filter fun e => e.1 ≠ sp } ∧ u.bit m.evacBusy = true ∧ OnlyIn [m.part] m.evacKey d u := by
  refine ⟨?_, ?_, ?_⟩
  · rw [Dev.evacStart, put_mem, updMem_mem, hm]
    rfl
  · exact (bit_put_same _ _ 1 (by cases m <;> rfl) (by cases m <;> exact (by decide : 1 < 2 ^ 1))).trans rfl
  · exact ((h.mono (by simp) fun _ h => h).updMem m _ (by simp)).put _ (evacKey_fields m).2.1

variable {d m}

theorem bankEvac_starts {sp : Nat} (hs : d.spareBank m = some sp) (hi : d.evacIdle m = true) (lb : Nat) :
    (d.bankEvac m lb).1 = d.evacStart m lb sp false := by simp [Dev.bankEvac, hs, hi]

theorem bankEvac_refused (h : d.spareBank m = none ∨ d.evacIdle m = false) (lb : Nat) : (d.bankEvac m lb).1 = d.evacEnds m E_BUSY_SERVICE := by
  unfold Dev.bankEvac
  split
  · next hs => rw [if_neg (by rcases h with h | h <;> simp_all)]
  · rfl

theorem bankTest_starts {sp : Nat} (hs : d.spareBank m = some sp) (hi : d.evacIdle m = true) (lb : Nat) (force : Bool) (g : Dev → Dev) :
    (d.bankTest m lb force g).1 = d.evacStart m lb sp true := by simp [Dev.bankTest, hs, hi]

theorem bankTest_refused (h : d.spareBank m = none ∨ d.evacIdle m = false) (lb : Nat) (g : Dev → Dev) :
    (d.bankTest m lb false g).1 = d.evacEnds m E_BUSY_SERVICE := by
  unfold Dev.bankTest
  dsimp only
  rcases h with h | h
  · rw [h]
    cases d.evacIdle m <;> rfl
  · rw [h]
    rfl

theorem bankTest_forced {f : Flt} (hs : d.spareBank (.fl f) = none) (hi : d.evacIdle (.fl f) = true) (hf : d.fst f = fsStandby) (lb : Nat)
    (g : Dev → Dev) : (d.bankTest (.fl f) lb true g).1 = d.takeOut f 1 := by simp [Dev.bankTest, hs, hi, hf]

end

/-! ## A flight taken out for a test (03 R80; 04 R117) -/

/-- A flight that is given up keeps every register that is not its own. -/
theorem flReset_rd (d : Dev) (f : Flt) {k : Nat} (hk : k / 2 ^ 24 = 5) : (d.flReset f).rd k = d.rd k := by
  have hr : k / 2 ^ 24 ≠ 3 + f.num := by cases f <;> (rw [hk]; decide)
  have hev : (if d.bit (FL_EVAC_BUSY.at f) then ((d.put (FL_EVAC_BUSY.at f) 0).put (FL_EVAC_DONE.at f) 1).put (FL_EVAC_RESULT.at f) E_SEQ
      else d).rd k = d.rd k := by
    have hne : k ≠ f.key FL_EVAC := fun h => by subst h; cases f <;> exact absurd hk (by decide)
    split
    · rw [rd_put_other _ _ _ hne, rd_put_other _ _ _ hne, rd_put_other _ _ _ hne]
    · rfl
  refine Eq.trans (rd_filter _ (fun k => !(stairReg (k - f.num * 2 ^ 24) && k / 2 ^ 24 == 3 + f.num)) rfl k) ?_
  rw [beq_false_of_ne hr, Bool.and_false, Bool.not_false, if_pos rfl, updFl_rd, hev]

theorem statusNow_field_regs (d : Dev) : (d.statusNow false).regs = d.regs := by
  rcases statusNow_field_cases d with k | k <;> rw [k]
  rfl

theorem fieldMod_regs (d : Dev) (new : Nat) : (d.fieldMod new).regs = d.regs := by
  unfold Dev.fieldMod
  split
  · rfl
  · rw [statusNow_field_regs, updNw_regs]

theorem modFollows_regs (d : Dev) : d.modFollows.regs = d.regs := by
  unfold Dev.modFollows
  split
  · exact fieldMod_regs ..
  · split
    · exact fieldMod_regs ..
    · rfl

/-- A flight taken out for a test is in TESTING, and the other flight's state stays. -/
theorem takeOut_tests (d : Dev) (f : Flt) : (d.takeOut f 1).fst f = fsTesting ∧ (d.takeOut f 1).fst f.other = d.fst f.other := by
  have hregs : ∀ g, (d.takeOut f 1).fst g = (((d.flReset f).put (nwFault f NW_FAULTA_CODE) 0x12).setFl f fsTesting).fst g := fun g =>
    get_of_regs (modFollows_regs _) _
  have hother : f.other ≠ f := by cases f <;> decide
  refine ⟨(hregs f).trans (setFl_fst_same _ f (by decide)), (hregs _).trans ((setFl_fst_other _ hother _).trans ?_)⟩
  have hput : ((d.flReset f).put (nwFault f NW_FAULTA_CODE) 0x12).fst f.other = (d.flReset f).fst f.other :=
    get_put_key _ _ (by cases f <;> decide)
  exact hput.trans (get_of_rd (flReset_rd d f (by cases f <;> rfl)))

end Sys2Proof.Machine
end

section
/-! O38: EVACUATION_DONE puts a logical bank on its spare, BANK_TEST_DONE settles the bank under test (03 R77 to R79). -/

namespace Sys2Proof.Machine

/-! ## The logical bank moves -/

/-- A logical bank copied to its new bank and switched to it (03 R77). -/
def Dev.bankSwitched (d : Dev) (m : Mem) (lb new : Nat) (ue : List Nat) : Dev :=
  (d.copyBank m (d.phys m lb) new ue).put (m.bankFld lb) new

/-- The remap entries of the former bank freed. -/
def Dev.bankFreed (d : Dev) (m : Mem) (old : Nat) : Dev := (d.entriesOf m old).foldl (fun d n => d.remapFreeEntry m n) d

/-- The spare used, the copy over and what was known of the former bank void, and the event of the move. -/
def Dev.bankVacated (d : Dev) (m : Mem) (lb old new : Nat) : Dev :=
  ((d.spareUsed m new).updMem m fun y => { y with
    evacTo := none, words := y.words.filter fun e => e.1 / bankWords ≠ old, ranges := y.ranges.filter fun e => e.1 ≠ old
    ceCount := mdel y.ceCount old }).raiseMem m .flBankSpared .fyBankSpared [lb, old, new]

/-- All that EVACUATION_DONE does before the former bank is retired or tested. -/
def Dev.bankMoved (d : Dev) (m : Mem) (lb new : Nat) (ue : List Nat) : Dev :=
  ((d.bankSwitched m lb new ue).bankFreed m (d.phys m lb)).bankVacated m lb (d.phys m lb) new

/-- The former bank retired and the operation ended. -/
def Dev.bankRetired (d : Dev) (m : Mem) (old : Nat) : Dev := ((d.retire m old).put m.evacBusy 0).evacEnds m E_OK

theorem evacDone_eq {d : Dev} {m : Mem} {lb new : Nat} (h : (d.mem m).evacTo = some (lb, new)) (ue : List Nat) :
    d.evacDone m ue = if (d.mem m).evacTest then
      ((d.bankMoved m lb new ue).updMem m fun y => { y with testing := some (d.phys m lb), evacTest := false }).waiters m (d.phys m lb)
    else (((d.bankMoved m lb new ue).bankRetired m (d.phys m lb)).waiters m (d.phys m lb)).evacNext m := by
  unfold Dev.evacDone
  rw [h]
  rfl

/-- With nothing waiting, no defect takes an entry and no evacuation begins. -/
theorem waiters_none {d : Dev} {m : Mem} (h : (d.mem m).memWait = []) (old : Nat) :
    d.waiters m old = d.updMem m fun y => { y with memWait := [] } := by
  unfold Dev.waiters
  rw [h]
  rfl

theorem evacNext_none {d : Dev} {m : Mem} (h : (d.mem m).evacWait = []) : d.evacNext m = d := by
  unfold Dev.evacNext
  rw [h]

section
variable {d : Dev} {m : Mem} {lb new : Nat} {ue : List Nat}

theorem onlyIn_bankFreed (d : Dev) (m : Mem) (old : Nat) : OnlyIn [] (orEvent (m.remapKeys ++ m.spareKeys)) d (d.bankFreed m old) :=
  .foldl (l := d.entriesOf m old) (fun e _ hn => onlyIn_remapFreeEntry e m (entriesOf_lt hn)) d

theorem onlyIn_bankVacated (d : Dev) (m : Mem) (lb old new : Nat) :
    OnlyIn (m.part :: eventParts) (orEvent m.spareKeys) d (d.bankVacated m lb old new) :=
  (((onlyIn_spareUsed d m new).mono (by simp) fun _ h => h).updMem m _ (by simp)).raiseMem m _ _ (by decide) (by simp [eventParts])

theorem bankVacated_unit (d : Dev) (m : Mem) (lb old new : Nat) :
    ((d.bankVacated m lb old new).mem m).unit = { d.mem m with evacTo := none }.unit := by
  have hused : (d.spareUsed m new).mem m = d.mem m := ((onlyIn_spareUsed d m new).mono (by simp) fun _ h => h : OnlyIn eventParts _ _ _).mem_eq m
  unfold Dev.bankVacated
  rw [((onlyIn_refl eventParts (orEvent []) _).raiseMem m _ _ (by decide) (by decide)).mem_eq m, updMem_mem, hused]
  rfl

/-- The unit has its operation behind it, and what it has in hand is as before. -/
theorem bankMoved_unit (hthr : d.get (m.fld FL_SCRUBCFG_CETHR FY_SCRUBCFG_CETHR) = 0) :
    ((d.bankMoved m lb new ue).mem m).unit = { d.mem m with evacTo := none }.unit := by
  have hcopy := (copyBank_copied hthr (d.phys m lb) new ue).unit
  have hfreed := ((onlyIn_bankFreed (d.bankSwitched m lb new ue) m (d.phys m lb)).mono (by simp) fun _ h => h : OnlyIn eventParts _ _ _).mem_eq m
  rw [Dev.bankMoved, bankVacated_unit]
  simp only [FoyMemSt.unit, Prod.mk.injEq] at hcopy ⊢
  rw [hfreed, Dev.bankSwitched, put_mem]
  exact ⟨trivial, hcopy.2⟩

theorem onlyIn_moved : OnlyIn (m.part :: eventParts) (orEvent m.evacKeys) (d.bankSwitched m lb new ue) (d.bankMoved m lb new ue) :=
  ((onlyIn_bankFreed _ m (d.phys m lb)).mono (by simp) fun _ => orEvent_mono fun _ hk => by
    simp only [Mem.evacKeys, List.mem_append] at hk ⊢
    tauto).trans ((onlyIn_bankVacated _ m lb (d.phys m lb) new).mono (fun _ h => h) fun _ => orEvent_mono fun _ => List.mem_append_right _)

/-- The map shows the new bank. -/
theorem bankMoved_phys (hl : lb < m.lbanks) (hn : new < 64) : (d.bankMoved m lb new ue).phys m lb = new := by
  refine (onlyIn_moved.get_eq (orEvent_mono (fun _ => List.mem_cons_of_mem _) (bankFld_free m hl))).trans (get_put_same _ _ new (bankFld_ok ..) ?_)
  rw [show (m.bankFld lb).hi + 1 - (m.bankFld lb).lo = 6 by show 8 * (lb % 4) + 5 + 1 - 8 * (lb % 4) = 6; omega]
  exact hn

/-- An entry of the former bank is freed where the copy has met no error. -/
theorem bankMoved_frees (hclean : d.unharmed m) (hl : lb < m.lbanks) {n : Nat} (hn : n < m.entries) (hv : d.bit (m.remapValid n) = true)
    (hp : d.get (m.remapFld FL_REMAP_PBANK FY_REMAP_PBANK n) = d.phys m lb) : (d.bankMoved m lb new []).bit (m.remapValid n) = false := by
  have hkeep : ∀ x : Fld, x.key = (m.remapValid n).key → (d.bankSwitched m lb new []).get x = d.get x := fun x hx =>
    (get_put_key _ new (by rw [hx]; exact bankFld_not_remap m hl hn)).trans (get_of_regs (copyBank_regs hclean ..) x)
  have hfreed : ((d.bankSwitched m lb new []).bankFreed m (d.phys m lb)).bit (m.remapValid n) = false :=
    freed_valid m hn _ _ (.inl (mem_entriesOf hn ((bit_of_get (hkeep _ rfl)).trans hv) ((hkeep _ (remap_key m n).1).trans hp)))
  exact ((onlyIn_bankVacated ..).bit_eq (orEvent_mono (fun _ => List.mem_cons_of_mem _) (remapValid_free m hn))).trans hfreed

/-! ## EVACUATION_DONE (03 R77) -/

theorem onlyIn_bankRetired (d : Dev) (m : Mem) (old : Nat) :
    OnlyIn (m.part :: eventParts) (orEvent (m.evacBusy.key :: m.spareKeys)) d (d.bankRetired m old) := by
  have hkey : ∀ k, orEvent (m.evacBusy.key :: m.spareKeys) k = false → m.evacKey k = false := fun k hk => by
    simp only [orEvent, Bool.or_eq_false_iff, List.contains_eq_mem, decide_eq_false_iff_not, List.mem_cons, not_or] at hk
    exact beq_false_of_ne hk.1.1
  exact (((onlyIn_retire d m old).mono (fun _ h => h) fun _ => orEvent_mono fun _ => List.mem_cons_of_mem _).put 0
    (orEvent_of_mem (List.mem_cons_self ..))).trans ((onlyIn_evacEnds _ m E_OK).mono (by simp) hkey)

theorem bankRetired_shows (d : Dev) (m : Mem) (old : Nat) : (d.bankRetired m old).get m.evacResult = E_OK ∧
    (d.bankRetired m old).bit m.evacBusy = false ∧ (d.bankRetired m old).mem m = { d.mem m with retired := (d.mem m).retired ++ [old] } := by
  obtain ⟨hres, hbusy, hmem⟩ := evacOver_shows (d.retire m old) m (r := E_OK) (by decide)
  exact ⟨hres, hbusy, hmem.trans (retire_mem d m old)⟩

section
variable (hto : (d.mem m).evacTo = some (lb, new)) (hmem : (d.mem m).memWait = []) (hevac : (d.mem m).evacWait = [])
  (hthr : d.get (m.fld FL_SCRUBCFG_CETHR FY_SCRUBCFG_CETHR) = 0)
include hto hmem hthr

/-- After BANK_TEST the former bank is under test. -/
theorem evacDone_tests (htest : (d.mem m).evacTest = true) : (d.evacDone m ue).regs = (d.bankMoved m lb new ue).regs ∧
    ((d.evacDone m ue).mem m).evacTo = none ∧ ((d.evacDone m ue).mem m).testing = some (d.phys m lb) ∧
    ((d.evacDone m ue).mem m).retired = (d.mem m).retired := by
  have hunit := bankMoved_unit (lb := lb) (new := new) (ue := ue) hthr
  simp only [FoyMemSt.unit, Prod.mk.injEq] at hunit
  obtain ⟨hnone, -, -, hret, hwait, -⟩ := hunit
  rw [evacDone_eq hto, if_pos htest, waiters_none (by rw [updMem_mem]; exact hwait.trans hmem)]
  simp only [updMem_mem, updMem_regs]
  exact ⟨trivial, hnone, trivial, hret⟩

include hevac

/-- Otherwise the former bank is retired, and the operation ends well. -/
theorem evacDone_retires (htest : (d.mem m).evacTest = false) :
    (d.evacDone m ue).regs = ((d.bankMoved m lb new ue).bankRetired m (d.phys m lb)).regs ∧ ((d.evacDone m ue).mem m).evacTo = none ∧
    ((d.evacDone m ue).mem m).retired = (d.mem m).retired ++ [d.phys m lb] := by
  have hunit := bankMoved_unit (lb := lb) (new := new) (ue := ue) hthr
  simp only [FoyMemSt.unit, Prod.mk.injEq] at hunit
  obtain ⟨hnone, -, -, hret, hwait, hnext⟩ := hunit
  obtain ⟨-, -, hover⟩ := bankRetired_shows (d.bankMoved m lb new ue) m (d.phys m lb)
  rw [evacDone_eq hto, if_neg (by rw [htest]; decide)]
  rw [waiters_none (by rw [hover]; exact hwait.trans hmem), evacNext_none (by rw [updMem_mem, hover]; exact hnext.trans hevac)]
  simp only [updMem_mem, updMem_regs, hover]
  exact ⟨trivial, hnone, by rw [hret]⟩

/-- Either way no register of the move changes after it but the unit's own and those of the spare banks. -/
theorem evacDone_rd {k : Nat} (hk : orEvent (m.evacBusy.key :: m.spareKeys) k = false) :
    (d.evacDone m ue).rd k = (d.bankMoved m lb new ue).rd k := by
  cases htest : (d.mem m).evacTest with
  | true => rw [Dev.rd, (evacDone_tests hto hmem hthr htest).1, Dev.rd]
  | false => rw [Dev.rd, (evacDone_retires hto hmem hevac hthr htest).1]; exact (onlyIn_bankRetired ..).2 k hk

end

end

/-! ## BANK_TEST_DONE (03 R79) -/

section
variable {d : Dev} {m : Mem} {b : Nat}

/-- The operation of a bank test ended, its outcome aside. -/
def Dev.testOver (d : Dev) (m : Mem) : Dev :=
  (((d.updMem m fun y => { y with testing := none }).put m.evacBusy 0).evacEnds m E_OK).sliceRun 0x11 (if m = .fy then 0 else 1)

theorem testOver_shows (d : Dev) (m : Mem) : (d.testOver m).bit m.evacBusy = false ∧ (d.testOver m).mem m = { d.mem m with testing := none } := by
  obtain ⟨-, hbusy, hmem⟩ := evacOver_shows (d.updMem m fun y => { y with testing := none }) m (r := E_OK) (by decide)
  have hslice : (d.testOver m).mem m = _ := ((onlyIn_updNw _ _).mono (by decide) fun _ h => h : OnlyIn eventParts _ _ _).mem_eq m
  exact ⟨hbusy, hslice.trans (hmem.trans (updMem_mem ..))⟩

theorem bankTestDone_eq (h : (d.mem m).testing = some b) (pass : Bool) :
    d.bankTestDone m pass = (if pass then (d.testOver m).spareBack m b else (d.testOver m).retire m b).evacNext m := by
  unfold Dev.bankTestDone
  rw [h]
  rfl

variable (h : (d.mem m).testing = some b) (hnext : (d.mem m).evacWait = [])
include h hnext

/-- A bank that passes is a spare. -/
theorem bankTestDone_passes (hb : b < 64) : let u := d.bankTestDone m true
    (u.mem m).testing = none ∧ u.bit m.evacBusy = false ∧
    (u.get (m.fld FL_SPAREMAP_SPARE0 FY_SPAREMAP_SPARE0) = b ∨ u.get (m.fld FL_SPAREMAP_SPARE1 FY_SPAREMAP_SPARE1) = b) ∧
    (u.mem m).retired = (d.mem m).retired := by
  obtain ⟨hbusy, hover⟩ := testOver_shows d m
  have hframe := onlyIn_spareBack (d.testOver m) m b
  have hmem : ((d.testOver m).spareBack m b).mem m = { d.mem m with testing := none } :=
    ((hframe.mono (by simp) fun _ h => h : OnlyIn eventParts _ _ _).mem_eq m).trans hover
  dsimp only
  rw [bankTestDone_eq h, if_pos rfl, evacNext_none (by rw [hmem]; exact hnext), hmem]
  exact ⟨rfl, (hframe.bit_eq (orEvent_mono (fun _ => List.mem_append_right _) (evac_free m))).trans hbusy, spareBack_shows _ m b hb, rfl⟩

/-- A bank that fails is retired. -/
theorem bankTestDone_fails : let u := d.bankTestDone m false
    (u.mem m).testing = none ∧ u.bit m.evacBusy = false ∧ (u.mem m).retired = (d.mem m).retired ++ [b] := by
  obtain ⟨hbusy, hover⟩ := testOver_shows d m
  have hmem := retire_mem (d.testOver m) m b
  rw [hover] at hmem
  dsimp only
  rw [bankTestDone_eq h, if_neg (by decide), evacNext_none (by rw [hmem]; exact hnext), hmem]
  exact ⟨rfl, ((onlyIn_retire ..).bit_eq (orEvent_mono (fun _ => List.mem_append_right _) (evac_free m))).trans hbusy, rfl⟩

end

end Sys2Proof.Machine
end

section
/-! O38: evacuations and bank tests of a memory as commands (03 R77 to R80, R87). -/

namespace Sys2Proof.Machine

section
variable {s : State} {m : Mem} {lb : Nat} (hl : lb < m.lbanks)
include hl

theorem exec_bankEvacuate : exec (.bankEvacuate m lb) s = s.upd fun d => ((d.bankNamed m lb).bankEvac m lb).1 := by
  show s.upd (fun d => ((d.bankNamed m lb).bankEvac m (lb % m.lbanks)).1) = _
  rw [Nat.mod_eq_of_lt hl]

theorem exec_bankTest (force : Bool) : exec (.bankTest m lb force) s =
    s.upd fun d => ((d.bankNamed m lb).bankTest m lb force fun d => d.foyerReset false).1 := by
  show s.upd (fun d => ((d.bankNamed m lb).bankTest m (lb % m.lbanks) force fun d => d.foyerReset false).1) = _
  rw [Nat.mod_eq_of_lt hl]

/-- BANK_EVACUATE and BANK_TEST begin the copy to the first spare. -/
theorem evacuation_begins {sp : Nat} (hs : s.dev.spareBank m = some sp) (hi : s.dev.evacIdle m = true) :
    let begun (test : Bool) (u : Dev) : Prop :=
      u.mem m = { s.dev.mem m with
        evacTo := some (lb, sp), evacTest := test, words := (s.dev.mem m).words.filter fun e => e.1 / 32768 ≠ sp
        ranges := (s.dev.mem m).ranges.filter fun e => e.1 ≠ sp } ∧ u.bit m.evacBusy = true ∧ OnlyIn [m.part] m.evacKey s.dev u
    Answers (.bankEvacuate m lb) s (begun false) ∧ ∀ force, Answers (.bankTest m lb force) s (begun true) := by
  have hspare := (bankNamed_spareBank s.dev m lb).trans hs
  have hidle := (bankNamed_evacIdle s.dev m lb).trans hi
  have hstart := evacStart_begins s.dev m (s.dev.bankNamed m lb) (onlyIn_bankNamed s.dev m lb) (put_mem ..) lb sp
  refine ⟨answers_of_upd (exec_bankEvacuate hl) ?_, fun force => answers_of_upd (exec_bankTest hl force) ?_⟩
  · rw [bankEvac_starts hspare hidle]
    exact hstart false
  · rw [bankTest_starts hspare hidle]
    exact hstart true

/-- Without a free spare, or during another operation, they are refused and nothing begins. -/
theorem evacuation_refused (h : s.dev.spareBank m = none ∨ s.dev.evacIdle m = false) :
    let refused (u : Dev) : Prop := u.get m.evacResult = E_BUSY_SERVICE ∧ u.bit m.evacEnded = true ∧ u.mem m = s.dev.mem m ∧
      OnlyIn [] m.evacKey s.dev u
    Answers (.bankEvacuate m lb) s refused ∧ Answers (.bankTest m lb false) s refused := by
  have hnamed : (s.dev.bankNamed m lb).spareBank m = none ∨ (s.dev.bankNamed m lb).evacIdle m = false := by
    rwa [bankNamed_spareBank, bankNamed_evacIdle]
  obtain ⟨hres, hend, -, hmem⟩ := evacEnds_shows (s.dev.bankNamed m lb) m (r := E_BUSY_SERVICE) (by decide)
  have hframe := (onlyIn_bankNamed s.dev m lb).trans (onlyIn_evacEnds (s.dev.bankNamed m lb) m E_BUSY_SERVICE)
  refine ⟨answers_of_upd (exec_bankEvacuate hl) ?_, answers_of_upd (exec_bankTest hl false) ?_⟩
  · rw [bankEvac_refused hnamed]
    exact ⟨hres, hend, hmem.trans (put_mem ..), hframe⟩
  · rw [bankTest_refused hnamed]
    exact ⟨hres, hend, hmem.trans (put_mem ..), hframe⟩

end

/-- A forced test without a free spare takes a standby flight to TESTING (03 R80). -/
theorem forcedTest_takes {s : State} {f : Flt} {lb : Nat} (hl : lb < (Mem.fl f).lbanks) (hs : s.dev.spareBank (.fl f) = none)
    (hi : s.dev.evacIdle (.fl f) = true) (hf : s.dev.fst f = fsStandby) : Answers (.bankTest (.fl f) lb true) s fun u =>
    u.fst f = fsTesting ∧ u.fst f.other = s.dev.fst f.other := by
  have hnamed : ∀ g, (s.dev.bankNamed (.fl f) lb).fst g = s.dev.fst g := fun g =>
    get_put_key _ _ (by rw [nwStateFld_key]; cases f <;> decide)
  refine answers_of_upd (exec_bankTest hl true) ?_
  rw [bankTest_forced ((bankNamed_spareBank ..).trans hs) ((bankNamed_evacIdle ..).trans hi) ((hnamed f).trans hf)]
  obtain ⟨hself, hother⟩ := takeOut_tests (s.dev.bankNamed (.fl f) lb) f
  exact ⟨hself, hother.trans (hnamed _)⟩

/-- EVACUATION_DONE puts the logical bank on the spare, frees its former bank's entries and retires that bank or tests it (03 R77, R79). -/
theorem evacuation_done {s : State} {m : Mem} {lb new : Nat} (ue : List Nat) (hl : lb < m.lbanks) (hto : (s.dev.mem m).evacTo = some (lb, new))
    (hn : new < 64) (hmem : (s.dev.mem m).memWait = []) (hevac : (s.dev.mem m).evacWait = [])
    (hthr : s.dev.get (m.fld FL_SCRUBCFG_CETHR FY_SCRUBCFG_CETHR) = 0) : Answers (.evacuationDone m ue) s fun u =>
      u.phys m lb = new ∧ (u.mem m).evacTo = none ∧
      (∀ n, n < m.entries → s.dev.bit (m.remapValid n) = true →
        s.dev.get (m.remapFld FL_REMAP_PBANK FY_REMAP_PBANK n) = s.dev.phys m lb →
        s.dev.bit (m.remapFld FL_REMAP_UE FY_REMAP_UE n) = false → ue = [] → (s.dev.mem m).words = [] → u.bit (m.remapValid n) = false) ∧
      ((s.dev.mem m).evacTest = false → (u.mem m).retired = (s.dev.mem m).retired ++ [s.dev.phys m lb] ∧ u.bit m.evacBusy = false ∧
        u.get m.evacResult = E_OK) ∧
      ((s.dev.mem m).evacTest = true → (u.mem m).testing = some (s.dev.phys m lb) ∧ (u.mem m).retired = (s.dev.mem m).retired) := by
  refine answers_of_upd (g := fun d => d.evacDone m ue) rfl ⟨?_, ?_, ?_, ?_, ?_⟩
  · refine (get_of_rd (evacDone_rd hto hmem hevac hthr ?_)).trans (bankMoved_phys hl hn)
    exact orEvent_mono (fun _ hk => List.cons_subset_cons _ (List.subset_append_right _ _) hk) (bankFld_free m hl)
  · cases htest : (s.dev.mem m).evacTest with
    | true => exact (evacDone_tests hto hmem hthr htest).2.1
    | false => exact (evacDone_retires hto hmem hevac hthr htest).2.1
  · rintro n hentry hv hp - rfl hwords
    have hclean : s.dev.unharmed m := fun e he => absurd (hwords ▸ he) List.not_mem_nil
    exact (bit_of_get (get_of_rd (evacDone_rd hto hmem hevac hthr (remapValid_free m hentry)))).trans (bankMoved_frees hclean hl hentry hv hp)
  · intro htest
    obtain ⟨hregs, -, hret⟩ := evacDone_retires (ue := ue) hto hmem hevac hthr htest
    obtain ⟨hres, hbusy, -⟩ := bankRetired_shows (s.dev.bankMoved m lb new ue) m (s.dev.phys m lb)
    exact ⟨hret, (bit_of_get (get_of_regs hregs _)).trans hbusy, (get_of_regs hregs _).trans hres⟩
  · intro htest
    obtain ⟨-, -, htesting, hret⟩ := evacDone_tests (ue := ue) hto hmem hthr htest
    exact ⟨htesting, hret⟩

/-- Settles O38: an evacuation begins, is refused or takes a flight out; its end moves the logical bank, and the end of a test settles the bank. -/
theorem evacuationsMoveALogicalBank : Obligations.EvacuationsMoveALogicalBank := by
  unfold Obligations.EvacuationsMoveALogicalBank
  intro s m lb d evac hl
  refine ⟨fun sp => evacuation_begins hl, ?_, evacuation_refused hl,
    fun new ue hto hn hmem hevac hthr _ => evacuation_done ue hl hto hn hmem hevac hthr, fun b h hb hnext => ⟨?_, ?_⟩⟩
  · rintro f rfl
    exact forcedTest_takes hl
  · exact answers_of_upd (g := fun d => d.bankTestDone m true) rfl (bankTestDone_passes h hnext hb)
  · exact answers_of_upd (g := fun d => d.bankTestDone m false) rfl (bankTestDone_fails h hnext)

end Sys2Proof.Machine
end

section
/-! What decides a boundary in the Newel, and that messages, arrivals and the Loggia's strobe leave it (01 R30, R42; 04 R95 to R110; 13 R351). -/

namespace Sys2Proof.Machine

/-- What the Newel decides with: module state, commit sets signalled and in fetch, the last scan committed, and the transfer and the
requests in progress (04 R95 to R118). -/
structure NewelCore where
  /-- cycle count -/
  cycle : Nat
  /-- module state on the field side -/
  modState : Nat
  /-- commit sets signalled by flight A -/
  sigA : List CommitSet
  /-- commit sets signalled by flight B -/
  sigB : List CommitSet
  /-- commit set in fetch -/
  fetch : Option (Nat × CommitSet)
  /-- last scan committed -/
  lastScan : Option Nat
  /-- stair transfer in progress -/
  stair : Option Stair
  /-- request of NW_SWCTL in progress -/
  plan : Option PlanReq
  /-- switch-over that waits -/
  switching : Option PlanReq

/-- That part of the Newel's state. -/
def NewelSt.core (n : NewelSt) : NewelCore := ⟨n.cycle, n.modState, n.sigA, n.sigB, n.fetch, n.lastScan, n.stair, n.plan, n.switching⟩

/-- What the module's Newel decides with. -/
def Dev.newelCore (d : Dev) : NewelCore := d.nw.core

/-! ## Registers, messages and flight states -/

@[simp] theorem put_newelCore (d : Dev) (x : Fld) (v : Nat) : (d.put x v).newelCore = d.newelCore := rfl
@[simp] theorem inc_newelCore (d : Dev) (x : Fld) (n : Nat) : (d.inc x n).newelCore = d.newelCore := rfl
@[simp] theorem updLg_newelCore (d : Dev) (g : LoggiaSt → LoggiaSt) : (d.updLg g).newelCore = d.newelCore := rfl

@[simp] theorem raiseNw_newelCore (d : Dev) (e : Ev) : (d.raiseNw e).newelCore = d.newelCore := by
  obtain ⟨_, _, _, h⟩ := sendUp_nw d (evMsg e)
  rw [Dev.newelCore, Dev.raiseNw, h]
  rfl

@[simp] theorem nwStat_newelCore (d : Dev) : d.nwStat.newelCore = d.newelCore := congrArg NewelSt.core ((onlyIn_nwStat d).nw_eq (by decide))

@[simp] theorem setFl_newelCore (d : Dev) (f : Flt) (new : Nat) : (d.setFl f new).newelCore = d.newelCore := by
  by_cases h : d.fst f = new
  · rw [setFl_same h]
  · rw [setFl_moves h, nwStat_newelCore, raiseNw_newelCore, put_newelCore]

@[simp] theorem statusNow_newelCore (d : Dev) : (d.statusNow false).newelCore = d.newelCore := by
  rw [Dev.newelCore, (statusNow_field_part d).1]
  rfl

/-! ## Arrivals and the Loggia's strobe -/

@[simp] theorem coalesced_newelCore (d : Dev) : d.coalesced.newelCore = d.newelCore := by
  obtain ⟨_, _, _, _, _, h⟩ := coalesced_nw d
  rw [Dev.newelCore, h]
  rfl

@[simp] theorem ingress_newelCore (d : Dev) (fr : InFrame) : (d.ingress fr).newelCore = d.newelCore := by
  unfold Dev.ingress
  split
  · rfl
  · split
    · exact coalesced_newelCore _
    · rfl

theorem OnlyIn.coalesced {ps : List Part} {ks : Nat → Bool} {d e : Dev} (h : OnlyIn ps ks d e) (hc : .cor ∈ ps) (hn : .nw ∈ ps) :
    OnlyIn ps ks d e.coalesced := .ite ((h.updNw _ hn).raiseNw _ hc hn) h

theorem OnlyIn.ingress {ps : List Part} {ks : Nat → Bool} {d e : Dev} (h : OnlyIn ps ks d e) (fr : InFrame) (hc : .cor ∈ ps) (hn : .nw ∈ ps) :
    OnlyIn ps ks d (e.ingress fr) := .ite (h.updNw _ hn) (.ite ((h.updNw _ hn).coalesced hc hn) (h.updNw _ hn))

theorem onlyIn_updLg (d : Dev) (g : LoggiaSt → LoggiaSt) : OnlyIn [.lg] noKey d (d.updLg g) :=
  onlyIn_part .lg rfl fun p h => by cases p <;> simp [Part.same] at h ⊢

theorem OnlyIn.updLg {ps : List Part} {ks : Nat → Bool} {d e : Dev} (h : OnlyIn ps ks d e) (g : LoggiaSt → LoggiaSt) (hp : .lg ∈ ps) :
    OnlyIn ps ks d (e.updLg g) := h.step hp (onlyIn_updLg e g)

/-- STATUS records of every chain. -/
def Dev.lgStatusAll (d : Dev) : Dev := (List.range 8).foldl (fun d n => d.lgStatusRec n) d

theorem onlyIn_lgStatusAll (d : Dev) : OnlyIn [.cor, .nw] noKey d d.lgStatusAll :=
  .foldl (fun _ _ _ => (onlyIn_refl ..).ingress _ (by decide) (by decide)) d

theorem OnlyIn.lgStatusAll {ps : List Part} {ks : Nat → Bool} {d e : Dev} (h : OnlyIn ps ks d e) (hc : .cor ∈ ps) (hn : .nw ∈ ps) :
    OnlyIn ps ks d e.lgStatusAll := h.trans ((onlyIn_lgStatusAll e).mono (by simp [hc, hn]) fun _ _ => rfl)

/-- Operations one after another keep the core that each keeps. -/
theorem foldl_newelCore {α : Type} {g : Dev → α → Dev} (h : ∀ d a, (g d a).newelCore = d.newelCore) (l : List α) (d : Dev) :
    (l.foldl g d).newelCore = d.newelCore := by
  induction l generalizing d with
  | nil => rfl
  | cons a t ih => exact (ih _).trans (h d a)

@[simp] theorem lgStatusAll_newelCore (d : Dev) : d.lgStatusAll.newelCore = d.newelCore := foldl_newelCore (fun _ _ => ingress_newelCore ..) _ d

/-- LST, ERR and HOLDOVER as the strobe leaves them, told to the flights when the Loggia locks or steps (13 R351). -/
theorem lgStrobe_eq (d : Dev) (time lst : Nat) (holdover : Bool) : d.lgStrobe time lst holdover =
    let e : Int := (lst : Int) - time
    let d1 := (d.put LG_TIMESTAT_ERR ((clampI (-32767) 32767 e % 65536).toNat)).put LG_TIMESTAT_HOLDOVER (b2n holdover)
    let locked := d.bit LG_TIMESTAT_LOCKED
    if !locked && d.lg.stepped && decide (e.natAbs ≤ 1000) then
      ((d1.updLg fun x => { x with lst := lst, slew := e }).put LG_TIMESTAT_LOCKED 1).lgStatusAll
    else if !locked || decide (10000 < e.natAbs) then
      let d2 := (((d1.updLg fun x => { x with lst := time, stepped := true, slew := 0 }).put LG_TIMESTAT_LOCKED 0).inc
        LG_TIMESTAT_STEPS).raiseNw (.mk' .lgTime [-e, 0])
      if locked then d2.lgStatusAll else d2
    else d1.updLg fun x => { x with lst := lst, slew := e } := rfl

theorem onlyIn_lgStrobe (d : Dev) (time lst : Nat) (holdover : Bool) :
    OnlyIn [.nw, .cor, .lg] (fun k => k == LG_TIMESTAT) d (d.lgStrobe time lst holdover) := by
  rw [lgStrobe_eq]
  extract_lets e d1 locked d2
  have h1 : OnlyIn [.nw, .cor, .lg] (fun k => k == LG_TIMESTAT) d d1 := ((onlyIn_refl ..).put _ (by decide)).put _ (by decide)
  have h2 : OnlyIn [.nw, .cor, .lg] (fun k => k == LG_TIMESTAT) d d2 :=
    (((h1.updLg _ (by decide)).put _ (by decide)).inc _ (by decide)).raiseNw _ (by decide) (by decide)
  exact .ite (((h1.updLg _ (by decide)).put _ (by decide)).lgStatusAll (by decide) (by decide))
    (.ite (.ite (h2.lgStatusAll (by decide) (by decide)) h2) (h1.updLg _ (by decide)))

@[simp] theorem lgStrobe_newelCore (d : Dev) (time lst : Nat) (holdover : Bool) : (d.lgStrobe time lst holdover).newelCore = d.newelCore := by
  rw [lgStrobe_eq]
  extract_lets e d1 locked d2
  have h1 : ∀ g, (d1.updLg g).newelCore = d.newelCore := fun g => by rw [updLg_newelCore, put_newelCore, put_newelCore]
  have h2 : d2.newelCore = d.newelCore := by rw [raiseNw_newelCore, inc_newelCore, put_newelCore, h1]
  split
  · rw [lgStatusAll_newelCore, put_newelCore, h1]
  · split
    · split
      · rw [lgStatusAll_newelCore, h2]
      · exact h2
    · exact h1 _

end Sys2Proof.Machine
end

section
/-! A flight that fails at a boundary while the other stands by: its code, the promotion, and the commit set that is fetched (04 R95, R98 to R100,
R105, R118, R123). -/

namespace Sys2Proof.Machine

/-! ## Commit sets signalled -/

theorem updSig_core {n m : NewelSt} (h : n.core = m.core) (f : Flt) (g : List CommitSet → List CommitSet) :
    (n.updSig f g).core = (m.updSig f g).core := by
  obtain ⟨hc, hm, ha, hb, hf, hl, hs, hp, hw⟩ := NewelCore.mk.inj h
  cases f <;> simp only [NewelSt.updSig, NewelSt.core, hc, hm, ha, hb, hf, hl, hs, hp, hw]

theorem updSig_sig (n : NewelSt) (f : Flt) (g : List CommitSet → List CommitSet) : (n.updSig f g).sig f = g (n.sig f) := by cases f <;> rfl
/-- A change of the signalled sets of one flight leaves the rest of what the Newel decides with. -/
theorem updSig_keeps (n : NewelSt) (f : Flt) (g : List CommitSet → List CommitSet) : (n.updSig f g).cycle = n.cycle ∧
    (n.updSig f g).modState = n.modState ∧ (n.updSig f g).fetch = n.fetch ∧ (n.updSig f g).lastScan = n.lastScan ∧
    (n.updSig f g).stair = n.stair ∧ (n.updSig f g).plan = n.plan := by cases f <;> exact ⟨rfl, rfl, rfl, rfl, rfl, rfl⟩

theorem setRetry_core (n : NewelSt) (f : Flt) (c : Option Nat) : (n.setRetry f c).core = n.core := by cases f <;> rfl

/-! ## The failure (04 R100, R118) -/

/-- NW_FAULTA and NW_FAULTB. -/
def faultKey (k : Nat) : Bool := k == NW_FAULTA || k == NW_FAULTB

theorem nwFault_key {x : Fld} (hx : x.key = NW_FAULTA) (f : Flt) : faultKey (nwFault f x).key = true := by
  cases f
  · change faultKey x.key = true
    rw [hx]
    rfl
  · change faultKey (x.key + 4) = true
    rw [hx]
    rfl

theorem other_ne (f : Flt) : f.other ≠ f := by cases f <;> decide

theorem onlyIn_recordFail (d : Dev) (f : Flt) (code : Nat) : OnlyIn [.nw] faultKey d (d.recordFail f code) :=
  ((((onlyIn_refl ..).updNw _ (by decide)).put _ (nwFault_key rfl f)).put _ (nwFault_key rfl f)).inc _ (nwFault_key rfl f)

theorem recordFail_code (d : Dev) (f : Flt) {code : Nat} (hc : code < 256) :
    (d.recordFail f code).get (nwFault f NW_FAULTA_CODE) = code := by
  have hput : ∀ e : Dev, (e.put (nwFault f NW_FAULTA_CODE) code).get (nwFault f NW_FAULTA_CODE) = code := fun e =>
    get_put_same e _ _ (by cases f <;> rfl) (by cases f <;> exact hc)
  refine (get_inc_other _ _ _ _ ?_ ?_ ?_).trans ((get_put_other _ _ _ _ ?_ ?_ ?_).trans (hput _))
  all_goals cases f <;> rfl

@[simp] theorem recordFail_newelCore (d : Dev) (f : Flt) (code : Nat) : (d.recordFail f code).newelCore = d.newelCore := by
  unfold Dev.recordFail
  rw [inc_newelCore, put_newelCore, put_newelCore]
  cases f <;> rfl

theorem onlyIn_failTold (d : Dev) (f : Flt) (code : Nat) : OnlyIn [.nw, .cor] faultKey d (d.failTold f code) :=
  ((onlyIn_recordFail d f code).mono (by decide) fun _ h => h).raiseNw _ (by decide) (by decide)

theorem onlyIn_failedFl (d : Dev) (f : Flt) : OnlyIn [.nw, .cor] (fun k => k == NW_STAT) d (d.failedFl f) :=
  (((onlyIn_refl ..).setFl f _ (by decide) (by decide) (by decide)).updNw _ (by decide)).updNw _ (by decide)

theorem failedFl_newelCore (d : Dev) (f : Flt) : (d.failedFl f).newelCore = (d.nw.updSig f fun _ => []).core := by
  change (((d.setFl f fsFailed).nw.setRetry f (some (d.setFl f fsFailed).nw.cycle)).updSig f fun _ => []).core = _
  exact updSig_core ((setRetry_core ..).trans (setFl_newelCore d f fsFailed)) f _

/-- Without quarantine and without a transfer, a failure is recorded and told and leaves the flight in FAILED. -/
theorem failFl_alone {d : Dev} (hq : d.bit NW_REPAIRCFG_QEN = false) (hs : d.nw.stair = none) (f : Flt) (code : Nat) :
    d.failFl f code = (d.failTold f code).failedFl f := by
  have hstair : (d.failTold f code).stairLeft f = d.failTold f code := by
    have : (d.failTold f code).nw.stair = none :=
      (congrArg NewelCore.stair ((raiseNw_newelCore ..).trans (recordFail_newelCore d f code))).trans hs
    unfold Dev.stairLeft
    rw [this]
  rw [failFl_eq, hstair]
  exact quarantineDue_off (((onlyIn_failedFl ..).bit_eq rfl).trans (((onlyIn_failTold d f code).bit_eq rfl).trans hq)) f code

/-- What such a failure leaves: FAILED with its code, the other flight's state, and no commit set of the flight. -/
theorem failFl_fails {d : Dev} (hq : d.bit NW_REPAIRCFG_QEN = false) (hs : d.nw.stair = none) (f : Flt) {code : Nat} (hc : code < 256) :
    let u := d.failFl f code
    OnlyIn [.nw, .cor] (fun k => k == NW_STAT || faultKey k) d u ∧ u.fst f = fsFailed ∧ u.fst f.other = d.fst f.other ∧
      u.get (nwFault f NW_FAULTA_CODE) = code ∧ u.newelCore = (d.nw.updSig f fun _ => []).core := by
  rw [failFl_alone hq hs]
  have htold := onlyIn_failTold d f code
  have hfailed := onlyIn_failedFl (d.failTold f code) f
  refine ⟨(htold.mono (by decide) fun k hk => (Bool.or_eq_false_iff.1 hk).2).trans (hfailed.mono (by decide) fun k hk =>
    (Bool.or_eq_false_iff.1 hk).1), failedFl_fst .., ?_, ?_, ?_⟩
  · exact (setFl_fst_other _ (other_ne f) _).trans (fst_of_onlyIn htold rfl _)
  · exact (hfailed.get_eq (by cases f <;> rfl)).trans ((raiseNw_get ..).trans (recordFail_code d f hc))
  · exact (failedFl_newelCore ..).trans (updSig_core ((raiseNw_newelCore ..).trans (recordFail_newelCore d f code)) f _)

/-! ## The promotion (04 R95, R105, R123) -/

/-- NW_SWSTAT after a failover from one flight with a code. -/
def Dev.switchShown (d : Dev) (source : Flt) (code : Nat) : Dev :=
  (((d.put NW_SWSTAT_FROM source.num).put NW_SWSTAT_PLANNED 0).put NW_SWSTAT_CAUSE code).put NW_SWSTAT_LAT 0

/-- The standby flight takes over: ACTIVE, and NW_SWSTAT and NW_SWCNT show it. -/
def Dev.takesOver (d : Dev) (f : Flt) (code : Nat) : Dev := ((d.setFl f fsActive).switchShown f.other code).inc NW_SWCNT_FAILOVER

/-- The Newel at a promotion: the oldest set that the flight has signalled is fetched when it is present. -/
def NewelSt.fetchesOldest (n : NewelSt) (f : Flt) (code : Nat) : NewelSt := { n with
  early := none, matched := 0, recogAt := some n.cycle, promoted := some code
  fetch := match (n.sig f).head? with
    | some cs => if cs.signalAt < n.cycle then some (f.num, cs) else none
    | none => none }

/-- The sets of scans already committed go. -/
def NewelSt.dropsCommitted (n : NewelSt) (f : Flt) : NewelSt := n.updSig f fun l => l.filter fun c => n.uncommitted c.scan

theorem promote_eq (d : Dev) (f : Flt) (code : Nat) :
    d.promote f code = (((d.planEnds E_SEQ).takesOver f code).updNw fun n => n.dropsCommitted f).updNw fun n => n.fetchesOldest f code := rfl

/-- With no request in progress, only a switch-over that waits is given up. -/
theorem planEnds_none {d : Dev} (h : d.nw.plan = none) (r : Nat) :
    d.planEnds r = d.updNw fun n => { n with plan := none, switching := none, quarAfter := none } := by
  unfold Dev.planEnds
  rw [h]

/-- NW_STAT, NW_SWSTAT and NW_SWCNT. -/
def switchKey (k : Nat) : Bool := k == NW_STAT || k == NW_SWSTAT || k == NW_SWCNT

theorem onlyIn_switchShown (d : Dev) (f : Flt) (code : Nat) : OnlyIn [] (fun k => k == NW_SWSTAT) d (d.switchShown f code) :=
  ((((onlyIn_refl ..).put _ (by decide)).put _ (by decide)).put _ (by decide)).put _ (by decide)

theorem switchShown_shows (d : Dev) (f : Flt) {code : Nat} (hc : code < 256) :
    (d.switchShown f code).get NW_SWSTAT_FROM = f.num ∧ (d.switchShown f code).get NW_SWSTAT_CAUSE = code := by
  have hnum : f.num < 2 := by cases f <;> decide
  exact ⟨(get_put_other _ _ _ _ rfl rfl rfl).trans ((get_put_other _ _ _ _ rfl rfl rfl).trans ((get_put_other _ _ _ _ rfl rfl rfl).trans
    (get_put_same d _ _ rfl hnum))), (get_put_other _ _ _ _ rfl rfl rfl).trans (get_put_same _ _ _ rfl hc)⟩

theorem onlyIn_takesOver (d : Dev) (f : Flt) (code : Nat) : OnlyIn [.nw, .cor] switchKey d (d.takesOver f code) := by
  have hset : OnlyIn [.nw, .cor] switchKey d (d.setFl f fsActive) := (onlyIn_refl ..).setFl f _ (by decide) (by decide) (by decide)
  refine (hset.trans ((onlyIn_switchShown _ f.other code).mono (by decide) fun k hk => ?_)).inc _ (by decide)
  simp only [switchKey, Bool.or_eq_false_iff] at hk
  exact hk.1.2

@[simp] theorem takesOver_newelCore (d : Dev) (f : Flt) (code : Nat) : (d.takesOver f code).newelCore = d.newelCore := by
  unfold Dev.takesOver
  rw [inc_newelCore, Dev.newelCore, (onlyIn_switchShown ..).nw_eq (by decide)]
  exact setFl_newelCore ..

/-- What a take-over shows in NW_STAT, NW_SWSTAT and NW_SWCNT. -/
theorem takesOver_shows (d : Dev) (f : Flt) {code : Nat} (hc : code < 256) : (d.takesOver f code).fst f = fsActive ∧
    (d.takesOver f code).fst f.other = d.fst f.other ∧ (d.takesOver f code).get NW_SWSTAT_FROM = f.other.num ∧
    (d.takesOver f code).get NW_SWSTAT_CAUSE = code ∧ (d.takesOver f code).get NW_SWCNT_FAILOVER =
      min (d.get NW_SWCNT_FAILOVER + 1) (2 ^ (NW_SWCNT_FAILOVER.hi + 1 - NW_SWCNT_FAILOVER.lo) - 1) := by
  have hset : OnlyIn [.nw, .cor] (fun k => k == NW_STAT) d (d.setFl f fsActive) := (onlyIn_refl ..).setFl f _ (by decide) (by decide) (by decide)
  have hshow := onlyIn_switchShown (d.setFl f fsActive) f.other code
  obtain ⟨hfrom, hcause⟩ := switchShown_shows (d.setFl f fsActive) f.other hc
  have hcount := (onlyIn_refl [] (fun k => k == NW_SWCNT) ((d.setFl f fsActive).switchShown f.other code)).inc (x := NW_SWCNT_FAILOVER) 1 (by decide)
  refine ⟨?_, ?_, (hcount.get_eq rfl).trans hfrom, (hcount.get_eq rfl).trans hcause, ?_⟩
  · exact (fst_of_onlyIn hcount rfl f).trans ((fst_of_onlyIn hshow rfl f).trans (setFl_fst_same d f (by decide)))
  · exact (fst_of_onlyIn hcount rfl _).trans ((fst_of_onlyIn hshow rfl _).trans (setFl_fst_other d (other_ne f) _))
  · rw [Dev.takesOver, get_inc_same _ _ _ rfl, hshow.get_eq rfl, hset.get_eq rfl]

/-- The only set signalled, of a scan not yet committed and present at the boundary, is fetched. -/
theorem oldest_fetched {n : NewelSt} {f : Flt} {cs : CommitSet} (hsig : n.sig f = [cs]) (hnew : n.uncommitted cs.scan = true)
    (hpresent : cs.signalAt < n.cycle) (code : Nat) : ((n.dropsCommitted f).fetchesOldest f code).fetch = some (f.num, cs) := by
  obtain ⟨hcycle, -⟩ := updSig_keeps n f fun l => l.filter fun c => n.uncommitted c.scan
  have hleft : ((n.dropsCommitted f).sig f).head? = some cs := by
    rw [NewelSt.dropsCommitted, updSig_sig, hsig]
    simp [hnew]
  have hnow : cs.signalAt < (n.dropsCommitted f).cycle := hpresent.trans_eq hcycle.symm
  simp only [NewelSt.fetchesOldest, hleft, if_pos hnow]

theorem promotion_keeps (n : NewelSt) (f : Flt) (code : Nat) : let m := (n.dropsCommitted f).fetchesOldest f code
    m.modState = n.modState ∧ m.lastScan = n.lastScan ∧ m.stair = n.stair := by cases f <;> exact ⟨rfl, rfl, rfl⟩

theorem uncommitted_of_lastScan {n m : NewelSt} (h : n.lastScan = m.lastScan) (scan : Nat) : n.uncommitted scan = m.uncommitted scan := by
  rw [NewelSt.uncommitted, h]
  rfl

/-- A flight has taken over as the active one, with a commit set in fetch. -/
structure TakenOver (d : Dev) (f : Flt) (code : Nat) (cs : CommitSet) (u : Dev) : Prop where
  frame : OnlyIn [.nw, .cor] switchKey d u
  active : u.fst f = fsActive
  other : u.fst f.other = d.fst f.other
  source : u.get NW_SWSTAT_FROM = f.other.num
  cause : u.get NW_SWSTAT_CAUSE = code
  count : u.get NW_SWCNT_FAILOVER = min (d.get NW_SWCNT_FAILOVER + 1) (2 ^ (NW_SWCNT_FAILOVER.hi + 1 - NW_SWCNT_FAILOVER.lo) - 1)
  fetch : u.nw.fetch = some (f.num, cs)
  kept : u.nw.modState = d.nw.modState ∧ u.nw.lastScan = d.nw.lastScan ∧ u.nw.stair = d.nw.stair

theorem promote_takesOver {d : Dev} {f : Flt} {cs : CommitSet} (hp : d.nw.plan = none) (hsig : d.nw.sig f = [cs])
    (hnew : d.nw.uncommitted cs.scan = true) (hpresent : cs.signalAt < d.nw.cycle) {code : Nat} (hc : code < 256) :
    TakenOver d f code cs (d.promote f code) := by
  rw [promote_eq, planEnds_none hp]
  have hfree := onlyIn_updNw d fun n => { n with plan := none, switching := none, quarAfter := none }
  have hcore : (d.updNw fun n => { n with plan := none, switching := none, quarAfter := none }).newelCore =
    { d.newelCore with plan := none, switching := none } := rfl
  generalize (d.updNw fun n => { n with plan := none, switching := none, quarAfter := none }) = e at hfree hcore ⊢
  obtain ⟨hactive, hother, hfrom, hcause, hcount⟩ := takesOver_shows e f hc
  have htook := onlyIn_takesOver e f code
  have htcore := (takesOver_newelCore e f code).trans hcore
  generalize e.takesOver f code = t at hactive hother hfrom hcause hcount htook htcore ⊢
  have hlast : t.nw.lastScan = d.nw.lastScan := congrArg NewelCore.lastScan htcore
  have hcycle : t.nw.cycle = d.nw.cycle := congrArg NewelCore.cycle htcore
  have hsets : t.nw.sig f = d.nw.sig f := by
    cases f
    · exact congrArg NewelCore.sigA htcore
    · exact congrArg NewelCore.sigB htcore
  have hfetch := oldest_fetched (hsets.trans hsig) ((uncommitted_of_lastScan hlast _).trans hnew) (by rwa [hcycle]) code
  obtain ⟨hstate, hscan, hstair⟩ := promotion_keeps t.nw f code
  have hmoved := (onlyIn_updNw t fun n => n.dropsCommitted f).trans (onlyIn_updNw _ fun n => n.fetchesOldest f code)
  have hfst : ∀ g, e.fst g = d.fst g := fst_of_onlyIn hfree rfl
  exact {
    frame := ((hfree.mono (by decide) fun _ _ => rfl).trans htook).trans (hmoved.mono (by decide) fun _ _ => rfl)
    active := (fst_of_onlyIn hmoved rfl _).trans hactive
    other := (fst_of_onlyIn hmoved rfl _).trans (hother.trans (hfst _))
    source := (hmoved.get_eq rfl).trans hfrom
    cause := (hmoved.get_eq rfl).trans hcause
    count := by rw [hmoved.get_eq rfl, hcount, hfree.get_eq rfl]
    fetch := hfetch
    kept := ⟨hstate.trans (congrArg NewelCore.modState htcore), hscan.trans hlast, hstair.trans (congrArg NewelCore.stair htcore)⟩ }

/-! ## SERVICE gives way to DEGRADED (02 R54) -/

@[simp] theorem fieldMod_newelCore (d : Dev) (new : Nat) : (d.fieldMod new).newelCore = { d.newelCore with modState := new } := by
  unfold Dev.fieldMod
  split
  · next h =>
    subst h
    rfl
  · exact statusNow_newelCore _

theorem modFollows_lost {d : Dev} (hm : d.nw.modState = msService) (hp : d.pair = none) : d.modFollows = d.fieldMod msDegraded :=
  if_pos ⟨hm, by rw [hp]; rfl⟩

/-! ## Failure and promotion at one boundary (04 R105) -/

theorem active_other {d : Dev} {f : Flt} (hf : d.fst f ≠ fsActive) (ho : d.fst f.other = fsActive) : d.active = some f.other := by
  unfold Dev.active
  cases f
  · exact (if_neg hf).trans (if_pos ho)
  · exact if_pos ho

theorem other_other (f : Flt) : f.other.other = f := by cases f <;> rfl

/-- An active flight has failed with a code and the other one has taken over, with a commit set in fetch. -/
structure Promoted (d : Dev) (f : Flt) (code : Nat) (cs : CommitSet) (u : Dev) : Prop where
  failed : u.fst f = fsFailed
  active : u.fst f.other = fsActive
  shown : u.get (nwFault f NW_FAULTA_CODE) = code
  cause : u.get NW_SWSTAT_CAUSE = code
  source : u.get NW_SWSTAT_FROM = f.num
  count : u.get NW_SWCNT_FAILOVER = min (d.get NW_SWCNT_FAILOVER + 1) (2 ^ (NW_SWCNT_FAILOVER.hi + 1 - NW_SWCNT_FAILOVER.lo) - 1)
  state : u.nw.modState = msDegraded
  fetch : u.nw.fetch = some (f.other.num, cs)
  lastScan : u.nw.lastScan = d.nw.lastScan
  stair : u.nw.stair = none

/-- Later steps that keep to other registers and leave what the Newel decides with. -/
theorem Promoted.later {d u w : Dev} {f : Flt} {code : Nat} {cs : CommitSet} {ps : List Part} {ks : Nat → Bool} (h : Promoted d f code cs u)
    (hw : OnlyIn ps ks u w) (hk : ∀ k, ks k = true → k / 2 ^ 24 ≠ 5) (hn : w.newelCore = u.newelCore) : Promoted d f code cs w := by
  have hfree : ∀ x : Fld, x.key / 2 ^ 24 = 5 → w.get x = u.get x := fun x hx =>
    hw.get_eq (Bool.eq_false_iff.2 fun hks => hk _ hks hx)
  have hfst : ∀ g, w.fst g = u.fst g := fun g => hfree _ (by rw [nwStateFld_key]; rfl)
  exact ⟨(hfst _).trans h.failed, (hfst _).trans h.active, (hfree _ (by cases f <;> rfl)).trans h.shown, (hfree _ rfl).trans h.cause,
    (hfree _ rfl).trans h.source, (hfree _ rfl).trans h.count, (congrArg NewelCore.modState hn).trans h.state,
    (congrArg NewelCore.fetch hn).trans h.fetch, (congrArg NewelCore.lastScan hn).trans h.lastScan,
    (congrArg NewelCore.stair hn).trans h.stair⟩

/-- The active flight has failed and its standby takes over. -/
theorem afterFail_replaced {d : Dev} {f : Flt} (hf : d.fst f ≠ fsActive) (hs : d.nw.stair = none) (hsb : d.fst f.other = fsStandby) (code : Nat) :
    d.afterFail (some f) code = ((d.updNw fun n => { n with fetch := none }).promote f.other code).modFollows := by
  unfold Dev.afterFail
  dsimp only
  rw [if_neg hf]
  generalize hd : (d.updNw fun n => { n with fetch := none }) = e
  have hstair : e.nw.stair = none := by rw [← hd]; exact hs
  have hother : e.fst f.other = fsStandby := by rw [← hd]; exact hsb
  have hended : (if e.nw.stair.isSome = true then e.stairAbandon E_SEQ else e) = e := if_neg (by simp [hstair])
  rw [hended]
  exact if_pos hother

/-- The failure of the active flight promotes the standby flight. -/
theorem failOne_eq {d : Dev} {f : Flt} (hq : d.bit NW_REPAIRCFG_QEN = false) (hs : d.nw.stair = none) (hact : d.active = some f)
    (hsb : d.fst f.other = fsStandby) {code : Nat} (hc : code < 256) :
    d.failOne f code = (((d.failFl f code).updNw fun n => { n with fetch := none }).promote f.other code).modFollows := by
  obtain ⟨-, hfailed, hother, -, hcore⟩ := failFl_fails hq hs f hc
  obtain ⟨-, -, -, -, hstair, -⟩ := updSig_keeps d.nw f fun _ => []
  have hcause : ([(f, code)].find? fun e => decide (some e.1 = some f)).map (·.2) = some code := by simp
  unfold Dev.failOne Dev.failAll
  dsimp only
  rw [hact, hcause]
  exact afterFail_replaced (by rw [hfailed]; decide) ((congrArg NewelCore.stair hcore).trans (hstair.trans hs)) (hother.trans hsb) code

/-- No standby is left behind a flight that has failed and its successor. -/
theorem pair_lost {d : Dev} {f : Flt} (hf : d.fst f = fsFailed) (ho : d.fst f.other = fsActive) : d.pair = none := by
  unfold Dev.pair
  rw [active_other (by rw [hf]; decide) ho]
  dsimp only
  rw [other_other, if_neg (by rw [hf]; decide)]

/-- A take-over from a flight that has failed ends the promotion, and SERVICE gives way to DEGRADED. -/
theorem TakenOver.promoted {d t : Dev} {f : Flt} {code : Nat} {cs : CommitSet} (h : TakenOver d f.other code cs t) (hfailed : d.fst f = fsFailed)
    (hshown : d.get (nwFault f NW_FAULTA_CODE) = code) (hm : d.nw.modState = msService) (hs : d.nw.stair = none) :
    Promoted d f code cs t.modFollows := by
  obtain ⟨hstate, hscan, hstair⟩ := h.kept
  have hfell : t.fst f = fsFailed := by
    have := h.other
    rw [other_other] at this
    exact this.trans hfailed
  have hkeeps : t.get (nwFault f NW_FAULTA_CODE) = d.get (nwFault f NW_FAULTA_CODE) := h.frame.get_eq (by cases f <;> rfl)
  have hcore := fieldMod_newelCore t msDegraded
  rw [modFollows_lost (hstate.trans hm) (pair_lost hfell h.active)]
  have hget : ∀ x, (t.fieldMod msDegraded).get x = t.get x := get_of_regs (fieldMod_regs t msDegraded)
  exact {
    failed := (hget _).trans hfell
    active := (hget _).trans h.active
    shown := (hget _).trans (hkeeps.trans hshown)
    cause := (hget _).trans h.cause
    source := (hget _).trans (h.source.trans (congrArg Flt.num (other_other f)))
    count := (hget _).trans h.count
    state := congrArg NewelCore.modState hcore
    fetch := (congrArg NewelCore.fetch hcore).trans h.fetch
    lastScan := (congrArg NewelCore.lastScan hcore).trans hscan
    stair := (congrArg NewelCore.stair hcore).trans (hstair.trans hs) }

/-- A promotion told from an earlier module of the same count and last scan. -/
theorem Promoted.since {d e u : Dev} {f : Flt} {code : Nat} {cs : CommitSet} (h : Promoted e f code cs u)
    (hcount : e.get NW_SWCNT_FAILOVER = d.get NW_SWCNT_FAILOVER) (hlast : e.nw.lastScan = d.nw.lastScan) : Promoted d f code cs u :=
  { h with count := hcount ▸ h.count, lastScan := h.lastScan.trans hlast }

/-- The failure of the active flight of a compared pair promotes the other one, which has signalled one set that is not yet committed. -/
theorem failOne_promotes {d : Dev} {f : Flt} {cs : CommitSet} (hq : d.bit NW_REPAIRCFG_QEN = false) (hs : d.nw.stair = none) (hp : d.nw.plan = none)
    (hact : d.active = some f) (hsb : d.fst f.other = fsStandby) (hm : d.nw.modState = msService) (hsig : d.nw.sig f.other = [cs])
    (hnew : d.nw.uncommitted cs.scan = true) (hpresent : cs.signalAt < d.nw.cycle) {code : Nat} (hc : code < 256) :
    Promoted d f code cs (d.failOne f code) := by
  obtain ⟨hframe, hfailed, -, hshown, hcore⟩ := failFl_fails hq hs f hc
  obtain ⟨hcyc, hms, -, hls, hst, hpl⟩ := updSig_keeps d.nw f fun _ => []
  rw [failOne_eq hq hs hact hsb hc]
  have hdrop := onlyIn_updNw (d.failFl f code) fun n => { n with fetch := none }
  have hdropped : ((d.failFl f code).updNw fun n => { n with fetch := none }).newelCore =
    { (d.nw.updSig f fun _ => []).core with fetch := none } := congrArg (fun c : NewelCore => { c with fetch := none }) hcore
  generalize ((d.failFl f code).updNw fun n => { n with fetch := none }) = e at hdrop hdropped ⊢
  have hlast : e.nw.lastScan = d.nw.lastScan := (congrArg NewelCore.lastScan hdropped).trans hls
  have hsets : e.nw.sig f.other = [cs] := by
    cases f
    · exact (congrArg NewelCore.sigB hdropped).trans hsig
    · exact (congrArg NewelCore.sigA hdropped).trans hsig
  have htook := promote_takesOver ((congrArg NewelCore.plan hdropped).trans (hpl.trans hp)) hsets ((uncommitted_of_lastScan hlast _).trans hnew)
    (hpresent.trans_eq ((congrArg NewelCore.cycle hdropped).trans hcyc).symm) hc
  exact (htook.promoted ((fst_of_onlyIn hdrop rfl f).trans hfailed) ((hdrop.get_eq rfl).trans hshown)
    ((congrArg NewelCore.modState hdropped).trans (hms.trans hm)) ((congrArg NewelCore.stair hdropped).trans (hst.trans hs))).since
    ((hdrop.get_eq rfl).trans (hframe.get_eq rfl)) hlast

end Sys2Proof.Machine
end

section
/-! O24: the boundary at which an acknowledgement is missing, up to the batch that it releases (04 R95, R98, R100, R105). -/

namespace Sys2Proof.Machine

/-! ## The boundary begins -/

/-- The cycle counts on, and the days of failures follow it. -/
def Dev.boundary (d : Dev) : Dev := ((d.updNw fun n => { n with cycle := n.cycle + 1 }).dayFalls .a).dayFalls .b

theorem dayFalls_keeps (d : Dev) (f : Flt) : OnlyIn [.nw] faultKey d (d.dayFalls f) ∧
    ∃ a b, (d.dayFalls f).nw = { d.nw with histA := a, histB := b } := by
  unfold Dev.dayFalls
  dsimp only
  split
  · exact ⟨onlyIn_refl .., d.nw.histA, d.nw.histB, rfl⟩
  · refine ⟨((onlyIn_refl ..).updNw _ (by decide)).put _ (nwFault_key rfl f), ?_⟩
    cases f
    · exact ⟨_, d.nw.histB, rfl⟩
    · exact ⟨d.nw.histA, _, rfl⟩

theorem boundary_keeps (d : Dev) : OnlyIn [.nw] faultKey d d.boundary ∧
    ∃ a b, d.boundary.nw = { d.nw with cycle := d.nw.cycle + 1, histA := a, histB := b } := by
  obtain ⟨ha, a, b, hna⟩ := dayFalls_keeps (d.updNw fun n => { n with cycle := n.cycle + 1 }) .a
  obtain ⟨hb, a', b', hnb⟩ := dayFalls_keeps ((d.updNw fun n => { n with cycle := n.cycle + 1 }).dayFalls .a) .b
  exact ⟨(((onlyIn_updNw ..).mono (by decide) fun _ _ => rfl).trans ha).trans hb, a', b', hnb.trans (by rw [hna]; rfl)⟩

/-! ## Recognition (04 R98) -/

/-- A flight that reports nothing, owes no acknowledgement and has no set in fetch is not at fault. -/
theorem recognised_none {d : Dev} {f : Flt} (hfaults : d.nw.faults = []) (hack : f.num ∈ d.nw.batchDue → f.num ∈ d.nw.acked)
    (hfetch : d.nw.fetch = none) (ok : Bool) : d.recognised f ok = none := by
  have hpaid : (d.nw.batchDue.contains f.num && !d.nw.acked.contains f.num) = false := by
    by_cases h : f.num ∈ d.nw.batchDue
    · simp [hack h]
    · simp [h]
  unfold Dev.recognised
  dsimp only
  rw [hfaults, hfetch, hpaid]
  exact ite_self _

/-- An acknowledgement that is missing is a fault of its own code. -/
theorem recognised_ackLost {d : Dev} {f : Flt} (hst : d.fst f = fsActive) (hfaults : d.nw.faults = []) (hdue : f.num ∈ d.nw.batchDue)
    (hack : f.num ∉ d.nw.acked) (hfetch : d.nw.fetch = none) (ok : Bool) : d.recognised f ok = some 0x08 := by
  have howed : (d.nw.batchDue.contains f.num && !d.nw.acked.contains f.num) = true := by simp [hdue, hack]
  unfold Dev.recognised
  dsimp only
  rw [hfaults, hfetch, howed, if_neg (fun h => h.1 hst)]
  rfl

/-- With flight A alone at fault, the boundary fails it. -/
theorem recognise_a {d : Dev} {ok : Bool} {code : Nat} (ha : d.recognised .a ok = some code) (hb : d.recognised .b ok = none) :
    d.recognise ok = (d.updNw fun n => { n with faults := [] }).failOne .a code := by
  unfold Dev.recognise
  simp only [List.filterMap_cons, ha, hb, Option.map_some, Option.map_none, List.filterMap_nil]
  rfl

/-! ## The rest of the boundary -/

/-- The Loggia's strobe of a boundary, while it runs and a map is known. -/
def Dev.strobed (d : Dev) (lst : Nat) : Dev := match d.nw.lastMap with
  | some m => if d.lg.paused then d else d.lgStrobe (m.at d.nw.cycle) lst d.nw.synth
  | none => d

theorem strobed_keeps (d : Dev) (lst : Nat) : OnlyIn [.nw, .cor, .lg] (fun k => k == LG_TIMESTAT) d (d.strobed lst) ∧
    (d.strobed lst).newelCore = d.newelCore := by
  unfold Dev.strobed
  split
  · split
    · exact ⟨onlyIn_refl .., rfl⟩
    · exact ⟨onlyIn_lgStrobe .., lgStrobe_newelCore ..⟩
  · exact ⟨onlyIn_refl .., rfl⟩

theorem releaseBatch_keeps (d : Dev) : OnlyIn [.nw, .cor] noKey d d.releaseBatch ∧ d.releaseBatch.newelCore = d.newelCore := by
  unfold Dev.releaseBatch
  extract_lets n maps p all due q
  generalize hu : (d.updNw fun n => { n with
    batch := numberFrames n.nextFrame n.cycle all, nextFrame := n.nextFrame + all.length, carried := p.2
    ingress := q.1, source := q.2, newMap := none, batchDue := due, acked := []
    sinceMap := n.sinceMap + 1 }) = u
  have hframe : OnlyIn [.nw, .cor] noKey d u := by rw [← hu]; exact (onlyIn_refl ..).updNw _ (by decide)
  have hcore : u.newelCore = d.newelCore := by rw [← hu]; rfl
  obtain ⟨_, _, _, _, hdefer⟩ := frameDefer_nw u p.2.length
  have hdefer : (u.frameDefer p.2.length).newelCore = u.newelCore := by rw [Dev.newelCore, hdefer]; rfl
  exact ⟨OnlyIn.coalesced (.ite (hframe.updNw _ (by decide)) (.ite ((hframe.updNw _ (by decide)).raiseNw _ (by decide) (by decide)) hframe))
    (by decide) (by decide), (coalesced_newelCore _).trans (hdefer.trans hcore)⟩

/-- A boundary without a set in fetch whose recognition starts a fetch leaves everything else to the next one. -/
theorem newelCycle_fetches {d : Dev} (hrun : d.nw.stopped = false) (hnone : d.nw.fetch = none) {e : Dev} (he : d.boundary.recognise true = e)
    (hfetch : e.nw.fetch.isSome = true) (hstair : e.nw.stair = none) (hact : e.active.isSome = true) (hms : e.nw.modState ≠ msFailsafe)
    (lst : Nat) : d.newelCycle true none lst = (e.strobed lst).releaseBatch.statusNow false := by
  have hmeets : d.fetchMeets none = d := by
    unfold Dev.fetchMeets
    rw [hnone]
  unfold Dev.newelCycle
  extract_lets d0 d1 d2 d3 d4 d5 d6 d7
  have h0 : d0 = d.updNw fun n => { n with cycle := n.cycle + 1 } := by simp only [d0, hmeets]
  have h1 : d1 = e := by
    rw [← he]
    simp only [d1, h0]
    rfl
  have h2 : d2 = e := by
    simp only [d2, h1]
    exact if_pos fun h => by rw [h, h0, updNw_nw, hnone] at hfetch; cases hfetch
  have h3 : d3 = e := by simp only [d3, h2, hstair]
  have h4 : d4 = e := by
    simp only [d4, h3, Dev.verifyJoin, hstair, Dev.promoteLone]
    exact if_pos hact
  have h5 : d5 = e := by
    simp only [d5, h4]
    exact if_pos hfetch
  have h6 : d6 = e.strobed lst := by
    simp only [d6, h5]
    rfl
  have h7 : d7 = d6 := if_neg (by
    rw [h6]
    exact fun h => hms ((congrArg NewelCore.modState (strobed_keeps e lst).2).symm.trans h))
  rw [if_neg (by rw [h0, updNw_nw, hrun]; decide), h7, h6]

/-- What follows a promotion at its boundary leaves it. -/
theorem Promoted.released {d u : Dev} {f : Flt} {code : Nat} {cs : CommitSet} (h : Promoted d f code cs u) (lst : Nat) :
    Promoted d f code cs ((u.strobed lst).releaseBatch.statusNow false) := by
  obtain ⟨hstrobe, hscore⟩ := strobed_keeps u lst
  obtain ⟨hrelease, hrcore⟩ := releaseBatch_keeps (u.strobed lst)
  have hsent : OnlyIn [.nw, .cor] noKey (u.strobed lst) ((u.strobed lst).releaseBatch.statusNow false) := hrelease.statusNow_field (by decide)
  refine (h.later hstrobe (fun k hk => ?_) hscore).later hsent (fun _ h => absurd h Bool.false_ne_true) ((statusNow_newelCore _).trans hrcore)
  rw [eq_of_beq hk]
  decide

/-- Flight A, active beside a standby, owes an acknowledgement, and nothing else holds the Newel: B's one set awaits its commit. -/
structure AckLost (d : Dev) (cb : CommitSet) : Prop where
  active : d.fst .a = fsActive
  standby : d.fst .b = fsStandby
  faults : d.nw.faults = []
  stair : d.nw.stair = none
  plan : d.nw.plan = none
  state : d.nw.modState = msService
  qen : d.bit NW_REPAIRCFG_QEN = false
  due : 0 ∈ d.nw.batchDue
  owed : 0 ∉ d.nw.acked
  paid : 1 ∈ d.nw.batchDue → 1 ∈ d.nw.acked
  signalled : d.nw.sigB = [cb]
  present : cb.signalAt ≤ d.nw.cycle
  fresh : d.nw.uncommitted cb.scan = true
  fetch : d.nw.fetch = none

/-- At the boundary flight A alone is at fault. -/
theorem AckLost.recognised {d : Dev} {cb : CommitSet} (h : AckLost d cb) :
    d.boundary.recognise true = (d.boundary.updNw fun n => { n with faults := [] }).failOne .a 0x08 := by
  obtain ⟨hbound, _, _, hnw⟩ := boundary_keeps d
  have ha : d.boundary.fst .a = fsActive := (fst_of_onlyIn hbound rfl _).trans h.active
  refine recognise_a (recognised_ackLost ha ?_ ?_ ?_ ?_ true) (recognised_none ?_ ?_ ?_ true)
  all_goals rw [hnw]
  exacts [h.faults, h.due, h.owed, h.fetch, h.faults, h.paid, h.fetch]

/-- Its failure promotes flight B. -/
theorem AckLost.promotes {d : Dev} {cb : CommitSet} (h : AckLost d cb) : Promoted d .a 0x08 cb (d.boundary.recognise true) := by
  obtain ⟨hbound, _, _, hnw⟩ := boundary_keeps d
  have hclear : OnlyIn [.nw] faultKey d (d.boundary.updNw fun n => { n with faults := [] }) := hbound.updNw _ (by decide)
  have hcore : (d.boundary.updNw fun n => { n with faults := [] }).newelCore = { d.newelCore with cycle := d.nw.cycle + 1 } := by
    rw [Dev.newelCore, updNw_nw, hnw]
    rfl
  rw [h.recognised]
  generalize (d.boundary.updNw fun n => { n with faults := [] }) = e at hclear hcore ⊢
  have hst : ∀ f, e.fst f = d.fst f := fst_of_onlyIn hclear rfl
  have hlast : e.nw.lastScan = d.nw.lastScan := congrArg NewelCore.lastScan hcore
  have hnow : cb.signalAt < e.nw.cycle := (Nat.lt_succ_of_le h.present).trans_eq (congrArg NewelCore.cycle hcore).symm
  exact (failOne_promotes ((hclear.bit_eq rfl).trans h.qen) ((congrArg NewelCore.stair hcore).trans h.stair)
    ((congrArg NewelCore.plan hcore).trans h.plan) (if_pos ((hst .a).trans h.active)) ((hst .b).trans h.standby)
    ((congrArg NewelCore.modState hcore).trans h.state) ((congrArg NewelCore.sigB hcore).trans h.signalled)
    ((uncommitted_of_lastScan hlast _).trans h.fresh) hnow (by decide)).since (hclear.get_eq rfl) hlast

theorem Promoted.becomes_active {d u : Dev} {f : Flt} {code : Nat} {cs : CommitSet} (h : Promoted d f code cs u) : u.active = some f.other :=
  active_other (by rw [h.failed]; decide) h.active

/-- The whole cycle ends with B promoted. -/
theorem AckLost.newelCycle {d : Dev} {cb : CommitSet} (h : AckLost d cb) (hrun : d.nw.stopped = false) (lst : Nat) :
    Promoted d .a 0x08 cb (d.newelCycle true none lst) := by
  have hpro := h.promotes
  rw [newelCycle_fetches hrun h.fetch rfl (by rw [hpro.fetch]; rfl) hpro.stair (by rw [hpro.becomes_active]; rfl) (by rw [hpro.state]; decide)]
  exact hpro.released lst

/-- A cycle starts no campaign. -/
theorem newelCycle_camp {d : Dev} (hrun : d.nw.stopped = false) (hcamp : d.jnl.camp = none) (ok : Bool) (ue : Option (Nat × Nat)) (lst : Nat) :
    (d.newelCycle ok ue lst).jnl.camp = none := by
  obtain ⟨e, hbase, hcycle⟩ := newelCycle_releases d ok ue lst hrun
  rw [hcycle, releaseBatch_jnl]
  exact (congrArg JournalSt.camp (congrArg (·.2.2.2) hbase)).trans hcamp

/-- Settles O24: flight A alone is at fault, so that it fails with 0x08, and the rest of the boundary leaves what the promotion of B made. -/
theorem anUnacknowledgedBatchPromotesTheStandby : Obligations.AnUnacknowledgedBatchPromotesTheStandby := by
  unfold Obligations.AnUnacknowledgedBatchPromotesTheStandby
  intro s lst cb d n hrun hcamp ha hb hfaults hstair hplan _ hms hq hdue hack hpaid hsig hpresent hnew hfetch
  have hlost : AckLost s.dev cb := ⟨ha, hb, hfaults, hstair, hplan, hms, hq, hdue, hack, hpaid, hsig, hpresent, hnew, hfetch⟩
  have hu := hlost.newelCycle hrun lst
  refine answers_of_upd (g := fun d => (d.newelCycle true none lst).campFollow) rfl ?_
  rw [campFollow_none _ (newelCycle_camp hrun hcamp true none lst)]
  exact ⟨hu.failed, hu.active, hu.shown, hu.becomes_active, hu.count, hu.cause, hu.source, hu.state, hu.fetch, hu.lastScan⟩

end Sys2Proof.Machine
end

section
/-! O26: the requests of NW_SWCTL and NW_QUAR, and the repair that is due (04 R112, R114, R115, R117, R118, R577). -/

namespace Sys2Proof.Machine

/-! ## A planned switch-over (04 R114, R577) -/

theorem exec_plannedSwitchover (s : State) (after : Nat) : exec (.plannedSwitchover 1 after) s =
    s.upd fun d => ((d.put NW_SWCTL_AFTER after).planSwitch after).1 := rfl

theorem pair_congr {d e : Dev} (h : ∀ f, e.fst f = d.fst f) : e.pair = d.pair := by
  unfold Dev.pair
  rw [active_congr (h .a) (h .b)]
  simp only [h]

/-- Writing AFTER leaves NW_SWCTL's other fields and the flights. -/
theorem after_keeps (d : Dev) (after : Nat) : (d.put NW_SWCTL_AFTER after).get NW_SWCTL_TARGET = d.get NW_SWCTL_TARGET ∧
    (d.put NW_SWCTL_AFTER after).bit NW_SWCTL_BUSY = d.bit NW_SWCTL_BUSY ∧ (d.put NW_SWCTL_AFTER after).pair = d.pair :=
  ⟨get_put_other _ _ _ _ rfl rfl rfl, bit_put_other _ _ _ _ rfl rfl rfl,
    pair_congr (fst_of_onlyIn ((onlyIn_refl [] (fun k => k == NW_SWCTL) d).put _ (by decide)) rfl)⟩

theorem planSwitch_accepted {d : Dev} {after : Nat} (ha : after < 3) (hb : d.bit NW_SWCTL_BUSY = false) (hok : d.planOk = true) :
    (d.planSwitch after).1 = (d.updNw fun n => { n with
      plan := some ⟨false, d.get NW_SWCTL_TARGET, after⟩, switching := some ⟨false, d.get NW_SWCTL_TARGET, after⟩ }).put NW_SWCTL_BUSY 1 := by
  have hafter : (if after = 3 then 0 else after) = after := if_neg (by omega)
  unfold Dev.planSwitch
  dsimp only
  rw [hb, hok, hafter]
  rfl

theorem planSwitch_refused {d : Dev} (hok : d.planOk = false) (after : Nat) :
    (d.planSwitch after).1 = d.swctlDone false (d.get NW_SWCTL_TARGET) E_BUSY_SERVICE := by
  unfold Dev.planSwitch
  dsimp only
  rw [hok, if_pos (by simp)]
  rfl

/-- A switch-over is accepted and waits for its commit. -/
theorem plannedSwitchover_accepted {s : State} {after : Nat} (ha : after < 3) (hb : s.dev.bit NW_SWCTL_BUSY = false)
    (hpair : s.dev.pair.isSome = true) (hm : s.dev.nw.matched = 16) (hs : s.dev.nw.stair = none) : Answers (.plannedSwitchover 1 after) s fun u =>
      u.nw.switching = some ⟨false, s.dev.get NW_SWCTL_TARGET, after⟩ ∧ u.bit NW_SWCTL_BUSY = true ∧ u.fst .a = s.dev.fst .a ∧
        u.fst .b = s.dev.fst .b ∧ OnlyIn [.nw] (fun k => k == NW_SWCTL) s.dev u := by
  obtain ⟨htarget, hbusy, hp⟩ := after_keeps s.dev after
  have hok : (s.dev.put NW_SWCTL_AFTER after).planOk = true := by
    unfold Dev.planOk
    rw [hp, hpair, put_nw, hm, hs]
    rfl
  have hframe : OnlyIn [.nw] (fun k => k == NW_SWCTL) s.dev (((s.dev.put NW_SWCTL_AFTER after).planSwitch after).1) := by
    rw [planSwitch_accepted ha (hbusy.trans hb) hok]
    exact (((onlyIn_refl ..).put _ (by decide)).updNw _ (by decide)).put _ (by decide)
  refine answers_of_upd (exec_plannedSwitchover s after) ⟨?_, ?_, fst_of_onlyIn hframe rfl _, fst_of_onlyIn hframe rfl _, hframe⟩
  · rw [planSwitch_accepted ha (hbusy.trans hb) hok, htarget]
    rfl
  · rw [planSwitch_accepted ha (hbusy.trans hb) hok, bit_put_same _ _ _ rfl (by decide)]
    rfl

/-- A request that is refused shows its code with DONE and leaves BUSY. -/
theorem swctlDone_shows (d : Dev) (test : Bool) (target : Nat) {result : Nat} (hr : result < 256) : let u := d.swctlDone test target result
    u.newelCore = d.newelCore ∧ u.get NW_SWCTL_RESULT = result ∧ u.bit NW_SWCTL_DONE = true ∧ u.bit NW_SWCTL_BUSY = d.bit NW_SWCTL_BUSY := by
  unfold Dev.swctlDone
  refine ⟨by rw [raiseNw_newelCore, put_newelCore, put_newelCore], ?_, ?_, ?_⟩
  · exact (raiseNw_get ..).trans (get_put_same _ _ _ rfl hr)
  · rw [raiseNw_bit, bit_put_other _ _ _ _ rfl rfl rfl, bit_put_same _ _ _ rfl (by decide)]
    rfl
  · rw [raiseNw_bit, bit_put_other _ _ _ _ rfl rfl rfl, bit_put_other _ _ _ _ rfl rfl rfl]

/-- With fewer than 16 matches a switch-over is refused. -/
theorem plannedSwitchover_refused {s : State} (hm : s.dev.nw.matched < 16) (after : Nat) : Answers (.plannedSwitchover 1 after) s fun u =>
    u.nw.switching = s.dev.nw.switching ∧ u.get NW_SWCTL_RESULT = E_BUSY_SERVICE ∧ u.bit NW_SWCTL_DONE = true ∧
      u.bit NW_SWCTL_BUSY = s.dev.bit NW_SWCTL_BUSY := by
  obtain ⟨-, hbusy, -⟩ := after_keeps s.dev after
  have hok : (s.dev.put NW_SWCTL_AFTER after).planOk = false := by
    have : (s.dev.nw.matched == 16) = false := beq_false_of_ne (by omega)
    unfold Dev.planOk
    rw [put_nw, this, Bool.and_false]
    rfl
  obtain ⟨hcore, hresult, hdone, hstays⟩ := swctlDone_shows (s.dev.put NW_SWCTL_AFTER after) false
    ((s.dev.put NW_SWCTL_AFTER after).get NW_SWCTL_TARGET) (by decide : E_BUSY_SERVICE < 256)
  refine answers_of_upd (exec_plannedSwitchover s after) ?_
  rw [planSwitch_refused hok]
  exact ⟨(congrArg NewelCore.switching hcore).trans rfl, hresult, hdone, hstays.trans hbusy⟩

/-- A role other than the operator changes nothing. -/
theorem plannedSwitchover_role {s : State} {role : Nat} (h : role ≠ 1) (after : Nat) : AnswersDev (.plannedSwitchover role after) s s.dev :=
  answersDev_of_upd (g := fun d => if role = 1 then ((d.put NW_SWCTL_AFTER after).planSwitch after).1 else d) rfl (if_neg h)

/-! ## The test of a standby flight (04 R115) -/

theorem exec_logicBistRequest (s : State) (f : Flt) (force : Bool) : exec (.logicBistRequest 1 f force) s =
    s.upd fun d => ((d.put NW_SWCTL_TARGET f.num).planTest f force).1 := rfl

theorem flReset_get (d : Dev) (f : Flt) {x : Fld} (hx : x.key / 2 ^ 24 = 5) : (d.flReset f).get x = d.get x := get_of_rd (flReset_rd d f hx)

/-- A flight taken out shows code 0x12 and leaves NW_SWCTL. -/
theorem takeOut_shows (d : Dev) (f : Flt) : (d.takeOut f 1).get (nwFault f NW_FAULTA_CODE) = 0x12 ∧
    (d.takeOut f 1).bit NW_SWCTL_BUSY = d.bit NW_SWCTL_BUSY := by
  have hset : OnlyIn [.nw, .cor] (fun k => k == NW_STAT) ((d.flReset f).put (nwFault f NW_FAULTA_CODE) 0x12)
      (((d.flReset f).put (nwFault f NW_FAULTA_CODE) 0x12).setFl f fsTesting) := (onlyIn_refl ..).setFl f _ (by decide) (by decide) (by decide)
  have hget : ∀ x : Fld, x.key ≠ NW_STAT → (d.takeOut f 1).get x = ((d.flReset f).put (nwFault f NW_FAULTA_CODE) 0x12).get x := fun x hx =>
    (get_of_regs (modFollows_regs _) _).trans (hset.get_eq (beq_false_of_ne hx))
  refine ⟨(hget _ (by cases f <;> decide)).trans (get_put_same _ _ _ (by cases f <;> rfl) (by cases f <;> decide)), bit_of_get ?_⟩
  exact (hget _ (by decide)).trans ((get_put_key _ _ (by cases f <;> decide)).trans (flReset_get d f rfl))

theorem pair_of_standby {d : Dev} {f : Flt} (hf : d.fst f = fsStandby) (ho : d.fst f.other = fsActive) : d.pair = some (f.other, f) := by
  unfold Dev.pair
  rw [active_other (by rw [hf]; decide) ho]
  dsimp only
  rw [other_other, if_pos hf]

theorem planTest_standby {d : Dev} {f : Flt} (hb : d.bit NW_SWCTL_BUSY = false) (hf : d.fst f = fsStandby) (ho : d.fst f.other = fsActive)
    (force : Bool) : (d.planTest f force).1 =
      ((d.updNw fun n => { n with plan := some ⟨true, f.num, 1⟩ }).put NW_SWCTL_BUSY 1).takeOut f 1 := by
  unfold Dev.planTest
  rw [hb, pair_of_standby hf ho, if_neg (by simp), if_pos hf]

/-- TEST takes a standby flight to TESTING. -/
theorem logicBistRequest_tests {s : State} {f : Flt} (hb : s.dev.bit NW_SWCTL_BUSY = false) (hf : s.dev.fst f = fsStandby)
    (ho : s.dev.fst f.other = fsActive) (force : Bool) : Answers (.logicBistRequest 1 f force) s fun u =>
      u.fst f = fsTesting ∧ u.fst f.other = fsActive ∧ u.bit NW_SWCTL_BUSY = true ∧ u.get (nwFault f NW_FAULTA_CODE) = 0x12 := by
  have hst : ∀ g, (s.dev.put NW_SWCTL_TARGET f.num).fst g = s.dev.fst g :=
    fst_of_onlyIn ((onlyIn_refl [] (fun k => k == NW_SWCTL) s.dev).put _ (by decide)) rfl
  refine answers_of_upd (exec_logicBistRequest s f force) ?_
  rw [planTest_standby ((bit_put_other _ _ _ _ rfl rfl rfl).trans hb) ((hst f).trans hf) ((hst _).trans ho)]
  generalize hd : s.dev.put NW_SWCTL_TARGET f.num = d at hst
  have hbusy := (onlyIn_refl [.nw] (fun k => k == NW_SWCTL) d).updNw (fun n => { n with plan := some ⟨true, f.num, 1⟩ }) (by decide) |>.put
    (x := NW_SWCTL_BUSY) 1 (by decide)
  have hshown := bit_put_same (d.updNw fun n => { n with plan := some ⟨true, f.num, 1⟩ }) NW_SWCTL_BUSY 1 rfl (by decide)
  generalize (d.updNw fun n => { n with plan := some ⟨true, f.num, 1⟩ }).put NW_SWCTL_BUSY 1 = e at hbusy hshown ⊢
  obtain ⟨htest, hother⟩ := takeOut_tests e f
  obtain ⟨hcode, hstays⟩ := takeOut_shows e f
  exact ⟨htest, hother.trans ((fst_of_onlyIn hbusy rfl _).trans ((hst _).trans ho)), hstays.trans (hshown.trans rfl), hcode⟩

/-! ## Quarantine by the operator (04 R117, R118) -/

/-- What a quarantine shows: the state, the flag and the reason, the other flight's state kept. -/
theorem quarantine_shows (d : Dev) (f : Flt) {reason : Nat} (hr : reason < 256) : let u := d.quarantine f reason
    u.fst f = fsQuarantined ∧ u.bit (nwQuar f) = true ∧ u.get (nwReason f) = reason ∧ u.fst f.other = d.fst f.other ∧ u.newelCore = d.newelCore := by
  have hmarks : OnlyIn [.nw, .cor] (fun k => k == NW_QUAR) (d.setFl f fsQuarantined) (d.quarantine f reason) :=
    (((onlyIn_refl ..).put _ (by cases f <;> decide)).put _ (by cases f <;> decide)).raiseNw _ (by decide) (by decide)
  refine ⟨?_, ?_, ?_, ?_, ?_⟩
  · exact (fst_of_onlyIn hmarks rfl f).trans (setFl_fst_same d f (by decide))
  · refine (raiseNw_bit ..).trans ((bit_put_other _ _ _ _ ?_ ?_ ?_).trans ((bit_put_same _ _ _ ?_ ?_).trans rfl))
    all_goals cases f <;> decide
  · exact (raiseNw_get ..).trans (get_put_same _ _ _ (by cases f <;> rfl) (by cases f <;> exact hr))
  · exact (fst_of_onlyIn hmarks rfl _).trans (setFl_fst_other d (other_ne f) _)
  · unfold Dev.quarantine
    rw [raiseNw_newelCore, put_newelCore, put_newelCore, setFl_newelCore]

theorem updSig_switching (n : NewelSt) (f : Flt) (g : List CommitSet → List CommitSet) : (n.updSig f g).switching = n.switching := by
  cases f <;> rfl

/-- A flight in RESET is quarantined at once, no transfer and no switch-over being in progress. -/
theorem quarSet_reset {d : Dev} {f : Flt} (hf : d.fst f = fsReset) (hs : d.nw.stair = none) (hw : d.nw.switching = none) (restore : Bool) :
    (d.quarSet f restore).1 = (((d.quarantine f (if restore then 5 else 4)).updNw fun n => n.updSig f fun _ => []).modFollows).startLost := by
  have hcore := (quarantine_shows d f (by cases restore <;> decide : (if restore then 5 else 4) < 256)).2.2.2.2
  unfold Dev.quarSet
  dsimp only
  rw [hf, hs, if_neg (by decide), if_neg (by decide)]
  dsimp only
  have hnone : ((d.quarantine f (if restore then 5 else 4)).updNw fun n => n.updSig f fun _ => []).nw.switching = none := by
    rw [updNw_nw, updSig_switching]
    exact (congrArg NewelCore.switching hcore).trans hw
  rw [hnone]
  rfl

theorem startLost_regs (d : Dev) : d.startLost.regs = d.regs := by
  unfold Dev.startLost
  dsimp only
  split
  · exact fieldMod_regs ..
  · rfl

theorem exec_quarantineSet (s : State) (f : Flt) (restore : Bool) : exec (.quarantineSet 1 f restore) s =
    s.upd fun d => (d.quarSet f restore).1 := rfl

/-- A quarantine of a flight in RESET shows its reason. -/
theorem quarantineSet_shows {s : State} {f : Flt} (hf : s.dev.fst f = fsReset) (hs : s.dev.nw.stair = none) (hw : s.dev.nw.switching = none)
    (restore : Bool) : Answers (.quarantineSet 1 f restore) s fun u => u.fst f = fsQuarantined ∧ u.bit (nwQuar f) = true ∧
      u.get (nwReason f) = (if restore then 5 else 4) ∧ u.fst f.other = s.dev.fst f.other := by
  obtain ⟨hst, hflag, hreason, hother, -⟩ := quarantine_shows s.dev f (by cases restore <;> decide : (if restore then 5 else 4) < 256)
  have hregs : ((s.dev.quarSet f restore).1).regs = (s.dev.quarantine f (if restore then 5 else 4)).regs := by
    rw [quarSet_reset hf hs hw, startLost_regs, modFollows_regs, updNw_regs]
  exact answers_of_upd (exec_quarantineSet s f restore) ⟨(get_of_regs hregs _).trans hst, (bit_of_get (get_of_regs hregs _)).trans hflag,
    (get_of_regs hregs _).trans hreason, (get_of_regs hregs _).trans hother⟩

theorem exec_quarantineRelease (s : State) (f : Flt) : exec (.quarantineRelease 1 f) s = s.upd fun d => (d.quarRelease f).1 := rfl

theorem quarRelease_eq {d : Dev} {f : Flt} (hf : d.fst f = fsQuarantined) : (d.quarRelease f).1 =
    ((((d.put (nwQuar f) 0).put (nwReason f) 0).setFl f fsReset).raiseNw (.mk' .nwQuarRelease [f.num])).updNw fun n =>
      n.setRetry f (some n.cycle) := by
  unfold Dev.quarRelease
  rw [if_neg (by simp [hf])]

/-- A release returns the flight to RESET and takes back what NW_QUAR shows. -/
theorem quarantineRelease_resets {s : State} {f : Flt} (hf : s.dev.fst f = fsQuarantined) : Answers (.quarantineRelease 1 f) s fun u =>
    u.fst f = fsReset ∧ u.bit (nwQuar f) = false ∧ u.get (nwReason f) = 0 ∧ u.fst f.other = s.dev.fst f.other ∧ u.fa = s.dev.fa ∧ u.fb = s.dev.fb := by
  refine answers_of_upd (exec_quarantineRelease s f) ?_
  rw [quarRelease_eq hf]
  have hmarks : OnlyIn [] (fun k => k == NW_QUAR) s.dev ((s.dev.put (nwQuar f) 0).put (nwReason f) 0) :=
    ((onlyIn_refl ..).put _ (by cases f <;> decide)).put _ (by cases f <;> decide)
  have hflag : ((s.dev.put (nwQuar f) 0).put (nwReason f) 0).bit (nwQuar f) = false := by
    refine (bit_put_other _ _ _ _ ?_ ?_ ?_).trans ((bit_put_same _ _ _ ?_ ?_).trans rfl)
    all_goals cases f <;> decide
  have hreason : ((s.dev.put (nwQuar f) 0).put (nwReason f) 0).get (nwReason f) = 0 :=
    get_put_same _ _ _ (by cases f <;> rfl) (by cases f <;> decide)
  generalize (s.dev.put (nwQuar f) 0).put (nwReason f) 0 = e at hmarks hflag hreason ⊢
  have hset : OnlyIn [.nw, .cor] (fun k => k == NW_STAT) e (e.setFl f fsReset) := (onlyIn_refl ..).setFl f _ (by decide) (by decide) (by decide)
  have htold : OnlyIn [.nw, .cor] noKey (e.setFl f fsReset) (((e.setFl f fsReset).raiseNw (.mk' .nwQuarRelease [f.num])).updNw fun n =>
      n.setRetry f (some n.cycle)) := ((onlyIn_refl ..).raiseNw _ (by decide) (by decide)).updNw _ (by decide)
  exact ⟨(fst_of_onlyIn htold rfl _).trans (setFl_fst_same e f (by decide)),
    (htold.bit_eq rfl).trans ((hset.bit_eq (by cases f <;> rfl)).trans hflag),
    (htold.get_eq rfl).trans ((hset.get_eq (by cases f <;> rfl)).trans hreason),
    (fst_of_onlyIn htold rfl _).trans ((setFl_fst_other e (other_ne f) _).trans (fst_of_onlyIn hmarks rfl _)),
    (htold.fa_eq (by decide)).trans ((hset.fa_eq (by decide)).trans (hmarks.fa_eq (by decide))),
    (htold.fb_eq (by decide)).trans ((hset.fb_eq (by decide)).trans (hmarks.fb_eq (by decide)))⟩

/-! ## Automatic repair (04 R112, R117) -/

theorem exec_repairRetry (s : State) (f : Flt) : exec (.repairRetry f) s = s.upd fun d => d.when (d.repairDue f) fun d => d.repair f := rfl

theorem repairDue_of {d : Dev} {f : Flt} (hf : d.fst f = fsFailed ∨ (d.fst f = fsReset ∧ d.nw.held f = false)) (hr : 0 < d.get NW_REPAIRCFG_RETRY)
    (ht : d.nw.retry f = some 0) (hc : d.get NW_REPAIRCFG_RETRY * 400 ≤ d.nw.cycle) : d.repairDue f = true := by
  have hstate : (d.fst f == fsFailed || (d.fst f == fsReset && !d.nw.held f)) = true := by
    rcases hf with h | ⟨h, k⟩
    · rw [h]; rfl
    · rw [h, k]; rfl
  have hon : (d.get NW_REPAIRCFG_RETRY != 0) = true := by simp; omega
  unfold Dev.repairDue
  rw [hstate, hon, ht]
  simpa [Dev.retryCycles] using hc

/-- A flight that is given up holds no point, and the other flight is as it was. -/
theorem flReset_fl (d : Dev) (f : Flt) : ((d.flReset f).fl f).pts = [] ∧ (d.flReset f).fl f.other = d.fl f.other := by
  have hregs : ∀ (e : Dev) (r : Map W32) g, ({ e with regs := r } : Dev).fl g = e.fl g := fun e r g => by cases g <;> rfl
  unfold Dev.flReset
  refine ⟨congrArg FlightSt.pts ((hregs ..).trans (updFl_fl ..)), (hregs ..).trans ((updFl_fl_other ..).trans ?_)⟩
  split
  · rw [put_fl, put_fl, put_fl]
  · rfl

theorem OnlyIn.fl_eq {ps : List Part} {ks : Nat → Bool} {d e : Dev} (h : OnlyIn ps ks d e) (f : Flt) (hp : f.part ∉ ps) : e.fl f = d.fl f := by
  cases f
  · exact h.fa_eq hp
  · exact h.fb_eq hp

/-- A repair that is due tests the flight, which holds nothing. -/
theorem repairRetry_tests {s : State} {f : Flt} (h : s.dev.repairDue f = true) : Answers (.repairRetry f) s fun u =>
    u.fst f = fsTesting ∧ u.nw.retry f = none ∧ (u.fl f).pts = [] ∧ u.fl f.other = s.dev.fl f.other := by
  refine answers_of_upd (exec_repairRetry s f) ?_
  rw [when_pos _ _ h]
  obtain ⟨hpts, hother⟩ := flReset_fl s.dev f
  have hmoves : OnlyIn [.nw, .cor] (fun k => k == NW_STAT) (s.dev.flReset f) (s.dev.repair f) :=
    (((onlyIn_refl ..).setFl f _ (by decide) (by decide) (by decide)).setFl f _ (by decide) (by decide) (by decide)).updNw _ (by decide)
  have hfl : ∀ g, (s.dev.repair f).fl g = (s.dev.flReset f).fl g := fun g => hmoves.fl_eq g (by cases g <;> decide)
  refine ⟨setFl_fst_same _ f (by decide), ?_, by rw [hfl, hpts], by rw [hfl, hother]⟩
  cases f <;> rfl

end Sys2Proof.Machine
end

section
/-! O26: the end of the bulk copy and of the freeze of a stair transfer, and the Newel's own fault (04 R110, R111, R121). -/

namespace Sys2Proof.Machine

/-! ## The bulk copy (04 R110) -/

/-- The bulk copy of a transfer in its first phase, without uncorrectable words. -/
theorem exec_stairBulkDone {s : State} {st : Stair} {act : Flt} (hs : s.dev.nw.stair = some st) (ha : s.dev.active = some act)
    (hp : s.dev.get NW_STAIRSTAT_PHASE = 1) :
    exec (.stairBulkDone []) s = s.upd fun d => (d.put NW_STAIRSTAT_PHASE 2).put NW_STAIRSTAT_ROUND 1 := by
  change execStairBulkDone [] s = _
  simp only [execStairBulkDone, State.upd, hs, ha, hp, List.foldl_nil, if_true]

/-- The end of the bulk copy begins round 1. -/
theorem stairBulkDone_begins {s : State} {st : Stair} (hs : s.dev.nw.stair = some st) (hact : s.dev.active.isSome = true)
    (hp : s.dev.get NW_STAIRSTAT_PHASE = 1) : Answers (.stairBulkDone []) s fun u =>
      u.get NW_STAIRSTAT_PHASE = 2 ∧ u.get NW_STAIRSTAT_ROUND = 1 ∧ OnlyIn [] (fun k => k == NW_STAIRSTAT) s.dev u := by
  obtain ⟨act, ha⟩ := Option.isSome_iff_exists.1 hact
  exact answers_of_upd (exec_stairBulkDone hs ha hp) ⟨(get_put_other _ _ _ _ rfl rfl rfl).trans (get_put_same _ _ _ rfl (by decide)),
    get_put_same _ _ _ rfl (by decide), ((onlyIn_refl ..).put _ (by decide)).put _ (by decide)⟩

/-! ## The freeze (04 R111) -/

/-- The points, the logic memory and the frames of a flight. -/
def FlightSt.image (x : FlightSt) : Map Point × Map W32 × List Frame := (x.pts, x.lmem, x.frames)

/-- Two modules whose flights hold the same points, logic memory and frames. -/
def SameImages (d e : Dev) : Prop := ∀ g, (e.fl g).image = (d.fl g).image

theorem SameImages.trans {d e f : Dev} (h : SameImages d e) (k : SameImages e f) : SameImages d f := fun g => (k g).trans (h g)

/-- The integrity state of a memory is apart from what a flight holds. -/
theorem sameImages_updMem (d : Dev) (m : Mem) (g : FoyMemSt → FoyMemSt) : SameImages d (d.updMem m g) := fun x => by
  rcases m with (_ | _) | _ <;> cases x <;> rfl

/-- Operations one after another leave the images that each leaves. -/
theorem sameImages_foldl {α : Type} {g : Dev → α → Dev} (h : ∀ d a, SameImages d (g d a)) (l : List α) (d : Dev) : SameImages d (l.foldl g d) := by
  induction l generalizing d with
  | nil => exact fun _ => rfl
  | cons a t ih => exact SameImages.trans (h d a) (ih _)

theorem sameImages_copyValid (d : Dev) (src dst : Flt) : SameImages d (d.copyValid src dst) := by
  unfold Dev.copyValid
  refine SameImages.trans (sameImages_updMem _ _ _) (sameImages_foldl (fun e x => ?_) _ _)
  dsimp only
  split
  · exact sameImages_updMem _ _ _
  · exact fun _ => rfl

theorem sameImages_copyRegs (d : Dev) (src dst : Flt) : SameImages d (d.copyRegs src dst) := by
  have hwr : ∀ (e : Dev) k v, SameImages e (e.wr k v) := fun e k v x => by cases x <;> rfl
  have hregs : ∀ (e : Dev) (r : Map W32), SameImages e { e with regs := r } := fun e r x => by cases x <;> rfl
  unfold Dev.copyRegs
  exact SameImages.trans (hregs _ _) (sameImages_foldl (fun e x => hwr e _ _) _ _)

/-- The flights as the freeze leaves them: the joining flight holds the active flight's state. -/
def Dev.joinFrozen (d : Dev) (f act : Flt) (wait : Nat) : Dev :=
  (d.updFl f fun x => { x.joinFrom (d.fl act) with waited := wait }).updFl act fun x => { x with waited := wait }

theorem stairCopy_eq {d : Dev} {st : Stair} {act : Flt} (hs : d.nw.stair = some st) (ha : d.active = some act) (us : Nat) :
    d.stairCopy us = ((((d.joinFrozen (Flt.ofNum st.flight) act ((us + 249) / 250)).copyValid act (Flt.ofNum st.flight)).copyRegs act
      (Flt.ofNum st.flight)).put NW_STAIRSTAT_PHASE 4).updNw fun n =>
        { n with stair := some { st with verified := 0, freeze := us, first := (d.fl act).scan.getD 0 }, verifyQ := [] } := by
  unfold Dev.stairCopy
  rw [hs, ha]
  rfl

/-- The end of the freeze begins the verification. -/
theorem stairFreezeDone_joins {s : State} {f : Flt} {st : Stair} (hs : s.dev.nw.stair = some st) (hf : Flt.ofNum st.flight = f)
    (ha : s.dev.active = some f.other) (hp : s.dev.get NW_STAIRSTAT_PHASE = 3) (us : Nat) : Answers (.stairFreezeDone us) s fun u =>
      u.get NW_STAIRSTAT_PHASE = 4 ∧ (u.fl f).pts = (s.dev.fl f.other).pts ∧ (u.fl f).lmem = (s.dev.fl f.other).lmem ∧
        (u.fl f).frames = (s.dev.fl f).frames ∧ (u.fl f.other).pts = (s.dev.fl f.other).pts := by
  subst hf
  refine answers_of_upd (g := fun d => d.when (d.get NW_STAIRSTAT_PHASE == 3) fun d => d.stairCopy us) rfl ?_
  rw [when_pos _ _ (beq_iff_eq.2 hp), stairCopy_eq hs ha]
  generalize Flt.ofNum st.flight = f
  have hcopied := SameImages.trans (sameImages_copyValid (s.dev.joinFrozen f f.other ((us + 249) / 250)) f.other f) (sameImages_copyRegs _ f.other f)
  generalize ((s.dev.joinFrozen f f.other ((us + 249) / 250)).copyValid f.other f).copyRegs f.other f = e at hcopied ⊢
  have hfl : ∀ g, (((e.put NW_STAIRSTAT_PHASE 4).updNw fun n =>
      { n with stair := some { st with verified := 0, freeze := us, first := (s.dev.fl f.other).scan.getD 0 }, verifyQ := [] }).fl g).image =
        ((s.dev.joinFrozen f f.other ((us + 249) / 250)).fl g).image := fun g => by
    rw [← hcopied g]
    cases g <;> rfl
  obtain ⟨hpts, hlmem, hframes⟩ : _ ∧ _ ∧ _ := by simpa only [FlightSt.image, Prod.mk.injEq] using hfl f
  obtain ⟨hstays, -⟩ : _ ∧ _ ∧ _ := by simpa only [FlightSt.image, Prod.mk.injEq] using hfl f.other
  refine ⟨get_put_same _ _ _ rfl (by decide), hpts.trans ?_, hlmem.trans ?_, hframes.trans ?_, hstays.trans ?_⟩
  all_goals cases f <;> rfl

/-! ## The Newel's fault and its resumption (04 R121) -/

/-- A fault closes the gate and keeps the counts. -/
theorem newelFault_stops (s : State) : Answers .newelFault s fun u => u.nw.stopped = true ∧ u.nw.gate = false ∧ u.nw.fetch = none ∧
    u.nw.cycle = s.dev.nw.cycle ∧ u.nw.nextFrame = s.dev.nw.nextFrame ∧ OnlyIn [.nw] noKey s.dev u :=
  answers_of_upd (g := fun d => d.updNw fun n => { n with stopped := true, gate := false, fetch := none, early := none }) rfl
    ⟨rfl, rfl, rfl, rfl, rfl, onlyIn_updNw ..⟩

/-- A resumption tells its reset and counts on. -/
theorem newelResume_runs {s : State} (h : s.dev.nw.stopped = true) (hc : s.dev.jnl.camp = none) : Answers .newelResume s fun u =>
    u.nw.stopped = false ∧ u.nw.cycle = s.dev.nw.cycle ∧ u.nw.nextFrame = s.dev.nw.nextFrame ∧ OnlyIn [.nw, .cor] noKey s.dev u := by
  have hframe : OnlyIn [.nw, .cor] noKey s.dev ((s.dev.updNw fun n => { n with stopped := false }).raiseNw (.mk' .nwReset [])) :=
    ((onlyIn_refl ..).updNw _ (by decide)).raiseNw _ (by decide) (by decide)
  obtain ⟨_, _, _, hnw⟩ := sendUp_nw (s.dev.updNw fun n => { n with stopped := false }) (evMsg (.mk' .nwReset []))
  refine answers_of_upd (g := fun d => d.when d.nw.stopped fun d =>
    ((d.updNw fun n => { n with stopped := false }).raiseNw (.mk' .nwReset [])).campFollow) rfl ?_
  rw [when_pos _ _ h, campFollow_none _ ((congrArg JournalSt.camp (hframe.jnl_eq (by decide))).trans hc)]
  refine ⟨?_, ?_, ?_, hframe⟩
  all_goals
    rw [Dev.raiseNw, hnw]
    rfl

/-! ## The obligation -/

/-- Settles O26: each request under its conditions, one lemma a request. -/
theorem requestsToTheNewelChangeTheFlightStates : Obligations.RequestsToTheNewelChangeTheFlightStates := by
  unfold Obligations.RequestsToTheNewelChangeTheFlightStates
  intro s f d
  exact ⟨fun _ ha hb hp hm hs => plannedSwitchover_accepted ha hb hp hm hs, fun after hm => plannedSwitchover_refused hm after,
    fun _ after hr => plannedSwitchover_role hr after, fun force hb hf ho _ => logicBistRequest_tests hb hf ho force,
    fun restore hf hs hw _ _ => quarantineSet_shows hf hs hw restore, quarantineRelease_resets,
    fun hf hr ht hc => repairRetry_tests (repairDue_of hf hr ht hc), fun _ hs ha hp => stairBulkDone_begins hs ha hp,
    fun _ us hs hf ha hp => stairFreezeDone_joins hs hf ha hp us, newelFault_stops s, newelResume_runs⟩

end Sys2Proof.Machine
end
